-- ==== Sys2Proof/Word.lean ====
section
/-!
DEFINITION. The word types of the part (R6: every register is one 64-bit word; R26: global addresses are 48 bits) and
the plainest arithmetic on them.
-/
namespace Sys2Proof

/-- One byte. -/
abbrev Byte := BitVec 8
/-- A 64-bit register, slice word or packet data word (R6). -/
abbrev Word := BitVec 64
/-- A 32-bit engine register (R36). -/
abbrev Word32 := BitVec 32
/-- A 48-bit global address (R26). -/
abbrev Addr := BitVec 48
/-- A 16-bit bundle address (R36). -/
abbrev BAddr := BitVec 16
/-- A 48-bit accumulator or vector index. -/
abbrev Word48 := BitVec 48
/-- The 10-bit master ID that every packet carries (R30). -/
abbrev MasterId := BitVec 10

/-- A Bool as the number 0 or 1. -/
def bit (b : Bool) : Nat := if b then 1 else 0

/-- Addition that stops at a largest value, as the part's saturating counters do. -/
def satAdd (max a b : Nat) : Nat := if a + b ≤ max then a + b else max

/-- The smallest multiple of m that is at least n. -/
def roundUp (m n : Nat) : Nat := if m = 0 then n else (n + (m - 1)) / m * m

/-- Exclusive-or of the bits of a vector. -/
def parity {w : Nat} (v : BitVec w) : Bool := (List.range w).foldl (fun acc i => xor acc (v.getLsbD i)) false

/-- One bit as a one-bit vector. -/
def bitv (b : Bool) : BitVec 1 := if b then 1#1 else 0#1

end Sys2Proof
end

