-- ==== Sys2Proof/Machine/Tab.lean ====
section
/-!
DEFINITION. Sparse tables: a list of key and value pairs in ONE canonical form (keys strictly rising, no entry equal to
what an unlisted key reads as). Memories, register files and the part's replicated units are held this way, so equal
contents are equal data.
-/
namespace Sys2Proof.Machine

/-- A table from natural-number keys to values. An unlisted key reads as the default its reader names. -/
structure Tab (α : Type) where
  cells : List (Nat × α) := []
  deriving DecidableEq, Repr

/-- The value at a key in a list of cells. -/
def lookupCell {α : Type} (d : α) (k : Nat) : List (Nat × α) → α
  | [] => d
  | (k', v) :: t => if k' = k then v else lookupCell d k t

/-- Remove every cell of a key. -/
def eraseCell {α : Type} (k : Nat) : List (Nat × α) → List (Nat × α)
  | [] => []
  | (k', v) :: t => if k' = k then eraseCell k t else (k', v) :: eraseCell k t

/-- Insert a cell before the first larger key, replacing a cell of the same key. -/
def insertCell {α : Type} (k : Nat) (v : α) : List (Nat × α) → List (Nat × α)
  | [] => [(k, v)]
  | (k', v') :: t =>
    if k < k' then (k, v) :: (k', v') :: t
    else if k' = k then (k, v) :: t
    else (k', v') :: insertCell k v t

/-- The value of a key; d where the key is not listed. -/
def Tab.get {α : Type} (t : Tab α) (k : Nat) (d : α) : α := lookupCell d k t.cells

/-- Write a key. Writing what an unlisted key reads as removes the entry. -/
def Tab.set {α : Type} [DecidableEq α] (t : Tab α) (k : Nat) (v d : α) : Tab α :=
  ⟨if v = d then eraseCell k t.cells else insertCell k v t.cells⟩

/-- Remove every entry whose key satisfies p: those keys read as the default again. -/
def Tab.clear {α : Type} (t : Tab α) (p : Nat → Bool) : Tab α := ⟨t.cells.filter (fun c => !(p c.1))⟩

/-- The keys of lo to hi - 1 take their values from src; every other key keeps its own. -/
def Tab.merge {α : Type} (t src : Tab α) (lo hi : Nat) : Tab α :=
  ⟨t.cells.filter (fun c => c.1 < lo) ++ src.cells.filter (fun c => lo ≤ c.1 && c.1 < hi) ++
    t.cells.filter (fun c => hi ≤ c.1)⟩

/-- Keys strictly rising. -/
def cellsRising {α : Type} : List (Nat × α) → Bool
  | [] => true
  | [_] => true
  | (a, _) :: (b, w) :: t => a < b && cellsRising ((b, w) :: t)

/-- The canonical form of a table whose unlisted keys read as d. -/
def Tab.wf {α : Type} [DecidableEq α] (d : α) (t : Tab α) : Bool :=
  cellsRising t.cells && t.cells.all (fun c => c.2 ≠ d)

end Sys2Proof.Machine
end

