-- ==== Sys2Proof/Machine/Events.lean ====
section
/-!
DEFINITION. The types that commands carry beside words and numbers: completion statuses, comparator edges, link frames, the
inputs of an arithmetic slice, equaliser taps and kinds of core access.
-/
namespace Sys2Proof.Machine

/-- The completion statuses of packets and accesses (R264, R278). -/
inductive Status where
  | ok | eaddr | enarrow | edeny | easleep | edead | epoison | einteg | ecoll
  deriving DecidableEq, Repr

/-- The inputs that an arithmetic slice captures (R220). -/
structure ArithIn where
  a0 : BitVec 24 := 0
  a1 : BitVec 24 := 0
  a2 : BitVec 24 := 0
  a3 : BitVec 24 := 0
  b : BitVec 18 := 0
  c : Word := 0
  op : BitVec 2 := 0
  rst : Bool := false
  deriving DecidableEq, Repr

/-- An edge of a comparator ball as the TDC sees it (R128, R190): of PCMPL or of PCMPH, the level after it, and its coarse count
and fine code. -/
structure CompEdge where
  low : Bool
  level : Bool
  k : Nat
  f : BitVec 12
  deriving DecidableEq, Repr

/-- A frame as it stands on the link (R361, R362). -/
structure Frame where
  cls : Nat := 0                           -- 0 BREQ, 1 BRSP, 2 RT
  enc : Bool := false
  epoch : Byte := 0
  side : BitVec 128 := 0
  blocks : List (BitVec 256) := []
  tag : BitVec 128 := 0
  seq : BitVec 12 := 0
  crc : BitVec 32 := 0
  deriving DecidableEq, Repr

/-- The taps of a transmitter (R340). -/
inductive Tap where
  | pre | main | post
  deriving DecidableEq, Repr

/-- What an uncacheable access of a core is. -/
inductive CoreAccess where
  | load | store | amoAdd | amoSwap | other | fetch
  deriving DecidableEq, Repr

end Sys2Proof.Machine
end

