-- ==== Sys2Proof/Machine/Operands.lean ====
section
/-!
DEFINITION. The slots of a comet bundle (R83 to R99): each slot's operations with their operand fields, the decoding of a
slot's bits (none where R84 makes it illegal), the encoding of an operation, and the operand values of R57, R60, R62 and
R94.
-/
namespace Sys2Proof.Machine

/-- FLOW operations (R86). -/
inductive FlowOp where
  | nop
  | jmp (t : BAddr)
  | br (kind val : Bool) (idx : BitVec 3) (t : BAddr)
  | call (t : BAddr)
  | ret
  | halt
  | enta
  | loopi (c : BitVec 11) (e : BAddr)
  | loopl (k : BitVec 3) (e : BAddr)
  | popl
  | setl (k : BitVec 3) (v : BitVec 24)
  | clrf (m : Byte)
  | sync
  | savel (k : BitVec 3)
  | restl (k : BitVec 3)
  | reti
  deriving DecidableEq, Repr

/-- AGEN operations (R90). The memory field of AOUT: 0 none, 1 load, 2 store. -/
inductive AgenOp where
  | nop
  | aout (k j : BitVec 3) (p : Bool) (m : BitVec 2) (n : BitVec 4)
  | seta (k : BitVec 3) (x : Bool) (imm : BitVec 16)
  | seto (k : BitVec 3) (x : Bool) (imm : BitVec 16)
  | setm (k : BitVec 3) (x : Bool) (imm : BitVec 16)
  | movd (tr : BitVec 2) (k : BitVec 3) (n : BitVec 4)
  | adva (k j : BitVec 3)
  | cmpa (k n : BitVec 3) (cc : BitVec 2) (s : Bool) (imm : BitVec 11)
  | adda (k : BitVec 3) (imm : BitVec 17)
  deriving DecidableEq, Repr

/-- The common fields of a DGEN operation (R93): write DO, write d[DST], DST. -/
structure DDest where
  wo : Bool
  wr : Bool
  dst : BitVec 4
  deriving DecidableEq, Repr

/-- DGEN operations (R93). -/
inductive DgenOp where
  | nop
  | mov (w : DDest) (sa : BitVec 4)
  | not (w : DDest) (sa : BitVec 4)
  | and (w : DDest) (sa sb : BitVec 4)
  | or (w : DDest) (sa sb : BitVec 4)
  | xor (w : DDest) (sa sb : BitVec 4)
  | add (w : DDest) (sa sb : BitVec 4)
  | sub (w : DDest) (sa sb : BitVec 4)
  | shl (w : DDest) (sa : BitVec 4) (sh : BitVec 6)
  | shr (w : DDest) (sa : BitVec 4) (sh : BitVec 6)
  | rol (w : DDest) (sa : BitVec 4) (sh : BitVec 6)
  | ldi (w : DDest) (imm : BitVec 13)
  | cat (w : DDest) (imm : BitVec 13)
  | topo (w : DDest) (sa sb : BitVec 4)
  | movao (w : DDest)
  | padv (w : DDest) (g : BitVec 2) (n : BitVec 7)
  | pxor (w : DDest) (sa : BitVec 4) (g : BitVec 2)
  | pseed (w : DDest) (sa : BitVec 4) (g : BitVec 2)
  | unpk (w : DDest) (sa : BitVec 4) (wd : Bool) (q : BitVec 2)
  | cmpd (sa sb : BitVec 4) (n : BitVec 3) (cc : BitVec 2)
  deriving DecidableEq, Repr

/-- MAC operations (R96). -/
inductive MacOp where
  | nop
  | macc (mask : BitVec 4) (mode : BitVec 2) (j : BitVec 3) (k : BitVec 4) (ce : Bool) (n rf : BitVec 3)
  | msub (mask : BitVec 4) (mode : BitVec 2) (j : BitVec 3) (k : BitVec 4) (ce : Bool) (n rf : BitVec 3)
  | maci (mask : BitVec 4) (mode : BitVec 2) (j : BitVec 3) (imm : BitVec 11)
  | msbi (mask : BitVec 4) (mode : BitVec 2) (j : BitVec 3) (imm : BitVec 11)
  | mclr (mask : BitVec 4)
  | mlda (mask : BitVec 4) (sa : BitVec 4)
  | mmov (k : BitVec 2) (s : Bool) (dst : BitVec 4)
  | mcmp (k : BitVec 2) (n : BitVec 3) (cc : BitVec 2) (s : Bool) (sa : BitVec 4)
  deriving DecidableEq, Repr

/-- The PIN slot (R99): pin codes of pins 3 to 0 in [15:0], timing set, vector mode. -/
structure PinOp where
  codes : BitVec 16
  ts : BitVec 6
  mode : BitVec 2
  deriving DecidableEq, Repr

/-! ### What makes a slot illegal by its values (R86, R90, R93, R96) -/

/-- A flag index that a compare can name: f0 to f5 (R92). -/
def cmpFlagOk (n : BitVec 3) : Bool := n.toNat < 6

/-- R90: the AGEN values that are not invalid. -/
def AgenOp.ok : AgenOp → Bool
  | .aout _ _ _ m _ => m != 3
  | .movd tr _ _ => tr != 3
  | .cmpa _ n _ s imm => cmpFlagOk n && (s || imm == 0)
  | _ => true

/-- R93: the DGEN values that are not invalid. -/
def DgenOp.ok : DgenOp → Bool
  | .padv _ _ n => n.toNat ≤ 64
  | .unpk _ _ wd q => wd || q.toNat ≤ 1
  | .cmpd _ _ n _ => cmpFlagOk n
  | _ => true

/-- R96: the MAC values that are not invalid. -/
def maccOk (mask : BitVec 4) (ce : Bool) (n rf : BitVec 3) : Bool :=
  if ce then cmpFlagOk n && mask != 0 else n == 0 && rf == 0

/-- R96: the MAC values that are not invalid. -/
def MacOp.ok : MacOp → Bool
  | .macc mask _ _ _ ce n rf => maccOk mask ce n rf
  | .msub mask _ _ _ ce n rf => maccOk mask ce n rf
  | .mcmp _ n _ _ _ => cmpFlagOk n
  | _ => true

/-- R99: vector mode 0b11 is invalid. -/
def PinOp.ok (p : PinOp) : Bool := p.mode != 3

/-! ### Encoding -/

/-- R86: the bits of a FLOW operation. -/
def encodeFlow : FlowOp → BitVec 32
  | .nop => 0x00#5 ++ 0#27
  | .jmp t => 0x01#5 ++ (0#11 ++ t)
  | .br kind val idx t => 0x02#5 ++ (0#6 ++ (bitv kind ++ (bitv val ++ (idx ++ t))))
  | .call t => 0x03#5 ++ (0#11 ++ t)
  | .ret => 0x04#5 ++ 0#27
  | .halt => 0x05#5 ++ 0#27
  | .enta => 0x06#5 ++ 0#27
  | .loopi c e => 0x07#5 ++ (c ++ e)
  | .loopl k e => 0x08#5 ++ (0#8 ++ (k ++ e))
  | .popl => 0x09#5 ++ 0#27
  | .setl k v => 0x0A#5 ++ (k ++ v)
  | .clrf m => 0x0B#5 ++ (0#19 ++ m)
  | .sync => 0x0C#5 ++ 0#27
  | .savel k => 0x0D#5 ++ (0#24 ++ k)
  | .restl k => 0x0E#5 ++ (0#24 ++ k)
  | .reti => 0x0F#5 ++ 0#27

/-- R90: the bits of an AGEN operation. -/
def encodeAgen : AgenOp → BitVec 24
  | .nop => 0#24
  | .aout k j p m n => 0x1#4 ++ (k ++ (j ++ (bitv p ++ (m ++ (n ++ 0#7)))))
  | .seta k x imm => 0x2#4 ++ (k ++ (bitv x ++ imm))
  | .seto k x imm => 0x3#4 ++ (k ++ (bitv x ++ imm))
  | .setm k x imm => 0x4#4 ++ (k ++ (bitv x ++ imm))
  | .movd tr k n => 0x5#4 ++ (tr ++ (k ++ (n ++ 0#11)))
  | .adva k j => 0x6#4 ++ (k ++ (j ++ 0#14))
  | .cmpa k n cc s imm => 0x7#4 ++ (k ++ (n ++ (cc ++ (bitv s ++ imm))))
  | .adda k imm => 0x8#4 ++ (k ++ imm)

/-- R93: a DGEN slot with its common fields, SA and the nine operation bits. -/
def dgenBits (op : BitVec 5) (w : DDest) (sa : BitVec 4) (rest : BitVec 9) : BitVec 24 :=
  op ++ (bitv w.wo ++ (bitv w.wr ++ (w.dst ++ (sa ++ rest))))

/-- R93: the bits of a DGEN operation. -/
def encodeDgen : DgenOp → BitVec 24
  | .nop => 0#24
  | .mov w sa => dgenBits 0x01 w sa 0
  | .not w sa => dgenBits 0x02 w sa 0
  | .and w sa sb => dgenBits 0x03 w sa (sb ++ 0#5)
  | .or w sa sb => dgenBits 0x04 w sa (sb ++ 0#5)
  | .xor w sa sb => dgenBits 0x05 w sa (sb ++ 0#5)
  | .add w sa sb => dgenBits 0x06 w sa (sb ++ 0#5)
  | .sub w sa sb => dgenBits 0x07 w sa (sb ++ 0#5)
  | .shl w sa sh => dgenBits 0x08 w sa (sh ++ 0#3)
  | .shr w sa sh => dgenBits 0x09 w sa (sh ++ 0#3)
  | .rol w sa sh => dgenBits 0x0A w sa (sh ++ 0#3)
  | .ldi w imm => dgenBits 0x0B w (imm.extractLsb' 9 4) (imm.extractLsb' 0 9)
  | .cat w imm => dgenBits 0x0C w (imm.extractLsb' 9 4) (imm.extractLsb' 0 9)
  | .topo w sa sb => dgenBits 0x0D w sa (sb ++ 0#5)
  | .movao w => dgenBits 0x0E w 0 0
  | .padv w g n => dgenBits 0x0F w 0 (g ++ n)
  | .pxor w sa g => dgenBits 0x10 w sa (g ++ 0#7)
  | .pseed w sa g => dgenBits 0x11 w sa (g ++ 0#7)
  | .unpk w sa wd q => dgenBits 0x12 w sa (bitv wd ++ (q ++ 0#6))
  | .cmpd sa sb n cc => dgenBits 0x13 ⟨false, false, 0⟩ sa (sb ++ (n ++ cc))

/-- R96: the bits of a MAC operation. -/
def encodeMac : MacOp → BitVec 24
  | .nop => 0#24
  | .macc mask mode j k ce n rf => 0x1#4 ++ (mask ++ (mode ++ (j ++ (k ++ (bitv ce ++ (n ++ rf))))))
  | .msub mask mode j k ce n rf => 0x2#4 ++ (mask ++ (mode ++ (j ++ (k ++ (bitv ce ++ (n ++ rf))))))
  | .maci mask mode j imm => 0x3#4 ++ (mask ++ (mode ++ (j ++ imm)))
  | .msbi mask mode j imm => 0x4#4 ++ (mask ++ (mode ++ (j ++ imm)))
  | .mclr mask => 0x5#4 ++ (mask ++ 0#16)
  | .mlda mask sa => 0x6#4 ++ (mask ++ (sa ++ 0#12))
  | .mmov k s dst => 0x7#4 ++ (k ++ (bitv s ++ (dst ++ 0#13)))
  | .mcmp k n cc s sa => 0x8#4 ++ (k ++ (n ++ (cc ++ (bitv s ++ (sa ++ 0#8)))))

/-- R99: the bits of a PIN slot. -/
def encodePin (p : PinOp) : BitVec 24 := p.codes ++ (p.ts ++ p.mode)

/-! ### Decoding (R84: none is an illegal slot) -/

/-- A field of a slot: w bits from bit lo. -/
def sl {n : Nat} (b : BitVec n) (lo w : Nat) : BitVec w := b.extractLsb' lo w

/-- One bit of a slot. -/
def sb {n : Nat} (b : BitVec n) (i : Nat) : Bool := b.getLsbD i

/-- x where a condition holds, else none. -/
def onlyIf {α : Type} (c : Bool) (x : α) : Option α := if c then some x else none

/-- R86: decode a FLOW slot. -/
def decodeFlow (b : BitVec 32) : Option FlowOp :=
  match (sl b 27 5).toNat with
  | 0x00 => onlyIf (sl b 0 27 == 0) .nop
  | 0x01 => onlyIf (sl b 16 11 == 0) (.jmp (sl b 0 16))
  | 0x02 => onlyIf (sl b 21 6 == 0) (.br (sb b 20) (sb b 19) (sl b 16 3) (sl b 0 16))
  | 0x03 => onlyIf (sl b 16 11 == 0) (.call (sl b 0 16))
  | 0x04 => onlyIf (sl b 0 27 == 0) .ret
  | 0x05 => onlyIf (sl b 0 27 == 0) .halt
  | 0x06 => onlyIf (sl b 0 27 == 0) .enta
  | 0x07 => some (.loopi (sl b 16 11) (sl b 0 16))
  | 0x08 => onlyIf (sl b 19 8 == 0) (.loopl (sl b 16 3) (sl b 0 16))
  | 0x09 => onlyIf (sl b 0 27 == 0) .popl
  | 0x0A => some (.setl (sl b 24 3) (sl b 0 24))
  | 0x0B => onlyIf (sl b 8 19 == 0) (.clrf (sl b 0 8))
  | 0x0C => onlyIf (sl b 0 27 == 0) .sync
  | 0x0D => onlyIf (sl b 3 24 == 0) (.savel (sl b 0 3))
  | 0x0E => onlyIf (sl b 3 24 == 0) (.restl (sl b 0 3))
  | 0x0F => onlyIf (sl b 0 27 == 0) .reti
  | _ => none

/-- An operation that passes its own value checks. -/
def okOnly {α : Type} (ok : α → Bool) (o : Option α) : Option α := o.filter ok

/-- R90: decode an AGEN slot. -/
def decodeAgen (b : BitVec 24) : Option AgenOp :=
  okOnly AgenOp.ok <|
  match (sl b 20 4).toNat with
  | 0x0 => onlyIf (sl b 0 20 == 0) .nop
  | 0x1 => onlyIf (sl b 0 7 == 0) (.aout (sl b 17 3) (sl b 14 3) (sb b 13) (sl b 11 2) (sl b 7 4))
  | 0x2 => some (.seta (sl b 17 3) (sb b 16) (sl b 0 16))
  | 0x3 => some (.seto (sl b 17 3) (sb b 16) (sl b 0 16))
  | 0x4 => some (.setm (sl b 17 3) (sb b 16) (sl b 0 16))
  | 0x5 => onlyIf (sl b 0 11 == 0) (.movd (sl b 18 2) (sl b 15 3) (sl b 11 4))
  | 0x6 => onlyIf (sl b 0 14 == 0) (.adva (sl b 17 3) (sl b 14 3))
  | 0x7 => some (.cmpa (sl b 17 3) (sl b 14 3) (sl b 12 2) (sb b 11) (sl b 0 11))
  | 0x8 => some (.adda (sl b 17 3) (sl b 0 17))
  | _ => none

/-- R93: decode a DGEN slot. -/
def decodeDgen (b : BitVec 24) : Option DgenOp :=
  let w : DDest := ⟨sb b 18, sb b 17, sl b 13 4⟩
  let sa : BitVec 4 := sl b 9 4
  let rb : BitVec 4 := sl b 5 4
  okOnly DgenOp.ok <|
  match (sl b 19 5).toNat with
  | 0x00 => onlyIf (sl b 0 19 == 0) .nop
  | 0x01 => onlyIf (sl b 0 9 == 0) (.mov w sa)
  | 0x02 => onlyIf (sl b 0 9 == 0) (.not w sa)
  | 0x03 => onlyIf (sl b 0 5 == 0) (.and w sa rb)
  | 0x04 => onlyIf (sl b 0 5 == 0) (.or w sa rb)
  | 0x05 => onlyIf (sl b 0 5 == 0) (.xor w sa rb)
  | 0x06 => onlyIf (sl b 0 5 == 0) (.add w sa rb)
  | 0x07 => onlyIf (sl b 0 5 == 0) (.sub w sa rb)
  | 0x08 => onlyIf (sl b 0 3 == 0) (.shl w sa (sl b 3 6))
  | 0x09 => onlyIf (sl b 0 3 == 0) (.shr w sa (sl b 3 6))
  | 0x0A => onlyIf (sl b 0 3 == 0) (.rol w sa (sl b 3 6))
  | 0x0B => some (.ldi w (sl b 0 13))
  | 0x0C => some (.cat w (sl b 0 13))
  | 0x0D => onlyIf (sl b 0 5 == 0) (.topo w sa rb)
  | 0x0E => onlyIf (sl b 0 13 == 0) (.movao w)
  | 0x0F => onlyIf (sa == 0) (.padv w (sl b 7 2) (sl b 0 7))
  | 0x10 => onlyIf (sl b 0 7 == 0) (.pxor w sa (sl b 7 2))
  | 0x11 => onlyIf (sl b 0 7 == 0) (.pseed w sa (sl b 7 2))
  | 0x12 => onlyIf (sl b 0 6 == 0) (.unpk w sa (sb b 8) (sl b 6 2))
  | 0x13 => onlyIf (sl b 13 6 == 0) (.cmpd sa rb (sl b 2 3) (sl b 0 2))
  | _ => none

/-- R96: decode a MAC slot. -/
def decodeMac (b : BitVec 24) : Option MacOp :=
  okOnly MacOp.ok <|
  match (sl b 20 4).toNat with
  | 0x0 => onlyIf (sl b 0 20 == 0) .nop
  | 0x1 => some (.macc (sl b 16 4) (sl b 14 2) (sl b 11 3) (sl b 7 4) (sb b 6) (sl b 3 3) (sl b 0 3))
  | 0x2 => some (.msub (sl b 16 4) (sl b 14 2) (sl b 11 3) (sl b 7 4) (sb b 6) (sl b 3 3) (sl b 0 3))
  | 0x3 => some (.maci (sl b 16 4) (sl b 14 2) (sl b 11 3) (sl b 0 11))
  | 0x4 => some (.msbi (sl b 16 4) (sl b 14 2) (sl b 11 3) (sl b 0 11))
  | 0x5 => onlyIf (sl b 0 16 == 0) (.mclr (sl b 16 4))
  | 0x6 => onlyIf (sl b 0 12 == 0) (.mlda (sl b 16 4) (sl b 12 4))
  | 0x7 => onlyIf (sl b 0 13 == 0) (.mmov (sl b 18 2) (sb b 17) (sl b 13 4))
  | 0x8 => onlyIf (sl b 0 8 == 0) (.mcmp (sl b 18 2) (sl b 15 3) (sl b 13 2) (sb b 12) (sl b 8 4))
  | _ => none

/-- R99: decode a PIN slot (pin codes 0xE and 0xF are a fault of their own at S6, R65). -/
def decodePin (b : BitVec 24) : Option PinOp :=
  okOnly PinOp.ok (some ⟨sl b 8 16, sl b 2 6, sl b 0 2⟩)

/-- The slots of a bundle (R83). -/
def flowBits (b : BitVec 128) : BitVec 32 := b.extractLsb' 96 32
def agenBits (b : BitVec 128) : BitVec 24 := b.extractLsb' 72 24
def dgenSlotBits (b : BitVec 128) : BitVec 24 := b.extractLsb' 48 24
def macBits (b : BitVec 128) : BitVec 24 := b.extractLsb' 24 24
def pinBits (b : BitVec 128) : BitVec 24 := b.extractLsb' 0 24

/-- R83: a bundle from its five operations. -/
def encodeBundle (f : FlowOp) (a : AgenOp) (d : DgenOp) (m : MacOp) (p : PinOp) : BitVec 128 :=
  encodeFlow f ++ (encodeAgen a ++ (encodeDgen d ++ (encodeMac m ++ encodePin p)))

/-- R99: the code of engine pin k. -/
def pinCode (codes : BitVec 16) (k : Nat) : BitVec 4 := codes.extractLsb' (4 * k) 4

/-! ### Operand values -/

/-- R57: the address that leaves the scrambler, given the tables (as functions of a group value), the groups they replace
where enabled, and whether this register is scrambled. -/
def scramble (on : Bool) (xg yg : Option Nat) (x y : Nat → BitVec 6) (v : Word32) : Word32 :=
  if !on then v else
    (List.range 5).foldl (fun acc g =>
      let grp : BitVec 6 := v.extractLsb' (6 * g) 6
      let n := if xg = some g then x grp.toNat else if yg = some g then y grp.toNat else grp
      acc ||| (n.setWidth 32 <<< (6 * g))) (v &&& 0xC0000000#32)

/-- R55, R56: post-modification of an address register by an offset under a limit. -/
def postModify (a o m : Word32) : Word32 :=
  let sum : Int := a.toNat + o.toInt
  let lim : Int := m.toNat
  let r := if m = 0 then sum else if sum ≥ lim then sum - lim else if sum < 0 then sum + lim else sum
  BitVec.ofInt 32 r

/-- R91: the 32-bit value of a SETA, SETO or SETM immediate. -/
def immSet (x : Bool) (imm : BitVec 16) : Word32 := if x then imm.signExtend 32 else imm.setWidth 32

/-- R60: state widths of the PRBS generators. -/
def prbsWidth (g : Nat) : Nat := match g with | 0 => 7 | 1 => 15 | 2 => 23 | _ => 31

/-- R60: the two taps of each generator's new bit. -/
def prbsTaps (g : Nat) : Nat × Nat := match g with | 0 => (6, 5) | 1 => (14, 13) | 2 => (22, 17) | _ => (30, 27)

/-- R37, R60: a generator's state of all ones. -/
def prbsOnes (g : Nat) : BitVec 31 := BitVec.ofNat 31 (2 ^ prbsWidth g - 1)

/-- R60: n steps of a generator: its state and the bits generated, the first in bit 0. -/
def prbsRun (g : Nat) : Nat → BitVec 31 → BitVec 31 × Word
  | 0, s => (s, 0)
  | n + 1, s =>
    let t := prbsTaps g
    let b := xor (s.getLsbD t.1) (s.getLsbD t.2)
    let s' : BitVec 31 := BitVec.ofNat 31 ((s.toNat * 2 + bit b) % 2 ^ prbsWidth g)
    let r := prbsRun g n s'
    (r.1, (r.2 <<< 1) ||| (BitVec.ofNat 64 (bit b)))

/-- R60: advance a generator by n bits: its new state and output word. -/
def prbsAdvance (g n : Nat) (s : BitVec 31) (pw : Word) : BitVec 31 × Word :=
  let r := prbsRun g n s
  (r.1, if n = 0 then pw else (pw <<< n) ||| r.2)

/-- R60, R94: a generator's state after a write of a value. -/
def prbsSeed (g : Nat) (v : Word) : BitVec 31 :=
  let w : BitVec 31 := BitVec.ofNat 31 (v.toNat % 2 ^ prbsWidth g)
  if w = 0 then prbsOnes g else w

/-- R94: UNPK's two lanes in 24-bit fields. -/
def unpack (v : Word) (wd : Bool) (q : Nat) : Word :=
  let w := if wd then 8 else 16
  let lo := (v.toNat / 2 ^ (2 * w * q)) % 2 ^ w
  let hi := (v.toNat / 2 ^ (2 * w * q + w)) % 2 ^ w
  BitVec.ofNat 64 (hi * 2 ^ 24 + lo)

/-- R62: multiplier input A_k of the pair d[2J], d[2J + 1]. -/
def macA (lo hi : Word) (k : Nat) : BitVec 24 :=
  match k with
  | 0 => lo.extractLsb' 0 24
  | 1 => lo.extractLsb' 24 24
  | 2 => hi.extractLsb' 0 24
  | _ => hi.extractLsb' 24 24

/-- R62, R63, R97: the new value of an accumulator and whether it was clamped. -/
def macAccum (sub signed sat : Bool) (acc : Word48) (a : BitVec 24) (b : BitVec 18) : Word48 × Bool :=
  let p : Int := if signed then a.toInt * b.toInt else (a.toNat : Int) * b.toNat
  let base : Int := if signed then acc.toInt else acc.toNat
  let v := if sub then base - p else base + p
  let lo : Int := if signed then -(2 ^ 47) else 0
  let hi : Int := if signed then 2 ^ 47 - 1 else 2 ^ 48 - 1
  if sat && v < lo then (BitVec.ofInt 48 lo, true)
  else if sat && hi < v then (BitVec.ofInt 48 hi, true)
  else (BitVec.ofInt 48 v, false)

end Sys2Proof.Machine
end

