-- ==== Sys2Proof/Syntax.lean ====
section
/-!
DEFINITION. The commands: one constructor per row of spec/opcode_table.json, in the table's order. The table gives its rows no
operands; those here are the model's (log entry 48): the unit, the master that acts, and what comes from outside this model.
-/
namespace Sys2Proof

open Sys2Proof.Machine

/-- A command. -/
inductive Instr where
  /-- REGISTER_WRITE, R7: A write to a control-space register that has no row of its own updates its fields by access type. -/
  | registerWrite (mid : MasterId) (bus : Option (Fin 14)) (a : Addr) (v : Word)
  /-- RC_READ, R7: A read of an RC field returns its value and clears it; an inspect read does not clear it. -/
  | rcRead (mid : MasterId) (bus : Option (Fin 14)) (a : Addr)
  /-- RD, R265: A read request packet is routed to its target, checked, and answered with RDRSP. -/
  | rd (mid : MasterId) (tag : Byte) (a : Addr) (len : BitVec 7) (part : Bool) (same : Bool) (rt : Bool)
  /-- WR, R265: A write request packet is performed word by word at its target and answered with WRRSP. -/
  | wr (mid : MasterId) (tag : Byte) (a : Addr) (ws : List (Word × Bool)) (part : Bool) (same : Bool) (rt : Bool)
  /-- ADD64, R164: An atomic 64-bit add on one code word returns the old value. -/
  | add64 (mid : MasterId) (tag : Byte) (a : Addr) (op : Word) (poison : Bool) (len : BitVec 7) (part : Bool) (same : Bool) (rt : Bool)
  /-- ADD16S, R164: An atomic saturating add of four 16-bit lanes returns the old value. -/
  | add16s (mid : MasterId) (tag : Byte) (a : Addr) (op : Word) (poison : Bool) (len : BitVec 7) (part : Bool) (same : Bool) (rt : Bool)
  /-- ADD8S, R164: An atomic saturating add of eight 8-bit lanes returns the old value. -/
  | add8s (mid : MasterId) (tag : Byte) (a : Addr) (op : Word) (poison : Bool) (len : BitVec 7) (part : Bool) (same : Bool) (rt : Bool)
  /-- SWAP64, R164: An atomic swap writes OP and returns the old value. -/
  | swap64 (mid : MasterId) (tag : Byte) (a : Addr) (op : Word) (poison : Bool) (len : BitVec 7) (part : Bool) (same : Bool) (rt : Bool)
  /-- CAS64, R164: An atomic compare-and-swap writes OP only when the old value equals CMP. -/
  | cas64 (mid : MasterId) (tag : Byte) (a : Addr) (op : Word) (cmp : Word) (poison cmpPoison : Bool) (len : BitVec 7) (part : Bool) (same : Bool) (rt : Bool)
  /-- RDRSP, R265: A read response reaches the requester with its data, poison bits and status. -/
  | rdrsp (n : Nat)
  /-- WRRSP, R265: A write response reaches the requester with its status. -/
  | wrrsp (n : Nat)
  /-- ATRSP, R265: An atomic response reaches the requester with the old value and status. -/
  | atrsp (n : Nat)
  /-- PACKET_HOP, R269: A header at a router takes its next turn or exit, or is dropped with EDEAD for a missing or disabled port. -/
  | packetHop (f wait : Nat)
  /-- RESPONSE_TIMEOUT, R279: A request without a response within RTMO × 1,024 network cycles is answered locally with EDEAD. -/
  | responseTimeout (n : Nat)
  /-- RT_INJECT, R275: An RT request waiting in an NI is injected once a shaper token is available and outside the quiet slot. -/
  | rtInject (r : Fin 64) (p : Fin 8)
  /-- TOKEN_REFILL, R275: Every 16 network cycles an NI's RT token bucket gains one token up to 4. -/
  | tokenRefill (r : Fin 64) (p : Fin 8)
  /-- QUIET_SLOT, R276: At cycle 1,016 of each RT frame injection of RT packets stops and pending router commits take effect. -/
  | quietSlot
  /-- ARB_GRANT, R287: At a boundary the common arbiter chooses a new owner by wait limit, priority and round-robin. -/
  | arbGrant (ix : Fin 781) (req : Byte) (n : Nat) (units : Nat) (more : Nat) (pass : Bool)
  /-- ARB_HOLD_CUT, R287: An owner that exceeds its hold limit is cut and sets ARB_STATUS.CUT. -/
  | arbHoldCut (ix : Fin 781) (req : Byte) (n : Nat)
  /-- ARB_COMMIT, R288: A write of ARB_COMMIT.GO commits all ARB_CFG_r of the instance. -/
  | arbCommit (mid : MasterId) (ix : Fin 781)
  /-- NOC_COMMIT, R289: A write of NOC_COMMIT.GO schedules the router's settings and route tables for the quiet slot, checked against the west-first rules. -/
  | nocCommit (mid : MasterId) (r : Fin 64)
  /-- WAKE_RELEASE, R286: Traffic held under wake-on-access is released when the woken domain's NI reports ready. -/
  | wakeRelease (r : Fin 64) (p : Fin 8)
  /-- BBINV, R47: CE_CTRL.BBINV invalidates the engine's bundle buffer in IDLE. -/
  | bbinv (mid : MasterId) (e : Fin 256)
  /-- CLEAR, R67: CE_CTRL.CLEAR returns an engine from FAULT to IDLE and clears CE_FAULT, deferred to the drain end. -/
  | clear (mid : MasterId) (e : Fin 256)
  /-- ABORT, R69: CE_CTRL.ABORT faults the engine or its gang with cause ABORT. -/
  | abort (mid : MasterId) (e : Fin 256)
  /-- ANALYZE, R67: CE_CTRL.ANALYZE moves an idle engine to ANALYSIS at CE_PC.APC. -/
  | analyze (mid : MasterId) (e : Fin 256)
  /-- DISARM, R71: CE_CTRL.DISARM to a leader disarms an armed gang and cancels a pending start if it arrives before the wake. -/
  | disarm (mid : MasterId) (e : Fin 256)
  /-- ARM, R71: CE_CTRL.ARM to a leader arms the gang when every member is idle with matching size. -/
  | arm (mid : MasterId) (e : Fin 256)
  /-- CE_COMMIT, R81: A write of CE_COMMIT.GO commits the engine's RWS fields unless refused. -/
  | ceCommit (mid : MasterId) (e : Fin 256)
  /-- START_DOORBELL, R22: A start command written to a leader's START doorbell arms a pending start, resumes a paused gang, or is refused as late or unarmed. -/
  | startDoorbell (mid : MasterId) (e : Fin 256) (t : Word) (same : Bool)
  /-- IRQ_DOORBELL, R76: A write of the IRQ doorbell ORs request bits into CE_INT.PEND. -/
  | irqDoorbell (mid : MasterId) (e : Fin 256) (bits : Byte)
  /-- ENGINE_STATE_WRITE, R82: A write to the engine local-space state window updates a register when the engine is in IDLE or FAULT. -/
  | engineStateWrite (mid : MasterId) (e : Fin 256) (off : Fin 65) (v : Word) (poison : Bool)
  /-- GANG_WAKE, R72: 24 engine cycles before the start time the leader wakes its members and begins prefetch at SPC. -/
  | gangWake (e : Fin 256)
  /-- GANG_START, R72: At the rounded start time the gang's first vector leaves S6 and the gang leaves the armed state. -/
  | gangStart (e : Fin 256)
  /-- PIPELINE_STEP, R39: The engine pipeline advances one stage, running each stage's work and the loop-end check. -/
  | pipelineStep (e : Fin 256)
  /-- PREFETCH_RETURN, R44: Port A read data for a prefetch enters the prefetch queue, possibly as a failed entry. -/
  | prefetchReturn (e : Fin 256)
  /-- LOAD_RETURN, R41: A load's port A data writes its target data register and poison bit. -/
  | loadReturn (e : Fin 256)
  /-- GANG_FAULT, R73: The gang fault signal reaches a member, which enters FAULT with cause GANG. -/
  | gangFault (e : Fin 256)
  /-- SAFE_STATE, R126: After the last event of the vectors before the faulting bundle, every pin of the gang takes the safe state and the drain ends. -/
  | safeState (e : Fin 256)
  /-- PROGRAM_END, R54: After HALT or ENTA and its delay slot complete S6, the engine enters IDLE or analysis entry. -/
  | programEnd (e : Fin 256)
  /-- END_OF_PATTERN_STATE, R125: After the last vector period and the last event, every pin of the gang takes its end-of-pattern state. -/
  | endOfPatternState (e : Fin 256)
  /-- SYNC_RELEASE, R74: When every analysing member has reached SYNC, all release together 3 engine cycles after the last arrival. -/
  | syncRelease (e : Fin 256)
  /-- INTERRUPT_ENTRY, R77: The engine accepts the lowest pending request, drains, saves IPC and IFLAGS and fetches the handler. -/
  | interruptEntry (e : Fin 256)
  /-- RESTL_COMPLETE, R80: When all 10 saved words have arrived, RESTL checks and writes the loop and call state and refetches. -/
  | restlComplete (e : Fin 256)
  /-- FCU_PAUSE, R148: A fail-capture pause request takes effect at a step at least 8 engine cycles after the compare close. -/
  | fcuPause (e : Fin 256)
  /-- NOP, R86: FLOW no-operation. -/
  | nop (e : Fin 256) (ix : BAddr)
  /-- JMP, R87: Jump to T after the delay slot. -/
  | jmp (e : Fin 256) (ix : BAddr) (t : BAddr)
  /-- BR, R87: Conditional branch on a flag or loop counter after the delay slot. -/
  | br (e : Fin 256) (ix : BAddr) (kind : Bool) (val : Bool) (idx : BitVec 3) (t : BAddr)
  /-- CALL, R53: Push return address i + 2 and transfer to T, faulting CSTACK when full. -/
  | call (e : Fin 256) (ix : BAddr) (t : BAddr)
  /-- RET, R53: Pop the call stack and transfer to the top entry, faulting CSTACK when empty. -/
  | ret (e : Fin 256) (ix : BAddr)
  /-- HALT, R54: End the program after the delay slot. -/
  | halt (e : Fin 256) (ix : BAddr)
  /-- ENTA, R54: End stream mode like HALT and then enter analysis mode in each member. -/
  | enta (e : Fin 256) (ix : BAddr)
  /-- LOOPI, R50: Push a loop of immediate count C ending at E. -/
  | loopi (e : Fin 256) (ix : BAddr) (c : BitVec 11) (en : BAddr)
  /-- LOOPL, R50: Push a loop whose count is read from l[k]. -/
  | loopl (e : Fin 256) (ix : BAddr) (k : BitVec 3) (en : BAddr)
  /-- POPL, R52: Remove the innermost loop entry, faulting LSTACK when empty. -/
  | popl (e : Fin 256) (ix : BAddr)
  /-- SETL, R87: Set loop counter l[k] to V. -/
  | setl (e : Fin 256) (ix : BAddr) (k : BitVec 3) (v : BitVec 24)
  /-- CLRF, R87: Clear the flags selected by mask M. -/
  | clrf (e : Fin 256) (ix : BAddr) (m : Byte)
  /-- SYNC, R74: Gang barrier in analysis mode; no effect in stream mode. -/
  | sync (e : Fin 256) (ix : BAddr)
  /-- SAVEL, R80: Save the loop and call state as 10 words at a[k]. -/
  | savel (e : Fin 256) (ix : BAddr) (k : BitVec 3)
  /-- RESTL, R80: Start reading the loop and call state from 10 words at a[k]. -/
  | restl (e : Fin 256) (ix : BAddr) (k : BitVec 3)
  /-- RETI, R78: Return from an interrupt handler, restoring flags and IE and fetching at IPC. -/
  | reti (e : Fin 256) (ix : BAddr)
  /-- ANOP, R90: AGEN no-operation. -/
  | anop (e : Fin 256) (ix : BAddr)
  /-- AOUT, R91: Form AO from a scrambled address register, post-modify it, and optionally load or store. -/
  | aout (e : Fin 256) (ix : BAddr) (k : BitVec 3) (j : BitVec 3) (p : Bool) (m : BitVec 2) (n : BitVec 4)
  /-- SETA, R91: Load a[k] with an extended immediate. -/
  | seta (e : Fin 256) (ix : BAddr) (k : BitVec 3) (x : Bool) (imm : BitVec 16)
  /-- SETO, R91: Load o[k] with an extended immediate. -/
  | seto (e : Fin 256) (ix : BAddr) (k : BitVec 3) (x : Bool) (imm : BitVec 16)
  /-- SETM, R91: Load m[k] with an extended immediate. -/
  | setm (e : Fin 256) (ix : BAddr) (k : BitVec 3) (x : Bool) (imm : BitVec 16)
  /-- MOVD, R91: Move d[n][31:0] into an address, offset or limit register. -/
  | movd (e : Fin 256) (ix : BAddr) (tr : BitVec 2) (k : BitVec 3) (n : BitVec 4)
  /-- ADVA, R91: Post-modify a[k] by o[j] without changing AO. -/
  | adva (e : Fin 256) (ix : BAddr) (k : BitVec 3) (j : BitVec 3)
  /-- CMPA, R91: Compare a[k] unsigned with m[k] or an immediate into a flag. -/
  | cmpa (e : Fin 256) (ix : BAddr) (k : BitVec 3) (n : BitVec 3) (cc : BitVec 2) (imm2 : Bool) (imm : BitVec 11)
  /-- ADDA, R91: Add a sign-extended immediate to a[k] without wrap. -/
  | adda (e : Fin 256) (ix : BAddr) (k : BitVec 3) (imm : BitVec 17)
  /-- DNOP, R93: DGEN no-operation. -/
  | dnop (e : Fin 256) (ix : BAddr)
  /-- MOV, R94: DGEN result d[SA]. -/
  | mov (e : Fin 256) (ix : BAddr) (w : DDest) (sa : BitVec 4)
  /-- NOT, R94: DGEN result NOT d[SA]. -/
  | not (e : Fin 256) (ix : BAddr) (w : DDest) (sa : BitVec 4)
  /-- AND, R94: DGEN result d[SA] AND d[SB]. -/
  | and (e : Fin 256) (ix : BAddr) (w : DDest) (sa : BitVec 4) (sb : BitVec 4)
  /-- OR, R94: DGEN result d[SA] OR d[SB]. -/
  | or (e : Fin 256) (ix : BAddr) (w : DDest) (sa : BitVec 4) (sb : BitVec 4)
  /-- XOR, R94: DGEN result d[SA] XOR d[SB]. -/
  | xor (e : Fin 256) (ix : BAddr) (w : DDest) (sa : BitVec 4) (sb : BitVec 4)
  /-- ADD, R94: DGEN result d[SA] + d[SB] modulo 2^64. -/
  | add (e : Fin 256) (ix : BAddr) (w : DDest) (sa : BitVec 4) (sb : BitVec 4)
  /-- SUB, R94: DGEN result d[SA] − d[SB] modulo 2^64. -/
  | sub (e : Fin 256) (ix : BAddr) (w : DDest) (sa : BitVec 4) (sb : BitVec 4)
  /-- SHL, R94: DGEN result d[SA] shifted left by SH. -/
  | shl (e : Fin 256) (ix : BAddr) (w : DDest) (sa : BitVec 4) (sh : BitVec 6)
  /-- SHR, R94: DGEN result d[SA] shifted right by SH with zero fill. -/
  | shr (e : Fin 256) (ix : BAddr) (w : DDest) (sa : BitVec 4) (sh : BitVec 6)
  /-- ROL, R94: DGEN result d[SA] rotated left by SH. -/
  | rol (e : Fin 256) (ix : BAddr) (w : DDest) (sa : BitVec 4) (sh : BitVec 6)
  /-- LDI, R94: DGEN result a sign-extended 13-bit immediate. -/
  | ldi (e : Fin 256) (ix : BAddr) (w : DDest) (imm : BitVec 13)
  /-- CAT, R94: DGEN result d[DST] shifted left 13 ORed with an immediate. -/
  | cat (e : Fin 256) (ix : BAddr) (w : DDest) (imm : BitVec 13)
  /-- TOPO, R94: DGEN result d[SA] inverted when the parity of AO masked by d[SB] is 1. -/
  | topo (e : Fin 256) (ix : BAddr) (w : DDest) (sa : BitVec 4) (sb : BitVec 4)
  /-- MOVAO, R94: DGEN result AO zero-extended. -/
  | movao (e : Fin 256) (ix : BAddr) (w : DDest)
  /-- PADV, R60: Advance PRBS generator G by N bits and yield PW[G]. -/
  | padv (e : Fin 256) (ix : BAddr) (w : DDest) (g : BitVec 2) (n : BitVec 7)
  /-- PXOR, R94: DGEN result d[SA] XOR PW[G]. -/
  | pxor (e : Fin 256) (ix : BAddr) (w : DDest) (sa : BitVec 4) (g : BitVec 2)
  /-- PSEED, R94: Load PRBS generator G's state from d[SA]. -/
  | pseed (e : Fin 256) (ix : BAddr) (w : DDest) (sa : BitVec 4) (g : BitVec 2)
  /-- UNPK, R94: Unpack two 16-bit or 8-bit lanes into 24-bit fields. -/
  | unpk (e : Fin 256) (ix : BAddr) (w : DDest) (sa : BitVec 4) (wd : Bool) (q : BitVec 2)
  /-- CMPD, R94: Compare two data registers unsigned into a flag. -/
  | cmpd (e : Fin 256) (ix : BAddr) (sa : BitVec 4) (sb : BitVec 4) (n : BitVec 3) (cc : BitVec 2)
  /-- MNOP, R96: MAC no-operation. -/
  | mnop (e : Fin 256) (ix : BAddr)
  /-- MACC, R97: Multiply-accumulate with register operand B, optionally comparing. -/
  | macc (e : Fin 256) (ix : BAddr) (mask : BitVec 4) (mode : BitVec 2) (j : BitVec 3) (k : BitVec 4) (ce : Bool) (n : BitVec 3) (rf : BitVec 3)
  /-- MSUB, R97: Multiply-subtract with register operand B, optionally comparing. -/
  | msub (e : Fin 256) (ix : BAddr) (mask : BitVec 4) (mode : BitVec 2) (j : BitVec 3) (k : BitVec 4) (ce : Bool) (n : BitVec 3) (rf : BitVec 3)
  /-- MACI, R97: Multiply-accumulate with an immediate operand B. -/
  | maci (e : Fin 256) (ix : BAddr) (mask : BitVec 4) (mode : BitVec 2) (j : BitVec 3) (imm : BitVec 11)
  /-- MSBI, R97: Multiply-subtract with an immediate operand B. -/
  | msbi (e : Fin 256) (ix : BAddr) (mask : BitVec 4) (mode : BitVec 2) (j : BitVec 3) (imm : BitVec 11)
  /-- MCLR, R97: Clear the masked accumulators. -/
  | mclr (e : Fin 256) (ix : BAddr) (mask : BitVec 4)
  /-- MLDA, R97: Load the masked accumulators from d[SA][47:0]. -/
  | mlda (e : Fin 256) (ix : BAddr) (mask : BitVec 4) (sa : BitVec 4)
  /-- MMOV, R97: Move an extended accumulator into a data register. -/
  | mmov (e : Fin 256) (ix : BAddr) (k : BitVec 2) (sgn : Bool) (dst : BitVec 4)
  /-- MCMP, R97: Compare an accumulator with d[SA] into a flag. -/
  | mcmp (e : Fin 256) (ix : BAddr) (k : BitVec 2) (n : BitVec 3) (cc : BitVec 2) (sgn : Bool) (sa : BitVec 4)
  /-- NORMAL_VECTOR, R64: The PIN slot forms a normal vector that the timing generator accepts and places as events. -/
  | normalVector (e : Fin 256) (ix : BAddr) (codes : BitVec 16) (ts : BitVec 6)
  /-- PAUSE_VECTOR, R122: A pause vector is issued and the gang then pauses until resumed. -/
  | pauseVector (e : Fin 256) (ix : BAddr) (codes : BitVec 16) (ts : BitVec 6)
  /-- MARK_VECTOR, R99: A MARK vector is issued normally and asserts the engine's trigger to its fabric sector. -/
  | markVector (e : Fin 256) (ix : BAddr) (codes : BitVec 16) (ts : BitVec 6)
  /-- BALL_EVENT, R117: A placed drive or enable event takes effect at the ball at its effective time. -/
  | ballEvent (p : Fin 1024)
  /-- STROBE, R114: A strobe samples the comparators and yields pass or fail for its vector. -/
  | strobe (p : Fin 1024) (h : Bool) (l : Bool)
  /-- WINDOW_CLOSE, R115: A WC window closes and yields pass or fail from the comparator state over the window. -/
  | windowClose (p : Fin 1024) (h : Bool) (l : Bool) (changed : Bool) (inv : Bool)
  /-- EDGE_CAPTURE, R128: An EC window closes and its raw capture enters the cluster capture queue or is dropped. -/
  | edgeCapture (p : Fin 1024) (h : Bool) (l : Bool) (edges : List CompEdge)
  /-- TSET_COMMIT, R110: A write of TSET_COMMIT.GO commits all 64 timing sets unless a check fails. -/
  | tsetCommit (mid : MasterId) (e : Fin 256)
  /-- PIN_CFG_WRITE, R133: A PIN_CFG write sets OE, EOP, inversions and ECSRC unless refused. -/
  | pinCfgWrite (mid : MasterId) (p : Fin 1024) (v : Word)
  /-- COMPARE_CLOSE, R135: At vector k's compare close the FCU updates counters, forms records and accumulation entries and applies stops and policy. -/
  | compareClose (e : Fin 256)
  /-- FAIL_FLAG_SET, R49: At least 48 engine cycles after a failing strobe the FCU sets f7 and f6. -/
  | failFlagSet (e : Fin 256)
  /-- RECORD_WRITE, R143: The FCU writes the head fail record to its ring as an RT write when the ring has a free entry. -/
  | recordWrite (c : Fin 64) (same : Bool)
  /-- RECORD_WRITE_DONE, R144: A record write completes; OK advances WP, any other status drops the record. -/
  | recordWriteDone (c : Fin 64) (ix : Fin 4)
  /-- ACCUMULATION_UPDATE, R151: The FCU issues a queued bitmap or histogram update as a saturating atomic. -/
  | accumulationUpdate (c : Fin 64) (same : Bool)
  /-- ACCUMULATION_UPDATE_DONE, R152: An accumulation update completes, setting ACCSAT or counting it lost. -/
  | accumulationUpdateDone (c : Fin 64) (k : Nat)
  /-- FCU_COMMIT, R153: A write of FCU_COMMIT.GO commits the FCU's slot settings unless refused. -/
  | fcuCommit (mid : MasterId) (c : Fin 64)
  /-- FCU_CLR_SLOT, R139: FCU_CLR.SLOT clears a slot's gang counters. -/
  | fcuClrSlot (mid : MasterId) (c : Fin 64) (ix : Fin 4)
  /-- FCU_CLR_PIN, R139: FCU_CLR.PIN clears a pin's NFAIL and VALID. -/
  | fcuClrPin (mid : MasterId) (c : Fin 64) (j : Fin 16)
  /-- FCU_RRP_WRITE, R153: A write of FCU_RRP frees ring entries unless RP is out of range. -/
  | fcuRrpWrite (mid : MasterId) (c : Fin 64) (ix : Fin 4) (rp : BitVec 24)
  /-- BGT_STEP, R168: In an idle slice cycle the background test runs its next step on the current region. -/
  | bgtStep (n : Fin 256) (flips : BitVec 320)
  /-- BGT_WAIT_END, R168: After GAP idle slice cycles the background test starts SAVE of the next region. -/
  | bgtWaitEnd (n : Fin 256)
  /-- SLICE_FILL, R174: SLC_CTRL.FILL starts a zero fill of the slice unless refused. -/
  | sliceFill (mid : MasterId) (n : Fin 256)
  /-- SLICE_RETIRE, R175: A change of SLC_CTRL.RETIRE retires or restores the slice unless refused. -/
  | sliceRetire (mid : MasterId) (n : Fin 256) (on : Bool)
  /-- SLICE_FILL_COMPLETE, R173: A slice fill ends, setting FILLED and restarting service and the BGT. -/
  | sliceFillComplete (n : Fin 256)
  /-- SBK_WIPE, R178: SBK_CTRL.WIPE triggers a secure-bank wipe with CAUSE 4. -/
  | sbkWipe (mid : MasterId)
  /-- SBK_WIPE_COMPLETE, R178: A secure-bank wipe completes and the bank sets READY. -/
  | sbkWipeComplete
  /-- SMP_CLAIM, R199: A read of SMP_CLAIM claims a free mailbox slot for the reading master. -/
  | smpClaim (mid : MasterId)
  /-- SMP_REQUEST_GO, R199: A write of REQ.GO submits the slot's request and clears DONE. -/
  | smpRequestGo (mid : MasterId) (ix : Fin 16) (v : Word)
  /-- SMP_SLOT_RELEASE, R199: A write of REQ.REL frees the mailbox slot. -/
  | smpSlotRelease (mid : MasterId) (ix : Fin 16)
  /-- FLUSH, R200: SMP request that closes the filling result buffer. -/
  | flush (ix : Fin 16)
  /-- BUFFER_RELEASE, R200: SMP RELEASE request frees a signed result buffer. -/
  | bufferRelease (ix : Fin 16)
  /-- SETCLOSE, R200: SMP request that sets the block close timeout. -/
  | setclose (ix : Fin 16)
  /-- SELFCAL, R201: SMP request that starts ball-plane self-calibration of named clusters. -/
  | selfcal (ix : Fin 16)
  /-- DRIFTCAL, R202: SMP request that starts drift calibration of named clusters. -/
  | driftcal (ix : Fin 16)
  /-- CALSTAT, R200: SMP request that returns a cluster's calibration status. -/
  | calstat (ix : Fin 16)
  /-- CALIN_BEGIN, R200: SMP request that opens a calibration import. -/
  | calinBegin (ix : Fin 16)
  /-- CALIN_DATA, R200: SMP request that adds bytes to the open calibration import. -/
  | calinData (ix : Fin 16)
  /-- CALIN_END, R203: SMP request that verifies and installs the imported calibration with a seal step. -/
  | calinEnd (ix : Fin 16)
  /-- CALOUT, R200: SMP request that returns bytes of the current calibration set. -/
  | calout (ix : Fin 16)
  /-- SMP_ATTEST, R200: SMP ATTEST request returns seal, CALID, START and a partition-key signature. -/
  | smpAttest (ix : Fin 16)
  /-- IMAGEHASH, R200: SMP request that returns the SMP segment hash and active key hash. -/
  | imagehash (ix : Fin 16)
  /-- KEYROT, R200: SMP request that rotates the metrology key with a seal step. -/
  | keyrot (ix : Fin 16) (pub : BitVec 1056)
  /-- SELFCAL_COMPLETE, R201: Self-calibration of a cluster completes, replacing its tables, and the last one updates CALID. -/
  | selfcalComplete (c : Fin 64) (deskew : List (BitVec 16)) (lin : List (BitVec 16)) (base : List (BitVec 32))
  /-- DRIFTCAL_COMPLETE, R202: Drift calibration of the named clusters completes and CALID.MINOR increases. -/
  | driftcalComplete (rs : List (List (BitVec 32)))
  /-- OFFSET_LOAD, R187: Pending calibration offsets are written into a cluster once no engine of it streams or is armed. -/
  | offsetLoad (c : Fin 64)
  /-- CAPTURE_ACCEPT, R191: The SMP pipeline accepts a raw capture, converts it and writes a result entry. -/
  | captureAccept (c : Fin 64)
  /-- SETCLOSE_TIMEOUT, R194: The SETCLOSE timeout elapses and the filling buffer closes. -/
  | setcloseTimeout
  /-- BLOCK_SIGNED, R196: Signing of a block completes, the buffer becomes SIGNED and the interrupt is raised. -/
  | blockSigned
  /-- TRU_FAULT, R188: Loss or deviation of REFCLK_TIMING or root PLL lock sets TREF and makes every channel OOC. -/
  | truFault
  /-- TRU_RECOVERY, R188: After 10 ms of stable reference and a drift calibration, TREF and OOC clear. -/
  | truRecovery
  /-- SMP_POWER_ON, R204: The SMP domain powers on, holds and releases reset, and requests its segment. -/
  | smpPowerOn
  /-- SMP_SEGMENT_ARRIVAL, R204: After the segment arrives the SMP verifies it, loads firmware, derives its key, reads calibration and becomes READY. -/
  | smpSegmentArrival
  /-- SMP_WATCHDOG_EXPIRY, R183: The meter core watchdog expires and resets the SMP. -/
  | smpWatchdogExpiry
  /-- SECTOR65_SCRUB, R184: Every second the meter core scrubs the 65th sector and counts upsets. -/
  | sector65Scrub (n : Nat)
  /-- BM_READ, R218: A block-memory port read returns the old word, corrected or poisoned. -/
  | bmRead (n : Fin 10240) (ix : Fin 4096) (portB : Bool) (same : Bool)
  /-- BM_WRITE, R218: A block-memory port write stores its word, or is refused or collides. -/
  | bmWrite (n : Fin 10240) (ix : Fin 4096) (portB : Bool) (same : Bool) (be : Byte) (v : BitVec 80)
  /-- BM_SCRUB, R219: The scrubber reads a protected block-memory word and writes back a correction when both ports are idle. -/
  | bmScrub (n : Fin 10240) (w : Fin 512) (busy : Bool)
  /-- FAB_COMMIT, R229: A write of FAB_COMMIT.GO commits the sector's clock and port settings unless refused. -/
  | fabCommit (mid : MasterId) (x : Fin 64)
  /-- REGIONAL_LINE_RESTART, R223: A changed regional line restarts on the first new-source edge at least 16 root periods after stopping. -/
  | regionalLineRestart (x : Fin 64) (j : Fin 16)
  /-- SECTOR_PORT_TARGET, R224: A target request to a sector window is delivered to the fabric with its poison bits, or refused. -/
  | sectorPortTarget (n : Nat) (answer : Option (Status × List (Word × Bool)))
  /-- SECTOR_PORT_TIMEOUT, R225: A target request without completion within TMO is completed with EDEAD. -/
  | sectorPortTimeout (n : Nat)
  /-- ENG_TRIG, R227: At least 2 engine cycles after a MARK vector, ENG_TRIG pulses to the fabric. -/
  | engTrig (e : Fin 256)
  /-- ENG_IRQ, R227: A rising edge on ENG_IRQ_i bit k sets CE_INT.PEND bit k. -/
  | engIrq (e : Fin 256) (bits : Byte)
  /-- HOLD_RELEASE, R248: CFG_HOLD high for 32 cycles lets the loader start reading. -/
  | holdRelease
  /-- SETTINGS_READ, R233: The loader reads both settings copies and chooses one. -/
  | settingsRead (dead : Bool)
  /-- HEADER_CHECK, R238: The loader reads and checks an image header. -/
  | headerCheck (dead : Bool)
  /-- SIGNATURE_CHECK, R237: Verification of the header signature completes. -/
  | signatureCheck
  /-- FRAME_ARRIVAL, R240: A frame record arrives, is checked and written to its sector. -/
  | frameArrival (dead : Bool)
  /-- SECTOR_FENCE, R254: Before a sector's frame 0 in a user load the sector is fenced and drained. -/
  | sectorFence (x : Fin 64)
  /-- HASH_CHECK, R241: The body hash is compared and, on pass, loaded sectors are released. -/
  | hashCheck
  /-- LOAD_TIMEOUT, R245: LOADTMO or a 100 ms stream gap expires and the load fails with cause 6. -/
  | loadTimeout
  /-- SMP_SEGMENT_DELIVERY, R246: At the next frame boundary the controller reads the SMP segment from flash and delivers it. -/
  | smpSegmentDelivery
  /-- DEVICE_READY, R443: When the ready condition holds after HASHCHK, the device releases CFG_DONE. -/
  | deviceReady
  /-- USER_MODE_ENTRY, R249: CFG_DONE high for 32 cycles enters user mode and starts fabric clocks, cores and scrubbing. -/
  | userModeEntry
  /-- CFG_CTRL_LOAD, R252: CFG_CTRL.LOAD starts a user-mode load from CFG_SRC unless refused. -/
  | cfgCtrlLoad (mid : MasterId)
  /-- CFG_CTRL_DONEREL, R250: CFG_CTRL.DONEREL releases CFG_DONE from a held device. -/
  | cfgCtrlDonerel (mid : MasterId)
  /-- SCRUB_PASS_START, R259: A sector's scrub pass starts every PERIOD ms. -/
  | scrubPassStart (x : Fin 64)
  /-- SCRUB_FRAME, R257: The scrubber reads a frame and corrects a single error or schedules a reload. -/
  | scrubFrame (x : Fin 64) (upset : BitVec 8384)
  /-- FRAME_RELOAD, R258: The scrubber re-reads a frame from its recorded source and rewrites it, or records SCRUBFAIL. -/
  | frameReload (x : Fin 64) (dead : Bool)
  /-- SCRUB_PASS_END, R259: At the end of a pass the adaptive rule may halve or double the period. -/
  | scrubPassEnd (x : Fin 64)
  /-- LINE_ACCESS, R296: The DRAM controller performs a scheduled line read, write, partial write or atomic with G512 and crypto. -/
  | lineAccess (k : Fin 12) (n : Nat)
  /-- CEWB_WRITE_BACK, R298: A scheduled write-back of a corrected line is performed unless a write is queued. -/
  | cewbWriteBack (k : Fin 12) (lam : Fin 33554432)
  /-- PATROL_READ, R299: Every PATROL × 1,024 DRAM clocks the patrol reads and corrects the next line. -/
  | patrolRead (k : Fin 12)
  /-- REFRESH, R303: Every TREFI DRAM clocks a per-bank refresh is issued or postponed. -/
  | refresh (k : Fin 12)
  /-- ROW_IDLE_CLOSE, R302: A row idle for IDLE DRAM clocks is closed. -/
  | rowIdleClose (k : Fin 12) (b : Fin 16)
  /-- THROTTLE_END, R307: A master's throttle duration expires. -/
  | throttleEnd (k : Fin 12) (mid : MasterId) (b : Fin 16)
  /-- DRAM_TRAINING, R308: At DRAM clock start a channel resets, calibrates and trains its lanes. -/
  | dramTraining (k : Fin 12) (fail : Bool)
  /-- TRAINING_COMPLETE, R308: After training and GO the channel starts its fill. -/
  | trainingComplete (k : Fin 12)
  /-- ILV_GO, R308: DMC_ILV.GO locks the interleave register and lets the fills start. -/
  | ilvGo (mid : MasterId) (k : Fin 12) (ilv : BitVec 3) (cap : BitVec 4)
  /-- FILL, R310: DMC_CMD.FILL starts a channel fill in user mode unless refused. -/
  | fill (mid : MasterId) (k : Fin 12)
  /-- DRAM_FILL_COMPLETE, R310: A channel fill ends and the channel enters READY. -/
  | dramFillComplete (k : Fin 12)
  /-- SETRATE, R311: DMC_CMD.SETRATE starts a rate transition unless refused. -/
  | setrate (mid : MasterId) (k : Fin 12) (rate : Bool)
  /-- RETRAIN, R311: DMC_CMD.RETRAIN starts a retraining transition unless refused. -/
  | retrain (mid : MasterId) (k : Fin 12)
  /-- TRANSITION_QUIESCED, R311: With the scheduler queue empty the banks are precharged and devices enter self-refresh. -/
  | transitionQuiesced (k : Fin 12)
  /-- TRANSITION_COMPLETE, R311: After clock switch, exit and retraining the channel returns to READY. -/
  | transitionComplete (k : Fin 12)
  /-- ICE_COMMIT, R316: A write of ICE_COMMIT.GO commits region settings and enables or disables regions. -/
  | iceCommit (mid : MasterId)
  /-- REGION_INIT_COMPLETE, R317: The re-encryption engine finishes initialising a region, which enters READY. -/
  | regionInitComplete (r : Fin 16)
  /-- KEYREADY, R329: ICE_CTRL.KEYREADY marks the spare key loaded. -/
  | keyready (mid : MasterId) (r : Fin 16)
  /-- RESUME, R328: ICE_CTRL.RESUME returns a region from KEYWAIT to READY. -/
  | resume (mid : MasterId) (r : Fin 16)
  /-- UNLOCK, R327: ICE_CTRL.UNLOCK, by Mbana only, returns a region from LOCKED. -/
  | unlock (mid : MasterId) (r : Fin 16)
  /-- REKEY, R329: ICE_CTRL.REKEY starts re-encryption of a region under the spare key. -/
  | rekey (mid : MasterId) (r : Fin 16)
  /-- REKEY_STEP, R329: Every RATE DRAM clocks the engine re-encrypts the next line and advances B_k, completing the rekey at the end. -/
  | rekeyStep (r : Fin 16) (k : Fin 12)
  /-- LINK_KEY_TRANSFER, R331: The re-encryption engine transfers a bridge's link keys to its key registers. -/
  | linkKeyTransfer (b : Fin 16)
  /-- LN_QCOMMIT, R336: A write of LN_QCOMMIT.GO commits the quad PLL settings unless refused. -/
  | lnQcommit (mid : MasterId) (q : Fin 36)
  /-- QUAD_PLL_LOCK, R336: The quad PLL locks and LOCK becomes 1. -/
  | quadPllLock (q : Fin 36)
  /-- REFLOS, R335: Loss or deviation of LREF sets REFLOS and unlocks the quad PLL. -/
  | reflos (q : Fin 36)
  /-- LN_COMMIT, R337: A write of LN_COMMIT.GO commits lane configuration and equaliser, possibly entering ACQUIRE or OFF. -/
  | lnCommit (mid : MasterId) (l : Fin 144)
  /-- ACQUIRE_DONE, R338: Clock recovery locked for 10 µs moves the lane to TRAIN or READY. -/
  | acquireDone (l : Fin 144)
  /-- TRAINING_END, R338: The training protocol ends in READY on success or ACQUIRE with TRAINFAIL. -/
  | trainingEnd (l : Fin 144) (ok : Bool)
  /-- COEFFICIENT_REQUEST, R341: A partner's training request moves an active tap one step or is answered at its limit. -/
  | coefficientRequest (l : Fin 144) (tap : Tap) (up : Bool)
  /-- LOS_EVENT, R346: LOS rises, the lane enters LOST and the event is flagged and counted. -/
  | losEvent (l : Fin 144)
  /-- LOL_EVENT, R346: LOL rises, the lane enters LOST and the event is flagged and counted. -/
  | lolEvent (l : Fin 144)
  /-- LOS_CLEAR, R345: LOS clears after amplitude above LOSTH for 1 µs, returning a LOST lane toward ACQUIRE. -/
  | losClear (l : Fin 144)
  /-- LOL_CLEAR, R345: LOL clears after 10 µs of lock, returning a LOST lane toward ACQUIRE. -/
  | lolClear (l : Fin 144)
  /-- RECEIVE_WORD, R343: A received word enters the receive FIFO or is dropped on overflow, and the checker runs. -/
  | receiveWord (l : Fin 144) (w : BitVec 128)
  /-- TRANSMIT_WORD, R343: A word presented on TXD with TXRDY enters the transmit FIFO. -/
  | transmitWord (l : Fin 144) (txv : Bool) (w : BitVec 128)
  /-- TX_UNDERRUN, R344: The transmitter needs a word from an empty FIFO and sends zeros. -/
  | txUnderrun (l : Fin 144)
  /-- PGEN, R347: A write of LN_TEST.PGEN selects a transmit test pattern unless refused. -/
  | pgen (mid : MasterId) (l : Fin 144) (pat : BitVec 4)
  /-- PCHK, R348: A write of LN_TEST.PCHK selects the checker pattern and restarts its counts. -/
  | pchk (mid : MasterId) (l : Fin 144) (pat : BitVec 4)
  /-- EYE_SCAN, R350: A write of LN_ESCAN.GO starts an eye scan unless refused. -/
  | eyeScan (mid : MasterId) (l : Fin 144) (v : Word)
  /-- EYE_SCAN_DONE, R350: An eye scan ends after 2^DWELL bits or aborts when the lane leaves READY. -/
  | eyeScanDone (l : Fin 144) (errs : Nat)
  /-- SWP_COMMIT, R377: A write of SWP_COMMIT.GO commits the bridge's link and ring settings unless refused. -/
  | swpCommit (mid : MasterId) (b : Fin 16)
  /-- LINK_TRAIN, R357: With EN = 1 and every bond lane in TRAIN or READY the bridge enters TRAIN. -/
  | linkTrain (b : Fin 16)
  /-- LINK_ALIGN, R357: With every bond lane READY the bridge enters ALIGN. -/
  | linkAlign (b : Fin 16)
  /-- LINK_INIT, R357: After alignment and deskew the bridge enters INIT. -/
  | linkInit (b : Fin 16)
  /-- INIT_SEND, R357: Every 1 µs in INIT the bridge sends an INIT block. -/
  | initSend (b : Fin 16)
  /-- INIT, R359: An INIT block is received and matched, leading to UP or DOWN. -/
  | init (b : Fin 16) (w : Word)
  /-- LINK_TIMEOUT, R357: A TRAIN, ALIGN or INIT timeout sends the link to DOWN. -/
  | linkTimeout (b : Fin 16)
  /-- LINK_RETRY, R357: 10 ms after entering DOWN with EN = 1 the bridge retries TRAIN. -/
  | linkRetry (b : Fin 16)
  /-- FRAME_SEND, R363: The bridge starts a frame when it holds credits for all its link blocks. -/
  | frameSend (b : Fin 16) (cls : Fin 3) (n : Fin 17)
  /-- FRAME_RECEIVE, R364: A received frame is accepted in SEQ order or discarded with a NAK. -/
  | frameReceive (b : Fin 16) (f : Frame) (fec : Bool)
  /-- ACK, R364: An ACK block frees acknowledged frames and returns credits. -/
  | ack (b : Fin 16) (w : Word)
  /-- ACK_SEND, R364: The receiver sends ACK at least every 256 network cycles. -/
  | ackSend (b : Fin 16)
  /-- NAK, R364: A NAK block makes the transmitter replay every unacknowledged frame. -/
  | nak (b : Fin 16)
  /-- REPLAY_TIMEOUT, R364: 16 µs without ACK progress triggers a replay, up to the replay limit. -/
  | replayTimeout (b : Fin 16)
  /-- LINK_REQUEST, R367: A request received over a link is forwarded, relayed, delivered or answered with EDEAD. -/
  | linkRequest (b : Fin 16) (same : Bool)
  /-- CONTEXT_WAIT_TIMEOUT, R367: A request waiting for a bridge context beyond the response timeout is answered with EDEAD. -/
  | contextWaitTimeout (b : Fin 16)
  /-- BRIDGE_RESPONSE, R368: A response from the mesh restores its context and is sent back over the link. -/
  | bridgeResponse (b : Fin 16)
  /-- QHEAD, R370: A write of SWP_QHEAD adds bulk descriptors to the bridge's ring. -/
  | qhead (mid : MasterId) (b : Fin 16) (head : BitVec 16)
  /-- RTHEAD, R370: A write of SWP_RTHEAD adds RT descriptors to the bridge's internal ring. -/
  | rthead (mid : MasterId) (b : Fin 16) (head : BitVec 4)
  /-- DESCRIPTOR_ISSUE, R369: The remote request engine issues the next descriptor's request when limits allow. -/
  | descriptorIssue (b : Fin 16)
  /-- DESCRIPTOR_COMPLETE, R369: A descriptor's response writes DONE and STATUS, advances TAIL and may raise an interrupt. -/
  | descriptorComplete (b : Fin 16)
  /-- SWP_KEY_NEXT, R331: SWP_KEY.NEXT, by Mbana only, marks the next transmit key loaded. -/
  | swpKeyNext (mid : MasterId) (b : Fin 16)
  /-- EPOCH_SWITCH, R331: At a frame boundary after the key transfer the sender switches to the next epoch. -/
  | epochSwitch (b : Fin 16)
  /-- TIME_SYNC_SEND, R372: Once per RT frame a bridge with TIMEEN sends a TIME SYNC block stamped t1. -/
  | timeSyncSend (b : Fin 16) (t1 : Nat)
  /-- TIME_SYNC, R372: A received TIME SYNC block is stamped t2 and answered with a TIME REPLY. -/
  | timeSync (b : Fin 16) (e : Nat) (aligned : Bool)
  /-- TIME_REPLY, R372: A received TIME REPLY completes an exchange and, at a block end, updates OFFS and DELAY and may make a step pending. -/
  | timeReply (b : Fin 16) (e : Nat) (t2 : Nat) (t3 : Nat) (t4 : Nat) (aligned : Bool)
  /-- TB_STEP, R377: A write of TB_STEP in MASTER makes a time-base step pending. -/
  | tbStep (mid : MasterId) (v : Word)
  /-- STEP_APPLY, R374: A pending step takes effect at a quiet slot with no engine streaming or armed, stopping the divided clocks. -/
  | stepApply
  /-- SERVO_TRIM, R373: In STEERED the servo trims the root PLL each ms toward OFFS = 0. -/
  | servoTrim
  /-- TB_TIME_READ, R377: A read of TB_TIME latches FRAC of the same root period into TB_FRAC. -/
  | tbTimeRead (mid : MasterId)
  /-- ERROR_RECORD, R390: A unit's error record reaches the ERR log, merged, accepted or dropped, and raises the ERR interrupt. -/
  | errorRecord
  /-- ERR_PTR_WRITE, R392: A write of ERR_PTR.RP frees log records unless it would pass WP. -/
  | errPtrWrite (mid : MasterId) (rp : BitVec 9)
  /-- LOCKSTEP_MISMATCH, R394: A Mbana lockstep mismatch resets both cores, and a third within 10 s enters SAFE. -/
  | lockstepMismatch
  /-- MBANA_REBOOT_COMPLETE, R395: Mbana finishes its reboot and accepts commands again. -/
  | mbanaRebootComplete
  /-- UDP_DATAGRAM, R397: A UDP datagram to port 4950 delivers a command packet to the intake queue. -/
  | udpDatagram (v6 : Bool) (dst : BitVec 128) (port : BitVec 16) (frag : Bool) (ck : Nat) (peer : Nat) (bs : List Byte) (same : Bool)
  /-- ARP_REQUEST, R397: The management port answers an ARP request. -/
  | arpRequest (ip : BitVec 32) (src : BitVec 48)
  /-- ICMP_ECHO, R397: The management port answers an ICMPv4 or ICMPv6 echo request. -/
  | icmpEcho (v6 : Bool) (dst : BitVec 128) (src : BitVec 128) (payload : List Byte)
  /-- NEIGHBOR_DISCOVERY, R397: The management port answers IPv6 neighbour discovery. -/
  | neighborDiscovery (target : BitVec 128) (src : BitVec 128)
  /-- SPI_COMMAND_FRAME, R396: SPI frame 0x02 writes a command packet. -/
  | spiCommandFrame (bs : List Byte) (same : Bool)
  /-- SPI_REPLY_FRAME, R396: SPI frame 0x03 reads the reply. -/
  | spiReplyFrame
  /-- SPI_STATUS_FRAME, R396: SPI frame 0x05 reads the status byte. -/
  | spiStatusFrame
  /-- MAILBOX_GO, R398: MGT_MBCTL.GO submits the packet in a mailbox request buffer. -/
  | mailboxGo (mid : MasterId) (j : Fin 24) (same : Bool)
  /-- PING, R405: Mbana command returning firmware version, slot and uptime. -/
  | ping
  /-- GETID, R405: Mbana command returning identity data. -/
  | getid
  /-- CLAIM, R403: Mbana command that claims a resource under a token with a lease. -/
  | claim
  /-- RELEASE, R403: Mbana command that frees a claimed resource. -/
  | release
  /-- RESET, R440: Mbana command that runs a DEVICE or scoped reset. -/
  | reset
  /-- SET, R411: Mbana command that writes a persistent settings key. -/
  | set
  /-- GET, R405: Mbana command that returns a settings key's value. -/
  | get
  /-- ATTEST, R421: Mbana command that returns the signed attestation reply. -/
  | attest
  /-- ICEKEY, R423: Mbana command that writes region keys or a spare key into the secure bank. -/
  | icekey
  /-- ICEUNLOCK, R405: Mbana command that unlocks a locked ICE region. -/
  | iceunlock
  /-- LINKKEY, R423: Mbana command exchanging signed ECDH halves for a link epoch. -/
  | linkkey
  /-- CFGSTAT, R405: Mbana command returning CFG_STATUS and CFG_IMAGE. -/
  | cfgstat
  /-- LOAD, R405: Mbana command that writes CFG_SRC and starts a load. -/
  | load
  /-- STREAM_BEGIN, R405: Mbana command that opens a streamed image. -/
  | streamBegin
  /-- STREAM_DATA, R405: Mbana command that feeds image bytes to the loader. -/
  | streamData
  /-- STREAM_END, R405: Mbana command that ends a streamed image and reports the load outcome. -/
  | streamEnd
  /-- DONEREL, R250: Mbana command that releases CFG_DONE of a held device. -/
  | donerel
  /-- IMGWRITE_BEGIN, R405: Mbana command that erases an image slot for writing. -/
  | imgwriteBegin
  /-- IMGWRITE_DATA, R405: Mbana command that writes image bytes to flash. -/
  | imgwriteData
  /-- IMGWRITE_END, R405: Mbana command that checks the written image header. -/
  | imgwriteEnd
  /-- SETSLOT, R234: Mbana command that writes the settings record into the unchosen copy. -/
  | setslot
  /-- SENSORS, R406: Mbana command returning sensor readings. -/
  | sensors
  /-- THRESH, R407: Mbana command that sets a sensor's WARN and CRIT thresholds. -/
  | thresh
  /-- LOGREAD, R405: Mbana command returning event records from a SEQ. -/
  | logread
  /-- FW_BEGIN, R414: Mbana command that erases the inactive firmware slot. -/
  | fwBegin
  /-- FW_DATA, R414: Mbana command that writes firmware bytes. -/
  | fwData
  /-- FW_END, R414: Mbana command that verifies the written firmware image and floor. -/
  | fwEnd
  /-- FW_ACTIVATE, R414: Mbana command that arms a trial of the new slot and reboots. -/
  | fwActivate
  /-- FW_CONFIRM, R415: Mbana command that confirms the trial slot and may raise the floor. -/
  | fwConfirm
  /-- FW_STAT, R405: Mbana command returning firmware slot status. -/
  | fwStat
  /-- TRIAL_TIMEOUT, R414: 600 s without FW_CONFIRM reboots into the old slot. -/
  | trialTimeout
  /-- SMP_POWER, R182: Mbana command that switches the SMP domain. -/
  | smpPower
  /-- SMP_RESET, R183: Mbana command that resets the SMP. -/
  | smpReset
  /-- SMP_RELAY, R405: Mbana command that relays an SMP request through Mbana's mailbox slot. -/
  | smpRelay
  /-- SMPSTAT, R405: Mbana command returning SMP status registers. -/
  | smpstat
  /-- DBG_CHAL, R470: Mbana command returning a debug challenge nonce. -/
  | dbgChal
  /-- DBG_RESP, R470: Mbana command granting a debug level on a verified signature. -/
  | dbgResp
  /-- DBG_PASS, R470: Mbana command granting a debug level on a matching password. -/
  | dbgPass
  /-- DBG_REVOKE, R470: Mbana command ending debug authorisation. -/
  | dbgRevoke
  /-- DBG_TUNNEL, R468: Mbana command carrying DMI transactions. -/
  | dbgTunnel
  /-- PWR_DOMAIN, R34: Mbana command that powers a domain on or off, refused for protected domains. -/
  | pwrDomain
  /-- PWR_STAT, R405: Mbana command returning domain power states. -/
  | pwrStat
  /-- CLK_GLOBAL, R405: Mbana command that sets a fabric global line's division. -/
  | clkGlobal
  /-- DRAM_RATE, R311: Mbana command that starts rate changes or retraining on channels. -/
  | dramRate
  /-- VTRIM, R405: Mbana command that sets the VCORE setpoint. -/
  | vtrim (ack : Bool)
  /-- SLEEP, R444: Mbana command that puts the device into sleep. -/
  | sleep
  /-- LC_STAT, R405: Mbana command returning life-cycle status. -/
  | lcStat
  /-- LC_NONCE, R405: Mbana command returning a life-cycle nonce. -/
  | lcNonce
  /-- LC_PROVISION, R416: Mbana command that provisions key hashes and moves to PROVISIONED. -/
  | lcProvision
  /-- LC_CERT, R422: Mbana command that stores the identity certificate. -/
  | lcCert
  /-- LC_DEPLOY, R417: Mbana command that transitions to DEPLOYED. -/
  | lcDeploy
  /-- LC_RMA, R417: Mbana command that transitions to RMA. -/
  | lcRma
  /-- LC_SCRAP, R417: Mbana command that transitions to SCRAPPED. -/
  | lcScrap
  /-- TAMPER_CLEAR, R418: Mbana command that clears the tamper latch. -/
  | tamperClear
  /-- LEASE_EXPIRY, R403: A resource lease expires and the resource becomes free. -/
  | leaseExpiry (r : Fin 8)
  /-- SENSOR_READING, R406: A periodic sensor reading updates and sets WARN or CRIT flags. -/
  | sensorReading (n : Fin 64) (v : Int)
  /-- THERMAL_CRIT, R407: A temperature beyond CRIT for 1 ms aborts streaming gangs and powers off cluster and quad domains. -/
  | thermalCrit (n : Fin 40)
  /-- THERMAL_TRIP, R407: A site at 110 °C or above stops every fast domain. -/
  | thermalTrip
  /-- LOG_FLUSH, R409: Mbana copies the event-log cache to the flash ring. -/
  | logFlush
  /-- TAMPER, R418: An enabled tamper input wipes the secure bank, steps the seal and logs. -/
  | tamper (levels : BitVec 4)
  /-- LINK_EPOCH, R423: Every LINK_EPOCH seconds Mbana agrees the next link epoch. -/
  | linkEpoch (b : Fin 16) (half : List Byte)
  /-- DRIFT_CALIBRATION_POLICY, R424: Mbana requests DRIFTCAL for eligible clusters. -/
  | driftCalibrationPolicy (idle : List Nat)
  /-- DRAM_RETRAINING_POLICY, R424: Mbana retrains a channel after temperature change or age. -/
  | dramRetrainingPolicy (k : Fin 12)
  /-- SCRUB_RATE_POLICY, R424: At user-mode entry Mbana writes the scrubber thresholds. -/
  | scrubRatePolicy
  /-- SUPPLY_TRIM_POLICY, R424: Mbana steps the VCORE setpoint when readings leave the trim band. -/
  | supplyTrimPolicy (ack : Bool)
  /-- PATROL_POLICY, R424: Mbana halves or doubles a channel's patrol interval. -/
  | patrolPolicy (k : Fin 12)
  /-- RETIREMENT_POLICY, R424: Mbana proposes or performs retirement on repeated errors at a location. -/
  | retirementPolicy (kind : Byte) (inst : Nat) (loc : Nat)
  /-- LOCKDOWN_POLICY, R424: On an ICE lock-down interrupt Mbana logs and notifies. -/
  | lockdownPolicy (r : Fin 16)
  /-- SECURE_BANK_WIPE_POLICY, R424: After a wipe Mbana reloads keys, resumes regions and starts a new link epoch. -/
  | secureBankWipePolicy (halves : List (List Byte))
  /-- POWER_ON_RESET, R437: PORST_N low or VHALO low resets the whole device and start-up begins. -/
  | powerOnReset (cause : Fin 2) (strap : Fin 4)
  /-- OSCILLATOR_READY, R432: The 8 MHz oscillator becomes ready, starting the boot ROM or leaving CLOCK_WAIT. -/
  | oscillatorReady
  /-- ROOT_PLL_LOCK, R442: The root PLL locks, releasing SYS, NET and SBK and powering domains. -/
  | rootPllLock
  /-- PLL_LOCK_RETRY, R431: Every 10 ms the root PLL retries lock. -/
  | pllLockRetry (ok : Bool)
  /-- CLOCK_MONITOR_TRIP, R430: A clock monitor trips and its action runs. -/
  | clockMonitorTrip (n : Fin 8)
  /-- RST_CTRL_GO, R441: RST_CTRL.GO runs a scoped reset. -/
  | rstCtrlGo (mid : MasterId) (scope : BitVec 16) (inst : BitVec 16)
  /-- PWR_REQ_GO, R434: PWR_REQ.GO starts powering a domain on or off. -/
  | pwrReqGo (mid : MasterId) (dom : BitVec 16) (on : Bool)
  /-- DOMAIN_POWER_UP, R434: A domain finishes power-up initialisation and reports ready. -/
  | domainPowerUp (d : BitVec 16)
  /-- DOMAIN_POWER_DOWN, R435: After drain a domain is isolated, its switch opens and it reports off. -/
  | domainPowerDown (d : BitVec 16)
  /-- DRAIN_TIMEOUT, R435: A drain exceeding 10 ms lifts the fence and returns TIMEOUT. -/
  | drainTimeout (d : BitVec 16)
  /-- CLK_COMMIT, R446: A write of CLK_COMMIT.GO commits fabric global line settings unless refused. -/
  | clkCommit (mid : MasterId)
  /-- WAKE_EVENT, R445: An enabled SGPIO, RTC alarm or tamper wakes the device from sleep. -/
  | wakeEvent (source : Fin 18)
  /-- WAKE_RESTORE, R445: On wake the loader restores each sector from its recorded images. -/
  | wakeRestore
  /-- TAP_RESET, R437: TRST_N resets the TAP controller. -/
  | tapReset
  /-- PMX_EN_WRITE, R451: A PMX_EN write by Mbana changes pin owners through one high-impedance clock. -/
  | pmxEnWrite (mid : MasterId) (v : Word)
  /-- GPIO_LOCK, R454: A GPIO_LOCK key write advances or completes the pin lock sequence. -/
  | gpioLock (mid : MasterId) (key : Word)
  /-- LOCK_SEQUENCE_TIMEOUT, R454: No second key within 64 GPIO clocks cancels the lock sequence. -/
  | lockSequenceTimeout
  /-- PATTERN_MATCH, R455: The GPIO pattern match detects a match and sets PMF or asserts its interrupt. -/
  | patternMatch (board : Word)
  /-- TIMER_COMPARE, R456: A timer reaching CMP sets CMPF, applies its TOUT action and may reload. -/
  | timerCompare (k : Fin 4)
  /-- TIMER_CAPTURE, R456: A TCAP rising edge latches COUNT into CAP. -/
  | timerCapture (k : Fin 4)
  /-- SPI_MASTER_TRANSFER, R456: SPI master CMD.GO starts a transfer of LEN bytes. -/
  | spiMasterTransfer (m : Fin 2) (len : BitVec 16)
  /-- I2C_TRANSACTION, R456: I2C CMD.GO starts a controller transaction. -/
  | i2cTransaction (ix : Fin 4) (cmd : BitVec 25)
  /-- UART_RECEIVE, R456: A UART receives a character into its FIFO. -/
  | uartReceive (u : Fin 2) (b : Byte) (frameErr : Bool) (parErr : Bool)
  /-- UART_TRANSMIT, R456: A UART DATA write queues a byte for transmission. -/
  | uartTransmit (u : Fin 2) (b : Byte)
  /-- RTC_ALARM, R456: The real-time clock reaches ALARM and sets ALARMF. -/
  | rtcAlarm
  /-- HOST_BOOT, R461: At user-mode entry Mbana checks and copies the host boot image and releases core 0. -/
  | hostBoot
  /-- CORE_RUN, R461: A write of SYS_CORE_RUN.RUN releases or resets cores. -/
  | coreRun (mid : MasterId) (run : Byte)
  /-- IRQPOST, R463: A write of SYS_IRQPOST raises a PLIC source 768 to 1,023. -/
  | irqpost (mid : MasterId) (src : BitVec 10)
  /-- PLIC_CLAIM, R462: A read of the threshold-claim word claims the highest pending interrupt. -/
  | plicClaim (mid : MasterId) (ctx : Fin 16)
  /-- PLIC_COMPLETE, R462: A write of the threshold-claim word sets the threshold and completes an ID. -/
  | plicComplete (mid : MasterId) (ctx : Fin 16) (v : Word)
  /-- CORE_UNCACHEABLE_ACCESS, R459: A core access outside DRAM is sent as a 64-bit access or raises an access fault. -/
  | coreUncacheableAccess (k : Fin 8) (kind : CoreAccess) (a : Addr) (bytes : Fin 9) (rd : BitVec 5) (v : Word) (same : Bool)
  /-- WRITEBACK_ERROR, R460: A failed dirty-line write-back records SYS_WBERR and raises a PLIC source. -/
  | writebackError (k : Fin 8) (a : Addr) (st : Fin 16)
  /-- MACHINE_TIMER, R464: TIME reaching TB_MTIMECMP_k makes core k's timer interrupt pending. -/
  | machineTimer (k : Fin 8)
  /-- WDT_KICK, R465: A WDT_KICK write reloads the watchdog or sets BADKEY. -/
  | wdtKick (mid : MasterId) (k : Fin 9) (key : Word)
  /-- WDT_EXPIRY, R465: A watchdog expires, raising an early interrupt or resetting its core or Mbana. -/
  | wdtExpiry (k : Fin 9)
  /-- EXTEST, R467: JTAG instruction selecting boundary scan in board-test mode. -/
  | extest (cells : Word)
  /-- IDCODE, R467: JTAG instruction selecting the 32-bit IDCODE register. -/
  | idcode
  /-- SAMPLE_PRELOAD, R467: JTAG instruction selecting boundary scan for sampling in board-test mode. -/
  | samplePreload (cells : Word)
  /-- CLAMP, R467: JTAG instruction clamping outputs with bypass selected. -/
  | clamp
  /-- HIGHZ, R467: JTAG instruction placing outputs in high-impedance with bypass selected. -/
  | highz
  /-- DTMCS, R467: JTAG instruction selecting the debug transport control register. -/
  | dtmcs (v : BitVec 32)
  /-- DMI, R467: JTAG instruction performing a DMI access within the authorised level. -/
  | dmi (op : Fin 4) (a : BitVec 9) (v : BitVec 32)
  /-- BYPASS, R467: JTAG instruction selecting the 1-bit bypass register. -/
  | bypass
  /-- HART_HALT, R468: The debug module halts a hart. -/
  | hartHalt (h : Fin 10)
  /-- HART_RESUME, R468: The debug module resumes a halted hart. -/
  | hartResume (h : Fin 10)
  /-- SINGLE_STEP, R468: The debug module single-steps a hart. -/
  | singleStep (h : Fin 10)
  /-- HARTRESET, R468: The debug module resets a hart. -/
  | hartreset (h : Fin 10)
  /-- NDMRESET, R468: The debug module resets the application cores. -/
  | ndmreset
  /-- ABSTRACT_COMMAND, R468: The debug module performs an abstract register access or program buffer execution. -/
  | abstractCommand (cmd : BitVec 32)
  /-- SYSTEM_BUS_ACCESS, R468: The debug module issues a 64-bit system bus access as master 329. -/
  | systemBusAccess (same : Bool)
  /-- TRIGGER_FIRE, R471: A hart trigger matches and raises a breakpoint or enters debug mode. -/
  | triggerFire (h : Fin 10) (t : Fin 9)
  /-- WATCH_MATCH, R472: An engine watch unit matches, counting and recording it and starting its action. -/
  | watchMatch (u : Fin 16) (fails : BitVec 4) (idx : Word48)
  /-- WATCH_PAUSE, R472: At least 8 engine cycles after a watch match the gang pauses. -/
  | watchPause (e : Fin 256)
  /-- WATCH_FREEZE, R472: At least 64 root periods after a watch match every performance monitor freezes. -/
  | watchFreeze
  /-- VT_TX_WRITE, R473: Core k writes its virtual-terminal TX entry. -/
  | vtTxWrite (mid : MasterId) (k : Fin 8) (v : Word)
  /-- VT_TX_READ, R473: Master 329 reads and empties the TX entry. -/
  | vtTxRead (mid : MasterId) (k : Fin 8)
  /-- VT_RX_WRITE, R473: Master 329 writes core k's virtual-terminal RX entry. -/
  | vtRxWrite (mid : MasterId) (k : Fin 8) (v : Word)
  /-- VT_RX_READ, R473: Core k reads and empties its RX entry. -/
  | vtRxRead (mid : MasterId) (k : Fin 8)
  /-- PMON_COMMIT, R480: A write of PMON_COMMIT.GO commits a monitor's event and filter settings unless refused. -/
  | pmonCommit (mid : MasterId) (ix : Fin 412)
  /-- PMON_CLR, R476: PMON_CTL.CLR zeroes every counter and PMON_CYC. -/
  | pmonClr (mid : MasterId) (ix : Fin 412)
  /-- PMON_WINDOW_CLOSE, R478: Every WIN cycles a monitor writes byte and rate figures and sets WINF. -/
  | pmonWindowClose (ix : Fin 412) (bytes : List Nat)
  /-- FREEZE, R479: Global command that stops every monitor at time T. -/
  | freeze (mid : MasterId)
  /-- RUN, R479: Global command that unfreezes every monitor at time T. -/
  | run (mid : MasterId)
  /-- SNAP, R479: Global command that copies every counter at time T. -/
  | snap (mid : MasterId)
  /-- CLEAR_COUNTERS, R479: Global CLEAR command that zeroes every counter at time T. -/
  | clearCounters (mid : MasterId)
  /-- GLOBAL_COMMAND_ACT, R479: A monitor acts on a received global command at its first clock edge at or after T, or sets LATE. -/
  | globalCommandAct (ix : Fin 412) (late : Bool)
  /-- DBG_EWCOMMIT, R480: A write of DBG_EWCOMMIT.GO commits every engine watch unit unless refused. -/
  | dbgEwcommit (mid : MasterId)
  /-- FLIP_FLOP_EDGE, R211: On an active edge of its selected clock an M-cell flip-flop loads INIT when its reset is asserted, otherwise D when its enable is asserted. -/
  | flipFlopEdge (x : Fin 64) (col : Fin 64) (row : Fin 320) (m : Fin 8) (b : Bool) (ones : List (Nat × Nat)) (sample : Bool)
  /-- ARITHMETIC_SLICE_EDGE, R220: On a rising edge of its clock with CE = 1 an arithmetic slice captures inputs, registers products and updates ACC, SAT and CASCOUT. -/
  | arithmeticSliceEdge (x : Fin 64) (ac : Fin 3) (ins : List (Nat × ArithIn))
  /-- THROTTLED_REQUEST_ADMIT, R307: A throttled master's next request in the throttle buffer is admitted once GAP DRAM clocks have passed since the last one. -/
  | throttledRequestAdmit (k : Fin 12)
  /-- REFERENCE_RETURN, R335: A valid LREF_Qq returns, REFLOS clears and the quad PLL starts to relock. -/
  | referenceReturn (q : Fin 36)
  /-- SLOT_ERASE_COMPLETE, R405: The flash erase that IMGWRITE_BEGIN or FW_BEGIN started completes and the slot accepts data. -/
  | slotEraseComplete (img : Bool)
  /-- MANAGEMENT_PORT_LINK, R397: The 1000BASE-X management port gains or loses its link partner and completes Clause 37 auto-negotiation. -/
  | managementPortLink (up : Bool)
  /-- MANAGEMENT_PLL_LOCK, R430: The management PLL locks or relocks, setting MPLLLOCK and letting the management port leave link down. -/
  | managementPllLock
  /-- CRYSTAL_READY, R430: The 32.768 kHz crystal starts running or returns, setting XTALRDY and taking the real-time clock back from the 8 MHz oscillator. -/
  | crystalReady
  /-- DBG_PASS_LOCKOUT_END, R405: 60 s after three consecutive DBG_PASS failures the lockout ends and DBG_STATUS.LOCKOUT clears. -/
  | dbgPassLockoutEnd
  /-- I2C_TRANSACTION_DONE, R456: An I2C controller transaction ends, clearing BUSY and setting NACK, ARBLOST, TIMEOUT or PECERR as they arose. -/
  | i2cTransactionDone (ix : Fin 4) (nack : Bool) (arb : Bool) (tmo : Bool) (pec : Bool) (bytes : List Byte)
  /-- SPI_MASTER_TRANSFER_DONE, R456: An SPI master transfer of LEN bytes ends and BUSY clears. -/
  | spiMasterTransferDone (m : Fin 2) (bytes : List Byte)
  /-- SMBUS_ALERT, R456: The ALERT_N input of an I2C controller is asserted and sets STAT.ALERT. -/
  | smbusAlert (ix : Fin 4)
  deriving DecidableEq, Repr

end Sys2Proof
end

