-- ==== Sys2Proof/Decode.lean ====
section
/-!
DEFINITION. Commands as words. The table of commands gives no row any bits, so no word spells a command; the words of the part
that have an encoding, the slots of a bundle (R83 to R99), are decoded where the engine reads them (Machine/Operands.lean).
-/
namespace Sys2Proof

/-- The command that a word of some bits spells by the table's bits: none, since no row has bits. -/
def decodeTableWord (_ _ : Nat) : Option Instr := none

end Sys2Proof
end

