-- ==== Sys2Proof/Config.lean ====
section
/-!
DEFINITION. What one part or the world outside fixes and the manual does not: opaque constants without a body, so that no
proof can see a value of them (log entry 2 lists them).
-/
namespace Sys2Proof.Config

/-- A value that the manual leaves open, by its number: nothing constrains it. -/
opaque freeValue : (w : Nat) → Nat → BitVec w

/-- R168: whether the physical row of a slice's region is one of the "every second" rows (the manual gives no placement
of regions in rows). -/
opaque physicalRowOdd : Nat → Bool

/-- What a signer draws for a signature (FIPS 186): under its private key, over a digest, for its i-th signature. -/
opaque signNonce : Nat → BitVec 512 → Nat → Nat

/-- R405, R470: a signature over a digest verifies under the key whose hash the fuses hold (the command carries no public key, and
the manual does not say where it comes from). -/
opaque debugSigned : BitVec 512 → BitVec 512 → BitVec 1056 → Bool

/-- FS, the SMP's fuse secret (R198). -/
opaque fuseSecret : BitVec 256

/-- The device unique identity (R4). -/
opaque deviceUid : BitVec 128

/-- FSM, Mbana's fuse secret (R419). -/
opaque fuseSecretM : BitVec 256

/-- The private key that Mbana draws for ephemeral key n (R423). -/
opaque ephemeral : Nat → Nat

/-- The hash of the Onhild firmware key that the boot ROM holds (R412). -/
opaque onhildKey : BitVec 512

/-- Free fuse rows, by life-cycle state (R405 reports their number; no rule states it). -/
opaque fuseRows : Nat → BitVec 16

/-- R184: the SMP segment carries a good signature by the metrology authority key whose hash is given. -/
opaque segmentSigned : List (BitVec 8) → BitVec 512 → Bool

/-- R181, R204: what an SMP segment puts into code word i of the meter core's SRAMs (instruction SRAM, then data SRAM), and into frame f
of the 65th sector (the manual gives the segment no layout). -/
opaque meterImage : List (BitVec 8) → Nat → BitVec 64
opaque sector65 : List (BitVec 8) → Nat → BitVec 8192

/-- R203: the delay of the reference path of channel p and class k (number 6p + k), in ticks, as the n-th measurement finds it. -/
opaque pathDelay : Nat → Nat → BitVec 32

/-- R203: an imported calibration set's signature, UID lock and format are good under the metrology key whose hash is given
(the manual gives the set's header no layout). -/
opaque calSetGood : List (BitVec 8) → BitVec 512 → Bool

/-- R203: PLANE and the calibration temperature of a cluster that an imported set's header names. -/
opaque calSetPlane : List (BitVec 8) → Bool
opaque calSetTcal : List (BitVec 8) → Nat → Int

/-- What an input of a routing multiplexer carries (R211, R214, R227): the output O of M-cell m of the wire's own tile, or of the tile
directly south of it; a bit of the column connections; a clock line (0 to 31 global, 32 to 47 regional); or any other signal of the
fabric. -/
inductive RouteSource where
  | general
  | own (m : Fin 8)
  | south (m : Fin 8)
  | column (i : Nat)
  | line (c : Fin 48)
  deriving DecidableEq, Repr, Inhabited

/-- R214: the routing of the fabric, which the manual gives no numbers: how many inputs the multiplexer that drives a wire has, and what
each of them carries, input 1 the first. -/
opaque routeInputs : Nat → Nat
opaque routeSource : Nat → Nat → RouteSource

/-- What a combinational loop through an M-cell gives (no rule says). -/
opaque loopValue : Nat → Bool

/-- R211, R212, R214 to R216, R220, R253: what the frames of a configuration set (the manual gives the frames' bits no meaning): the select
code of each wire; one M-cell; the mode of one block memory; one arithmetic slice; the clock lines of a block memory's port and of an
arithmetic slice (48 and above: none). The sector's frames, and the unit's number in the sector. -/
opaque routeCode : List (Nat × BitVec 8384) → Nat → Nat
opaque cellBits : List (Nat × BitVec 8384) → Nat → BitVec 32
opaque memoryBits : List (Nat × BitVec 8384) → Nat → BitVec 5
opaque arithBits : List (Nat × BitVec 8384) → Nat → BitVec 8
opaque memoryClock : List (Nat × BitVec 8384) → Nat → Bool → Nat
opaque arithClock : List (Nat × BitVec 8384) → Nat → Nat

/-- R253: what frame 0 declares a border output: HOLD (none) or a constant. -/
opaque borderDecl : BitVec 8192 → Nat → Option Bool

end Sys2Proof.Config
end

