-- ==== Sys2Proof/Machine/Codes.lean ====
section
/-!
DEFINITION. The grid codes G64 and G512 (R378 to R381), the atomics of the banks (R164), and CRC-32C, with which the
part closes its records.
-/
namespace Sys2Proof.Machine

/-- Byte i of a word, byte 0 the least significant. -/
def byteOf (w : Word) (i : Nat) : Byte := w.extractLsb' (8 * i) 8

/-- Row parities of a 64-bit grid: bit r is the parity of row r, data bits [8r + 7:8r]. -/
def g64RowPar (d : Word) : Byte :=
  (List.range 8).foldl (fun acc r => acc ||| (if parity (byteOf d r) then (1#8 <<< r) else 0#8)) 0#8

/-- R378: row check r is the parity of rows r and (r - 1) mod 8. -/
def g64Rows (d : Word) : Byte := g64RowPar d ^^^ (g64RowPar d).rotateLeft 1

/-- R378: column check c is the parity of data bits c, c + 8, … c + 56. -/
def g64Cols (d : Word) : Byte := (List.range 8).foldl (fun acc r => acc ^^^ byteOf d r) 0#8

/-- R378: the 16 check bits of a word, row checks in [7:0] (check bits 64 to 71) and column checks in [15:8]. -/
def g64Check (d : Word) : BitVec 16 := g64Cols d ++ g64Rows d

/-- A G64 code word: 64 data bits in [63:0] and 16 check bits in [79:64]. -/
abbrev Code64 := BitVec 80

/-- The code word that stores a data word with fresh check bits. -/
def encode64 (d : Word) : Code64 := g64Check d ++ d

/-- R381: the poison pattern, the data with the inverse of the check bits it calls for. -/
def poison64 (d : Word) : Code64 := (~~~ (g64Check d)) ++ d

/-- The code word that stores a data word whose sideband poison bit is p (R381, R388). -/
def store64 (d : Word) (p : Bool) : Code64 := if p then poison64 d else encode64 d

/-- What the decoder of a code word reports (R380): no error, one bit corrected (with its number), the poison pattern,
or any other mismatch. -/
inductive CodeKind where
  | clean
  | corrected (bit : Nat)
  | poisonPattern
  | uncorrectable
  deriving DecidableEq, Repr

/-- The lowest set bit of a vector; its width where none is set. -/
def lowBit {w : Nat} (v : BitVec w) : Nat := ((List.range w).find? (fun i => v.getLsbD i)).getD w

/-- How many bits of a vector are set. -/
def countOnes {w : Nat} (v : BitVec w) : Nat := (List.range w).foldl (fun acc i => acc + bit (v.getLsbD i)) 0

/-- R380's table over n row checks and m column checks: which bit, if any, a set of mismatching checks names. Rows r and
(r + 1) mod n with one column name data bit m * r + c. -/
def gridKind {n m : Nat} (rows : BitVec n) (cols : BitVec m) : CodeKind :=
  if rows = 0 ∧ cols = 0 then .clean
  else if countOnes rows = n ∧ countOnes cols = m then .poisonPattern
  else if countOnes rows = 1 ∧ cols = 0 then .corrected (n * m + lowBit rows)
  else if rows = 0 ∧ countOnes cols = 1 then .corrected (n * m + n + lowBit cols)
  else if countOnes rows = 2 ∧ countOnes cols = 1 then
    match (List.range n).find? (fun r => rows.getLsbD r && rows.getLsbD ((r + 1) % n)) with
    | some r => .corrected (m * r + lowBit cols)
    | none => .uncorrectable
  else .uncorrectable

/-- A decoded code word: its data after correction, its poison, what the decoder found, and the mismatching checks. -/
structure Decoded64 where
  data : Word
  poison : Bool
  kind : CodeKind
  rows : Byte := 0
  cols : Byte := 0
  stored : Word := 0
  deriving DecidableEq, Repr

/-- R380: decode a G64 code word. -/
def decode64 (c : Code64) : Decoded64 :=
  let d : Word := c.extractLsb' 0 64
  let syn : BitVec 16 := c.extractLsb' 64 16 ^^^ g64Check d
  let rows : Byte := syn.extractLsb' 0 8
  let cols : Byte := syn.extractLsb' 8 8
  match gridKind rows cols with
  | .clean => ⟨d, false, .clean, rows, cols, d⟩
  | .corrected b => ⟨if b < 64 then d ^^^ (1#64 <<< b) else d, false, .corrected b, rows, cols, d⟩
  | .poisonPattern => ⟨d, true, .poisonPattern, rows, cols, d⟩
  | .uncorrectable => ⟨d, true, .uncorrectable, rows, cols, d⟩

/-- A DRAM line: 512 data bits in [511:0], G512 check bits in [559:512], spare bits in [575:560] (R294). -/
abbrev Line := BitVec 576

/-- Row i of the 16 × 32 grid of a line's data. -/
def g512Row (d : BitVec 512) (i : Nat) : BitVec 32 := d.extractLsb' (32 * i) 32

/-- R379: row checks of a line. -/
def g512Rows (d : BitVec 512) : BitVec 16 :=
  let p := (List.range 16).foldl (fun acc r => acc ||| (if parity (g512Row d r) then (1#16 <<< r) else 0#16)) 0#16
  p ^^^ p.rotateLeft 1

/-- R379: column checks of a line. -/
def g512Cols (d : BitVec 512) : BitVec 32 := (List.range 16).foldl (fun acc r => acc ^^^ g512Row d r) 0#32

/-- R379: the 48 check bits of a line's data, row checks in [15:0]. -/
def g512Check (d : BitVec 512) : BitVec 48 := g512Cols d ++ g512Rows d

/-- A decoded line. -/
structure DecodedLine where
  data : BitVec 512
  poison : Bool
  kind : CodeKind
  rows : BitVec 16 := 0
  cols : BitVec 32 := 0
  spare : BitVec 16 := 0
  stored : BitVec 512 := 0
  deriving DecidableEq, Repr

/-- R379, R380: decode a DRAM line. -/
def decodeLine (c : Line) : DecodedLine :=
  let d : BitVec 512 := c.extractLsb' 0 512
  let sp : BitVec 16 := c.extractLsb' 560 16
  let syn : BitVec 48 := c.extractLsb' 512 48 ^^^ g512Check d
  let rows : BitVec 16 := syn.extractLsb' 0 16
  let cols : BitVec 32 := syn.extractLsb' 16 32
  match gridKind rows cols with
  | .clean => ⟨d, false, .clean, rows, cols, sp, d⟩
  | .corrected b => ⟨if b < 512 then d ^^^ (1#512 <<< b) else d, false, .corrected b, rows, cols, sp, d⟩
  | .poisonPattern => ⟨d, true, .poisonPattern, rows, cols, sp, d⟩
  | .uncorrectable => ⟨d, true, .uncorrectable, rows, cols, sp, d⟩

/-- The line that stores data with fresh check bits and the given spare bits; in the poison pattern where p (R381). -/
def storeLine (d : BitVec 512) (spare : BitVec 16) (p : Bool) : Line :=
  spare ++ ((if p then ~~~ (g512Check d) else g512Check d) ++ d)

/-- Word i of a line's data. -/
def lineWord (d : BitVec 512) (i : Nat) : Word := d.extractLsb' (64 * i) 64

/-- Replace word i of a line's data. -/
def setLineWord (d : BitVec 512) (i : Nat) (w : Word) : BitVec 512 :=
  (d &&& ~~~ ((BitVec.allOnes 512 >>> 448) <<< (64 * i))) ||| (w.setWidth 512 <<< (64 * i))

/-- The atomics of R164. -/
inductive AtomicOp where
  | add64 | add16s | add8s | swap64 | cas64
  deriving DecidableEq, Repr

/-- Saturating lane addition: lanes of w bits, each min(old + op, 2^w - 1) (R164). -/
def addLanes (w n : Nat) (a b : Word) : Word :=
  (List.range n).foldl (fun acc l =>
    let x := (a.toNat / 2 ^ (w * l)) % 2 ^ w + (b.toNat / 2 ^ (w * l)) % 2 ^ w
    let y := if x < 2 ^ w then x else 2 ^ w - 1
    acc ||| (BitVec.ofNat 64 y <<< (w * l))) 0#64

/-- R164: the new value of a code word; none where CAS64 does not match, and the atomic is a read. -/
def atomicResult (op : AtomicOp) (old opnd cmp : Word) : Option Word :=
  match op with
  | .add64 => some (old + opnd)
  | .add16s => some (addLanes 16 4 old opnd)
  | .add8s => some (addLanes 8 8 old opnd)
  | .swap64 => some opnd
  | .cas64 => if old = cmp then some opnd else none

/-- One step of CRC-32C over a bit (reflected polynomial 0x82F6_3B78). -/
def crcBit (c : BitVec 32) : BitVec 32 :=
  if c.getLsbD 0 then (c >>> 1) ^^^ 0x82F63B78#32 else c >>> 1

/-- One step of CRC-32C over a byte. -/
def crcByte (c : BitVec 32) (b : Byte) : BitVec 32 :=
  (List.range 8).foldl (fun acc _ => crcBit acc) (c ^^^ b.setWidth 32)

/-- CRC-32C of a list of bytes (the standard that the manual names; log entry 6). -/
def crc32c (bs : List Byte) : BitVec 32 := ~~~ (bs.foldl crcByte 0xFFFFFFFF#32)

/-- The eight bytes of a word, least significant first. -/
def wordBytes (w : Word) : List Byte := (List.range 8).map (byteOf w)

/-- A word from up to eight bytes, least significant first. -/
def bytesWord : List Byte → Word
  | [] => 0
  | b :: t => b.setWidth 64 ||| (bytesWord t <<< 8)

end Sys2Proof.Machine
end

