-- ==== Sys2Proof/Machine/RegMap.lean ====
section
/-!
DEFINITION. The register map of control space, written from the register tables of the chapters (R5, R81, R109, R133,
R153, R180, R208, R229, R261, R288, R289, R314, R332, R352, R377, R392, R398, R418, R446, R455, R461, R464, R466, R480) and
the block bases of R28: every register with its block, offset, index strides, the bits of each access type (R7) and its
reset value, and every field of it.
-/
namespace Sys2Proof.Machine

/-- The register blocks of R28 (LN splits into lane blocks and quad blocks). -/
inductive Block where
  | SYS
  | CLK
  | PWR
  | RST
  | ERR
  | TB
  | CFG
  | SCR
  | SBK
  | GPIO
  | PMX
  | DBG
  | WDT
  | LCS
  | MGT
  | SMP
  | NOC
  | ARB
  | CE
  | TSET
  | PIN
  | FCU
  | SLC
  | FAB
  | DMC
  | ICE
  | LN
  | LNQ
  | SWP
  | PMON
  deriving DecidableEq, Repr

/-- Address of instance 0 of a block, number of instances, stride (R28). -/
def Block.place : Block → Nat × Nat × Nat
  | .SYS => (0x001800000000, 1, 0x10000)
  | .CLK => (0x001800010000, 1, 0x10000)
  | .PWR => (0x001800020000, 1, 0x10000)
  | .RST => (0x001800030000, 1, 0x10000)
  | .ERR => (0x001800040000, 1, 0x10000)
  | .TB => (0x001800050000, 1, 0x10000)
  | .CFG => (0x001800060000, 1, 0x10000)
  | .SCR => (0x001800070000, 1, 0x10000)
  | .SBK => (0x001800080000, 1, 0x10000)
  | .GPIO => (0x0018000a0000, 1, 0x10000)
  | .PMX => (0x0018000b0000, 1, 0x10000)
  | .DBG => (0x0018000c0000, 1, 0x10000)
  | .WDT => (0x0018000d0000, 9, 0x1000)
  | .LCS => (0x0018000e0000, 1, 0x10000)
  | .MGT => (0x001800100000, 24, 0x1000)
  | .SMP => (0x001801000000, 1, 0x100000)
  | .NOC => (0x001802000000, 64, 0x10000)
  | .ARB => (0x001803000000, 781, 0x1000)
  | .CE => (0x001804000000, 256, 0x10000)
  | .TSET => (0x001805000000, 256, 0x10000)
  | .PIN => (0x001806000000, 1024, 0x1000)
  | .FCU => (0x001807000000, 64, 0x10000)
  | .SLC => (0x001808000000, 256, 0x1000)
  | .FAB => (0x001809000000, 64, 0x10000)
  | .DMC => (0x00180a000000, 12, 0x10000)
  | .ICE => (0x00180b000000, 1, 0x100000)
  | .LN => (0x00180c000000, 144, 0x1000)
  | .LNQ => (0x00180c100000, 36, 0x1000)
  | .SWP => (0x00180d000000, 16, 0x10000)
  | .PMON => (0x00180e000000, 412, 0x1000)

/-- The reset domain that a register's introduction names (R438). -/
inductive RegDomain where
  | powerOn | sys | cluster | slice | smp | sector | net | channel | quad | bridge | instanceBlock | wdt | gpio
  deriving DecidableEq, Repr

/-- Every register of control space that a register table of the chapters gives. -/
inductive RegId where
  | SYS_ID
  | CE_CTRL
  | CE_STATUS
  | CE_FAULT
  | CE_GANG
  | CE_PC
  | CE_INT
  | CE_SRC
  | CE_SCRCFG
  | CE_COMMIT
  | CE_SCRX
  | CE_SCRY
  | TSET_PER
  | TSET_FMT
  | TSET_D
  | TSET_E
  | TSET_C
  | TSET_COMMIT
  | TSET_STATUS
  | PIN_CFG
  | PIN_STATUS
  | PIN_CNT
  | FCU_STATUS
  | FCU_COMMIT
  | FCU_CLR
  | FCU_GCFG
  | FCU_FLIM
  | FCU_RBASE
  | FCU_ABASE
  | FCU_RSIZE
  | FCU_RWP
  | FCU_RRP
  | FCU_ACFG
  | FCU_GSTAT
  | FCU_GCNT
  | FCU_DROP
  | FCU_FIRSTU
  | FCU_PCNT
  | FCU_PFIRST
  | SLC_CTRL
  | SLC_STATUS
  | SLC_BGT
  | SLC_CNT
  | SLC_CELL
  | SBK_CTRL
  | SBK_STATUS
  | SBK_CNT
  | SMP_STATUS
  | SMP_SEAL
  | SMP_CALID
  | SMP_START
  | SMP_CLAIM
  | SMP_WIN
  | SMP_CNT
  | SMP_OOC
  | FAB_STATUS
  | FAB_PORT
  | FAB_COMMIT
  | FAB_CNT
  | FAB_BMERR
  | FAB_PCNT
  | FAB_RCLK
  | CFG_CTRL
  | CFG_SRC
  | CFG_STATUS
  | CFG_IMAGE
  | SCR_CTRL
  | SCR_STATUS
  | SCR_PERIOD
  | SCR_CNT
  | ARB_CFG
  | ARB_COMMIT
  | ARB_STATUS
  | ARB_CNT
  | NOC_CFG
  | NOC_COMMIT
  | NOC_STATUS
  | NOC_CNT
  | NOC_NI
  | NOC_NISTAT
  | NOC_ROUTE
  | DMC_CTRL
  | DMC_CMD
  | DMC_STATUS
  | DMC_TIM
  | DMC_RD
  | DMC_RDLOG
  | DMC_CNT
  | DMC_ILV
  | ICE_CTRL
  | ICE_COMMIT
  | ICE_STATUS
  | ICE_LOCK
  | ICE_RCFG
  | ICE_RSTAT
  | ICE_CNT
  | ICE_BND
  | LN_CFG
  | LN_TXEQ
  | LN_COMMIT
  | LN_STATUS
  | LN_TEST
  | LN_UPAT
  | LN_PCNT
  | LN_PBITS
  | LN_ESCAN
  | LN_ESRES
  | LN_CNT
  | LN_QPLL
  | LN_QCOMMIT
  | LN_QSTATUS
  | SWP_CTRL
  | SWP_COMMIT
  | SWP_STATUS
  | SWP_CNT
  | SWP_LINK
  | SWP_ASYM
  | SWP_KEY
  | SWP_QBASE
  | SWP_QSIZE
  | SWP_QHEAD
  | SWP_QTAIL
  | SWP_RTHEAD
  | SWP_RTTAIL
  | SWP_RTQ
  | SWP_DRT
  | SWP_DEVID
  | TB_TIME
  | TB_FRAC
  | TB_CTRL
  | TB_STEP
  | TB_STATUS
  | ERR_STATUS
  | ERR_PTR
  | ERR_CNT
  | ERR_CKCTRL
  | ERR_CKDATA
  | ERR_CKRD
  | ERR_BMRET
  | ERR_PRT
  | MGT_MBCTL
  | MGT_MBSTAT
  | LCS_STATUS
  | CLK_STATUS
  | CLK_GATE
  | CLK_COMMIT
  | CLK_GLOBAL
  | PWR_REQ
  | PWR_STATUS
  | PWR_ON
  | RST_CAUSE
  | RST_CTRL
  | RST_STATUS
  | GPIO_OUT
  | GPIO_OE
  | GPIO_OD
  | GPIO_IN
  | GPIO_LKMASK
  | GPIO_LOCK
  | GPIO_PMMASK
  | GPIO_PMVAL
  | GPIO_PMCTL
  | GPIO_WAKE
  | GPIO_STATUS
  | PMX_EN
  | PMX_OWN
  | PMX_TCAP
  | PMX_STATUS
  | SYS_RVBAR
  | SYS_CORE_RUN
  | SYS_IRQPOST
  | SYS_WBERR
  | TB_MTIMECMP
  | TB_MSIP
  | WDT_CTRL
  | WDT_PERIOD
  | WDT_KICK
  | WDT_STATUS
  | DBG_STATUS
  | DBG_CTRL
  | DBG_PMTIME
  | DBG_PMCMD
  | DBG_EWCOMMIT
  | DBG_VT_TX
  | DBG_VT_RX
  | DBG_VT_STAT
  | DBG_EWCFG
  | DBG_EWVAL
  | DBG_EWMASK
  | DBG_EWHIT
  | DBG_EWCNT
  | PMON_CTL
  | PMON_STATUS
  | PMON_COMMIT
  | PMON_CYC
  | PMON_SNAPCYC
  | PMON_EVT
  | PMON_CNT
  | PMON_SNAP
  | PMON_FMID
  | PMON_FLO
  | PMON_FHI
  | PMON_WIN
  | PMON_BW
  deriving DecidableEq, Repr

/-- What the register tables say of one register: where it lies, how often it is repeated, which of its bits have which
access type, and its reset value (for a register whose instances differ, the value of most of them: see regReset). -/
structure RegDesc where
  id : RegId
  blk : Block
  dom : RegDomain
  off : Nat
  n1 : Nat := 1
  s1 : Nat := 8
  n2 : Nat := 1
  s2 : Nat := 8
  rw : Nat := 0
  rws : Nat := 0
  rwl : Nat := 0
  w1c : Nat := 0
  rc : Nat := 0
  reset : Nat := 0

/-- The register map (R5 to R480's register tables). -/
def RegId.desc : RegId → RegDesc
  | .SYS_ID => { id := .SYS_ID, blk := .SYS, dom := .powerOn, off := 0x0, reset := 0x20c5144 }
  | .CE_CTRL => { id := .CE_CTRL, blk := .CE, dom := .cluster, off := 0x0 }
  | .CE_STATUS => { id := .CE_STATUS, blk := .CE, dom := .cluster, off := 0x8, w1c := 0x3f0 }
  | .CE_FAULT => { id := .CE_FAULT, blk := .CE, dom := .cluster, off := 0x10 }
  | .CE_GANG => { id := .CE_GANG, blk := .CE, dom := .cluster, off := 0x18, rws := 0x7 }
  | .CE_PC => { id := .CE_PC, blk := .CE, dom := .cluster, off := 0x20, rws := 0xffffffffffff }
  | .CE_INT => { id := .CE_INT, blk := .CE, dom := .cluster, off := 0x28, rw := 0x1 }
  | .CE_SRC => { id := .CE_SRC, blk := .CE, dom := .cluster, off := 0x40, n1 := 4, s1 := 0x8, rws := 0x3f01 }
  | .CE_SCRCFG => { id := .CE_SCRCFG, blk := .CE, dom := .cluster, off := 0x60, rws := 0xffff }
  | .CE_COMMIT => { id := .CE_COMMIT, blk := .CE, dom := .cluster, off := 0x68 }
  | .CE_SCRX => { id := .CE_SCRX, blk := .CE, dom := .cluster, off := 0x100, n1 := 8, s1 := 0x8, rws := 0x3f3f3f3f3f3f3f3f }
  | .CE_SCRY => { id := .CE_SCRY, blk := .CE, dom := .cluster, off := 0x140, n1 := 8, s1 := 0x8, rws := 0x3f3f3f3f3f3f3f3f }
  | .TSET_PER => { id := .TSET_PER, blk := .TSET, dom := .cluster, off := 0x0, n1 := 64, s1 := 0x100, rws := 0xffffffff }
  | .TSET_FMT => { id := .TSET_FMT, blk := .TSET, dom := .cluster, off := 0x40, n1 := 64, s1 := 0x100, n2 := 4, s2 := 0x20, rws := 0x7 }
  | .TSET_D => { id := .TSET_D, blk := .TSET, dom := .cluster, off := 0x48, n1 := 64, s1 := 0x100, n2 := 4, s2 := 0x20, rws := 0xffffff00ffffff }
  | .TSET_E => { id := .TSET_E, blk := .TSET, dom := .cluster, off := 0x50, n1 := 64, s1 := 0x100, n2 := 4, s2 := 0x20, rws := 0xffffff00ffffff }
  | .TSET_C => { id := .TSET_C, blk := .TSET, dom := .cluster, off := 0x58, n1 := 64, s1 := 0x100, n2 := 4, s2 := 0x20, rws := 0xffffff00ffffff }
  | .TSET_COMMIT => { id := .TSET_COMMIT, blk := .TSET, dom := .cluster, off := 0x4000 }
  | .TSET_STATUS => { id := .TSET_STATUS, blk := .TSET, dom := .cluster, off := 0x4008, w1c := 0x1 }
  | .PIN_CFG => { id := .PIN_CFG, blk := .PIN, dom := .cluster, off := 0x0, rw := 0x377, reset := 0x2 }
  | .PIN_STATUS => { id := .PIN_STATUS, blk := .PIN, dom := .cluster, off := 0x8, w1c := 0x1d }
  | .PIN_CNT => { id := .PIN_CNT, blk := .PIN, dom := .cluster, off := 0x10, rc := 0xffffffffffff }
  | .FCU_STATUS => { id := .FCU_STATUS, blk := .FCU, dom := .cluster, off := 0x0, w1c := 0x200000000000000, reset := 0x40008080000000 }
  | .FCU_COMMIT => { id := .FCU_COMMIT, blk := .FCU, dom := .cluster, off := 0x8 }
  | .FCU_CLR => { id := .FCU_CLR, blk := .FCU, dom := .cluster, off := 0x10 }
  | .FCU_GCFG => { id := .FCU_GCFG, blk := .FCU, dom := .cluster, off := 0x100, n1 := 4, s1 := 0x100, rws := 0xfff, reset := 0x80 }
  | .FCU_FLIM => { id := .FCU_FLIM, blk := .FCU, dom := .cluster, off := 0x108, n1 := 4, s1 := 0x100, rws := 0xffffffff }
  | .FCU_RBASE => { id := .FCU_RBASE, blk := .FCU, dom := .cluster, off := 0x110, n1 := 4, s1 := 0x100, rws := 0xffffffffffe0 }
  | .FCU_ABASE => { id := .FCU_ABASE, blk := .FCU, dom := .cluster, off := 0x138, n1 := 4, s1 := 0x100, rws := 0xfffffffffff8 }
  | .FCU_RSIZE => { id := .FCU_RSIZE, blk := .FCU, dom := .cluster, off := 0x118, n1 := 4, s1 := 0x100, rws := 0xffffff }
  | .FCU_RWP => { id := .FCU_RWP, blk := .FCU, dom := .cluster, off := 0x120, n1 := 4, s1 := 0x100 }
  | .FCU_RRP => { id := .FCU_RRP, blk := .FCU, dom := .cluster, off := 0x128, n1 := 4, s1 := 0x100, rw := 0xffffff }
  | .FCU_ACFG => { id := .FCU_ACFG, blk := .FCU, dom := .cluster, off := 0x130, n1 := 4, s1 := 0x100, rws := 0x1ffff }
  | .FCU_GSTAT => { id := .FCU_GSTAT, blk := .FCU, dom := .cluster, off := 0x140, n1 := 4, s1 := 0x100, w1c := 0x7c4 }
  | .FCU_GCNT => { id := .FCU_GCNT, blk := .FCU, dom := .cluster, off := 0x148, n1 := 4, s1 := 0x100 }
  | .FCU_DROP => { id := .FCU_DROP, blk := .FCU, dom := .cluster, off := 0x150, n1 := 4, s1 := 0x100 }
  | .FCU_FIRSTU => { id := .FCU_FIRSTU, blk := .FCU, dom := .cluster, off := 0x158, n1 := 4, s1 := 0x100 }
  | .FCU_PCNT => { id := .FCU_PCNT, blk := .FCU, dom := .cluster, off := 0x1000, n1 := 16, s1 := 0x10 }
  | .FCU_PFIRST => { id := .FCU_PFIRST, blk := .FCU, dom := .cluster, off := 0x1008, n1 := 16, s1 := 0x10 }
  | .SLC_CTRL => { id := .SLC_CTRL, blk := .SLC, dom := .slice, off := 0x0, rw := 0xffff0003, reset := 0x1 }
  | .SLC_STATUS => { id := .SLC_STATUS, blk := .SLC, dom := .slice, off := 0x8, w1c := 0x1c }
  | .SLC_BGT => { id := .SLC_BGT, blk := .SLC, dom := .slice, off := 0x10 }
  | .SLC_CNT => { id := .SLC_CNT, blk := .SLC, dom := .slice, off := 0x18, rc := 0xffffffffffffffff }
  | .SLC_CELL => { id := .SLC_CELL, blk := .SLC, dom := .slice, off := 0x20, w1c := 0x8000000000000000 }
  | .SBK_CTRL => { id := .SBK_CTRL, blk := .SBK, dom := .powerOn, off := 0x0 }
  | .SBK_STATUS => { id := .SBK_STATUS, blk := .SBK, dom := .powerOn, off := 0x8 }
  | .SBK_CNT => { id := .SBK_CNT, blk := .SBK, dom := .powerOn, off := 0x10, rc := 0xffffffffffff }
  | .SMP_STATUS => { id := .SMP_STATUS, blk := .SMP, dom := .smp, off := 0x0, w1c := 0x800 }
  | .SMP_SEAL => { id := .SMP_SEAL, blk := .SMP, dom := .smp, off := 0x8 }
  | .SMP_CALID => { id := .SMP_CALID, blk := .SMP, dom := .smp, off := 0x10 }
  | .SMP_START => { id := .SMP_START, blk := .SMP, dom := .smp, off := 0x18 }
  | .SMP_CLAIM => { id := .SMP_CLAIM, blk := .SMP, dom := .smp, off := 0x20, rc := 0x800000000000000f }
  | .SMP_WIN => { id := .SMP_WIN, blk := .SMP, dom := .smp, off := 0x28 }
  | .SMP_CNT => { id := .SMP_CNT, blk := .SMP, dom := .smp, off := 0x30, rc := 0xffffffff00000000 }
  | .SMP_OOC => { id := .SMP_OOC, blk := .SMP, dom := .smp, off := 0x100, n1 := 16, s1 := 0x8 }
  | .FAB_STATUS => { id := .FAB_STATUS, blk := .FAB, dom := .sector, off := 0x0, w1c := 0xf8 }
  | .FAB_PORT => { id := .FAB_PORT, blk := .FAB, dom := .sector, off := 0x8, rws := 0x3ffc1ffff }
  | .FAB_COMMIT => { id := .FAB_COMMIT, blk := .FAB, dom := .sector, off := 0x10 }
  | .FAB_CNT => { id := .FAB_CNT, blk := .FAB, dom := .sector, off := 0x18, rc := 0xffffffffffffffff }
  | .FAB_BMERR => { id := .FAB_BMERR, blk := .FAB, dom := .sector, off := 0x20, w1c := 0x8000000000000000 }
  | .FAB_PCNT => { id := .FAB_PCNT, blk := .FAB, dom := .sector, off := 0x28, rc := 0xffffffff }
  | .FAB_RCLK => { id := .FAB_RCLK, blk := .FAB, dom := .sector, off := 0x40, n1 := 16, s1 := 0x8, rws := 0x1fff7f, reset := 0x800 }
  | .CFG_CTRL => { id := .CFG_CTRL, blk := .CFG, dom := .powerOn, off := 0x0 }
  | .CFG_SRC => { id := .CFG_SRC, blk := .CFG, dom := .powerOn, off := 0x8, rw := 0xc000ffffffffffff }
  | .CFG_STATUS => { id := .CFG_STATUS, blk := .CFG, dom := .powerOn, off := 0x10, w1c := 0x30000 }
  | .CFG_IMAGE => { id := .CFG_IMAGE, blk := .CFG, dom := .powerOn, off := 0x18 }
  | .SCR_CTRL => { id := .SCR_CTRL, blk := .SCR, dom := .powerOn, off := 0x0, rw := 0xffff03, reset := 0x100103 }
  | .SCR_STATUS => { id := .SCR_STATUS, blk := .SCR, dom := .powerOn, off := 0x8, w1c := 0x8000000000000006 }
  | .SCR_PERIOD => { id := .SCR_PERIOD, blk := .SCR, dom := .powerOn, off := 0x100, n1 := 64, s1 := 0x8, rw := 0x3fff, reset := 0x3e8 }
  | .SCR_CNT => { id := .SCR_CNT, blk := .SCR, dom := .powerOn, off := 0x300, n1 := 64, s1 := 0x8, rc := 0xffffffffffffffff }
  | .ARB_CFG => { id := .ARB_CFG, blk := .ARB, dom := .instanceBlock, off := 0x0, n1 := 8, s1 := 0x8, rws := 0xffffffffffff000f }
  | .ARB_COMMIT => { id := .ARB_COMMIT, blk := .ARB, dom := .instanceBlock, off := 0x100 }
  | .ARB_STATUS => { id := .ARB_STATUS, blk := .ARB, dom := .instanceBlock, off := 0x108, w1c := 0xff }
  | .ARB_CNT => { id := .ARB_CNT, blk := .ARB, dom := .instanceBlock, off := 0x200, n1 := 8, s1 := 0x8, rc := 0xffffffffffffffff }
  | .NOC_CFG => { id := .NOC_CFG, blk := .NOC, dom := .net, off := 0x0, rws := 0x3ff00ff }
  | .NOC_COMMIT => { id := .NOC_COMMIT, blk := .NOC, dom := .net, off := 0x8 }
  | .NOC_STATUS => { id := .NOC_STATUS, blk := .NOC, dom := .net, off := 0x10, w1c := 0x40000 }
  | .NOC_CNT => { id := .NOC_CNT, blk := .NOC, dom := .net, off := 0x18, rc := 0xffffffffffffffff }
  | .NOC_NI => { id := .NOC_NI, blk := .NOC, dom := .net, off := 0x40, n1 := 8, s1 := 0x8, rws := 0xffff0007, reset := 0x4000005 }
  | .NOC_NISTAT => { id := .NOC_NISTAT, blk := .NOC, dom := .net, off := 0x80, n1 := 8, s1 := 0x8, reset := 0x4000000 }
  | .NOC_ROUTE => { id := .NOC_ROUTE, blk := .NOC, dom := .net, off := 0x8000, n1 := 6, s1 := 0x1000, n2 := 512, s2 := 0x8, rws := 0x7fffffffff, reset := 0x2000000000 }
  | .DMC_CTRL => { id := .DMC_CTRL, blk := .DMC, dom := .channel, off := 0x0, rw := 0xffffff0038, reset := 0x4000400008 }
  | .DMC_CMD => { id := .DMC_CMD, blk := .DMC, dom := .channel, off := 0x8 }
  | .DMC_STATUS => { id := .DMC_STATUS, blk := .DMC, dom := .channel, off := 0x10, w1c := 0xf8, reset := 0x1000 }
  | .DMC_TIM => { id := .DMC_TIM, blk := .DMC, dom := .powerOn, off := 0x20, n1 := 2, s1 := 0x8, rws := 0xffffffff00ffffff }
  | .DMC_RD => { id := .DMC_RD, blk := .DMC, dom := .channel, off := 0x30, rw := 0xffffffff0001ffff, reset := 0x3e8010000012000 }
  | .DMC_RDLOG => { id := .DMC_RDLOG, blk := .DMC, dom := .channel, off := 0x38, w1c := 0x8000000000000000 }
  | .DMC_CNT => { id := .DMC_CNT, blk := .DMC, dom := .channel, off := 0x40, rc := 0xffffffffffffffff }
  | .DMC_ILV => { id := .DMC_ILV, blk := .DMC, dom := .powerOn, off := 0xf000, rwl := 0xf7, reset := 0x22 }
  | .ICE_CTRL => { id := .ICE_CTRL, blk := .ICE, dom := .powerOn, off := 0x0 }
  | .ICE_COMMIT => { id := .ICE_COMMIT, blk := .ICE, dom := .powerOn, off := 0x8 }
  | .ICE_STATUS => { id := .ICE_STATUS, blk := .ICE, dom := .powerOn, off := 0x10, w1c := 0x1 }
  | .ICE_LOCK => { id := .ICE_LOCK, blk := .ICE, dom := .powerOn, off := 0x18, rw := 0xffffffff, reset := 0x1003e8 }
  | .ICE_RCFG => { id := .ICE_RCFG, blk := .ICE, dom := .powerOn, off := 0x100, n1 := 16, s1 := 0x8, rws := 0x307ff07ff07ff }
  | .ICE_RSTAT => { id := .ICE_RSTAT, blk := .ICE, dom := .powerOn, off := 0x200, n1 := 16, s1 := 0x8, rw := 0xffffffff00000000, w1c := 0x80, reset := 0x4000000000 }
  | .ICE_CNT => { id := .ICE_CNT, blk := .ICE, dom := .powerOn, off := 0x300, n1 := 16, s1 := 0x8, rc := 0xffffffffffffffff }
  | .ICE_BND => { id := .ICE_BND, blk := .ICE, dom := .powerOn, off := 0x1000, n1 := 16, s1 := 0x80, n2 := 12, s2 := 0x8 }
  | .LN_CFG => { id := .LN_CFG, blk := .LN, dom := .quad, off := 0x0, rws := 0xf8ff8ffff00, reset := 0x50000400000 }
  | .LN_TXEQ => { id := .LN_TXEQ, blk := .LN, dom := .quad, off := 0x8, rws := 0x1f3f0f, reset := 0x3f00 }
  | .LN_COMMIT => { id := .LN_COMMIT, blk := .LN, dom := .quad, off := 0x10 }
  | .LN_STATUS => { id := .LN_STATUS, blk := .LN, dom := .quad, off := 0x18, w1c := 0x1f80, reset := 0x3f0000000000 }
  | .LN_TEST => { id := .LN_TEST, blk := .LN, dom := .quad, off := 0x20, rw := 0xffff007f000003ff, reset := 0x4000000000000 }
  | .LN_UPAT => { id := .LN_UPAT, blk := .LN, dom := .quad, off := 0x28, rw := 0xffffffffffffffff }
  | .LN_PCNT => { id := .LN_PCNT, blk := .LN, dom := .quad, off := 0x30 }
  | .LN_PBITS => { id := .LN_PBITS, blk := .LN, dom := .quad, off := 0x38 }
  | .LN_ESCAN => { id := .LN_ESCAN, blk := .LN, dom := .quad, off := 0x40, rw := 0x3fff3f06, reset := 0x14000000 }
  | .LN_ESRES => { id := .LN_ESRES, blk := .LN, dom := .quad, off := 0x48 }
  | .LN_CNT => { id := .LN_CNT, blk := .LN, dom := .quad, off := 0x50, rc := 0xffffffffffffffff }
  | .LN_QPLL => { id := .LN_QPLL, blk := .LNQ, dom := .quad, off := 0x0, rws := 0xfffff000fffff, reset := 0x186a000006400 }
  | .LN_QCOMMIT => { id := .LN_QCOMMIT, blk := .LNQ, dom := .quad, off := 0x8 }
  | .LN_QSTATUS => { id := .LN_QSTATUS, blk := .LNQ, dom := .quad, off := 0x10, w1c := 0x4 }
  | .SWP_CTRL => { id := .SWP_CTRL, blk := .SWP, dom := .bridge, off := 0x0, rws := 0x7fff }
  | .SWP_COMMIT => { id := .SWP_COMMIT, blk := .SWP, dom := .bridge, off := 0x8 }
  | .SWP_STATUS => { id := .SWP_STATUS, blk := .SWP, dom := .bridge, off := 0x10, w1c := 0x300 }
  | .SWP_CNT => { id := .SWP_CNT, blk := .SWP, dom := .bridge, off := 0x18, rc := 0xffffffffffffffff }
  | .SWP_LINK => { id := .SWP_LINK, blk := .SWP, dom := .bridge, off := 0x20 }
  | .SWP_ASYM => { id := .SWP_ASYM, blk := .SWP, dom := .bridge, off := 0x28, rw := 0xffffffff }
  | .SWP_KEY => { id := .SWP_KEY, blk := .SWP, dom := .bridge, off := 0x30 }
  | .SWP_QBASE => { id := .SWP_QBASE, blk := .SWP, dom := .bridge, off := 0x40, rws := 0xffffffffffe0 }
  | .SWP_QSIZE => { id := .SWP_QSIZE, blk := .SWP, dom := .bridge, off := 0x48, rws := 0xffff }
  | .SWP_QHEAD => { id := .SWP_QHEAD, blk := .SWP, dom := .bridge, off := 0x50, rw := 0xffff }
  | .SWP_QTAIL => { id := .SWP_QTAIL, blk := .SWP, dom := .bridge, off := 0x58 }
  | .SWP_RTHEAD => { id := .SWP_RTHEAD, blk := .SWP, dom := .bridge, off := 0x60, rw := 0xf }
  | .SWP_RTTAIL => { id := .SWP_RTTAIL, blk := .SWP, dom := .bridge, off := 0x68 }
  | .SWP_RTQ => { id := .SWP_RTQ, blk := .SWP, dom := .bridge, off := 0x400, n1 := 16, s1 := 0x20, n2 := 4, s2 := 0x8, rw := 0xffffffffffffffff }
  | .SWP_DRT => { id := .SWP_DRT, blk := .SWP, dom := .bridge, off := 0x4000, n1 := 1280, s1 := 0x8, rw := 0xbffffffffc000000 }
  | .SWP_DEVID => { id := .SWP_DEVID, blk := .SWP, dom := .powerOn, off := 0xf000, rwl := 0x800000000007ffff }
  | .TB_TIME => { id := .TB_TIME, blk := .TB, dom := .powerOn, off := 0x0 }
  | .TB_FRAC => { id := .TB_FRAC, blk := .TB, dom := .powerOn, off := 0x8 }
  | .TB_CTRL => { id := .TB_CTRL, blk := .TB, dom := .powerOn, off := 0x10, rw := 0x1ff3, reset := 0xc00 }
  | .TB_STEP => { id := .TB_STEP, blk := .TB, dom := .powerOn, off := 0x18 }
  | .TB_STATUS => { id := .TB_STATUS, blk := .TB, dom := .powerOn, off := 0x20, w1c := 0x18 }
  | .ERR_STATUS => { id := .ERR_STATUS, blk := .ERR, dom := .powerOn, off := 0x0, w1c := 0x3 }
  | .ERR_PTR => { id := .ERR_PTR, blk := .ERR, dom := .powerOn, off := 0x8, rw := 0x1ff }
  | .ERR_CNT => { id := .ERR_CNT, blk := .ERR, dom := .powerOn, off := 0x10, rc := 0xffffffff }
  | .ERR_CKCTRL => { id := .ERR_CKCTRL, blk := .ERR, dom := .powerOn, off := 0x20, rw := 0xff07 }
  | .ERR_CKDATA => { id := .ERR_CKDATA, blk := .ERR, dom := .powerOn, off := 0x28, rw := 0xffffffffffffffff }
  | .ERR_CKRD => { id := .ERR_CKRD, blk := .ERR, dom := .powerOn, off := 0x30 }
  | .ERR_BMRET => { id := .ERR_BMRET, blk := .ERR, dom := .powerOn, off := 0x1000, n1 := 160, s1 := 0x8, rw := 0xffffffffffffffff }
  | .ERR_PRT => { id := .ERR_PRT, blk := .ERR, dom := .powerOn, off := 0x2000, n1 := 256, s1 := 0x8, rw := 0x8000fffffffff000 }
  | .MGT_MBCTL => { id := .MGT_MBCTL, blk := .MGT, dom := .sys, off := 0xff0 }
  | .MGT_MBSTAT => { id := .MGT_MBSTAT, blk := .MGT, dom := .sys, off := 0xff8 }
  | .LCS_STATUS => { id := .LCS_STATUS, blk := .LCS, dom := .powerOn, off := 0x0 }
  | .CLK_STATUS => { id := .CLK_STATUS, blk := .CLK, dom := .powerOn, off := 0x0, w1c := 0xff000800 }
  | .CLK_GATE => { id := .CLK_GATE, blk := .CLK, dom := .powerOn, off := 0x8, rw := 0x3f }
  | .CLK_COMMIT => { id := .CLK_COMMIT, blk := .CLK, dom := .powerOn, off := 0x10 }
  | .CLK_GLOBAL => { id := .CLK_GLOBAL, blk := .CLK, dom := .powerOn, off := 0x100, n1 := 32, s1 := 0x8, rws := 0x11fff, reset := 0x8 }
  | .PWR_REQ => { id := .PWR_REQ, blk := .PWR, dom := .sys, off := 0x0 }
  | .PWR_STATUS => { id := .PWR_STATUS, blk := .PWR, dom := .sys, off := 0x8, w1c := 0x2 }
  | .PWR_ON => { id := .PWR_ON, blk := .PWR, dom := .sys, off := 0x100, n1 := 8, s1 := 0x8 }
  | .RST_CAUSE => { id := .RST_CAUSE, blk := .RST, dom := .powerOn, off := 0x0 }
  | .RST_CTRL => { id := .RST_CTRL, blk := .RST, dom := .sys, off := 0x8 }
  | .RST_STATUS => { id := .RST_STATUS, blk := .RST, dom := .sys, off := 0x10, w1c := 0x2 }
  | .GPIO_OUT => { id := .GPIO_OUT, blk := .GPIO, dom := .gpio, off := 0x0, rw := 0xffffffffffffffff }
  | .GPIO_OE => { id := .GPIO_OE, blk := .GPIO, dom := .gpio, off := 0x8, rwl := 0xffffffffffffffff }
  | .GPIO_OD => { id := .GPIO_OD, blk := .GPIO, dom := .gpio, off := 0x10, rwl := 0xffffffffffffffff }
  | .GPIO_IN => { id := .GPIO_IN, blk := .GPIO, dom := .gpio, off := 0x18 }
  | .GPIO_LKMASK => { id := .GPIO_LKMASK, blk := .GPIO, dom := .gpio, off := 0x20, rwl := 0xffffffffffffffff }
  | .GPIO_LOCK => { id := .GPIO_LOCK, blk := .GPIO, dom := .gpio, off := 0x28 }
  | .GPIO_PMMASK => { id := .GPIO_PMMASK, blk := .GPIO, dom := .gpio, off := 0x30, rw := 0xffffffffffffffff }
  | .GPIO_PMVAL => { id := .GPIO_PMVAL, blk := .GPIO, dom := .gpio, off := 0x38, rw := 0xffffffffffffffff }
  | .GPIO_PMCTL => { id := .GPIO_PMCTL, blk := .GPIO, dom := .sys, off := 0x40, rw := 0x3, w1c := 0x4 }
  | .GPIO_WAKE => { id := .GPIO_WAKE, blk := .GPIO, dom := .powerOn, off := 0x48, rw := 0xffffffff }
  | .GPIO_STATUS => { id := .GPIO_STATUS, blk := .GPIO, dom := .sys, off := 0x50, w1c := 0x1 }
  | .PMX_EN => { id := .PMX_EN, blk := .PMX, dom := .sys, off := 0x0, rw := 0xfff, reset := 0x1 }
  | .PMX_OWN => { id := .PMX_OWN, blk := .PMX, dom := .sys, off := 0x10, n1 := 4, s1 := 0x8 }
  | .PMX_TCAP => { id := .PMX_TCAP, blk := .PMX, dom := .sys, off := 0x40, n1 := 4, s1 := 0x8, rw := 0xffffffffffffffff }
  | .PMX_STATUS => { id := .PMX_STATUS, blk := .PMX, dom := .sys, off := 0x60 }
  | .SYS_RVBAR => { id := .SYS_RVBAR, blk := .SYS, dom := .sys, off := 0x100, n1 := 8, s1 := 0x8, rw := 0xffffffffffff }
  | .SYS_CORE_RUN => { id := .SYS_CORE_RUN, blk := .SYS, dom := .sys, off := 0x140, rw := 0xff, w1c := 0x100 }
  | .SYS_IRQPOST => { id := .SYS_IRQPOST, blk := .SYS, dom := .sys, off := 0x148 }
  | .SYS_WBERR => { id := .SYS_WBERR, blk := .SYS, dom := .sys, off := 0x180, n1 := 8, s1 := 0x8, w1c := 0x8000000000000000 }
  | .TB_MTIMECMP => { id := .TB_MTIMECMP, blk := .TB, dom := .sys, off := 0x1000, n1 := 8, s1 := 0x8, rw := 0xffffffffffffffff, reset := 0xffffffffffffffff }
  | .TB_MSIP => { id := .TB_MSIP, blk := .TB, dom := .sys, off := 0x1040, n1 := 8, s1 := 0x8, rw := 0x1 }
  | .WDT_CTRL => { id := .WDT_CTRL, blk := .WDT, dom := .wdt, off := 0x0, rwl := 0x3 }
  | .WDT_PERIOD => { id := .WDT_PERIOD, blk := .WDT, dom := .wdt, off := 0x8, rwl := 0xffffffff }
  | .WDT_KICK => { id := .WDT_KICK, blk := .WDT, dom := .wdt, off := 0x10 }
  | .WDT_STATUS => { id := .WDT_STATUS, blk := .WDT, dom := .wdt, off := 0x18, w1c := 0xc }
  | .DBG_STATUS => { id := .DBG_STATUS, blk := .DBG, dom := .sys, off := 0x0, w1c := 0x10000, rc := 0xff00 }
  | .DBG_CTRL => { id := .DBG_CTRL, blk := .DBG, dom := .sys, off := 0x8, rw := 0x3, reset := 0x1 }
  | .DBG_PMTIME => { id := .DBG_PMTIME, blk := .DBG, dom := .sys, off := 0x20, rw := 0xffffffffffffffff }
  | .DBG_PMCMD => { id := .DBG_PMCMD, blk := .DBG, dom := .sys, off := 0x28 }
  | .DBG_EWCOMMIT => { id := .DBG_EWCOMMIT, blk := .DBG, dom := .sys, off := 0x30 }
  | .DBG_VT_TX => { id := .DBG_VT_TX, blk := .DBG, dom := .sys, off := 0x100, n1 := 8, s1 := 0x20, rw := 0x7ffffffffffffff }
  | .DBG_VT_RX => { id := .DBG_VT_RX, blk := .DBG, dom := .sys, off := 0x108, n1 := 8, s1 := 0x20, rw := 0x7ffffffffffffff }
  | .DBG_VT_STAT => { id := .DBG_VT_STAT, blk := .DBG, dom := .sys, off := 0x110, n1 := 8, s1 := 0x20, rw := 0x10, w1c := 0xc }
  | .DBG_EWCFG => { id := .DBG_EWCFG, blk := .DBG, dom := .sys, off := 0x1000, n1 := 16, s1 := 0x40, rws := 0xff3f }
  | .DBG_EWVAL => { id := .DBG_EWVAL, blk := .DBG, dom := .sys, off := 0x1008, n1 := 16, s1 := 0x40, rws := 0xffffffffffffffff }
  | .DBG_EWMASK => { id := .DBG_EWMASK, blk := .DBG, dom := .sys, off := 0x1010, n1 := 16, s1 := 0x40, rws := 0xffffffffffffffff }
  | .DBG_EWHIT => { id := .DBG_EWHIT, blk := .DBG, dom := .sys, off := 0x1018, n1 := 16, s1 := 0x40, w1c := 0x8000000000000000 }
  | .DBG_EWCNT => { id := .DBG_EWCNT, blk := .DBG, dom := .sys, off := 0x1020, n1 := 16, s1 := 0x40, rc := 0xffffffff }
  | .PMON_CTL => { id := .PMON_CTL, blk := .PMON, dom := .instanceBlock, off := 0x0, rw := 0x3 }
  | .PMON_STATUS => { id := .PMON_STATUS, blk := .PMON, dom := .instanceBlock, off := 0x8, w1c := 0xdff }
  | .PMON_COMMIT => { id := .PMON_COMMIT, blk := .PMON, dom := .instanceBlock, off := 0x10 }
  | .PMON_CYC => { id := .PMON_CYC, blk := .PMON, dom := .instanceBlock, off := 0x18 }
  | .PMON_SNAPCYC => { id := .PMON_SNAPCYC, blk := .PMON, dom := .instanceBlock, off := 0x100 }
  | .PMON_EVT => { id := .PMON_EVT, blk := .PMON, dom := .instanceBlock, off := 0x40, n1 := 8, s1 := 0x8, rws := 0xfff }
  | .PMON_CNT => { id := .PMON_CNT, blk := .PMON, dom := .instanceBlock, off := 0x80, n1 := 8, s1 := 0x8, rw := 0xffffffffffff }
  | .PMON_SNAP => { id := .PMON_SNAP, blk := .PMON, dom := .instanceBlock, off := 0xc0, n1 := 8, s1 := 0x8 }
  | .PMON_FMID => { id := .PMON_FMID, blk := .PMON, dom := .instanceBlock, off := 0x140, rws := 0xf03ff03ff }
  | .PMON_FLO => { id := .PMON_FLO, blk := .PMON, dom := .instanceBlock, off := 0x148, rws := 0xffffffffffff }
  | .PMON_FHI => { id := .PMON_FHI, blk := .PMON, dom := .instanceBlock, off := 0x150, rws := 0xffffffffffff, reset := 0xffffffffffff }
  | .PMON_WIN => { id := .PMON_WIN, blk := .PMON, dom := .instanceBlock, off := 0x160, rws := 0xffffffff }
  | .PMON_BW => { id := .PMON_BW, blk := .PMON, dom := .instanceBlock, off := 0x180, n1 := 8, s1 := 0x8 }

/-- The registers of one block, in the order of its chapter. -/
def blockRegs : Block → List RegId
  | .SYS => [.SYS_ID, .SYS_RVBAR, .SYS_CORE_RUN, .SYS_IRQPOST, .SYS_WBERR]
  | .CLK => [.CLK_STATUS, .CLK_GATE, .CLK_COMMIT, .CLK_GLOBAL]
  | .PWR => [.PWR_REQ, .PWR_STATUS, .PWR_ON]
  | .RST => [.RST_CAUSE, .RST_CTRL, .RST_STATUS]
  | .ERR => [.ERR_STATUS, .ERR_PTR, .ERR_CNT, .ERR_CKCTRL, .ERR_CKDATA, .ERR_CKRD, .ERR_BMRET, .ERR_PRT]
  | .TB => [.TB_TIME, .TB_FRAC, .TB_CTRL, .TB_STEP, .TB_STATUS, .TB_MTIMECMP, .TB_MSIP]
  | .CFG => [.CFG_CTRL, .CFG_SRC, .CFG_STATUS, .CFG_IMAGE]
  | .SCR => [.SCR_CTRL, .SCR_STATUS, .SCR_PERIOD, .SCR_CNT]
  | .SBK => [.SBK_CTRL, .SBK_STATUS, .SBK_CNT]
  | .GPIO => [.GPIO_OUT, .GPIO_OE, .GPIO_OD, .GPIO_IN, .GPIO_LKMASK, .GPIO_LOCK, .GPIO_PMMASK, .GPIO_PMVAL, .GPIO_PMCTL, .GPIO_WAKE, .GPIO_STATUS]
  | .PMX => [.PMX_EN, .PMX_OWN, .PMX_TCAP, .PMX_STATUS]
  | .DBG => [.DBG_STATUS, .DBG_CTRL, .DBG_PMTIME, .DBG_PMCMD, .DBG_EWCOMMIT, .DBG_VT_TX, .DBG_VT_RX, .DBG_VT_STAT, .DBG_EWCFG, .DBG_EWVAL, .DBG_EWMASK, .DBG_EWHIT, .DBG_EWCNT]
  | .WDT => [.WDT_CTRL, .WDT_PERIOD, .WDT_KICK, .WDT_STATUS]
  | .LCS => [.LCS_STATUS]
  | .MGT => [.MGT_MBCTL, .MGT_MBSTAT]
  | .SMP => [.SMP_STATUS, .SMP_SEAL, .SMP_CALID, .SMP_START, .SMP_CLAIM, .SMP_WIN, .SMP_CNT, .SMP_OOC]
  | .NOC => [.NOC_CFG, .NOC_COMMIT, .NOC_STATUS, .NOC_CNT, .NOC_NI, .NOC_NISTAT, .NOC_ROUTE]
  | .ARB => [.ARB_CFG, .ARB_COMMIT, .ARB_STATUS, .ARB_CNT]
  | .CE => [.CE_CTRL, .CE_STATUS, .CE_FAULT, .CE_GANG, .CE_PC, .CE_INT, .CE_SRC, .CE_SCRCFG, .CE_COMMIT, .CE_SCRX, .CE_SCRY]
  | .TSET => [.TSET_PER, .TSET_FMT, .TSET_D, .TSET_E, .TSET_C, .TSET_COMMIT, .TSET_STATUS]
  | .PIN => [.PIN_CFG, .PIN_STATUS, .PIN_CNT]
  | .FCU => [.FCU_STATUS, .FCU_COMMIT, .FCU_CLR, .FCU_GCFG, .FCU_FLIM, .FCU_RBASE, .FCU_ABASE, .FCU_RSIZE, .FCU_RWP, .FCU_RRP, .FCU_ACFG, .FCU_GSTAT, .FCU_GCNT, .FCU_DROP, .FCU_FIRSTU, .FCU_PCNT, .FCU_PFIRST]
  | .SLC => [.SLC_CTRL, .SLC_STATUS, .SLC_BGT, .SLC_CNT, .SLC_CELL]
  | .FAB => [.FAB_STATUS, .FAB_PORT, .FAB_COMMIT, .FAB_CNT, .FAB_BMERR, .FAB_PCNT, .FAB_RCLK]
  | .DMC => [.DMC_CTRL, .DMC_CMD, .DMC_STATUS, .DMC_TIM, .DMC_RD, .DMC_RDLOG, .DMC_CNT, .DMC_ILV]
  | .ICE => [.ICE_CTRL, .ICE_COMMIT, .ICE_STATUS, .ICE_LOCK, .ICE_RCFG, .ICE_RSTAT, .ICE_CNT, .ICE_BND]
  | .LN => [.LN_CFG, .LN_TXEQ, .LN_COMMIT, .LN_STATUS, .LN_TEST, .LN_UPAT, .LN_PCNT, .LN_PBITS, .LN_ESCAN, .LN_ESRES, .LN_CNT]
  | .LNQ => [.LN_QPLL, .LN_QCOMMIT, .LN_QSTATUS]
  | .SWP => [.SWP_CTRL, .SWP_COMMIT, .SWP_STATUS, .SWP_CNT, .SWP_LINK, .SWP_ASYM, .SWP_KEY, .SWP_QBASE, .SWP_QSIZE, .SWP_QHEAD, .SWP_QTAIL, .SWP_RTHEAD, .SWP_RTTAIL, .SWP_RTQ, .SWP_DRT, .SWP_DEVID]
  | .PMON => [.PMON_CTL, .PMON_STATUS, .PMON_COMMIT, .PMON_CYC, .PMON_SNAPCYC, .PMON_EVT, .PMON_CNT, .PMON_SNAP, .PMON_FMID, .PMON_FLO, .PMON_FHI, .PMON_WIN, .PMON_BW]

/-- Every register block. -/
def Block.all : List Block := [.SYS, .CLK, .PWR, .RST, .ERR, .TB, .CFG, .SCR, .SBK, .GPIO, .PMX, .DBG, .WDT, .LCS, .MGT, .SMP, .NOC, .ARB, .CE, .TSET, .PIN, .FCU, .SLC, .FAB, .DMC, .ICE, .LN, .LNQ, .SWP, .PMON]

/-- A field of a register: bits hi down to lo. -/
structure Fld where
  reg : RegId
  hi : Nat
  lo : Nat
  deriving DecidableEq, Repr

namespace F

def SYS_ID_STEP : Fld := ⟨.SYS_ID, 27, 24⟩
def SYS_ID_FAMILY : Fld := ⟨.SYS_ID, 23, 12⟩
def SYS_ID_PART : Fld := ⟨.SYS_ID, 11, 0⟩
def CE_CTRL_BBINV : Fld := ⟨.CE_CTRL, 7, 7⟩
def CE_CTRL_CLEAR : Fld := ⟨.CE_CTRL, 6, 6⟩
def CE_CTRL_ABORT : Fld := ⟨.CE_CTRL, 5, 5⟩
def CE_CTRL_ANALYZE : Fld := ⟨.CE_CTRL, 4, 4⟩
def CE_CTRL_DISARM : Fld := ⟨.CE_CTRL, 3, 3⟩
def CE_CTRL_ARM : Fld := ⟨.CE_CTRL, 2, 2⟩
def CE_STATUS_MACSAT : Fld := ⟨.CE_STATUS, 9, 9⟩
def CE_STATUS_CFGERR : Fld := ⟨.CE_STATUS, 8, 8⟩
def CE_STATUS_CTLERR : Fld := ⟨.CE_STATUS, 7, 7⟩
def CE_STATUS_ARMERR : Fld := ⟨.CE_STATUS, 6, 6⟩
def CE_STATUS_UNARMED : Fld := ⟨.CE_STATUS, 5, 5⟩
def CE_STATUS_LATE : Fld := ⟨.CE_STATUS, 4, 4⟩
def CE_STATUS_ARMED : Fld := ⟨.CE_STATUS, 3, 3⟩
def CE_STATUS_MODE : Fld := ⟨.CE_STATUS, 2, 0⟩
def CE_FAULT_SLOT : Fld := ⟨.CE_FAULT, 34, 32⟩
def CE_FAULT_PC : Fld := ⟨.CE_FAULT, 31, 16⟩
def CE_FAULT_SRC : Fld := ⟨.CE_FAULT, 15, 8⟩
def CE_FAULT_CAUSE : Fld := ⟨.CE_FAULT, 7, 0⟩
def CE_GANG_SIZE : Fld := ⟨.CE_GANG, 2, 0⟩
def CE_PC_IVEC : Fld := ⟨.CE_PC, 47, 32⟩
def CE_PC_APC : Fld := ⟨.CE_PC, 31, 16⟩
def CE_PC_SPC : Fld := ⟨.CE_PC, 15, 0⟩
def CE_INT_IFLAGS : Fld := ⟨.CE_INT, 55, 48⟩
def CE_INT_IPC : Fld := ⟨.CE_INT, 47, 32⟩
def CE_INT_ICAUSE : Fld := ⟨.CE_INT, 18, 16⟩
def CE_INT_PEND : Fld := ⟨.CE_INT, 15, 8⟩
def CE_INT_IE : Fld := ⟨.CE_INT, 0, 0⟩
def CE_SRC_IDX : Fld := ⟨.CE_SRC, 13, 8⟩
def CE_SRC_SEL : Fld := ⟨.CE_SRC, 0, 0⟩
def CE_SCRCFG_AEN : Fld := ⟨.CE_SCRCFG, 15, 8⟩
def CE_SCRCFG_YEN : Fld := ⟨.CE_SCRCFG, 7, 7⟩
def CE_SCRCFG_YG : Fld := ⟨.CE_SCRCFG, 6, 4⟩
def CE_SCRCFG_XEN : Fld := ⟨.CE_SCRCFG, 3, 3⟩
def CE_SCRCFG_XG : Fld := ⟨.CE_SCRCFG, 2, 0⟩
def CE_COMMIT_GO : Fld := ⟨.CE_COMMIT, 0, 0⟩
def TSET_PER_PERIOD : Fld := ⟨.TSET_PER, 31, 0⟩
def TSET_FMT_FMT : Fld := ⟨.TSET_FMT, 2, 0⟩
def TSET_D_D2 : Fld := ⟨.TSET_D, 55, 32⟩
def TSET_D_D1 : Fld := ⟨.TSET_D, 23, 0⟩
def TSET_E_E2 : Fld := ⟨.TSET_E, 55, 32⟩
def TSET_E_E1 : Fld := ⟨.TSET_E, 23, 0⟩
def TSET_C_C2 : Fld := ⟨.TSET_C, 55, 32⟩
def TSET_C_C1 : Fld := ⟨.TSET_C, 23, 0⟩
def TSET_COMMIT_GO : Fld := ⟨.TSET_COMMIT, 0, 0⟩
def TSET_STATUS_ECODE : Fld := ⟨.TSET_STATUS, 19, 16⟩
def TSET_STATUS_EPIN : Fld := ⟨.TSET_STATUS, 15, 14⟩
def TSET_STATUS_ETS : Fld := ⟨.TSET_STATUS, 13, 8⟩
def TSET_STATUS_CFGERR : Fld := ⟨.TSET_STATUS, 0, 0⟩
def PIN_CFG_LINV : Fld := ⟨.PIN_CFG, 9, 9⟩
def PIN_CFG_HINV : Fld := ⟨.PIN_CFG, 8, 8⟩
def PIN_CFG_ECSRC : Fld := ⟨.PIN_CFG, 6, 4⟩
def PIN_CFG_EOP : Fld := ⟨.PIN_CFG, 2, 1⟩
def PIN_CFG_OE : Fld := ⟨.PIN_CFG, 0, 0⟩
def PIN_STATUS_PCMPL : Fld := ⟨.PIN_STATUS, 11, 11⟩
def PIN_STATUS_PCMPH : Fld := ⟨.PIN_STATUS, 10, 10⟩
def PIN_STATUS_PDEN : Fld := ⟨.PIN_STATUS, 9, 9⟩
def PIN_STATUS_PDRV : Fld := ⟨.PIN_STATUS, 8, 8⟩
def PIN_STATUS_CMPINV : Fld := ⟨.PIN_STATUS, 4, 4⟩
def PIN_STATUS_ECLOSS : Fld := ⟨.PIN_STATUS, 3, 3⟩
def PIN_STATUS_EDGECONF : Fld := ⟨.PIN_STATUS, 2, 2⟩
def PIN_STATUS_CFGERR : Fld := ⟨.PIN_STATUS, 0, 0⟩
def PIN_CNT_NINV : Fld := ⟨.PIN_CNT, 47, 32⟩
def PIN_CNT_NLOST : Fld := ⟨.PIN_CNT, 31, 16⟩
def PIN_CNT_NCONF : Fld := ⟨.PIN_CNT, 15, 0⟩
def FCU_STATUS_CFGERR : Fld := ⟨.FCU_STATUS, 57, 57⟩
def FCU_STATUS_MARKA : Fld := ⟨.FCU_STATUS, 56, 48⟩
def FCU_STATUS_MARK : Fld := ⟨.FCU_STATUS, 41, 32⟩
def FCU_STATUS_NG : Fld := ⟨.FCU_STATUS, 31, 29⟩
def FCU_STATUS_AOCC : Fld := ⟨.FCU_STATUS, 24, 16⟩
def FCU_STATUS_OCC : Fld := ⟨.FCU_STATUS, 9, 0⟩
def FCU_COMMIT_GO : Fld := ⟨.FCU_COMMIT, 0, 0⟩
def FCU_CLR_SLOT : Fld := ⟨.FCU_CLR, 19, 16⟩
def FCU_CLR_PIN : Fld := ⟨.FCU_CLR, 15, 0⟩
def FCU_GCFG_AENG : Fld := ⟨.FCU_GCFG, 11, 8⟩
def FCU_GCFG_AREG : Fld := ⟨.FCU_GCFG, 7, 4⟩
def FCU_GCFG_AUTOCLR : Fld := ⟨.FCU_GCFG, 3, 3⟩
def FCU_GCFG_HOFF : Fld := ⟨.FCU_GCFG, 2, 2⟩
def FCU_GCFG_POLICY : Fld := ⟨.FCU_GCFG, 1, 0⟩
def FCU_FLIM_FLIM : Fld := ⟨.FCU_FLIM, 31, 0⟩
def FCU_RBASE_BASE : Fld := ⟨.FCU_RBASE, 47, 5⟩
def FCU_ABASE_BASE : Fld := ⟨.FCU_ABASE, 47, 3⟩
def FCU_RSIZE_SIZE : Fld := ⟨.FCU_RSIZE, 23, 0⟩
def FCU_RWP_WP : Fld := ⟨.FCU_RWP, 23, 0⟩
def FCU_RRP_RP : Fld := ⟨.FCU_RRP, 23, 0⟩
def FCU_ACFG_TGT : Fld := ⟨.FCU_ACFG, 16, 16⟩
def FCU_ACFG_W : Fld := ⟨.FCU_ACFG, 15, 15⟩
def FCU_ACFG_BITS : Fld := ⟨.FCU_ACFG, 14, 10⟩
def FCU_ACFG_SHIFT : Fld := ⟨.FCU_ACFG, 9, 4⟩
def FCU_ACFG_VSRC : Fld := ⟨.FCU_ACFG, 3, 0⟩
def FCU_GSTAT_ACCERR : Fld := ⟨.FCU_GSTAT, 10, 10⟩
def FCU_GSTAT_ACCSAT : Fld := ⟨.FCU_GSTAT, 9, 9⟩
def FCU_GSTAT_WERR : Fld := ⟨.FCU_GSTAT, 8, 8⟩
def FCU_GSTAT_ACCLOSS : Fld := ⟨.FCU_GSTAT, 7, 7⟩
def FCU_GSTAT_LOSS : Fld := ⟨.FCU_GSTAT, 6, 6⟩
def FCU_GSTAT_CNTONLY : Fld := ⟨.FCU_GSTAT, 5, 5⟩
def FCU_GSTAT_PREASON : Fld := ⟨.FCU_GSTAT, 4, 3⟩
def FCU_GSTAT_PAUSED : Fld := ⟨.FCU_GSTAT, 2, 2⟩
def FCU_GSTAT_BUSY : Fld := ⟨.FCU_GSTAT, 0, 0⟩
def FCU_GCNT_VFAIL : Fld := ⟨.FCU_GCNT, 31, 0⟩
def FCU_DROP_ACCLOST : Fld := ⟨.FCU_DROP, 63, 32⟩
def FCU_DROP_DROPPED : Fld := ⟨.FCU_DROP, 31, 0⟩
def FCU_FIRSTU_VALID : Fld := ⟨.FCU_FIRSTU, 63, 63⟩
def FCU_FIRSTU_FIRST : Fld := ⟨.FCU_FIRSTU, 47, 0⟩
def FCU_PCNT_NFAIL : Fld := ⟨.FCU_PCNT, 31, 0⟩
def FCU_PFIRST_VALID : Fld := ⟨.FCU_PFIRST, 63, 63⟩
def FCU_PFIRST_FIRST : Fld := ⟨.FCU_PFIRST, 47, 0⟩
def SLC_CTRL_GAP : Fld := ⟨.SLC_CTRL, 31, 16⟩
def SLC_CTRL_FILL : Fld := ⟨.SLC_CTRL, 2, 2⟩
def SLC_CTRL_RETIRE : Fld := ⟨.SLC_CTRL, 1, 1⟩
def SLC_CTRL_BGTEN : Fld := ⟨.SLC_CTRL, 0, 0⟩
def SLC_STATUS_BGTSTEP : Fld := ⟨.SLC_STATUS, 11, 8⟩
def SLC_STATUS_CELL : Fld := ⟨.SLC_STATUS, 4, 4⟩
def SLC_STATUS_COLL : Fld := ⟨.SLC_STATUS, 3, 3⟩
def SLC_STATUS_CFGERR : Fld := ⟨.SLC_STATUS, 2, 2⟩
def SLC_STATUS_FILLING : Fld := ⟨.SLC_STATUS, 1, 1⟩
def SLC_STATUS_FILLED : Fld := ⟨.SLC_STATUS, 0, 0⟩
def SLC_BGT_PASSES : Fld := ⟨.SLC_BGT, 47, 16⟩
def SLC_BGT_CURSOR : Fld := ⟨.SLC_BGT, 14, 0⟩
def SLC_CNT_CELL : Fld := ⟨.SLC_CNT, 63, 48⟩
def SLC_CNT_UE : Fld := ⟨.SLC_CNT, 47, 32⟩
def SLC_CNT_CE : Fld := ⟨.SLC_CNT, 31, 16⟩
def SLC_CNT_COLL : Fld := ⟨.SLC_CNT, 15, 0⟩
def SLC_CELL_VALID : Fld := ⟨.SLC_CELL, 63, 63⟩
def SLC_CELL_BIT : Fld := ⟨.SLC_CELL, 28, 20⟩
def SLC_CELL_STEP : Fld := ⟨.SLC_CELL, 19, 16⟩
def SLC_CELL_REGION : Fld := ⟨.SLC_CELL, 14, 0⟩
def SBK_CTRL_WIPE : Fld := ⟨.SBK_CTRL, 0, 0⟩
def SBK_STATUS_WIPECNT : Fld := ⟨.SBK_STATUS, 47, 16⟩
def SBK_STATUS_CAUSE : Fld := ⟨.SBK_STATUS, 11, 8⟩
def SBK_STATUS_WIPING : Fld := ⟨.SBK_STATUS, 1, 1⟩
def SBK_STATUS_READY : Fld := ⟨.SBK_STATUS, 0, 0⟩
def SBK_CNT_DENY : Fld := ⟨.SBK_CNT, 47, 32⟩
def SBK_CNT_UE : Fld := ⟨.SBK_CNT, 31, 16⟩
def SBK_CNT_CE : Fld := ⟨.SBK_CNT, 15, 0⟩
def SMP_STATUS_RESETS : Fld := ⟨.SMP_STATUS, 31, 16⟩
def SMP_STATUS_KEYSLOT : Fld := ⟨.SMP_STATUS, 15, 12⟩
def SMP_STATUS_STALL : Fld := ⟨.SMP_STATUS, 11, 11⟩
def SMP_STATUS_PENDING : Fld := ⟨.SMP_STATUS, 10, 10⟩
def SMP_STATUS_ANYOOC : Fld := ⟨.SMP_STATUS, 9, 9⟩
def SMP_STATUS_SEALFULL : Fld := ⟨.SMP_STATUS, 8, 8⟩
def SMP_STATUS_NOCAL : Fld := ⟨.SMP_STATUS, 7, 7⟩
def SMP_STATUS_TREF : Fld := ⟨.SMP_STATUS, 6, 6⟩
def SMP_STATUS_PLANE : Fld := ⟨.SMP_STATUS, 5, 5⟩
def SMP_STATUS_CAL : Fld := ⟨.SMP_STATUS, 4, 4⟩
def SMP_STATUS_STATE : Fld := ⟨.SMP_STATUS, 2, 0⟩
def SMP_SEAL_SEAL : Fld := ⟨.SMP_SEAL, 12, 0⟩
def SMP_CALID_CALID : Fld := ⟨.SMP_CALID, 63, 0⟩
def SMP_START_START : Fld := ⟨.SMP_START, 63, 0⟩
def SMP_CLAIM_VALID : Fld := ⟨.SMP_CLAIM, 63, 63⟩
def SMP_CLAIM_SLOT : Fld := ⟨.SMP_CLAIM, 3, 0⟩
def SMP_WIN_ST0 : Fld := ⟨.SMP_WIN, 1, 0⟩
def SMP_WIN_ST1 : Fld := ⟨.SMP_WIN, 3, 2⟩
def SMP_WIN_ST2 : Fld := ⟨.SMP_WIN, 5, 4⟩
def SMP_WIN_ST3 : Fld := ⟨.SMP_WIN, 7, 6⟩
def SMP_WIN_NFILL : Fld := ⟨.SMP_WIN, 44, 32⟩
def SMP_WIN_FILL : Fld := ⟨.SMP_WIN, 17, 16⟩
def SMP_CNT_UPSET : Fld := ⟨.SMP_CNT, 63, 48⟩
def SMP_CNT_STALL : Fld := ⟨.SMP_CNT, 47, 32⟩
def SMP_CNT_BLOCKS : Fld := ⟨.SMP_CNT, 31, 0⟩
def SMP_OOC_OOC : Fld := ⟨.SMP_OOC, 63, 0⟩
def FAB_STATUS_BMCOLL : Fld := ⟨.FAB_STATUS, 7, 7⟩
def FAB_STATUS_BMNARROW : Fld := ⟨.FAB_STATUS, 6, 6⟩
def FAB_STATUS_BMUE : Fld := ⟨.FAB_STATUS, 5, 5⟩
def FAB_STATUS_PORTTMO : Fld := ⟨.FAB_STATUS, 4, 4⟩
def FAB_STATUS_CFGERR : Fld := ⟨.FAB_STATUS, 3, 3⟩
def FAB_STATUS_RELOADING : Fld := ⟨.FAB_STATUS, 1, 1⟩
def FAB_STATUS_CONFIGURED : Fld := ⟨.FAB_STATUS, 0, 0⟩
def FAB_PORT_CCLK : Fld := ⟨.FAB_PORT, 33, 28⟩
def FAB_PORT_PCLK : Fld := ⟨.FAB_PORT, 27, 22⟩
def FAB_PORT_TEN : Fld := ⟨.FAB_PORT, 16, 16⟩
def FAB_PORT_TMO : Fld := ⟨.FAB_PORT, 15, 0⟩
def FAB_COMMIT_GO : Fld := ⟨.FAB_COMMIT, 0, 0⟩
def FAB_CNT_BMNARROW : Fld := ⟨.FAB_CNT, 63, 48⟩
def FAB_CNT_BMCOLL : Fld := ⟨.FAB_CNT, 47, 32⟩
def FAB_CNT_BMUE : Fld := ⟨.FAB_CNT, 31, 16⟩
def FAB_CNT_BMCE : Fld := ⟨.FAB_CNT, 15, 0⟩
def FAB_BMERR_VALID : Fld := ⟨.FAB_BMERR, 63, 63⟩
def FAB_BMERR_SRC : Fld := ⟨.FAB_BMERR, 18, 17⟩
def FAB_BMERR_WORD : Fld := ⟨.FAB_BMERR, 16, 8⟩
def FAB_BMERR_BLOCK : Fld := ⟨.FAB_BMERR, 7, 0⟩
def FAB_PCNT_PSNIN : Fld := ⟨.FAB_PCNT, 31, 16⟩
def FAB_PCNT_TMO : Fld := ⟨.FAB_PCNT, 15, 0⟩
def FAB_RCLK_N : Fld := ⟨.FAB_RCLK, 20, 8⟩
def FAB_RCLK_GSEL : Fld := ⟨.FAB_RCLK, 6, 2⟩
def FAB_RCLK_SRC : Fld := ⟨.FAB_RCLK, 1, 0⟩
def CFG_CTRL_DONEREL : Fld := ⟨.CFG_CTRL, 2, 2⟩
def CFG_CTRL_LOAD : Fld := ⟨.CFG_CTRL, 1, 1⟩
def CFG_SRC_KIND : Fld := ⟨.CFG_SRC, 63, 62⟩
def CFG_SRC_ADDR : Fld := ⟨.CFG_SRC, 47, 0⟩
def CFG_STATUS_PRSECT : Fld := ⟨.CFG_STATUS, 45, 40⟩
def CFG_STATUS_BUSY : Fld := ⟨.CFG_STATUS, 39, 39⟩
def CFG_STATUS_DONEIN : Fld := ⟨.CFG_STATUS, 38, 38⟩
def CFG_STATUS_HOLDIN : Fld := ⟨.CFG_STATUS, 37, 37⟩
def CFG_STATUS_STRAP : Fld := ⟨.CFG_STATUS, 36, 35⟩
def CFG_STATUS_SETSRC : Fld := ⟨.CFG_STATUS, 34, 33⟩
def CFG_STATUS_ATTEMPT : Fld := ⟨.CFG_STATUS, 32, 30⟩
def CFG_STATUS_CAUSE : Fld := ⟨.CFG_STATUS, 23, 20⟩
def CFG_STATUS_LOADERR : Fld := ⟨.CFG_STATUS, 17, 17⟩
def CFG_STATUS_CFGERR : Fld := ⟨.CFG_STATUS, 16, 16⟩
def CFG_STATUS_STATE : Fld := ⟨.CFG_STATUS, 3, 0⟩
def CFG_IMAGE_ISEQ : Fld := ⟨.CFG_IMAGE, 63, 32⟩
def CFG_IMAGE_KEYSLOT : Fld := ⟨.CFG_IMAGE, 9, 8⟩
def CFG_IMAGE_ORIGIN : Fld := ⟨.CFG_IMAGE, 6, 4⟩
def CFG_IMAGE_PARTIAL : Fld := ⟨.CFG_IMAGE, 0, 0⟩
def SCR_CTRL_QUIET : Fld := ⟨.SCR_CTRL, 23, 16⟩
def SCR_CTRL_UPTH : Fld := ⟨.SCR_CTRL, 15, 8⟩
def SCR_CTRL_AUTO : Fld := ⟨.SCR_CTRL, 1, 1⟩
def SCR_CTRL_EN : Fld := ⟨.SCR_CTRL, 0, 0⟩
def SCR_STATUS_VALID : Fld := ⟨.SCR_STATUS, 63, 63⟩
def SCR_STATUS_SECTOR : Fld := ⟨.SCR_STATUS, 61, 56⟩
def SCR_STATUS_FRAME : Fld := ⟨.SCR_STATUS, 43, 32⟩
def SCR_STATUS_CFGERR : Fld := ⟨.SCR_STATUS, 2, 2⟩
def SCR_STATUS_SCRUBFAIL : Fld := ⟨.SCR_STATUS, 1, 1⟩
def SCR_STATUS_ACTIVE : Fld := ⟨.SCR_STATUS, 0, 0⟩
def SCR_PERIOD_PERIOD : Fld := ⟨.SCR_PERIOD, 13, 0⟩
def SCR_CNT_FAIL : Fld := ⟨.SCR_CNT, 63, 48⟩
def SCR_CNT_RELOAD : Fld := ⟨.SCR_CNT, 47, 32⟩
def SCR_CNT_CORR : Fld := ⟨.SCR_CNT, 31, 16⟩
def SCR_CNT_PASSES : Fld := ⟨.SCR_CNT, 15, 0⟩
def ARB_CFG_HOLD : Fld := ⟨.ARB_CFG, 63, 48⟩
def ARB_CFG_WAIT : Fld := ⟨.ARB_CFG, 47, 32⟩
def ARB_CFG_BURST : Fld := ⟨.ARB_CFG, 31, 16⟩
def ARB_CFG_PRIO : Fld := ⟨.ARB_CFG, 3, 0⟩
def ARB_COMMIT_GO : Fld := ⟨.ARB_COMMIT, 0, 0⟩
def ARB_STATUS_PEND : Fld := ⟨.ARB_STATUS, 19, 19⟩
def ARB_STATUS_OWNER : Fld := ⟨.ARB_STATUS, 18, 16⟩
def ARB_STATUS_OWNED : Fld := ⟨.ARB_STATUS, 15, 15⟩
def ARB_STATUS_CUT : Fld := ⟨.ARB_STATUS, 7, 0⟩
def ARB_CNT_GRANTS : Fld := ⟨.ARB_CNT, 63, 32⟩
def ARB_CNT_FORCED : Fld := ⟨.ARB_CNT, 31, 16⟩
def ARB_CNT_MAXWAIT : Fld := ⟨.ARB_CNT, 15, 0⟩
def NOC_CFG_WAKE : Fld := ⟨.NOC_CFG, 25, 18⟩
def NOC_CFG_MAINT : Fld := ⟨.NOC_CFG, 17, 17⟩
def NOC_CFG_VC4 : Fld := ⟨.NOC_CFG, 16, 16⟩
def NOC_CFG_PEN : Fld := ⟨.NOC_CFG, 7, 0⟩
def NOC_COMMIT_GO : Fld := ⟨.NOC_COMMIT, 0, 0⟩
def NOC_STATUS_ERRENT : Fld := ⟨.NOC_STATUS, 44, 32⟩
def NOC_STATUS_CFGERR : Fld := ⟨.NOC_STATUS, 18, 18⟩
def NOC_STATUS_STALL : Fld := ⟨.NOC_STATUS, 17, 17⟩
def NOC_STATUS_CPEND : Fld := ⟨.NOC_STATUS, 16, 16⟩
def NOC_STATUS_GEN : Fld := ⟨.NOC_STATUS, 15, 0⟩
def NOC_CNT_RSPDROP : Fld := ⟨.NOC_CNT, 63, 48⟩
def NOC_CNT_EASLEEP : Fld := ⟨.NOC_CNT, 47, 32⟩
def NOC_CNT_EDEAD : Fld := ⟨.NOC_CNT, 31, 16⟩
def NOC_CNT_RTHOLD : Fld := ⟨.NOC_CNT, 15, 0⟩
def NOC_NI_RTMO : Fld := ⟨.NOC_NI, 31, 16⟩
def NOC_NI_RTTX : Fld := ⟨.NOC_NI, 2, 2⟩
def NOC_NI_RTRX : Fld := ⟨.NOC_NI, 1, 1⟩
def NOC_NI_ACCEPT : Fld := ⟨.NOC_NI, 0, 0⟩
def NOC_NISTAT_TOKENS : Fld := ⟨.NOC_NISTAT, 26, 24⟩
def NOC_NISTAT_DRAINED : Fld := ⟨.NOC_NISTAT, 16, 16⟩
def NOC_NISTAT_INFL : Fld := ⟨.NOC_NISTAT, 15, 8⟩
def NOC_NISTAT_OUTST : Fld := ⟨.NOC_NISTAT, 7, 0⟩
def NOC_ROUTE_V : Fld := ⟨.NOC_ROUTE, 38, 38⟩
def NOC_ROUTE_RT : Fld := ⟨.NOC_ROUTE, 37, 37⟩
def NOC_ROUTE_LANE : Fld := ⟨.NOC_ROUTE, 36, 35⟩
def NOC_ROUTE_TURN : Fld := ⟨.NOC_ROUTE, 34, 7⟩
def NOC_ROUTE_NH : Fld := ⟨.NOC_ROUTE, 6, 3⟩
def NOC_ROUTE_EXIT : Fld := ⟨.NOC_ROUTE, 2, 0⟩
def DMC_CTRL_PATROL : Fld := ⟨.DMC_CTRL, 39, 32⟩
def DMC_CTRL_IDLE : Fld := ⟨.DMC_CTRL, 31, 16⟩
def DMC_CTRL_PAGE : Fld := ⟨.DMC_CTRL, 5, 4⟩
def DMC_CTRL_CEWB : Fld := ⟨.DMC_CTRL, 3, 3⟩
def DMC_CMD_FILL : Fld := ⟨.DMC_CMD, 3, 3⟩
def DMC_CMD_RETRAIN : Fld := ⟨.DMC_CMD, 2, 2⟩
def DMC_CMD_SETRATE : Fld := ⟨.DMC_CMD, 1, 1⟩
def DMC_CMD_RATE : Fld := ⟨.DMC_CMD, 0, 0⟩
def DMC_STATUS_STATE : Fld := ⟨.DMC_STATUS, 15, 12⟩
def DMC_STATUS_RATE : Fld := ⟨.DMC_STATUS, 8, 8⟩
def DMC_STATUS_THRFULL : Fld := ⟨.DMC_STATUS, 7, 7⟩
def DMC_STATUS_RDEV : Fld := ⟨.DMC_STATUS, 6, 6⟩
def DMC_STATUS_UE : Fld := ⟨.DMC_STATUS, 5, 5⟩
def DMC_STATUS_TIMERR : Fld := ⟨.DMC_STATUS, 4, 4⟩
def DMC_STATUS_CFGERR : Fld := ⟨.DMC_STATUS, 3, 3⟩
def DMC_STATUS_TRFAIL : Fld := ⟨.DMC_STATUS, 2, 2⟩
def DMC_TIM_TXS : Fld := ⟨.DMC_TIM, 63, 52⟩
def DMC_TIM_TREFI : Fld := ⟨.DMC_TIM, 51, 40⟩
def DMC_TIM_TRFC : Fld := ⟨.DMC_TIM, 39, 32⟩
def DMC_TIM_TWL : Fld := ⟨.DMC_TIM, 23, 16⟩
def DMC_TIM_TRL : Fld := ⟨.DMC_TIM, 15, 8⟩
def DMC_TIM_TRC : Fld := ⟨.DMC_TIM, 7, 0⟩
def DMC_RD_DUR : Fld := ⟨.DMC_RD, 63, 48⟩
def DMC_RD_GAP : Fld := ⟨.DMC_RD, 47, 32⟩
def DMC_RD_NREF : Fld := ⟨.DMC_RD, 16, 16⟩
def DMC_RD_THRESH : Fld := ⟨.DMC_RD, 15, 0⟩
def DMC_RDLOG_VALID : Fld := ⟨.DMC_RDLOG, 63, 63⟩
def DMC_RDLOG_MID : Fld := ⟨.DMC_RDLOG, 51, 42⟩
def DMC_RDLOG_BANK : Fld := ⟨.DMC_RDLOG, 41, 38⟩
def DMC_RDLOG_ROW : Fld := ⟨.DMC_RDLOG, 37, 24⟩
def DMC_CNT_RDEV : Fld := ⟨.DMC_CNT, 63, 48⟩
def DMC_CNT_PSN : Fld := ⟨.DMC_CNT, 47, 32⟩
def DMC_CNT_UE : Fld := ⟨.DMC_CNT, 31, 16⟩
def DMC_CNT_CE : Fld := ⟨.DMC_CNT, 15, 0⟩
def DMC_ILV_GO : Fld := ⟨.DMC_ILV, 8, 8⟩
def DMC_ILV_CAP : Fld := ⟨.DMC_ILV, 7, 4⟩
def DMC_ILV_ILV : Fld := ⟨.DMC_ILV, 2, 0⟩
def ICE_CTRL_REGION : Fld := ⟨.ICE_CTRL, 11, 8⟩
def ICE_CTRL_KEYREADY : Fld := ⟨.ICE_CTRL, 3, 3⟩
def ICE_CTRL_RESUME : Fld := ⟨.ICE_CTRL, 2, 2⟩
def ICE_CTRL_UNLOCK : Fld := ⟨.ICE_CTRL, 1, 1⟩
def ICE_CTRL_REKEY : Fld := ⟨.ICE_CTRL, 0, 0⟩
def ICE_COMMIT_GO : Fld := ⟨.ICE_COMMIT, 0, 0⟩
def ICE_STATUS_CFGERR : Fld := ⟨.ICE_STATUS, 0, 0⟩
def ICE_LOCK_LKTH : Fld := ⟨.ICE_LOCK, 31, 16⟩
def ICE_LOCK_LKWIN : Fld := ⟨.ICE_LOCK, 15, 0⟩
def ICE_RCFG_SCHEME : Fld := ⟨.ICE_RCFG, 49, 49⟩
def ICE_RCFG_EN : Fld := ⟨.ICE_RCFG, 48, 48⟩
def ICE_RCFG_CBASE : Fld := ⟨.ICE_RCFG, 42, 32⟩
def ICE_RCFG_SIZE : Fld := ⟨.ICE_RCFG, 26, 16⟩
def ICE_RCFG_BASE : Fld := ⟨.ICE_RCFG, 10, 0⟩
def ICE_RSTAT_RATE : Fld := ⟨.ICE_RSTAT, 63, 32⟩
def ICE_RSTAT_MAJWARN : Fld := ⟨.ICE_RSTAT, 7, 7⟩
def ICE_RSTAT_SPARE : Fld := ⟨.ICE_RSTAT, 6, 6⟩
def ICE_RSTAT_KSEL : Fld := ⟨.ICE_RSTAT, 5, 5⟩
def ICE_RSTAT_STATE : Fld := ⟨.ICE_RSTAT, 2, 0⟩
def ICE_CNT_LOCKS : Fld := ⟨.ICE_CNT, 63, 48⟩
def ICE_CNT_REBUILD : Fld := ⟨.ICE_CNT, 47, 32⟩
def ICE_CNT_REGROUP : Fld := ⟨.ICE_CNT, 31, 16⟩
def ICE_CNT_INTEG : Fld := ⟨.ICE_CNT, 15, 0⟩
def ICE_BND_B : Fld := ⟨.ICE_BND, 24, 0⟩
def LN_CFG_LOSTH : Fld := ⟨.LN_CFG, 43, 40⟩
def LN_CFG_IEN : Fld := ⟨.LN_CFG, 39, 39⟩
def LN_CFG_BRIDGE : Fld := ⟨.LN_CFG, 35, 32⟩
def LN_CFG_PRECODE : Fld := ⟨.LN_CFG, 31, 31⟩
def LN_CFG_LOOP : Fld := ⟨.LN_CFG, 30, 29⟩
def LN_CFG_RXPOL : Fld := ⟨.LN_CFG, 28, 28⟩
def LN_CFG_TXPOL : Fld := ⟨.LN_CFG, 27, 27⟩
def LN_CFG_WIDTH : Fld := ⟨.LN_CFG, 23, 22⟩
def LN_CFG_TRAIN : Fld := ⟨.LN_CFG, 21, 20⟩
def LN_CFG_USE : Fld := ⟨.LN_CFG, 19, 18⟩
def LN_CFG_MOD : Fld := ⟨.LN_CFG, 17, 17⟩
def LN_CFG_DIV : Fld := ⟨.LN_CFG, 16, 14⟩
def LN_CFG_LCLK : Fld := ⟨.LN_CFG, 13, 8⟩
def LN_TXEQ_POST : Fld := ⟨.LN_TXEQ, 20, 16⟩
def LN_TXEQ_MAIN : Fld := ⟨.LN_TXEQ, 13, 8⟩
def LN_TXEQ_PRE : Fld := ⟨.LN_TXEQ, 3, 0⟩
def LN_COMMIT_GO : Fld := ⟨.LN_COMMIT, 0, 0⟩
def LN_STATUS_APOST : Fld := ⟨.LN_STATUS, 52, 48⟩
def LN_STATUS_AMAIN : Fld := ⟨.LN_STATUS, 45, 40⟩
def LN_STATUS_APRE : Fld := ⟨.LN_STATUS, 35, 32⟩
def LN_STATUS_PLOCK : Fld := ⟨.LN_STATUS, 15, 15⟩
def LN_STATUS_LOL : Fld := ⟨.LN_STATUS, 14, 14⟩
def LN_STATUS_LOS : Fld := ⟨.LN_STATUS, 13, 13⟩
def LN_STATUS_CFGERR : Fld := ⟨.LN_STATUS, 12, 12⟩
def LN_STATUS_UNDER : Fld := ⟨.LN_STATUS, 11, 11⟩
def LN_STATUS_OVF : Fld := ⟨.LN_STATUS, 10, 10⟩
def LN_STATUS_TRAINFAIL : Fld := ⟨.LN_STATUS, 9, 9⟩
def LN_STATUS_LOLEV : Fld := ⟨.LN_STATUS, 8, 8⟩
def LN_STATUS_LOSEV : Fld := ⟨.LN_STATUS, 7, 7⟩
def LN_STATUS_STATE : Fld := ⟨.LN_STATUS, 2, 0⟩
def LN_TEST_SJPER : Fld := ⟨.LN_TEST, 63, 48⟩
def LN_TEST_SJAMP : Fld := ⟨.LN_TEST, 38, 32⟩
def LN_TEST_RXFRZ : Fld := ⟨.LN_TEST, 9, 9⟩
def LN_TEST_PINV : Fld := ⟨.LN_TEST, 8, 8⟩
def LN_TEST_PCHK : Fld := ⟨.LN_TEST, 7, 4⟩
def LN_TEST_PGEN : Fld := ⟨.LN_TEST, 3, 0⟩
def LN_UPAT_PAT : Fld := ⟨.LN_UPAT, 63, 0⟩
def LN_PCNT_ERRS : Fld := ⟨.LN_PCNT, 47, 0⟩
def LN_PBITS_BITS : Fld := ⟨.LN_PBITS, 47, 0⟩
def LN_ESCAN_DWELL : Fld := ⟨.LN_ESCAN, 29, 24⟩
def LN_ESCAN_VOFF : Fld := ⟨.LN_ESCAN, 23, 16⟩
def LN_ESCAN_PHASE : Fld := ⟨.LN_ESCAN, 13, 8⟩
def LN_ESCAN_EYE : Fld := ⟨.LN_ESCAN, 2, 1⟩
def LN_ESCAN_GO : Fld := ⟨.LN_ESCAN, 0, 0⟩
def LN_ESRES_DONE : Fld := ⟨.LN_ESRES, 63, 63⟩
def LN_ESRES_ABORT : Fld := ⟨.LN_ESRES, 62, 62⟩
def LN_ESRES_BUSY : Fld := ⟨.LN_ESRES, 61, 61⟩
def LN_ESRES_ERRS : Fld := ⟨.LN_ESRES, 40, 0⟩
def LN_CNT_TRFAIL : Fld := ⟨.LN_CNT, 63, 48⟩
def LN_CNT_OVF : Fld := ⟨.LN_CNT, 47, 40⟩
def LN_CNT_UNDER : Fld := ⟨.LN_CNT, 39, 32⟩
def LN_CNT_LOL : Fld := ⟨.LN_CNT, 31, 16⟩
def LN_CNT_LOS : Fld := ⟨.LN_CNT, 15, 0⟩
def LN_QPLL_REFKHZ : Fld := ⟨.LN_QPLL, 51, 32⟩
def LN_QPLL_M : Fld := ⟨.LN_QPLL, 19, 0⟩
def LN_QCOMMIT_GO : Fld := ⟨.LN_QCOMMIT, 0, 0⟩
def LN_QSTATUS_CFGERR : Fld := ⟨.LN_QSTATUS, 2, 2⟩
def LN_QSTATUS_REFLOS : Fld := ⟨.LN_QSTATUS, 1, 1⟩
def LN_QSTATUS_LOCK : Fld := ⟨.LN_QSTATUS, 0, 0⟩
def SWP_CTRL_TIMEEN : Fld := ⟨.SWP_CTRL, 14, 14⟩
def SWP_CTRL_RELAY : Fld := ⟨.SWP_CTRL, 13, 13⟩
def SWP_CTRL_ENC : Fld := ⟨.SWP_CTRL, 12, 12⟩
def SWP_CTRL_FIRST : Fld := ⟨.SWP_CTRL, 11, 4⟩
def SWP_CTRL_NL : Fld := ⟨.SWP_CTRL, 3, 1⟩
def SWP_CTRL_EN : Fld := ⟨.SWP_CTRL, 0, 0⟩
def SWP_COMMIT_GO : Fld := ⟨.SWP_COMMIT, 0, 0⟩
def SWP_STATUS_PEERDEV : Fld := ⟨.SWP_STATUS, 31, 14⟩
def SWP_STATUS_PEERBR : Fld := ⟨.SWP_STATUS, 13, 10⟩
def SWP_STATUS_DOWNEV : Fld := ⟨.SWP_STATUS, 9, 9⟩
def SWP_STATUS_CFGERR : Fld := ⟨.SWP_STATUS, 8, 8⟩
def SWP_STATUS_CAUSE : Fld := ⟨.SWP_STATUS, 7, 4⟩
def SWP_STATUS_STATE : Fld := ⟨.SWP_STATUS, 2, 0⟩
def SWP_CNT_DOWN : Fld := ⟨.SWP_CNT, 63, 48⟩
def SWP_CNT_REPLAY : Fld := ⟨.SWP_CNT, 47, 32⟩
def SWP_CNT_DISC : Fld := ⟨.SWP_CNT, 31, 16⟩
def SWP_CNT_FECUNC : Fld := ⟨.SWP_CNT, 15, 0⟩
def SWP_LINK_DELAY : Fld := ⟨.SWP_LINK, 63, 32⟩
def SWP_LINK_OFFS : Fld := ⟨.SWP_LINK, 31, 0⟩
def SWP_ASYM_ASYM : Fld := ⟨.SWP_ASYM, 31, 0⟩
def SWP_KEY_RXEPOCH : Fld := ⟨.SWP_KEY, 23, 16⟩
def SWP_KEY_TXEPOCH : Fld := ⟨.SWP_KEY, 15, 8⟩
def SWP_KEY_NEXT : Fld := ⟨.SWP_KEY, 0, 0⟩
def SWP_QBASE_BASE : Fld := ⟨.SWP_QBASE, 47, 5⟩
def SWP_QSIZE_SIZE : Fld := ⟨.SWP_QSIZE, 15, 0⟩
def SWP_QHEAD_HEAD : Fld := ⟨.SWP_QHEAD, 15, 0⟩
def SWP_QTAIL_TAIL : Fld := ⟨.SWP_QTAIL, 15, 0⟩
def SWP_RTHEAD_HEAD : Fld := ⟨.SWP_RTHEAD, 3, 0⟩
def SWP_RTTAIL_TAIL : Fld := ⟨.SWP_RTTAIL, 3, 0⟩
def SWP_RTQ_WORD : Fld := ⟨.SWP_RTQ, 63, 0⟩
def SWP_DRT_V : Fld := ⟨.SWP_DRT, 63, 63⟩
def SWP_DRT_FIRST : Fld := ⟨.SWP_DRT, 61, 58⟩
def SWP_DRT_DHOPS : Fld := ⟨.SWP_DRT, 57, 54⟩
def SWP_DRT_HOP : Fld := ⟨.SWP_DRT, 53, 26⟩
def SWP_DEVID_LOCK : Fld := ⟨.SWP_DEVID, 63, 63⟩
def SWP_DEVID_VALID : Fld := ⟨.SWP_DEVID, 18, 18⟩
def SWP_DEVID_ID : Fld := ⟨.SWP_DEVID, 17, 0⟩
def TB_TIME_TIME : Fld := ⟨.TB_TIME, 63, 0⟩
def TB_FRAC_FRAC : Fld := ⟨.TB_FRAC, 8, 0⟩
def TB_CTRL_NAVG : Fld := ⟨.TB_CTRL, 12, 8⟩
def TB_CTRL_SRC : Fld := ⟨.TB_CTRL, 7, 4⟩
def TB_CTRL_MODE : Fld := ⟨.TB_CTRL, 1, 0⟩
def TB_STEP_X : Fld := ⟨.TB_STEP, 63, 0⟩
def TB_STATUS_TRIM : Fld := ⟨.TB_STATUS, 63, 32⟩
def TB_STATUS_STEPEV : Fld := ⟨.TB_STATUS, 4, 4⟩
def TB_STATUS_CFGERR : Fld := ⟨.TB_STATUS, 3, 3⟩
def TB_STATUS_HOLD : Fld := ⟨.TB_STATUS, 2, 2⟩
def TB_STATUS_PEND : Fld := ⟨.TB_STATUS, 1, 1⟩
def TB_STATUS_ALIGNED : Fld := ⟨.TB_STATUS, 0, 0⟩
def ERR_STATUS_CFGERR : Fld := ⟨.ERR_STATUS, 1, 1⟩
def ERR_STATUS_OVF : Fld := ⟨.ERR_STATUS, 0, 0⟩
def ERR_PTR_WP : Fld := ⟨.ERR_PTR, 24, 16⟩
def ERR_PTR_RP : Fld := ⟨.ERR_PTR, 8, 0⟩
def ERR_CNT_DROP1 : Fld := ⟨.ERR_CNT, 31, 16⟩
def ERR_CNT_DROP0 : Fld := ⟨.ERR_CNT, 15, 0⟩
def ERR_CKCTRL_INST : Fld := ⟨.ERR_CKCTRL, 15, 8⟩
def ERR_CKCTRL_KIND : Fld := ⟨.ERR_CKCTRL, 2, 1⟩
def ERR_CKCTRL_EN : Fld := ⟨.ERR_CKCTRL, 0, 0⟩
def ERR_CKDATA_SPARE : Fld := ⟨.ERR_CKDATA, 63, 48⟩
def ERR_CKDATA_CHECK : Fld := ⟨.ERR_CKDATA, 47, 0⟩
def ERR_CKRD_SPARE : Fld := ⟨.ERR_CKRD, 63, 48⟩
def ERR_CKRD_CHECK : Fld := ⟨.ERR_CKRD, 47, 0⟩
def ERR_BMRET_RET : Fld := ⟨.ERR_BMRET, 63, 0⟩
def ERR_PRT_V : Fld := ⟨.ERR_PRT, 63, 63⟩
def ERR_PRT_PAGE : Fld := ⟨.ERR_PRT, 47, 12⟩
def MGT_MBCTL_GO : Fld := ⟨.MGT_MBCTL, 0, 0⟩
def MGT_MBSTAT_REJECT : Fld := ⟨.MGT_MBSTAT, 3, 3⟩
def MGT_MBSTAT_PEND : Fld := ⟨.MGT_MBSTAT, 2, 2⟩
def MGT_MBSTAT_BUSY : Fld := ⟨.MGT_MBSTAT, 1, 1⟩
def MGT_MBSTAT_DONE : Fld := ⟨.MGT_MBSTAT, 0, 0⟩
def LCS_STATUS_LSMIS : Fld := ⟨.LCS_STATUS, 23, 16⟩
def LCS_STATUS_TAMPIN : Fld := ⟨.LCS_STATUS, 15, 12⟩
def LCS_STATUS_TAMPERED : Fld := ⟨.LCS_STATUS, 11, 11⟩
def LCS_STATUS_SAFE : Fld := ⟨.LCS_STATUS, 10, 10⟩
def LCS_STATUS_STATE : Fld := ⟨.LCS_STATUS, 2, 0⟩
def CLK_STATUS_CWAIT : Fld := ⟨.CLK_STATUS, 47, 32⟩
def CLK_STATUS_TRIP : Fld := ⟨.CLK_STATUS, 31, 24⟩
def CLK_STATUS_CFGERR : Fld := ⟨.CLK_STATUS, 11, 11⟩
def CLK_STATUS_MPLLLOCK : Fld := ⟨.CLK_STATUS, 10, 10⟩
def CLK_STATUS_XTALRDY : Fld := ⟨.CLK_STATUS, 9, 9⟩
def CLK_STATUS_OSCRDY : Fld := ⟨.CLK_STATUS, 8, 8⟩
def CLK_STATUS_PLLLOCK : Fld := ⟨.CLK_STATUS, 7, 7⟩
def CLK_STATUS_CSTATE : Fld := ⟨.CLK_STATUS, 2, 0⟩
def CLK_GATE_DIS : Fld := ⟨.CLK_GATE, 5, 0⟩
def CLK_COMMIT_GO : Fld := ⟨.CLK_COMMIT, 0, 0⟩
def CLK_GLOBAL_EN : Fld := ⟨.CLK_GLOBAL, 16, 16⟩
def CLK_GLOBAL_N : Fld := ⟨.CLK_GLOBAL, 12, 0⟩
def PWR_REQ_GO : Fld := ⟨.PWR_REQ, 17, 17⟩
def PWR_REQ_ON : Fld := ⟨.PWR_REQ, 16, 16⟩
def PWR_REQ_DOMAIN : Fld := ⟨.PWR_REQ, 15, 0⟩
def PWR_STATUS_DOMAIN : Fld := ⟨.PWR_STATUS, 31, 16⟩
def PWR_STATUS_RESULT : Fld := ⟨.PWR_STATUS, 7, 4⟩
def PWR_STATUS_CFGERR : Fld := ⟨.PWR_STATUS, 1, 1⟩
def PWR_STATUS_BUSY : Fld := ⟨.PWR_STATUS, 0, 0⟩
def PWR_ON_ON : Fld := ⟨.PWR_ON, 63, 0⟩
def RST_CAUSE_DEVCNT : Fld := ⟨.RST_CAUSE, 31, 16⟩
def RST_CAUSE_LAST : Fld := ⟨.RST_CAUSE, 7, 0⟩
def RST_CTRL_GO : Fld := ⟨.RST_CTRL, 32, 32⟩
def RST_CTRL_SCOPE : Fld := ⟨.RST_CTRL, 31, 16⟩
def RST_CTRL_INST : Fld := ⟨.RST_CTRL, 15, 0⟩
def RST_STATUS_RESULT : Fld := ⟨.RST_STATUS, 7, 4⟩
def RST_STATUS_CFGERR : Fld := ⟨.RST_STATUS, 1, 1⟩
def RST_STATUS_BUSY : Fld := ⟨.RST_STATUS, 0, 0⟩
def GPIO_OUT_OUT : Fld := ⟨.GPIO_OUT, 63, 0⟩
def GPIO_OE_OE : Fld := ⟨.GPIO_OE, 63, 0⟩
def GPIO_OD_OD : Fld := ⟨.GPIO_OD, 63, 0⟩
def GPIO_IN_IN : Fld := ⟨.GPIO_IN, 63, 0⟩
def GPIO_LKMASK_MASK : Fld := ⟨.GPIO_LKMASK, 63, 0⟩
def GPIO_LOCK_KEY : Fld := ⟨.GPIO_LOCK, 63, 0⟩
def GPIO_PMMASK_MASK : Fld := ⟨.GPIO_PMMASK, 63, 0⟩
def GPIO_PMVAL_VAL : Fld := ⟨.GPIO_PMVAL, 63, 0⟩
def GPIO_PMCTL_PMF : Fld := ⟨.GPIO_PMCTL, 2, 2⟩
def GPIO_PMCTL_MODE : Fld := ⟨.GPIO_PMCTL, 1, 1⟩
def GPIO_PMCTL_EN : Fld := ⟨.GPIO_PMCTL, 0, 0⟩
def GPIO_STATUS_CFGERR : Fld := ⟨.GPIO_STATUS, 0, 0⟩
def PMX_EN_EN : Fld := ⟨.PMX_EN, 11, 0⟩
def PMX_TCAP_PINS : Fld := ⟨.PMX_TCAP, 63, 0⟩
def PMX_STATUS_IMULTI : Fld := ⟨.PMX_STATUS, 3, 0⟩
def SYS_RVBAR_ADDR : Fld := ⟨.SYS_RVBAR, 47, 0⟩
def SYS_CORE_RUN_BOOTERR : Fld := ⟨.SYS_CORE_RUN, 8, 8⟩
def SYS_CORE_RUN_RUN : Fld := ⟨.SYS_CORE_RUN, 7, 0⟩
def SYS_IRQPOST_SRC : Fld := ⟨.SYS_IRQPOST, 9, 0⟩
def SYS_WBERR_VALID : Fld := ⟨.SYS_WBERR, 63, 63⟩
def SYS_WBERR_STATUS : Fld := ⟨.SYS_WBERR, 51, 48⟩
def SYS_WBERR_ADDR : Fld := ⟨.SYS_WBERR, 47, 0⟩
def TB_MTIMECMP_CMP : Fld := ⟨.TB_MTIMECMP, 63, 0⟩
def TB_MSIP_MSIP : Fld := ⟨.TB_MSIP, 0, 0⟩
def WDT_CTRL_LOCK : Fld := ⟨.WDT_CTRL, 1, 1⟩
def WDT_CTRL_EN : Fld := ⟨.WDT_CTRL, 0, 0⟩
def WDT_PERIOD_PERIOD : Fld := ⟨.WDT_PERIOD, 31, 0⟩
def WDT_KICK_KEY : Fld := ⟨.WDT_KICK, 63, 0⟩
def WDT_STATUS_REMAIN : Fld := ⟨.WDT_STATUS, 63, 32⟩
def WDT_STATUS_RESETS : Fld := ⟨.WDT_STATUS, 23, 8⟩
def WDT_STATUS_BADKEY : Fld := ⟨.WDT_STATUS, 3, 3⟩
def WDT_STATUS_EARLY : Fld := ⟨.WDT_STATUS, 2, 2⟩
def WDT_STATUS_FROZEN : Fld := ⟨.WDT_STATUS, 1, 1⟩
def WDT_STATUS_STAGE : Fld := ⟨.WDT_STATUS, 0, 0⟩
def DBG_STATUS_CFGERR : Fld := ⟨.DBG_STATUS, 16, 16⟩
def DBG_STATUS_PMFAIL : Fld := ⟨.DBG_STATUS, 15, 8⟩
def DBG_STATUS_LOCKOUT : Fld := ⟨.DBG_STATUS, 7, 7⟩
def DBG_STATUS_SLOT : Fld := ⟨.DBG_STATUS, 6, 5⟩
def DBG_STATUS_SOURCE : Fld := ⟨.DBG_STATUS, 4, 2⟩
def DBG_STATUS_LEVEL : Fld := ⟨.DBG_STATUS, 1, 0⟩
def DBG_CTRL_HOLD_WDT : Fld := ⟨.DBG_CTRL, 1, 1⟩
def DBG_CTRL_INSPECT : Fld := ⟨.DBG_CTRL, 0, 0⟩
def DBG_PMTIME_T : Fld := ⟨.DBG_PMTIME, 63, 0⟩
def DBG_PMCMD_GO : Fld := ⟨.DBG_PMCMD, 2, 2⟩
def DBG_PMCMD_OP : Fld := ⟨.DBG_PMCMD, 1, 0⟩
def DBG_EWCOMMIT_GO : Fld := ⟨.DBG_EWCOMMIT, 0, 0⟩
def DBG_VT_TX_N : Fld := ⟨.DBG_VT_TX, 58, 56⟩
def DBG_VT_TX_DATA : Fld := ⟨.DBG_VT_TX, 55, 0⟩
def DBG_VT_RX_N : Fld := ⟨.DBG_VT_RX, 58, 56⟩
def DBG_VT_RX_DATA : Fld := ⟨.DBG_VT_RX, 55, 0⟩
def DBG_VT_STAT_IEN : Fld := ⟨.DBG_VT_STAT, 4, 4⟩
def DBG_VT_STAT_RXOVF : Fld := ⟨.DBG_VT_STAT, 3, 3⟩
def DBG_VT_STAT_TXOVF : Fld := ⟨.DBG_VT_STAT, 2, 2⟩
def DBG_VT_STAT_RXFULL : Fld := ⟨.DBG_VT_STAT, 1, 1⟩
def DBG_VT_STAT_TXFULL : Fld := ⟨.DBG_VT_STAT, 0, 0⟩
def DBG_EWCFG_ENG : Fld := ⟨.DBG_EWCFG, 15, 8⟩
def DBG_EWCFG_ACT : Fld := ⟨.DBG_EWCFG, 5, 4⟩
def DBG_EWCFG_SRC : Fld := ⟨.DBG_EWCFG, 3, 1⟩
def DBG_EWCFG_EN : Fld := ⟨.DBG_EWCFG, 0, 0⟩
def DBG_EWVAL_VAL : Fld := ⟨.DBG_EWVAL, 63, 0⟩
def DBG_EWMASK_MASK : Fld := ⟨.DBG_EWMASK, 63, 0⟩
def DBG_EWHIT_VALID : Fld := ⟨.DBG_EWHIT, 63, 63⟩
def DBG_EWHIT_MODE : Fld := ⟨.DBG_EWHIT, 48, 48⟩
def DBG_EWHIT_WHERE : Fld := ⟨.DBG_EWHIT, 47, 0⟩
def DBG_EWCNT_COUNT : Fld := ⟨.DBG_EWCNT, 31, 0⟩
def PMON_CTL_CLR : Fld := ⟨.PMON_CTL, 2, 2⟩
def PMON_CTL_IEN : Fld := ⟨.PMON_CTL, 1, 1⟩
def PMON_CTL_RUN : Fld := ⟨.PMON_CTL, 0, 0⟩
def PMON_STATUS_CFGERR : Fld := ⟨.PMON_STATUS, 11, 11⟩
def PMON_STATUS_LATE : Fld := ⟨.PMON_STATUS, 10, 10⟩
def PMON_STATUS_FROZEN : Fld := ⟨.PMON_STATUS, 9, 9⟩
def PMON_STATUS_WINF : Fld := ⟨.PMON_STATUS, 8, 8⟩
def PMON_STATUS_OVF : Fld := ⟨.PMON_STATUS, 7, 0⟩
def PMON_COMMIT_GO : Fld := ⟨.PMON_COMMIT, 0, 0⟩
def PMON_CYC_CYC : Fld := ⟨.PMON_CYC, 63, 0⟩
def PMON_SNAPCYC_CYC : Fld := ⟨.PMON_SNAPCYC, 63, 0⟩
def PMON_EVT_FILT : Fld := ⟨.PMON_EVT, 11, 11⟩
def PMON_EVT_PORT : Fld := ⟨.PMON_EVT, 10, 8⟩
def PMON_EVT_EVT : Fld := ⟨.PMON_EVT, 7, 0⟩
def PMON_CNT_COUNT : Fld := ⟨.PMON_CNT, 47, 0⟩
def PMON_SNAP_COUNT : Fld := ⟨.PMON_SNAP, 47, 0⟩
def PMON_FMID_CLASS : Fld := ⟨.PMON_FMID, 35, 34⟩
def PMON_FMID_PRIV : Fld := ⟨.PMON_FMID, 33, 32⟩
def PMON_FMID_FMASK : Fld := ⟨.PMON_FMID, 25, 16⟩
def PMON_FMID_FMID : Fld := ⟨.PMON_FMID, 9, 0⟩
def PMON_FLO_ADDR : Fld := ⟨.PMON_FLO, 47, 0⟩
def PMON_FHI_ADDR : Fld := ⟨.PMON_FHI, 47, 0⟩
def PMON_WIN_WIN : Fld := ⟨.PMON_WIN, 31, 0⟩
def PMON_BW_MBPS : Fld := ⟨.PMON_BW, 63, 32⟩
def PMON_BW_BYTES : Fld := ⟨.PMON_BW, 31, 0⟩

end F

end Sys2Proof.Machine
end

