-- ==== Sys2Proof/Machine/State.lean ====
section
/-!
DEFINITION. The state of the part as plain data: the registers of control space (by global address, reset values by the
register map), and for every block the state that its chapter gives it beyond its registers. Replicated units are sparse
tables keyed by the unit's number; an unlisted unit is in its reset state.
-/
namespace Sys2Proof.Machine

/-! ### Comet engines (chapter 02) -/

/-- Engine modes of R66. -/
inductive EMode where
  | idle | stream | paused | analysis | sync | fault
  deriving DecidableEq, Repr

/-- An entry of the bundle buffer (R45): tag, bundle, poison of its two words. -/
structure BufEntry where
  valid : Bool := false
  tag : BitVec 7 := 0
  bits : BitVec 128 := 0
  poison : BitVec 2 := 0
  deriving DecidableEq, Repr

/-- An entry of the prefetch queue (R44): a bundle, or a failed entry after a port A error (R46). -/
structure PqEntry where
  addr : BAddr
  ok : Bool := true
  bits : BitVec 128 := 0
  poison : BitVec 2 := 0
  deriving DecidableEq, Repr

/-- A load that port A has taken and whose data has not reached its register (R41). -/
structure LoadReq where
  reg : BitVec 4
  word : BitVec 17
  data : Word
  poison : Bool
  age : Nat := 0                           -- steps since the step of its issue
  deriving DecidableEq, Repr

/-- What a DGEN slot writes at S4 (R94): a data register, DO, a generator's state and output word. -/
structure DgenEff where
  wr : Option (BitVec 4) := none
  wo : Bool := false
  r : Word := 0
  rp : Bool := false
  gen : Option (BitVec 2 × BitVec 31) := none
  pw : Option (BitVec 2 × Word) := none
  deriving DecidableEq, Repr

/-- What a MAC slot writes at S6 (R97): accumulators, a data register, the saturation flag. -/
structure MacEff where
  accs : List (Nat × Word48) := []
  wr : Option (BitVec 4 × Word) := none
  sat : Bool := false
  deriving DecidableEq, Repr

/-- Where a bundle stands (R48, R50): in a delay slot, in a setup slot, or neither. -/
inductive Place where
  | plain | delay | setup
  deriving DecidableEq, Repr

/-- One occupied pipeline stage (R38): the bundle, and what its earlier stages latched for its later ones. -/
structure Stage where
  addr : BAddr := 0
  bits : BitVec 128 := 0
  poison : BitVec 2 := 0
  place : Place := .plain
  aIn : List Word32 := []                  -- a0 to a7 as the bundle read them at S3 (R141)
  ao : Word32 := 0
  store : Option (Word32 × Word × Bool) := none
  dgen : DgenEff := {}
  dout : Word := 0
  doutP : Bool := false
  mac : MacEff := {}
  cmps : List (BitVec 3 × Bool) := []      -- in the order AGEN, DGEN, MAC
  deriving DecidableEq, Repr

/-- How the fetch unit stands: running, or stopped because the program ends (R54) or a handler returns (R78). -/
inductive Ending where
  | none | halt | enta | reti
  deriving DecidableEq, Repr

/-- A vector the gang has issued whose compare close has not come (R134), with what the FCU needs of it. -/
structure VecInfo where
  idx : Word48
  v : Nat                                  -- V_k in ticks
  period : Nat
  ts : BitVec 6
  aIn : List (List Word32)                 -- per member: a0 to a7 at S3
  ao : List Word32                         -- per member: AO
  run : Nat := 0                           -- which start or resume it was issued after (R150)
  stop : Bool := false                     -- the FCU's pause took effect at this vector (R148)
  deriving DecidableEq, Repr

/-- What the leader of a gang holds (R71, R72, R105, R107, R123). -/
structure Gang where
  armed : Bool := false
  startAt : Option Nat := none             -- accepted start time, in root periods, rounded (R23)
  woke : Bool := false                     -- members woken, prefetch begun (R72)
  resumeAt : Option Nat := none
  nextV : Nat := 0                         -- reference time of the next vector, in ticks
  vidx : Word48 := 0                       -- index of the next vector
  run : Nat := 0                           -- starts and resumes so far
  firstRun : Nat := 0                      -- run at the last start from IDLE
  cmdMid : Option Nat := none              -- master of the last start command, where it was acted on (R25)
  cmdTaken : Bool := false                 -- it was accepted
  cmdLate : Bool := false                  -- LATE stood before it
  vecs : List VecInfo := []                -- oldest first
  pausedEnd : Nat := 0                     -- V_p + P_p of the pause vector (R123)
  eopAt : Option Nat := none               -- the instant, in ticks, of the end-of-pattern state of a run that has ended (R125)
  deriving DecidableEq, Repr

/-- A RESTL that holds itself in S2 (R80, R101): its bundle, the word index of its block, and the ten words as port A has read
them; none: a port A error. -/
structure RestlWait where
  addr : BAddr
  base : Nat
  words : Option (List (Word × Bool))
  deriving DecidableEq, Repr

/-- The state of one comet engine (R36), its pipeline and its fetch unit (R38 to R47). -/
structure Engine where
  mode : EMode := .idle
  pc : BAddr := 0
  a : Tab Word32 := {}
  o : Tab Word32 := {}
  m : Tab Word32 := {}
  ao : Word32 := 0
  d : Tab Word := {}
  dp : Tab Bool := {}
  dout : Word := 0
  doutP : Bool := false
  g : Tab (BitVec 31) := {}
  pw : Tab Word := {}
  acc : Tab Word48 := {}
  l : Tab (BitVec 24) := {}
  lstart : Tab BAddr := {}
  lend : Tab BAddr := {}
  ld : Nat := 0
  cstack : Tab BAddr := {}
  cd : Nat := 0
  flags : Byte := 0
  buf : Tab BufEntry := {}
  pq : List PqEntry := []
  pqNext : Option BAddr := none            -- next bundle the prefetch reads; none: not prefetching
  s1 : Option Stage := none
  s2 : Option Stage := none
  s3 : Option Stage := none
  s4 : Option Stage := none
  s5 : Option Stage := none
  s6 : Option Stage := none
  loads : List LoadReq := []
  fetching : Bool := false
  ending : Ending := .none
  restl : Option RestlWait := none         -- RESTL held at S2 (R80, R101)
  restlDone : Bool := false                -- its words have arrived: it leaves S2 at the next step
  arrived : Bool := false                  -- the engine has reached a SYNC that has not released (R74, R77)
  syncDone : Bool := false                 -- the SYNC in S2 has released, or an interrupt has ended its wait (R74, R77)
  leftIdle : Bool := false                 -- the engine has left IDLE since a self-calibration took its cluster (R201)
  alone : Bool := false                    -- in analysis, outside the gang's lockstep (R75)
  draining : Bool := false                 -- FAULT entered, safe state not yet taken (R69)
  clearPend : Bool := false                -- CE_CTRL.CLEAR written during the drain
  gangFault : Option (Nat × BAddr) := none -- fault signal on its way: faulting engine and bundle (R73)
  f6Due : Bool := false                    -- FCU set of f6, f7 on its way (R49)
  f7Due : Bool := false
  trig : Bool := false                     -- trigger output towards the fabric (R99, R227)
  trigCnt : Byte := 0                      -- MARK vectors, as ENG_TRIGCNT shows them (R227)
  pulses : Nat := 0                        -- pulses of ENG_TRIG given to the fabric
  gang : Gang := {}
  deriving DecidableEq, Repr

/-! ### Pattern pins (chapter 04) -/

/-- A placed drive or enable event: effective time in ticks and the value it gives the ball (R117, R120). -/
structure PinEvent where
  time : Nat
  val : Bool
  deriving DecidableEq, Repr

/-- A vector of some run of the gang that an engine leads, as one number. -/
def vecKey (leader run : Nat) (idx : Word48) : Nat := (run * 256 + leader) * 2 ^ 48 + idx.toNat

/-- A placed strobe (R114): effective times on the two comparators, its vector (vecKey), its number in the vector, the pin code's
pass rule and its expectation. -/
structure StrobeEv where
  tH : Nat
  tL : Nat
  vec : Nat
  j : Nat
  code : BitVec 4
  expct : Bool
  deriving DecidableEq, Repr

/-- A WC window (R115): its open and close, its vector, whether it is served, and whether C1 = C2 (a single sample). -/
structure WinEv where
  tOpen : Nat
  tClose : Nat
  vec : Nat
  served : Bool
  single : Bool := false
  deriving DecidableEq, Repr

/-- What an EC window will report (R128, R129). -/
inductive EcKind where
  | armed | empty | overlap
  deriving DecidableEq, Repr

/-- An EC window (R128). -/
structure EcEv where
  tOpen : Nat
  tClose : Nat
  vec : Word48
  v : Nat
  kind : EcKind
  deriving DecidableEq, Repr

/-- A comparator's present strobe group (R121): time of its first strobe and its sample. -/
structure StrobeGroup where
  time : Nat
  sample : Bool
  deriving DecidableEq, Repr

/-- The results of one vector on one channel: failed, and the first failing (or first) sample and expectation (R140). -/
structure PinResult where
  vec : Nat
  failed : Bool := false
  rcv : BitVec 2 := 0
  expct : Bool := false
  sampled : Bool := false
  deriving DecidableEq, Repr

/-- The state of one pattern channel (R103, R104, R120 to R129). -/
structure Channel where
  pdrv : Bool := false
  pden : Bool := false
  oeRose : Bool := false                   -- OE := 1 since a self-calibration took the cluster (R201)
  streamed : Bool := false                 -- a stream run began since OE := 1 (R104)
  eopOn : Bool := false                    -- the balls carry the end-of-pattern state (R124)
  drvQ : List PinEvent := []
  denQ : List PinEvent := []
  strobes : List StrobeEv := []
  wins : List WinEv := []
  ecs : List EcEv := []
  grpH : Option StrobeGroup := none
  grpL : Option StrobeGroup := none
  winOpenTill : Nat := 0                   -- close of the last served WC window
  ecBusyTill : Nat := 0                    -- close of the last armed EC window + 1,024 (R129)
  results : List PinResult := []
  compH : Bool := false                    -- comparator balls as last seen by the synchroniser
  compL : Bool := false
  deriving DecidableEq, Repr

/-- A raw capture in a cluster's capture queue (R130, R131); raw is the TDC's coarse count K and fine code F of a recorded
transition (R190). -/
structure Capture where
  chan : Nat
  vec : Word48
  v : Nat
  kind : EcKind
  raw : Option (Nat × BitVec 12)
  deriving DecidableEq, Repr

/-! ### Fail capture units (chapter 05) -/

/-- A fail record in the fail FIFO (R140): its gang slot and its four words. -/
structure FailRec where
  slot : Nat
  w0 : Word
  w1 : Word
  w2 : Word
  w3 : Word
  deriving DecidableEq, Repr

/-- One accumulation update (R151): target address, lanes, operand. -/
structure AccUpd where
  addr : Nat
  op : AtomicOp
  opnd : Word
  deriving DecidableEq, Repr

/-- An accumulation queue entry (R145): the updates of one vector for the members of one gang in the cluster. -/
structure AccEntry where
  slot : Nat                               -- slot of the gang in its leader's cluster
  lead : Nat
  upds : List AccUpd
  deriving DecidableEq, Repr

/-- A record write on its way (R144): its slot, its request, and whether its completion still counts. -/
structure RecOut where
  slot : Nat
  xid : Nat
  live : Bool := true
  after : Bool := false                    -- an earlier write of its slot failed while it was outstanding
  deriving DecidableEq, Repr

/-- An accumulation update on its way (R152): its gang, operand, lane kind and request. -/
structure AccOut where
  slot : Nat
  lead : Nat
  op : AtomicOp
  opnd : Word
  xid : Nat
  deriving DecidableEq, Repr

/-- What an FCU holds per gang slot beyond its registers (R141, R146, R148, R150). -/
structure FcuSlot where
  seq : Byte := 0
  lossN : Nat := 0                         -- drops not yet reported by a LOSS record
  lossIdx : Word48 := 0
  lossV : Nat := 0
  issue : Nat := 0                         -- ring entry of the next record to be written
  reqs : List Nat := []                    -- reasons of a pause request that has not taken effect
  stopReqs : List (List Nat) := []         -- reasons of each FCU pause whose STOP record is not yet written, oldest first
  fcuPaused : Bool := false                -- the pause in force is one that the FCU requested
  held : List Nat := []                    -- reasons of a request that waits for the gang's resume
  failRun : Nat := 0                       -- run in which the first failing vector was seen, plus 1 (R150)
  limited : Bool := false                  -- the fail limit has been reached since the last clear
  aengOff : Bool := false                  -- AENG was not below the gang's size at the start (R141)
  deriving DecidableEq, Repr

/-- The state of one fail capture unit (R137 to R152). -/
structure Fcu where
  fifo : List FailRec := []
  accq : List AccEntry := []
  slots : Tab FcuSlot := {}
  outs : List RecOut := []
  accOuts : List AccOut := []
  caps : List Capture := []                -- the cluster's capture queue (R130)
  ng : Nat := 4                            -- n as it stood when an engine of the cluster last entered STREAM (R137)
  deriving DecidableEq, Repr

/-! ### Slices and the secure bank (chapter 06) -/

/-- Port A's last accesses of a slice, in one of whose slice cycles a port B access can still fall (R161): the code words it
read, or those it wrote with their values before. SAVEL's writes and RESTL's reads, up to four accesses, stand here together. -/
inductive PortA where
  | none
  | read (first count : Nat)
  | write (old : List (Nat × Code64))
  deriving DecidableEq, Repr

/-- What a slice holds beyond its cells and registers: the background test's holding register (R168) and port A's last
access. -/
structure Slc where
  hold : BitVec 320 := 0
  portA : PortA := .none
  deriving DecidableEq, Repr

/-! ### Sealed measurement partition (chapter 07) -/

/-- A mailbox slot of the SMP (R199): owner, request word, reply, and data words 4 to 31. -/
structure SmpSlot where
  owner : Option MasterId := none
  req : Word := 0
  status : Byte := 0
  tag : Byte := 0                          -- TAG of the last request submitted
  done : Bool := false
  rlen : BitVec 16 := 0
  running : Bool := false
  data : Tab Word := {}
  deriving DecidableEq, Repr

/-- States of a result buffer (R193). -/
inductive BufSt where
  | free | filling | signing | signed
  deriving DecidableEq, Repr

/-- A result buffer (R193, R196): its entries (words 0 and 1), and what its header will name. -/
structure ResBuf where
  st : BufSt := .free
  entries : List (Word × Word) := []
  tfirst : Word := 0
  tlast : Word := 0
  flags : Byte := 0
  clusters : List Nat := []
  bseq : Nat := 0
  sealNo : Nat := 0
  plane : Bool := false
  calid : Word := 0
  tcal : BitVec 16 := 0
  tnow : BitVec 16 := 0
  header : List Word := []                 -- 64 words once signed
  deriving DecidableEq, Repr

/-- A calibration that runs (R201, R202): its kind, the clusters that the SMP has not taken yet, those that it calibrates, and whether
one has completed. -/
structure CalRun where
  self : Bool
  wait : List Nat := []
  left : List Nat := []
  done : Bool := false
  deriving DecidableEq, Repr

/-- The last calibration of a cluster, as CALSTAT reports it (R200): kind 1 SELFCAL, 2 DRIFTCAL, 3 import; state 0 none,
1 running, 2 done, 3 abandoned. -/
structure CalLast where
  kind : Nat := 0
  time : Word := 0
  st : Nat := 0
  deriving DecidableEq, Repr

/-- What the SMP segment puts into the partition, and the memories it fills (R181, R184, R204): the segment as loaded, the code words of
the instruction and data SRAMs, and the 65th sector's frames, register stages and block memories, keyed as those of the user sectors
are. -/
structure Meter where
  seg : Option (List Byte) := none
  imem : Tab Code64 := {}                  -- 32,768 code words
  dmem : Tab Code64 := {}                  -- 32,768 code words
  frames : Tab (BitVec 8192) := {}         -- 54 frames
  ffs : Tab (Option Bool) := {}            -- key 2 * M-cell + stage; none: INIT
  bm : Tab (BitVec 80) := {}               -- key 512 * block + word
  deriving DecidableEq, Repr

/-- The SMP beyond its registers. -/
structure Smp where
  slots : Tab SmpSlot := {}
  reqs : List Nat := []                    -- slots whose requests run, in order of GO
  bufs : Tab ResBuf := {}
  bseq : Nat := 0                          -- number of the next block since START
  prev : BitVec 512 := 0                   -- chain value of the next block to be signed
  signs : Nat := 0                         -- signatures made
  setclose : BitVec 32 := 0
  imp : Bool := false                      -- an import is open; its data stand in the work area (R200)
  outSig : Option (BitVec 512 × BitVec 1056) := none -- CALOUT's signature and the digest that it signs (R200)
  meter : Meter := {}
  cals : List CalRun := []
  last : Tab CalLast := {}
  tcal : Tab (Option Int) := {}            -- calibration temperature per cluster, 1/16 °C
  tout : Tab Bool := {}
  calValid : Bool := false                 -- a valid calibration set is loaded (R186)
  driftOver : Tab Bool := {}               -- channel p: a DRIFT was clamped (R186)
  pendOff : Tab Bool := {}                 -- cluster c: offsets wait (R187)
  trefOoc : Tab Bool := {}                 -- cluster c: OOC by a TRU fault
  trefCal : Tab Bool := {}                 -- cluster c: a drift calibration completed since the fault
  reload : Bool := false                   -- after a bank wipe: captures are held back until the reload (R204)
  segReq : Bool := false                   -- the meter core has requested its segment
  seg : Option (List Byte) := none         -- the segment as delivered, not yet acted on
  segHash : BitVec 512 := 0                -- SHA-512 of the segment that runs
  stalls : Nat := 0                        -- network cycles of refused acceptance, modulo 1,024
  deriving DecidableEq, Repr

/-! ### Event log (R408) and fuses -/

/-- The event log (R176, R408, R409): where its records stand in the secure bank's cache, their number since provisioning, the hash
chain, and the flash ring's write position. -/
structure EvLog where
  wr : Nat := 0                            -- byte offset in the bank's cache of the next record
  pend : List (Nat × Nat) := []            -- cached records that flash does not hold: byte offset and words, oldest first
  late : List (List Word) := []            -- records formed while the bank accepts no access, oldest first
  kept : List (List Word) := []            -- the records that the flash ring holds whole, oldest first
  seq : Word := 0
  prev : BitVec 512 := 0
  ring : Nat := 0
  flushed : Word := 0                      -- SEQ of the last record that reached flash
  signs : Nat := 0
  deriving DecidableEq, Repr

/-- The fuses (R181, R205, R237, R416): the seal counter, the metrology key slots and the active one, the configuration and debug
key slots, password and firmware key hashes, the firmware floor, and the life-cycle state. -/
structure Fuses where
  sealNo : Nat := 0
  sealLogged : Nat := 0                    -- last seal value that the event log names (R205)
  metKeys : Tab (Option (BitVec 512)) := {}
  metSlot : Nat := 0
  exhausted : Bool := false                -- R207
  cfgKeys : Tab (Option (BitVec 512)) := {}
  lc : Nat := 0                            -- life-cycle state (R416)
  lcLogged : Nat := 0                      -- last state that a record of type 0x07 names (R417)
  dbgKeys : Tab (Option (BitVec 512)) := {}
  passHash : Option (BitVec 512) := none
  fwKey : Option (BitVec 512) := none
  floor : Nat := 0                         -- steps burned of the firmware floor (R415)
  deriving DecidableEq, Repr

/-! ### Logic fabric (chapter 08) -/

/-- The last access to a block memory, with which an access of the other port can fall in one cycle (R218): its port (true:
B), physical word, the bits it wrote, and the word before it. -/
structure BmLast where
  portB : Bool := false
  valid : Bool := false
  word : Nat := 0
  mask : BitVec 80 := 0
  old : BitVec 80 := 0
  deriving DecidableEq, Repr

/-- The outputs of a block-memory port (R215, R218). -/
structure BmOut where
  dout : BitVec 80 := 0
  corr : Bool := false
  poison : Bool := false
  wref : Bool := false
  collb : Bool := false
  deriving DecidableEq, Repr

/-- The three register stages of an arithmetic slice (R220). -/
structure Arith where
  cap : ArithIn := {}
  p0 : BitVec 42 := 0
  p1 : BitVec 42 := 0
  p2 : BitVec 42 := 0
  p3 : BitVec 42 := 0
  c : Word := 0                            -- C, OP and RST as captured with the operands of the products
  op : BitVec 2 := 0
  rst : Bool := false
  acc : Word := 0
  sat : Bool := false
  deriving DecidableEq, Repr

/-- Where a sector's configuration came from (R258): 0 none, 1 flash, 2 DRAM, 3 stream; the image's start, its HASH and the
sector's position in it. -/
structure SectorSrc where
  kind : Nat := 0
  base : Nat := 0
  hash : BitVec 512 := 0
  pos : Nat := 0
  deriving DecidableEq, Repr

/-- The signals from the engines of a cluster and the time base as the column clock of a sector last took them (R227): ENG_TRIG,
ENG_TRIGCNT, ENG_MODE and ENG_FAIL of engines 0 to 3, and TB_GRAY. -/
structure ColumnView where
  trig : BitVec 4 := 0
  cnt : Tab Byte := {}
  mode : Tab (BitVec 3) := {}
  fail : BitVec 4 := 0
  tb : BitVec 32 := 0
  deriving DecidableEq, Repr

/-- A sector beyond its FAB block (R222, R227, R253, R259). -/
structure Sector where
  decl : Option (BitVec 8192) := none      -- frame 0 of the configuration whose declarations are in force; none since power-on (R253)
  held : Bool := true                      -- the border cells hold their declarations
  irq : Tab Byte := {}                     -- border cells: ENG_IRQ of engines 0 to 3
  tx : Tab (BitVec 129) := {}              -- border cells of each lane's transmit side: TXV in bit 128, TXD below
  view : ColumnView := {}
  gates : BitVec 16 := 0                   -- RGATE_0 to RGATE_15 as their lines last took them (R222)
  src : SectorSrc := {}
  pass : Option Nat := none                -- a scrub pass runs: the next frame
  upsets : Nat := 0                        -- corrections, reloads and failures of this pass
  quiet : Nat := 0
  repair : Option Nat := none              -- a frame to be reloaded
  deriving DecidableEq, Repr

/-! ### Configuration controller (chapter 09) -/

/-- The loader beyond CFG_STATUS: the image it loads and how far it is. -/
structure Loader where
  user : Bool := false                     -- a load in user mode (R252)
  src : SectorSrc := {}
  back : Nat := 0                          -- the state to return to on failure (R243)
  golden : Bool := false                   -- the golden image is the one being tried
  hdr : List Byte := []
  body : List Byte := []                   -- body bytes taken so far
  sect : Option Nat := none                -- sector whose frames arrive
  frame : Nat := 0                         -- its next frame
  count : Nat := 0                         -- frames taken
  sectors : List Nat := []                 -- sectors in order
  start : Nat := 0                         -- TIME at entry to HEADER, plus time that does not count (R245, R246)
  stream : List Byte := []                 -- stream bytes that Mbana has fed and the loader has not taken
  streamLast : Nat := 0                    -- TIME of the last stream data
  streamEnd : Bool := false
  fenced : List Nat := []                  -- sectors that this load has fenced (R254)
  doneRel : Bool := false                  -- CFG_DONE released by DONEREL (R250)
  settings : Bool := false                 -- the settings record has been read since reset (R233)
  fmode : Nat := 0                         -- FMODE, ORDOP and DUMMY of the settings record (R230, R232)
  ordop : Byte := 0
  dummy : Nat := 0
  active : Bool := false
  tmo : Nat := 0
  ready : Bool := false                    -- CFG_DONE released by this device
  good : Bool := false                     -- the last load ended without a failure
  imgHash : BitVec 512 := 0                -- body HASH of the loaded image (R421)
  deriving DecidableEq, Repr

/-! ### Network interfaces and arbiters (chapter 10) -/

/-- A network interface beyond its registers (R275, R279, R285, R286). -/
structure Ni where
  stallTill : Nat := 0                     -- router NI: TIME until which the router grants no new bulk packet (R281)
  holdTill : Nat := 0                      -- router NI: TIME until which a maintenance commit holds both channels (R280)
  outst : Nat := 0                         -- requests issued and not answered
  infl : Nat := 0                          -- requests received and not answered
  rtq : List Nat := []                     -- RT requests that wait for a token, by request number
  held : List (Nat × Nat × Nat) := []      -- what wake-on-access holds: request, first word, words (the first, then the waiting)
  deriving DecidableEq, Repr

/-- An access that waits at the arbiter of a slice's port B or of the secure bank (R159, R177): its requester, its request, its
first word and its words. -/
structure ArbWait where
  req : Nat
  xid : Nat
  first : Nat
  count : Nat
  deriving DecidableEq, Repr

/-- A common arbiter (R287). -/
structure Arb where
  wq : List ArbWait := []                  -- accesses that wait for a grant, in order of arrival
  owner : Option Nat := none
  last : Nat := 7
  held : Nat := 0
  used : Nat := 0
  wait : Tab Nat := {}
  deriving DecidableEq, Repr

/-! ### Requests in the network (chapter 10) -/

/-- A packet as it crosses the mesh or a link (R264, R267): header, extension, and data words with poison. -/
structure Packet where
  addr : Nat := 0
  inspect : Bool := false
  status : Nat := 0
  mid : MasterId := 0
  tag : Byte := 0
  len : Nat := 0
  cmd : Nat := 0
  rt : Bool := false
  ext : Bool := true
  vcl : Nat := 0
  turn : BitVec 28 := 0
  nh : Nat := 0
  exit : Nat := 0
  ddev : Nat := 0
  sdev : Nat := 0
  dhops : Nat := 0
  hop : BitVec 28 := 0
  words : List (Word × Bool) := []
  deriving DecidableEq, Repr

/-- A packet between two routers: the router that holds its header, and whether it has left the mesh (R269). -/
structure Flight where
  pkt : Packet
  router : Nat
  inp : Nat := 6                           -- the input port whose buffer holds it (R272, R273)
  xid : Option Nat := none                 -- the bridge's own request that it carries
  deriving DecidableEq, Repr

/-- Kinds of request (R265). -/
inductive XKind where
  | read | write
  | atomic (op : AtomicOp)
  | reserved                               -- a command code that R265 does not define, as a link can bring it
  deriving DecidableEq, Repr

/-- An NI that answers a part of a request: its number, whether its INFL counts the part, and the part's first word (R262). -/
structure Holder where
  ni : Nat
  counted : Bool
  first : Nat
  deriving DecidableEq, Repr

/-- A request between its source and its response: what it asks, its words, the parts of it still to be performed (left), the
reply's words by index, and the failures by word index. -/
structure Xact where
  mid : MasterId
  tag : Nat := 0
  rt : Bool := false
  kind : XKind
  addr : Nat
  len : Nat
  wpar : List (Word × Bool) := []          -- words of a write, with poison, or an atomic's operands
  narrow : Bool := false                   -- not of whole, aligned words
  inspect : Bool := false                  -- R474
  same : Bool := false                     -- port B meets port A's access in one slice cycle (R161)
  src : Nat := 0                           -- its source NI
  sent : Bool := false                     -- injected, not answered by its own NI
  time : Nat := 0                          -- TIME of injection
  left : Nat := 0
  words : Tab Word := {}
  poison : Tab Bool := {}
  fails : List (Nat × Status) := []
  holders : List Holder := []              -- the NIs whose responses are still to come
  dead : Bool := false                     -- the source NI has answered it (R279)
  lost : List Nat := []                    -- parts, by first word, whose responses were dropped (R279)
  late : Bool := false                     -- its sector has been fenced since: the completion is discarded (R254)
  atFabric : Bool := false                 -- a sector port has delivered it to the fabric design (R224)
  far : Option (Nat × Packet) := none      -- a bridge's request through the bridge named to another device (R367, R369)
  deriving DecidableEq, Repr

/-- The response that a master received last: its tag, status, and words with poison. -/
structure Rsp where
  tag : Nat := 0
  status : Status := .ok
  words : List (Word × Bool) := []
  deriving DecidableEq, Repr

/-! ### DRAM channels (chapters 11 and 12) -/

/-- One line of a request at a channel (R296): the request, the index of its first word there, the line, the words it
touches, and what it writes. -/
structure LineReq where
  xid : Nat
  first : Nat
  mid : MasterId
  rt : Bool := false
  lam : Nat
  kind : XKind
  mask : Byte
  data : List (Word × Bool) := []          -- 8 words by position in the line
  cmp : Word := 0
  deriving DecidableEq, Repr

/-- A throttled master (R307): the banks at which it is throttled, each with the TIME of its end. -/
structure Throttled where
  mid : MasterId
  banks : List (Nat × Nat)
  deriving DecidableEq, Repr

/-- A rate change or retraining in progress (R311). -/
structure Transition where
  setrate : Bool
  rate : Nat
  quiesced : Bool := false
  deriving DecidableEq, Repr

/-- A verified counter block in a datapath's cache (R322): block i of a level of region r, its contents, and whether they differ from
the stored block. -/
structure CtrBlk where
  region : Nat
  lvl : Nat
  i : Nat
  body : BitVec 1024
  dirty : Bool := false
  deriving DecidableEq, Repr

/-- The state of one DRAM channel beyond its registers. -/
structure Dmc where
  wait : List LineReq := []                -- under back-pressure before the input queues, in order (R300)
  inq : List LineReq := []                 -- the input queues, 16 accesses to a requester
  sched : List LineReq := []
  thrBuf : List LineReq := []
  thrAt : Nat := 0                         -- TIME from which the throttle buffer's next request is admitted (R307)
  openRow : Tab (Option Nat) := {}
  pred : Tab Nat := {}                     -- H of R302
  acts : Tab (List (Nat × Nat)) := {}      -- per bank: row and count (R305)
  throttled : List Throttled := []
  cewb : List Nat := []                    -- lines whose corrected form is to be written back
  patrol : Nat := 0
  refBank : Nat := 0
  refCount : Nat := 0
  postponed : Tab Nat := {}                -- per bank: the intervals by which its refresh is postponed (R303)
  ctrs : List CtrBlk := []                 -- the datapath's cache of verified counter blocks, oldest first (R322)
  trained : Bool := false
  selfRefresh : Bool := false              -- contents kept while DM_k is off (R313)
  trans : Option Transition := none
  deriving DecidableEq, Repr

/-- The keys that a region's datapaths hold (R331). -/
structure IceKeys where
  kd0 : BitVec 256 := 0
  kd1 : BitVec 256 := 0
  kt : BitVec 256 := 0
  deriving DecidableEq, Repr

/-- The keys in a bridge's key registers (R331). -/
structure LinkKeys where
  txCur : BitVec 256 := 0
  txNext : BitVec 256 := 0
  rxCur : BitVec 256 := 0
  rxNext : BitVec 256 := 0
  deriving DecidableEq, Repr

/-- The inline-crypto engine beyond its registers. -/
structure Ice where
  keys : Tab IceKeys := {}
  roots : Tab Word := {}                   -- key (12 * region + channel) * 128 + entry (R321)
  failTimes : Tab (List Nat) := {}         -- per region: times of integrity failures (R327)
  before : Tab Nat := {}                   -- state before LOCKED
  lockIrq : Tab Bool := {}                 -- lock-down interrupts at Mbana (R327)
  linkKeys : Tab LinkKeys := {}
  linkDue : Tab Bool := {}                 -- bridge b: a key transfer is due
  deriving DecidableEq, Repr

/-! ### Serial lanes (chapter 13) -/

/-- The pattern checker of a lane (R348). -/
structure Checker where
  hist : Word := 0                         -- the last 64 received bits, newest in bit 0
  good : Nat := 0                          -- error-free bits in a row while not synchronised
  ref : Word := 0                          -- the last 64 bits of the reference sequence while synchronised
  pos : Nat := 0                           -- bits since synchronisation
  errs : List Nat := []                    -- positions of the errors among the last 1,024 bits
  deriving DecidableEq, Repr

/-- A lane beyond its registers. -/
structure Lane where
  rx : List (BitVec 128) := []             -- receive FIFO (R343)
  tx : List (BitVec 128) := []             -- transmit FIFO
  tapsDue : Bool := false                  -- LN_TXEQ was committed since the last training began (R341)
  chk : Checker := {}
  deriving DecidableEq, Repr

/-! ### Swepin bridges and the time base (chapter 14) -/

/-- A link block of a frame (R362): its four words and their valid and poison bits. -/
structure LinkBlk where
  bits : BitVec 256 := 0
  valid : BitVec 4 := 0
  poison : BitVec 4 := 0
  deriving DecidableEq, Repr

/-- What a bridge's context holds (R367 to R369): a request received over a link, or a descriptor's request, with the bridge
by which the request leaves this device. -/
inductive Ctx where
  | link (mid : MasterId) (tag : Byte) (cmd : Nat) (out : Option Nat)
  | desc (rt : Bool) (entry : Nat) (out : Nat)
  deriving DecidableEq, Repr

/-- A bridge beyond its registers. -/
structure Bridge where
  downAt : Nat := 0                        -- TIME of entry into DOWN, or into the present state
  retry : Bool := false                    -- 10 ms in DOWN have passed, or the bridge has not been up
  inits : Nat := 0                       -- INIT blocks in a row that matched
  txSeq : BitVec 12 := 0
  rxSeq : BitVec 12 := 0
  nakSent : Bool := false
  acksDue : Nat := 0                       -- frames accepted since the last ACK
  replay : List Frame := []                -- frames that no ACK covers yet, oldest first
  replays : Nat := 0                       -- replays of the oldest one
  credits : Tab Nat := {}                  -- transmit credits by class
  retCred : Tab Nat := {}                  -- credits to return by class
  stream : Tab (List LinkBlk) := {}        -- link blocks of packets that wait for frames, by class
  rxs : Tab (List LinkBlk) := {}           -- received link blocks of packets not yet complete, by class
  reqs : List (Packet × Nat) := []         -- requests received and waiting for a context, with their arrival
  rsps : List (Nat × Packet) := []         -- responses from the mesh, by context
  ctxs : Tab (Option Ctx) := {}
  qIssue : Nat := 0                        -- next bulk descriptor to issue
  rtIssue : Nat := 0
  qDone : List Nat := []                   -- completed bulk descriptors at or beyond TAIL
  rtDone : List Nat := []
  ctl : Word := 0                          -- payload of the last control block sent
  exch : Nat := 0                          -- number of the exchange in progress
  t1 : Nat := 0
  sumTheta : Int := 0
  sumDelta : Int := 0
  nExch : Nat := 0
  allAligned : Bool := true
  peerAligned : Bool := false
  keyNext : Bool := false                  -- the next transmit key is marked loaded
  keyMoved : Bool := false                 -- and its transfer has completed since
  txFrames : Word := 0                     -- frame counters of the epochs (R330)
  rxFrames : Word := 0
  rxNextFrames : Word := 0
  resync : Bool := false                   -- no frame has been accepted since the link came up: the sender's counter may be ahead (R330)
  deriving DecidableEq, Repr

/-- The time base beyond TIME and its registers. -/
structure TimeBase where
  frac : Nat := 0                          -- FRAC in ticks
  step : Int := 0                          -- the pending step
  deriving DecidableEq, Repr

/-! ### Error log (chapter 15) and interrupt controller (chapter 19) -/

/-- An error record (R389). -/
structure ErrRec where
  kind : Byte
  inst : Nat
  cls : Byte
  mid : Option MasterId := none
  addr : Nat := 0
  loc : Nat := 0
  cols : BitVec 32 := 0
  rows : BitVec 32 := 0
  data : Word := 0
  deriving DecidableEq, Repr

/-- A record as it stands in the log: with its count, first time and number (R389, R390). -/
structure LogRec where
  body : ErrRec
  count : Nat
  time : Word
  seq : BitVec 32
  deriving DecidableEq, Repr

/-- The error log beyond its registers. -/
structure ErrLog where
  onWay : List ErrRec := []                -- detected, not yet at the log; oldest first
  recs : Tab (Option LogRec) := {}
  seq : BitVec 32 := 0
  deriving DecidableEq, Repr

/-- The platform interrupt controller (R462, R463; register layout of the RISC-V PLIC standard). -/
structure Plic where
  prio : Tab Nat := {}
  pend : Tab Bool := {}
  claimed : Tab Bool := {}                 -- claimed and not yet completed
  enable : Tab Word := {}                  -- key 16 * context + word of 64 sources
  thresh : Tab Nat := {}
  deriving DecidableEq, Repr


/-! ### Mbana (chapter 16) -/

/-- A command packet in Mbana's intake queue (R399, R404). Transports: 0 management port, 1 SPI, 2 + j mailbox window j. -/
structure MbPkt where
  via : Nat
  peer : Nat := 0                          -- sender's address and port (UDP)
  op : Nat
  seq : Nat
  token : Nat
  params : List Byte
  cyc : Nat := 0                           -- number of the root/16 cycle in which its receipt completed
  twin : Bool := false                     -- superseded (R404)
  deriving DecidableEq, Repr

/-- A reply (R399, R401). -/
structure MbReply where
  via : Nat
  peer : Nat := 0
  op : Nat
  seq : Nat
  token : Nat
  status : Nat
  data : List Byte := []
  deriving DecidableEq, Repr

/-- What the management port sends (R396, R397). -/
inductive PortMsg where
  | reply (r : MbReply)
  | arp (ip : BitVec 32) (dst : BitVec 48)
  | echo4 (dst : BitVec 32) (payload : List Byte)
  | echo6 (dst : BitVec 128) (payload : List Byte)
  | neighbor (addr : BitVec 128) (dst : BitVec 128)
  deriving DecidableEq, Repr

/-- How Mbana stands (R394, R395, R413): not started, booting, running firmware, running the minimal ROM service, SAFE. -/
inductive MbRun where
  | off | booting | firmware | rom | safe
  deriving DecidableEq, Repr

/-- A held resource (R403): its token and the RTC second of its lease's end. -/
structure Owner where
  token : Nat
  endAt : Option Nat := none
  deriving DecidableEq, Repr

/-- A write to a flash slot in progress (R405, R414): slot, length, next offset, erase running, image checked. -/
structure SlotWrite where
  slot : Nat
  len : Nat
  pos : Nat := 0
  erasing : Bool := true
  checked : Bool := false
  deriving DecidableEq, Repr

/-- Mbana beyond its registers. -/
structure Mbana where
  run : MbRun := .off
  cause : Nat := 0                         -- cause of the boot under way or last done
  slot : Nat := 0
  bootRtc : Nat := 0
  queue : List MbPkt := []
  cyc : Nat := 0                           -- root/16 cycles in which packets have completed
  relay : Option Nat := none               -- SMP slot of the relayed request that runs (R405)
  last : Tab (Option MbReply) := {}        -- last completed command of each transport (R400)
  portUp : Bool := false
  sent : List PortMsg := []                -- what the management port has sent, oldest first
  spiReply : List Byte := []
  spiOut : List Byte := []                 -- what the last SPI frame read out (R396)
  owners : Tab (Option Owner) := {}
  settings : Tab (Option Word) := {}       -- keys present (R410, R411)
  cert : List Byte := []
  mism : List Nat := []                    -- RTC seconds of lockstep mismatches (R394)
  lcNonce : Option (BitVec 256 × Nat) := none
  dbgNonce : Option (BitVec 256 × Nat) := none
  passFails : Nat := 0
  sens : Tab Int := {}                     -- sensors 40 to 63
  warned : Tab Bool := {}
  crits : Tab Bool := {}
  tamperOn : BitVec 4 := 0                 -- filtered active levels
  vcore : Nat := 900                       -- VCORE setpoint in mV
  trimOff : Bool := false
  lowRuns : Nat := 0
  highRuns : Nat := 0
  keyNext : Nat := 0
  certSig : BitVec 1056 := 0               -- certification of the SMP partition key (R420)
  signs : Nat := 0
  streamLen : Nat := 0
  streamPos : Nat := 0
  streamOpen : Bool := false
  img : Option SlotWrite := none
  fw : Option SlotWrite := none
  wakeMask : BitVec 16 := 0
  trainedAt : Tab Nat := {}                -- per channel: RTC second and temperature of its last training
  trainTemp : Tab Int := {}
  patrolAt : Tab Nat := {}                 -- per channel: RTC second at which its window of corrections began
  patrolChg : Tab Nat := {}                -- per channel: RTC second of its last patrol change
  deferAt : Tab Nat := {}                  -- per channel: RTC second of the last logged deferral (R424)
  trimAt : Nat := 0                        -- TIME of the last trim step
  confirmBy : Option Nat := none           -- RTC second by which a trial must be confirmed (R414)
  patrolCe : Tab Nat := {}                 -- per channel: CE_COUNT as the patrol policy last took it
  retires : List (Nat × Nat) := []         -- pages to be retired and when (R424)
  links : Tab LinkKeys := {}               -- per bridge: the link keys that Mbana has agreed (R331, R423)
  wipeSeen : Bool := false                 -- a wipe whose policy 8 has not run
  deriving DecidableEq, Repr

/-! ### Clocks, power and reset (chapter 17) -/

/-- What a domain operation does: power on, power off, or a scoped reset (R434, R435, R441). -/
inductive PwrKind where
  | on | off | reset
  deriving DecidableEq, Repr

/-- Who asked for it: hardware or Mbana of itself, PWR_REQ, RST_CTRL, or a command packet that waits for its reply. -/
inductive PwrAsk where
  | own | reg | rst
  | cmd (r : MbReply)
  deriving DecidableEq, Repr

/-- A domain operation that runs. -/
structure PwrOp where
  dom : Nat
  kind : PwrKind
  ask : PwrAsk := .own
  deriving DecidableEq, Repr

/-- Clocks, power and reset beyond their registers. -/
structure Power where
  strap : Nat := 0                         -- BOOT_MODE as sampled (R235)
  locked : Bool := false                   -- the root PLL has locked since power-on (R442)
  stopCause : Nat := 3                     -- RST_CAUSE.LAST of the reset that will end the clock stop
  stopMon : Nat := 0                       -- monitor of the trip
  thermal : Bool := false                  -- a thermal trip that Mbana has not cleared (R407, R431)
  crystal : Bool := true                   -- the RTC runs from the crystal (R430)
  ops : List PwrOp := []                   -- domain operations, oldest first
  deviceRst : Bool := false                -- start-up after a DEVICE reset (R439)
  asleep : Bool := false                   -- start-up after device sleep (R445)
  tamperLatch : BitVec 4 := 0              -- tamper inputs latched while nothing runs (R432)
  globalFrom : Tab Nat := {}               -- per fabric global line: TIME from which it runs after a change (R223, R428)
  deriving DecidableEq, Repr

/-! ### System pins and management peripherals (chapter 18) -/

/-- A timer (R456). -/
structure Timer where
  ctl : BitVec 5 := 0
  count : Word := 0                        -- COUNT at TIME since
  since : Nat := 0
  cmp : Word := 0
  cap : Word := 0
  cmpF : Bool := false
  capF : Bool := false
  capOvf : Bool := false
  tout : Bool := false
  deriving DecidableEq, Repr

/-- A UART (R456). -/
structure Uart where
  cfg : BitVec 21 := 0
  rx : List Byte := []
  tx : List Byte := []
  overrun : Bool := false
  frameErr : Bool := false
  parErr : Bool := false
  deriving DecidableEq, Repr

/-- An I2C controller (R456). -/
structure I2c where
  cfg : BitVec 4 := 0
  cmd : BitVec 25 := 0
  busy : Bool := false
  nack : Bool := false
  arbLost : Bool := false
  tmo : Bool := false
  pecErr : Bool := false
  alert : Bool := false
  cfgErr : Bool := false
  fifo : List Byte := []
  deriving DecidableEq, Repr

/-- An SPI master (R456). -/
structure SpiM where
  cfg : BitVec 12 := 0x10                  -- DIV 4
  len : Nat := 0
  busy : Bool := false
  cfgErr : Bool := false
  tx : List Byte := []
  rx : List Byte := []
  deriving DecidableEq, Repr

/-- The SPI slave (R396, R456). -/
structure SpiS where
  en : Bool := true
  cfgErr : Bool := false
  rx : List Byte := []
  deriving DecidableEq, Repr

/-- The management peripherals and the GPIO logic beyond their registers. -/
structure Periph where
  timers : Tab Timer := {}
  uarts : Tab Uart := {}
  i2cs : Tab I2c := {}
  spims : Tab SpiM := {}
  spis : SpiS := {}
  rtcFrac : BitVec 15 := 0
  rtcAlarm : Nat := 0
  alarmF : Bool := false
  xtalFail : Bool := false
  locked : Word := 0                       -- pins locked (R454)
  lockAt : Option Nat := none              -- TIME of the first key, while it can still be followed
  hiZ : Word := 0                          -- pins that change owner in this GPIO clock (R451)
  pads : Word := 0                         -- board levels as last seen
  matched : Bool := false                  -- the pattern matched in the last GPIO clock
  deriving DecidableEq, Repr

/-! ### Application cores, debug and counters (chapter 19) -/

/-- A hart trigger (R471). -/
structure Trigger where
  tdata1 : Word := 0
  tdata2 : Word := 0
  deriving DecidableEq, Repr

/-- A hart: application core, Mbana (8) or meter core (9), as the debug module sees it (R457, R468). -/
structure Hart where
  running : Bool := false                  -- out of reset
  halted : Bool := false
  haveReset : Bool := true
  resumeAck : Bool := false
  pc : Word := 0
  priv : Nat := 3
  gpr : Tab Word := {}
  fpr : Tab Word := {}
  csr : Tab Word := {}
  resv : Option Nat := none                -- LR reservation (R475)
  wait : Option (Nat × Nat) := none        -- the access that an uncacheable load or store waits for, and its register
  trigs : Tab Trigger := {}                -- 0 to 7 mcontrol6, 8 icount
  deriving DecidableEq, Repr

/-- A line in one of the application cores' caches (R458): which line of memory, dirty or not, data, poison per word. -/
structure CacheLine where
  line : Nat
  dirty : Bool := false
  data : BitVec 512 := 0
  poison : Byte := 0
  deriving DecidableEq, Repr

/-- The application cores' caches (R2, R458). Core k has the entries 1024 k to 1024 k + 1023 of L1 (64 KiB: instructions in 256 sets of 4
ways, data in 128 of 8) and the entries 16384 k to 16384 k + 16383 of L2 (1 MiB, 1,024 sets of 16 ways); L3 (8 MiB, 8,192 sets of
16 ways) has 131,072. The entry of way w in set n is ways * n + w. -/
structure Caches where
  l1i : Tab (Option CacheLine) := {}
  l1d : Tab (Option CacheLine) := {}
  l2 : Tab (Option CacheLine) := {}
  l3 : Tab (Option CacheLine) := {}
  deriving DecidableEq, Repr

/-- The debug module (R468; RISC-V external debug specification 1.0). -/
structure DebugModule where
  active : Bool := false
  hartSel : Nat := 0
  data0 : BitVec 32 := 0
  data1 : BitVec 32 := 0
  progbuf : Tab (BitVec 32) := {}
  cmdErr : Nat := 0
  autoExec : BitVec 32 := 0
  sbReadOnAddr : Bool := false
  sbReadOnData : Bool := false
  sbAutoInc : Bool := false
  sbAccess : Nat := 2
  sbError : Nat := 0
  sbAddr : Word := 0
  sbData : Word := 0
  deriving DecidableEq, Repr

/-- Data registers of the TAP (R467). -/
inductive TapReg where
  | idcode | bypass | boundary | dtmcs | dmi
  deriving DecidableEq, Repr

/-- The IEEE 1149.1 TAP (R467). -/
structure Tap' where
  ir : Nat := 1
  reg : TapReg := .idcode
  shift : Word := 0                        -- what the selected register captured
  boundary : Word := 0                     -- boundary cells of the system pins as last updated (R467)
  drive : Bool := false                    -- the boundary cells drive the pins (EXTEST, CLAMP)
  highz : Bool := false
  dmiErr : Nat := 0
  deriving DecidableEq, Repr

/-- A global monitor command on its way or waiting for its time (R479). -/
structure PmonCmd where
  op : Nat
  t : Nat
  deriving DecidableEq, Repr

/-- Watches, monitors and the debug port beyond their registers. -/
structure Debug where
  dm : DebugModule := {}
  meterSeal : Bool := false                -- the seal step for debug of the meter core has been taken (R206)
  tap : Tap' := {}
  cmds : Tab (List PmonCmd) := {}          -- per PMON instance: commands that have reached it
  cycAt : Tab Nat := {}                    -- per PMON instance: TIME at which PMON_CYC was last brought up to date
  sbPend : Option Bool := none             -- a system bus access to be issued (true: write)
  sbWait : Option Nat := none              -- the system bus access under way
  pauses : List (Nat × Nat) := []          -- leader and TIME from which a watch pause is due (R472)
  freezes : List Nat := []                 -- times of watch freezes
  wdtAt : Tab Nat := {}                    -- per WDT instance: TIME of the last reload (R465)
  deriving DecidableEq, Repr
/-! ### The whole state -/

/-- The state of the part. Registers of control space stand in regs (fields without a shadow), work and shadow (RWS
fields: working and shadow values), by global address. -/
structure State where
  pending : List Instr := []               -- commands waiting, first in first out (the model's queue)
  free : Nat := 0                          -- the model's own counter of free values
  time : Word := 0                         -- TIME (R371)
  regs : Tab Word := {}
  work : Tab Word := {}
  shadow : Tab Word := {}
  engines : Tab Engine := {}
  chans : Tab Channel := {}
  offs : Tab Int := {}                     -- calibration offsets in force, key 6 * channel + class (R117, R187)
  fcus : Tab Fcu := {}
  slices : Tab Code64 := {}
  slcs : Tab Slc := {}
  sbk : Tab Code64 := {}                   -- secure bank code words (R176)
  flash : Tab Byte := {}                   -- the flash pair's combined space (R230)
  smp : Smp := {}
  log : EvLog := {}
  fuses : Fuses := {}
  frames : Tab (BitVec 8384) := {}         -- key 3456 * sector + frame: 8,192 bits, then 192 check bits (R239, R257)
  ffs : Tab (Option Bool) := {}            -- key 2 * M-cell + (0: FFM, 1: FFB); none: INIT (R211)
  bm : Tab (BitVec 80) := {}               -- key 512 * block + word (R215)
  bmLast : Tab BmLast := {}
  bmOut : Tab BmOut := {}                  -- key 2 * block + port
  bmRet : Tab Bool := {}                   -- retirements in force (R391)
  arith : Tab Arith := {}
  lineStop : Tab Bool := {}                -- key 16 * sector + j: a regional line that waits to restart (R223)
  sectors : Tab Sector := {}
  loader : Loader := {}
  xacts : Tab (Option Xact) := {}
  rsps : Tab (Option Rsp) := {}            -- last response of each master
  xnext : Nat := 0                         -- number of the next request
  dram : Tab Line := {}                    -- key 2^25 * channel + line (R294)
  dmcs : Tab Dmc := {}
  ilvLocked : Bool := false                -- DMC_ILV is locked (R308)
  ice : Ice := {}
  lanes : Tab Lane := {}
  bridges : Tab Bridge := {}
  tb : TimeBase := {}
  flights : Tab (Option Flight) := {}      -- packets on the mesh between bridges (R366)
  fnext : Nat := 0
  nis : Tab Ni := {}                       -- key 8 * router + port
  arbs : Tab Arb := {}
  rtc : Nat := 0                           -- RTC seconds
  temps : Tab Int := {}                    -- temperature site n = 0 to 39, 1/16 °C (R406)
  mb : Mbana := {}
  pwr : Power := {}
  io : Periph := {}
  harts : Tab Hart := {}
  caches : Caches := {}
  dbg : Debug := {}
  err : ErrLog := {}
  plic : Plic := {}
  deriving DecidableEq, Repr

/-- The part right after power-on reset: every field at its reset value (R37, R438). -/
def State.reset : State := {}

/-- Reasons for which a step of the model stops. No meaning of this model raises one: see NOTES.md. -/
inductive Fault where
  /-- No step of the part ends in a fault of the model: the part reports its faults in its own state. Safe: never
  raised. -/
  | none
  deriving DecidableEq, Repr

/-- Reasons for which a command has no meaning here. -/
inductive Refusal where
  /-- The command's meaning is not written yet; raised by the arms of exec that say so. Safe: it stops the model. -/
  | notModelled (mnemonic : String)
  deriving DecidableEq, Repr

end Sys2Proof.Machine
end

