-- ==== Sys2Proof/Machine/Ops.lean ====
section
/-!
DEFINITION. The named operations over registers, shadows, interrupts, the error log's queue, time and slices that the
meanings share. Control-space registers are held by global address (R28); fields written RWS have a working value and a
shadow value (R7, R10).
-/
namespace Sys2Proof.Machine

open Sys2Proof

/-! ### Registers -/

/-- DMC_ILV and SWP_DEVID are one register that every instance shows (R308, R365). -/
def regInst (r : RegId) (i : Nat) : Nat :=
  match r with
  | .DMC_ILV => 0
  | .SWP_DEVID => 0
  | _ => i

/-- R18, R19: port p of router r exists: a mesh port with a neighbour or with a block attached, or a port 4 to 7 with a block. -/
def portExists (r p : Nat) : Bool :=
  let x := r % 8
  let y := r / 8
  match p with
  | 0 => decide (0 < y)
  | 1 => decide (x < 7)
  | 2 => decide (y < 7) || r == 61 || r == 62
  | 3 => decide (0 < x)
  | 4 => true
  | 5 => true
  | 6 => x == 0 || x == 7 || y == 0 || y == 7
  | 7 => [27, 28, 35, 36, 55, 59, 60, 62, 63].contains r
  | _ => false

/-- R268: a router has an NI on port p (4 to 7, or 2 on routers 61 and 62); 0 stands for the router NI. -/
def niExists (r p : Nat) : Bool :=
  p == 0 || (decide (4 ≤ p) && portExists r p) || (p == 2 && (r == 61 || r == 62))

/-- R268: the table of the NI on port p (0: the router NI). -/
def tableOf (p : Nat) : Nat := if p = 0 then 0 else if p = 2 then 5 else p - 3

/-- The NI that has table t of a router. -/
def niOfTable (t : Nat) : Nat := if t = 0 then 0 else if t = 5 then 2 else t + 3

/-- R18: the ports that exist, as a mask. -/
def portMask (r : Nat) : Nat := (List.range 8).foldl (fun acc p => acc + bit (portExists r p) * 2 ^ p) 0

/-- R262: destination d exists. -/
def destExists (d : Nat) : Bool := d % 8 != 0 && niExists (d / 8) (d % 8)

/-- The moves of the X-first route from router r to router q (R270). -/
def xFirst (r q : Nat) : List Nat :=
  List.replicate (q % 8 - r % 8) 1 ++ List.replicate (r % 8 - q % 8) 3 ++
  List.replicate (q / 8 - r / 8) 2 ++ List.replicate (r / 8 - q / 8) 0

/-- The TURN field of a list of moves (R264). -/
def turnBits : List Nat → Nat
  | [] => 0
  | m :: ms => m + 4 * turnBits ms

/-- R270: the default entry of destination d in every table of router r. -/
def defaultRoute (r d : Nat) : Word :=
  let ms := xFirst r (d / 8)
  BitVec.ofNat 64 (bit (destExists d) * 2 ^ 38 + 2 ^ 37 + turnBits ms * 128 + ms.length * 8 + d % 8)

/-- The reset value of ARB_CFG_r of an instance (R159, R288, R300; R159 gives no number for the higher priority: log entry
46). -/
def arbReset (i r : Nat) : Word :=
  let cfg (prio burst wait : Nat) : Word := BitVec.ofNat 64 (wait * 2 ^ 32 + burst * 65536 + prio)
  if i < 512 then cfg 0 1 0
  else if i < 768 then if r = 0 then cfg 1 0 0 else if r = 1 then cfg 0 8 0 else 0#64
  else if i < 780 then
    if r = 0 then cfg 15 1 0 else if r = 5 then cfg 0 4 1024 else if r < 7 then cfg 0 4 0 else 0#64
  else cfg 0 1 0

/-- The reset value of a register; where instances differ, by instance: ARB_CFG's limits (R159, R288, R300), the route tables
(R270), the ports that exist (R18, R289), DMC_TIM per rate, pins 0 to 3 owned by the SPI slave (R449). -/
def regReset (r : RegId) (i j k : Nat) : Word :=
  match r with
  | .DMC_TIM => if j = 0 then 0x6401860C000B0A0C#64 else 0x3200C30600070606#64
  | .SMP_OOC => BitVec.allOnes 64
  | .PMX_OWN => if j = 0 then 0x1111#64 else 0#64
  | .ARB_CFG => arbReset i j
  | .NOC_CFG => BitVec.ofNat 64 (portMask i)
  | .NOC_ROUTE => defaultRoute i k
  | _ => BitVec.ofNat 64 r.desc.reset

/-- The global address of a register: instance i of its block, indices j and k (R28). -/
def regAddr (r : RegId) (i : Nat := 0) (j : Nat := 0) (k : Nat := 0) : Nat :=
  let d := r.desc
  let p := d.blk.place
  p.1 + regInst r i * p.2.2 + d.off + j * d.s1 + k * d.s2

/-- The bits of a register that have a shadow. A register of the part has either only such fields or none. -/
def isShadowed (r : RegId) : Bool := r.desc.rws != 0

/-- The working value of a register. -/
def State.reg (s : State) (r : RegId) (i : Nat := 0) (j : Nat := 0) (k : Nat := 0) : Word :=
  if isShadowed r then s.work.get (regAddr r i j k) (regReset r i j k)
  else s.regs.get (regAddr r i j k) (regReset r i j k)

/-- Set the working value of a register. -/
def State.setReg (s : State) (r : RegId) (v : Word) (i : Nat := 0) (j : Nat := 0) (k : Nat := 0) : State :=
  { s with
    work := if isShadowed r then s.work.set (regAddr r i j k) v (regReset r i j k) else s.work
    regs := if isShadowed r then s.regs else s.regs.set (regAddr r i j k) v (regReset r i j k) }

/-- The shadow value of a register (R7). -/
def State.shadowReg (s : State) (r : RegId) (i : Nat := 0) (j : Nat := 0) (k : Nat := 0) : Word :=
  s.shadow.get (regAddr r i j k) (regReset r i j k)

/-- Write a shadow value (R7). -/
def State.setShadow (s : State) (r : RegId) (v : Word) (i : Nat := 0) (j : Nat := 0) (k : Nat := 0) : State :=
  { s with shadow := s.shadow.set (regAddr r i j k) v (regReset r i j k) }

/-- The bits of a field in a word. -/
def fldOf (f : Fld) (w : Word) : Nat := (w.extractLsb' f.lo (f.hi - f.lo + 1)).toNat

/-- The mask of a field. -/
def fldMask (f : Fld) : Word := BitVec.ofNat 64 ((2 ^ (f.hi - f.lo + 1) - 1) * 2 ^ f.lo)

/-- A word with a field replaced (the value is cut to the field's width). -/
def putFld (f : Fld) (v : Nat) (w : Word) : Word :=
  (w &&& ~~~ (fldMask f)) ||| ((BitVec.ofNat 64 v <<< f.lo) &&& fldMask f)

/-- The working value of a field. -/
def State.fld (s : State) (f : Fld) (i : Nat := 0) (j : Nat := 0) (k : Nat := 0) : Nat := fldOf f (s.reg f.reg i j k)

/-- A one-bit field as a Bool. -/
def State.flag (s : State) (f : Fld) (i : Nat := 0) (j : Nat := 0) (k : Nat := 0) : Bool := s.fld f i j k != 0

/-- The shadow value of a field. -/
def State.sfld (s : State) (f : Fld) (i : Nat := 0) (j : Nat := 0) (k : Nat := 0) : Nat :=
  fldOf f (s.shadowReg f.reg i j k)

/-- Set the working value of a field. -/
def State.setFld (s : State) (f : Fld) (v : Nat) (i : Nat := 0) (j : Nat := 0) (k : Nat := 0) : State :=
  s.setReg f.reg (putFld f v (s.reg f.reg i j k)) i j k

/-- Set a status bit. -/
def State.raise (s : State) (f : Fld) (i : Nat := 0) (j : Nat := 0) (k : Nat := 0) : State := s.setFld f 1 i j k

/-- The largest value of a field. -/
def fldMax (f : Fld) : Nat := 2 ^ (f.hi - f.lo + 1) - 1

/-- Count in a field that stops at its largest value. -/
def State.count (s : State) (f : Fld) (i : Nat := 0) (j : Nat := 0) (k : Nat := 0) (n : Nat := 1) : State :=
  s.setFld f (satAdd (fldMax f) (s.fld f i j k) n) i j k

/-- R10: instance i of a block takes all its shadow values together. -/
def State.commitBlock (s : State) (b : Block) (i : Nat := 0) : State :=
  let p := b.place
  let lo := p.1 + i * p.2.2
  { s with work := s.work.merge s.shadow lo (lo + p.2.2) }

/-- The registers at addresses lo to hi - 1 take their reset values, shadows included (R438). -/
def State.resetRange (s : State) (lo hi : Nat) : State :=
  let p (k : Nat) : Bool := lo ≤ k && k < hi
  { s with regs := s.regs.clear p, work := s.work.clear p, shadow := s.shadow.clear p }

/-- The registers of instance i of a block take their reset values. -/
def State.resetBlock (s : State) (b : Block) (i : Nat := 0) : State :=
  let p := b.place
  s.resetRange (p.1 + i * p.2.2) (p.1 + (i + 1) * p.2.2)

/-! ### Interrupts, error records, time -/

/-- R463: a source of the interrupt controller is pended. -/
def State.pendIrq (s : State) (src : Nat) : State :=
  { s with plic := { s.plic with pend := s.plic.pend.set src true false } }

/-- A unit detects an event that the error log records; the record is on its way to the log (R389). -/
def State.logErr (s : State) (r : ErrRec) : State := { s with err := { s.err with onWay := s.err.onWay ++ [r] } }

/-- TIME never runs behind a moment the part has reached (log entry 4). -/
def State.atTime (s : State) (t : Nat) : State := { s with time := if s.time.toNat < t then BitVec.ofNat 64 t else s.time }

/-- TIME in root periods (R371). -/
def State.now (s : State) : Nat := s.time.toNat

/-- A fresh free value: an opaque value that nothing constrains, and the counter advanced (log entry 2). -/
def State.fresh (s : State) (w : Nat) : BitVec w × State := (Config.freeValue w s.free, { s with free := s.free + 1 })

/-- What a command makes of s, apart from the queue, which no command's effect reaches. -/
def State.keep (s t : State) : State := { t with pending := s.pending }

/-! ### Power domains (domain codes of R409) -/

/-- Domain codes. -/
def domCPU (k : Nat) : Nat := k
def domL3 : Nat := 8
def domCL (c : Nat) : Nat := 0x100 + c
def domSL (c : Nat) : Nat := 0x200 + c
def domFS (x : Nat) : Nat := 0x300 + x
def domDM (k : Nat) : Nat := 0x400 + k
def domLQ (q : Nat) : Nat := 0x500 + q
def domSB (b : Nat) : Nat := 0x600 + b
def domSMP : Nat := 0x700

/-- A switchable domain is on: its bit of PWR_ON (R446). -/
def State.domOn (s : State) (d : Nat) : Bool := (s.reg .PWR_ON 0 (d / 256)).getLsbD (d % 256)

/-! ### Units -/

/-- Engine e. -/
def State.eng (s : State) (e : Nat) : Engine := s.engines.get e {}
/-- Replace engine e. -/
def State.setEng (s : State) (e : Nat) (x : Engine) : State := { s with engines := s.engines.set e x {} }
/-- Change engine e. -/
def State.modEng (s : State) (e : Nat) (f : Engine → Engine) : State := s.setEng e (f (s.eng e))
/-- Channel p. -/
def State.chan (s : State) (p : Nat) : Channel := s.chans.get p {}
/-- Replace channel p. -/
def State.setChan (s : State) (p : Nat) (x : Channel) : State := { s with chans := s.chans.set p x {} }
/-- Change channel p. -/
def State.modChan (s : State) (p : Nat) (f : Channel → Channel) : State := s.setChan p (f (s.chan p))
/-- Fail capture unit c. -/
def State.fcu (s : State) (c : Nat) : Fcu := s.fcus.get c {}
/-- Replace fail capture unit c. -/
def State.setFcu (s : State) (c : Nat) (x : Fcu) : State := { s with fcus := s.fcus.set c x {} }
/-- Change fail capture unit c. -/
def State.modFcu (s : State) (c : Nat) (f : Fcu → Fcu) : State := s.setFcu c (f (s.fcu c))
/-- Slice n beyond its cells. -/
def State.slc (s : State) (n : Nat) : Slc := s.slcs.get n {}
/-- Change slice n beyond its cells. -/
def State.modSlc (s : State) (n : Nat) (f : Slc → Slc) : State := { s with slcs := s.slcs.set n (f (s.slc n)) {} }

/-! ### Clock states (R446) -/

def ckBoot : Nat := 0
def ckRun : Nat := 1
def ckStopped : Nat := 2
def ckWait : Nat := 3
def ckSleep : Nat := 4

/-- CLK_STATUS.CSTATE. -/
def State.cstate (s : State) : Nat := s.fld F.CLK_STATUS_CSTATE

/-! ### Quads (R17) -/

/-- R17, R19: the router of quad q, which has the number of the sector that the quad faces. -/
def quadRouter (q : Nat) : Nat := if q ≤ 17 then 8 * (4 * q / 9) else 8 * (4 * (q - 18) / 9) + 7

/-! ### Gangs (R21) -/

/-- The gang size that a CE_GANG.SIZE code names. -/
def gangSizeOf (code : Nat) : Nat := 2 ^ code

/-- The committed gang size of engine e. -/
def State.gangSize (s : State) (e : Nat) : Nat := gangSizeOf (s.fld F.CE_GANG_SIZE e)

/-- R21: the leader of engine e. -/
def State.leader (s : State) (e : Nat) : Nat := e / s.gangSize e * s.gangSize e

/-- R21: the members of the gang that engine e leads. -/
def State.members (s : State) (e : Nat) : List Nat := (List.range (s.gangSize e)).map (e + ·)

/-- Apply a change to every unit of a list, in order. -/
def State.forAll (s : State) (xs : List Nat) (f : State → Nat → State) : State := xs.foldl f s

/-! ### Slices -/

/-- The key of code word j of slice n. -/
def sliceKey (n j : Nat) : Nat := n * 131072 + j

/-- The stored code word j of slice n. -/
def State.cell (s : State) (n j : Nat) : Code64 := s.slices.get (sliceKey n j) 0

/-- Store code word j of slice n. -/
def State.setCell (s : State) (n j : Nat) (c : Code64) : State :=
  { s with slices := s.slices.set (sliceKey n j) c 0 }

end Sys2Proof.Machine
end

