-- ==== Sys2Proof/Machine/Pmon.lean ====
section
/-!
DEFINITION. Counting an event at the performance monitors (R476, R477, R479), for every block whose events they count.
-/
namespace Sys2Proof.Machine

open Sys2Proof

/-- R479: a monitor counts: RUN = 1 and FROZEN = 0. -/
def State.pmonCounts (s : State) (i : Nat) : Bool := s.flag F.PMON_CTL_RUN i && !(s.flag F.PMON_STATUS_FROZEN i)

/-- R476: n events of a kind at an instance and port: every counter that counts them, given whether the event passes the
filter; a counter wraps at 2^48 and sets OVF. -/
def State.pmonEvent (s : State) (i evt port n : Nat) (passes : Bool := true) : State :=
  if n = 0 ∨ !(s.pmonCounts i) then s
  else s.forAll (List.range 8) (fun acc j =>
    if acc.fld F.PMON_EVT_EVT i j = evt ∧ (acc.fld F.PMON_EVT_PORT i j = port ∨ 64 ≤ i) ∧
        (passes ∨ !(acc.flag F.PMON_EVT_FILT i j)) then
      let v := acc.fld F.PMON_CNT_COUNT i j + n
      let acc := acc.setFld F.PMON_CNT_COUNT v i j
      if v < 2 ^ 48 then acc else
        let acc := acc.setFld F.PMON_STATUS_OVF (acc.fld F.PMON_STATUS_OVF i ||| 2 ^ j) i
        if acc.flag F.PMON_CTL_IEN i then acc.pendIrq 261 else acc
    else acc)

end Sys2Proof.Machine
end

