-- ==== Sys2Proof/Machine/Pins.lean ====
section
/-!
DEFINITION. Pattern channels and timing generators (chapter 04): timing-set commits (R110, R111), the events of a vector
(R113), their placement (R120), strobes and their groups (R114, R121), WC windows (R115), EC windows (R128 to R131), ball
states (R104, R124 to R126) and PIN_CFG (R133).
-/
namespace Sys2Proof.Machine

open Sys2Proof

/-- L of R105, in ticks. -/
def vecLatency : Nat := 65536

/-! ### Timing sets -/

/-- One pin's share of a timing set: format and six offsets (R109). -/
structure PinSet where
  fmt : Nat
  d1 : Nat
  d2 : Nat
  e1 : Nat
  e2 : Nat
  c1 : Nat
  c2 : Nat
  deriving DecidableEq, Repr

/-- Pin k of timing set t of engine e, committed values. -/
def State.pinSet (s : State) (e t k : Nat) : PinSet :=
  { fmt := s.fld F.TSET_FMT_FMT e t k, d1 := s.fld F.TSET_D_D1 e t k, d2 := s.fld F.TSET_D_D2 e t k,
    e1 := s.fld F.TSET_E_E1 e t k, e2 := s.fld F.TSET_E_E2 e t k, c1 := s.fld F.TSET_C_C1 e t k,
    c2 := s.fld F.TSET_C_C2 e t k }

/-- The same, shadow values. -/
def State.pinSetShadow (s : State) (e t k : Nat) : PinSet :=
  { fmt := s.sfld F.TSET_FMT_FMT e t k, d1 := s.sfld F.TSET_D_D1 e t k, d2 := s.sfld F.TSET_D_D2 e t k,
    e1 := s.sfld F.TSET_E_E1 e t k, e2 := s.sfld F.TSET_E_E2 e t k, c1 := s.sfld F.TSET_C_C1 e t k,
    c2 := s.sfld F.TSET_C_C2 e t k }

/-- R111: the first of the checks 2 to 5 that one pin of a set breaks; 0: none. -/
def pinSetCheck (period : Nat) (q : PinSet) : Nat :=
  let sd : Int := (q.d2 : Int) - q.d1
  let w : Int := (q.c2 : Int) - q.c1
  let drive : Bool := match q.fmt with
    | 0 => true
    | 1 => sd ≥ 512
    | 2 => sd ≥ 512
    | 3 => q.d1 ≥ 512 && sd ≥ 512
    | 4 => sd ≥ 512
    | _ => sd ≥ 512 && (q.d1 : Int) + 3 * sd ≤ 16777215
  let comp : Bool := match q.fmt with
    | 4 => w ≥ 512
    | 5 => w ≥ 512 && (q.c1 : Int) + 3 * w ≤ 16777215
    | _ => w ≥ 0
  let last : Int := match q.fmt with
    | 0 => max (max (q.d1 : Int) q.e1) (max (q.e2 : Int) q.c2)
    | 5 => max (max ((q.d1 : Int) + 3 * sd) q.e1) (max (q.e2 : Int) ((q.c1 : Int) + 3 * w))
    | _ => max (max (q.d2 : Int) q.e1) (max (q.e2 : Int) q.c2)
  if q.fmt ≥ 6 then 2
  else if period = 0 then 0
  else if !drive then 3
  else if !comp then 4
  else if last > period + 16383 then 5
  else 0

/-- R110, R111: the first check that a timing set breaks: pin and code. -/
def State.tsetCheck (s : State) (e t : Nat) : Option (Nat × Nat) :=
  let p := s.sfld F.TSET_PER_PERIOD e t
  if 1 ≤ p ∧ p ≤ 2047 then some (0, 1)
  else (List.range 4).findSome? (fun k =>
    let c := pinSetCheck p (s.pinSetShadow e t k)
    if c = 0 then none else some (k, c))

/-- R110: the first failing check over all 64 sets: set, pin, code. -/
def State.tsetFirstFail (s : State) (e : Nat) : Option (Nat × Nat × Nat) :=
  (List.range 64).findSome? (fun t => (s.tsetCheck e t).map (fun x => (t, x.1, x.2)))

/-- Report a refused TSET commit. -/
def State.tsetRefuse (s : State) (e ts pin code : Nat) : State :=
  let s := s.raise F.TSET_STATUS_CFGERR e
  ((s.setFld F.TSET_STATUS_ETS ts e).setFld F.TSET_STATUS_EPIN pin e).setFld F.TSET_STATUS_ECODE code e

/-- R110: TSET_COMMIT.GO of engine e. -/
def State.tsetCommit (s : State) (e : Nat) : State :=
  let m := (s.eng e).mode
  if m ≠ .idle ∧ m ≠ .fault then s.tsetRefuse e 0 0 6
  else match s.tsetFirstFail e with
    | some (t, k, c) => s.tsetRefuse e t k c
    | none => s.commitBlock .TSET e

/-! ### Balls -/

/-- The channel's engine is in STREAM, running or paused. -/
def State.chanStreaming (s : State) (p : Nat) : Bool :=
  (s.eng (p / 4)).mode == .stream || (s.eng (p / 4)).mode == .paused

/-- R124: the end-of-pattern state that EOP selects. -/
def eopApply (eop : Nat) (c : Channel) : Channel :=
  match eop with
  | 0 => c
  | 1 => { c with pdrv := false, pden := false }
  | 2 => { c with pdrv := false, pden := true }
  | _ => { c with pdrv := true, pden := true }

/-- R125: the end-of-pattern state takes effect on channel p. -/
def State.takeEop (s : State) (p : Nat) : State :=
  s.modChan p (fun c => { eopApply (s.fld F.PIN_CFG_EOP p) c with eopOn := true })

/-- R126: the safe state on channel p. -/
def State.takeSafe (s : State) (p : Nat) : State :=
  s.modChan p (fun c => { c with pdrv := false, pden := false, eopOn := false })

/-- R104, R124, R133: a write of PIN_CFG of channel p. -/
def State.writePinCfg (s : State) (p : Nat) (v : Word) : State :=
  if s.chanStreaming p ∨ fldOf F.PIN_CFG_ECSRC v ≥ 6 then s.raise F.PIN_STATUS_CFGERR p
  else
    let oeWas := s.fld F.PIN_CFG_OE p
    let eopWas := s.fld F.PIN_CFG_EOP p
    let s := s.setReg .PIN_CFG (v &&& BitVec.ofNat 64 RegId.PIN_CFG.desc.rw) p
    let oe := s.fld F.PIN_CFG_OE p
    let eop := s.fld F.PIN_CFG_EOP p
    if oe = 1 ∧ oeWas = 0 then
      s.modChan p (fun c => { c with pdrv := false, pden := false, oeRose := true, streamed := false, eopOn := false })
    else if (s.chan p).eopOn ∧ eop ≠ eopWas then s.takeEop p
    else s

/-- The pins of engine e. -/
def enginePins (e : Nat) : List Nat := (List.range 4).map (4 * e + ·)

/-- R21: the pins of the gang that engine e leads. -/
def State.gangPins (s : State) (e : Nat) : List Nat := (s.members e).flatMap enginePins

/-- Channel p has no event, strobe or window to come. -/
def Channel.quiet (c : Channel) : Bool :=
  c.drvQ.isEmpty && c.denQ.isEmpty && c.strobes.isEmpty && c.wins.isEmpty && c.ecs.isEmpty

/-- The effective times of what a channel still has to come: events, strobes and closes of windows (R125, R126). -/
def Channel.times (c : Channel) : List Nat :=
  c.drvQ.map (·.time) ++ c.denQ.map (·.time) ++ c.strobes.map (fun x => max x.tH x.tL) ++ c.wins.map (·.tClose) ++
    c.ecs.map (·.tClose)

/-- The last of them; 0: none. -/
def Channel.lastEvent (c : Channel) : Nat := c.times.foldl max 0

/-- Channel p has nothing to come before tick t. -/
def Channel.nothingBefore (c : Channel) (t : Nat) : Bool := c.times.all (fun x => decide (t ≤ x))

/-! ### Calibration offsets and placement -/

/-- Classes of R117. -/
def clsDR : Nat := 0
def clsDF : Nat := 1
def clsEN : Nat := 2
def clsEF : Nat := 3
def clsSH : Nat := 4
def clsSL : Nat := 5

/-- The calibration offset in force for a channel and class (R117, R187). -/
def State.calOff (s : State) (p cls : Nat) : Int := s.offs.get (6 * p + cls) 0

/-- R117: the effective time of an event. -/
def effTime (v off : Nat) (c : Int) : Nat := ((v : Int) + off + c).toNat

/-- R120: place an event on a stream; how many pending events it discards. -/
def placeEvent (q : List PinEvent) (e : PinEvent) : List PinEvent × Nat :=
  let keep := q.filter (fun x => x.time + 256 ≤ e.time)
  (keep ++ [e], q.length - keep.length)

/-- Count discarded events (R120). -/
def State.noteConflicts (s : State) (p n : Nat) : State :=
  if n = 0 then s else (s.raise F.PIN_STATUS_EDGECONF p).count F.PIN_CNT_NCONF p 0 0 n

/-- R117: the drive event of channel p at an offset of vector v, with its effective time. -/
def State.driveEvent (s : State) (p v off : Nat) (val : Bool) : PinEvent :=
  ⟨effTime v off (s.calOff p (if val then clsDR else clsDF)), val⟩

/-- R120: events stand in order of effective time, those of one time in the order given. -/
def insertEvent (ev : PinEvent) : List PinEvent → List PinEvent
  | [] => [ev]
  | x :: t => if ev.time < x.time then ev :: x :: t else x :: insertEvent ev t

/-- R120: the events of one vector in the order in which they are placed. -/
def eventOrder (evs : List PinEvent) : List PinEvent := evs.foldl (fun acc ev => insertEvent ev acc) []

/-- R120: place a drive event of channel p. -/
def State.placeDrive (s : State) (p : Nat) (ev : PinEvent) : State :=
  let r := placeEvent (s.chan p).drvQ ev
  (s.modChan p (fun c => { c with drvQ := r.1 })).noteConflicts p r.2

/-- R120: place an enable event of channel p. -/
def State.placeEnable (s : State) (p v off : Nat) (val : Bool) : State :=
  let t := effTime v off (s.calOff p (if val then clsEN else clsEF))
  let r := placeEvent (s.chan p).denQ ⟨t, val⟩
  (s.modChan p (fun c => { c with denQ := r.1 })).noteConflicts p r.2

/-- Strobes stand in order of effective time, and in vector order at one time (R121). -/
def insertStrobe (ev : StrobeEv) : List StrobeEv → List StrobeEv
  | [] => [ev]
  | x :: t => if ev.tH < x.tH then ev :: x :: t else x :: insertStrobe ev t

/-- R114: place strobe j of a vector on channel p. -/
def State.placeStrobe (s : State) (p v off : Nat) (vec : Nat) (j : Nat) (code : BitVec 4) (expct : Bool) : State :=
  let ev : StrobeEv :=
    { tH := effTime v off (s.calOff p clsSH), tL := effTime v off (s.calOff p clsSL), vec := vec, j := j, code := code,
      expct := expct }
  s.modChan p (fun c => { c with strobes := insertStrobe ev c.strobes })

/-- R115: place a WC window on channel p. One that opens while the previous served window is still open, its close
included, is not served. -/
def State.placeWindow (s : State) (p v vec : Nat) (q : PinSet) : State :=
  let c := s.chan p
  let served := decide (c.winOpenTill < v + q.c1)
  let close := max (effTime v q.c2 (s.calOff p clsSH)) (effTime v q.c2 (s.calOff p clsSL))
  let opn := effTime v q.c1 (s.calOff p clsSH)
  let s := s.modChan p (fun c =>
    { c with wins := c.wins ++ [⟨opn, close, vec, served, decide (q.c1 = q.c2)⟩],
             winOpenTill := if served then v + q.c2 else c.winOpenTill })
  if served then s else s.raise F.PIN_STATUS_EDGECONF p

/-- R128, R129: place an EC window on channel p. An empty window that opens in the dead time, or while another is open, is empty
(DESIGN CHOICE, log entry 61: R128 gives NO_EDGE and R129 OVERLAP with EDGECONF). -/
def State.placeEc (s : State) (p v : Nat) (vec : Word48) (q : PinSet) : State :=
  let cls := if s.fld F.PIN_CFG_ECSRC p = 2 ∨ s.fld F.PIN_CFG_ECSRC p = 3 ∨ s.fld F.PIN_CFG_ECSRC p = 5 then clsSL
    else clsSH
  let opn := effTime v q.c1 (s.calOff p cls)
  let close := effTime v q.c2 (s.calOff p cls)
  let kind : EcKind := if q.c1 = q.c2 then .empty else if opn < (s.chan p).ecBusyTill then .overlap else .armed
  let s := s.modChan p (fun c =>
    { c with ecs := c.ecs ++ [⟨opn, close, vec, v, kind⟩],
             ecBusyTill := if kind = .armed then close + 1024 else c.ecBusyTill })
  if kind = .overlap then s.raise F.PIN_STATUS_EDGECONF p else s

/-! ### The vector -/

/-- The codes that drive, and the codes that compare by strobes (R113, R114). -/
def isDriveCode (c : BitVec 4) : Bool := c.toNat < 4
def isStrobeCode (c : BitVec 4) : Bool := 4 ≤ c.toNat && c.toNat ≤ 9
/-- The codes that draw on a source (R64). -/
def drawsSource (c : BitVec 4) : Bool := c == 0x2 || c == 0x3 || c == 0x8 || c == 0x9

/-- What a member brings to a vector: a0 to a7 at S3, AO and DO of the bundle. -/
structure MemberSrc where
  eng : Nat
  aIn : List Word32
  ao : Word32
  dout : Word
  doutP : Bool
  deriving DecidableEq, Repr

/-- R64: source bit IDX + j of pin k, counted modulo the source width. -/
def State.sourceBit (s : State) (m : MemberSrc) (k j : Nat) : Bool :=
  let idx := s.fld F.CE_SRC_IDX m.eng k
  if s.fld F.CE_SRC_SEL m.eng k = 0 then m.ao.getLsbD ((idx + j) % 32) else m.dout.getLsbD ((idx + j) % 64)

/-- R113, R114: the data bit or expectation j of a code. -/
def State.codeBit (s : State) (m : MemberSrc) (k : Nat) (code : BitVec 4) (j : Nat) : Bool :=
  match code.toNat with
  | 1 => true
  | 2 => s.sourceBit m k j
  | 3 => !(s.sourceBit m k j)
  | 5 => true
  | 8 => s.sourceBit m k j
  | 9 => !(s.sourceBit m k j)
  | _ => false

/-- R113: bits per vector of a format. -/
def fmtBits (fmt : Nat) : Nat := match fmt with | 4 => 2 | 5 => 4 | _ => 1

/-- R113: the drive events of channel p in a vector at v, by format, in the order of their offsets: n data bits b. -/
def State.vectorDrives (s : State) (p : Nat) (q : PinSet) (v n : Nat) (b : Nat → Bool) : List PinEvent :=
  (if q.fmt = 3 then [s.driveEvent p v 0 (!(b 0))] else []) ++
  (List.range n).map (fun j => s.driveEvent p v (q.d1 + j * (q.d2 - q.d1)) (b j)) ++
  match q.fmt with
    | 1 => [s.driveEvent p v q.d2 false]
    | 2 => [s.driveEvent p v q.d2 true]
    | 3 => [s.driveEvent p v q.d2 (!(b 0))]
    | _ => []

/-- R113, R120: the events of one pin in one vector, placed in the order of their effective times. -/
def State.placePin (s : State) (m : MemberSrc) (k : Nat) (code : BitVec 4) (ts : BitVec 6) (v key : Nat)
    (vec : Word48) : State :=
  let p := 4 * m.eng + k
  let q := s.pinSet m.eng ts.toNat k
  let n := fmtBits q.fmt
  let b := s.codeBit m k code
  if code = 0xB then s
  else if isDriveCode code then
    ((eventOrder (s.vectorDrives p q v n b)).foldl (fun acc ev => acc.placeDrive p ev) s).placeEnable p v q.e1 true
  else
    let s := s.placeEnable p v q.e2 false
    if isStrobeCode code then
      (List.range n).foldl (fun acc j => acc.placeStrobe p v (q.c1 + j * (q.c2 - q.c1)) key j code (b j)) s
    else if code = 0xD then s.placeWindow p v key q
    else if code = 0xC then s.placeEc p v vec q
    else s

/-- R112: a member's timing generator refuses a vector. -/
def State.vectorRefused (s : State) (leader : Nat) (m : Nat) (op : PinOp) : Bool :=
  let per := s.fld F.TSET_PER_PERIOD m op.ts.toNat
  per == 0 || per != s.fld F.TSET_PER_PERIOD leader op.ts.toNat ||
    (List.range 4).any (fun k =>
      let c := pinCode op.codes k
      (c == 0xC || c == 0xD) && (s.fld F.TSET_FMT_FMT m op.ts.toNat k == 4 || s.fld F.TSET_FMT_FMT m op.ts.toNat k == 5))

/-- R65: a pin code of the vector is 0xE or 0xF. -/
def badPinCode (op : PinOp) : Bool := (List.range 4).any (fun k => (pinCode op.codes k).toNat ≥ 14)

/-- R61: a pin selects a poisoned DO as its source. -/
def State.poisonedSource (s : State) (m : MemberSrc) (op : PinOp) : Bool :=
  m.doutP && (List.range 4).any (fun k => drawsSource (pinCode op.codes k) && s.fld F.CE_SRC_SEL m.eng k == 1)

/-- R64, R105 to R108, R120, R122: the timing generators of a gang accept a vector: every member's events are placed, the
leader keeps the vector for its compare close, and the reference time moves on by the period. -/
def State.acceptVector (s : State) (leader : Nat) (op : PinOp) (srcs : List MemberSrc) (stop : Bool) : State :=
  let g := (s.eng leader).gang
  let per := s.fld F.TSET_PER_PERIOD leader op.ts.toNat
  let s := srcs.foldl (fun acc m =>
    (List.range 4).foldl (fun acc k =>
      let acc := acc.modChan (4 * m.eng + k) (fun c => { c with streamed := true, eopOn := false })
      acc.placePin m k (pinCode op.codes k) op.ts g.nextV (vecKey leader g.run g.vidx) g.vidx) acc) s
  let vi : VecInfo :=
    { idx := g.vidx, v := g.nextV, period := per, ts := op.ts, aIn := srcs.map (·.aIn), ao := srcs.map (·.ao),
      run := g.run, stop := stop }
  let s := s.modEng leader (fun e =>
    { e with gang := { e.gang with vidx := g.vidx + 1, nextV := g.nextV + per, vecs := g.vecs ++ [vi],
                                   pausedEnd := g.nextV + per } })
  let s := if op.mode = 2 then srcs.foldl (fun acc m => acc.modEng m.eng (fun e => { e with trig := true, trigCnt := e.trigCnt + 1 })) s else s
  s.atTime (g.nextV / 512 - 128)

/-! ### Events at the balls -/

/-- R104: the oldest drive event of a channel takes effect at the ball; before the first stream run after OE := 1 the ball keeps
its state, and the event of an earlier run is spent. -/
def Channel.takeDrive (c : Channel) : Channel :=
  match c.drvQ with
  | d :: t => { c with pdrv := if c.streamed then d.val else c.pdrv, drvQ := t }
  | [] => c
/-- R104: the same for the oldest enable event. -/
def Channel.takeEnable (c : Channel) : Channel :=
  match c.denQ with
  | e :: t => { c with pden := if c.streamed then e.val else c.pden, denQ := t }
  | [] => c

/-- R104, R117, R120: the earliest placed event of channel p takes effect; a drive event before an enable event at one tick. -/
def State.ballEvent (s : State) (p : Nat) : State :=
  let c := s.chan p
  match c.drvQ, c.denQ with
  | [], [] => s
  | d :: _, [] => (s.setChan p c.takeDrive).atTime (d.time / 512)
  | [], e :: _ => (s.setChan p c.takeEnable).atTime (e.time / 512)
  | d :: _, e :: _ =>
    if d.time ≤ e.time then (s.setChan p c.takeDrive).atTime (d.time / 512)
    else (s.setChan p c.takeEnable).atTime (e.time / 512)

/-- R121: the sample a strobe uses on one comparator: the group's, or a new one. True: shared. -/
def groupSample (g : Option StrobeGroup) (t : Nat) (level : Bool) : StrobeGroup × Bool :=
  match g with
  | some x => if t < x.time + 256 then (x, true) else (⟨t, level⟩, false)
  | none => (⟨t, level⟩, false)

/-- The pair of comparator levels after the inversions of PIN_CFG, as {PCMPH, PCMPL}: 0 M, 1 L, 2 H, 3 INV (R114). -/
def State.compState (s : State) (p : Nat) (h l : Bool) : BitVec 2 :=
  bitv (xor h (s.flag F.PIN_CFG_HINV p)) ++ bitv (xor l (s.flag F.PIN_CFG_LINV p))

/-- R114: a compare code passes in a state. -/
def codePasses (code : BitVec 4) (expct : Bool) (st : BitVec 2) : Bool :=
  match code.toNat with
  | 4 => st == 1
  | 5 => st == 2
  | 6 => st == 0
  | 7 => st == 1 || st == 2
  | 8 => if expct then st == 2 else st == 1
  | 9 => if expct then st == 2 else st == 1
  | _ => true

/-- R49: a failing strobe or window of channel p: the sets of f7 and f6 are on their way. -/
def State.failSeen (s : State) (p : Nat) : State :=
  let e := p / 4
  let s := s.modEng e (fun x => { x with f7Due := true })
  s.forAll (s.members (s.leader e)) (fun acc m => acc.modEng m (fun x => { x with f6Due := true }))

/-- R140: keep a strobe's outcome for its vector: the first failing strobe's sample and expectation, or strobe 0's. -/
def noteResult (rs : List PinResult) (vec : Nat) (fail : Bool) (first : Bool) (st : BitVec 2) (expct sampled : Bool) :
    List PinResult :=
  if rs.any (fun r => r.vec == vec) then
    rs.map (fun r =>
      if r.vec == vec then
        if fail ∧ !r.failed then { r with failed := true, rcv := st, expct := expct, sampled := sampled }
        else if !r.failed ∧ first ∧ !r.sampled then { r with rcv := st, expct := expct, sampled := sampled }
        else r
      else r)
  else rs ++ [{ vec := vec, failed := fail, rcv := if fail ∨ first then st else 0, expct := (fail || first) && expct,
                sampled := sampled }]

/-- R114: a sample in state INV is counted and flagged. -/
def State.noteInv (s : State) (p : Nat) (isNew : Bool) : State :=
  let s := s.raise F.PIN_STATUS_CMPINV p
  if isNew then s.count F.PIN_CNT_NINV p else s

/-- R114, R121: the earliest strobe of channel p samples the comparator balls (h, l: their levels). -/
def State.strobe (s : State) (p : Nat) (h l : Bool) : State :=
  let c := s.chan p
  match c.strobes with
  | [] => s
  | ev :: rest =>
    let gH := groupSample c.grpH ev.tH h
    let gL := groupSample c.grpL ev.tL l
    let shared := gH.2 || gL.2
    let st := s.compState p gH.1.sample gL.1.sample
    let fail := (st == 3) || !(codePasses ev.code ev.expct st)
    let s := s.setChan p
      { c with strobes := rest, grpH := some gH.1, grpL := some gL.1, compH := h, compL := l,
               results := noteResult c.results ev.vec fail (ev.j == 0) st ev.expct true }
    let s := if shared then s.raise F.PIN_STATUS_EDGECONF p else s
    let s := if st = 3 then s.noteInv p (!(gH.2 && gL.2)) else s
    let s := if fail then s.failSeen p else s
    s.atTime (max ev.tH ev.tL / 512)

/-- R115: the earliest WC window of channel p closes. h, l: the comparator levels at C1; changed: a change of state was
seen from C1 to C2; inv: state INV was seen after C1. A window with C1 = C2 is a single sample, and nothing follows it. State INV
after C1 sets CMPINV and does not count in NINV (DEDUCED, log entry 61: R114 counts samples, and only C1 is one). -/
def State.windowClose (s : State) (p : Nat) (h l changed inv : Bool) : State :=
  let c := s.chan p
  match c.wins with
  | [] => s
  | w :: rest =>
    let st := s.compState p h l
    let inv := inv && !w.single
    let fail := !w.served || (changed && !w.single) || inv || !(st == 1 || st == 2)
    let s := s.setChan p
      { c with wins := rest, compH := if w.served then h else c.compH, compL := if w.served then l else c.compL,
               results := noteResult c.results w.vec fail true (if w.served then st else 0) false w.served }
    let s := if w.served ∧ st = 3 then s.noteInv p true else if w.served ∧ inv then s.noteInv p false else s
    let s := if fail then s.failSeen p else s
    s.atTime (w.tClose / 512)

/-- R182, R204, R207: raw captures are dropped: the SMP is off, has no image, or is exhausted. -/
def State.smpDrops (s : State) : Bool :=
  !(s.domOn domSMP) || s.fld F.SMP_STATUS_STATE == 1 || s.fld F.SMP_STATUS_STATE == 3

/-- R130: a raw capture of channel p is lost. -/
def State.loseCapture (s : State) (p : Nat) : State := (s.count F.PIN_CNT_NLOST p).raise F.PIN_STATUS_ECLOSS p

/-- R128: an edge of the comparator ball that ECSRC watches, its level after the inversion, is of the kind that ECSRC selects. -/
def ecSelects (ecsrc : Nat) (level : Bool) : Bool :=
  match ecsrc with
  | 0 | 2 => level
  | 1 | 3 => !level
  | _ => true

/-- R128: the TDC's count and code of the first transition of the selected kind: inv: the watched comparator's inversion; level: its
level, after the inversion, before the edges. An edge that does not change the level is no transition. -/
def firstTransition (ecsrc : Nat) (inv : Bool) : Bool → List CompEdge → Option (Nat × BitVec 12)
  | _, [] => none
  | level, e :: rest =>
    let after := xor e.level inv
    if after != level && ecSelects ecsrc after then some (e.k, e.f) else firstTransition ecsrc inv after rest

/-- R128: what the TDC of channel p records of the edges of the two comparator balls inside the window: h, l: their levels at its
opening. -/
def State.tdcRaw (s : State) (p : Nat) (h l : Bool) (edges : List CompEdge) : Option (Nat × BitVec 12) :=
  let src := s.fld F.PIN_CFG_ECSRC p
  let low := src == 2 || src == 3 || src == 5
  let inv := if low then s.flag F.PIN_CFG_LINV p else s.flag F.PIN_CFG_HINV p
  firstTransition src inv (xor (if low then l else h) inv) (edges.filter (fun e => e.low == low))

/-- R128 to R131: the earliest EC window of channel p closes; h, l: the levels of the comparator balls at its opening; edges: what
the TDC sees of them inside it, in time order. -/
def State.edgeCapture (s : State) (p : Nat) (h l : Bool) (edges : List CompEdge) : State :=
  let c := s.chan p
  match c.ecs with
  | [] => s
  | w :: rest =>
    let cl := p / 16
    let cap : Capture :=
      { chan := p, vec := w.vec, v := w.v, kind := w.kind, raw := if w.kind = .armed then s.tdcRaw p h l edges else none }
    let s := s.setChan p { c with ecs := rest }
    let s :=
      if (s.fcu cl).caps.length < 64 ∧ !s.smpDrops then s.modFcu cl (fun f => { f with caps := f.caps ++ [cap] })
      else s.loseCapture p
    s.atTime (w.tClose / 512)

end Sys2Proof.Machine
end

