-- ==== Sys2Proof/Machine/Fcu.lean ====
section
/-!
DEFINITION. Fail capture units (chapter 05): counts (R138), records and their policies (R140 to R149), stops (R150),
accumulation entries (R151), clears (R139) and commits (R153). Their packets are sent in Net.lean.
-/
namespace Sys2Proof.Machine

open Sys2Proof

/-- Slot i of the FCU of cluster c belongs to the gang that engine 4c + i leads (R137). -/
def fcuOf (leader : Nat) : Nat × Nat := (leader / 4, leader % 4)

/-- What slot i of FCU c holds beyond its registers. -/
def Fcu.slot (f : Fcu) (i : Nat) : FcuSlot := f.slots.get i {}

/-- Change a slot. -/
def State.modSlot (s : State) (c i : Nat) (g : FcuSlot → FcuSlot) : State :=
  s.modFcu c (fun f => { f with slots := f.slots.set i (g (f.slot i)) {} })

/-- R137: the gangs with an engine in cluster c, by the committed sizes. -/
def State.committedGangs (s : State) (c : Nat) : Nat :=
  (((List.range 4).map (fun i => s.leader (4 * c + i))).eraseDups).length

/-- An engine of cluster c is in STREAM, running or paused. -/
def State.clusterStreams (s : State) (c : Nat) : Bool :=
  (List.range 4).any (fun k => (s.eng (4 * c + k)).mode == .stream || (s.eng (4 * c + k)).mode == .paused)

/-- R137: n of cluster c: it changes only while no engine of the cluster is in STREAM. -/
def State.fcuGangs (s : State) (c : Nat) : Nat := if s.clusterStreams c then (s.fcu c).ng else s.committedGangs c

/-- R137: n of cluster c is kept as an engine of the cluster enters STREAM. -/
def State.latchGangs (s : State) (c : Nat) : State := s.modFcu c (fun f => { f with ng := s.fcuGangs c })

/-- R137: the record mark and the accumulation mark. -/
def State.recordMark (s : State) (c : Nat) : Nat := 512 - 96 * s.fcuGangs c
def State.accMark (s : State) (c : Nat) : Nat := 384 - 80 * s.fcuGangs c

/-! ### Clears and starts -/

/-- R139, R153: FCU_CLR.SLOT bit i. -/
def State.fcuClearSlot (s : State) (c i : Nat) : State :=
  let s := ((s.setReg .FCU_GCNT 0 c i).setReg .FCU_DROP 0 c i).setReg .FCU_FIRSTU 0 c i
  s.modSlot c i (fun x => { x with limited := false })

/-- R139, R153: FCU_CLR.PIN bit j. -/
def State.fcuClearPin (s : State) (c j : Nat) : State := (s.setReg .FCU_PCNT 0 c j).setReg .FCU_PFIRST 0 c j

/-- The clusters that a gang spans (R136). -/
def State.gangClusters (s : State) (leader : Nat) : List Nat :=
  ((s.members leader).map (· / 4)).eraseDups

/-- R139, R141, R146, R147: what the FCUs do at a start of a gang from IDLE. -/
def State.fcuStart (s : State) (leader : Nat) : State :=
  let (c, i) := fcuOf leader
  let s :=
    if s.flag F.FCU_GCFG_AUTOCLR c i then
      let s := s.fcuClearSlot c i
      s.forAll (s.gangPins leader) (fun acc p => acc.fcuClearPin (p / 16) (p % 16))
    else s
  let s := s.setFld F.FCU_GSTAT_CNTONLY 0 c i
  s.modSlot c i (fun x =>
    { x with seq := 0, lossN := 0, reqs := [], stopReqs := [], fcuPaused := false, held := [], failRun := (s.eng leader).gang.firstRun,
             aengOff := decide (s.fld F.FCU_GCFG_AENG c i ≥ s.gangSize leader) })

/-- R148: a pending or held pause request lapses when the gang ends. -/
def State.fcuLapse (s : State) (leader : Nat) : State :=
  let (c, i) := fcuOf leader
  s.modSlot c i (fun x => { x with reqs := [], held := [] })

/-! ### Records -/

/-- R144, R146: the FIFO and what leaves it. -/
def State.pushRec (s : State) (c : Nat) (r : FailRec) : State := s.modFcu c (fun f => { f with fifo := f.fifo ++ [r] })

/-- R145, R146, R149: a record is dropped. -/
def State.dropRec (s : State) (c i : Nat) (idx : Word48) (v : Nat) : State :=
  let s := (s.count F.FCU_DROP_DROPPED c i).raise F.FCU_GSTAT_LOSS c i
  s.modSlot c i (fun x =>
    { x with lossN := x.lossN + 1, lossIdx := if x.lossN = 0 then idx else x.lossIdx,
             lossV := if x.lossN = 0 then v else x.lossV })

/-- R140: word 1 of a record. -/
def recWord1 (typ sizeCode lead : Nat) (idx : Word48) : Word :=
  BitVec.ofNat 64 (typ * 2 ^ 60 + sizeCode * 2 ^ 56 + lead * 2 ^ 48 + idx.toNat)

/-- R140, R141: give a record its sequence number and put it into the FIFO. -/
def State.enterRec (s : State) (c i : Nat) (w0 w1 w2 w3 : Word) : State :=
  let seq := ((s.fcu c).slot i).seq
  let s := s.modSlot c i (fun x => { x with seq := x.seq + 1 })
  s.pushRec c ⟨i, w0, w1, w2, w3 ||| (seq.setWidth 64 <<< 56)⟩

/-- R146: the LOSS record of a slot, and its pending count cleared. -/
def State.enterLoss (s : State) (c i lead : Nat) : State :=
  let x := (s.fcu c).slot i
  let s := s.enterRec c i (BitVec.ofNat 64 x.lossV) (recWord1 2 (s.fld F.CE_GANG_SIZE lead) lead x.lossIdx)
    (BitVec.ofNat 64 x.lossN) 0
  s.modSlot c i (fun y => { y with lossN := 0 })

/-- Occupancy of the FIFO. -/
def State.fifoLen (s : State) (c : Nat) : Nat := (s.fcu c).fifo.length

/-- R146, R149: enter a record behind a LOSS record where drops are pending; room is the FIFO's limit for it. False where
it is dropped. -/
def State.enterWithLoss (s : State) (c i lead : Nat) (idx : Word48) (v : Nat) (w0 w1 w2 w3 : Word) : State :=
  if ((s.fcu c).slot i).lossN = 0 then
    if s.fifoLen c < 512 then s.enterRec c i w0 w1 w2 w3 else s.dropRec c i idx v
  else if s.fifoLen c + 2 ≤ s.recordMark c then (s.enterLoss c i lead).enterRec c i w0 w1 w2 w3
  else s.dropRec c i idx v

/-- The last of a list of pauses takes one reason more. -/
def addReason (reason : Nat) : List (List Nat) → List (List Nat)
  | [] => []
  | [x] => [x ++ [reason]]
  | x :: t => x :: addReason reason t

/-- R148: request a pause with a reason, for a vector of some run: a request of a run that has ended lapses. In a pause that the FCU
requested and whose STOP record is unwritten the request merges into that pause; in any other pause it is held. -/
def State.requestPause (s : State) (leader run reason : Nat) : State :=
  let (c, i) := fcuOf leader
  if run < (s.eng leader).gang.firstRun then s
  else if (s.eng leader).mode = .paused then
    s.modSlot c i (fun x =>
      if x.fcuPaused ∧ x.stopReqs ≠ [] then { x with stopReqs := addReason reason x.stopReqs }
      else { x with held := x.held ++ [reason] })
  else if (s.eng leader).mode = .stream then s.modSlot c i (fun x => { x with reqs := x.reqs ++ [reason] })
  else s

/-- R148: the reason written, the first that applies in the order 2, 3, 1. -/
def stopReason (rs : List Nat) : Nat := if 2 ∈ rs then 2 else if 3 ∈ rs then 3 else 1

/-- R148: the pause that the FCU requested takes effect at the vector that leaves S6. -/
def State.fcuPauseTaken (s : State) (leader : Nat) : State :=
  let (c, i) := fcuOf leader
  let x := (s.fcu c).slot i
  let s := (s.raise F.FCU_GSTAT_PAUSED c i).setFld F.FCU_GSTAT_PREASON (stopReason x.reqs) c i
  (s.modSlot c i (fun y => { y with stopReqs := y.stopReqs ++ [x.reqs], fcuPaused := true, reqs := [] })).pendIrq (189 + c)

/-- R148: at a resume a held request becomes pending. -/
def State.fcuResume (s : State) (leader : Nat) : State :=
  let (c, i) := fcuOf leader
  s.modSlot c i (fun x => { x with reqs := x.reqs ++ x.held, fcuPaused := false, held := [] })

/-! ### Compare close -/

/-- A vector of the gang that an engine leads, as a channel's strobes, windows and results name it. -/
def VecInfo.key (v : VecInfo) (leader : Nat) : Nat := vecKey leader v.run v.idx

/-- The result of one vector on a channel; none where nothing failed or was sampled. -/
def State.pinResult (s : State) (p key : Nat) : Option PinResult :=
  (s.chan p).results.find? (fun r => r.vec == key)

/-- R134: the vector failed on pin p. -/
def State.pinFailed (s : State) (p key : Nat) : Bool :=
  match s.pinResult p key with
  | some r => r.failed
  | none => false

/-- R134: no strobe or window of the vector is still to come on pin p. -/
def State.pinClosed (s : State) (p key : Nat) : Bool :=
  (s.chan p).strobes.all (fun x => x.vec != key) && (s.chan p).wins.all (fun x => x.vec != key)

/-- R138: a failing pin's counter and first-fail index. -/
def State.countPinFail (s : State) (p : Nat) (idx : Word48) : State :=
  let c := p / 16
  let j := p % 16
  let s := s.count F.FCU_PCNT_NFAIL c j
  if s.flag F.FCU_PFIRST_VALID c j then s
  else s.setReg .FCU_PFIRST (BitVec.ofNat 64 (2 ^ 63 + idx.toNat)) c j

/-- R140: MASK of a FAIL record. -/
def State.failMask (s : State) (pins : List Nat) (key : Nat) : Nat :=
  ((List.range pins.length).map (fun j => if s.pinFailed (pins.getD j 0) key then 2 ^ j else 0)).foldl (· + ·) 0

/-- R140: word 3 of a FAIL record, less its SEQ. -/
def State.failWord3 (s : State) (leader : Nat) (v : VecInfo) (pins : List Nat) : Word :=
  let (c, i) := fcuOf leader
  let eng := ((List.range pins.length).find? (fun j => s.pinFailed (pins.getD j 0) (v.key leader))).getD 0 / 4
  let rcv := ((List.range 4).map (fun k =>
    match s.pinResult (pins.getD (4 * eng + k) 0) (v.key leader) with
    | some r => r.rcv.toNat * 4 ^ k
    | none => 0)).foldl (· + ·) 0
  let exps := ((List.range 4).map (fun k =>
    match s.pinResult (pins.getD (4 * eng + k) 0) (v.key leader) with
    | some r => bit r.expct * 2 ^ k
    | none => 0)).foldl (· + ·) 0
  let aeng := s.fld F.FCU_GCFG_AENG c i
  let areg := s.fld F.FCU_GCFG_AREG c i
  let addr : Word32 :=
    if ((s.fcu c).slot i).aengOff then 0
    else if areg = 8 then v.ao.getD aeng 0 else (v.aIn.getD aeng []).getD areg 0
  BitVec.ofNat 64 (eng * 2 ^ 50 + rcv * 2 ^ 42 + exps * 2 ^ 38 + v.ts.toNat * 2 ^ 32 + addr.toNat)

/-- R145: what a policy does with a record or an entry at or above its mark. -/
inductive AtMark where
  | accept | acceptPause | drop | countOnly
  deriving DecidableEq, Repr

/-- R145: the policy's answer. -/
def State.atMark (s : State) (c i len mark : Nat) : AtMark :=
  if len < mark then .accept
  else match s.fld F.FCU_GCFG_POLICY c i with
    | 0 => .acceptPause
    | 1 => .drop
    | _ => .countOnly

/-- R147: the gang enters count-only at a vector. -/
def State.enterCountOnly (s : State) (c i : Nat) (idx : Word48) : State :=
  if s.flag F.FCU_GSTAT_CNTONLY c i then s
  else (s.raise F.FCU_GSTAT_CNTONLY c i).setReg .FCU_FIRSTU (BitVec.ofNat 64 (2 ^ 63 + idx.toNat)) c i

/-- R142, R145, R146, R149: the FAIL record of a failing vector. -/
def State.failRecord (s : State) (leader : Nat) (v : VecInfo) : State :=
  let (c, i) := fcuOf leader
  if s.flag F.FCU_GSTAT_CNTONLY c i ∨ s.fld F.FCU_RSIZE_SIZE c i = 0 then s
  else
    let pins := s.gangPins leader
    let w0 := BitVec.ofNat 64 v.v
    let w1 := recWord1 1 (s.fld F.CE_GANG_SIZE leader) leader v.idx
    let w2 := BitVec.ofNat 64 (s.failMask pins (v.key leader))
    let w3 := s.failWord3 leader v pins
    match s.atMark c i (s.fifoLen c) (s.recordMark c) with
    | .accept => s.enterWithLoss c i leader v.idx v.v w0 w1 w2 w3
    | .acceptPause => (s.enterWithLoss c i leader v.idx v.v w0 w1 w2 w3).requestPause leader v.run 1
    | .drop => s.dropRec c i v.idx v.v
    | .countOnly => s.enterCountOnly c i v.idx

/-- R151: the update of member offset m of a gang for a failing vector. -/
def State.accUpdate (s : State) (leader m : Nat) (v : VecInfo) : AccUpd :=
  let (c, i) := fcuOf leader
  let src := s.fld F.FCU_ACFG_VSRC c i
  let val : Nat :=
    if src < 8 then ((v.aIn.getD m []).getD src 0).toNat
    else if src = 8 then (v.ao.getD m 0).toNat
    else if src = 9 then v.idx.toNat % 2 ^ 32
    else v.ts.toNat
  let b := (val / 2 ^ s.fld F.FCU_ACFG_SHIFT c i) % 2 ^ s.fld F.FCU_ACFG_BITS c i
  let wide := s.fld F.FCU_ACFG_W c i = 0
  let j := if wide then b else b / 2
  let lane (k : Nat) : Nat := if wide then k else 4 * (b % 2) + k
  let lw := if wide then 16 else 8
  let opnd := ((List.range 4).map (fun k =>
    if s.pinFailed (4 * (leader + m) + k) (v.key leader) then 2 ^ (lw * lane k) else 0)).foldl (· + ·) 0
  let abase := s.fld F.FCU_ABASE_BASE c i * 8
  let addr := if s.fld F.FCU_ACFG_TGT c i = 0
    then 0x001000000000 + (leader + m) * 0x100000 + (abase % 2 ^ 20 + 8 * j) % 2 ^ 20
    else abase + 8 * (j * s.gangSize leader + m)
  { addr := addr, op := if wide then .add16s else .add8s, opnd := BitVec.ofNat 64 opnd }

/-- R136, R145, R147, R149, R151: the accumulation entry of a failing vector in one cluster of the gang. -/
def State.accEntry (s : State) (leader : Nat) (v : VecInfo) (cl : Nat) : State :=
  let (c, i) := fcuOf leader
  let ms := (List.range (s.gangSize leader)).filter (fun m =>
    decide ((leader + m) / 4 = cl) && (enginePins (leader + m)).any (fun p => s.pinFailed p (v.key leader)))
  if s.flag F.FCU_GSTAT_CNTONLY c i ∨ s.fld F.FCU_ACFG_BITS c i = 0 ∨ ms = [] then s
  else
    let entry : AccEntry := { slot := i, lead := leader, upds := ms.map (fun m => s.accUpdate leader m v) }
    let push (s : State) : State :=
      if (s.fcu cl).accq.length < 384 then s.modFcu cl (fun f => { f with accq := f.accq ++ [entry] })
      else (s.count F.FCU_DROP_ACCLOST c i).raise F.FCU_GSTAT_ACCLOSS c i
    match s.atMark c i (s.fcu cl).accq.length (s.accMark cl) with
    | .accept => push s
    | .acceptPause => (push s).requestPause leader v.run 1
    | .drop => (s.count F.FCU_DROP_ACCLOST c i).raise F.FCU_GSTAT_ACCLOSS c i
    | .countOnly => s.enterCountOnly c i v.idx

/-- R147, R148: the STOP record of the FCU's pause that took effect at a vector, in the reserve; in count-only, and with SIZE = 0, the
gang forms no record. With drops pending it goes in behind a LOSS record as R146 has it for every record, so it is dropped above
M - 2 records (DEDUCED, log entry 62: R148 puts it into the reserve). -/
def State.stopRecord (s : State) (leader : Nat) (v : VecInfo) : State :=
  let (c, i) := fcuOf leader
  match v.stop, ((s.fcu c).slot i).stopReqs with
  | true, reqs :: later =>
    let reason := stopReason reqs
    let s := (s.setFld F.FCU_GSTAT_PREASON reason c i).modSlot c i (fun y => { y with stopReqs := later })
    if s.fld F.FCU_RSIZE_SIZE c i = 0 ∨ s.flag F.FCU_GSTAT_CNTONLY c i then s
    else s.enterWithLoss c i leader v.idx v.v (BitVec.ofNat 64 v.v)
      (recWord1 3 (s.fld F.CE_GANG_SIZE leader) leader v.idx) (BitVec.ofNat 64 reason) 0
  | _, _ => s

/-- R150: the stops on fail of a failing vector. -/
def State.failStops (s : State) (leader : Nat) (v : VecInfo) : State :=
  let (c, i) := fcuOf leader
  let x := (s.fcu c).slot i
  let s := if s.flag F.FCU_GCFG_HOFF c i ∧ x.failRun ≤ v.run
    then (s.modSlot c i (fun y => { y with failRun := v.run + 1 })).requestPause leader v.run 2 else s
  let lim := s.fld F.FCU_FLIM_FLIM c i
  if lim ≠ 0 ∧ s.fld F.FCU_GCNT_VFAIL c i = lim ∧ !((s.fcu c).slot i).limited
  then (s.modSlot c i (fun y => { y with limited := true })).requestPause leader v.run 3 else s

/-- R135, R136, R138, R145 to R151: the compare close of the oldest open vector of the gang that engine e leads, where
every strobe and window of it has fallen. -/
def State.compareClose (s : State) (leader : Nat) : State :=
  match (s.eng leader).gang.vecs with
  | [] => s
  | v :: rest =>
    let pins := s.gangPins leader
    if !(pins.all (fun p => s.pinClosed p (v.key leader))) then s
    else
      let (c, i) := fcuOf leader
      let failing := pins.filter (fun p => s.pinFailed p (v.key leader))
      let s1 := s.forAll failing (fun acc p => acc.countPinFail p v.idx)
      let s2 := if failing = [] then s1 else
        let t := (s1.count F.FCU_GCNT_VFAIL c i).pmonEvent (332 + c) 0x44 0 1
        let t := t.failRecord leader v
        let t := t.forAll (t.gangClusters leader) (fun acc cl => acc.accEntry leader v cl)
        t.failStops leader v
      let s3 := s2.stopRecord leader v
      let s4 := s3.forAll pins (fun acc p =>
        acc.modChan p (fun ch => { ch with results := ch.results.filter (fun r => r.vec != v.key leader) }))
      let s5 := s4.modEng leader (fun e => { e with gang := { e.gang with vecs := rest } })
      s5.atTime ((v.v + v.period + 65536) / 512)

/-! ### Registers -/

/-- Where the ranges of R26 begin and where they have ended: DRAM, slices, windows, bank, local spaces, control space. -/
def rangeBounds : List Nat :=
  [0x000600000000, 0x001000000000, 0x001010000000, 0x001100000000, 0x001104000000, 0x001200000000, 0x001200100000,
   0x001300000000, 0x001301000000, 0x001800000000, 0x001900000000]

/-- R153: a region of bytes crosses from one range of R26 into another or into an unmapped address. -/
def crossesRange (base len : Nat) : Bool := rangeBounds.any (fun b => decide (base < b ∧ b < base + len))

/-- R153: slot i of FCU c, by its shadow values, breaks a check of the commit. -/
def State.fcuSlotBad (s : State) (c i : Nat) : Bool :=
  let bits := s.sfld F.FCU_ACFG_BITS c i
  let wide := s.sfld F.FCU_ACFG_W c i = 0
  let jmax := if wide then 2 ^ bits - 1 else 2 ^ (bits - 1) - 1
  let abase := s.sfld F.FCU_ABASE_BASE c i * 8
  let size := s.sfld F.FCU_RSIZE_SIZE c i
  let e := 4 * c + i
  let tgt := s.sfld F.FCU_ACFG_TGT c i
  s.sfld F.FCU_GCFG_POLICY c i == 3 || s.sfld F.FCU_GCFG_AREG c i ≥ 9 ||
    (s.leader e == e && s.sfld F.FCU_GCFG_AENG c i ≥ s.gangSize e) ||
    s.sfld F.FCU_ACFG_VSRC c i ≥ 11 || s.sfld F.FCU_ACFG_SHIFT c i ≥ 32 || bits > 24 ||
    (tgt == 0 && bits ≠ 0 && abase % 2 ^ 20 + 8 * jmax ≥ 0x100000) ||
    (size ≠ 0 && crossesRange (s.sfld F.FCU_RBASE_BASE c i * 32) (32 * size)) ||
    (bits ≠ 0 && tgt == 1 && crossesRange abase (8 * ((jmax + 1) * s.gangSize e)))

/-- R153: a commit that changes a slot's ring sets its pointers to 0 and takes its records from the FIFO; writes already
outstanding no longer advance WP. -/
def State.fcuRingChange (s : State) (c i : Nat) : State :=
  let gone := ((s.fcu c).fifo.filter (fun r => r.slot == i)).length
  let s := (s.setReg .FCU_RWP 0 c i).setReg .FCU_RRP 0 c i
  let s := s.modFcu c (fun f =>
    { f with fifo := f.fifo.filter (fun r => r.slot != i),
             outs := f.outs.map (fun o => if o.slot = i then { o with live := false } else o) })
  let s := s.modSlot c i (fun x => { x with issue := 0 })
  if gone = 0 then s else (s.count F.FCU_DROP_DROPPED c i 0 gone).raise F.FCU_GSTAT_LOSS c i

/-- R153: FCU_COMMIT.GO of cluster c. -/
def State.fcuCommit (s : State) (c : Nat) : State :=
  if s.clusterStreams c ∨ (List.range 4).any (fun i => s.fcuSlotBad c i) then s.raise F.FCU_STATUS_CFGERR c
  else
    let changed := (List.range 4).filter (fun i =>
      s.sfld F.FCU_RSIZE_SIZE c i != s.fld F.FCU_RSIZE_SIZE c i ||
        s.sfld F.FCU_RBASE_BASE c i != s.fld F.FCU_RBASE_BASE c i)
    (s.commitBlock .FCU c).forAll changed (fun acc i => acc.fcuRingChange c i)

/-- R153: a write of FCU_RRP_i. -/
def State.writeRrp (s : State) (c i rp : Nat) : State :=
  let size := s.fld F.FCU_RSIZE_SIZE c i
  if rp < size ∨ (size = 0 ∧ rp = 0) then s.setFld F.FCU_RRP_RP rp c i else s.raise F.FCU_STATUS_CFGERR c

/-- R153, R154: BUSY of a gang: records or updates of it still queued or outstanding in this FCU, which may be its leader's or a
member cluster's. -/
def State.fcuBusy (s : State) (c i : Nat) : Bool :=
  let f := s.fcu c
  f.fifo.any (fun r => r.slot == i) || f.outs.any (fun o => o.slot == i) ||
    f.accq.any (fun a => a.slot == i) || f.accOuts.any (fun a => a.slot == i)

end Sys2Proof.Machine
end

