-- ==== Sys2Proof/Machine/Flags.lean ====
section
/-!
DEFINITION. The flags f0 to f7 of a comet engine (R36): compares (R92, R98), tests (R87), clears and sets (R42, R49).
-/
namespace Sys2Proof.Machine

/-- R92: the condition codes EQ, NE, LT, GE over two integers. -/
def condHolds (cc : BitVec 2) (x y : Int) : Bool :=
  match cc.toNat with
  | 0 => x == y
  | 1 => x != y
  | 2 => x < y
  | _ => x ≥ y

/-- R92: an unsigned compare. -/
def cmpU {w : Nat} (cc : BitVec 2) (x y : BitVec w) : Bool := condHolds cc x.toNat y.toNat

/-- R97, R98: a compare of two 48-bit values, signed or unsigned. -/
def cmp48 (signed : Bool) (cc : BitVec 2) (x y : Word48) : Bool :=
  if signed then condHolds cc x.toInt y.toInt else condHolds cc x.toNat y.toNat

/-- Write one flag. -/
def setFlag (f : Byte) (n : Nat) (v : Bool) : Byte :=
  if v then f ||| (1#8 <<< n) else f &&& ~~~ (1#8 <<< n)

/-- Write the flags of compare results in order; a later write of one flag is kept (R42). -/
def setFlags (f : Byte) (ws : List (BitVec 3 × Bool)) : Byte := ws.foldl (fun acc w => setFlag acc w.1.toNat w.2) f

/-- R87: CLRF clears the flags that a mask selects. -/
def clearFlags (f m : Byte) : Byte := f &&& ~~~ m

/-- R49, R87: test a flag for a value. -/
def testFlag (f : Byte) (idx : BitVec 3) (val : Bool) : Bool := f.getLsbD idx.toNat == val

end Sys2Proof.Machine
end

