-- ==== Sys2Proof/Machine/Slice.lean ====
section
/-!
DEFINITION. Pattern slices (chapter 06): port A, port B with its collisions (R161, R162), reads with correction (R160),
atomics (R164 to R166), the background test (R168 to R171), fills (R172 to R174) and retirement (R175).
-/
namespace Sys2Proof.Machine

open Sys2Proof

/-- The slice domain SL_c of slice n is powered (R33). -/
def State.sliceOn (s : State) (n : Nat) : Bool := s.domOn (domSL (n / 4))

/-- Checker test mode has slice n as its target (R385). -/
def State.ckSlice (s : State) (n : Nat) : Bool :=
  s.flag F.ERR_CKCTRL_EN && s.fld F.ERR_CKCTRL_KIND == 0 && s.fld F.ERR_CKCTRL_INST == n

/-- Masters 328 and 329, whose accesses the checker test mode changes (R385). -/
def isCheckerMaster (mid : MasterId) : Bool := mid == 328 || mid == 329

/-- Why port B refuses every access to slice n, if it does: off (R35), filling (R173), retired (R175). -/
def State.sliceBlock (s : State) (n : Nat) : Option Status :=
  if !s.sliceOn n then some .easleep
  else if s.flag F.SLC_STATUS_FILLING n then some .easleep
  else if s.flag F.SLC_CTRL_RETIRE n then some .edead
  else none

/-- A port A access is a port A error (R58, R173, R175). -/
def State.portAError (s : State) (n : Nat) : Bool := (s.sliceBlock n).isSome

/-! ### Background test -/

/-- The 320 cells of region w of slice n: code words 4w to 4w + 3, 80 cells each (R155). -/
def State.region (s : State) (n w : Nat) : BitVec 320 :=
  s.cell n (4 * w + 3) ++ (s.cell n (4 * w + 2) ++ (s.cell n (4 * w + 1) ++ s.cell n (4 * w)))

/-- Code word i of a region's cells. -/
def regionWord (r : BitVec 320) (i : Nat) : Code64 := r.extractLsb' (80 * i) 80

/-- Write the 320 cells of a region. -/
def State.setRegion (s : State) (n w : Nat) (r : BitVec 320) : State :=
  (List.range 4).foldl (fun acc i => acc.setCell n (4 * w + i) (regionWord r i)) s

/-- R168: the WA pattern, alternating with cell 0 at 0, inverted on every second physical row. -/
def bgtAlternating (w : Nat) : BitVec 320 :=
  let alt : BitVec 320 := BitVec.ofNat 320 ((List.range 160).foldl (fun acc i => acc + 2 ^ (2 * i + 1)) 0)
  if Config.physicalRowOdd w then ~~~ alt else alt

/-- The location word of a code word in an error record (R389). -/
def cellLoc (j bitNo : Nat) : Nat := j + bitNo * 2 ^ 24

/-- R170: a cell fault on region w at a step. -/
def State.cellFault (s : State) (n w step : Nat) (diff : BitVec 320) : State :=
  let b := lowBit diff
  let s := (s.count F.SLC_CNT_CELL n).raise F.SLC_STATUS_CELL n
  let s := s.setReg .SLC_CELL (BitVec.ofNat 64 (2 ^ 63 + b * 2 ^ 20 + step * 2 ^ 16 + w)) n
  s.logErr { kind := 0, inst := n, cls := 0x03, loc := cellLoc (4 * w + b / 80) (b % 80), data := s.reg .SLC_CELL n }

/-- R168: SAVE checks one code word: its value for the holding register, and what is counted. -/
def State.bgtSaveWord (s : State) (n w : Nat) (raw : BitVec 320) (i : Nat) : Code64 × State :=
  let c := regionWord raw i
  let dec := decode64 c
  match dec.kind with
  | .corrected b =>
    (c ^^^ (1#80 <<< b), s.count F.SLC_CNT_CE n)
  | .uncorrectable =>
    (c, (s.count F.SLC_CNT_UE n).logErr
      { kind := 0, inst := n, cls := 0x02, loc := cellLoc (4 * w + i) 0xFF,
        rows := dec.rows.setWidth 32, cols := dec.cols.setWidth 32, data := dec.stored })
  | _ => (c, s)

/-- The step codes of SLC_STATUS.BGTSTEP that the background test performs on a region: the step it takes next. -/
def State.bgtCode (s : State) (n : Nat) : Nat := s.fld F.SLC_STATUS_BGTSTEP n
/-- Set the step code. -/
def State.setBgtCode (s : State) (n c : Nat) : State := s.setFld F.SLC_STATUS_BGTSTEP c n

/-- R168: after a region the cursor advances; a wrap counts a pass; a gap waits. -/
def State.bgtAdvance (s : State) (n : Nat) : State :=
  let cur := s.fld F.SLC_BGT_CURSOR n
  let s := s.setFld F.SLC_BGT_CURSOR ((cur + 1) % 32768) n
  let s := if cur + 1 = 32768 then s.count F.SLC_BGT_PASSES n else s
  s.setBgtCode n (if s.fld F.SLC_CTRL_GAP n = 0 then 2 else 1)

/-- R168: a read step compares the region's cells with what was written. flips are the cells that do not hold it. -/
def State.bgtCompare (s : State) (n w step : Nat) (expect flips : BitVec 320) : State :=
  let diff := (s.region n w ^^^ flips) ^^^ expect
  if diff = 0 then s else s.cellFault n w step diff

/-- R168: the background test of slice n takes its next step. flips: the cells that read differently from what they
were last written with. -/
def State.bgtStep (s : State) (n : Nat) (flips : BitVec 320) : State :=
  let w := s.fld F.SLC_BGT_CURSOR n
  match s.bgtCode n with
  | 2 =>
    let raw := s.region n w ^^^ flips
    let r := (List.range 4).foldl (fun (acc : BitVec 320 × State) i =>
      let q := acc.2.bgtSaveWord n w raw i
      (acc.1 ||| (q.1.setWidth 320 <<< (80 * i)), q.2)) (0#320, s)
    ((r.2.setRegion n w raw).modSlc n (fun x => { x with hold := r.1 })).setBgtCode n 3
  | 3 => (s.setRegion n w 0#320).setBgtCode n 4
  | 4 => (s.bgtCompare n w 4 0#320 flips).setBgtCode n 5
  | 5 => (s.setRegion n w (BitVec.allOnes 320)).setBgtCode n 6
  | 6 => (s.bgtCompare n w 6 (BitVec.allOnes 320) flips).setBgtCode n 7
  | 7 => (s.setRegion n w (bgtAlternating w)).setBgtCode n 8
  | 8 => (s.bgtCompare n w 8 (bgtAlternating w) flips).setBgtCode n 9
  | 9 => (s.setRegion n w (~~~ (bgtAlternating w))).setBgtCode n 10
  | 10 => (s.bgtCompare n w 10 (~~~ (bgtAlternating w)) flips).setBgtCode n 11
  | 11 => (s.setRegion n w (s.slc n).hold).setBgtCode n 12
  | 12 => (s.bgtCompare n w 12 (s.slc n).hold flips).bgtAdvance n
  | _ => s

/-- R171: the background test can run on slice n. -/
def State.bgtMayRun (s : State) (n : Nat) : Bool :=
  s.sliceOn n && s.flag F.SLC_CTRL_BGTEN n && s.flag F.SLC_STATUS_FILLED n && !(s.flag F.SLC_STATUS_FILLING n)
    && !(s.flag F.SLC_CTRL_RETIRE n)

/-- R168, R169: BGT_STEP: in a slice cycle in which ARB 512 + n has no request pending the test of slice n runs its next step. -/
def State.bgtRun (s : State) (n : Nat) (flips : BitVec 320) : State :=
  if s.bgtMayRun n ∧ 2 ≤ s.bgtCode n ∧ (s.arbs.get (512 + n) {}).wq = [] then (s.bgtStep n flips).pmonEvent (76 + n) 0x33 0 1 else s

/-- R168: BGT_WAIT_END: after GAP idle slice cycles the next region's SAVE follows. -/
def State.bgtWaitEnd (s : State) (n : Nat) : State := if s.bgtMayRun n ∧ s.bgtCode n = 1 then s.setBgtCode n 2 else s

/-- The background test gives the region back: its content is restored where the cells hold test patterns (R169). -/
def State.bgtRestore (s : State) (n : Nat) : State :=
  let c := s.bgtCode n
  if 3 ≤ c ∧ c ≤ 11 then s.setRegion n (s.fld F.SLC_BGT_CURSOR n) (s.slc n).hold else s

/-- Stop the background test with its region restored (BGTEN = 0, fill, retirement). -/
def State.bgtOff (s : State) (n : Nat) : State := (s.bgtRestore n).setBgtCode n 0

/-- Start the background test where it may run and is off. -/
def State.bgtOn (s : State) (n : Nat) : State :=
  if s.bgtMayRun n ∧ s.bgtCode n = 0 then s.setBgtCode n 2 else s

/-- R169: the step in progress completes before RESTORE: a read step still compares the region with what was written (a write
step's cells are overwritten by RESTORE). -/
def State.bgtFinish (s : State) (n : Nat) : State :=
  let w := s.fld F.SLC_BGT_CURSOR n
  match s.bgtCode n with
  | 4 => s.bgtCompare n w 4 0#320 0
  | 6 => s.bgtCompare n w 6 (BitVec.allOnes 320) 0
  | 8 => s.bgtCompare n w 8 (bgtAlternating w) 0
  | 10 => s.bgtCompare n w 10 (~~~ (bgtAlternating w)) 0
  | _ => s

/-- R169, R476: an access by a port meets the background test. hit: the access touches the region under test. The step whose
code BGTSTEP shows is the one in progress: from W0 to RDN it completes, and RESTORE follows before the access. -/
def State.bgtYield (s : State) (n : Nat) (portA write hit : Bool) : State :=
  let c := s.bgtCode n
  if 3 ≤ c ∧ c ≤ 10 then
    if hit ∨ !portA then
      (((s.bgtFinish n).setRegion n (s.fld F.SLC_BGT_CURSOR n) (s.slc n).hold).setBgtCode n 2).pmonEvent (76 + n) 0x34 0 1
    else s
  else if c = 11 then
    if hit ∨ !portA then
      let s := s.bgtRestore n
      if portA ∧ write then s.bgtAdvance n else s.setBgtCode n 12
    else s
  else if c = 12 ∧ hit then s.bgtStep n 0
  else s

/-- R169 for an access to code words first to first + count - 1. -/
def State.bgtYieldWords (s : State) (n first count : Nat) (portA write : Bool) : State :=
  let w := s.fld F.SLC_BGT_CURSOR n
  s.bgtYield n portA write (decide (first ≤ 4 * w + 3 ∧ 4 * w < first + count))

/-! ### Port A -/

/-- Port A reads code words of slice n: data and poison of each (R43, R58, R157); none where the access is a port A
error. -/
def State.portARead (s : State) (n first count : Nat) : Option (List (Word × Bool)) × State :=
  if s.portAError n then (none, s) else
    let s := (s.bgtYieldWords n first count true false).pmonEvent (76 + n) 0x30 0 1
    let ds := (List.range count).map (fun i => let d := decode64 (s.cell n (first + i)); (d.data, d.poison))
    (some ds, s.modSlc n (fun x => { x with portA := .read first count }))

/-- Port A writes one code word of slice n (R58); a poisoned word is stored in the poison pattern. False: port A error. -/
def State.portAWrite (s : State) (n j : Nat) (v : Word) (p : Bool) : Bool × State :=
  if s.portAError n then (false, s) else
    let s := (s.bgtYieldWords n j 1 true true).pmonEvent (76 + n) 0x30 0 1
    let old := s.cell n j
    (true, (s.setCell n j (store64 v p)).modSlc n (fun x => { x with portA := .write [(j, old)] }))

/-- R80, R157: the port-word accesses, first word and number of words, that move the code words first to first + count - 1 of a
block of at most 13 words. -/
def portWords (first count : Nat) : List (Nat × Nat) :=
  (List.range 4).filterMap (fun i =>
    let lo := max first (4 * (first / 4 + i))
    let hi := min (first + count) (4 * (first / 4 + i) + 4)
    if lo < hi then some (lo, hi - lo) else none)

/-- R157, R169, R476: port A takes the accesses of a block, one per port word. -/
def State.portAOpen (s : State) (n first count : Nat) (write : Bool) : State :=
  (portWords first count).foldl (fun acc q =>
    (acc.bgtYieldWords n q.1 q.2 true write).pmonEvent (76 + n) 0x30 0 1) s

/-- R80: port A reads a block of code words in whole port-word accesses; none where the accesses are port A errors. -/
def State.portAReadBlock (s : State) (n first count : Nat) : Option (List (Word × Bool)) × State :=
  if s.portAError n then (none, s) else
    let s := s.portAOpen n first count false
    let ds := (List.range count).map (fun i => let d := decode64 (s.cell n (first + i)); (d.data, d.poison))
    (some ds, s.modSlc n (fun x => { x with portA := .read first count }))

/-- R80: port A writes a block of code words in whole port-word accesses. -/
def State.portAWriteBlock (s : State) (n first : Nat) (vs : List Word) : State :=
  if s.portAError n then s else
    let s := s.portAOpen n first vs.length true
    let old := (List.range vs.length).map (fun i => (first + i, s.cell n (first + i)))
    let s := (List.range vs.length).foldl (fun acc i => acc.setCell n (first + i) (encode64 (vs.getD i 0))) s
    s.modSlc n (fun x => { x with portA := .write old })

/-! ### Port B -/

/-- What port A's access in the same slice cycle means for code word j: port A wrote it (its value before the cycle), port
A read it, or neither. -/
inductive Pairing where
  | none | aRead
  | aWrote (old : Code64)
  deriving DecidableEq, Repr

/-- R161: the pairing of a port B access to code word j with port A's last access, where they fall in one slice cycle. -/
def State.pairing (s : State) (n j : Nat) (same : Bool) : Pairing :=
  if !same then .none else
    match (s.slc n).portA with
    | .read f c => if f ≤ j ∧ j < f + c then .aRead else .none
    | .write old => match old.find? (fun q => q.1 == j) with
      | some q => .aWrote q.2
      | none => .none
    | .none => .none

/-- R161: port A's read of code word j in the same cycle sees the value port B leaves: the newest load of that word, the
prefetched bundle that holds it, or the word that a RESTL waits with takes it. -/
def State.fixPortARead (s : State) (n j : Nat) (c : Code64) : State :=
  let d := decode64 c
  let fixLoad (ls : List LoadReq) : List LoadReq :=
    match ls.reverse with
    | [] => []
    | x :: t => (if x.word.toNat = j then { x with data := d.data, poison := d.poison } else x) :: t |>.reverse
  let fixPq (q : PqEntry) : PqEntry :=
    if q.ok ∧ q.addr.toNat = j / 2 then
      if j % 2 = 0 then
        { q with bits := (q.bits.extractLsb' 64 64) ++ d.data, poison := (q.poison.extractLsb' 1 1) ++ bitv d.poison }
      else { q with bits := d.data ++ (q.bits.extractLsb' 0 64), poison := bitv d.poison ++ (q.poison.extractLsb' 0 1) }
    else q
  let fixWait (r : RestlWait) : RestlWait :=
    if r.base ≤ j then { r with words := r.words.map (fun ws => ws.set (j - r.base) (d.data, d.poison)) } else r
  s.modEng n (fun e => { e with loads := fixLoad e.loads, pq := e.pq.map fixPq, restl := e.restl.map fixWait })

/-- R160: a corrected or uncorrectable read by port B is counted and logged; a poison pattern is neither (R381). -/
def State.noteSliceRead (s : State) (n j : Nat) (mid : MasterId) (d : Decoded64) : State :=
  let rec0 : ErrRec :=
    { kind := 0, inst := n, cls := 0x01, mid := some mid, addr := 0x001000000000 + n * 0x100000 + 8 * j,
      rows := d.rows.setWidth 32, cols := d.cols.setWidth 32, data := d.stored }
  match d.kind with
  | .corrected b => (s.count F.SLC_CNT_CE n).logErr { rec0 with loc := cellLoc j b }
  | .uncorrectable => (s.count F.SLC_CNT_UE n).logErr { rec0 with cls := 0x02, loc := cellLoc j 0xFF }
  | _ => s

/-- What one word of an access answers: data, poison, status. -/
structure WordReply where
  data : Word := 0
  poison : Bool := false
  status : Status := .ok
  deriving DecidableEq, Repr

/-- R385: a checker read returns the stored data and latches the check bits. -/
def State.ckRead (s : State) (c : Code64) : WordReply × State :=
  ({ data := c.extractLsb' 0 64 }, s.setReg .ERR_CKRD ((c.extractLsb' 64 16).setWidth 64))

/-- R385: the code word that a checker write stores. -/
def State.ckCode (s : State) (v : Word) : Code64 := ((s.reg .ERR_CKDATA).extractLsb' 0 16) ++ v

/-- R160, R161: port B reads code word j. -/
def State.sliceRead (s : State) (mid : MasterId) (n j : Nat) (same : Bool := false) : WordReply × State :=
  match s.sliceBlock n with
  | some st => ({ status := st }, s)
  | none =>
    let s := s.bgtYieldWords n j 1 false false
    let c := match s.pairing n j same with | .aWrote old => old | _ => s.cell n j
    if s.ckSlice n && isCheckerMaster mid then s.ckRead c else
      let d := decode64 c
      ({ data := d.data, poison := d.poison, status := if d.poison then .epoison else .ok }, s.noteSliceRead n j mid d)

/-- R160 to R162: port B writes code word j. -/
def State.sliceWrite (s : State) (mid : MasterId) (n j : Nat) (v : Word) (p : Bool) (same : Bool := false) :
    WordReply × State :=
  match s.sliceBlock n with
  | some st => ({ status := st }, s)
  | none =>
    let s := s.bgtYieldWords n j 1 false true
    let c := if s.ckSlice n && isCheckerMaster mid then s.ckCode v else store64 v p
    match s.pairing n j same with
    | .aWrote _ => ({ status := .ecoll }, s)
    | .aRead => ({}, (s.setCell n j c).fixPortARead n j c)
    | .none => ({}, s.setCell n j c)

/-- R162: an access that completes with ECOLL is counted once. -/
def State.noteColl (s : State) (n : Nat) : State := ((s.count F.SLC_CNT_COLL n).raise F.SLC_STATUS_COLL n).pmonEvent (76 + n) 0x32 0 1

/-- R161, R164 to R166, R388: port B performs an atomic on code word j. -/
def State.sliceAtomic (s : State) (mid : MasterId) (n j : Nat) (op : AtomicOp) (opnd cmp : Word) (opPoison : Bool)
    (same : Bool := false) : WordReply × State :=
  match s.sliceBlock n with
  | some st => ({ status := st }, s)
  | none =>
    if s.ckSlice n && isCheckerMaster mid then ({ status := .edeny }, s) else
      let s := s.bgtYieldWords n j 1 false true
      let pr := s.pairing n j same
      let c := match pr with | .aWrote old => old | _ => s.cell n j
      let d := decode64 c
      let s := s.noteSliceRead n j mid d
      if d.poison ∨ opPoison then ({ data := d.data, poison := d.poison, status := .epoison }, s)
      else
        match atomicResult op d.data opnd cmp with
        | none => ({ data := d.data }, s)
        | some r =>
          match pr with
          | .aWrote _ => ({ data := d.data, status := .ecoll }, s.noteColl n)
          | .aRead => ({ data := d.data }, (s.setCell n j (encode64 r)).fixPortARead n j (encode64 r))
          | .none => ({ data := d.data }, s.setCell n j (encode64 r))

/-! ### Fill and retirement -/

/-- R172, R173: a fill of slice n starts: every cell zero, the background test stopped and reset (R171). -/
def State.startSliceFill (s : State) (n : Nat) : State :=
  let s := { s with slices := s.slices.clear (fun k => k / 131072 == n) }
  let s := (s.setBgtCode n 0).modSlc n (fun _ => {})
  let s := s.setReg .SLC_BGT 0 n
  (s.setFld F.SLC_STATUS_FILLED 0 n).setFld F.SLC_STATUS_FILLING 1 n

/-- R173: the fill of slice n ends, and the background test starts at region 0. -/
def State.endSliceFill (s : State) (n : Nat) : State :=
  if s.flag F.SLC_STATUS_FILLING n then
    ((s.setFld F.SLC_STATUS_FILLING 0 n).setFld F.SLC_STATUS_FILLED 1 n).bgtOn n
  else s

/-- R174: engine n is in IDLE or FAULT. -/
def State.engineQuiet (s : State) (n : Nat) : Bool := (s.eng n).mode == .idle || (s.eng n).mode == .fault

/-- R174, R175: a write of SLC_CTRL. FILL and RETIRE are refused under R174; GAP and BGTEN are written normally. -/
def State.writeSlcCtrl (s : State) (n : Nat) (v : Word) : State :=
  let fill := fldOf F.SLC_CTRL_FILL v = 1
  let retire := fldOf F.SLC_CTRL_RETIRE v
  let s := s.setFld F.SLC_CTRL_GAP (fldOf F.SLC_CTRL_GAP v) n
  let s := s.setFld F.SLC_CTRL_BGTEN (fldOf F.SLC_CTRL_BGTEN v) n
  let s :=
    if retire = s.fld F.SLC_CTRL_RETIRE n then s
    else if s.engineQuiet n then (s.bgtOff n).setFld F.SLC_CTRL_RETIRE retire n
    else s.raise F.SLC_STATUS_CFGERR n
  let s :=
    if fill then
      if s.engineQuiet n ∧ !(s.flag F.SLC_STATUS_FILLING n) then s.startSliceFill n
      else s.raise F.SLC_STATUS_CFGERR n
    else s
  if s.flag F.SLC_CTRL_BGTEN n then s.bgtOn n else s.bgtOff n

end Sys2Proof.Machine
end

