-- ==== Sys2Proof/Machine/Engine.lean ====
section
/-!
DEFINITION. The pipeline of a comet engine (R38 to R63): what each slot reads and writes, fetch and the bundle buffer, the
loop-end check, the faults of each stage, and one step of the pipeline for an engine alone or for a gang.
-/
namespace Sys2Proof.Machine

open Sys2Proof

/-! ### Registers -/

def Engine.ra (x : Engine) (k : Nat) : Word32 := x.a.get k 0
def Engine.ro (x : Engine) (k : Nat) : Word32 := x.o.get k 0
def Engine.rm (x : Engine) (k : Nat) : Word32 := x.m.get k 0
def Engine.rd (x : Engine) (k : Nat) : Word := x.d.get k 0
/-- The poison bit of d[k] (R61). -/
def Engine.rp (x : Engine) (k : Nat) : Bool := x.dp.get k false
def Engine.rg (x : Engine) (g : Nat) : BitVec 31 := x.g.get g (prbsOnes g)
def Engine.rpw (x : Engine) (g : Nat) : Word := x.pw.get g 0
def Engine.racc (x : Engine) (k : Nat) : Word48 := x.acc.get k 0
def Engine.rl (x : Engine) (k : Nat) : BitVec 24 := x.l.get k 0
def Engine.rstart (x : Engine) (k : Nat) : BAddr := x.lstart.get k 0
def Engine.rend (x : Engine) (k : Nat) : BAddr := x.lend.get k 0
def Engine.rcs (x : Engine) (k : Nat) : BAddr := x.cstack.get k 0

def Engine.setA (x : Engine) (k : Nat) (v : Word32) : Engine := { x with a := x.a.set k v 0 }
def Engine.setO (x : Engine) (k : Nat) (v : Word32) : Engine := { x with o := x.o.set k v 0 }
def Engine.setM (x : Engine) (k : Nat) (v : Word32) : Engine := { x with m := x.m.set k v 0 }
/-- Write d[k] with its poison bit (R61). -/
def Engine.setD (x : Engine) (k : Nat) (v : Word) (p : Bool) : Engine :=
  { x with d := x.d.set k v 0, dp := x.dp.set k p false }
/-- Write a generator's state; all zeros loads all ones (R60). -/
def Engine.setG (x : Engine) (g : Nat) (v : Word) : Engine := { x with g := x.g.set g (prbsSeed g v) (prbsOnes g) }
def Engine.setPw (x : Engine) (g : Nat) (v : Word) : Engine := { x with pw := x.pw.set g v 0 }
def Engine.setAcc (x : Engine) (k : Nat) (v : Word48) : Engine := { x with acc := x.acc.set k v 0 }
def Engine.setL (x : Engine) (k : Nat) (v : BitVec 24) : Engine := { x with l := x.l.set k v 0 }

/-! ### AGEN (R55 to R58, R91) -/

/-- What an AGEN slot does at S3: its registers, AO, a load (register, address), a store (address, register), a compare. -/
structure AgenEff where
  a : Option (BitVec 3 × Word32) := none
  o : Option (BitVec 3 × Word32) := none
  m : Option (BitVec 3 × Word32) := none
  ao : Word32
  load : Option (BitVec 4 × Word32) := none
  store : Option (Word32 × BitVec 4) := none
  cmps : List (BitVec 3 × Bool) := []
  deriving DecidableEq, Repr

/-- R57: an entry of the X table and of the Y table of engine e. -/
def State.scrX (s : State) (e v : Nat) : BitVec 6 := ((s.reg .CE_SCRX e (v / 8)) >>> (8 * (v % 8))).setWidth 6
def State.scrY (s : State) (e v : Nat) : BitVec 6 := ((s.reg .CE_SCRY e (v / 8)) >>> (8 * (v % 8))).setWidth 6

/-- R57: the scrambler of engine e for address register k. -/
def State.scrambleAt (s : State) (e k : Nat) (v : Word32) : Word32 :=
  scramble ((s.fld F.CE_SCRCFG_AEN e).testBit k)
    (if s.flag F.CE_SCRCFG_XEN e then some (s.fld F.CE_SCRCFG_XG e) else none)
    (if s.flag F.CE_SCRCFG_YEN e then some (s.fld F.CE_SCRCFG_YG e) else none)
    (s.scrX e) (s.scrY e) v

/-- R55, R56, R91: post-modification of a[k] by o[j] under m[k]. -/
def Engine.postMod (x : Engine) (k j : BitVec 3) : Word32 := postModify (x.ra k.toNat) (x.ro j.toNat) (x.rm k.toNat)

/-- R91: what an AGEN operation does, reading x. -/
def State.agenEff (s : State) (e : Nat) (x : Engine) (op : AgenOp) : AgenEff :=
  match op with
  | .nop => { ao := x.ao }
  | .aout k j p m n =>
    let out := s.scrambleAt e k.toNat (x.ra k.toNat)
    { a := if p then none else some (k, x.postMod k j), ao := out,
      load := if m = 1 then some (n, out) else none, store := if m = 2 then some (out, n) else none }
  | .seta k sx imm => { a := some (k, immSet sx imm), ao := x.ao }
  | .seto k sx imm => { o := some (k, immSet sx imm), ao := x.ao }
  | .setm k sx imm => { m := some (k, immSet sx imm), ao := x.ao }
  | .movd tr k n =>
    let v : Word32 := (x.rd n.toNat).setWidth 32
    if tr = 0 then { a := some (k, v), ao := x.ao }
    else if tr = 1 then { o := some (k, v), ao := x.ao }
    else { m := some (k, v), ao := x.ao }
  | .adva k j => { a := some (k, x.postMod k j), ao := x.ao }
  | .cmpa k n cc sl imm =>
    { ao := x.ao, cmps := [(n, cmpU cc (x.ra k.toNat) (if sl then imm.setWidth 32 else x.rm k.toNat))] }
  | .adda k imm => { a := some (k, x.ra k.toNat + imm.signExtend 32), ao := x.ao }

/-- The register writes of an AGEN slot. -/
def Engine.applyAgen (x : Engine) (f : AgenEff) : Engine :=
  let x := match f.a with | some (k, v) => x.setA k.toNat v | none => x
  let x := match f.o with | some (k, v) => x.setO k.toNat v | none => x
  let x := match f.m with | some (k, v) => x.setM k.toNat v | none => x
  { x with ao := f.ao }

/-! ### DGEN (R59 to R61, R94, R95) -/

/-- What a result does with its destinations (R93). -/
def dgenOut (w : DDest) (r : Word) (p : Bool) : DgenEff :=
  { wr := if w.wr then some w.dst else none, wo := w.wo, r := r, rp := p }

/-- R93, R94, R95: a DGEN operation's effect and compare, reading x, with the AO of its own bundle. -/
def dgenEff (x : Engine) (ao : Word32) (op : DgenOp) : DgenEff × List (BitVec 3 × Bool) :=
  let d (k : BitVec 4) : Word := x.rd k.toNat
  let p (k : BitVec 4) : Bool := x.rp k.toNat
  match op with
  | .nop => ({}, [])
  | .mov w sa => (dgenOut w (d sa) (p sa), [])
  | .not w sa => (dgenOut w (~~~ (d sa)) (p sa), [])
  | .and w sa sb => (dgenOut w (d sa &&& d sb) (p sa || p sb), [])
  | .or w sa sb => (dgenOut w (d sa ||| d sb) (p sa || p sb), [])
  | .xor w sa sb => (dgenOut w (d sa ^^^ d sb) (p sa || p sb), [])
  | .add w sa sb => (dgenOut w (d sa + d sb) (p sa || p sb), [])
  | .sub w sa sb => (dgenOut w (d sa - d sb) (p sa || p sb), [])
  | .shl w sa sh => (dgenOut w (d sa <<< sh.toNat) (p sa), [])
  | .shr w sa sh => (dgenOut w (d sa >>> sh.toNat) (p sa), [])
  | .rol w sa sh => (dgenOut w ((d sa).rotateLeft sh.toNat) (p sa), [])
  | .ldi w imm => (dgenOut w (imm.signExtend 64) false, [])
  | .cat w imm => (dgenOut w ((d w.dst <<< 13) ||| imm.setWidth 64) (p w.dst), [])
  | .topo w sa sb =>
    let t : Word := if parity (ao &&& (d sb).setWidth 32) then BitVec.allOnes 64 else 0
    (dgenOut w (d sa ^^^ t) (p sa || p sb), [])
  | .movao w => (dgenOut w (ao.setWidth 64) false, [])
  | .padv w g n =>
    let r := prbsAdvance g.toNat n.toNat (x.rg g.toNat) (x.rpw g.toNat)
    ({ dgenOut w r.2 false with
       gen := if n = 0 then none else some (g, r.1), pw := if n = 0 then none else some (g, r.2) }, [])
  | .pxor w sa g => (dgenOut w (d sa ^^^ x.rpw g.toNat) (p sa), [])
  | .pseed w sa g => ({ dgenOut w (d sa) (p sa) with gen := some (g, prbsSeed g.toNat (d sa)) }, [])
  | .unpk w sa wd q => (dgenOut w (unpack (d sa) wd q.toNat) (p sa), [])
  | .cmpd sa sb n cc => ({}, [(n, cmpU cc (d sa) (d sb))])

/-- R94: the writes of a DGEN slot at S4. -/
def Engine.applyDgen (x : Engine) (f : DgenEff) : Engine :=
  let x := match f.wr with | some k => x.setD k.toNat f.r f.rp | none => x
  let x := if f.wo then { x with dout := f.r, doutP := f.rp } else x
  let x := match f.gen with | some (g, v) => { x with g := x.g.set g.toNat v (prbsOnes g.toNat) } | none => x
  match f.pw with | some (g, v) => x.setPw g.toNat v | none => x

/-! ### MAC (R62, R63, R97, R98) -/

/-- The accumulators that a mask enables. -/
def maskAccs (mask : BitVec 4) : List Nat := (List.range 4).filter (fun k => mask.getLsbD k)

/-- R97: an accumulate operation: the accumulators' new values, and whether one was clamped. -/
def macRun (x : Engine) (sub : Bool) (mask : BitVec 4) (mode : BitVec 2) (j : BitVec 3) (b : BitVec 18) : MacEff :=
  let lo := x.rd (2 * j.toNat)
  let hi := x.rd (2 * j.toNat + 1)
  let rs := (maskAccs mask).map (fun k =>
    (k, macAccum sub (mode.getLsbD 1) (mode.getLsbD 0) (x.racc k) (macA lo hi k) b))
  { accs := rs.map (fun r => (r.1, r.2.1)), sat := rs.any (fun r => r.2.2) }

/-- R97: the immediate operand B. -/
def macImm (mode : BitVec 2) (imm : BitVec 11) : BitVec 18 := if mode.getLsbD 1 then imm.signExtend 18 else imm.setWidth 18

/-- R98: the compare of MACC and MSUB with CE = 1. -/
def macCmp (x : Engine) (mask : BitVec 4) (mode : BitVec 2) (ce : Bool) (n rf : BitVec 3) : List (BitVec 3 × Bool) :=
  if ce then
    [(n, cmp48 (mode.getLsbD 1) 3 (x.racc ((maskAccs mask).headD 0)) ((x.rd (8 + rf.toNat)).setWidth 48))]
  else []

/-- R97, R98: a MAC operation's effect and compare, reading x. -/
def macEff (x : Engine) (op : MacOp) : MacEff × List (BitVec 3 × Bool) :=
  match op with
  | .nop => ({}, [])
  | .macc mask mode j k ce n rf =>
    (macRun x false mask mode j ((x.rd k.toNat).setWidth 18), macCmp x mask mode ce n rf)
  | .msub mask mode j k ce n rf =>
    (macRun x true mask mode j ((x.rd k.toNat).setWidth 18), macCmp x mask mode ce n rf)
  | .maci mask mode j imm => (macRun x false mask mode j (macImm mode imm), [])
  | .msbi mask mode j imm => (macRun x true mask mode j (macImm mode imm), [])
  | .mclr mask => ({ accs := (maskAccs mask).map (fun k => (k, 0)) }, [])
  | .mlda mask sa => ({ accs := (maskAccs mask).map (fun k => (k, (x.rd sa.toNat).setWidth 48)) }, [])
  | .mmov k sg dst =>
    ({ wr := some (dst, if sg then (x.racc k.toNat).signExtend 64 else (x.racc k.toNat).setWidth 64) }, [])
  | .mcmp k n cc sg sa => ({}, [(n, cmp48 sg cc (x.racc k.toNat) ((x.rd sa.toNat).setWidth 48))])

/-- The writes of a MAC slot at S6; MMOV writes an unpoisoned register (R97). -/
def Engine.applyMac (x : Engine) (f : MacEff) : Engine :=
  let x := f.accs.foldl (fun acc w => acc.setAcc w.1 w.2) x
  match f.wr with | some (k, v) => x.setD k.toNat v false | none => x

/-! ### What a bundle consumes and reads (R61, R97) -/

/-- The data registers that an AGEN operation consumes, and those it reads. -/
def AgenOp.consumes : AgenOp → List Nat
  | .movd _ _ n => [n.toNat]
  | _ => []
def AgenOp.reads : AgenOp → List Nat
  | .movd _ _ n => [n.toNat]
  | .aout _ _ _ m n => if m = 2 then [n.toNat] else []
  | _ => []
/-- The data registers that a DGEN operation consumes, and those it reads. -/
def DgenOp.consumes : DgenOp → List Nat
  | .pseed _ sa _ => [sa.toNat]
  | .cmpd sa sb _ _ => [sa.toNat, sb.toNat]
  | _ => []
def DgenOp.reads : DgenOp → List Nat
  | .mov _ sa | .not _ sa | .shl _ sa _ | .shr _ sa _ | .rol _ sa _ | .pxor _ sa _ | .pseed _ sa _ | .unpk _ sa _ _ =>
    [sa.toNat]
  | .and _ sa sb | .or _ sa sb | .xor _ sa sb | .add _ sa sb | .sub _ sa sb | .topo _ sa sb | .cmpd sa sb _ _ =>
    [sa.toNat, sb.toNat]
  | .cat w _ => [w.dst.toNat]
  | _ => []
/-- R97: the multiplier registers that a mask uses. -/
def macPair (mask : BitVec 4) (j : BitVec 3) : List Nat :=
  (if mask.getLsbD 0 || mask.getLsbD 1 then [2 * j.toNat] else []) ++
    (if mask.getLsbD 2 || mask.getLsbD 3 then [2 * j.toNat + 1] else [])
/-- R97: the data registers that a MAC operation consumes. -/
def MacOp.consumes : MacOp → List Nat
  | .macc mask _ j k ce _ rf | .msub mask _ j k ce _ rf =>
    macPair mask j ++ (if mask = 0 then [] else [k.toNat]) ++ (if ce then [8 + rf.toNat] else [])
  | .maci mask _ j _ | .msbi mask _ j _ => macPair mask j
  | .mlda mask sa => if mask = 0 then [] else [sa.toNat]
  | .mcmp _ _ _ _ sa => [sa.toNat]
  | _ => []

/-! ### Slots of a stage -/

def Stage.flow (t : Stage) : FlowOp := (decodeFlow (flowBits t.bits)).getD .nop
def Stage.agen (t : Stage) : AgenOp := (decodeAgen (agenBits t.bits)).getD .nop
def Stage.dgenOp (t : Stage) : DgenOp := (decodeDgen (dgenSlotBits t.bits)).getD .nop
def Stage.macOp (t : Stage) : MacOp := (decodeMac (macBits t.bits)).getD .nop
def Stage.pin (t : Stage) : PinOp := (decodePin (pinBits t.bits)).getD ⟨0, 0, 0⟩

/-! ### FLOW (R48 to R54, R87) -/

/-- R48: the transfers. -/
def FlowOp.isTransfer : FlowOp → Bool
  | .jmp _ => true
  | .br _ _ _ _ => true
  | .call _ => true
  | .ret => true
  | .halt => true
  | .nop => false
  | .enta => false
  | .loopi _ _ => false
  | .loopl _ _ => false
  | .popl => false
  | .setl _ _ => false
  | .clrf _ => false
  | .sync => false
  | .savel _ => false
  | .restl _ => false
  | .reti => false
def FlowOp.isLoop : FlowOp → Bool
  | .loopi _ _ | .loopl _ _ => true
  | _ => false
/-- R48, R76: the operations that may not stand in a delay or setup slot, and behind which no interrupt is accepted. -/
def FlowOp.isControl (o : FlowOp) : Bool :=
  o.isTransfer || o.isLoop || o == .enta || o == .reti || (match o with | .savel _ | .restl _ => true | _ => false)

/-- What stands in S1 behind a bundle: its delay slot, its setup slot, or neither (R48, R50, R54). -/
def FlowOp.behind (o : FlowOp) : Place := if o.isTransfer || o == .enta then .delay else if o.isLoop then .setup else .plain

/-- R51: the loop-end check for a bundle: the next fetch address, and the engine with its updates. -/
def loopCheck : Nat → BAddr → Engine → BAddr × Engine
  | 0, a, x => (a + 1, x)
  | n + 1, a, x =>
    if x.rend n = a then
      if (x.rl n).toNat > 1 then (x.rstart n, x.setL n (x.rl n - 1))
      else loopCheck n a { x.setL n 0 with ld := n }
    else (a + 1, x)

/-- R51: the check over the whole loop stack. -/
def Engine.loopEnd (x : Engine) (a : BAddr) : BAddr × Engine := loopCheck x.ld a x

/-- R50: the bundle in S1 is matched as a loop end. -/
def Engine.matchesEnd (x : Engine) (a : BAddr) : Bool := x.ld != 0 && x.rend (x.ld - 1) == a

/-- R50: LOOP in bundle i: the entry written on y, reading x. -/
def loopPush (x y : Engine) (i : BAddr) (c : BitVec 24) (en : BAddr) : Engine × Option BAddr :=
  if c = 0 then (y, some (en + 1))
  else
    ({ y.setL x.ld c with lstart := y.lstart.set x.ld (i + 2) 0, lend := y.lend.set x.ld en 0, ld := x.ld + 1 }, none)

/-- R87: what a FLOW operation of bundle i does to the program state: written on y, reading x; and its redirect. -/
def flowEff (x y : Engine) (i : BAddr) (op : FlowOp) : Engine × Option BAddr :=
  match op with
  | .jmp t => (y, some t)
  | .br kind val idx t =>
    let c := if kind then ((x.rl idx.toNat != 0) == val) else testFlag x.flags idx val
    (y, if c then some t else none)
  | .call t => ({ y with cstack := y.cstack.set x.cd (i + 2) 0, cd := x.cd + 1 }, some t)
  | .ret => ({ y with cd := x.cd - 1 }, some (x.rcs (x.cd - 1)))
  | .halt => ({ y with ending := .halt, fetching := false }, none)
  | .enta => ({ y with ending := .enta, fetching := false }, none)
  | .loopi c en => loopPush x y i (c.setWidth 24) en
  | .loopl k en => loopPush x y i (x.rl k.toNat) en
  | .popl => ({ y with ld := x.ld - 1 }, none)
  | .setl k v => (y.setL k.toNat v, none)
  | .reti => ({ y with ending := .reti, fetching := false }, none)
  | .nop => (y, none)
  | .clrf _ => (y, none)
  | .sync => (y, none)
  | .savel _ => (y, none)
  | .restl _ => (y, none)

/-! ### Loop and call state as words (R80, R82) -/

/-- R80: word w of the loop and call state. -/
def Engine.loopWord (x : Engine) (w : Nat) : Word :=
  if w < 8 then
    BitVec.ofNat 64 ((x.rstart w).toNat + (x.rend w).toNat * 2 ^ 16 + (x.rl w).toNat * 2 ^ 32)
  else if w = 8 then
    BitVec.ofNat 64 ((x.rcs 0).toNat + (x.rcs 1).toNat * 2 ^ 16 + (x.rcs 2).toNat * 2 ^ 32 + (x.rcs 3).toNat * 2 ^ 48)
  else BitVec.ofNat 64 (x.ld + x.cd * 16)

/-- R80: write word w of the loop and call state. -/
def Engine.setLoopWord (x : Engine) (w : Nat) (v : Word) : Engine :=
  if w < 8 then
    { x.setL w (v.extractLsb' 32 24) with
      lstart := x.lstart.set w (v.extractLsb' 0 16) 0, lend := x.lend.set w (v.extractLsb' 16 16) 0 }
  else if w = 8 then
    { x with cstack := (List.range 4).foldl (fun acc n => acc.set n (v.extractLsb' (16 * n) 16) 0) x.cstack }
  else { x with ld := (v.extractLsb' 0 4).toNat, cd := (v.extractLsb' 4 3).toNat }

/-- R80: word 9 gives a depth that the stacks do not have. -/
def badDepth (v : Word) : Option Nat :=
  if (v.extractLsb' 0 4).toNat > 8 then some 4 else if (v.extractLsb' 4 3).toNat > 4 then some 5 else none

/-! ### Fetch (R43 to R47) -/

/-- R45: a bundle is resident. -/
def Engine.resident (x : Engine) (a : BAddr) : Bool :=
  let t := x.buf.get (a.toNat % 512) {}
  t.valid && t.tag == a.extractLsb' 9 7

/-- R46: the first bundle at or after t that is not resident. -/
def Engine.restartPoint (x : Engine) : Nat → BAddr → BAddr
  | 0, t => t
  | n + 1, t => if x.resident t then x.restartPoint n (t + 1) else t

/-- R46: prefetch restarts for target t; the queue is emptied. -/
def Engine.restartPrefetch (x : Engine) (t : BAddr) : Engine := { x with pq := [], pqNext := some (x.restartPoint 513 t) }

/-- R47: the bundle buffer is invalidated as a whole. -/
def Engine.dropBuffer (x : Engine) : Engine := { x with buf := {} }

/-- Fetch begins at t with an invalid bundle buffer (R47, R67, R72). -/
def Engine.beginFetch (x : Engine) (t : BAddr) : Engine :=
  { x.dropBuffer.restartPrefetch t with pc := t, fetching := true, ending := .none, s1 := none }

/-- What S1 finds (R46). -/
inductive FetchRes where
  | ready | failed | wait
  deriving DecidableEq, Repr

/-- The queue without its head where the head is bundle a. -/
def dropHead (q : List PqEntry) (a : BAddr) : List PqEntry :=
  match q with
  | p :: t => if p.addr == a then t else q
  | [] => []

/-- R45, R46: S1 takes the bundle at pc, from the buffer where it is resident, else from the queue's head. -/
def Engine.fetchS1 (x : Engine) : Engine × FetchRes :=
  let place := match x.s2 with | some t => t.flow.behind | none => .plain
  if x.resident x.pc then
    let b := x.buf.get (x.pc.toNat % 512) {}
    ({ x with s1 := some { addr := x.pc, bits := b.bits, poison := b.poison, place := place }, pq := dropHead x.pq x.pc },
      .ready)
  else match x.pq with
    | p :: t =>
      if p.addr == x.pc then
        if p.ok then
          let ent : BufEntry := { valid := true, tag := x.pc.extractLsb' 9 7, bits := p.bits, poison := p.poison }
          ({ x with s1 := some { addr := x.pc, bits := p.bits, poison := p.poison, place := place }, pq := t,
                    buf := x.buf.set (x.pc.toNat % 512) ent {} }, .ready)
        else (x, .failed)
      else (x.restartPrefetch x.pc, .wait)
    | [] => (if x.pqNext = some x.pc then x else x.restartPrefetch x.pc, .wait)

/-- R46, R77: the bundle that S1 needs is at hand. -/
def Engine.fetchReady (x : Engine) : Bool := x.s1.isSome || x.fetchS1.2 != .wait

/-! ### Faults (R61, R69, R84, R85) -/

/-- A fault's cause code and slot. -/
structure Flt where
  cause : Nat
  slot : Nat
  deriving DecidableEq, Repr

/-- The first fault of a list in the precedence of R85. -/
def firstFlt (xs : List (Bool × Nat × Nat)) : Option Flt := (xs.find? (·.1)).map (fun x => ⟨x.2.1, x.2.2⟩)

/-- R80: the 10 words from word index a do not lie within the slice. -/
def blockOutside (a : Word32) : Bool := a.toNat + 10 > 131072

/-- R84, R85, R88, R89: the fault of a bundle at S2 in engine e, which reads x; next: the address in S1, if any. In a stream the
leader alone raises POISON for a poisoned bundle, as it does SLOT, LSTACK and CSTACK (DESIGN CHOICE, log entry 60: R89 does not
name POISON). -/
def State.s2Fault (s : State) (e : Nat) (x : Engine) (stream lead : Bool) (t : Stage) (next : Option BAddr) : Option Flt :=
  let op := t.flow
  let restricted := (op == .enta && !stream) || (op == .reti && (stream || s.flag F.CE_INT_IE e))
  let loopEnd? : Option BAddr := match op with | .loopi _ en => some en | .loopl _ en => some en | _ => none
  let badSlot := (t.place != .plain && op.isControl) ||
    (op.isLoop && (match next with | some a => x.matchesEnd a | none => false))
  let badLoop := match loopEnd? with | some en => x.ld ≥ 8 || en.toNat < t.addr.toNat + 2 | none => op == .popl && x.ld == 0
  let badCall := match op with | .call _ => x.cd ≥ 4 | .ret => x.cd == 0 | _ => false
  let block : Option Word32 := match op with
    | .savel k => some (x.ra k.toNat) | .restl k => some (x.ra k.toNat) | _ => none
  let memAgen := match t.agen with | .aout _ _ _ m _ => m != 0 | _ => false
  firstFlt
    [ (lead && t.poison != 0, 7, 5),
      ((decodeFlow (flowBits t.bits)).isNone || restricted, 2, 0), ((decodeAgen (agenBits t.bits)).isNone, 2, 1),
      ((decodeDgen (dgenSlotBits t.bits)).isNone, 2, 2), ((decodeMac (macBits t.bits)).isNone, 2, 3),
      (stream && (decodePin (pinBits t.bits)).isNone, 2, 4),
      (lead && badSlot, 3, 0), (lead && badLoop, 4, 0), (lead && badCall, 5, 0),
      (stream && block.isSome, 8, 0), (stream && memAgen, 8, 1),
      ((match block with | some a => blockOutside a || s.portAError e | none => false), 9, 0) ]

/-- R58: a load or store address outside the slice, or a port A error. -/
def State.memBad (s : State) (e : Nat) (a : Word32) : Bool := a.toNat ≥ 131072 || s.portAError e

/-- R61, R58: the fault of a bundle at S3 in engine e. Where several slots meet one cause in one stage, CE_FAULT.SLOT names the
lowest of them, here and at S2 (DESIGN CHOICE, log entry 60: R84 orders the slots for ILLEGAL alone). -/
def State.s3Fault (s : State) (e : Nat) (x : Engine) (t : Stage) : Option Flt :=
  firstFlt
    [ (t.agen.consumes.any x.rp, 7, 1), (t.dgenOp.consumes.any x.rp, 7, 2), (t.macOp.consumes.any x.rp, 7, 3),
      ((match (s.agenEff e x t.agen).load with | some (_, a) => s.memBad e a | none => false), 9, 1) ]

/-- R61, R65, R112, R58: the fault of a bundle at S6 in engine e of the gang that lead leads. -/
def State.s6Fault (s : State) (lead e : Nat) (stream : Bool) (t : Stage) : Option Flt :=
  if stream then
    let m : MemberSrc := { eng := e, aIn := t.aIn, ao := t.ao, dout := t.dout, doutP := t.doutP }
    firstFlt [(s.poisonedSource m t.pin, 7, 4), (badPinCode t.pin, 1, 4), (s.vectorRefused lead e t.pin, 10, 4)]
  else match t.store with
    | some (a, _, _) => if s.memBad e a then some ⟨9, 1⟩ else none
    | none => none

/-- R37, R66: what an engine gives up when it enters FAULT: nothing but its fetching and its waits. -/
def Engine.toFault (x : Engine) : Engine :=
  { x with mode := .fault, fetching := false, ending := .none, pq := [], pqNext := none, restl := none, restlDone := false,
           arrived := false, syncDone := false, draining := true, gangFault := none,
           gang := { x.gang with armed := false, startAt := none, woke := false, resumeAt := none } }

/-- R463: sources 512 + e: engine e has entered IDLE or FAULT from STREAM or ANALYSIS. -/
def State.engineIrq (s : State) (e : Nat) (was : EMode) : State :=
  if was = .idle ∨ was = .fault then s else s.pendIrq (512 + e)

/-- R69: engine e enters FAULT with its record. -/
def State.enterFault (s : State) (e : Nat) (f : Flt) (src : Nat) (i : BAddr) : State :=
  let was := (s.eng e).mode
  let s := s.setReg .CE_FAULT (BitVec.ofNat 64 (f.slot * 2 ^ 32 + i.toNat * 2 ^ 16 + src * 2 ^ 8 + f.cause)) e
  (s.modEng e Engine.toFault).engineIrq e was

/-- R69: bundle i and every later bundle are discarded: the stages up to k. -/
def Engine.discard (x : Engine) (k : Nat) : Engine :=
  { x with
    s1 := none
    s2 := if k < 2 then x.s2 else none
    s3 := if k < 3 then x.s3 else none
    s4 := if k < 4 then x.s4 else none
    s5 := if k < 5 then x.s5 else none
    s6 := if k < 6 then x.s6 else none
    fetching := false }

/-- A fault of these engines is already on record: one of them is in FAULT or the fault signal is on its way. -/
def State.faulting (s : State) (parts : List Nat) : Bool :=
  parts.any (fun e => (s.eng e).mode == .fault || (s.eng e).gangFault.isSome)

/-- R69, R73, R126: a fault in bundle i at stage k of the engines that step together. The faulting engines enter FAULT; the fault
signal is on its way to the others. Where the gang has issued no vector before bundle i (novec), all enter FAULT at once and the
balls take the safe state. A fault of an earlier bundle that a later step of the drain finds discards that bundle too, and the
record of the first fault stays (DESIGN CHOICE, log entry 60: R69 and R85 order the faults of one step only). -/
def State.faultAt (s : State) (parts : List Nat) (stream novec : Bool) (k : Nat) (i : BAddr) (fs : List (Nat × Flt)) :
    State :=
  let lead := parts.headD 0
  let old := s.faulting parts
  let s := s.forAll parts (fun acc e => acc.modEng e (fun x => x.discard (if novec then 6 else k)))
  if old then s
  else
    let src := (fs.map (·.1)).foldl min 255
    let s := if stream then s.fcuLapse lead else s
    let s := s.modEng lead (fun x => { x with gang := { x.gang with armed := false, startAt := none, woke := false } })
    let s := s.forAll parts (fun acc e =>
      match fs.find? (fun f => f.1 == e) with
      | some f => acc.enterFault e f.2 e i
      | none =>
        if novec then acc.enterFault e ⟨0x0B, 5⟩ src i
        else acc.modEng e (fun x => { x with gangFault := some (src, i) }))
    if novec then
      s.forAll parts (fun acc e =>
        (acc.forAll (enginePins e) (fun a p => a.takeSafe p)).modEng e (fun x => { x with draining := false }))
    else s

/-! ### One step -/

/-- The engine's stage k. -/
def Engine.stage (x : Engine) (k : Nat) : Option Stage :=
  match k with | 1 => x.s1 | 2 => x.s2 | 3 => x.s3 | 4 => x.s4 | 5 => x.s5 | _ => x.s6

/-- The pipeline is empty. -/
def Engine.pipeEmpty (x : Engine) : Bool :=
  x.s1.isNone && x.s2.isNone && x.s3.isNone && x.s4.isNone && x.s5.isNone && x.s6.isNone

/-- R39: a load holds the pipeline: the bundle in S3 reads a register whose load was issued at least 8 bundles earlier. -/
def Engine.loadWait (x : Engine) : Bool :=
  match x.s3 with
  | some t =>
    let rs := t.agen.reads ++ t.dgenOp.reads ++ t.macOp.consumes
    x.loads.any (fun l => l.age ≥ 7 && rs.contains l.reg.toNat)
  | none => false

/-- The fault of engine e at a stage. -/
def State.stageFault (s : State) (lead e : Nat) (stream : Bool) (k : Nat) : Option Flt :=
  let x := s.eng e
  match x.stage k with
  | none => none
  | some t =>
    match k with
    | 6 => s.s6Fault lead e stream t
    | 3 => s.s3Fault e x t
    | 2 => s.s2Fault e x stream (!stream || e == lead) t (x.s1.map (·.addr))
    | _ => none

/-- R85: the stage of the earliest bundle that faults in this step, and the engines it faults in. -/
def State.stepFault (s : State) (lead : Nat) (parts : List Nat) (stream : Bool) : Option (Nat × List (Nat × Flt)) :=
  [6, 3, 2].findSome? (fun k =>
    let fs := parts.filterMap (fun e => (s.stageFault lead e stream k).map (fun f => (e, f)))
    if fs = [] then none else some (k, fs))

/-- S3: a load issues to port A (R58). -/
def State.issueLoad (s : State) (e : Nat) (l : Option (BitVec 4 × Word32)) (age : Nat) : State :=
  match l with
  | none => s
  | some (n, a) =>
    match s.portARead e a.toNat 1 with
    | (some [r], t) =>
      t.modEng e (fun y =>
        { y with loads := y.loads ++ [{ reg := n, word := a.setWidth 17, data := r.1, poison := r.2, age := age }] })
    | (_, t) => t

/-- S6: the writes of a bundle in engine e: MAC, compares, store (R38, R58). -/
def State.workS6 (s : State) (e : Nat) (t : Stage) : State :=
  let s := s.modEng e (fun y => let y := y.applyMac t.mac; { y with flags := setFlags y.flags t.cmps })
  let s := if t.mac.sat then s.raise F.CE_STATUS_MACSAT e else s
  match t.store with
  | some (a, v, p) => (s.portAWrite e a.toNat v p).2
  | none => s

/-- S3: what a bundle reads from x, latched for its later stages. -/
def State.latchS3 (s : State) (e : Nat) (x : Engine) (t : Stage) : Stage × AgenEff :=
  let ag := s.agenEff e x t.agen
  let dg := dgenEff x ag.ao t.dgenOp
  let mc := macEff x t.macOp
  ({ t with
     aIn := (List.range 8).map x.ra, ao := ag.ao,
     store := ag.store.map (fun st => (st.1, x.rd st.2.toNat, x.rp st.2.toNat)),
     dgen := dg.1, mac := mc.1, cmps := ag.cmps ++ dg.2 ++ mc.2 }, ag)

/-- R80, R101: SAVEL writes the ten words of x from word index a of the slice of engine e. -/
def State.saveLoops (s : State) (e : Nat) (x : Engine) (a : Nat) : State :=
  s.portAWriteBlock e a ((List.range 10).map x.loopWord)

/-- R80, R101: RESTL of bundle i reads its ten words from word index a; the engine waits with them. -/
def State.noteRestl (s : State) (e : Nat) (i : BAddr) (a : Nat) : State :=
  let r := s.portAReadBlock e a 10
  r.2.modEng e (fun y => { y with restl := some { addr := i, base := a, words := r.1 } })

/-- What the bundle in S3 reads, latched, where x holds one. -/
def State.latched (s : State) (e : Nat) (x : Engine) : Option (Stage × AgenEff) := x.s3.map (fun t => s.latchS3 e x t)

/-- The work of stages 3 to 6 of one engine in a step, on its state x before the step; stages up to k do nothing. S3 reads, and
its load issues before the store of S6; S4 and S3 write after S6. -/
def State.stepWork (s : State) (e : Nat) (x : Engine) (k : Nat) : State :=
  let r3 := s.latched e x
  let s := match r3 with | some (_, ag) => if k < 3 then s.issueLoad e ag.load 0 else s | none => s
  let s := match x.s6 with | some t => if k < 6 then s.workS6 e t else s | none => s
  let s := match x.s4 with | some t => if k < 4 then s.modEng e (fun y => y.applyDgen t.dgen) else s | none => s
  match r3 with | some (_, ag) => if k < 3 then s.modEng e (fun y => y.applyAgen ag) else s | none => s

/-- R51: the loop-end check of the bundle that leaves S1, on the state x before the step: the counters and the next fetch
address, where the prefetch goes on unless it is the next bundle. -/
def State.stepLoopEnd (s : State) (e : Nat) (x : Engine) : State :=
  let chk := match x.s1 with | some t => x.loopEnd t.addr | none => (x.pc, x)
  let s := s.modEng e (fun y => { y with l := chk.2.l, ld := chk.2.ld, pc := chk.1 })
  let seq : BAddr := match x.s1 with | some t => t.addr + 1 | none => chk.1
  if chk.1 ≠ seq then s.modEng e (fun y => y.restartPrefetch chk.1) else s

/-- R87: the FLOW operation of bundle t at S2, on the state x before the step. lead: the engine fetches the program; go: no
bundle faults in this step. -/
def State.stepFlow (s : State) (e : Nat) (x : Engine) (stream lead go : Bool) (t : Stage) : State :=
  let s := match t.flow with
    | .clrf m => s.modEng e (fun y => { y with flags := clearFlags y.flags m })
    | .savel r => s.saveLoops e x (x.ra r.toNat).toNat
    | _ => s
  if stream ∧ !lead then s
  else
    let r := flowEff x (s.eng e) t.addr t.flow
    let s := s.setEng e r.1
    match r.2 with
    | some tgt => if go then s.modEng e (fun y => { y.restartPrefetch tgt with pc := tgt }) else s
    | none => s

/-- R38: every bundle moves on by one stage; those of stages up to k do not. r3: what S3's bundle read. -/
def State.stepMove (s : State) (e : Nat) (x : Engine) (r3 : Option (Stage × AgenEff)) (k : Nat) (move : Bool) : State :=
  let y := s.eng e
  s.setEng e
    { y with
      s6 := if k < 5 then x.s5 else none
      s5 := if k < 4 then x.s4.map (fun t => { t with dout := y.dout, doutP := y.doutP }) else none
      s4 := if k < 3 then r3.map (·.1) else none
      s3 := if k < 2 then x.s2 else none
      s2 := if k = 0 ∧ move then x.s1 else none
      s1 := if k = 0 ∧ !move then x.s1 else none
      restlDone := false
      syncDone := false }

/-- The work of stages 2 to 6 of one engine in a step, on its state x before the step; stages up to k do nothing. move:
S1's bundle moves to S2. In the step in which a SAVEL stands in S2, the load of S3 and the store of S6, of older bundles, come
before its writes (DESIGN CHOICE, log entry 60: R102 orders accesses by their issue and not those of one step). -/
def State.stepEngine (s : State) (e : Nat) (x : Engine) (stream lead : Bool) (k : Nat) (move : Bool) : State :=
  let s := s.modEng e (fun y => { y with loads := y.loads.map (fun l => { l with age := l.age + 1 }) })
  let r3 := s.latched e x
  let s := s.stepWork e x k
  let s := if move ∧ k = 0 ∧ (lead ∨ !stream) then s.stepLoopEnd e x else s
  let s := match x.s2 with | none => s | some t => if k ≥ 2 then s else s.stepFlow e x stream lead (decide (k = 0)) t
  s.stepMove e x r3 k move

/-- R476: an event of each engine is counted at its cluster. -/
def State.countEngines (s : State) (es : List Nat) (evt : Nat) : State :=
  s.forAll es (fun acc e => acc.pmonEvent (332 + e / 4) evt 0 1)

/-- R476: what S1's fetch counts: a wait, or a bundle taken from the bundle buffer. -/
def State.countFetch (s : State) (e : Nat) (r : FetchRes) (fetched hit : Bool) : State :=
  if !fetched then s
  else match r with
    | .wait => s.countEngines [e] 0x42
    | .ready => if hit then s.countEngines [e] 0x43 else s
    | .failed => s

/-- R38, R64, R68: the gang's vector leaves S6; a pause vector, or the FCU's request (force), pauses the gang unless it is
the program's last vector (R54). -/
def State.issueVector (s : State) (lead : Nat) (parts : List Nat) (xs : List (Nat × Engine)) (force old : Bool) : State :=
  match (s.eng lead).s6 with
  | none => s
  | some t =>
    let srcs := xs.filterMap (fun m => m.2.s6.map (fun st =>
      ({ eng := m.1, aIn := st.aIn, ao := st.ao, dout := st.dout, doutP := st.doutP } : MemberSrc)))
    let x := s.eng lead
    let last := (x.ending == .halt || x.ending == .enta) &&
      x.s1.isNone && x.s2.isNone && x.s3.isNone && x.s4.isNone && x.s5.isNone
    let pauses := (t.pin.mode == 1 || force) && !last && !old
    let asked := force && !((s.fcu (fcuOf lead).1).slot (fcuOf lead).2).reqs.isEmpty
    let s := (s.acceptVector lead t.pin srcs (asked && pauses)).countEngines parts 0x40
    if pauses then
      let s := if asked then s.fcuPauseTaken lead else s
      s.forAll parts (fun acc e => acc.modEng e (fun y => { y with mode := .paused }))
    else s

/-- S1 of a step (R46, R70): the engine that fetches takes the bundle it needs, and the others of the gang receive it. -/
def State.stepFetch (s : State) (parts : List Nat) : State × FetchRes :=
  let lead := parts.headD 0
  let x0 := s.eng lead
  let f := if x0.fetching && x0.s1.isNone then x0.fetchS1 else (x0, .ready)
  let s := (s.setEng lead f.1).countFetch lead f.2 (x0.fetching && x0.s1.isNone) (x0.resident x0.pc)
  (s.forAll (parts.drop 1) (fun acc e => acc.modEng e (fun y => { y with s1 := f.1.s1 })), f.2)

/-- R80: the RESTL in S2 of x0 waits for its words. -/
def State.restlHolds (s : State) (lead : Nat) (stream : Bool) (x0 : Engine) : Bool :=
  match x0.s2 with
  | some t => (match t.flow with | .restl _ => !x0.restlDone && (s.stageFault lead lead stream 2).isNone | _ => false)
  | none => false

/-- The fault that a step takes, its stage and engines: of a bundle, or of the fetch (R46, R69). -/
def State.stepFlt (s : State) (parts : List Nat) (stream : Bool) (res : FetchRes) : Option (Nat × List (Nat × Flt)) :=
  match s.stepFault (parts.headD 0) parts stream with
  | some r => some r
  | none =>
    match res with
    | .ready => none
    | .failed => some (1, [(parts.headD 0, ⟨9, 5⟩)])
    | .wait => some (1, [(parts.headD 0, ⟨6, 5⟩)])

/-- R74: a SYNC in S2 of the engine lead, outside a stream, that has not released holds the pipeline, unless it faults there. -/
def State.syncHolds (s : State) (lead : Nat) (stream : Bool) (x0 : Engine) : Bool :=
  match x0.s2 with
  | some t => !stream && t.flow == .sync && s.gangSize lead != 1 && !x0.syncDone && (s.stageFault lead lead stream 2).isNone
  | none => false

/-- What a step of the pipeline is (R38, R39, R72): of an engine alone; of a gang before the start time; the step in which a gang's
first vector leaves S6; of a running gang; and one in which the FCU's pause, or the watch unit's, takes effect. -/
inductive StepKind where
  | alone | prestart | first | run | forced
  deriving DecidableEq, Repr

/-- The step is a gang's, under stream rules. -/
def StepKind.stream (k : StepKind) : Bool := k != .alone

/-- The stages of a step of the engines parts, whose S1 is filled; x0: the fetching engine before the step. A fault at S3 before
the start time is treated as one at S1 or S2 (DEDUCED, log entry 60: R69 names S1 and S2; no vector has been issued). -/
def State.stepStages (s : State) (parts : List Nat) (kind : StepKind) (x0 : Engine) (res : FetchRes) : State :=
  let lead := parts.headD 0
  let stream := kind.stream
  let old := s.faulting parts
  let flt := s.stepFlt parts stream res
  let k := match flt with | some r => r.1 | none => 0
  let i : BAddr := match (s.eng lead).stage k with | some t => t.addr | none => x0.pc
  let xs := parts.map (fun e => (e, s.eng e))
  let reti := match x0.s2 with | some t => t.flow == .reti | none => false
  let s := s.countEngines parts 0x41
  let s := if stream && kind != .prestart && k < 6 then s.issueVector lead parts xs (kind == .forced) old else s
  let s := xs.foldl (fun acc m => acc.stepEngine m.1 m.2 stream (m.1 == lead) k (!reti)) s
  let s := if reti && k < 2 then s.modEng lead (fun y => { y with s1 := none }) else s
  match flt with
  | some r => s.faultAt parts stream (kind == .prestart || (kind == .first && k == 6)) 0 i r.2
  | none => s

/-- R80, R101: the RESTL in S2 of engine e begins to read its words, once: before the load of S3 and the store of S6, which issue in the
step after the hold (DEDUCED, log entry 60: R102's issue order). -/
def State.holdRestl (s : State) (e : Nat) : State :=
  let x := s.eng e
  match x.restl, x.s2 with
  | none, some t => match t.flow with
    | .restl k => s.noteRestl e t.addr (x.ra k.toNat).toNat
    | _ => s
  | _, _ => s

/-- R74: engine e reaches a SYNC and waits. -/
def State.holdSync (s : State) (e : Nat) : State := s.modEng e (fun y => { y with arrived := true, mode := .sync })

/-- R38, R39, R70: one step of the engines parts (a gang in lockstep, or one engine alone), whose fetching engine is the
first of them. A RESTL hold, a SYNC wait, a fetch wait and a load wait are no steps. -/
def State.stepParts (s : State) (parts : List Nat) (kind : StepKind) : State :=
  let lead := parts.headD 0
  let stream := kind.stream
  let x0 := s.eng lead
  let f := s.stepFetch parts
  if f.1.restlHolds lead stream x0 then f.1.holdRestl lead
  else if f.1.syncHolds lead stream x0 then f.1.holdSync lead
  else if !stream && f.2 == .wait then f.1
  else if !stream && x0.loadWait then f.1
  else f.1.stepStages parts kind x0 f.2

/-- R78: a handler's return completes: every bundle has left the pipeline and every load has written. -/
def State.settleReti (s : State) (e : Nat) : State :=
  let x := s.eng e
  if x.ending = .reti ∧ x.pipeEmpty ∧ x.loads = [] ∧ x.mode = .analysis then
    let ipc : BAddr := BitVec.ofNat 16 (s.fld F.CE_INT_IPC e)
    let fl : Byte := BitVec.ofNat 8 (s.fld F.CE_INT_IFLAGS e)
    (s.modEng e (fun y => { y.restartPrefetch ipc with flags := fl, pc := ipc, fetching := true, ending := .none })).setFld
      F.CE_INT_IE 1 e
  else s

/-- A load's data reaches its register (R41, R61). -/
def Engine.takeLoad (x : Engine) : Engine :=
  match x.loads with
  | [] => x
  | l :: t => { x.setD l.reg.toNat l.data l.poison with loads := t }

/-- The oldest load may write: 8 steps after its issue, or when no bundle can still read ahead of it (R41). -/
def Engine.loadDue (x : Engine) : Bool :=
  match x.loads with
  | [] => false
  | l :: _ => l.age ≥ 7 || (x.s1.isNone && x.s2.isNone && x.s3.isNone && !x.fetching)

end Sys2Proof.Machine
end

