-- ==== Sys2Proof/Machine/EngineCmd.lean ====
section
/-!
DEFINITION. The commands of the comet engines (chapters 02 and 03): CE_CTRL (R71, R81), starts (R22 to R25, R72), the
pipeline's events, interrupts (R76 to R78), the engine local space (R82), one operation of a slot at a time, and vectors
(R64, R99).
-/
namespace Sys2Proof.Machine

open Sys2Proof

/-! ### Gangs and modes -/

/-- The engines that step together with engine e: itself alone, or its gang, the leader first (R70, R75). -/
def State.partsOf (s : State) (e : Nat) : List Nat := if (s.eng e).alone then [e] else s.members (s.leader e)

/-- R71: the engine belongs to a gang that is armed or paused. -/
def State.gangHeld (s : State) (e : Nat) : Bool :=
  let l := s.eng (s.leader e)
  (s.members (s.leader e)).contains e && (l.gang.armed || l.mode == .paused)

/-- R66: the number CE_STATUS.MODE shows. -/
def EMode.code : EMode → Nat
  | .idle => 0 | .stream => 1 | .paused => 2 | .analysis => 3 | .sync => 4 | .fault => 5

/-- R71, R81: CE_STATUS of engine e as it reads. -/
def State.ceStatus (s : State) (e : Nat) : Word :=
  let x := s.eng e
  let armed := s.leader e == e && (x.gang.armed || x.mode == .paused)
  putFld F.CE_STATUS_ARMED (bit armed) (putFld F.CE_STATUS_MODE x.mode.code (s.reg .CE_STATUS e))

/-- An engine enters ANALYSIS at CE_PC.APC (R54, R67): depths 0, buffer invalid. -/
def State.enterAnalysis (s : State) (e : Nat) : State :=
  let apc : BAddr := BitVec.ofNat 16 (s.fld F.CE_PC_APC e)
  s.modEng e (fun x =>
    { x.beginFetch apc with mode := .analysis, leftIdle := true, ld := 0, cd := 0, alone := true, arrived := false, syncDone := false })

/-- FAULT to IDLE (R67): CE_FAULT cleared, the balls in the end-of-pattern state where a stream run has ended (R124). -/
def State.clearNow (s : State) (e : Nat) : State :=
  let s := (s.setReg .CE_FAULT 0 e).modEng e (fun x => { x with mode := .idle, alone := false, clearPend := false })
  s.forAll (enginePins e) (fun acc p => if (acc.chan p).streamed then acc.takeEop p else acc)

/-- R81: CE_CTRL.BBINV. -/
def State.ceBbinv (s : State) (e : Nat) : State :=
  if (s.eng e).mode = .idle ∧ !(s.gangHeld e) then s.modEng e Engine.dropBuffer else s.raise F.CE_STATUS_CTLERR e

/-- R69, R81: CE_CTRL.CLEAR. -/
def State.ceClear (s : State) (e : Nat) : State :=
  if (s.eng e).mode = .fault then
    if (s.eng e).draining then s.modEng e (fun x => { x with clearPend := true }) else s.clearNow e
  else s.raise F.CE_STATUS_CTLERR e

/-- R69: the bundle that an ABORT in running engines takes as the faulting one: S2's, or the next to enter S2. -/
def Engine.abortAddr (x : Engine) : BAddr :=
  match x.s2 with
  | some t => t.addr
  | none => match x.s1 with | some t => t.addr | none => x.pc

/-- R69: the bundle behind the pause vector. -/
def Engine.pausedAddr (x : Engine) : BAddr :=
  match [x.s6, x.s5, x.s4, x.s3, x.s2, x.s1].findSome? id with
  | some t => t.addr
  | none => x.pc

/-- R69, R81: CE_CTRL.ABORT. -/
def State.ceAbort (s : State) (e : Nat) : State :=
  let parts := s.partsOf e
  let f : List (Nat × Flt) := [(e, ⟨0x0C, 5⟩)]
  match (s.eng e).mode with
  | .idle => s.raise F.CE_STATUS_CTLERR e
  | .fault => s
  | .stream => s.faultAt parts true false 2 (s.eng (parts.headD 0)).abortAddr f
  | .paused => s.faultAt parts true false 6 (s.eng (parts.headD 0)).pausedAddr f
  | _ => s.faultAt parts false false 2 (s.eng e).abortAddr f

/-- R67, R71: CE_CTRL.ANALYZE. -/
def State.ceAnalyze (s : State) (e : Nat) : State :=
  if (s.eng e).mode = .idle ∧ !(s.gangHeld e) then s.enterAnalysis e else s.raise F.CE_STATUS_CTLERR e

/-- Change what the leader holds of its gang. -/
def State.modGang (s : State) (e : Nat) (f : Gang → Gang) : State := s.modEng e (fun x => { x with gang := f x.gang })

/-- R71: CE_CTRL.DISARM. -/
def State.ceDisarm (s : State) (e : Nat) : State :=
  let x := s.eng e
  if s.leader e ≠ e ∨ x.mode = .stream ∨ x.mode = .paused ∨ x.gang.woke then s.raise F.CE_STATUS_CTLERR e
  else s.modGang e (fun g => { g with armed := false, startAt := none })

/-- R71: CE_CTRL.ARM. -/
def State.ceArm (s : State) (e : Nat) : State :=
  if s.leader e ≠ e then s.raise F.CE_STATUS_CTLERR e
  else if (s.eng e).gang.armed then s
  else if (s.members e).all (fun m => (s.eng m).mode == .idle && s.fld F.CE_GANG_SIZE m == s.fld F.CE_GANG_SIZE e)
  then s.modGang e (fun g => { g with armed := true, startAt := none, woke := false })
  else s.raise F.CE_STATUS_ARMERR e

/-- R81: a write of CE_CTRL: exactly one command, else CTLERR; a write of no command changes nothing. -/
def State.writeCeCtrl (s : State) (e : Nat) (v : Word) : State :=
  match (v.extractLsb' 2 6).toNat with
  | 0 => s
  | 0x20 => s.ceBbinv e
  | 0x10 => s.ceClear e
  | 0x08 => s.ceAbort e
  | 0x04 => s.ceAnalyze e
  | 0x02 => s.ceDisarm e
  | 0x01 => s.ceArm e
  | _ => s.raise F.CE_STATUS_CTLERR e

/-- R81: the shadow values of engine e are inconsistent. -/
def State.ceInconsistent (s : State) (e : Nat) : Bool :=
  let xen := s.sfld F.CE_SCRCFG_XEN e == 1
  let yen := s.sfld F.CE_SCRCFG_YEN e == 1
  let xg := s.sfld F.CE_SCRCFG_XG e
  let yg := s.sfld F.CE_SCRCFG_YG e
  s.sfld F.CE_GANG_SIZE e ≥ 5 || (xen && xg ≥ 5) || (yen && yg ≥ 5) || (xen && yen && xg == yg) ||
    (List.range 4).any (fun k => s.sfld F.CE_SRC_SEL e k == 0 && s.sfld F.CE_SRC_IDX e k > 31)

/-- R81: CE_COMMIT.GO. -/
def State.ceCommit (s : State) (e : Nat) : State :=
  if !(s.engineQuiet e) || s.gangHeld e || s.ceInconsistent e then s.raise F.CE_STATUS_CFGERR e else s.commitBlock .CE e

/-! ### Starts -/

/-- R22 to R24, R68, R82, R123: a start command for engine e with start time t, in root periods, from a master. -/
def State.startCommand (s : State) (mid e : Nat) (t : Word) : State :=
  let x := s.eng e
  let rt := roundUp 4 t.toNat
  let late := s.now + 128 > rt
  let noted (taken : Bool) (g : Gang) : Gang :=
    { g with cmdMid := some mid, cmdTaken := taken, cmdLate := s.flag F.CE_STATUS_LATE e }
  if s.leader e ≠ e then s.raise F.CE_STATUS_UNARMED e
  else if x.mode = .paused ∧ x.gang.resumeAt = none then
    if late ∨ 512 * rt + vecLatency < x.gang.pausedEnd then (s.raise F.CE_STATUS_LATE e).modGang e (noted false)
    else s.modGang e (fun g => { noted true g with resumeAt := some rt })
  else if x.gang.armed ∧ x.gang.startAt = none then
    if late then (s.raise F.CE_STATUS_LATE e).modGang e (noted false)
    else s.modGang e (fun g => { noted true g with startAt := some rt })
  else (s.raise F.CE_STATUS_UNARMED e).modGang e (fun g => { g with cmdMid := none })

/-- R25: the START doorbell. same: the command reaches the leader in the engine cycle of the last one that the leader acted
on; of the two, the leader acts on that of the lower master ID, and the other finds a gang that is not armed. -/
def State.startDoorbell (s : State) (mid e : Nat) (t : Word) (same : Bool) : State :=
  match (s.eng e).gang.cmdMid with
  | some m =>
    if same ∧ s.leader e = e then
      if mid < m then
        let g := (s.eng e).gang
        let s := if g.cmdTaken then s.modGang e (fun g => { g with startAt := none, resumeAt := none })
          else s.setFld F.CE_STATUS_LATE (bit g.cmdLate) e
        (s.startCommand mid e t).raise F.CE_STATUS_UNARMED e
      else s.raise F.CE_STATUS_UNARMED e
    else s.startCommand mid e t
  | none => s.startCommand mid e t

/-- R72: 24 engine cycles before the start time the leader wakes its members and prefetch begins at CE_PC.SPC. -/
def State.gangWake (s : State) (e : Nat) : State :=
  match (s.eng e).gang.startAt with
  | some t =>
    if (s.eng e).gang.armed ∧ !(s.eng e).gang.woke ∧ s.leader e = e then
      let s := s.forAll (s.members e) (fun acc m =>
        acc.modEng m (fun x => { x.dropBuffer with s1 := none, s2 := none, s3 := none, s4 := none, s5 := none, s6 := none }))
      let spc : BAddr := BitVec.ofNat 16 (s.fld F.CE_PC_SPC e)
      ((s.modEng e (fun x => x.beginFetch spc)).modGang e (fun g => { g with woke := true })).atTime (t - 96)
    else s
  | none => s

/-- R67, R72, R105, R139, R148: the gang's first vector leaves S6; or a paused gang resumes (R123), and a pause request that was
held takes effect in that step. -/
def State.gangStart (s : State) (e : Nat) : State :=
  let g := (s.eng e).gang
  let ms := s.members e
  match g.startAt, g.resumeAt with
  | some t, _ =>
    if g.armed ∧ g.woke ∧ (s.eng e).mode = .idle ∧ (s.eng e).s6.isSome then
      let s := s.forAll (s.gangClusters e) (fun acc c => acc.latchGangs c)
      let s := s.forAll ms (fun acc m => acc.modEng m (fun x => { x with mode := .stream, leftIdle := true, alone := false }))
      let s := s.modGang e (fun g =>
        { g with armed := false, startAt := none, woke := false, vidx := 0, run := g.run + 1,
                 firstRun := g.run + 1, nextV := 512 * t + vecLatency })
      ((s.fcuStart e).atTime t).stepParts ms .first
    else s
  | none, some t =>
    if (s.eng e).mode = .paused then
      let s := s.forAll ms (fun acc m => acc.modEng m (fun x => { x with mode := .stream }))
      let s := s.modGang e (fun g => { g with resumeAt := none, run := g.run + 1, nextV := 512 * t + vecLatency })
      let held := ((s.fcu (fcuOf e).1).slot (fcuOf e).2).held
      ((s.fcuResume e).atTime t).stepParts ms (if held = [] then .run else .forced)
    else s
  | none, none => s

/-! ### Events of the pipeline -/

/-- R39: the engine's pipeline advances by one step; in a gang running a stream, offered to its leader. While the engine waits at
SYNC there is no step. -/
def State.pipelineStep (s : State) (e : Nat) : State :=
  let x := s.eng e
  if x.alone then
    if x.mode = .analysis ∨ (x.mode = .fault ∧ x.draining)
    then (s.stepParts [e] .alone).settleReti e else s
  else if s.leader e ≠ e then s
  else if x.mode = .stream ∨ (x.mode = .fault ∧ x.draining) then s.stepParts (s.members e) .run
  else if x.mode = .idle ∧ x.gang.woke ∧ x.s6.isNone then s.stepParts (s.members e) .prestart
  else s

/-- R43, R44, R46: a prefetch read returns: one or two bundles, or a failed entry. In a paused gang fetch is frozen (R66). -/
def State.prefetchReturn (s : State) (e : Nat) : State :=
  let x := s.eng e
  match x.pqNext with
  | none => s
  | some a =>
    let two := a.toNat % 2 = 0
    let n := if two then 2 else 1
    if !x.fetching ∨ x.mode = .paused ∨ x.pq.length + n > 16 then s
    else
      let r := s.portARead e (2 * a.toNat) (2 * n)
      let entry (k : Nat) : PqEntry :=
        match r.1 with
        | none => { addr := a + BitVec.ofNat 16 k, ok := false }
        | some ws =>
          let lo := ws.getD (2 * k) (0, false)
          let hi := ws.getD (2 * k + 1) (0, false)
          { addr := a + BitVec.ofNat 16 k, bits := hi.1 ++ lo.1, poison := bitv hi.2 ++ bitv lo.2 }
      r.2.modEng e (fun y =>
        { y with pq := y.pq ++ (List.range n).map entry, pqNext := some (a + BitVec.ofNat 16 n) })

/-- R41, R61: the data of the engine's oldest load reaches its register. -/
def State.loadReturn (s : State) (e : Nat) : State :=
  if (s.eng e).loadDue then (s.modEng e Engine.takeLoad).settleReti e else s

/-- R73: the gang's fault signal reaches engine e. -/
def State.gangFaultArrives (s : State) (e : Nat) : State :=
  match (s.eng e).gangFault with
  | some (src, i) => s.enterFault e ⟨0x0B, 5⟩ src i
  | none => s

/-- R69, R126: the safe state takes effect and the drain ends. -/
def State.safeState (s : State) (e : Nat) : State :=
  let parts := s.partsOf e
  if parts.all (fun m => (s.eng m).mode == .fault && (s.eng m).draining && (s.eng m).pipeEmpty &&
      (enginePins m).all (fun p => (s.chan p).quiet)) then
    s.forAll parts (fun acc m =>
      let acc := acc.forAll (enginePins m) (fun a p => a.takeSafe p)
      let acc := acc.modEng m (fun x => { x with draining := false })
      if (acc.eng m).clearPend then acc.clearNow m else acc)
  else s

/-- R125: the instant of the end-of-pattern state of the run of the gang that engine e leads: the first tick after the end of
its last vector's period and after its last event. -/
def State.eopInstant (s : State) (e : Nat) : Nat :=
  (s.gangPins e).foldl (fun t p => max t (s.chan p).lastEvent) (s.eng e).gang.pausedEnd + 1

/-- R54, R67: the program ends: the pipeline is empty behind HALT or ENTA. -/
def State.programEnd (s : State) (e : Nat) : State :=
  let x := s.eng e
  if x.alone then
    if x.ending = .halt ∧ x.pipeEmpty ∧ (x.mode = .analysis ∨ x.mode = .sync) then
      (s.modEng e (fun y => { y with mode := .idle, alone := false, ending := .none, arrived := false })).pendIrq (512 + e)
    else s
  else if s.leader e = e ∧ x.mode = .stream ∧ x.pipeEmpty ∧ !(s.faulting (s.members e)) then
    let s' := (s.fcuLapse e).modGang e (fun g => { g with eopAt := some (s.eopInstant e) })
    match x.ending with
    | .halt => s'.forAll (s.members e) (fun acc m =>
        (acc.modEng m (fun y => { y with mode := .idle, ending := .none })).pendIrq (512 + m))
    | .enta => s'.forAll (s.members e) (fun acc m => acc.enterAnalysis m)
    | _ => s
  else s

/-- R104, R124: channel p takes the end-of-pattern state of a run that has ended: not before the first run after OE := 1, and not
while its engine is in FAULT. -/
def State.eopReaches (s : State) (p : Nat) : Bool := (s.chan p).streamed && (s.eng (p / 4)).mode != .fault

/-- R125: the end-of-pattern state takes effect at every pin of the gang, when every event before its instant has taken place. -/
def State.endOfPattern (s : State) (e : Nat) : State :=
  match (s.eng e).gang.eopAt with
  | some t =>
    if (s.gangPins e).all (fun p => (s.chan p).nothingBefore t) then
      ((s.forAll ((s.gangPins e).filter s.eopReaches) (fun acc p => acc.takeEop p)).modGang e (fun g => { g with eopAt := none })).atTime (t / 512)
    else s
  | none => s

/-- R74: the engines of the gang that engine e belongs to by its committed size, those that have left the gang by another size not
among them. -/
def State.gangOf (s : State) (e : Nat) : List Nat :=
  ((List.range (s.gangSize e)).map (s.leader e + ·)).filter (fun m => s.gangSize m == s.gangSize e)

/-- R74: the barrier releases: every member of engine e's gang that is still in ANALYSIS has reached a SYNC. -/
def State.syncRelease (s : State) (e : Nat) : State :=
  let ms := (s.gangOf e).filter (fun m => (s.eng m).mode == .analysis || (s.eng m).mode == .sync)
  if ms.all (fun m => (s.eng m).arrived) then
    s.forAll ms (fun acc m => acc.modEng m (fun x =>
      { x with arrived := false, mode := if x.mode = .sync then .analysis else x.mode,
               syncDone := x.mode == .sync || x.syncDone }))
  else s

/-! ### Interrupts -/

/-- R76: the lowest-numbered pending request. -/
def State.lowestIrq (s : State) (e : Nat) : Option Nat :=
  let p := s.fld F.CE_INT_PEND e
  (List.range 8).find? (fun k => p.testBit k)

/-- R76: the conditions under which a request is accepted. -/
def State.irqAcceptable (s : State) (e : Nat) : Bool :=
  let x := s.eng e
  let s2ok := match x.s2 with | some t => !t.flow.isControl | none => true
  s.flag F.CE_INT_IE e && x.ending == .none &&
    (x.mode == .sync || (x.mode == .analysis && s2ok && x.fetchReady && !x.loadWait && x.restl.isNone))

/-- Loads that are due write their registers. -/
def Engine.takeDue : Nat → Engine → Engine
  | 0, x => x
  | n + 1, x => if x.loadDue then Engine.takeDue n x.takeLoad else x

/-- R77: the interrupted bundles leave the pipeline, step by step. -/
def State.drainAlone : Nat → Nat → State → State
  | 0, _, s => s
  | n + 1, e, s =>
    if (s.eng e).pipeEmpty then s
    else State.drainAlone n e
      ((s.modEng e (fun x => Engine.takeDue x.loads.length x)).stepParts [e] .alone)

/-- R77: the hardware saves the address of j, the flags and the request, and fetches the handler. -/
def State.enterHandler (s : State) (e k : Nat) (j : BAddr) : State :=
  let fl := (s.eng e).flags
  let s := s.setFld F.CE_INT_IPC j.toNat e
  let s := s.setFld F.CE_INT_IFLAGS fl.toNat e
  let s := s.setFld F.CE_INT_ICAUSE k e
  let s := s.setFld F.CE_INT_IE 0 e
  let s := s.setFld F.CE_INT_PEND (s.fld F.CE_INT_PEND e - 2 ^ k) e
  let h : BAddr := BitVec.ofNat 16 (s.fld F.CE_PC_IVEC e + 8 * k)
  s.modEng e (fun x => { x.restartPrefetch h with pc := h, fetching := true })

/-- R76, R77: an interrupt request is accepted and the handler entered. The arrival at a SYNC in S2 stands, and its bundle drains. -/
def State.interruptEntry (s : State) (e : Nat) : State :=
  match s.lowestIrq e with
  | some k =>
    if s.irqAcceptable e then
      let x := s.eng e
      let j := match x.s1 with | some t => t.addr | none => x.pc
      let sync := match x.s2 with | some t => t.flow == .sync && s.gangSize e != 1 && !x.syncDone | none => false
      let s := s.modEng e (fun x =>
        { x with s1 := none, fetching := false, pq := [], mode := .analysis, arrived := x.arrived || sync, syncDone := true })
      let s := State.drainAlone 6 e s
      if (s.eng e).mode = .fault then s
      else (s.modEng e (fun x => x.loads.foldl (fun acc _ => acc.takeLoad) x)).enterHandler e k j
    else s
  | none => s

/-- R76: the IRQ doorbell. -/
def State.irqDoorbell (s : State) (e : Nat) (bits : Byte) : State :=
  s.setFld F.CE_INT_PEND ((BitVec.ofNat 8 (s.fld F.CE_INT_PEND e)) ||| bits).toNat e

/-! ### SAVEL and RESTL -/

/-- R80: the words of RESTL have arrived: they are checked, and the state is written, or the RESTL bundle faults. -/
def State.restoreLoops (s : State) (e : Nat) (r : RestlWait) : State :=
  let fault (c : Nat) : State := s.faultAt (s.partsOf e) ((s.eng e).mode == .stream) false 2 r.addr [(e, ⟨c, 0⟩)]
  match r.words with
  | none => fault 9
  | some ws =>
    if ws.any (·.2) then fault 7
    else
      match badDepth (ws.getD 9 (0, false)).1 with
      | some c => fault c
      | none =>
        s.modEng e (fun x =>
          (List.range 10).foldl (fun acc w => acc.setLoopWord w (ws.getD w (0, false)).1) { x with s1 := none })

/-- R80, R85, R101: RESTL_COMPLETE of engine e: RESTL leaves S2 at this step, unless a load wait holds the pipeline. Where an older
bundle, in S3 or S6, faults in the same step, that fault is the one that the next PIPELINE_STEP takes, and RESTL's bundle is
discarded with nothing written. -/
def State.restlComplete (s : State) (e : Nat) : State :=
  match (s.eng e).restl with
  | some r =>
    if (s.eng e).loadWait then s
    else
      let t := s.modEng e (fun x => { x with restl := none, restlDone := true })
      if (s.stageFault e e false 6).isSome ∨ (s.stageFault e e false 3).isSome then t else t.restoreLoops e r
  | none => s

/-! ### Engine local space (R82) -/

/-- R82: a read of a word of the local space of engine e. -/
def State.localRead (s : State) (e off : Nat) : WordReply :=
  let x := s.eng e
  let w (v : Word) : WordReply := { data := v }
  if off < 0x2000 then
    let b := x.buf.get (off / 16) {}
    let hi := off / 8 % 2
    if !b.valid then { status := .epoison }
    else { data := b.bits.extractLsb' (64 * hi) 64, poison := b.poison.getLsbD hi,
           status := if b.poison = 0 then .ok else .epoison }
  else if off < 0x3000 then
    let b := x.buf.get ((off - 0x2000) / 8) {}
    w (BitVec.ofNat 64 (b.tag.toNat + bit b.valid * 2 ^ 63))
  else if off < 0x3040 then w ((x.ra ((off - 0x3000) / 8)).setWidth 64)
  else if off < 0x3080 then w ((x.ro ((off - 0x3040) / 8)).setWidth 64)
  else if off < 0x30C0 then w ((x.rm ((off - 0x3080) / 8)).setWidth 64)
  else if off < 0x3140 then
    let k := (off - 0x30C0) / 8
    { data := x.rd k, poison := x.rp k, status := if x.rp k then .epoison else .ok }
  else if off < 0x3160 then w ((x.racc ((off - 0x3140) / 8)).setWidth 64)
  else if off < 0x3180 then w ((x.rg ((off - 0x3160) / 8)).setWidth 64)
  else if off < 0x31A0 then w (x.rpw ((off - 0x3180) / 8))
  else if off < 0x31F0 then w (x.loopWord ((off - 0x31A0) / 8))
  else if off = 0x31F0 then w (BitVec.ofNat 64 (x.pc.toNat + x.flags.toNat * 2 ^ 16))
  else if off = 0x31F8 then w (x.ao.setWidth 64)
  else if off = 0x3200 then { data := x.dout, poison := x.doutP, status := if x.doutP then .epoison else .ok }
  else if off = 0x8000 ∨ off = 0x8008 then w 0
  else { status := .eaddr }

/-- R82: a write of a word of the state window, the engine being in IDLE or FAULT. -/
def Engine.writeLocal (x : Engine) (off : Nat) (v : Word) (p : Bool) : Engine :=
  if off < 0x3040 then x.setA ((off - 0x3000) / 8) (v.setWidth 32)
  else if off < 0x3080 then x.setO ((off - 0x3040) / 8) (v.setWidth 32)
  else if off < 0x30C0 then x.setM ((off - 0x3080) / 8) (v.setWidth 32)
  else if off < 0x3140 then x.setD ((off - 0x30C0) / 8) v p
  else if off < 0x3160 then x.setAcc ((off - 0x3140) / 8) (v.setWidth 48)
  else if off < 0x3180 then x.setG ((off - 0x3160) / 8) v
  else if off < 0x31A0 then x.setPw ((off - 0x3180) / 8) v
  else if off < 0x31F0 then x.setLoopWord ((off - 0x31A0) / 8) v
  else if off = 0x31F0 then { x with pc := v.extractLsb' 0 16, flags := v.extractLsb' 16 8 }
  else if off = 0x31F8 then { x with ao := v.setWidth 32 }
  else { x with dout := v, doutP := p }

/-- R82: dk and DO hold a poison bit. -/
def holdsPoison (off : Nat) : Bool := (0x30C0 ≤ off && off < 0x3140) || off == 0x3200

/-- R82, R388, R493: a write of a word of the local space of engine e by a master. same: in the engine cycle of the last one. A
poisoned word to the state window of an engine that is not in IDLE or FAULT is answered EDENY (DESIGN CHOICE, log entry 60: R82
gives EDENY and EPOISON without an order). -/
def State.localWrite (s : State) (mid e off : Nat) (v : Word) (p : Bool) (same : Bool := false) : Status × State :=
  if off < 0x3000 then (if p then .epoison else .ok, s)
  else if off ≤ 0x3200 then
    if !(s.engineQuiet e) then (.edeny, s)
    else if p ∧ !(holdsPoison off) then (.epoison, s)
    else if off = 0x31E8 ∧ (badDepth v).isSome then (.ok, s.raise F.CE_STATUS_CTLERR e)
    else (.ok, s.modEng e (fun x => x.writeLocal off v p))
  else if off = 0x8000 then if p then (.epoison, s) else (.ok, s.startDoorbell mid e v same)
  else if off = 0x8008 then if p then (.epoison, s) else (.ok, s.irqDoorbell e (v.setWidth 8))
  else (.eaddr, s)

/-! ### One operation at a time -/

/-- An engine that executes bundles now: a running stream, or ANALYSIS. -/
def State.running (s : State) (e : Nat) : Bool := (s.eng e).mode == .stream || (s.eng e).mode == .analysis

/-- The engine runs a stream. -/
def State.streaming (s : State) (e : Nat) : Bool := (s.eng e).mode == .stream

/-- R69: a fault of bundle i at stage k in engine e. -/
def State.opFault (s : State) (e k : Nat) (i : BAddr) (cause slot : Nat) : State :=
  s.faultAt (s.partsOf e) (s.streaming e) false k i [(e, ⟨cause, slot⟩)]

/-- R87: the FLOW operation of bundle i executes in engine e (its delay slot is the bundle in S1, which goes on). -/
def State.opFlow (s : State) (e : Nat) (i : BAddr) (op : FlowOp) : State :=
  let x := s.eng e
  let stream := s.streaming e
  let lead := !stream || s.leader e == e
  let t : Stage := { addr := i, bits := encodeBundle op .nop .nop .nop ⟨0, 0, 0⟩ }
  if !(s.running e) then s
  else match s.s2Fault e x stream lead t (some (i + 1)) with
  | some f => s.opFault e 2 i f.cause f.slot
  | none =>
    match op with
    | .clrf m =>
      s.forAll (if stream && lead then s.members e else [e]) (fun acc k =>
        acc.modEng k (fun y => { y with flags := clearFlags y.flags m }))
    | .savel r => s.saveLoops e x (x.ra r.toNat).toNat
    | .restl r => s.noteRestl e i (x.ra r.toNat).toNat
    | .sync =>
      if stream ∨ s.gangSize e = 1 then s else s.holdSync e
    | .reti => ((s.setEng e (flowEff x x i op).1).modEng e (fun y => { y with s1 := none })).settleReti e
    | _ =>
      if !lead then s
      else
        let r := flowEff x x i op
        (s.setEng e
          (match r.2 with | some tgt => { r.1.restartPrefetch tgt with pc := tgt } | none => r.1)).settleReti e

/-- R91: the AGEN operation of bundle i executes in engine e, a load's data still to return and a store done. -/
def State.opAgen (s : State) (e : Nat) (i : BAddr) (op : AgenOp) : State :=
  let x := s.eng e
  let ef := s.agenEff e x op
  if !(s.running e) then s
  else if !op.ok then s.opFault e 2 i 2 1
  else if s.streaming e ∧ (ef.load.isSome ∨ ef.store.isSome) then s.opFault e 2 i 8 1
  else if op.consumes.any x.rp then s.opFault e 3 i 7 1
  else
    let s1 := s.modEng e (fun y => let y := y.applyAgen ef; { y with flags := setFlags y.flags ef.cmps })
    match ef.load, ef.store with
    | some (n, a), _ => if s.memBad e a then s.opFault e 3 i 9 1 else s1.issueLoad e (some (n, a)) 7
    | none, some (a, n) =>
      if s.memBad e a then s.opFault e 6 i 9 1 else (s1.portAWrite e a.toNat (x.rd n.toNat) (x.rp n.toNat)).2
    | none, none => s1

/-- R94: the DGEN operation of bundle i executes in engine e. -/
def State.opDgen (s : State) (e : Nat) (i : BAddr) (op : DgenOp) : State :=
  let x := s.eng e
  let ef := dgenEff x x.ao op
  if !(s.running e) then s
  else if !op.ok then s.opFault e 2 i 2 2
  else if op.consumes.any x.rp then s.opFault e 3 i 7 2
  else s.modEng e (fun y => let y := y.applyDgen ef.1; { y with flags := setFlags y.flags ef.2 })

/-- R97: the MAC operation of bundle i executes in engine e. -/
def State.opMac (s : State) (e : Nat) (i : BAddr) (op : MacOp) : State :=
  let x := s.eng e
  let ef := macEff x op
  if !(s.running e) then s
  else if !op.ok then s.opFault e 2 i 2 3
  else if op.consumes.any x.rp then s.opFault e 3 i 7 3
  else
    let s := s.modEng e (fun y => let y := y.applyMac ef.1; { y with flags := setFlags y.flags ef.2 })
    if ef.1.sat then s.raise F.CE_STATUS_MACSAT e else s

/-- R64, R99: the gang that engine e leads issues a vector formed of its members' AO and DO, or faults (R65, R112). -/
def State.opVector (s : State) (e : Nat) (i : BAddr) (op : PinOp) : State :=
  let ms := s.members e
  if s.leader e ≠ e ∨ !(s.streaming e) then s
  else
    let srcs := ms.map (fun m =>
      let x := s.eng m
      ({ eng := m, aIn := (List.range 8).map x.ra, ao := x.ao, dout := x.dout, doutP := x.doutP } : MemberSrc))
    let fs := srcs.filterMap (fun m =>
      (firstFlt [(s.poisonedSource m op, 7, 4), (badPinCode op, 1, 4), (s.vectorRefused e m.eng op, 10, 4)]).map
        (fun f => (m.eng, f)))
    if fs ≠ [] then s.faultAt ms true false 6 i fs
    else
      let s := s.acceptVector e op srcs false
      if op.mode = 1 then s.forAll ms (fun acc m => acc.modEng m (fun y => { y with mode := .paused })) else s

/-- R68, R148: the pause that the FCU requested takes effect as the vector leaves S6. -/
def State.fcuPause (s : State) (e : Nat) : State :=
  let x := s.eng e
  let (c, i) := fcuOf e
  if s.leader e = e ∧ x.mode = .stream ∧ !x.alone ∧ x.s6.isSome ∧ ((s.fcu c).slot i).reqs ≠ [] ∧
      !(s.faulting (s.members e)) then
    s.stepParts (s.members e) .forced
  else s

/-- R49: the FCU's sets of f6 and f7 take effect in engine e. -/
def State.failFlagSet (s : State) (e : Nat) : State :=
  s.modEng e (fun x =>
    { x with flags := setFlags x.flags ((if x.f6Due then [(6#3, true)] else []) ++ (if x.f7Due then [(7#3, true)] else [])),
             f6Due := false, f7Due := false })

end Sys2Proof.Machine
end

