-- ==== Sys2Proof/Machine/Crypto.lean ====
section
/-!
DEFINITION. The cryptographic functions that the spec names by their standards: AES-256 (FIPS 197), GHASH of GCM (SP 800-38D), SHA-512
(FIPS 180-4), and ECDSA and ECDH on P-521 (FIPS 186, SP 800-56A). A block's, digest's or key's first byte is its most significant
(PRESUMED, log entry 66: the standards' order of strings). What a signer draws for a signature is open: Config.signNonce.
-/
namespace Sys2Proof.Machine

open Sys2Proof

/-! ### AES-256 -/

/-- Multiplication by x in AES's field. -/
def xtime (b : Byte) : Byte := (b <<< 1) ^^^ (if b.getLsbD 7 then 0x1B#8 else 0#8)

/-- AES's S-box, a row for each upper half of a byte, the column of lower half 0 first (FIPS 197, figure 7). -/
def sboxRows : List (BitVec 128) :=
  [0x637C777BF26B6FC53001672BFED7AB76, 0xCA82C97DFA5947F0ADD4A2AF9CA472C0,
   0xB7FD9326363FF7CC34A5E5F171D83115, 0x04C723C31896059A071280E2EB27B275,
   0x09832C1A1B6E5AA0523BD6B329E32F84, 0x53D100ED20FCB15B6ACBBE394A4C58CF,
   0xD0EFAAFB434D338545F9027F503C9FA8, 0x51A3408F929D38F5BCB6DA2110FFF3D2,
   0xCD0C13EC5F974417C4A77E3D645D1973, 0x60814FDC222A908846EEB814DE5E0BDB,
   0xE0323A0A4906245CC2D3AC629195E479, 0xE7C8376D8DD54EA96C56F4EA657AAE08,
   0xBA78252E1CA6B4C6E8DD741F4BBD8B8A, 0x703EB5664803F60E613557B986C11D9E,
   0xE1F8981169D98E949B1E87E9CE5528DF, 0x8CA1890DBFE6426841992D0FB054BB16]

/-- AES's S-box. -/
def sbox (b : Byte) : Byte := (sboxRows.getD (b.toNat / 16) 0#128).extractLsb' (120 - 8 * (b.toNat % 16)) 8

/-- Byte i of a 16-byte block. -/
def blockByte (b : BitVec 128) (i : Nat) : Byte := b.extractLsb' (120 - 8 * i) 8

/-- A block from its 16 bytes. -/
def blockOf (bs : List Byte) : BitVec 128 := bs.foldl (fun acc b => (acc <<< 8) ||| b.setWidth 128) 0#128

/-- SubBytes on a word. -/
def subWord (w : BitVec 32) : BitVec 32 :=
  sbox (w.extractLsb' 24 8) ++ (sbox (w.extractLsb' 16 8) ++ (sbox (w.extractLsb' 8 8) ++ sbox (w.extractLsb' 0 8)))

/-- AES-256's key schedule: the words so far, newest first, and those still to come, by fuel. -/
def aesExpand : Nat → Nat → Byte → List (BitVec 32) → List (BitVec 32)
  | 0, _, _, ws => ws
  | f + 1, i, rcon, ws =>
    let t := ws.getD 0 0
    let u : BitVec 32 := if i % 8 = 0 then subWord (t.rotateLeft 8) ^^^ (rcon ++ 0#24) else if i % 8 = 4 then subWord t else t
    aesExpand f (i + 1) (if i % 8 = 0 then xtime rcon else rcon) ((ws.getD 7 0 ^^^ u) :: ws)

/-- The fifteen round keys of a key. -/
def aesRoundKeys (key : BitVec 256) : List (BitVec 128) :=
  let ws := (aesExpand 52 8 0x01#8 ((List.range 8).map (fun i => key.extractLsb' (32 * i) 32))).reverse
  (List.range 15).map (fun r => ws.getD (4 * r) 0 ++ (ws.getD (4 * r + 1) 0 ++ (ws.getD (4 * r + 2) 0 ++ ws.getD (4 * r + 3) 0)))

/-- SubBytes and ShiftRows. -/
def aesSubShift (b : BitVec 128) : BitVec 128 :=
  blockOf ((List.range 16).map (fun i => sbox (blockByte b ((i + 4 * (i % 4)) % 16))))

/-- MixColumns. -/
def aesMix (b : BitVec 128) : BitVec 128 :=
  blockOf ((List.range 16).map (fun i =>
    let at' (j : Nat) : Byte := blockByte b (i / 4 * 4 + (i + j) % 4)
    xtime (at' 0) ^^^ (xtime (at' 1) ^^^ at' 1) ^^^ at' 2 ^^^ at' 3))

/-- AES-256 of a block under a key. -/
@[irreducible] def aes256 (key : BitVec 256) (x : BitVec 128) : BitVec 128 :=
  let ks := aesRoundKeys key
  let y := (List.range 13).foldl (fun acc r => aesMix (aesSubShift acc) ^^^ ks.getD (r + 1) 0) (x ^^^ ks.getD 0 0)
  aesSubShift y ^^^ ks.getD 14 0

/-! ### GHASH -/

/-- Multiplication in GCM's field: bit 127 of a block is the coefficient of 1. -/
def ghashMul (x h : BitVec 128) : BitVec 128 :=
  ((List.range 128).foldl (fun (acc : BitVec 128 × BitVec 128) i =>
    (if x.getLsbD (127 - i) then acc.1 ^^^ acc.2 else acc.1,
     (acc.2 >>> 1) ^^^ (if acc.2.getLsbD 0 then (0xE1#128 <<< 120) else 0#128))) (0#128, h)).1

/-- GHASH of GCM under a hash key. -/
@[irreducible] def ghash (h : BitVec 128) (xs : List (BitVec 128)) : BitVec 128 := xs.foldl (fun y x => ghashMul (y ^^^ x) h) 0#128

/-! ### SHA-512 -/

/-- The constants of SHA-512's rounds. -/
def shaConstants : List Word :=
  [0x428A2F98D728AE22, 0x7137449123EF65CD, 0xB5C0FBCFEC4D3B2F, 0xE9B5DBA58189DBBC,
   0x3956C25BF348B538, 0x59F111F1B605D019, 0x923F82A4AF194F9B, 0xAB1C5ED5DA6D8118,
   0xD807AA98A3030242, 0x12835B0145706FBE, 0x243185BE4EE4B28C, 0x550C7DC3D5FFB4E2,
   0x72BE5D74F27B896F, 0x80DEB1FE3B1696B1, 0x9BDC06A725C71235, 0xC19BF174CF692694,
   0xE49B69C19EF14AD2, 0xEFBE4786384F25E3, 0x0FC19DC68B8CD5B5, 0x240CA1CC77AC9C65] ++
  [0x2DE92C6F592B0275, 0x4A7484AA6EA6E483, 0x5CB0A9DCBD41FBD4, 0x76F988DA831153B5,
   0x983E5152EE66DFAB, 0xA831C66D2DB43210, 0xB00327C898FB213F, 0xBF597FC7BEEF0EE4,
   0xC6E00BF33DA88FC2, 0xD5A79147930AA725, 0x06CA6351E003826F, 0x142929670A0E6E70,
   0x27B70A8546D22FFC, 0x2E1B21385C26C926, 0x4D2C6DFC5AC42AED, 0x53380D139D95B3DF,
   0x650A73548BAF63DE, 0x766A0ABB3C77B2A8, 0x81C2C92E47EDAEE6, 0x92722C851482353B] ++
  [0xA2BFE8A14CF10364, 0xA81A664BBC423001, 0xC24B8B70D0F89791, 0xC76C51A30654BE30,
   0xD192E819D6EF5218, 0xD69906245565A910, 0xF40E35855771202A, 0x106AA07032BBD1B8,
   0x19A4C116B8D2D0C8, 0x1E376C085141AB53, 0x2748774CDF8EEB99, 0x34B0BCB5E19B48A8,
   0x391C0CB3C5C95A63, 0x4ED8AA4AE3418ACB, 0x5B9CCA4F7763E373, 0x682E6FF3D6B2B8A3,
   0x748F82EE5DEFB2FC, 0x78A5636F43172F60, 0x84C87814A1F0AB72, 0x8CC702081A6439EC] ++
  [0x90BEFFFA23631E28, 0xA4506CEBDE82BDE9, 0xBEF9A3F7B2C67915, 0xC67178F2E372532B,
   0xCA273ECEEA26619C, 0xD186B8C721C0C207, 0xEADA7DD6CDE0EB1E, 0xF57D4F7FEE6ED178,
   0x06F067AA72176FBA, 0x0A637DC5A2C898A6, 0x113F9804BEF90DAE, 0x1B710B35131C471B,
   0x28DB77F523047D84, 0x32CAAB7B40C72493, 0x3C9EBE0A15C9BEBC, 0x431D67C49C100D4C,
   0x4CC5D4BECB3E42B6, 0x597F299CFC657E2A, 0x5FCB6FAB3AD6FAEC, 0x6C44198C4A475817]

/-- SHA-512's initial hash value. -/
def shaInit : List Word :=
  [0x6A09E667F3BCC908, 0xBB67AE8584CAA73B, 0x3C6EF372FE94F82B, 0xA54FF53A5F1D36F1,
   0x510E527FADE682D1, 0x9B05688C2B3E6C1F, 0x1F83D9ABFB41BD6B, 0x5BE0CD19137E2179]

/-- One round of SHA-512 on its eight working words. -/
def shaRound (v : List Word) (kw : Word) : List Word :=
  let x (i : Nat) : Word := v.getD i 0
  let s1 := (x 4).rotateRight 14 ^^^ (x 4).rotateRight 18 ^^^ (x 4).rotateRight 41
  let ch := (x 4 &&& x 5) ^^^ (~~~(x 4) &&& x 6)
  let t1 := x 7 + s1 + ch + kw
  let s0 := (x 0).rotateRight 28 ^^^ (x 0).rotateRight 34 ^^^ (x 0).rotateRight 39
  let maj := (x 0 &&& x 1) ^^^ (x 0 &&& x 2) ^^^ (x 1 &&& x 2)
  [t1 + s0 + maj, x 0, x 1, x 2, x 3 + t1, x 4, x 5, x 6]

/-- SHA-512's message schedule: the words so far, newest first, by fuel. -/
def shaExpand : Nat → List Word → List Word
  | 0, ws => ws
  | f + 1, ws =>
    let a := ws.getD 14 0
    let b := ws.getD 1 0
    let s0 := a.rotateRight 1 ^^^ a.rotateRight 8 ^^^ (a >>> 7)
    let s1 := b.rotateRight 19 ^^^ b.rotateRight 61 ^^^ (b >>> 6)
    shaExpand f ((s1 + ws.getD 6 0 + s0 + ws.getD 15 0) :: ws)

/-- SHA-512's compression of one block of sixteen words. -/
def shaBlock (h ws : List Word) : List Word :=
  let sched := (shaExpand 64 ws.reverse).reverse
  let v := (List.zipWith (· + ·) shaConstants sched).foldl shaRound h
  List.zipWith (· + ·) h v

/-- A big-endian word from eight bytes. -/
def wordOfBytes (bs : List Byte) : Word := bs.foldl (fun acc b => (acc <<< 8) ||| b.setWidth 64) 0#64

/-- SHA-512's padding of a message. -/
def shaPad (bs : List Byte) : List Byte :=
  bs ++ 0x80#8 :: (List.replicate ((239 - bs.length % 128) % 128) 0#8 ++
    (List.range 16).map (fun i => (BitVec.ofNat 128 (8 * bs.length)).extractLsb' (120 - 8 * i) 8))

/-- SHA-512 of a byte string: the digest's first byte is its most significant. -/
@[irreducible] def sha512 (bs : List Byte) : BitVec 512 :=
  let m := shaPad bs
  let h := (List.range (m.length / 128)).foldl (fun acc i =>
    shaBlock acc ((List.range 16).map (fun j => wordOfBytes ((m.drop (128 * i + 8 * j)).take 8)))) shaInit
  h.foldl (fun acc w => (acc <<< 64) ||| w.setWidth 512) 0#512

/-! ### P-521 -/

/-- The field's prime. -/
def p521 : Nat := 2 ^ 521 - 1
/-- The order of the base point. -/
def n521 : Nat :=
  0x1FFFFFFFFFFFFFFFFFFFFFFFFFFFFFFFFFFFFFFFFFFFFFFFFFFFFFFFFFFFFFFFFFA51868783BF2F966B7FCC0148F709A5D03BB5C9B8899C47AEBB6FB71E91386409
/-- The curve's coefficient b. -/
def b521 : Nat :=
  0x0051953EB9618E1C9A1F929A21A0B68540EEA2DA725B99B315F3B8B489918EF109E156193951EC7E937B1652C0BD3BB1BF073573DF883D2C34F1EF451FD46B503F00
/-- The base point. -/
def g521 : Nat × Nat :=
  (0x00C6858E06B70404E9CD9E3ECB662395B4429C648139053FB521F828AF606B4D3DBAA14B5E77EFE75928FE1DC127A2FFA8DE3348B3C1856A429BF97E7E31C2E5BD66,
   0x011839296A789A3BC0045C8A5FB42C7D1BD998F54449579B446817AFBD17273E662C97EE72995EF42640C550B9013FAD0761353C7086A272C24088BE94769FD16650)

/-- A power modulo m, over the exponent's n lowest bits. -/
def powMod (b e m n : Nat) : Nat :=
  ((List.range n).foldl (fun (acc : Nat × Nat) i => (if e.testBit i then acc.1 * acc.2 % m else acc.1, acc.2 * acc.2 % m)) (1, b % m)).1

/-- The inverse modulo a prime below 2^521. -/
def invMod (b m : Nat) : Nat := powMod b (m - 2) m 521

/-- The sum of two points; none is the point at infinity. -/
def ecAdd : Option (Nat × Nat) → Option (Nat × Nat) → Option (Nat × Nat)
  | none, q => q
  | some p, none => some p
  | some p, some q =>
    if p.1 = q.1 ∧ (p.2 + q.2) % p521 = 0 then none
    else
      let l := if p = q then (3 * p.1 * p.1 + (p521 - 3)) * invMod (2 * p.2) p521 % p521
        else (q.2 + (p521 - p.2)) * invMod (q.1 + (p521 - p.1)) p521 % p521
      let x := (l * l + (p521 - p.1) + (p521 - q.1)) % p521
      some (x, (l * (p.1 + (p521 - x)) + (p521 - p.2)) % p521)

/-- A multiple of a point, over the bits of the factor. -/
def ecMul (k : Nat) (p : Nat × Nat) : Option (Nat × Nat) :=
  ((List.range (k.log2 + 1)).foldl (fun (acc : Option (Nat × Nat) × Option (Nat × Nat)) i =>
    (if k.testBit i then ecAdd acc.1 acc.2 else acc.1, ecAdd acc.2 acc.2)) (none, some p)).1

/-- The halves of 66 bytes of a public key (x then y) or a signature (r then s). -/
def halves (v : BitVec 1056) : Nat × Nat := ((v.extractLsb' 528 528).toNat, (v.extractLsb' 0 528).toNat)

/-- Two numbers as 66 bytes each. -/
def joinHalves (a b : Nat) : BitVec 1056 := BitVec.ofNat 528 a ++ BitVec.ofNat 528 b

/-- A point of the curve. -/
def onCurve (q : Nat × Nat) : Bool :=
  decide (q.1 < p521 ∧ q.2 < p521) && (q.2 * q.2) % p521 == (q.1 * q.1 * q.1 + (p521 - 3) * q.1 + b521) % p521

/-- The public key of a private key (x then y, 66 bytes each). -/
@[irreducible] def publicKey (d : Nat) : BitVec 1056 := match ecMul (d % n521) g521 with
  | some q => joinHalves q.1 q.2
  | none => 0

/-- ECDSA: the signature r then s (66 bytes each) of a digest under a private key; the last argument numbers the signature, whose
nonce is open. -/
@[irreducible] def ecdsaSign (d : Nat) (digest : BitVec 512) (i : Nat) : BitVec 1056 :=
  let k := 1 + Config.signNonce d digest i % (n521 - 1)
  let r := match ecMul k g521 with
    | some q => q.1 % n521
    | none => 0
  joinHalves r (invMod k n521 * (digest.toNat + r * d) % n521)

/-- ECDSA: a public key verifies a signature over a digest. -/
@[irreducible] def ecdsaVerify (key : BitVec 1056) (digest : BitVec 512) (sig : BitVec 1056) : Bool :=
  let q := halves key
  let r := (halves sig).1
  let s := (halves sig).2
  let w := invMod s n521
  decide (0 < r ∧ r < n521 ∧ 0 < s ∧ s < n521) && onCurve q &&
    match ecAdd (ecMul (digest.toNat * w % n521) g521) (ecMul (r * w % n521) q) with
    | some p => p.1 % n521 == r
    | none => false

/-- ECDH: the shared secret of a private key and a peer's public key, 66 bytes. -/
@[irreducible] def ecdh (d : Nat) (key : BitVec 1056) : BitVec 528 := match ecMul (d % n521) (halves key) with
  | some q => BitVec.ofNat 528 q.1
  | none => 0

end Sys2Proof.Machine
end

