-- ==== Sys2Proof/Machine/ErrLog.lean ====
section
/-!
DEFINITION. The error log (R389, R390, R392) and the event log (R408, R409).
-/
namespace Sys2Proof.Machine

open Sys2Proof

/-! ### Bytes -/

/-- A big-endian byte string of n bytes. -/
def beBytes {w : Nat} (n : Nat) (v : BitVec w) : List Byte := (List.range n).map (fun i => v.extractLsb' (8 * (n - 1 - i)) 8)

/-- A little-endian byte string of n bytes. -/
def leBytes {w : Nat} (n : Nat) (v : BitVec w) : List Byte := (List.range n).map (fun i => v.extractLsb' (8 * i) 8)

/-- The number a little-endian byte string spells. -/
def leNat : List Byte → Nat
  | [] => 0
  | b :: t => b.toNat + 256 * leNat t

/-- The number a big-endian byte string spells. -/
def beNat (bs : List Byte) : Nat := bs.foldl (fun acc b => acc * 256 + b.toNat) 0

/-- Bytes as the number FIPS 186 spells with them. -/
def sigOf (bs : List Byte) : BitVec 1056 := BitVec.ofNat 1056 (beNat bs)

/-- The bytes of a list of words, each least significant first. -/
def wordsBytes (ws : List Word) : List Byte := ws.flatMap wordBytes

/-- Bytes as 64-bit words, the last filled up with zeros. -/
def bytesWords (n : Nat) (bs : List Byte) : List Word := (List.range n).map (fun i => bytesWord ((bs.drop (8 * i)).take 8))

/-! ### Error log -/

/-- R389: the severity of a class. -/
def classSev (c : Byte) : Nat := if c = 0x01 ∨ c = 0x07 then 0 else 1

/-- R390: unread records. -/
def State.errUnread (s : State) : Nat := (s.fld F.ERR_PTR_WP + 512 - s.fld F.ERR_PTR_RP) % 512

/-- The record in entry i of the log. -/
def State.errRec (s : State) (i : Nat) : Option LogRec := s.err.recs.get i none

/-- R390: two events merge: unit, class and location are equal. -/
def sameEvent (a b : ErrRec) : Bool := a.kind == b.kind && a.inst == b.inst && a.cls == b.cls && a.loc == b.loc

/-- R390: an accepted record is written at WP and raises the ERR interrupt. -/
def State.acceptErr (s : State) (r : ErrRec) : State :=
  let wp := s.fld F.ERR_PTR_WP
  let s := { s with err := { s.err with
    recs := s.err.recs.set wp (some { body := r, count := 1, time := s.time, seq := s.err.seq }) none,
    seq := s.err.seq + 1 } }
  (s.setFld F.ERR_PTR_WP ((wp + 1) % 512)).pendIrq 9

/-- R390: the oldest record on its way reaches the log: merged, accepted or dropped. -/
def State.errorRecord (s : State) : State :=
  match s.err.onWay with
  | [] => s
  | r :: rest =>
    let s := { s with err := { s.err with onWay := rest } }
    let u := s.errUnread
    let newest := (s.fld F.ERR_PTR_WP + 511) % 512
    let merges : Option LogRec := match s.errRec newest with
      | some l => if u ≠ 0 ∧ sameEvent l.body r then some l else none
      | none => none
    match merges with
    | some l =>
      { s with err := { s.err with recs := s.err.recs.set newest (some { l with count := satAdd 65535 l.count 1 }) none } }
    | none =>
      if u < (if classSev r.cls = 0 then 480 else 511) then s.acceptErr r
      else (if classSev r.cls = 0 then s.count F.ERR_CNT_DROP0 else s.count F.ERR_CNT_DROP1).raise F.ERR_STATUS_OVF

/-- R389: words 0 to 6 of a record. -/
def logWords (l : LogRec) : List Word :=
  let r := l.body
  [ BitVec.ofNat 64 (r.kind.toNat * 2 ^ 56 + r.inst * 2 ^ 40 + r.cls.toNat * 2 ^ 32 + l.count * 2 ^ 16),
    l.time,
    BitVec.ofNat 64 ((match r.mid with | some m => 2 ^ 58 + m.toNat * 2 ^ 48 | none => 0) + r.addr),
    BitVec.ofNat 64 r.loc,
    r.cols ++ r.rows,
    r.data,
    l.seq.setWidth 64 ]

/-- R389: word w of entry i of the log; an entry never written reads 0. -/
def State.errWord (s : State) (i w : Nat) : Word :=
  match s.errRec i with
  | none => 0
  | some l => if w < 7 then (logWords l).getD w 0 else (crc32c ((wordsBytes (logWords l)).take 56)).setWidth 64

/-- R392: a write of ERR_PTR. An RP that would pass WP is not applied. -/
def State.writeErrPtr (s : State) (v : Word) : State :=
  let rp := fldOf F.ERR_PTR_RP v
  let old := s.fld F.ERR_PTR_RP
  if (rp + 512 - old) % 512 ≤ s.errUnread then s.setFld F.ERR_PTR_RP rp else s.raise F.ERR_STATUS_CFGERR

/-! ### Event log -/

/-- R408: signers of a record. -/
inductive Signer where
  | none | mbana | smp
  deriving DecidableEq, Repr

/-- R198: the partition key of a seal value. -/
def partitionKey (n : Nat) : Nat :=
  1 + (sha512 (beBytes 32 Config.fuseSecret ++ [0x43#8, 0x53#8, 0x4D#8, 0x50#8] ++ beBytes 2 (BitVec.ofNat 16 n))).toNat

/-- R408: words 0 to 7 of a record. -/
def evWords (typ : Byte) (signer : Signer) (source : BitVec 16) (seq time rtc d4 d5 : Word) (prev : BitVec 512) : List Word :=
  let sg : Nat := match signer with | .none => 0 | .mbana => 1 | .smp => 2
  let size : Nat := if signer = .none then 0 else 3
  let ws : List Word :=
    [ BitVec.ofNat 64 (0x4556 * 2 ^ 48 + typ.toNat * 2 ^ 40 + sg * 2 ^ 38 + size * 2 ^ 36 + source.toNat),
      seq, time, rtc, d4, d5, bytesWord ((beBytes 64 prev).take 8) ]
  ws ++ [(crc32c (wordsBytes ws)).setWidth 64]

/-- R419: d_I, Mbana's identity key. -/
def identityKey : Nat :=
  1 + (sha512 (beBytes 32 Config.fuseSecretM ++ [0x43#8, 0x49#8, 0x44#8, 0x4B#8])).toNat

/-- R409: the flash log ring. -/
def ringBase : Nat := 0x00A20000
def ringSize : Nat := 0x5E0000

/-- What an unwritten flash byte reads as (log entry 5). -/
def flashBlank : Byte := 0xFF

/-- R230: byte i of flash device d (0 or 1), which is byte 2i + d of the combined space. -/
def State.chipByte (s : State) (d i : Nat) : Byte := s.flash.get (2 * i + d) flashBlank

/-- R230: a byte of the combined flash space, read from the device that holds it. -/
def State.flashByte (s : State) (a : Nat) : Byte := s.chipByte (a % 2) (a / 2)

/-- Write bytes to the flash space. -/
def State.setFlash (s : State) (a : Nat) (bs : List Byte) : State :=
  { s with flash := (List.range bs.length).foldl (fun acc i => acc.set (a + i) (bs.getD i 0) flashBlank) s.flash }

/-- Bytes of the flash space. -/
def State.flashBytes (s : State) (a n : Nat) : List Byte := (List.range n).map (fun i => s.flashByte (a + i))

/-- R409: the newest records of a list, oldest first, that the ring holds whole. -/
def keepRecent (rs : List (List Word)) : List (List Word) :=
  (rs.reverse.foldl (fun (acc : List (List Word) × Nat) r =>
    if acc.2 + 8 * r.length ≤ ringSize then (r :: acc.1, acc.2 + 8 * r.length) else (acc.1, ringSize)) ([], 0)).1

/-- A code word of the secure bank (R176). -/
def State.bankCell (s : State) (j : Nat) : Code64 := s.sbk.get j 0
def State.setBankCell (s : State) (j : Nat) (c : Code64) : State := { s with sbk := s.sbk.set j c 0 }

/-- R178: the bank accepts accesses. -/
def State.bankReady (s : State) : Bool := s.flag F.SBK_STATUS_READY

/-- R176: the code word of the bank that holds word i of the event-log cache, in which records follow one another and go round
(DESIGN CHOICE, log entry 64). -/
def cacheWord (i : Nat) : Nat := 0x18000 + i % 0x8000

/-- A record of the cache: its place and its words. -/
def State.cachedRec (s : State) (q : Nat × Nat) : List Word :=
  (List.range q.2).map (fun i => (decode64 (s.bankCell (cacheWord (q.1 + i)))).data)

/-- The records that stand in the cache and not in flash, oldest first. -/
def State.cached (s : State) : List (List Word) := s.log.pend.map s.cachedRec

/-- R409: the cache is copied to the flash log ring, which overwrites its oldest records. -/
def State.flushLog (s : State) : State :=
  let rs := s.cached
  let bs := wordsBytes rs.flatten
  let t := { s with flash := (List.range bs.length).foldl (fun acc i =>
    acc.set (ringBase + (s.log.ring + i) % ringSize) (bs.getD i 0) flashBlank) s.flash }
  { t with log := { s.log with pend := [], kept := keepRecent (s.log.kept ++ rs), ring := (s.log.ring + bs.length) % ringSize,
                               flushed := if rs.isEmpty then s.log.flushed
                                 else s.log.seq - 1 - BitVec.ofNat 64 s.log.late.length } }

/-- R176, R409: a record is written into the event-log cache; once 64 KiB are pending, the cache is copied to flash. -/
def State.cacheRecord (s : State) (r : List Word) : State :=
  let w := s.log.wr
  let t := (List.range r.length).foldl (fun (acc : State) i => acc.setBankCell (cacheWord (w + i)) (encode64 (r.getD i 0))) s
  let t := { t with log := { t.log with wr := (w + r.length) % 0x8000, pend := t.log.pend ++ [(w, r.length)] } }
  if 0x2000 ≤ (t.log.pend.map (·.2)).foldl (· + ·) 0 then t.flushLog else t

/-- R408: a record is formed and written into the event-log cache; while the bank accepts no access it waits (DESIGN CHOICE,
log entry 64). -/
def State.logEvent (s : State) (typ : Byte) (d4 d5 : Word := 0) (signer : Signer := .none) (source : BitVec 16 := 0) : State :=
  let ws := evWords typ signer source s.log.seq s.time (BitVec.ofNat 64 s.rtc) d4 d5 s.log.prev
  let digest := sha512 (wordsBytes ws)
  let key := match signer with | .smp => partitionKey s.fuses.sealNo | _ => identityKey
  let all := match signer with
    | .none => ws
    | _ => ws ++ bytesWords 24 (beBytes 132 (ecdsaSign key digest s.log.signs))
  let s := { s with log := { s.log with
      seq := s.log.seq + 1, prev := sha512 (wordsBytes all),
      signs := if signer = Signer.none then s.log.signs else s.log.signs + 1 } }
  if s.bankReady then s.cacheRecord all else { s with log := { s.log with late := s.log.late ++ [all] } }

/-- R178, R409: the bank accepts accesses again: the records that waited are written. -/
def State.logLate (s : State) : State :=
  s.log.late.foldl State.cacheRecord { s with log := { s.log with late := [] } }

end Sys2Proof.Machine
end

