-- ==== Sys2Proof/Machine/Sbk.lean ====
section
/-!
DEFINITION. The secure bank (R176 to R179): rights by offset, accesses with the rules of R158 to R166, wipes.
-/
namespace Sys2Proof.Machine

open Sys2Proof

/-- The rows of R176's table. -/
def sbkRow (off : Nat) : Nat := if off < 0x10000 then 0 else if off < 0x40000 then 1 else if off < 0xC0000 then 2 else 3

/-- R176: the right of a master to a row of the table. -/
def sbkRight (mid : MasterId) (row : Nat) (write : Bool) : Bool :=
  if mid = 328 then row == 0 || row == 3 || (row == 1 && !write)
  else if mid = 346 then row == 1 || (row == 0 && !write)
  else if mid = 348 then row == 2 || row == 3
  else false

/-- R176: an access of len bytes at an offset is allowed: the right holds in every row it touches. -/
def sbkAllowed (mid : MasterId) (off len : Nat) (write : Bool) : Bool :=
  sbkRight mid (sbkRow off) write && sbkRight mid (sbkRow (off + len - 1)) write

/-- R385: checker test mode has the secure bank as its target. -/
def State.ckBank (s : State) : Bool := s.flag F.ERR_CKCTRL_EN && s.fld F.ERR_CKCTRL_KIND == 2

/-- R160, R177: a corrected or uncorrectable read is counted and logged. -/
def State.noteBankRead (s : State) (j : Nat) (mid : MasterId) (d : Decoded64) : State :=
  let rec0 : ErrRec :=
    { kind := 1, inst := 0, cls := 0x01, mid := some mid, addr := 0x001200000000 + 8 * j,
      rows := d.rows.setWidth 32, cols := d.cols.setWidth 32, data := d.stored }
  match d.kind with
  | .corrected b => (s.count F.SBK_CNT_CE).logErr { rec0 with loc := cellLoc j b }
  | .uncorrectable => (s.count F.SBK_CNT_UE).logErr { rec0 with cls := 0x02, loc := cellLoc j 0xFF }
  | _ => s

/-- R160, R177: the bank reads code word j. -/
def State.bankRead (s : State) (mid : MasterId) (j : Nat) : WordReply × State :=
  if !s.bankReady then ({ status := .easleep }, s)
  else if s.ckBank && mid == 328 then s.ckRead (s.bankCell j)
  else
    let d := decode64 (s.bankCell j)
    ({ data := d.data, poison := d.poison, status := if d.poison then .epoison else .ok }, s.noteBankRead j mid d)

/-- R160, R177, R381: the bank writes code word j. -/
def State.bankWrite (s : State) (mid : MasterId) (j : Nat) (v : Word) (p : Bool) : WordReply × State :=
  if !s.bankReady then ({ status := .easleep }, s)
  else ({}, s.setBankCell j (if s.ckBank && mid == 328 then s.ckCode v else store64 v p))

/-- R164 to R166, R177, R388: the bank performs an atomic on code word j. -/
def State.bankAtomic (s : State) (mid : MasterId) (j : Nat) (op : AtomicOp) (opnd cmp : Word) (opPoison : Bool) :
    WordReply × State :=
  if !s.bankReady then ({ status := .easleep }, s)
  else if s.ckBank && mid == 328 then ({ status := .edeny }, s)
  else
    let d := decode64 (s.bankCell j)
    let s := s.noteBankRead j mid d
    if d.poison ∨ opPoison then ({ data := d.data, poison := d.poison, status := .epoison }, s)
    else match atomicResult op d.data opnd cmp with
      | none => ({ data := d.data }, s)
      | some r => ({ data := d.data }, s.setBankCell j (encode64 r))

/-- R176: an access is refused for want of a right, and counted. -/
def State.bankDeny (s : State) : State := s.count F.SBK_CNT_DENY

/-- R178, R328: a wipe is triggered; a trigger during a wipe is merged into it. The cached event records are lost (R409),
every datapath's keys and roots and the bridges' key registers are cleared, and enabled regions wait for keys. -/
def State.bankWipe (s : State) (cause : Nat) : State :=
  if s.flag F.SBK_STATUS_WIPING then s
  else
    let s := { s with sbk := {}, log := { s.log with pend := [], wr := 0 } }
    let s := ((s.setFld F.SBK_STATUS_READY 0).setFld F.SBK_STATUS_CAUSE cause).setFld F.SBK_STATUS_WIPING 1
    let s := s.count F.SBK_STATUS_WIPECNT
    let s := { s with ice := { s.ice with keys := {}, roots := {}, linkKeys := {} } }
    let s := s.forAll (List.range 12) (fun acc k => { acc with dmcs := acc.dmcs.set k { acc.dmcs.get k {} with ctrs := [] } {} })
    let s := s.forAll (List.range 16) (fun acc r =>
      if acc.flag F.ICE_RCFG_EN 0 r then acc.setFld F.ICE_RSTAT_STATE 5 0 r else acc)
    { s with mb := { s.mb with wipeSeen := true }, smp := { s.smp with reload := s.smp.reload || s.fld F.SMP_STATUS_STATE == 2 || s.fld F.SMP_STATUS_STATE == 3 } }

/-! ### The bank as the meter core's memory (R185) -/

/-- R177, R178: code word j as the meter core reads it; 0 while the bank refuses accesses with EASLEEP. -/
def State.meterWord (s : State) (j : Nat) : Word := if s.bankReady then (decode64 (s.bankCell j)).data else 0

/-- R177, R178: the meter core writes code word j; nothing while the bank refuses accesses with EASLEEP. -/
def State.setMeterWord (s : State) (j : Nat) (v : Word) : State := if s.bankReady then s.setBankCell j (encode64 v) else s

/-- R160, R177: the meter core reads code words of the bank: what they need is corrected, counted and logged. -/
def State.noteMeter (s : State) (js : List Nat) : State :=
  if s.bankReady then s.forAll js (fun acc j => acc.noteBankRead j 348 (decode64 (acc.bankCell j))) else s

/-- The w bits at an offset of the bank, within one code word, as the meter core reads them. -/
def State.bankBits (s : State) (w off : Nat) : BitVec w := (s.meterWord (off / 8)).extractLsb' (8 * (off % 8)) w

/-- Write w bits at an offset of the bank, within one code word. -/
def State.setBankBits {w : Nat} (s : State) (off : Nat) (v : BitVec w) : State :=
  let sh := 8 * (off % 8)
  s.setMeterWord (off / 8) ((s.meterWord (off / 8) &&& ~~~ (((BitVec.allOnes w).setWidth 64) <<< sh)) ||| (v.setWidth 64 <<< sh))

/-- The 16-bit value at an even offset of the bank. -/
def State.bank16 (s : State) (off : Nat) : BitVec 16 := s.bankBits 16 off
def State.setBank16 (s : State) (off : Nat) (v : BitVec 16) : State := s.setBankBits off v

/-- A byte of the bank. -/
def State.bankByte (s : State) (off : Nat) : Byte := s.bankBits 8 off

end Sys2Proof.Machine
end

