-- ==== Sys2Proof/Machine/Lines.lean ====
section
/-!
DEFINITION. DRAM lines and their addresses (R292 to R294), and the rows and queues of a channel: page policy (R302), row disturbance
(R305, R306), input queues (R300) and throttling (R307).
-/
namespace Sys2Proof.Machine

open Sys2Proof

/-! ### Lines and addresses -/

/-- R292: the interleave granule G. -/
def State.ilvG (s : State) : Nat := 256 * 2 ^ s.fld F.DMC_ILV_ILV

/-- R291: the fitted capacity in bytes. -/
def State.dramCap (s : State) : Nat := 12 * 2 ^ 30 * s.fld F.DMC_ILV_CAP

/-- R292: the channel of a DRAM address. -/
def State.dramChannel (s : State) (a : Nat) : Nat := a / s.ilvG % 12

/-- R292: the channel-local line index of a DRAM address. -/
def State.dramLine (s : State) (a : Nat) : Nat := a / s.ilvG / 12 * (s.ilvG / 64) + a % s.ilvG / 64

/-- The address of a line: R292 inverted. -/
def State.lineAddr (s : State) (k lam : Nat) : Nat :=
  let n := s.ilvG / 64
  (lam / n * 12 + k) * s.ilvG + lam % n * 64

/-- R293: the bank of a line. -/
def bankOf (lam : Nat) : Nat := (lam / 128 % 16) ^^^ (lam / 2048 % 16)
/-- R293: the row of a line. -/
def rowOf (lam : Nat) : Nat := lam / 2048

/-- Lines of a channel at the fitted capacity. -/
def State.chanLines (s : State) : Nat := s.dramCap / 768

/-- The key of a line. -/
def lineKey (k lam : Nat) : Nat := k * 2 ^ 25 + lam
/-- The stored line. -/
def State.line (s : State) (k lam : Nat) : Line := s.dram.get (lineKey k lam) 0
/-- Store a line. -/
def State.setLine (s : State) (k lam : Nat) (l : Line) : State := { s with dram := s.dram.set (lineKey k lam) l 0 }

/-- Channel k beyond its registers. -/
def State.dmc (s : State) (k : Nat) : Dmc := s.dmcs.get k {}
/-- Change channel k. -/
def State.modDmc (s : State) (k : Nat) (f : Dmc → Dmc) : State := { s with dmcs := s.dmcs.set k (f (s.dmc k)) {} }

/-- R298, R389: a corrected or uncorrectable line is counted and logged; a line in the poison pattern is only counted. -/
def State.noteLine (s : State) (k lam : Nat) (mid : Option MasterId) (d : DecodedLine) : State :=
  let rec0 : ErrRec :=
    { kind := 2, inst := k, cls := 0x01, mid := mid, addr := s.lineAddr k lam, rows := d.rows.setWidth 32, cols := d.cols,
      data := lineWord d.stored 0 }
  match d.kind with
  | .clean => s
  | .corrected b => ((s.count F.DMC_CNT_CE k).pmonEvent (64 + k) 0x24 0 1).logErr { rec0 with loc := lam + b * 2 ^ 32 }
  | .uncorrectable =>
    (((s.count F.DMC_CNT_UE k).raise F.DMC_STATUS_UE k).pmonEvent (64 + k) 0x25 0 1).logErr { rec0 with cls := 0x02, loc := lam + 0x3FF * 2 ^ 32 }
  | .poisonPattern => s.count F.DMC_CNT_PSN k

/-! ### Rows (R302, R305 to R307) -/

/-- R305: the table of a bank after one more activate of a row, and the row's count. -/
def noteActivate (tbl : List (Nat × Nat)) (row : Nat) : List (Nat × Nat) × Nat :=
  match tbl.find? (fun e => e.1 == row) with
  | some e => (tbl.map (fun x => if x.1 = row then (row, x.2 + 1) else x), e.2 + 1)
  | none =>
    if tbl.length < 32 then (tbl ++ [(row, 1)], 1)
    else
      let low := tbl.foldl (fun acc e => min acc e.2) ((tbl.headD (0, 0)).2)
      let i := (tbl.findIdx? (fun e => e.2 == low)).getD 0
      (tbl.set i (row, low + 1), low + 1)

/-- R307: master mid is throttled at a bank of channel k. -/
def Dmc.isThrottled (c : Dmc) (mid : MasterId) (bank : Nat) : Bool :=
  c.throttled.any (fun t => t.mid == mid && t.banks.any (fun b => b.1 == bank))

/-- The TIME at which a throttled master's last throttling ends. -/
def Throttled.till (t : Throttled) : Nat := t.banks.foldl (fun acc b => max acc b.2) 0

/-- R300: the requester index of a request at a DRAM front end. -/
def dramRequester (mid : MasterId) (rt : Bool) : Nat :=
  let m := mid.toNat
  if rt then 0
  else if m < 256 then 1
  else if m < 320 then 2
  else if m < 328 then 3
  else if 330 ≤ m ∧ m ≤ 345 then 4
  else if m = 346 then 6
  else 5

/-- The requester of an access. -/
def LineReq.requester (q : LineReq) : Nat := dramRequester q.mid q.rt

/-- R300: what waits before the input queues enters them in order while its requester's queue holds fewer than 16; RT and bulk requests
wait on channels of their own. -/
def Dmc.fill (c : Dmc) : Dmc :=
  (c.wait.foldl (fun (acc : Dmc × List Bool) q =>
    if acc.2.contains q.rt then ({ acc.1 with wait := acc.1.wait ++ [q] }, acc.2)
    else if (acc.1.inq.filter (fun x => x.requester == q.requester)).length < 16 then ({ acc.1 with inq := acc.1.inq ++ [q] }, acc.2)
    else ({ acc.1 with wait := acc.1.wait ++ [q] }, q.rt :: acc.2)) ({ c with wait := [] }, [])).1

/-- R307: requests of throttled masters move from the input queues to the 4-entry throttle buffer; a requester's queue stops at one that
finds the buffer full. -/
def Dmc.moveThrottled (c : Dmc) : Dmc :=
  (c.inq.foldl (fun (acc : Dmc × List Nat) q =>
    if !(acc.2.contains q.requester) ∧ c.isThrottled q.mid (bankOf q.lam) then
      if acc.1.thrBuf.length < 4 then ({ acc.1 with thrBuf := acc.1.thrBuf ++ [q] }, acc.2)
      else ({ acc.1 with inq := acc.1.inq ++ [q] }, q.requester :: acc.2)
    else ({ acc.1 with inq := acc.1.inq ++ [q] }, acc.2)) ({ c with inq := [] }, [])).1

/-- R300, R307: the queues of channel k take what they can. -/
def State.dramQueues (s : State) (k : Nat) : State := s.modDmc k (fun c => c.moveThrottled.fill.moveThrottled)

/-- R307: a master is throttled at a bank; a ninth master's entry replaces the one with the least time left. -/
def State.throttle (s : State) (k : Nat) (mid : MasterId) (bank : Nat) : State :=
  let dur := s.fld F.DMC_RD_DUR k
  if dur = 0 then s
  else
    let till := s.now + dur * 6400
    let ts := (s.dmc k).throttled
    match ts.find? (fun t => t.mid == mid) with
    | some t =>
      let t' : Throttled := { t with banks := t.banks.filter (fun b => b.1 != bank) ++ [(bank, till)] }
      (s.modDmc k (fun c => { c with throttled := ts.map (fun x => if x.mid = mid then t' else x) })).dramQueues k
    | none =>
      let x : Throttled := { mid := mid, banks := [(bank, till)] }
      if ts.length < 8 then (s.modDmc k (fun c => { c with throttled := ts ++ [x] })).dramQueues k
      else
        let low := ts.foldl (fun acc t => min acc t.till) ((ts.head?.map (·.till)).getD 0)
        let i := (ts.findIdx? (fun t => t.till == low)).getD 0
        ((s.modDmc k (fun c => { c with throttled := ts.set i x })).dramQueues k).raise F.DMC_STATUS_THRFULL k

/-- R306: the rows next to a row that exist. -/
def State.neighbours (s : State) (row : Nat) : Nat :=
  bit (2 ≤ row) + bit (1 ≤ row) + bit (row + 1 < s.chanLines / 2048) + bit (row + 2 < s.chanLines / 2048)

/-- R306: an entry reached THRESH by an activate for line lam. -/
def State.rowDisturbance (s : State) (k : Nat) (mid : MasterId) (rt : Bool) (bank row lam : Nat) : State :=
  let s := if rt then s else s.throttle k mid bank
  let w : Word := BitVec.ofNat 64 (2 ^ 63 + mid.toNat * 2 ^ 42 + bank * 2 ^ 38 + row * 2 ^ 24)
  let s := ((s.setReg .DMC_RDLOG w k).count F.DMC_CNT_RDEV k).raise F.DMC_STATUS_RDEV k
  let s := if s.flag F.DMC_RD_NREF k then s.pmonEvent (64 + k) 0x20 0 (s.neighbours row) else s
  s.logErr { kind := 2, inst := k, cls := 0x07, mid := some mid, loc := lam + 0x3FF * 2 ^ 32, data := w }

/-- R305, R306: an activate for a master is counted. -/
def State.activate (s : State) (k : Nat) (mid : MasterId) (rt : Bool) (bank row lam : Nat) : State :=
  let th := s.fld F.DMC_RD_THRESH k
  if th = 0 then s
  else
    let q := noteActivate ((s.dmc k).acts.get bank []) row
    if th ≤ q.2 then
      let tbl := q.1.map (fun e => if e.1 = row then (row, 0) else e)
      (s.modDmc k (fun c => { c with acts := c.acts.set bank tbl [] })).rowDisturbance k mid rt bank row lam
    else s.modDmc k (fun c => { c with acts := c.acts.set bank q.1 [] })

/-- R302: an access of a line opens its row where it is not open, and leaves it open or closes it. -/
def State.touchRow (s : State) (k : Nat) (q : LineReq) (queue : List LineReq) : State :=
  let bank := bankOf q.lam
  let row := rowOf q.lam
  let isOpen : Option Nat := (s.dmc k).openRow.get bank none
  let page := s.fld F.DMC_CTRL_PAGE k
  let s := match isOpen with
    | some r =>
      if page = 0 then
        let h := (s.dmc k).pred.get bank 0
        s.modDmc k (fun c => { c with pred := c.pred.set bank (if r = row then min (h + 1) 3 else h - 1) 0 })
      else s
    | none => s
  let s : State := if isOpen = some row then s.pmonEvent (64 + k) 0x21 0 1
    else
      let s := (s.activate k q.mid q.rt bank row q.lam).pmonEvent (64 + k) 0x20 0 1
      if isOpen.isSome then s.pmonEvent (64 + k) 0x22 0 1 else s
  let keep : Bool :=
    if page = 1 then false
    else if page = 2 then true
    else queue.any (fun x => bankOf x.lam == bank && rowOf x.lam == row) || decide (2 ≤ (s.dmc k).pred.get bank 0)
  s.modDmc k (fun c => { c with openRow := c.openRow.set bank (if keep then some row else none) none })

/-- R302, R305: an access that the datapath makes of a counter line for a master, which activates its row as the master's own does. -/
def State.touchLine (s : State) (who : Option (MasterId × Bool)) (k lam : Nat) : State :=
  match who with
  | some m => s.touchRow k { xid := 0, first := 0, mid := m.1, rt := m.2, lam := lam, kind := .read, mask := 0xFF } (s.dmc k).sched
  | none => s

end Sys2Proof.Machine
end

