-- ==== Sys2Proof/Machine/Ice.lean ====
section
/-!
DEFINITION. The inline-crypto engine (chapter 12): regions, keystream and tags, the counter tree with each datapath's cache, rebuilds,
regrouping, rekeying, lock-down and link keys.
-/
namespace Sys2Proof.Machine

open Sys2Proof

/-! ### Keystream and tags -/

/-- R318: the input block X. -/
def xblock (addr c typ j : Nat) : BitVec 128 :=
  BitVec.ofNat 128 (addr / 64 % 2 ^ 42 * 2 ^ 86 + c % 2 ^ 64 * 2 ^ 22 + typ % 4 * 4 + j % 4)

/-- R318: the keystream of a line. -/
def keystream (key : BitVec 256) (addr c : Nat) : BitVec 512 :=
  (List.range 4).foldl (fun acc j => acc ||| ((aes256 key (xblock addr c 0 j)).setWidth 512 <<< (128 * j))) 0#512

/-- R319: the 16-bit tag of a line's stored data: type 1 for data under KD, type 2 for a counter block under KT. -/
def lineTag (key : BitVec 256) (typ addr c : Nat) (d : BitVec 512) : BitVec 16 :=
  (ghash (aes256 key 0) ((List.range 4).map (fun j => d.extractLsb' (128 * j) 128)) ^^^
    aes256 key (xblock addr c typ 0)).setWidth 16

/-! ### Regions -/

/-- States of a region (ICE_RSTAT). -/
def iceOff : Nat := 0
def iceInit : Nat := 1
def iceReady : Nat := 2
def iceRekey : Nat := 3
def iceLocked : Nat := 4
def iceKeywait : Nat := 5

/-- The state of region r. -/
def State.iceState (s : State) (r : Nat) : Nat := s.fld F.ICE_RSTAT_STATE 0 r
/-- Set the state of region r. -/
def State.setIceState (s : State) (r v : Nat) : State := s.setFld F.ICE_RSTAT_STATE v 0 r

/-- R315: lines of region r on each channel. -/
def State.iceLines (s : State) (r : Nat) : Nat := 16384 * s.fld F.ICE_RCFG_SIZE 0 r
/-- R320: region r uses the split scheme. -/
def State.iceSplit (s : State) (r : Nat) : Bool := s.flag F.ICE_RCFG_SCHEME 0 r

/-- R315: the enabled region of a line with its channel-local index μ. -/
def State.regionOf (s : State) (lam : Nat) : Option (Nat × Nat) :=
  (List.range 16).findSome? (fun r =>
    let b := 16384 * s.fld F.ICE_RCFG_BASE 0 r
    if s.flag F.ICE_RCFG_EN 0 r ∧ b ≤ lam ∧ lam < b + s.iceLines r then some (r, lam - b) else none)

/-- The keys of region r. -/
def State.iceKeys (s : State) (r : Nat) : IceKeys := s.ice.keys.get r {}

/-- A 32-byte entry of the secure bank, word w in [64w + 63:64w]. -/
def State.bankKey (s : State) (off : Nat) : BitVec 256 :=
  (List.range 4).foldl (fun acc w => acc ||| ((decode64 (s.bankCell (off / 8 + w))).data.setWidth 256 <<< (64 * w))) 0#256

/-- R331: the keys of region r are loaded from the secure bank. -/
def State.loadRegionKeys (s : State) (r : Nat) : State :=
  let b := 0x80 * r
  let k : IceKeys := { kd0 := s.bankKey b, kd1 := s.bankKey (b + 0x20), kt := s.bankKey (b + 0x40) }
  { s with ice := { s.ice with keys := s.ice.keys.set r k {} } }

/-- The data key in a slot. -/
def IceKeys.kd (k : IceKeys) (slot : Nat) : BitVec 256 := if slot = 0 then k.kd0 else k.kd1

/-- R329: the data key of line μ of region r on channel k: the new key below the boundary of a rekey. -/
def State.dataKey (s : State) (r k mu : Nat) : BitVec 256 :=
  let cur := s.fld F.ICE_RSTAT_KSEL 0 r
  let slot := if s.iceState r = iceRekey ∧ mu < s.fld F.ICE_BND_B 0 r k then 1 - cur else cur
  (s.iceKeys r).kd slot

/-! ### Roots (R321) -/

/-- The key of root entry j of region r on channel k. -/
def rootKey (r k j : Nat) : Nat := (12 * r + k) * 128 + j
/-- A root counter. -/
def State.root (s : State) (r k j : Nat) : Nat := (s.ice.roots.get (rootKey r k j) 0).toNat
/-- Set a root counter and its mirror in the secure bank. -/
def State.setRoot (s : State) (r k j v : Nat) : State :=
  let w : Word := BitVec.ofNat 64 v
  let s := { s with ice := { s.ice with roots := s.ice.roots.set (rootKey r k j) w 0 } }
  s.setBankCell ((0x10000 + 0x3000 * r + 0x400 * k) / 8 + j) (encode64 w)

/-- R321: the high-water mark. -/
def State.hw (s : State) (r k : Nat) : Nat := s.root r k 127
/-- Raise the high-water mark to v where it is lower. -/
def State.raiseHw (s : State) (r k v : Nat) : State := if s.hw r k < v then s.setRoot r k 127 v else s

/-- R317: every root of region r is zeroed. -/
def State.zeroRoots (s : State) (r : Nat) : State :=
  let p (n : Nat) : Bool := n / (12 * 128) == r
  let s := { s with ice := { s.ice with roots := s.ice.roots.clear p } }
  let lo := (0x10000 + 0x3000 * r) / 8
  { s with sbk := s.sbk.clear (fun n => lo ≤ n && n < lo + 12 * 128) }

/-! ### Counter blocks (R320) -/

/-- Blocks at each level, from level 1 upward, until a level has at most 127. -/
def levelSizes : Nat → Nat → List Nat
  | 0, n => [n]
  | f + 1, n => if n ≤ 127 then [n] else n :: levelSizes f ((n + 7) / 8)

/-- The levels of region r on a channel. -/
def State.iceLevels (s : State) (r : Nat) : List Nat :=
  levelSizes 10 (s.iceLines r / (if s.iceSplit r then 64 else 8))

/-- Lines of a block at a level (0: level 1). -/
def State.blockWidth (s : State) (r lvl : Nat) : Nat := if lvl = 0 ∧ s.iceSplit r then 2 else 1

/-- The first line of block i at a level. -/
def State.blockLine (s : State) (r lvl i : Nat) : Nat :=
  let before := (List.range lvl).foldl (fun acc l => acc + (s.iceLevels r).getD l 0 * s.blockWidth r l) 0
  16384 * s.fld F.ICE_RCFG_CBASE 0 r + before + i * s.blockWidth r lvl

/-- The level-1 block of line μ. -/
def State.leafBlock (s : State) (r mu : Nat) : Nat := mu / (if s.iceSplit r then 64 else 8)

/-- A counter block as read: whether it is bad (R324), and its contents, the second line of a pair above the first. -/
structure BlockRead where
  bad : Option Status := none
  body : BitVec 1024 := 0
  deriving DecidableEq, Repr

/-- Line h of a pair placed above line 0. -/
def placeLine (acc : BitVec 1024) (d : BitVec 512) (h : Nat) : BitVec 1024 :=
  if h = 0 then acc ||| d.setWidth 1024 else acc ||| (d ++ 0#512)

/-- Counter i of a block of eight. -/
def ctrAt (b : BitVec 1024) (i : Nat) : Nat := (b.extractLsb' (64 * i) 64).toNat
/-- Replace counter i of a block of eight. -/
def setCtr (b : BitVec 1024) (i v : Nat) : BitVec 1024 :=
  (setLineWord (b.setWidth 512) i (BitVec.ofNat 64 v)).setWidth 1024
/-- R320: the major of a split block. -/
def majorOf (b : BitVec 1024) : Nat := (b.extractLsb' 0 32).toNat
/-- R320: minor m of a split block. -/
def minorOf (b : BitVec 1024) (m : Nat) : Nat := (b.extractLsb' (8 * m + 32) 8).toNat
/-- Replace minor m. -/
def setMinor (b : BitVec 1024) (m v : Nat) : BitVec 1024 :=
  (b &&& ~~~ (0xFF#1024 <<< (8 * m + 32))) ||| (BitVec.ofNat 1024 (v % 256) <<< (8 * m + 32))

/-- R318: the counter C of line μ that a level-1 block holds. -/
def State.leafCounter (s : State) (r mu : Nat) (b : BitVec 1024) : Nat :=
  if s.iceSplit r then majorOf b * 256 + minorOf b (mu % 64) else ctrAt b (mu % 8)

/-- Who makes an access: the master and whether its request is of the RT class; none: no master does. -/
abbrev Who : Type := Option (MasterId × Bool)

/-- R319, R323, R324: block i of a level is read from DRAM and verified under its parent's counter c. -/
def State.readBlock (s : State) (who : Who) (r k lvl i c : Nat) : BlockRead × State :=
  let lam := s.blockLine r lvl i
  let hs := List.range (s.blockWidth r lvl)
  let ds : List (Nat × DecodedLine) := hs.map (fun h => (lam + h, decodeLine (s.line k (lam + h))))
  let t := ds.foldl (fun acc x => (acc.touchLine who k x.1).noteLine k x.1 (who.map (·.1)) x.2) s
  let body : BitVec 1024 := ds.foldl (fun acc x => placeLine acc x.2.data (x.1 - lam)) 0#1024
  let kt := (s.iceKeys r).kt
  let bad : Option Status :=
    if ds.any (fun x => x.2.poison) then some .epoison
    else if ds.any (fun x => x.2.spare != lineTag kt 2 (s.lineAddr k x.1) c x.2.data) then some .einteg
    else none
  ({ bad := bad, body := body }, t)

/-- R319: a counter block is written to DRAM with a fresh tag under its parent's counter c. -/
def State.writeBlock (s : State) (who : Who) (r k lvl i c : Nat) (body : BitVec 1024) : State :=
  let lam := s.blockLine r lvl i
  let kt := (s.iceKeys r).kt
  s.forAll (List.range (s.blockWidth r lvl)) (fun acc h =>
    let d : BitVec 512 := body.extractLsb' (512 * h) 512
    (acc.touchLine who k (lam + h)).setLine k (lam + h) (storeLine d (lineTag kt 2 (acc.lineAddr k (lam + h)) c d) false))

/-! ### The counter cache (R322) -/

/-- The entry is block i of a level of region r. -/
def CtrBlk.is (b : CtrBlk) (r lvl i : Nat) : Bool := b.region == r && b.lvl == lvl && b.i == i

/-- R322: a block as channel k's cache holds it, verified. -/
def State.cachedCtr (s : State) (r k lvl i : Nat) : Option (BitVec 1024) :=
  ((s.dmc k).ctrs.find? (fun b => b.is r lvl i)).map (·.body)

/-- A block enters the cache or changes there; it stays to be written back once it is dirty. -/
def State.putCtr (s : State) (r k lvl i : Nat) (body : BitVec 1024) (dirty : Bool) : State :=
  s.modDmc k (fun c =>
    if c.ctrs.any (fun b => b.is r lvl i) then
      { c with ctrs := c.ctrs.map (fun b => if b.is r lvl i then { b with body := body, dirty := b.dirty || dirty } else b) }
    else { c with ctrs := c.ctrs ++ [{ region := r, lvl := lvl, i := i, body := body, dirty := dirty }] })

/-- The entries of region r leave the caches, and nothing of them is written back. -/
def State.dropCtrs (s : State) (r : Nat) : State :=
  s.forAll (List.range 12) (fun acc k => acc.modDmc k (fun c => { c with ctrs := c.ctrs.filter (fun b => b.region != r) }))

/-- R320: the counter of block i of a level rises in its parent block, which the cache holds, or in its root; the new counter. -/
def State.bumpParent (s : State) (r k lvl i : Nat) : Nat × State :=
  if (s.iceLevels r).length ≤ lvl + 1 then
    let c := s.root r k i + 1
    (c, s.setRoot r k i c)
  else
    let body := (s.cachedCtr r k (lvl + 1) (i / 8)).getD 0
    let c := ctrAt body (i % 8) + 1
    (c, s.putCtr r k (lvl + 1) (i / 8) (setCtr body (i % 8) c) true)

/-- R326: the contents that a rebuild gives a bad block: HW in every counter, or HW as the major. -/
def State.rebuiltBody (s : State) (r lvl hw : Nat) : BitVec 1024 :=
  if lvl = 0 ∧ s.iceSplit r then BitVec.ofNat 1024 (hw % 2 ^ 32)
  else (List.range 8).foldl (fun acc i => setCtr acc i hw) 0#1024

/-- R326: a bad block is rebuilt and written under its parent's next counter. -/
def State.rebuildBlock (s : State) (who : Who) (r k lvl i : Nat) : BitVec 1024 × State :=
  let h := s.hw r k + 1
  let body := s.rebuiltBody r lvl h
  let q := ((s.setRoot r k 127 h).count F.ICE_CNT_REBUILD 0 r).bumpParent r k lvl i
  (body, q.2.writeBlock who r k lvl i q.1 body)

/-- What a walk down a counter chain holds: the counter of the next block, the contents of the last one, why the chain is bad, and whether
the last block was rebuilt. -/
structure Walk where
  c : Nat
  bad : Option Status := none
  body : BitVec 1024 := 0
  rebuilt : Bool := false
  deriving DecidableEq, Repr

/-- The counter that a block holds for the next block on the way to block i of level lvl. -/
def nextCtr (body : BitVec 1024) (lvl i l : Nat) : Nat := ctrAt body (i / 8 ^ (l - 1 - lvl) % 8)

/-- R322, R324, R326: one level of a chain that the cache does not hold is read and verified; a bad block ends the walk, or is rebuilt
where a full-line write needs it. -/
def State.walkLevel (who : Who) (r k lvl i : Nat) (repair : Bool) (acc : Walk × State) (l : Nat) : Walk × State :=
  match acc.1.bad with
  | some _ => acc
  | none =>
    let j := i / 8 ^ (l - lvl)
    let q := acc.2.readBlock who r k l j acc.1.c
    match q.1.bad with
    | none => ({ c := nextCtr q.1.body lvl i l, body := q.1.body }, q.2.putCtr r k l j q.1.body false)
    | some e =>
      if repair then
        let n := q.2.rebuildBlock who r k l j
        ({ c := nextCtr n.1 lvl i l, body := n.1, rebuilt := true }, n.2.putCtr r k l j n.1 false)
      else ({ acc.1 with bad := some e }, q.2)

/-- R322: block i of a level, from the cache, or read and verified downward from the lowest block of its chain that the cache holds, or
from the root. -/
def State.fetchCtr (s : State) (who : Who) (r k lvl i : Nat) (repair : Bool) : Walk × State :=
  let n := (s.iceLevels r).length
  let path := (List.range (n - lvl)).map (· + lvl)
  match path.findSome? (fun l => (s.cachedCtr r k l (i / 8 ^ (l - lvl))).map (fun b => (l, b))) with
  | some (l, b) =>
    ((path.filter (· < l)).reverse).foldl (State.walkLevel who r k lvl i repair) ({ c := nextCtr b lvl i l, body := b }, s)
  | none =>
    (path.reverse).foldl (State.walkLevel who r k lvl i repair) ({ c := s.root r k (i / 8 ^ (n - 1 - lvl)) }, s)

/-- R322: a dirty block is written back with a fresh tag under its parent's next counter. -/
def State.writeBackCtr (s : State) (who : Who) (k : Nat) (b : CtrBlk) : State :=
  let s := if (s.iceLevels b.region).length ≤ b.lvl + 1 then s else (s.fetchCtr who b.region k (b.lvl + 1) (b.i / 8) true).2
  let q := s.bumpParent b.region k b.lvl b.i
  q.2.writeBlock who b.region k b.lvl b.i q.1 b.body

/-- An entry leaves the cache of channel k. -/
def State.evictCtr (s : State) (who : Who) (k : Nat) (b : CtrBlk) : State :=
  let t := s.modDmc k (fun c => { c with ctrs := c.ctrs.erase b })
  if b.dirty then t.writeBackCtr who k b else t

/-- The counter lines that the cache of channel k holds. -/
def State.ctrLines (s : State) (k : Nat) : Nat := (s.dmc k).ctrs.foldl (fun n b => n + s.blockWidth b.region b.lvl) 0

/-- R322: the cache is brought down to 512 lines; which entry leaves first is open (a free value). By fuel. -/
def State.trimCtrs (s : State) (who : Who) (k : Nat) : Nat → State
  | 0 => s
  | f + 1 =>
    if s.ctrLines k ≤ 512 then s
    else
      let v := s.fresh 16
      match (s.dmc k).ctrs[v.1.toNat % (s.dmc k).ctrs.length]? with
      | some b => State.trimCtrs (v.2.evictCtr who k b) who k f
      | none => s

/-- Before DM_k goes off every dirty block is written back and the cache is empty (R321: the roots' copies in the bank are current). The
lowest levels go first, as their write-backs change the levels above. -/
def State.flushCtrs (s : State) (k : Nat) : State :=
  (List.range 10).foldl (fun acc l =>
    ((acc.dmc k).ctrs.filter (fun b => b.lvl == l)).foldl (fun a b => a.evictCtr none k b) acc) s

/-- The fuel of a trim: no operation leaves more entries than this beyond the cache's size. -/
def trimFuel : Nat := 1024

/-- R322 to R324: the level-1 block of line μ, verified. -/
def State.iceWalk (s : State) (who : Who) (r k mu : Nat) : Walk × State :=
  let q := s.fetchCtr who r k 0 (s.leafBlock r mu) false
  ({ q.1 with c := s.leafCounter r mu q.1.body }, q.2.trimCtrs who k trimFuel)

/-- R325: every line of a group that verifies is decrypted and encrypted again under the new major. -/
def State.regroupLines (s : State) (r k mu0 : Nat) (old : BitVec 1024) (major : Nat) : State :=
  s.forAll (List.range 64) (fun acc m =>
    let lam := 16384 * acc.fld F.ICE_RCFG_BASE 0 r + mu0 + m
    let a := acc.lineAddr k lam
    let key := acc.dataKey r k (mu0 + m)
    let d := decodeLine (acc.line k lam)
    let c := majorOf old * 256 + minorOf old m
    if d.poison ∨ d.spare ≠ lineTag key 1 a c d.data then acc
    else
      let e := d.data ^^^ keystream key a c ^^^ keystream key a (major * 256)
      acc.setLine k lam (storeLine e (lineTag key 1 a (major * 256) e) false))

/-- The counter of line μ in a level-1 block after its increment, regrouping where the minor is 255 (R320, R325). -/
def State.leafIncrement (s : State) (r k mu : Nat) (body : BitVec 1024) : BitVec 1024 × State :=
  if s.iceSplit r then
    let m := mu % 64
    let q : BitVec 1024 × State :=
      if minorOf body m = 255 then
        let major := max (majorOf body) (s.hw r k) + 1
        let t := (s.regroupLines r k (mu / 64 * 64) body major).count F.ICE_CNT_REGROUP 0 r
        (setMinor (BitVec.ofNat 1024 (major % 2 ^ 32)) m 1, t)
      else (setMinor body m (minorOf body m + 1), s)
    let t := q.2.raiseHw r k (majorOf q.1)
    (q.1, if 2 ^ 32 - 2 ^ 24 < majorOf q.1 then t.raise F.ICE_RSTAT_MAJWARN 0 r else t)
  else
    let v := ctrAt body (mu % 8) + 1
    (setCtr body (mu % 8) v, s.raiseHw r k v)

/-- R320, R322, R323, R326: a write of line μ increments its counter in the cached level-1 block; bad blocks of its chain are rebuilt.
Answers the line's new counter. -/
def State.iceAdvance (s : State) (who : Who) (r k mu : Nat) : Nat × State :=
  let leaf := s.leafBlock r mu
  let q := s.fetchCtr who r k 0 leaf true
  let l := q.2.leafIncrement r k mu q.1.body
  (s.leafCounter r mu l.1, (l.2.putCtr r k 0 leaf l.1 true).trimCtrs who k trimFuel)

/-- R325: a write of line μ would need a major above 2^32 - 1, as a rebuilt block's or as its group's next. -/
def State.iceMajorFull (s : State) (r k mu : Nat) : Bool :=
  s.iceSplit r &&
    (let q := s.fetchCtr none r k 0 (s.leafBlock r mu) true
     (q.1.rebuilt && decide (2 ^ 32 ≤ q.2.hw r k)) ||
       (minorOf q.1.body (mu % 64) == 255 && decide (2 ^ 32 ≤ max (majorOf q.1.body) (q.2.hw r k) + 1)))

/-! ### Integrity failures (R324, R327) -/

/-- R324, R327: an integrity failure is counted and logged, and the region locks down after LKTH of them within LKWIN ms. -/
def State.integrityFailure (s : State) (mid : Option MasterId) (r k mu lam : Nat) : State :=
  let s := (s.count F.ICE_CNT_INTEG 0 r).logErr
    { kind := 6, inst := r, cls := 0x08, mid := mid, addr := s.lineAddr k lam, loc := mu + k * 2 ^ 32 }
  let win := s.fld F.ICE_LOCK_LKWIN * 6400000
  let ts := ((s.ice.failTimes.get r []) ++ [s.now]).filter (fun t => s.now ≤ t + win)
  let th := s.fld F.ICE_LOCK_LKTH
  if th ≠ 0 ∧ th ≤ ts.length ∧ s.iceState r ≠ iceLocked then
    let s := { s with ice := { s.ice with
      failTimes := s.ice.failTimes.set r [] [], before := s.ice.before.set r (s.iceState r) 0,
      lockIrq := s.ice.lockIrq.set r true false } }
    (s.setIceState r iceLocked).count F.ICE_CNT_LOCKS 0 r
  else { s with ice := { s.ice with failTimes := s.ice.failTimes.set r ts [] } }

/-! ### Data lines of a region -/

/-- What a read of an encrypted line found: its plaintext, or why there is none. -/
structure PlainRead where
  status : Status := .ok
  data : BitVec 512 := 0
  poison : Bool := false
  kind : CodeKind := .clean
  deriving DecidableEq, Repr

/-- R295, R323, R324: read line μ of region r: correct, verify the chain and the tag, decrypt. The data of a line that fails
is a free value where the manual states none. -/
def State.iceRead (s : State) (who : MasterId × Bool) (r k mu lam : Nat) : PlainRead × State :=
  let mid := who.1
  let d := decodeLine (s.line k lam)
  let s := s.noteLine k lam (some mid) d
  if d.poison then ({ status := .epoison, data := d.stored, poison := true, kind := d.kind }, s)
  else
    let w := s.iceWalk (some who) r k mu
    let s := w.2
    match w.1.bad with
    | some .einteg =>
      let v := s.fresh 512
      ({ status := .einteg, data := v.1, kind := d.kind }, v.2.integrityFailure (some mid) r k mu lam)
    | some _ => ({ status := .epoison, data := d.data, poison := true, kind := d.kind }, s)
    | none =>
      let key := s.dataKey r k mu
      let a := s.lineAddr k lam
      if d.spare ≠ lineTag key 1 a w.1.c d.data then
        let v := s.fresh 512
        ({ status := .einteg, data := v.1, kind := d.kind }, v.2.integrityFailure (some mid) r k mu lam)
      else ({ data := d.data ^^^ keystream key a w.1.c, kind := d.kind }, s)

/-- R323: write line μ of region r under its incremented counter; in the poison pattern where p. -/
def State.iceWrite (s : State) (who : MasterId × Bool) (r k mu lam : Nat) (data : BitVec 512) (p : Bool) : State :=
  let q := s.iceAdvance (some who) r k mu
  let s := q.2
  let key := s.dataKey r k mu
  let a := s.lineAddr k lam
  let e := data ^^^ keystream key a q.1
  s.setLine k lam (storeLine e (lineTag key 1 a q.1 e) p)

/-! ### Commands of the engine -/

/-- R329: a rekey of region r starts on every channel. -/
def State.startRekey (s : State) (r : Nat) : State :=
  let s := s.forAll (List.range 12) (fun acc k => acc.setFld F.ICE_BND_B 0 0 r k)
  let slot := 1 - s.fld F.ICE_RSTAT_KSEL 0 r
  let kk := s.iceKeys r
  let nk := s.bankKey (0x80 * r + 0x20 * slot)
  let kk : IceKeys := if slot = 0 then { kk with kd0 := nk } else { kk with kd1 := nk }
  ({ s with ice := { s.ice with keys := s.ice.keys.set r kk {} } }).setIceState r iceRekey

/-- R325: a held write of a full major starts a rekey where none runs and a spare key is loaded. -/
def State.majorHeld (s : State) (r : Nat) : State :=
  if s.iceState r = iceReady ∧ s.flag F.ICE_RSTAT_SPARE 0 r then s.startRekey r else s

/-- R332: a write of ICE_CTRL. Answers the status. -/
def State.writeIceCtrl (s : State) (mid : MasterId) (v : Word) : Status × State :=
  let r := fldOf F.ICE_CTRL_REGION v
  let kr := fldOf F.ICE_CTRL_KEYREADY v
  let rs := fldOf F.ICE_CTRL_RESUME v
  let ul := fldOf F.ICE_CTRL_UNLOCK v
  let rk := fldOf F.ICE_CTRL_REKEY v
  let bad := s.raise F.ICE_STATUS_CFGERR
  let st := s.iceState r
  if 1 < kr + rs + ul + rk then (.ok, bad)
  else if ul = 1 ∧ mid ≠ 328 then (.edeny, s)
  else if kr = 1 then (.ok, if st = iceReady then s.raise F.ICE_RSTAT_SPARE 0 r else bad)
  else if rs = 1 then (.ok, if st = iceKeywait then (s.loadRegionKeys r).setIceState r iceReady else bad)
  else if ul = 1 then
    if st = iceLocked then
      let s := s.setIceState r (s.ice.before.get r 0)
      (.ok, { s with ice := { s.ice with before := s.ice.before.set r 0 0, lockIrq := s.ice.lockIrq.set r false false } })
    else (.ok, bad)
  else if rk = 1 then
    (.ok, if st = iceReady ∧ s.flag F.ICE_RSTAT_SPARE 0 r then s.startRekey r else bad)
  else (.ok, s)

/-- R316: units of a region's counter area. -/
def counterUnits (size : Nat) (split : Bool) : Nat := if split then (size + 28) / 29 else (size + 6) / 7

/-- R316: two ranges of units overlap. -/
def overlaps (a b : Nat × Nat) : Bool := decide (a.1 < b.1 + b.2 ∧ b.1 < a.1 + a.2)

/-- R316: no range of a list overlaps a later one. -/
def disjointRanges : List (Nat × Nat) → Bool
  | [] => true
  | a :: t => t.all (fun b => !(overlaps a b)) && disjointRanges t

/-- R316: the regions and counter areas that the shadow values enable. -/
def State.iceRanges (s : State) : List (Nat × Nat) :=
  (List.range 16).flatMap (fun r =>
    if s.sfld F.ICE_RCFG_EN 0 r = 1 then
      let size := s.sfld F.ICE_RCFG_SIZE 0 r
      [(s.sfld F.ICE_RCFG_BASE 0 r, size),
       (s.sfld F.ICE_RCFG_CBASE 0 r, counterUnits size (s.sfld F.ICE_RCFG_SCHEME 0 r == 1))]
    else [])

/-- R316: a commit is good. -/
def State.iceCommitGood (s : State) : Bool :=
  let units := 1024 * s.fld F.DMC_ILV_CAP
  s.iceRanges.all (fun x => x.1 + x.2 ≤ units) && disjointRanges s.iceRanges &&
    (List.range 16).all (fun r =>
      (s.sfld F.ICE_RCFG_EN 0 r == 0 || s.sfld F.ICE_RCFG_SIZE 0 r != 0) &&
      (s.iceState r == iceOff ||
        (s.sfld F.ICE_RCFG_BASE 0 r == s.fld F.ICE_RCFG_BASE 0 r && s.sfld F.ICE_RCFG_SIZE 0 r == s.fld F.ICE_RCFG_SIZE 0 r &&
         s.sfld F.ICE_RCFG_CBASE 0 r == s.fld F.ICE_RCFG_CBASE 0 r &&
         s.sfld F.ICE_RCFG_SCHEME 0 r == s.fld F.ICE_RCFG_SCHEME 0 r)))

/-- R316, R317: ICE_COMMIT.GO. -/
def State.iceCommit (s : State) : State :=
  if s.iceCommitGood then
    (s.commitBlock .ICE).forAll (List.range 16) (fun acc r =>
      if acc.flag F.ICE_RCFG_EN 0 r then
        if acc.iceState r = iceOff then (acc.loadRegionKeys r).setIceState r iceInit else acc
      else if acc.iceState r = iceOff then acc
      else ((acc.dropCtrs r).zeroRoots r).setIceState r iceOff)
  else s.raise F.ICE_STATUS_CFGERR

/-- R317: initialisation of region r on channel k: encrypted zeros with counter 0, every counter block, the roots. -/
def State.initRegionChannel (s : State) (r k : Nat) : State :=
  let s := s.forAll (List.range (s.iceLines r)) (fun acc mu =>
    let lam := 16384 * acc.fld F.ICE_RCFG_BASE 0 r + mu
    let a := acc.lineAddr k lam
    let key := acc.dataKey r k mu
    let e := keystream key a 0
    acc.setLine k lam (storeLine e (lineTag key 1 a 0 e) false))
  s.forAll (List.range (s.iceLevels r).length) (fun acc lvl =>
    acc.forAll (List.range ((s.iceLevels r).getD lvl 0)) (fun b i => b.writeBlock none r k lvl i 0 0#1024))

/-- R317: the re-encryption engine finishes initialising region r. -/
def State.regionInitComplete (s : State) (r : Nat) : State :=
  if s.iceState r = iceInit then
    ((((s.dropCtrs r).zeroRoots r).forAll (List.range 12) (fun acc k => acc.initRegionChannel r k))).setIceState r iceReady
  else s

/-- Line lam of a channel lies in the counter area of an enabled region (R316): its spare bits hold a tag (R319). -/
def State.inCounterArea (s : State) (lam : Nat) : Bool :=
  (List.range 16).any (fun r =>
    let b := 16384 * s.fld F.ICE_RCFG_CBASE 0 r
    s.flag F.ICE_RCFG_EN 0 r && decide (b ≤ lam ∧ lam < b + 16384 * counterUnits (s.fld F.ICE_RCFG_SIZE 0 r) (s.iceSplit r)))

/-- R294, R323: the spare bits with which the corrected form of a line is written back: unchanged where they hold a tag. -/
def State.spareBack (s : State) (lam : Nat) (spare : BitVec 16) : BitVec 16 :=
  if (s.regionOf lam).isSome || s.inCounterArea lam then spare else 0

/-- R329: one line of a rekey: decrypted under the old key, encrypted under the new key with counter 0. A line that fails
verification keeps its ciphertext. -/
def State.rekeyLine (s : State) (r k mu c : Nat) : State :=
  let lam := 16384 * s.fld F.ICE_RCFG_BASE 0 r + mu
  let a := s.lineAddr k lam
  let cur := s.fld F.ICE_RSTAT_KSEL 0 r
  let old := (s.iceKeys r).kd cur
  let new := (s.iceKeys r).kd (1 - cur)
  let d := decodeLine (s.line k lam)
  if d.poison ∨ d.spare ≠ lineTag old 1 a c d.data then s
  else
    let e := d.data ^^^ keystream old a c ^^^ keystream new a 0
    s.setLine k lam (storeLine e (lineTag new 1 a 0 e) false)

/-- R329: the level-1 block of line μ, which the walk has verified, is rewritten with zeros for what has been rekeyed. -/
def State.rekeyBlock (s : State) (r k mu : Nat) (body : BitVec 1024) : State :=
  s.putCtr r k 0 (s.leafBlock r mu) (if s.iceSplit r then 0#1024 else setCtr body (mu % 8) 0) true

/-- Master 346, the re-encryption engine (R30). -/
def reencryptor : Who := some (346, false)

/-- R329: every channel of region r is done: the new key becomes current. -/
def State.rekeyDone (s : State) (r : Nat) : State :=
  if (List.range 12).all (fun k => s.iceLines r ≤ s.fld F.ICE_BND_B 0 r k) then
    let s := s.forAll (List.range 12) (fun acc k => acc.setRoot r k 127 0)
    let s := s.setFld F.ICE_RSTAT_KSEL (1 - s.fld F.ICE_RSTAT_KSEL 0 r) 0 r
    (s.setFld F.ICE_RSTAT_SPARE 0 0 r).setIceState r iceReady
  else s

/-- R329: the re-encryption engine's next step of region r on channel k: one line, or one group in the split scheme. -/
def State.rekeyStep (s : State) (r k : Nat) : State :=
  let mu := s.fld F.ICE_BND_B 0 r k
  if s.iceState r = iceRekey ∧ mu < s.iceLines r ∧ k < 12 ∧ s.domOn (domDM k) then
    let n := if s.iceSplit r then 64 else 1
    let w := s.iceWalk reencryptor r k mu
    let t := match w.1.bad with
      | some _ => w.2
      | none =>
        let t := w.2.forAll (List.range n) (fun acc m => acc.rekeyLine r k (mu + m) (s.leafCounter r (mu + m) w.1.body))
        t.rekeyBlock r k mu w.1.body
    (t.setFld F.ICE_BND_B (mu + n) 0 r k).rekeyDone r
  else s

/-- Write 32 bytes of key into the secure bank as Mbana. -/
def State.writeKey (s : State) (off : Nat) (k : BitVec 256) : State :=
  (List.range 4).foldl (fun acc i => (acc.bankWrite 328 (off / 8 + i) (k.extractLsb' (64 * i) 64) false).2) s

/-- R331: Mbana's record of bridge b's link keys, and the bridge's entries in the secure bank. -/
def State.setLinkKeys (s : State) (b : Nat) (lk : LinkKeys) : State :=
  let o := 0x1000 + 0x80 * b
  let t := { s with mb := { s.mb with links := s.mb.links.set b lk {} } }
  (((t.writeKey o lk.txCur).writeKey (o + 0x20) lk.txNext).writeKey (o + 0x40) lk.rxCur).writeKey (o + 0x60) lk.rxNext

/-- R331: a direction of bridge b has switched to its next epoch: in the bridge's key registers and in the secure bank the next key becomes
the current one (when Mbana moves the entry: log entry 68). -/
def State.promoteKey (s : State) (b : Nat) (tx : Bool) : State :=
  let move (lk : LinkKeys) : LinkKeys := if tx then { lk with txCur := lk.txNext } else { lk with rxCur := lk.rxNext }
  let t := { s with ice := { s.ice with linkKeys := s.ice.linkKeys.set b (move (s.ice.linkKeys.get b {})) {} } }
  t.setLinkKeys b (move (s.mb.links.get b {}))

/-- R331: a bridge's link keys are transferred to its key registers. -/
def State.linkKeyTransfer (s : State) (b : Nat) : State :=
  if s.ice.linkDue.get b false then
    let o := 0x1000 + 0x80 * b
    let lk : LinkKeys :=
      { txCur := s.bankKey o, txNext := s.bankKey (o + 0x20), rxCur := s.bankKey (o + 0x40), rxNext := s.bankKey (o + 0x60) }
    { s with ice := { s.ice with
        linkKeys := s.ice.linkKeys.set b lk {}, linkDue := s.ice.linkDue.set b false false } }
  else s

end Sys2Proof.Machine
end

