-- ==== Sys2Proof/Machine/Dram.lean ====
section
/-!
DEFINITION. The DRAM channels (chapter 11): line accesses with codes, poison, encryption and atomics, row policy, row
disturbance and throttling, refresh, patrol, training, fills and rate changes.
-/
namespace Sys2Proof.Machine

open Sys2Proof

/-- The states of a channel (DMC_STATUS.STATE). -/
def dmcTrain : Nat := 1
def dmcFill : Nat := 2
def dmcReady : Nat := 3
def dmcTransition : Nat := 4
def dmcFailed : Nat := 5

/-- The state of channel k. -/
def State.dmcState (s : State) (k : Nat) : Nat := s.fld F.DMC_STATUS_STATE k
/-- Set the state of channel k. -/
def State.setDmcState (s : State) (k v : Nat) : State := s.setFld F.DMC_STATUS_STATE v k

/-- R385: checker test mode has DRAM channel k as its target. -/
def State.ckDram (s : State) (k : Nat) : Bool :=
  s.flag F.ERR_CKCTRL_EN && s.fld F.ERR_CKCTRL_KIND == 1 && s.fld F.ERR_CKCTRL_INST == k

/-- R391: the page of an address is retired. -/
def State.pageRetired (s : State) (a : Nat) : Bool :=
  (List.range 256).any (fun i => s.flag F.ERR_PRT_V 0 i && s.fld F.ERR_PRT_PAGE 0 i == a / 4096 % 2 ^ 36)

/-! ### Line accesses (R294 to R298, R304, R323, R385) -/

/-- What one line of a request answers: its eight words and the poison of each, and its status. -/
structure LineReply where
  status : Status := .ok
  data : BitVec 512 := 0
  poison : Bool := false
  deriving DecidableEq, Repr

/-- R296: the words of a write merged into a line's data. -/
def mergeLine (old : BitVec 512) (q : LineReq) : BitVec 512 :=
  (List.range 8).foldl (fun acc i =>
    if q.mask.getLsbD i then setLineWord acc i ((q.data.getD i (0, false)).1) else acc) old

/-- R297: a written word is poisoned. -/
def writesPoison (q : LineReq) : Bool :=
  (List.range 8).any (fun i => q.mask.getLsbD i && (q.data.getD i (0, false)).2)

/-- The first word of a line that a request touches. -/
def firstWord (q : LineReq) : Nat := lowBit q.mask

/-- R385: an access by master 328 or 329 to a channel in checker test mode. -/
def State.checkerLine (s : State) (k : Nat) (q : LineReq) : LineReply × State :=
  match q.kind with
  | .atomic _ => ({ status := .edeny }, s)
  | .reserved => ({ status := .edeny }, s)
  | .write =>
    if q.mask ≠ 0xFF then ({ status := .enarrow }, s)
    else if (s.regionOf q.lam).isSome then ({ status := .edeny }, s)
    else
      let ck := s.reg .ERR_CKDATA
      let check : BitVec 48 := ck.extractLsb' 0 48
      let spare : BitVec 16 := ck.extractLsb' 48 16
      ({}, s.setLine k q.lam (spare ++ (check ++ mergeLine 0 q)))
  | .read =>
    let l := s.line k q.lam
    ({ data := l.extractLsb' 0 512 }, s.setReg .ERR_CKRD (l.extractLsb' 512 64))

/-- R298: a read that corrected a bit schedules a write-back. -/
def State.scheduleCewb (s : State) (k lam : Nat) (kind : CodeKind) : State :=
  match kind with
  | .corrected _ =>
    if s.flag F.DMC_CTRL_CEWB k ∧ !(s.ckDram k) ∧ !((s.dmc k).cewb.contains lam) then
      s.modDmc k (fun c => { c with cewb := c.cewb ++ [lam] })
    else s
  | _ => s

/-- The data of a line as an access finds it: a plaintext line, or line μ of an encrypted region. -/
def State.readLine (s : State) (who : MasterId × Bool) (k lam : Nat) (reg : Option (Nat × Nat)) : PlainRead × State :=
  match reg with
  | some (r, mu) => s.iceRead who r k mu lam
  | none =>
    let d := decodeLine (s.line k lam)
    let s := s.noteLine k lam (some who.1) d
    ({ status := if d.poison then .epoison else .ok, data := d.data, poison := d.poison, kind := d.kind }, s)

/-- Store a line's data: plaintext, or line μ of an encrypted region. -/
def State.storeData (s : State) (who : MasterId × Bool) (k lam : Nat) (reg : Option (Nat × Nat)) (d : BitVec 512) (p : Bool) : State :=
  match reg with
  | some (r, mu) => s.iceWrite who r k mu lam d p
  | none => s.setLine k lam (storeLine d 0 p)

/-- Who makes an access. -/
def LineReq.who (q : LineReq) : MasterId × Bool := (q.mid, q.rt)

/-- R164, R166, R304: an atomic on a held line's data: what it answers, and the data after it; whether some atomic wrote. -/
def atomicOn (acc : BitVec 512 × Bool × List LineReply) (q : LineReq) : BitVec 512 × Bool × List LineReply :=
  let w := firstWord q
  let arg := q.data.getD w (0, false)
  if arg.2 then (acc.1, acc.2.1, acc.2.2 ++ [{ status := .epoison, data := acc.1 }])
  else match q.kind with
    | .atomic op => match atomicResult op (lineWord acc.1 w) arg.1 q.cmp with
      | none => (acc.1, acc.2.1, acc.2.2 ++ [{ data := acc.1 }])
      | some v => (setLineWord acc.1 w v, true, acc.2.2 ++ [{ data := acc.1 }])
    | _ => acc

/-- R304: an atomic and the queued atomics to its line that are adjacent to it are applied to the held line one by one, with one
write-back; where none writes, they are a read (R164). -/
def State.doAtomics (s : State) (k : Nat) (q : LineReq) (more : List LineReq) (reg : Option (Nat × Nat)) : List LineReply × State :=
  let r := s.readLine q.who k q.lam reg
  if r.1.status ≠ .ok then ((q :: more).map (fun _ => { status := r.1.status, data := r.1.data, poison := r.1.poison }), r.2)
  else
    let z := (q :: more).foldl atomicOn (r.1.data, false, [])
    (z.2.2, if z.2.1 then r.2.storeData q.who k q.lam reg z.1 false else r.2.scheduleCewb k q.lam r.1.kind)

/-- R296 to R298, R304, R323: a read, a write, or atomics of one line whose region accepts it. -/
def State.doLine (s : State) (k : Nat) (q : LineReq) (more : List LineReq) (reg : Option (Nat × Nat)) : List LineReply × State :=
  match q.kind with
  | .write =>
    if q.mask = 0xFF then ([{}], s.storeData q.who k q.lam reg (mergeLine 0 q) (writesPoison q))
    else
      let r := s.readLine q.who k q.lam reg
      if r.1.status = .ok then ([{}], r.2.storeData q.who k q.lam reg (mergeLine r.1.data q) (writesPoison q))
      else ([{ status := r.1.status }], r.2)
  | .read =>
    let r := s.readLine q.who k q.lam reg
    ([{ status := r.1.status, data := r.1.data, poison := r.1.poison }], r.2.scheduleCewb k q.lam r.1.kind)
  | .atomic _ => s.doAtomics k q more reg
  | .reserved => ([{ status := .edeny }], s)

/-- R385, R391, R317, R327, R328: what an access of one line, with the atomics that join it (R304), does. None: it is held (R325). Every
EINTEG counts and is logged, that of a locked region too (R324, R327). -/
def State.performLines (s : State) (k : Nat) (q : LineReq) (more queue : List LineReq) : Option (List LineReply × State) :=
  let all (r : LineReply) : List LineReply := (q :: more).map (fun _ => r)
  if s.pageRetired (s.lineAddr k q.lam) then some (all { status := .edead }, s)
  else if s.ckDram k ∧ isCheckerMaster q.mid then let c := s.checkerLine k q; some ([c.1], c.2)
  else match s.regionOf q.lam with
    | none => some ((s.touchRow k q queue).doLine k q more none)
    | some (r, mu) =>
      let st := s.iceState r
      if st = iceLocked then
        let v := s.fresh 512
        some (all { status := .einteg, data := v.1 },
          (q :: more).foldl (fun t x => t.integrityFailure (some x.mid) r k mu q.lam) v.2)
      else if st ≠ iceReady ∧ st ≠ iceRekey then some (all { status := .easleep }, s)
      else if q.kind ≠ .read ∧ s.iceMajorFull r k mu then none
      else some ((s.touchRow k q queue).doLine k q more (some (r, mu)))

/-- What an access of one line alone does. -/
def State.performLine (s : State) (k : Nat) (q : LineReq) (queue : List LineReq) : Option (LineReply × State) :=
  (s.performLines k q [] queue).map (fun x => (x.1.headD {}, x.2))

/-- The reply of a line goes to its request: words, poison, the failures by word index (R296, R262). -/
def Xact.takeLine (x : Xact) (q : LineReq) (r : LineReply) : Xact :=
  let f := firstWord q
  let n := countOnes q.mask
  let hasData : Bool := q.kind != .write
  let x := { x with left := x.left - 1 }
  let x := if r.status = .ok then x else { x with fails := x.fails ++ [(q.first, r.status)] }
  if hasData then
    (List.range n).foldl (fun (acc : Xact) i =>
      { acc with words := acc.words.set (q.first + i) (lineWord r.data (f + i)) 0,
                 poison := acc.poison.set (q.first + i) r.poison false }) x
  else x

/-- Change request number x. -/
def State.modXact (s : State) (x : Nat) (f : Xact → Xact) : State :=
  match s.xacts.get x none with
  | some v => { s with xacts := s.xacts.set x (some (f v)) none }
  | none => s

/-- R304: the atomics to the line of q that stand next in the queue. -/
def joinAtomics (q : LineReq) : List LineReq → List LineReq
  | [] => []
  | x :: t => match x.kind with
    | .atomic _ => if x.lam = q.lam then x :: joinAtomics q t else []
    | _ => []

/-- R304: the accesses that are performed with q, the first of a rest of the queue. -/
def State.lineGroup (s : State) (k : Nat) (q : LineReq) (rest : List LineReq) : List LineReq :=
  match q.kind with
  | .atomic _ => if s.ckDram k then [] else joinAtomics q rest
  | _ => []

/-- R296, R301, R303: the n-th access of a queue may be performed: no earlier one names its line or is of its request, whose lines go in
address order, and its bank does not wait for a postponed refresh. -/
def Dmc.mayPerform (c : Dmc) (n : Nat) (r : LineReq) : Bool :=
  !((c.sched.take n).any (fun x => x.lam == r.lam || (x.xid == r.xid && x.mid == r.mid))) && decide (c.postponed.get (bankOf r.lam) 0 < 8)

/-- R301: LINE_ACCESS: the n-th access of channel k's scheduler queue is performed, with the atomics that join it. -/
def State.lineAccess (s : State) (k n : Nat) : State :=
  let q := (s.dmc k).sched
  let st := s.dmcState k
  let active : Bool := st == dmcReady || (st == dmcTransition && (match (s.dmc k).trans with
    | some t => !t.quiesced | none => true))
  match q[n]? with
  | none => s
  | some r =>
    if !active ∨ !((s.dmc k).mayPerform n r) then s
    else
      let more := s.lineGroup k r (q.drop (n + 1))
      let rest := q.take n ++ q.drop (n + 1 + more.length)
      match s.performLines k r more rest with
      | none => match s.regionOf r.lam with
        | some (g, _) => s.majorHeld g
        | none => s
      | some (replies, t) =>
        ((r :: more).zip replies).foldl (fun acc x => acc.modXact x.1.xid (·.takeLine x.1 x.2)) (t.modDmc k (fun c => { c with sched := rest }))

/-- R301: the status of a queued line of a write is certain to be OK: a full line of a page in use, in plaintext or in a region that takes
writes. Only such a line counts as answered while it is queued (DEDUCED, log entry 67: R296 has the response carry the others'
status). -/
def State.lineSure (s : State) (k : Nat) (q : LineReq) : Bool :=
  q.mask == 0xFF && !(s.pageRetired (s.lineAddr k q.lam)) && !(s.ckDram k && isCheckerMaster q.mid) &&
    match s.regionOf q.lam with
    | none => true
    | some (r, _) => s.iceState r == iceReady || s.iceState r == iceRekey

/-- R298, R323: a scheduled write-back of a corrected line; dropped where a write to the line is queued. A line found uncorrectable by
now is counted and left (R314). -/
def State.cewbWriteBack (s : State) (k lam : Nat) : State :=
  if (s.dmc k).cewb.contains lam ∧ s.dmcState k = dmcReady ∧ !(s.ckDram k) then
    let s := s.modDmc k (fun c => { c with cewb := c.cewb.filter (fun x => x != lam) })
    if (s.dmc k).sched.any (fun x => x.lam == lam && x.kind != .read) then s
    else
      let d := decodeLine (s.line k lam)
      match d.kind with
      | .corrected _ => s.setLine k lam (storeLine d.data (s.spareBack lam d.spare) false)
      | .uncorrectable => s.noteLine k lam none d
      | _ => s
  else s

/-- R299: the patrol reads its next line. -/
def State.patrolRead (s : State) (k : Nat) : State :=
  if s.fld F.DMC_CTRL_PATROL k ≠ 0 ∧ s.dmcState k = dmcReady ∧ !(s.ckDram k) ∧ s.chanLines ≠ 0 then
    let lam := (s.dmc k).patrol
    let s := s.modDmc k (fun c => { c with patrol := (lam + 1) % s.chanLines })
    if s.pageRetired (s.lineAddr k lam) then s
    else
      let d := decodeLine (s.line k lam)
      match d.kind with
      | .clean => s
      | .poisonPattern => s
      | .uncorrectable => s.noteLine k lam none d
      | .corrected _ =>
        (s.noteLine k lam none d).setLine k lam (storeLine d.data (s.spareBack lam d.spare) false)
  else s

/-! ### Refresh, idle close, throttling -/

/-- R303: bank b has accesses in the scheduler queue. -/
def Dmc.queued (c : Dmc) (b : Nat) : Bool := c.sched.any (fun x => bankOf x.lam == b)

/-- R303: a refresh of bank b: its open row is precharged first. -/
def State.refreshBank (s : State) (k b : Nat) : State :=
  (s.modDmc k (fun c => { c with postponed := c.postponed.set b 0 0, openRow := c.openRow.set b none none })).pmonEvent (64 + k) 0x23 0 1

/-- R303: an interval passes for bank b's refresh, due in it or postponed before: it is postponed while the bank has queued accesses, by
at most 8 intervals, after which the bank takes no access until it is issued. -/
def State.refreshDue (s : State) (k b : Nat) : State :=
  let p := (s.dmc k).postponed.get b 0
  if (s.dmc k).queued b ∧ p < 8 then s.modDmc k (fun c => { c with postponed := c.postponed.set b (p + 1) 0 }) else s.refreshBank k b

/-- R303, R305: one refresh interval of channel k passes: the refreshes that are postponed and that of the next bank of the rotation are
issued or postponed; after 131,072 intervals every activate table clears. -/
def State.refresh (s : State) (k : Nat) : State :=
  if s.dmcState k ≠ dmcReady then s
  else
    let c := s.dmc k
    let due := (List.range 16).filter (fun b => b == c.refBank || c.postponed.get b 0 != 0)
    let n := c.refCount + 1
    let s := s.modDmc k (fun c => { c with refBank := (c.refBank + 1) % 16, refCount := n % 131072, acts := if n = 131072 then {} else c.acts })
    due.foldl (fun acc b => acc.refreshDue k b) s

/-- R302: a row idle for IDLE DRAM clocks is closed. -/
def State.rowIdleClose (s : State) (k b : Nat) : State :=
  if s.fld F.DMC_CTRL_IDLE k = 0 then s else s.modDmc k (fun c => { c with openRow := c.openRow.set b none none })

/-- R307: the throttle duration of a master at a bank expires. -/
def State.throttleEnd (s : State) (k : Nat) (mid : MasterId) (b : Nat) : State :=
  match (s.dmc k).throttled.find? (fun t => t.mid == mid) with
  | none => s
  | some t => match t.banks.find? (fun x => x.1 == b) with
    | none => s
    | some e =>
      ((s.atTime e.2).modDmc k (fun c => { c with throttled := (c.throttled.map (fun x =>
        if x.mid = mid then { x with banks := x.banks.filter (fun y => y.1 != b) } else x)).filter (fun x => !x.banks.isEmpty) })).dramQueues k

/-- R307: the next request of the throttle buffer is admitted. -/
def State.throttledAdmit (s : State) (k : Nat) : State :=
  match (s.dmc k).thrBuf with
  | [] => s
  | q :: rest =>
    if (s.dmc k).sched.length < 64 ∧ s.dmcState k = dmcReady then
      let s := s.atTime (s.dmc k).thrAt
      let next := s.now + s.fld F.DMC_RD_GAP k * (if s.flag F.DMC_STATUS_RATE k then 8 else 4)
      (s.modDmc k (fun c => { c with thrBuf := rest, thrAt := next, sched := c.sched ++ [q] })).dramQueues k
    else s

/-- R300, R307: the access that requester r offers to ARB: the first of its input queue, where that does not wait for the throttle
buffer. -/
def Dmc.offer (c : Dmc) (r : Nat) : Option LineReq :=
  match c.inq.find? (fun q => q.requester == r) with
  | some q => if c.isThrottled q.mid (bankOf q.lam) then none else some q
  | none => none

/-- R300: requester r's next access enters channel k's scheduler queue. None: nothing can be admitted. -/
def State.dramAdmit (s : State) (k r : Nat) : Option State :=
  let c := s.dmc k
  if s.dmcState k ≠ dmcReady then none
  else match c.offer r with
    | none => none
    | some q =>
      if c.sched.length < 64 then
        some ((s.modDmc k (fun x => { x with inq := x.inq.erase q, sched := x.sched ++ [q] })).dramQueues k)
      else none

/-! ### Start-up, fills, rate changes -/

/-- R308, R309: steps 1 to 6: the channel resets, calibrates and trains its lanes; fail: a lane fails training. At a
power-up whose contents the devices kept (R313), STATE 3 follows. -/
def State.dramTraining (s : State) (k : Nat) (fail : Bool) : State :=
  if s.dmcState k ≠ dmcTrain ∨ (s.dmc k).trained ∨ !(s.domOn (domDM k)) then s
  else if fail then
    let s := (s.setDmcState k dmcFailed).setFld F.DMC_STATUS_TRFAIL 1 k
    (s.setFld F.DMC_ILV_CAP 0).logErr { kind := 2, inst := k, cls := 0x06, loc := 0x3FF * 2 ^ 32 }
  else
    let s := s.modDmc k (fun c => { c with trained := true })
    if (s.dmc k).selfRefresh then (s.modDmc k (fun c => { c with selfRefresh := false })).setDmcState k dmcReady else s

/-- R310: every line of channel k is written with zeros. -/
def State.clearChannel (s : State) (k : Nat) : State := { s with dram := s.dram.clear (fun n => n / 2 ^ 25 == k) }

/-- R308: step 7: with training done and GO written, the fill starts. -/
def State.trainingComplete (s : State) (k : Nat) : State :=
  if s.dmcState k = dmcTrain ∧ (s.dmc k).trained ∧ s.ilvLocked then (s.clearChannel k).setDmcState k dmcFill else s

/-- R308, R310: a fill ends. -/
def State.dramFillComplete (s : State) (k : Nat) : State :=
  if s.dmcState k = dmcFill then s.setDmcState k dmcReady else s

/-- R308, R309, R314: a write of DMC_ILV through channel k: CAP is 0 while a channel has failed. Answers the status. -/
def State.writeIlv (s : State) (k : Nat) (v : Word) : Status × State :=
  let cap := fldOf F.DMC_ILV_CAP v
  let ilv := fldOf F.DMC_ILV_ILV v
  let go := fldOf F.DMC_ILV_GO v = 1
  if s.ilvLocked then
    if cap = s.fld F.DMC_ILV_CAP ∧ ilv = s.fld F.DMC_ILV_ILV then (.ok, s) else (.edeny, s)
  else if 2 < cap ∨ 4 < ilv then (.ok, s.raise F.DMC_STATUS_CFGERR k)
  else
    let failed : Bool := (List.range 12).any (fun j => s.dmcState j == dmcFailed)
    let s := (s.setFld F.DMC_ILV_CAP (if failed then 0 else cap)).setFld F.DMC_ILV_ILV ilv
    (.ok, if go then { s with ilvLocked := true } else s)

/-- R312: the limits of a timing set. -/
def timingGood (v : Word) : Bool :=
  let trc := fldOf F.DMC_TIM_TRC v
  let trl := fldOf F.DMC_TIM_TRL v
  decide (4 ≤ trc) && decide (4 ≤ trl ∧ trl ≤ 16) && fldOf F.DMC_TIM_TWL v == trl + 1 &&
    decide (trc ≤ fldOf F.DMC_TIM_TRFC v) && decide (64 ≤ fldOf F.DMC_TIM_TREFI v) && decide (16 ≤ fldOf F.DMC_TIM_TXS v)

/-- R310 to R312: a write of DMC_CMD. quiet: the channel's NI has ACCEPT = 0 and DRAINED = 1; user: user mode. -/
def State.writeDmcCmd (s : State) (k : Nat) (v : Word) (quiet user : Bool) : State :=
  let fill := fldOf F.DMC_CMD_FILL v
  let rt := fldOf F.DMC_CMD_RETRAIN v
  let sr := fldOf F.DMC_CMD_SETRATE v
  let bad := s.raise F.DMC_STATUS_CFGERR k
  if fill + rt + sr = 0 then s
  else if 1 < fill + rt + sr ∨ s.dmcState k ≠ dmcReady then bad
  else if fill = 1 then
    if quiet ∧ user then (s.clearChannel k).setDmcState k dmcFill else bad
  else
    let rate := if sr = 1 then fldOf F.DMC_CMD_RATE v else s.fld F.DMC_STATUS_RATE k
    if timingGood (s.shadowReg .DMC_TIM k rate) then
      (s.modDmc k (fun c => { c with trans := some { setrate := sr == 1, rate := rate } })).setDmcState k dmcTransition
    else s.raise F.DMC_STATUS_TIMERR k

/-- R311: step 2: the scheduler queue is empty, the banks are precharged and the devices enter self-refresh. -/
def State.transitionQuiesced (s : State) (k : Nat) : State :=
  match (s.dmc k).trans with
  | some t =>
    if (s.dmc k).sched.isEmpty ∧ !t.quiesced then
      s.modDmc k (fun c => { c with trans := some { t with quiesced := true }, openRow := {} })
    else s
  | none => s

/-- R311, R312: steps 3 to 7: DMC_TIM_r of the target rate takes its shadow values, and the channel returns to READY. -/
def State.transitionComplete (s : State) (k : Nat) : State :=
  match (s.dmc k).trans with
  | some t =>
    if t.quiesced then
      let s := s.setReg .DMC_TIM (s.shadowReg .DMC_TIM k t.rate) k t.rate
      ((s.setFld F.DMC_STATUS_RATE t.rate k).modDmc k (fun c => { c with trans := none })).setDmcState k dmcReady
    else s
  | none => s

/-! ### Power (R313) -/

/-- R301, R313: the writes that have been answered and stand in channel k's scheduler queue are performed, by fuel. -/
def State.finishLines (s : State) (k : Nat) : Nat → State
  | 0 => s
  | f + 1 =>
    match (s.dmc k).sched with
    | [] => s
    | r :: rest =>
      let t := s.modDmc k (fun c => { c with sched := rest })
      match t.performLines k r [] rest with
      | some (replies, u) => State.finishLines (u.modXact r.xid (·.takeLine r (replies.headD {}))) k f
      | none => State.finishLines t k f

/-- R313, R321: channel k goes off: the accesses it holds and its dirty counter blocks are written, and the devices enter self-refresh.
Every register but DMC_TIM_r and DMC_ILV returns to its reset value, and the controller's own state is gone. -/
def State.dramPowerOff (s : State) (k : Nat) : State :=
  let keep := s.dmcState k = dmcReady ∨ s.dmcState k = dmcTransition
  let s := if keep then (s.finishLines k ((s.dmc k).sched.length)).flushCtrs k else s
  let base := regAddr .DMC_CTRL k
  let s := (s.resetRange base (base + 0x20)).resetRange (base + 0x30) (base + 0xF000)
  { s with dmcs := s.dmcs.set k { selfRefresh := keep } {} }

end Sys2Proof.Machine
end

