-- ==== Sys2Proof/Machine/Fabric.lean ====
section
/-!
DEFINITION. The logic fabric (chapter 08): M-cells and their flip-flops (R210 to R212), block memory (R215 to R219),
arithmetic slices (R220), carry chains and routing (R211 to R214), regional lines and clock gates (R222, R223), borders (R253), column
connections (R227) and FAB_COMMIT (R229).
-/
namespace Sys2Proof.Machine

open Sys2Proof

/-- The sector domain FS_x is powered. -/
def State.sectorOn (s : State) (x : Nat) : Bool := s.domOn (domFS x)

/-- R242, R252: the device is in user mode; a load in user mode does not leave it. -/
def State.userMode (s : State) : Bool := s.fld F.CFG_STATUS_STATE == 8 || s.loader.user

/-- The logic of a sector runs: powered, configured, not reloading, the user clocks started (R226, R247). -/
def State.sectorRuns (s : State) (x : Nat) : Bool :=
  s.sectorOn x && s.flag F.FAB_STATUS_CONFIGURED x && !(s.flag F.FAB_STATUS_RELOADING x) &&
    s.userMode

/-- Change a sector's record. -/
def State.sector (s : State) (x : Nat) : Sector := s.sectors.get x {}
def State.modSector (s : State) (x : Nat) (f : Sector → Sector) : State :=
  { s with sectors := s.sectors.set x (f (s.sector x)) {} }

/-- The frames of a sector. -/
def State.sectorFrames (s : State) (x : Nat) : List (Nat × BitVec 8384) :=
  s.frames.cells.filter (fun c => c.1 / 3456 == x)

/-! ### Clock lines (R221 to R223) -/

/-- R222, R247: fabric global line g runs: on, past a change of its settings, and started at entry to user mode. -/
def State.globalRuns (s : State) (g : Nat) : Bool :=
  s.cstate == ckRun && s.userMode && s.flag F.CLK_GLOBAL_EN 0 g && decide (s.pwr.globalFrom.get g 0 ≤ s.now)

/-- R222, R223: regional line j of sector x runs: its divider, or its global line through the gate RGATE_j, and no change holds it low. -/
def State.regionalRuns (s : State) (x j : Nat) : Bool :=
  !(s.lineStop.get (16 * x + j) false) &&
    match s.fld F.FAB_RCLK_SRC x j with
    | 1 => s.cstate == ckRun
    | 2 => s.globalRuns (s.fld F.FAB_RCLK_GSEL x j) && (s.sector x).gates.getLsbD j
    | _ => false

/-- R222, R254: line c (0 to 31 global, 32 to 47 regional) runs in sector x: the taps of a sector that is off, or reloading, stand
still. -/
def State.lineRuns (s : State) (x c : Nat) : Bool :=
  s.sectorOn x && s.userMode && !(s.flag F.FAB_STATUS_RELOADING x) &&
    (if c < 32 then s.globalRuns c else if c < 48 then s.regionalRuns x (c - 32) else false)

/-- R225, R227: the port clock and the column clock of sector x run. -/
def State.portClock (s : State) (x : Nat) : Bool := s.lineRuns x (s.fld F.FAB_PORT_PCLK x)
def State.columnClock (s : State) (x : Nat) : Bool := s.lineRuns x (s.fld F.FAB_PORT_CCLK x)

/-! ### M-cells -/

/-- The configuration of an M-cell (R210 to R212): bits 0 to 15 the sources of D0 to D7, 16 OSEL, 17 chain start, 18 and 19
CINSRC, 20 INIT of FFM, 21 INIT of FFB, 22 and 23 enable used by FFM, FFB, 24 and 25 reset used by FFM, FFB, 26 and 27 which of the
tile's two clocks FFM and FFB take, 28 and 29 which enable, 30 and 31 which reset. -/
abbrev CellCfg := BitVec 32

/-- R210: a data input of the multiplexer from its source code and its routing signal. -/
def cellInput (code : Nat) (r : Bool) : Bool := match code with | 0 => r | 1 => false | 2 => true | _ => !r

/-- R210: the multiplexer output. sel: S2 S1 S0; d: the routing signals of D0 to D7. -/
def cellM (cfg : CellCfg) (sel : BitVec 3) (d : Byte) : Bool :=
  let k := sel.toNat
  cellInput (cfg.extractLsb' (2 * k) 2).toNat (d.getLsbD k)

/-- R211, R212: output O, and the carry out. -/
def cellO (cfg : CellCfg) (m cin : Bool) : Bool := if cfg.getLsbD 16 then xor m cin else m
def cellCout (m cin byp : Bool) : Bool := if m then cin else byp

/-- R209: the number of an M-cell in its sector: tile column and row, position; its tile row and position. -/
def cellNumber (col row m : Nat) : Nat := (row * 64 + col) * 8 + m
def cellRow (n : Nat) : Nat := n / 512
def cellPos (n : Nat) : Nat := n % 8

/-- R212, R213: the M-cell whose COUT is the CIN of M-cell n: the one before it in its tile, and for position 0 M-cell 7 of the tile one row
south in the same column; none where a chain starts. A chain thus runs north in one column of one sector, through its 320 tiles at
most. -/
def chainBefore (cfg : CellCfg) (n : Nat) : Option Nat :=
  if cellPos n ≠ 0 then some (n - 1)
  else if cellRow n = 0 ∨ cfg.getLsbD 17 then none
  else some (n - 512 + 7)

/-- R212: the carry into a chain start, by CINSRC; r: the routing signal. -/
def startCin (cfg : CellCfg) (r : Bool) : Bool := match (cfg.extractLsb' 18 2).toNat with | 0 => false | 1 => true | _ => r

/-! ### Routing (R214) -/

/-- R214: what a routing multiplexer drives: code 0 and every code above n constant 0, codes 1 to n its input of that number. -/
def muxValue (code n : Nat) (inp : Nat → Bool) : Bool := if 1 ≤ code ∧ code ≤ n then inp code else false

/-- The wires that a configuration drives, numbered by the model: of M-cell n S0 to S2 (0 to 2), D0 to D7 (3 to 10), BY (11) and the carry
of a chain start (12); of tile t TCE0, TCE1, TSR0, TSR1, TCLK0, TCLK1; and RGATE_j. -/
def cellWire (n w : Nat) : Nat := 13 * n + w
def tileWire (t w : Nat) : Nat := 13 * 163840 + 6 * t + w
def gateWire (j : Nat) : Nat := 13 * 163840 + 6 * 20480 + j

/-- R214: the select code of a wire; while the sector holds no valid configuration every one is 0. -/
def State.selectCode (s : State) (x w : Nat) : Nat :=
  if s.flag F.FAB_STATUS_CONFIGURED x then Config.routeCode (s.sectorFrames x) w else 0

/-- R227: a bit of the column connections as the sector has taken it: for engine i = 0 to 3 ENG_TRIG, ENG_TRIGCNT, ENG_MODE and ENG_FAIL
(13 bits), then TB_GRAY. -/
def ColumnView.bit (v : ColumnView) (i : Nat) : Bool :=
  let e := i / 13
  let b := i % 13
  if 52 ≤ i then v.tb.getLsbD (i - 52)
  else if b = 0 then v.trig.getLsbD e
  else if b < 9 then (v.cnt.get e 0).getLsbD (b - 1)
  else if b < 12 then (v.mode.get e 0).getLsbD (b - 9)
  else v.fail.getLsbD e

/-- The configuration of M-cell n of sector x. -/
def State.cellCfg (s : State) (x n : Nat) : CellCfg := Config.cellBits (s.sectorFrames x) n

/-- R211, R214: the value of wire w of sector x. ones: the inputs of routing multiplexers, as wire and input, that other signals of the
fabric hold at 1; o: the outputs O that local wires carry to the data and select inputs of their own tile (false) and of the tile north
(true). -/
def State.wireValue (s : State) (x w : Nat) (ones : List (Nat × Nat)) (o : Bool → Fin 8 → Bool) : Bool :=
  muxValue (s.selectCode x w) (Config.routeInputs w) (fun k =>
    match Config.routeSource w k with
    | .own m => o false m
    | .south m => o true m
    | .column i => (s.sector x).view.bit i
    | _ => ones.contains (w, k))

/-- More than the longest path through the M-cells of a sector. -/
def netDepth : Nat := 400000

/-- R210 to R214: M, O and COUT of M-cell n of sector x as its wires stand, through the local wires and the carry chain, by fuel. -/
def State.cellNet (s : State) (x : Nat) (ones : List (Nat × Nat)) : Nat → Nat → Bool × Bool × Bool
  | 0, n => (Config.loopValue n, Config.loopValue n, Config.loopValue n)
  | f + 1, n =>
    let cfg := s.cellCfg x n
    let o (south : Bool) (m : Fin 8) : Bool :=
      if !south then (s.cellNet x ones f (n - cellPos n + m.val)).2.1
      else if cellRow n = 0 then false
      else (s.cellNet x ones f (n - 512 - cellPos n + m.val)).2.1
    let wire (w : Nat) : Bool := s.wireValue x (cellWire n w) ones (if w < 11 then o else fun _ _ => false)
    let sel : BitVec 3 := bitv (wire 2) ++ bitv (wire 1) ++ bitv (wire 0)
    let m := cellInput (cfg.extractLsb' (2 * sel.toNat) 2).toNat (wire (3 + sel.toNat))
    let cin := match chainBefore cfg n with
      | some k => (s.cellNet x ones f k).2.2
      | none => startCin cfg (wire 12)
    (m, cellO cfg m cin, cellCout m cin (wire 11))

/-- A wire that no local wire reaches. -/
def State.plainWire (s : State) (x w : Nat) (ones : List (Nat × Nat)) : Bool := s.wireValue x w ones (fun _ _ => false)

/-- R211, R214, R221: the clock that a flip-flop takes runs: its tile's clock wire is driven by a line that runs, or by another fabric
clock. -/
def State.tileClock (s : State) (x w : Nat) : Bool :=
  muxValue (s.selectCode x w) (Config.routeInputs w) (fun k =>
    match Config.routeSource w k with
    | .line c => s.lineRuns x c.val
    | .general => true
    | _ => false)

/-- R211: a flip-flop's value. -/
def State.ff (s : State) (x n : Nat) (b : Bool) : Bool :=
  match s.ffs.get (2 * (x * 163840 + n) + bit b) none with
  | some v => v
  | none => (s.cellCfg x n).getLsbD (if b then 21 else 20)

/-- R222: the gates of the regional lines of sector x take RGATE_0 to RGATE_15, as their lines' falling edges before this edge did. -/
def State.takeGates (s : State) (x : Nat) (ones : List (Nat × Nat)) : State :=
  s.modSector x (fun c => { c with
    gates := (List.range 16).foldl (fun acc j => acc ||| (if s.plainWire x (gateWire j) ones then 1#16 <<< j else 0)) 0#16 })

/-- R227: the Gray code of a number. -/
def gray {w : Nat} (v : BitVec w) : BitVec w := v ^^^ (v >>> 1)

/-- R227: the column clock of sector x takes the signals of its engines and the time base (how old they are: log entry 73). -/
def State.takeColumn (s : State) (x : Nat) : State :=
  let four {α : Type} [DecidableEq α] (d : α) (f : Nat → α) : Tab α := (List.range 4).foldl (fun acc i => acc.set i (f i) d) {}
  s.modSector x (fun c => { c with view := {
    trig := 0,
    cnt := four 0 (fun i => gray (s.eng (4 * x + i)).trigCnt),
    mode := four 0 (fun i => BitVec.ofNat 3 (s.eng (4 * x + i)).mode.code),
    fail := (List.range 4).foldl (fun acc i => acc ||| (if (s.eng (4 * x + i)).flags.getLsbD 7 then 1#4 <<< i else 0)) 0#4,
    tb := gray (s.time.extractLsb' 2 32) } })

/-- R211: an active edge of the clock of flip-flop FFM (b false) or FFB (b true) of an M-cell. ones: the multiplexer inputs that other
signals of the fabric hold at 1, as wire and input; sample: the column clock has taken the signals of the engines since. -/
def State.flipFlopEdge (s : State) (x col row m : Nat) (b : Bool) (ones : List (Nat × Nat)) (sample : Bool) : State :=
  if !(s.sectorRuns x) then s
  else
    let s := s.takeGates x ones
    let s := if sample && s.columnClock x then s.takeColumn x else s
    let n := cellNumber col row m
    let t := row * 64 + col
    let cfg := s.cellCfg x n
    let pick (k : Nat) : Nat := bit (cfg.getLsbD (k + bit b))
    let v := if b then s.plainWire x (cellWire n 11) ones else (s.cellNet x ones netDepth n).2.1
    let load (w : Bool) : State := { s with ffs := s.ffs.set (2 * (x * 163840 + n) + bit b) (some w) none }
    if !(s.tileClock x (tileWire t (4 + pick 26))) then s
    else if cfg.getLsbD (24 + bit b) && s.plainWire x (tileWire t (2 + pick 30)) ones then load (cfg.getLsbD (20 + bit b))
    else if !(cfg.getLsbD (22 + bit b)) || s.plainWire x (tileWire t (pick 28)) ones then load v
    else s

/-! ### Block memory -/

/-- R217: the poison fill. -/
def poisonFill : BitVec 80 := poison64 0

/-- Block n (device-wide): its sector and its mode: 0 protected, 1 to 4 raw with 80, 40, 20, 10 bits. -/
def bmSector (n : Nat) : Nat := n / 160
def State.bmMode (s : State) (n : Nat) (portB : Bool) : Nat :=
  let m := Config.memoryBits (s.sectorFrames (bmSector n)) (n % 160)
  if m.getLsbD 0 then 0 else 1 + (m.extractLsb' (if portB then 3 else 1) 2).toNat

/-- R216: the physical word, first bit and width of an index in a mode. -/
def bmPlace (mode i : Nat) : Nat × Nat × Nat :=
  match mode with
  | 0 => (i % 512, 0, 80)
  | 1 => (i % 512, 0, 80)
  | 2 => (i / 2 % 512, 40 * (i % 2), 40)
  | 3 => (i / 4 % 512, 20 * (i % 4), 20)
  | _ => (i / 8 % 512, 10 * (i % 8), 10)

/-- A physical word of a block. -/
def State.bmWord (s : State) (n w : Nat) : BitVec 80 := s.bm.get (512 * n + w) poisonFill
def State.setBmWord (s : State) (n w : Nat) (v : BitVec 80) : State := { s with bm := s.bm.set (512 * n + w) v poisonFill }

/-- R218: the word as a port in this cycle sees it: where the other port's access falls in the same cycle, the old one. -/
def State.bmOld (s : State) (n w : Nat) (portB same : Bool) : BitVec 80 :=
  let l := s.bmLast.get n {}
  if same && l.valid && l.portB != portB && l.word == w then l.old else s.bmWord n w

/-- Whether the other port's write of the same cycle meets this access. -/
def State.bmMeets (s : State) (n w : Nat) (portB same : Bool) : BitVec 80 :=
  let l := s.bmLast.get n {}
  if same && l.valid && l.portB != portB && l.word == w then l.mask else 0

/-- R215: an uncorrectable word of a block: counted, recorded and logged. src: 0 port A, 1 port B, 2 scrubber. -/
def State.bmUncorrectable (s : State) (n w src : Nat) (d : Decoded64) : State :=
  let x := bmSector n
  let s := (s.count F.FAB_CNT_BMUE x).raise F.FAB_STATUS_BMUE x
  let s := s.setReg .FAB_BMERR (BitVec.ofNat 64 (2 ^ 63 + src * 2 ^ 17 + w * 2 ^ 8 + n % 160)) x
  s.logErr { kind := 3, inst := n, cls := 0x02, loc := w + 0xFF * 2 ^ 16, rows := d.rows.setWidth 32,
             cols := d.cols.setWidth 32, data := d.stored }

/-- R215: a corrected word of a block. -/
def State.bmCorrected (s : State) (n w b : Nat) (d : Decoded64) : State :=
  (s.count F.FAB_CNT_BMCE (bmSector n)).logErr
    { kind := 3, inst := n, cls := 0x01, loc := w + b * 2 ^ 16, rows := d.rows.setWidth 32, cols := d.cols.setWidth 32,
      data := d.stored }

/-- The outputs of a protected read. -/
def bmProtOut (d : Decoded64) : BmOut :=
  { dout := d.data.setWidth 80, corr := (match d.kind with | .corrected _ => true | _ => false), poison := d.poison }

/-- Set a port's outputs. -/
def State.setBmOut (s : State) (n : Nat) (portB : Bool) (o : BmOut) : State :=
  { s with bmOut := s.bmOut.set (2 * n + bit portB) o {} }

/-- The output of an access: the old word, as the mode shows it. -/
def bmOutOf (mode lo w : Nat) (old : BitVec 80) : BmOut :=
  if mode = 0 then bmProtOut (decode64 old)
  else { dout := BitVec.ofNat 80 ((old.toNat / 2 ^ lo) % 2 ^ w) }

/-- R218, R222: the clock line of a port of block n runs. -/
def State.bmClock (s : State) (n : Nat) (portB : Bool) : Bool :=
  s.lineRuns (bmSector n) (Config.memoryClock (s.sectorFrames (bmSector n)) (n % 160) portB)

/-- R218: what a port did last: the bits of physical word w that it wrote (none: it read, or its write was refused or enabled no byte), and
the word before. -/
def State.noteBm (s : State) (n : Nat) (portB : Bool) (w : Nat) (mask old : BitVec 80) : State :=
  { s with bmLast := s.bmLast.set n { portB := portB, valid := true, word := w, mask := mask, old := old } {} }

/-- R215 to R218, R391: a port of block n reads index i. same: in one cycle with the other port's last access. -/
def State.bmRead (s : State) (n i : Nat) (portB same : Bool) : State :=
  if !(s.sectorRuns (bmSector n)) ∨ !(s.bmClock n portB) then s
  else if s.bmRet.get n false then s.setBmOut n portB { poison := true }
  else
    let mode := s.bmMode n portB
    let (w, lo, wd) := bmPlace mode i
    let old := s.bmOld n w portB same
    let d := decode64 old
    let s := s.setBmOut n portB (bmOutOf mode lo wd old)
    let s := s.noteBm n portB w 0 old
    if mode ≠ 0 then s
    else match d.kind with
      | .corrected b => s.bmCorrected n w b d
      | .clean => s
      | _ => s.bmUncorrectable n w (bit portB) d

/-- R215: a protected write with a byte-enable value that is neither all nor none is refused. -/
def State.bmRefuse (s : State) (n : Nat) (portB : Bool) (o : BmOut) : State :=
  let x := bmSector n
  ((s.setBmOut n portB { o with wref := true }).count F.FAB_CNT_BMNARROW x).raise F.FAB_STATUS_BMNARROW x

/-- R215 to R218, R391: a port of block n writes index i with byte enables be and data v. -/
def State.bmWrite (s : State) (n i : Nat) (portB same : Bool) (be : Byte) (v : BitVec 80) : State :=
  let x := bmSector n
  if !(s.sectorRuns x) ∨ !(s.bmClock n portB) then s
  else if s.bmRet.get n false then s.setBmOut n portB { wref := true }
  else
    let mode := s.bmMode n portB
    let (w, lo, wd) := bmPlace mode i
    let old := s.bmOld n w portB same
    let o := bmOutOf mode lo wd old
    if mode = 0 ∧ be ≠ 0xFF ∧ be ≠ 0 then (s.noteBm n portB w 0 old).bmRefuse n portB o
    else if mode = 0 ∧ be = 0 then (s.noteBm n portB w 0 old).setBmOut n portB o
    else
      let mask : BitVec 80 := BitVec.ofNat 80 ((2 ^ wd - 1) * 2 ^ lo)
      let val : BitVec 80 := if mode = 0 then encode64 (v.setWidth 64) else (v <<< lo) &&& mask
      let met := s.bmMeets n w portB same
      let coll := met &&& mask != 0
      -- port A's bits win
      let eff := if portB then mask &&& ~~~ met else mask
      let cur := s.bmWord n w
      let s := s.setBmWord n w ((cur &&& ~~~ eff) ||| (val &&& eff))
      let s := s.setBmOut n portB { o with collb := coll && portB }
      let s := if coll then (s.count F.FAB_CNT_BMCOLL x).raise F.FAB_STATUS_BMCOLL x else s
      let s := if coll && !portB then
          s.setBmOut n true { s.bmOut.get (2 * n + 1) {} with collb := true } else s
      s.noteBm n portB w mask old

/-- R219: the scrubber visits word w of block n. busy: a port accesses the block in one of the two cycles. -/
def State.bmScrub (s : State) (n w : Nat) (busy : Bool) : State :=
  if !(s.sectorRuns (bmSector n)) ∨ !(s.flag F.SCR_CTRL_EN) ∨ s.bmRet.get n false ∨ s.bmMode n false ≠ 0 ∨ busy then s
  else
    let d := decode64 (s.bmWord n w)
    match d.kind with
    | .corrected b => (s.setBmWord n w (encode64 d.data)).bmCorrected n w b d
    | .clean => s
    | _ => s.bmUncorrectable n w 2 d

/-- R217, R391: a load of sector x fills its block memories with the poison fill and takes the retirements over. -/
def State.bmFill (s : State) (x : Nat) : State :=
  { s with
    bm := s.bm.clear (fun k => k / 512 / 160 == x), bmLast := s.bmLast.clear (fun k => k / 160 == x),
    bmOut := s.bmOut.clear (fun k => k / 2 / 160 == x),
    bmRet := (List.range 160).foldl (fun acc b =>
      let n := 160 * x + b
      acc.set n ((s.reg .ERR_BMRET 0 (n / 64)).getLsbD (n % 64)) false) s.bmRet }

/-! ### Arithmetic slices -/

/-- R220: the static configuration of a slice: bit 0 SIGNA, 1 SIGNB, 2 to 5 MASK, 6 CASC, 7 SATM. -/
abbrev ArithCfg := BitVec 8

/-- R220: a product, extended to 42 bits. -/
def arithProduct (cfg : ArithCfg) (a : BitVec 24) (b : BitVec 18) : BitVec 42 :=
  let x : Int := if cfg.getLsbD 0 then a.toInt else a.toNat
  let y : Int := if cfg.getLsbD 1 then b.toInt else b.toNat
  BitVec.ofInt 42 (x * y)

/-- Operands count as signed. -/
def arithSigned (cfg : ArithCfg) : Bool := cfg.getLsbD 0 || cfg.getLsbD 1

/-- R220: the sum of the enabled products. -/
def arithSum (cfg : ArithCfg) (x : Arith) : Int :=
  let e (p : BitVec 42) : Int := if arithSigned cfg then p.toInt else p.toNat
  let t (k : Nat) (p : BitVec 42) : Int := if cfg.getLsbD (2 + k) then e p else 0
  t 0 x.p0 + t 1 x.p1 + t 2 x.p2 + t 3 x.p3

/-- R220: ACC and SAT after the edge that updates them. -/
def arithUpdate (cfg : ArithCfg) (x : Arith) (casc : Word) : Word × Bool :=
  if x.rst then (0, false)
  else
    let sg := arithSigned cfg
    let v (w : Word) : Int := if sg then w.toInt else w.toNat
    let xin : Int := if cfg.getLsbD 6 then v casc else 0
    let sum := arithSum cfg x
    let r : Int := match x.op.toNat with
      | 1 => v x.acc + sum + xin
      | 2 => v x.c + sum + xin
      | 3 => v x.acc - sum + xin
      | _ => v x.acc
    let lo : Int := if sg then -(2 ^ 63) else 0
    let hi : Int := if sg then 2 ^ 63 - 1 else 2 ^ 64 - 1
    if x.op = 0 then (x.acc, x.sat)
    else if cfg.getLsbD 7 ∧ (r < lo ∨ hi < r) then (BitVec.ofInt 64 (if r < lo then lo else hi), true)
    else (BitVec.ofInt 64 r, x.sat)

/-- R220: one edge of a slice with CE = 1. -/
def arithEdge (cfg : ArithCfg) (x : Arith) (inp : ArithIn) (casc : Word) : Arith :=
  let r := arithUpdate cfg x casc
  { cap := inp, p0 := arithProduct cfg x.cap.a0 x.cap.b, p1 := arithProduct cfg x.cap.a1 x.cap.b,
    p2 := arithProduct cfg x.cap.a2 x.cap.b, p3 := arithProduct cfg x.cap.a3 x.cap.b, c := x.cap.c, op := x.cap.op,
    rst := x.cap.rst, acc := r.1, sat := r.2 }

/-- R220: a rising edge on slices of arithmetic column ac of sector x: for each slice row whose clock line runs and rises with CE = 1, its
inputs. All read the accumulators as they stood before the edge. -/
def State.arithColumnEdge (s : State) (x ac : Nat) (ins : List (Nat × ArithIn)) : State :=
  if !(s.sectorRuns x) then s
  else
    let num (r : Nat) : Nat := 96 * x + 32 * ac + r
    let cfg (r : Nat) : ArithCfg := Config.arithBits (s.sectorFrames x) (32 * ac + r)
    let casc (r : Nat) : Word := if r = 0 then 0 else (s.arith.get (num (r - 1)) {}).acc
    let ins := ins.filter (fun p => s.lineRuns x (Config.arithClock (s.sectorFrames x) (32 * ac + p.1)))
    { s with arith := ins.foldl (fun acc p =>
        acc.set (num p.1) (arithEdge (cfg p.1) (s.arith.get (num p.1) {}) p.2 (casc p.1)) {}) s.arith }

/-! ### Lines, columns, commits -/

/-- R222, R229: a commit of FAB block x is inconsistent. -/
def State.fabInconsistent (s : State) (x : Nat) : Bool :=
  let src (j : Nat) : Nat := s.sfld F.FAB_RCLK_SRC x j
  let badClk (c : Nat) : Bool := c ≥ 48 || (c ≥ 32 && src (c - 32) == 0)
  (List.range 16).any (fun j => src j == 3 || (src j == 1 && (s.sfld F.FAB_RCLK_N x j < 8 || s.sfld F.FAB_RCLK_N x j > 4096))) ||
    badClk (s.sfld F.FAB_PORT_PCLK x) || badClk (s.sfld F.FAB_PORT_CCLK x)

/-- R223, R229: FAB_COMMIT.GO: regional lines whose settings change stop after their period in progress. -/
def State.fabCommit (s : State) (x : Nat) : State :=
  if s.fabInconsistent x then s.raise F.FAB_STATUS_CFGERR x
  else
    let changed := (List.range 16).filter (fun j => s.shadowReg .FAB_RCLK x j != s.reg .FAB_RCLK x j)
    let s := s.commitBlock .FAB x
    { s with lineStop := changed.foldl (fun acc j => acc.set (16 * x + j) true false) s.lineStop }

/-- R223: a changed regional line restarts. -/
def State.lineRestart (s : State) (x j : Nat) : State := { s with lineStop := s.lineStop.set (16 * x + j) false false }

/-- R227: ENG_TRIG of engine e pulses to the fabric on the column clock; MARKs since the last pulse merge into it. -/
def State.engTrig (s : State) (e : Nat) : State :=
  if (s.eng e).trig ∧ s.columnClock (e / 4) then
    (s.modEng e (fun x => { x with trig := false, pulses := x.pulses + 1 })).modSector (e / 4) (fun c =>
      { c with view := { c.view with trig := c.view.trig ||| (1#4 <<< (e % 4)) } })
  else s

/-! ### Border cells (R227, R228, R253) -/

/-- R227, R253: the border cells of ENG_IRQ of engine e take a value: a rising bit sets its CE_INT.PEND bit, while the cluster is on. -/
def State.setEngIrq (s : State) (e : Nat) (v : Byte) : State :=
  let old := (s.sector (e / 4)).irq.get (e % 4) 0
  let s := s.modSector (e / 4) (fun c => { c with irq := c.irq.set (e % 4) v 0 })
  if s.domOn (domCL (e / 4)) then s.irqDoorbell e (v &&& ~~~ old) else s

/-- R227: the column clock takes ENG_IRQ of engine e as the logic of its sector drives it. -/
def State.engIrq (s : State) (e : Nat) (bits : Byte) : State :=
  if s.sectorRuns (e / 4) && s.columnClock (e / 4) then s.setEngIrq e bits else s

/-- R17, R228: the sector whose border carries the lanes of quad q: in column 0 or 7 of the row that the quad faces. -/
def quadSector (q : Nat) : Nat := quadRouter q

/-- R228: the lanes whose borders sector x carries. -/
def borderLanes (x : Nat) : List Nat := (List.range 144).filter (fun l => quadSector (l / 4) == x)

/-- R253: a border output of sector x by the declarations in force: a constant, or (none) the value that it carries. Outputs 0 to 31 are
ENG_IRQ bit k of engine i, 8i + k; those of lane l stand at 32 + 129 * (l mod 12): TXD, then TXV. -/
def State.declared (s : State) (x out : Nat) : Option Bool :=
  match (s.sector x).decl with
  | some d => Config.borderDecl d out
  | none => some false

/-- R253: w border outputs from number out on, which carry v, as the declarations make them. -/
def State.declaredBits {w : Nat} (s : State) (x out : Nat) (v : BitVec w) : BitVec w :=
  (List.range w).foldl (fun acc k => acc ||| (if (s.declared x (out + k)).getD (v.getLsbD k) then 1#w <<< k else 0)) 0#w

/-- R253: the border cells of sector x take their declarations. -/
def State.applyDecl (s : State) (x : Nat) : State :=
  let s := s.forAll (List.range 4) (fun acc i => acc.setEngIrq (4 * x + i) (acc.declaredBits x (8 * i) ((acc.sector x).irq.get i 0)))
  s.forAll (borderLanes x) (fun acc l => acc.modSector x (fun c =>
    { c with tx := c.tx.set l (acc.declaredBits x (32 + 129 * (l % 12)) (c.tx.get l 0)) 0 }))

/-- R253: the border cells of sector x hold: at a fence, when it loses power or its configuration; cells that hold already keep their
values. -/
def State.holdBorder (s : State) (x : Nat) : State :=
  if (s.sector x).held then s else (s.applyDecl x).modSector x (fun c => { c with held := true })

/-- R247, R253, R254: at its release sector x takes the declarations of its new configuration, and its logic drives the border again. -/
def State.freeBorder (s : State) (x : Nat) : State :=
  let t := s.modSector x (fun c => { c with decl := some ((s.frames.get (3456 * x) 0).extractLsb' 0 8192) })
  (t.applyDecl x).modSector x (fun c => { c with held := false })

/-- R343: the line that LN_CFG.LCLK of lane l names runs; regional lines are those of the sector that faces the lane. -/
def State.laneClock (s : State) (l : Nat) : Bool :=
  let c := s.fld F.LN_CFG_LCLK l
  if c < 32 then s.globalRuns c else s.lineRuns (quadSector (l / 4)) c

end Sys2Proof.Machine
end

