-- ==== Sys2Proof/Machine/Smp.lean ====
section
/-!
DEFINITION. The sealed measurement partition (chapter 07): calibration offsets (R186, R187), capture conversion and result
blocks (R190 to R197), the mailbox and its requests (R199 to R203), start, reset and the seal (R183, R204 to R207).
-/
namespace Sys2Proof.Machine

open Sys2Proof

/-- Change the SMP beyond its registers. -/
def State.modSmp (s : State) (f : Smp → Smp) : State := { s with smp := f s.smp }

/-- SMP_STATUS.STATE (R204). -/
def State.smpState (s : State) : Nat := s.fld F.SMP_STATUS_STATE
def smpBoot : Nat := 0
def smpNoImage : Nat := 1
def smpReady : Nat := 2
def smpExhausted : Nat := 3

/-- The SMP serves accesses (R182). -/
def State.smpOn (s : State) : Bool := s.domOn domSMP

/-! ### Calibration offsets (R185, R186) -/

/-- R185: the tables of the sealed region. -/
def State.deskew (s : State) (p k : Nat) : Int := (s.bank16 (0x41000 + 12 * p + 2 * k)).toInt
def State.drift (s : State) (p k : Nat) : Int := (s.bank16 (0x44000 + 12 * p + 2 * k)).toInt
def State.lin (s : State) (p j : Nat) : Nat := (s.bank16 (0x47000 + 130 * p + 2 * j)).toNat

/-- Clamp to an interval. -/
def clampInt (lo hi v : Int) : Int := if v < lo then lo else if hi < v then hi else v

/-- R186: the sum before clamping, and the offset. -/
def State.calSum (s : State) (p k : Nat) : Int := s.deskew p k + clampInt (-96) 96 (s.drift p k)
def State.calC (s : State) (p k : Nat) : Int := if s.smp.calValid then clampInt (-32768) 32767 (s.calSum p k) else 0

/-- R190: a linearisation table is valid. -/
def State.linValid (s : State) (p : Nat) : Bool :=
  s.lin p 0 == 0 && s.lin p 64 == 32768 && (List.range 64).all (fun j => s.lin p j ≤ s.lin p (j + 1))

/-- R186, R188, R190: channel p is out of calibration. -/
def State.ooc (s : State) (p : Nat) : Bool :=
  let far (a b : Nat) : Bool := (s.calC p a - s.calC p b).natAbs > 128
  !s.smp.calValid || s.smp.trefOoc.get (p / 16) false || s.smp.driftOver.get p false || far clsDR clsDF || far clsEN clsEF ||
    (List.range 6).any (fun k => s.calSum p k < -32768 || s.calSum p k > 32767 || (s.drift p k).natAbs > 96) || !s.linValid p

/-- The temperature site of a cluster (R406). -/
def clusterSite (c : Nat) : Nat := 4 * (c / 16) + (c % 8) / 2

/-- A cluster's junction temperature, in 1/16 °C. -/
def State.clusterTemp (s : State) (c : Nat) : Int := s.temps.get (clusterSite c) 0

/-- R189: the TOUT condition of a cluster as its temperatures now stand. -/
def State.toutNow (s : State) (c : Nat) : Bool :=
  match s.smp.tcal.get c none with
  | some t => (s.clusterTemp c - t).natAbs > 80
  | none => false

/-- R189: the SMP compares every cluster's temperature. -/
def State.updateTout (s : State) : State :=
  s.forAll (List.range 64) (fun acc c => acc.modSmp (fun m => { m with tout := m.tout.set c (acc.toutNow c) false }))

/-- New offsets of every cluster, or of some, wait for R187. -/
def State.pendOffsets (s : State) (cs : List Nat) : State :=
  s.forAll cs (fun acc c => acc.modSmp (fun m => { m with pendOff := m.pendOff.set c true false }))

/-- R182, R187: an engine of cluster c is in STREAM or belongs to an armed gang. -/
def State.clusterBusy (s : State) (c : Nat) : Bool :=
  (List.range 4).any (fun k =>
    let e := 4 * c + k
    (s.eng e).mode == .stream || (s.eng e).mode == .paused || (s.eng (s.leader e)).gang.armed)

/-- R187: pending offsets are written into a cluster, all 96 in one engine cycle, from the cluster's tables in the secure bank. -/
def State.offsetLoad (s : State) (c : Nat) : State :=
  if s.smp.pendOff.get c false ∧ !(s.clusterBusy c) ∧ s.bankReady then
    let s := s.noteMeter ((List.range 24).map (fun i => 0x8200 + 24 * c + i) ++ (List.range 24).map (fun i => 0x8800 + 24 * c + i))
    let offs := (List.range 96).foldl (fun acc n =>
      acc.set (96 * c + n) (s.calC (16 * c + n / 6) (n % 6)) 0) s.offs
    ({ s with offs := offs }).modSmp (fun m => { m with pendOff := m.pendOff.set c false false })
  else s

/-! ### Result blocks -/

def State.buf (s : State) (b : Nat) : ResBuf := s.smp.bufs.get b {}
def State.modBuf (s : State) (b : Nat) (f : ResBuf → ResBuf) : State :=
  s.modSmp (fun m => { m with bufs := m.bufs.set b (f (m.bufs.get b {})) {} })

/-- R193: the buffer that is FILLING. -/
def State.filling (s : State) : Option Nat := (List.range 4).find? (fun b => (s.buf b).st == .filling)

/-- R193: the lowest-numbered FREE buffer becomes FILLING where none is. -/
def State.startFilling (s : State) : State :=
  if s.filling.isSome then s
  else match (List.range 4).find? (fun b => (s.buf b).st == .free) with
    | some b => s.modBuf b (fun _ => { st := .filling })
    | none => s

/-- The lowest recorded calibration temperature and the highest present one among clusters (R196). -/
def State.blockTemps (s : State) (cs : List Nat) : BitVec 16 × BitVec 16 :=
  let ts := cs.filterMap (fun c => s.smp.tcal.get c none)
  let ns := cs.map s.clusterTemp
  (match ts with | [] => 0 | t :: r => BitVec.ofInt 16 (r.foldl min t),
   match ns with | [] => 0 | t :: r => BitVec.ofInt 16 (r.foldl max t))

/-- R185, R197: the chain state in the meter core's work area: the number of the next block and the chain value (their places there: log
entry 70). -/
def State.noteChain (s : State) : State :=
  (List.range 8).foldl (fun acc i => acc.setMeterWord (0xDC01 + i) (bytesWord (((beBytes 64 s.smp.prev).drop (8 * i)).take 8)))
    (s.setMeterWord 0xDC00 (BitVec.ofNat 64 s.smp.bseq))

/-- R193, R194: the FILLING buffer, where it holds an entry, closes and becomes SIGNING. -/
def State.closeBlock (s : State) : State :=
  match s.filling with
  | none => s
  | some b =>
    if (s.buf b).entries = [] then s
    else
      let t := s.blockTemps (s.buf b).clusters
      let s := s.modBuf b (fun x =>
        { x with st := .signing, bseq := s.smp.bseq, sealNo := s.fuses.sealNo, plane := s.flag F.SMP_STATUS_PLANE,
                 calid := s.reg .SMP_CALID, tcal := t.1, tnow := t.2 })
      (s.modSmp (fun m => { m with bseq := m.bseq + 1 })).noteChain.startFilling

/-- R190: τ of a raw capture of channel p, from K and F. -/
def State.captureTau (s : State) (p K : Nat) (f : BitVec 12) (cls : Nat) : Int :=
  let j := f.toNat / 64
  let r : Int := f.toNat % 64
  let b0 : Int := s.lin p j
  let b1 : Int := s.lin p (j + 1)
  (64 * (64 * 512 * (K : Int)) + 64 * b0 + (b1 - b0) * r - 64 * 64 * s.calOff p cls + 2048) / 4096

/-- R128: the class whose offset an EC window uses. -/
def State.ecClass (s : State) (p : Nat) : Nat :=
  let src := s.fld F.PIN_CFG_ECSRC p
  if src = 2 ∨ src = 3 ∨ src = 5 then clsSL else clsSH

/-- R191: the two words of a result entry. -/
def State.resultEntry (s : State) (c : Capture) : Word × Word :=
  let p := c.chan
  let out : Nat := match c.kind, c.raw with | .overlap, _ => 2 | .armed, some _ => 0 | _, _ => 1
  let w0 := out * 2 ^ 62 + bit (s.ooc p) * 2 ^ 61 + bit (s.smp.tout.get (p / 16) false) * 2 ^ 60 + p * 2 ^ 48 + c.vec.toNat
  let w1 : Int := match out, c.raw with | 0, some (k, f) => s.captureTau p k f (s.ecClass p) | _, _ => 0
  (BitVec.ofNat 64 w0, BitVec.ofInt 64 w1)

/-- R196: the flags that an entry adds to its block. -/
def State.entryFlags (s : State) (p : Nat) : Byte :=
  BitVec.ofNat 8 (bit (s.ooc p) + 2 * bit (s.smp.tout.get (p / 16) false) + 4 * bit (s.flag F.SMP_STATUS_TREF)
    + 8 * bit (s.flag F.SMP_STATUS_NOCAL))

/-- R191: acceptance is refused for lack of a buffer. -/
def State.refuseCapture (s : State) : State :=
  let s := s.raise F.SMP_STATUS_STALL
  let n := s.smp.stalls + 1
  if n = 1024 then (s.modSmp (fun m => { m with stalls := 0 })).count F.SMP_CNT_STALL
  else s.modSmp (fun m => { m with stalls := n })

/-- R190: the code words of the bank that hold the two breakpoints of a recorded transition. -/
def lineariserWords (c : Capture) : List Nat :=
  match c.kind, c.raw with
  | .armed, some (_, f) =>
    let o := 0x47000 + 130 * c.chan + 2 * (f.toNat / 64)
    if o / 8 = (o + 2) / 8 then [o / 8] else [o / 8, (o + 2) / 8]
  | _, _ => []

/-- R190, R191: the pipeline accepts the oldest raw capture of cluster c and writes its result entry. -/
def State.captureAccept (s : State) (c : Nat) : State :=
  if !s.smpOn ∨ s.smpState ≠ smpReady ∨ s.smp.reload then s
  else match (s.fcu c).caps with
    | [] => s
    | cap :: rest =>
      match s.filling with
      | none => s.refuseCapture
      | some b =>
        let s := s.noteMeter (lineariserWords cap)
        let ent := s.resultEntry cap
        let fl := s.entryFlags cap.chan
        let s := s.modFcu c (fun f => { f with caps := rest })
        let s := s.modBuf b (fun x =>
          { x with entries := x.entries ++ [ent], flags := x.flags ||| fl,
                   tfirst := if x.entries = [] then s.time else x.tfirst, tlast := s.time,
                   clusters := if c ∈ x.clusters then x.clusters else x.clusters ++ [c] })
        if (s.buf b).entries.length ≥ 4096 then s.closeBlock else s

/-- R196: words 0x000 to 0x078 of a block's header. -/
def State.blockHead (s : State) (x : ResBuf) : List Word :=
  [ BitVec.ofNat 64 (0x534D5042 * 2 ^ 32 + 2 ^ 16 + x.entries.length), BitVec.ofNat 64 x.bseq,
    BitVec.ofNat 64 (x.sealNo * 2 ^ 48 + bit x.plane * 2 ^ 40 + x.flags.toNat * 2 ^ 32),
    x.calid, x.tfirst, x.tlast, BitVec.ofNat 64 (x.tcal.toNat * 2 ^ 16 + x.tnow.toNat), s.reg .SMP_START,
    Config.deviceUid.extractLsb' 0 64, Config.deviceUid.extractLsb' 64 64, 0, 0, 0, 0, 0, 0 ]

/-- R197: PREV of block 0. -/
def State.chainStart (s : State) (x : ResBuf) : BitVec 512 :=
  let h := s.blockHead x
  sha512 (wordsBytes [h.getD 8 0, h.getD 9 0, h.getD 2 0, h.getD 3 0, h.getD 7 0])

/-- R196, R197: signing of the oldest closed block completes; none is signed in EXHAUSTED (R207). -/
def State.blockSigned (s : State) : State :=
  let cand := if s.smpState = smpExhausted then [] else (List.range 4).filter (fun b => (s.buf b).st == .signing)
  match cand.find? (fun b => cand.all (fun b' => (s.buf b).bseq ≤ (s.buf b').bseq)) with
  | none => s
  | some b =>
    let x := s.buf b
    let prev := if x.bseq = 0 then s.chainStart x else s.smp.prev
    let head := s.blockHead x ++ bytesWords 8 (beBytes 64 prev)
    let hash := sha512 (wordsBytes (head ++ x.entries.flatMap (fun e => [e.1, e.2])))
    let sig := ecdsaSign (partitionKey x.sealNo) hash s.smp.signs
    let header := head ++ bytesWords 8 (beBytes 64 hash) ++ bytesWords 9 (beBytes 66 (sig.extractLsb' 528 528)) ++
      bytesWords 9 (beBytes 66 (sig.extractLsb' 0 528)) ++ List.replicate 14 0
    let s := s.modBuf b (fun y => { y with st := .signed, header := header })
    let s := (s.modSmp (fun m => { m with prev := hash, signs := m.signs + 1 })).noteChain
    (s.count F.SMP_CNT_BLOCKS).pendIrq 12

/-- R192, R193, R196: word i of result buffer b. -/
def State.bufRead (s : State) (b i : Nat) : WordReply :=
  let x := s.buf b
  if x.st != .signed then { status := .edeny }
  else if i < 64 then { data := x.header.getD i 0 }
  else
    let e := x.entries.getD ((i - 64) / 2) (0, 0)
    { data := if i % 2 = 0 then e.1 else e.2 }

/-! ### The seal (R198, R205, R207) -/

/-- R196: the SEAL word at 0x010 of a header, less its flags. -/
def State.sealWord (s : State) : Word :=
  BitVec.ofNat 64 (s.fuses.sealNo * 2 ^ 48 + bit (s.flag F.SMP_STATUS_PLANE) * 2 ^ 40)

/-- R420: Mbana certifies the partition public key with its identity key and keeps the signature. -/
def State.certifySmp (s : State) : State :=
  let digest := sha512 (beBytes 132 (publicKey (partitionKey s.fuses.sealNo)) ++ wordBytes s.sealWord)
  { s with mb := { s.mb with certSig := ecdsaSign identityKey digest s.log.signs },
           log := { s.log with signs := s.log.signs + 1 } }

/-- R205: a seal step for an action: the fuse, the new key, the signed record. The caller then applies the change. -/
def State.sealStep (s : State) (action : Nat) : State :=
  let s := s.closeBlock
  let old := s.fuses.sealNo
  let s := { s with fuses := { s.fuses with sealNo := old + 1 } }
  let s := s.logEvent 0x05 (BitVec.ofNat 64 action) (BitVec.ofNat 64 (old * 2 ^ 16 + (old + 1))) .smp
  { s with fuses := { s.fuses with sealLogged := old + 1 } }.certifySmp

/-- R130, R182: every queued raw capture is dropped. -/
def State.dropCaptures (s : State) : State :=
  s.forAll (List.range 64) (fun acc c =>
    let t := (acc.fcu c).caps.foldl (fun a cap => a.loseCapture cap.chan) acc
    if (acc.fcu c).caps = [] then t else t.modFcu c (fun f => { f with caps := [] }))

/-- R207: a seal step that cannot be refused: at 4,096 the SMP is exhausted for the rest of the device's life, and every capture is
dropped. -/
def State.sealStepForced (s : State) (action : Nat) : State :=
  if s.fuses.sealNo < 4096 then s.sealStep action
  else
    let s := { s with fuses := { s.fuses with exhausted := true } }
    if s.smpOn then (s.setFld F.SMP_STATUS_STATE smpExhausted).dropCaptures else s

/-! ### Calibration header and store (R185, R204, R231)

The manual fixes what the header and a copy of the store hold, and the copies' places in flash; the places inside them are the model's
(log entry 70). -/

/-- R185: the temperatures of four clusters as one word of the header. -/
def State.tcalWord (s : State) (i : Nat) : Word :=
  BitVec.ofNat 64 (((List.range 4).map (fun k => (BitVec.ofInt 16 ((s.smp.tcal.get (4 * i + k) none).getD 0)).toNat * 2 ^ (16 * k))).foldl (· + ·) 0)

/-- R185: the calibration header: UID, CALID, plane, the clusters that have a calibration temperature and these, and the SHA-512 of the
three tables. -/
def State.calHeader (s : State) : List Word :=
  [ Config.deviceUid.extractLsb' 0 64, Config.deviceUid.extractLsb' 64 64, s.reg .SMP_CALID, BitVec.ofNat 64 (bit (s.flag F.SMP_STATUS_PLANE)),
    BitVec.ofNat 64 (((List.range 64).map (fun c => bit (s.smp.tcal.get c none).isSome * 2 ^ c)).foldl (· + ·) 0) ] ++
  (List.range 16).map s.tcalWord ++
  bytesWords 8 (beBytes 64 (sha512 ((List.range 0x26800).map (fun i => s.bankByte (0x41000 + i)))))

/-- R185: the header is brought up to date. -/
def State.writeHeader (s : State) : State :=
  let h := s.calHeader
  (List.range 512).foldl (fun acc i => acc.setMeterWord (0x8000 + i) (h.getD i 0)) s

/-- R201 to R203: the baseline R0 of channel p and class k, in ticks, in the work area. -/
def State.baseline (s : State) (p k : Nat) : Int := (s.bankBits 32 (0x68000 + 24 * p + 4 * k)).toInt
def State.setBaseline (s : State) (p k : Nat) (v : BitVec 32) : State := s.setBankBits (0x68000 + 24 * p + 4 * k) v

/-- The code words of the secure bank that a copy of the store holds: the header and the tables, then the baselines. -/
def calWords : Nat := 0x5B00
def calWordAt (i : Nat) : Nat := if i < 0x4F00 then 0x8000 + i else 0xD000 + (i - 0x4F00)

/-- R231: copy k of the calibration store. -/
def calBase (k : Nat) : Nat := 0x00100000 + 0x40000 * k

/-- R204: both copies of the calibration store: the bytes, the SEAL value whose partition key signs them, the hash of the SMP segment,
and the signature. -/
def State.writeStore (s : State) (bytes : List Byte) (h : BitVec 512) : State :=
  let body := bytes ++ leBytes 8 (BitVec.ofNat 64 s.fuses.sealNo) ++ beBytes 64 h
  let bs := body ++ beBytes 132 (ecdsaSign (partitionKey s.fuses.sealNo) (sha512 body) s.smp.signs)
  ((s.setFlash (calBase 0) bs).setFlash (calBase 1) bs).modSmp (fun m => { m with signs := m.signs + 1 })

/-- R201, R203: the current set goes to the calibration store. -/
def State.storeCal (s : State) : State :=
  let s := s.noteMeter ((List.range calWords).map calWordAt)
  s.writeStore ((List.range calWords).flatMap (fun i => wordBytes (s.meterWord (calWordAt i)))) s.smp.segHash

/-- R204: the SEAL value and the segment hash that copy k records. -/
def State.storeSeal (s : State) (k : Nat) : Nat := leNat (s.flashBytes (calBase k + 8 * calWords) 8)
def State.storeHash (s : State) (k : Nat) : BitVec 512 := BitVec.ofNat 512 (beNat (s.flashBytes (calBase k + 8 * calWords + 8) 64))

/-- R204: the signature of copy k verifies under the partition key of the SEAL value that the copy records. -/
def State.storeGood (s : State) (k : Nat) : Bool :=
  decide (s.storeSeal k ≤ 4096) &&
    ecdsaVerify (publicKey (partitionKey (s.storeSeal k))) (sha512 (s.flashBytes (calBase k) (8 * calWords + 72)))
      (sigOf (s.flashBytes (calBase k + 8 * calWords + 72) 132))

/-- The copy that the SMP reads: copy 0 where it is good, else copy 1 where that is. -/
def State.storeCopy (s : State) : Option Nat := if s.storeGood 0 then some 0 else if s.storeGood 1 then some 1 else none

/-- Word i of copy k's header and tables. -/
def State.storeWord (s : State) (k i : Nat) : Word := bytesWord (s.flashBytes (calBase k + 8 * i) 8)

/-- The calibration temperature of cluster c that copy k's header records. -/
def State.storeTcal (s : State) (k c : Nat) : Option Int :=
  if (s.storeWord k 4).getLsbD c then some ((s.storeWord k (5 + c / 4)).extractLsb' (16 * (c % 4)) 16).toInt else none

/-- R204: steps 6 and 7: the calibration store is read into the secure bank and the offsets wait for loading; without a good copy
NOCAL. -/
def State.loadCal (s : State) : State :=
  let s := match s.storeCopy with
    | some k =>
      let s := (List.range calWords).foldl (fun (acc : State) i => acc.setMeterWord (calWordAt i) (s.storeWord k i)) s
      let s := (s.setReg .SMP_CALID (s.storeWord k 2)).setFld F.SMP_STATUS_PLANE (bit ((s.storeWord k 3).getLsbD 0))
      (s.setFld F.SMP_STATUS_NOCAL 0).modSmp (fun m =>
        { m with calValid := true, driftOver := {}, tcal := (List.range 64).foldl (fun acc c => acc.set c (s.storeTcal k c) none) {} })
    | none =>
      (s.setFld F.SMP_STATUS_NOCAL 1).modSmp (fun m => { m with calValid := false, tcal := {}, driftOver := {} })
  (s.modSmp (fun m => { m with reload := false })).updateTout.pendOffsets (List.range 64)

/-- R194: a reload is about to change CALID or PLANE. -/
def State.reloadChanges (s : State) : Bool :=
  match s.storeCopy with
  | some k => s.reg .SMP_CALID != s.storeWord k 2 || s.flag F.SMP_STATUS_PLANE != (s.storeWord k 3).getLsbD 0
  | none => false

/-! ### Start and reset (R183, R204) -/

/-- R183: an SMP reset: result buffers, calibrations, an open import and the mailbox go; the boot ROM requests its segment. -/
def State.smpRestart (s : State) : State :=
  let n := s.fld F.SMP_STATUS_RESETS
  let s := (s.dropCaptures.resetBlock .SMP).setFld F.SMP_STATUS_RESETS n
  { s with smp := { segReq := true } }

/-- R183: an SMP reset by command or by the meter core's watchdog, counted. -/
def State.smpReset (s : State) : State := if s.smpOn then s.smpRestart.count F.SMP_STATUS_RESETS else s

/-- R204: the SMP domain powers on. -/
def State.smpPowerOn (s : State) : State :=
  (s.setReg .PWR_ON (s.reg .PWR_ON 0 7 ||| 1) 0 7).smpRestart

/-- R182: the SMP domain powers off; the offsets in force stay. -/
def State.smpPowerOff (s : State) : State :=
  let t := (s.setReg .PWR_ON (s.reg .PWR_ON 0 7 &&& ~~~ 1#64) 0 7).smpRestart
  t.modSmp (fun m => { m with segReq := false })

/-- R204: the SMP has no image. -/
def State.smpFail (s : State) : State :=
  let s := s.setFld F.SMP_STATUS_STATE smpNoImage
  ((s.modSmp (fun m => { m with calValid := false, seg := none, segReq := false })).pendOffsets (List.range 64)).dropCaptures

/-- R205: a start finds SEAL above the last logged value. -/
def State.logSealLoss (s : State) : State :=
  let t := s.logEvent 0x06 (BitVec.ofNat 64 s.fuses.sealNo)
  { t with fuses := { t.fuses with sealLogged := t.fuses.sealNo } }

/-- R204: the segment is signed with the key whose hash stands in the active key slot. -/
def State.segmentGood (s : State) (bytes : List Byte) : Bool :=
  match s.fuses.metKeys.get s.fuses.metSlot none with
  | some k => Config.segmentSigned bytes k
  | none => false

/-- R181, R184, R204: the frames of the 65th sector that a segment gives. -/
def sector65 (seg : List Byte) : Tab (BitVec 8192) :=
  (List.range 54).foldl (fun acc f => acc.set f (Config.sector65 seg f) 0) {}

/-- R204: step 4: the meter firmware and the 65th sector are loaded. -/
def loadMeter (seg : List Byte) : Meter :=
  { seg := some seg, frames := sector65 seg,
    imem := (List.range 32768).foldl (fun acc i => acc.set i (encode64 (Config.meterImage seg i)) 0) {},
    dmem := (List.range 32768).foldl (fun acc i => acc.set i (encode64 (Config.meterImage seg (32768 + i))) 0) {} }

/-- R204: step 4: a segment whose hash differs from the one in the calibration store takes a seal step, and the store then records the
new hash. -/
def State.noteSegment (s : State) (seg : List Byte) : State :=
  let h := sha512 seg
  let s := s.modSmp (fun m => { m with seg := none, segReq := false, segHash := h, meter := loadMeter seg })
  let s := if s.fuses.sealNo > s.fuses.sealLogged then s.logSealLoss else s
  match s.storeCopy with
  | some k => if s.storeHash k = h then s else (s.sealStepForced 1).writeStore (s.flashBytes (calBase k) (8 * calWords)) h
  | none => s

/-- R197, R204: step 5: START, the key slot, and a new result chain. -/
def State.noteStart (s : State) : State :=
  ((s.setReg .SMP_START s.time).setFld F.SMP_STATUS_KEYSLOT s.fuses.metSlot).modSmp (fun m => { m with bseq := 0 })

/-- R204, R420: step 7: READY, or EXHAUSTED for ever (R207); captures are accepted, or dropped. -/
def State.smpOpen (s : State) : State :=
  let t := (s.setFld F.SMP_STATUS_STATE (if s.fuses.exhausted then smpExhausted else smpReady)).certifySmp
  if t.fuses.exhausted then t.dropCaptures else t.noteChain.startFilling

/-- R204: the segment has arrived: it is verified, the key derived, the calibration read, and the SMP becomes READY. During a wipe of
the secure bank steps 6 and 7 wait for its end (R178). -/
def State.smpSegmentArrival (s : State) : State :=
  match s.smp.seg with
  | none => s
  | some bytes =>
    if !s.smpOn ∨ s.smpState ≠ smpBoot then s
    else if !(s.segmentGood bytes) then s.smpFail
    else
      let t := (s.noteSegment bytes).noteStart
      if t.bankReady then t.loadCal.smpOpen else t.modSmp (fun m => { m with reload := true })

/-- R184: the meter core scrubs the 65th sector from the segment; n upsets were corrected, there and in its memories. -/
def State.sector65Scrub (s : State) (n : Nat) : State :=
  match s.smp.meter.seg with
  | some seg =>
    if s.smpOn then
      (s.modSmp (fun m => { m with meter := { m.meter with frames := sector65 seg } })).count F.SMP_CNT_UPSET 0 0 0 n
    else s
  | none => s

/-- R188: a fault of the time reference. -/
def State.truFault (s : State) : State :=
  if !s.smpOn then s
  else
    let s := s.raise F.SMP_STATUS_TREF
    let s := match s.filling with
      | some b => if (s.buf b).entries = [] then s else s.modBuf b (fun x => { x with flags := x.flags ||| 4 })
      | none => s
    s.modSmp (fun m => { m with
      trefOoc := (List.range 64).foldl (fun acc c => acc.set c true false) m.trefOoc, trefCal := {} })

/-- R188: after 10 ms of stable reference: clusters on which a drift calibration has completed recover; TREF clears with the
last of them. -/
def State.truRecovery (s : State) : State :=
  let s := s.modSmp (fun m => { m with
    trefOoc := (List.range 64).foldl (fun acc c => if m.trefCal.get c false then acc.set c false false else acc) m.trefOoc })
  if (List.range 64).any (fun c => s.smp.trefOoc.get c false) then s else s.setFld F.SMP_STATUS_TREF 0

/-! ### Mailbox (R199, R200) -/

def State.slot (s : State) (i : Nat) : SmpSlot := s.smp.slots.get i {}
def State.modMbox (s : State) (i : Nat) (f : SmpSlot → SmpSlot) : State :=
  s.modSmp (fun m => { m with slots := m.slots.set i (f (m.slots.get i {})) {} })

/-- R199: a read of SMP_CLAIM by a master: the reply, and the slot owned. -/
def State.smpClaim (s : State) (mid : MasterId) : Word × State :=
  match (List.range 16).find? (fun i => (s.slot i).owner.isNone) with
  | some i => (BitVec.ofNat 64 (2 ^ 63 + i), s.modMbox i (fun _ => { owner := some mid }))
  | none => (0, s)

/-- R199: a write by this master to this slot is allowed. -/
def State.slotOwned (s : State) (i : Nat) (mid : MasterId) : Bool := (s.slot i).owner == some mid || mid == 328

/-- Status codes of replies (R200). -/
def stOk : Byte := 0x00
def stBusy : Byte := 0x01
def stDenied : Byte := 0x02
def stBadOpcode : Byte := 0x03
def stBadParam : Byte := 0x04
def stIntegrity : Byte := 0x07
def stNotReady : Byte := 0x09

/-- Fields of a request word. -/
def reqOp (v : Word) : Nat := (v.extractLsb' 0 16).toNat
def reqTag (v : Word) : Byte := v.extractLsb' 24 8
def reqLen (v : Word) : Nat := (v.extractLsb' 32 16).toNat

/-- The opcodes of R200. -/
def smpOpcodes : List Nat := [1, 2, 3, 0x10, 0x11, 0x12, 0x20, 0x21, 0x22, 0x23, 0x30, 0x31, 0x40]

/-- Bytes as the data words 4 to 31 of a slot. -/
def setBytes (t : Tab Word) (bs : List Byte) : Tab Word :=
  (List.range ((bs.length + 7) / 8)).foldl (fun acc i => acc.set (4 + i) (bytesWord ((bs.drop (8 * i)).take 8)) 0) t

/-- A reply in a slot: status, DONE, results over the parameters. -/
def State.smpReply (s : State) (i : Nat) (st : Byte) (bs : List Byte) : State :=
  s.modMbox i (fun x =>
    { x with status := st, done := true, running := false, rlen := BitVec.ofNat 16 bs.length, data := setBytes x.data bs })

/-- R199: a write of REQ with GO = 1: the request is submitted, or answered at once where it cannot run. -/
def State.smpGo (s : State) (i : Nat) (mid : MasterId) (v : Word) : State :=
  if !(s.slotOwned i mid) ∨ (s.slot i).running then s
  else
    let s := s.modMbox i (fun x => { x with req := v, tag := reqTag v, done := false })
    let op := reqOp v
    if s.smpState ≠ smpReady ∧ !(s.smpState = smpNoImage ∧ (op = 0x30 ∨ op = 0x31)) then s.smpReply i stNotReady []
    else if op ∉ smpOpcodes then s.smpReply i stBadOpcode []
    else if reqLen v > 224 then s.smpReply i stBadParam []
    else (s.modMbox i (fun x => { x with running := true })).modSmp (fun m => { m with reqs := m.reqs ++ [i] })

/-- R199: a write of REQ with REL = 1 frees the slot. -/
def State.smpRelease (s : State) (i : Nat) (mid : MasterId) : State :=
  if !(s.slotOwned i mid) ∨ (s.slot i).running then s else s.modMbox i (fun _ => {})

/-- R199: a write of word w of slot i. -/
def State.slotWrite (s : State) (i w : Nat) (mid : MasterId) (v : Word) : Status × State :=
  if !(s.slotOwned i mid) then (.edeny, s)
  else if w ≥ 1 ∧ w < 4 then (.ok, s)
  else if (s.slot i).running then (.edeny, s)
  else if w = 0 then
    if v.getLsbD 62 then (.ok, s.smpRelease i mid)
    else if v.getLsbD 63 then (.ok, s.smpGo i mid v)
    else (.ok, s.modMbox i (fun x => { x with req := v }))
  else (.ok, s.modMbox i (fun x => { x with data := x.data.set w v 0 }))

/-- R199: a read of word w of slot i. -/
def State.slotRead (s : State) (i w : Nat) : Word :=
  let x := s.slot i
  if w = 0 then x.req &&& 0x0000FFFFFF00FFFF#64
  else if w = 1 then
    BitVec.ofNat 64 (x.status.toNat + bit x.done * 2 ^ 8 + x.rlen.toNat * 2 ^ 16 + x.tag.toNat * 2 ^ 32 +
      (match x.owner with | some m => m.toNat * 2 ^ 48 + 2 ^ 63 | none => 0))
  else if w < 4 then 0
  else x.data.get w 0

/-- n parameter bytes of a slot's request from byte off, as a little-endian number. -/
def State.param (s : State) (i off n : Nat) : Nat :=
  leNat ((List.range n).map (fun b => byteOf ((s.slot i).data.get (4 + (off + b) / 8) 0) ((off + b) % 8)))

/-- Parameter bytes of a slot's request. -/
def State.paramBytes (s : State) (i off n : Nat) : List Byte :=
  (List.range n).map (fun b => byteOf ((s.slot i).data.get (4 + (off + b) / 8) 0) ((off + b) % 8))

/-- R200: the request at the front, where it is slot i's and names this opcode, is executed by f: status, result, state. -/
def State.smpRun (s : State) (i op : Nat) (f : State → Byte × List Byte × State) : State :=
  match s.smp.reqs with
  | [] => s
  | j :: rest =>
    if j = i ∧ reqOp (s.slot i).req = op then
      let r := f s
      (r.2.2.modSmp (fun m => { m with reqs := rest })).smpReply i r.1 r.2.1
    else s

/-- The clusters of a mask. -/
def maskClusters (m : Nat) : List Nat := (List.range 64).filter (fun c => m.testBit c)

/-- R200: a request's one parameter: the number that its first 8 parameter bytes spell. -/
def State.slotParam (s : State) (i : Nat) : Nat := s.param i 0 (min 8 (reqLen (s.slot i).req))

/-- R194, R200: SETCLOSE: the block close timeout in µs, 0: none. -/
def State.smpSetclose (s : State) (us : Nat) : Byte × List Byte × State :=
  (stOk, [], s.modSmp (fun m => { m with setclose := BitVec.ofNat 32 us }))

/-- R200: FLUSH. -/
def State.smpFlush (s : State) : Byte × List Byte × State :=
  match s.filling with
  | some b =>
    if (s.buf b).entries = [] then (stOk, [], s) else (stOk, leBytes 8 (BitVec.ofNat 64 s.smp.bseq), s.closeBlock)
  | none => (stOk, [], s)

/-- R193, R200: RELEASE of a buffer. -/
def State.smpFree (s : State) (b : Nat) : Byte × List Byte × State :=
  if b < 4 ∧ (s.buf b).st = .signed then (stOk, [], (s.modBuf b (fun _ => {})).startFilling) else (stBadParam, [], s)

/-- R201: an engine of the cluster is not in IDLE or in an armed gang, or a channel has OE = 1. -/
def State.selfBlocked (s : State) (c : Nat) : Bool :=
  (List.range 16).any (fun j => s.flag F.PIN_CFG_OE (16 * c + j)) ||
    (List.range 4).any (fun k => (s.eng (4 * c + k)).mode != .idle || (s.eng (s.leader (4 * c + k))).gang.armed)

/-- R200: a calibration runs on a cluster. -/
def State.calRunning (s : State) (c : Nat) : Bool := s.smp.cals.any (fun r => r.wait.contains c || r.left.contains c)

/-- R201: an engine of cluster c has left IDLE, or a channel's OE has been set, since the SMP took the cluster. -/
def State.selfLost (s : State) (c : Nat) : Bool :=
  (List.range 4).any (fun k => (s.eng (4 * c + k)).leftIdle) || (List.range 16).any (fun j => (s.chan (16 * c + j)).oeRose)

/-- R201: the SMP takes cluster c: it watches the cluster's engines and channels from now on. -/
def State.watchCluster (s : State) (c : Nat) : State :=
  let s := s.forAll (List.range 4) (fun acc k => acc.modEng (4 * c + k) (fun x => { x with leftIdle := false }))
  s.forAll (List.range 16) (fun acc j => acc.modChan (16 * c + j) (fun x => { x with oeRose := false }))

/-- What CALSTAT reports of the last request on a cluster (R200). -/
def State.noteLast (s : State) (c : Nat) (self : Bool) (st : Nat) : State :=
  s.modSmp (fun m => { m with last := m.last.set c { kind := if self then 1 else 2, time := s.time, st := st } {} })

/-- R201: step 1: while fewer than 8 clusters are being self-calibrated, the SMP takes the next one that waits; one that the refusal
conditions now hold for is abandoned (log entry 71). -/
def State.takeCluster (s : State) : State :=
  if 8 ≤ ((s.smp.cals.filter (·.self)).map (fun r => r.left.length)).foldl (· + ·) 0 then s
  else match s.smp.cals.findIdx? (fun r => r.self && !r.wait.isEmpty) with
    | none => s
    | some i =>
      let r := s.smp.cals.getD i { self := true }
      let c := r.wait.headD 0
      let take (left : List Nat) : State :=
        s.modSmp (fun m => { m with cals := m.cals.set i { r with wait := r.wait.drop 1, left := left } })
      if s.selfBlocked c then (take r.left).noteLast c true 3 else (take (r.left ++ [c])).watchCluster c

/-- R201: clusters are taken as long as one can be. -/
def State.takeClusters (s : State) : State := s.forAll (List.range 64) (fun acc _ => acc.takeCluster)

/-- R200 to R202: a calibration of the clusters of a mask is accepted, or refused. -/
def State.smpCalibrate (s : State) (self : Bool) (mask : Nat) : Byte × List Byte × State :=
  let cs := maskClusters mask
  if cs = [] then (stOk, [], s)
  else if cs.any (fun c => if self then s.selfBlocked c else s.clusterBusy c) then (stDenied, [], s)
  else if cs.any s.calRunning then (stBusy, [], s)
  else
    let run : CalRun := if self then { self := true, wait := cs } else { self := false, left := cs }
    let t := s.forAll cs (fun acc c => acc.noteLast c self 1)
    (stOk, [], (t.modSmp (fun m => { m with cals := m.cals ++ [run] })).takeClusters)

/-- The largest |DRIFT| of a class in a cluster. -/
def State.driftMax (s : State) (c k : Nat) : Nat :=
  ((List.range 16).map (fun j => (s.drift (16 * c + j) k).natAbs)).foldl max 0

/-- R200: CALSTAT of a cluster (the manual gives the result no layout: one word for each item, in its order; log entry
20). -/
def State.smpCalstat (s : State) (c : Nat) : Byte × List Byte × State :=
  if c > 63 then (stBadParam, [], s)
  else
    let l := s.smp.last.get c {}
    let ooc := ((List.range 16).map (fun j => bit (s.ooc (16 * c + j)) * 2 ^ j)).foldl (· + ·) 0
    let ws : List Word :=
      [ BitVec.ofInt 64 ((s.smp.tcal.get c none).getD 0), BitVec.ofInt 64 (s.clusterTemp c),
        BitVec.ofNat 64 (bit (s.smp.tout.get c false)), BitVec.ofNat 64 ooc ] ++
      (List.range 6).map (fun k => BitVec.ofNat 64 (s.driftMax c k)) ++
      [ BitVec.ofNat 64 l.kind, l.time,
        BitVec.ofNat 64 (if s.smp.cals.any (fun r => r.self && r.left.contains c) ∧ s.selfLost c then 3 else l.st) ]
    (stOk, wordsBytes ws, s)

/-- R200: CALIN_BEGIN. -/
def State.calinBegin (s : State) (len : Nat) : Byte × List Byte × State :=
  if s.smp.imp then (stBusy, [], s)
  else if len ≠ 149504 then (stBadParam, [], s)
  else (stOk, [], s.modSmp (fun m => { m with imp := true }))

/-- R200: where the meter core's work area holds an import's data (log entry 70). -/
def importBase : Nat := 0x70000

/-- R200: CALIN_DATA: at most 216 bytes, within the set's length. -/
def State.calinData (s : State) (off : Nat) (bs : List Byte) : Byte × List Byte × State :=
  if !s.smp.imp then (stNotReady, [], s)
  else if bs.length > 216 ∨ off + bs.length > 149504 then (stBadParam, [], s)
  else (stOk, [], (List.range bs.length).foldl (fun acc k => acc.setBankBits (importBase + off + k) (bs.getD k 0)) s)

/-- R203: the imported set: its deskew and linearisation tables go into the sealed region, drift becomes 0. -/
def State.installSet (s : State) : State :=
  let half (o : Nat) : BitVec 16 := s.bank16 (importBase + o)
  let s := (List.range 6144).foldl (fun acc n => acc.setBank16 (0x41000 + 2 * n) (half (4096 + 2 * n))) s
  let s := (List.range 6144).foldl (fun acc n => acc.setBank16 (0x44000 + 2 * n) 0) s
  (List.range 66560).foldl (fun acc n => acc.setBank16 (0x47000 + 2 * n) (half (16384 + 2 * n))) s

/-- R203: step 4: the baselines of every channel and class are measured. What the silicon's paths measure is open (log entry 2). -/
def State.recordBaselines (s : State) : State :=
  let n := s.free
  (List.range 6144).foldl (fun acc x => acc.setBaseline (x / 6) (x % 6) (Config.pathDelay n x)) { s with free := n + 1 }

/-- R201, R203: CALID.MAJOR + 1, MINOR := 0, PLANE. -/
def State.newMajor (s : State) (plane : Bool) : State :=
  let id := s.reg .SMP_CALID
  (s.setReg .SMP_CALID ((id.extractLsb' 32 32 + 1#32) ++ (0#32))).setFld F.SMP_STATUS_PLANE (bit plane)

/-- The metrology key in force. -/
def State.metKey (s : State) : BitVec 512 := (s.fuses.metKeys.get s.fuses.metSlot none).getD 0

/-- R203: what the import of a set leaves beside its tables: a valid calibration of every cluster. -/
def State.noteImport (s : State) (bytes : List Byte) : State :=
  (s.setFld F.SMP_STATUS_NOCAL 0).modSmp (fun m =>
    { m with calValid := true, driftOver := {},
             tcal := (List.range 64).foldl (fun acc c => acc.set c (some (Config.calSetTcal bytes c)) none) m.tcal,
             last := (List.range 64).foldl (fun acc c => acc.set c { kind := 3, time := s.time, st := 2 } {}) m.last })

/-- R203, R205: the seal step, then the baselines are recorded, the imported set takes effect and its offsets wait under R187. -/
def State.importSet (s : State) (bytes : List Byte) : State :=
  let t := (((s.sealStep 3).recordBaselines.installSet).newMajor (Config.calSetPlane bytes)).noteImport bytes
  t.writeHeader.updateTout.pendOffsets (List.range 64)

/-- R200, R203, R207: CALIN_END. -/
def State.calinEnd (s : State) : Byte × List Byte × State :=
  let bytes := (List.range 149504).map (fun i => s.bankByte (importBase + i))
  let t := s.modSmp (fun m => { m with imp := false })
  if s.fuses.sealNo ≥ 4096 then (stDenied, [], t)
  else if !s.smp.imp then (stNotReady, [], s)
  else if !(Config.calSetGood bytes s.metKey) then (stIntegrity, [], t)
  else if (List.range 256).any (fun e => (s.eng e).mode != .idle || (s.eng (s.leader e)).gang.armed) then (stDenied, [], t)
  else
    let t := t.importSet bytes
    (stOk, leBytes 8 (t.reg .SMP_CALID), t.storeCal)

/-- R200: the bytes of the current set: the header and the tables. -/
def calSetLen : Nat := 0x27800
def State.calSetBytes (s : State) : List Byte := (List.range calSetLen).map (fun i => s.bankByte (0x40000 + i))

/-- R200: the partition key signs the current set, whose digest is d; d' is what CALOUT compares. -/
def State.signSet (s : State) (d' : BitVec 512) : BitVec 1056 × State :=
  let sig := ecdsaSign (partitionKey s.fuses.sealNo) (sha512 s.calSetBytes) s.smp.signs
  (sig, s.modSmp (fun m => { m with signs := m.signs + 1, outSig := some (d', sig) }))

/-- R200: the partition key's signature over the current set: one signature for one content, so that the parts that CALOUT hands out fit
together. -/
def State.calSetSig (s : State) : BitVec 1056 × State :=
  let d := sha512 (beBytes 2 (BitVec.ofNat 16 s.fuses.sealNo) ++ s.calSetBytes)
  match s.smp.outSig with
  | some (d', sig) => if d' = d then (sig, s) else s.signSet d
  | none => s.signSet d

/-- R200: CALOUT: bytes of the current set as it stands, then the partition key's signature over them. -/
def State.calout (s : State) (off : Nat) : Byte × List Byte × State :=
  let total := calSetLen + 132
  if off ≥ total then (stBadParam, [], s)
  else
    let n := min 216 (total - off)
    let s := s.noteMeter (((List.range ((off + n + 7) / 8)).filter (fun i => off / 8 ≤ i ∧ i < calSetLen / 8)).map (0x8000 + ·))
    let g : BitVec 1056 × State := if calSetLen < off + n then s.calSetSig else (0, s)
    (stOk, (List.range n).map (fun k =>
      if off + k < calSetLen then s.bankByte (0x40000 + off + k) else (beBytes 132 g.1).getD (off + k - calSetLen) 0), g.2)

/-- R200: ATTEST. -/
def State.smpAttest (s : State) (nonce : List Byte) : Byte × List Byte × State :=
  let ws := wordsBytes [s.sealWord, s.reg .SMP_CALID, s.reg .SMP_START]
  let sig := ecdsaSign (partitionKey s.fuses.sealNo) (sha512 (nonce ++ ws ++ beBytes 64 s.smp.segHash)) s.smp.signs
  (stOk, ws ++ beBytes 132 sig, s.modSmp (fun m => { m with signs := m.signs + 1 }))

/-- R200: IMAGEHASH. -/
def State.imageHash (s : State) : Byte × List Byte × State :=
  (stOk, beBytes 64 s.smp.segHash ++ beBytes 64 s.metKey, s)

/-- R200, R206: KEYROT: the signature is by the current key (pub: the current public key that the requester names). -/
def State.keyrot (s : State) (pub : BitVec 1056) (newHash : List Byte) (sig : BitVec 1056) : Byte × List Byte × State :=
  let digest := sha512 (newHash ++ beBytes 2 (BitVec.ofNat 16 s.fuses.sealNo))
  if s.fuses.sealNo ≥ 4096 then (stDenied, [], s)
  else if !(sha512 (beBytes 132 pub) == s.metKey && ecdsaVerify pub digest sig) then (stIntegrity, [], s)
  else if s.fuses.metSlot ≥ 7 then (stDenied, [], s)
  else
    let s := s.sealStep 2
    let k := s.fuses.metSlot + 1
    let s := { s with fuses := { s.fuses with
      metKeys := s.fuses.metKeys.set k (some (BitVec.ofNat 512 (beNat newHash))) none, metSlot := k } }
    let s := s.setFld F.SMP_STATUS_KEYSLOT k
    (stOk, leBytes 8 (BitVec.ofNat 64 s.fuses.sealNo), s)

/-! ### Calibration completes (R201, R202) -/

/-- A calibration of cluster c is over: abandoned or done. -/
def State.calOver (s : State) (c : Nat) (self ok : Bool) : State :=
  (s.modSmp (fun m => { m with cals := m.cals.map (fun r =>
    if r.self = self ∧ c ∈ r.left then { r with left := r.left.filter (· != c), done := r.done || ok } else r) })).noteLast c self
      (if ok then 2 else 3)

/-- R194, R201, R202: the last cluster of a request has completed: the block closes, and CALID changes; a self-calibration's set goes to
the calibration store. -/
def State.calDone (s : State) (self : Bool) : State :=
  let s := s.closeBlock
  if self then (s.newMajor false).writeHeader.storeCal
  else (s.setReg .SMP_CALID (s.reg .SMP_CALID + 1)).writeHeader

/-- R201, R202: further clusters are taken, and requests without a cluster left have completed. -/
def State.calSettle (s : State) : State :=
  let s := s.takeClusters
  let fin := s.smp.cals.filter (fun r => r.wait.isEmpty && r.left.isEmpty)
  let s := s.modSmp (fun m => { m with cals := m.cals.filter (fun r => !(r.wait.isEmpty && r.left.isEmpty)) })
  fin.foldl (fun acc r => if r.done then acc.calDone r.self else acc) s

/-- R201: the measured tables of a cluster (96 deskew values, 16 × 65 breakpoints) and its 96 baselines replace its own, and its drift
becomes 0. -/
def State.measuredTables (s : State) (c : Nat) (deskew lin : List (BitVec 16)) (base : List (BitVec 32)) : State :=
  let s := (List.range 96).foldl (fun acc n => acc.setBaseline (16 * c + n / 6) (n % 6) (base.getD n 0)) s
  let s := (List.range 96).foldl (fun acc n => acc.setBank16 (0x41000 + 192 * c + 2 * n) (deskew.getD n 0)) s
  let s := (List.range 96).foldl (fun acc n => acc.setBank16 (0x44000 + 192 * c + 2 * n) 0) s
  (List.range 1040).foldl (fun acc n => acc.setBank16 (0x47000 + 2080 * c + 2 * n) (lin.getD n 0)) s

/-- R186, R189, R201: a cluster is calibrated at its present temperature. -/
def State.noteCalibrated (s : State) (c : Nat) : State :=
  (s.setFld F.SMP_STATUS_NOCAL 0).modSmp (fun m =>
    { m with calValid := true, tcal := m.tcal.set c (some (s.clusterTemp c)) none,
             driftOver := (List.range 16).foldl (fun acc j => acc.set (16 * c + j) false false) m.driftOver })

/-- R201: self-calibration of cluster c, which the SMP has taken, completes with its measured tables, or is abandoned because an engine
left IDLE or a channel's OE was set. It cannot complete while a wipe keeps the secure bank closed (R178; log entry 71). -/
def State.selfcalComplete (s : State) (c : Nat) (deskew lin : List (BitVec 16)) (base : List (BitVec 32)) : State :=
  if !(s.smp.cals.any (fun r => r.self && r.left.contains c)) then s
  else if s.selfLost c then (s.calOver c true false).calSettle
  else if !s.bankReady then s
  else (((((s.measuredTables c deskew lin base).noteCalibrated c).writeHeader.calOver c true true).updateTout).pendOffsets [c]).calSettle

/-- R186, R202: a new DRIFT of a channel and class: clamped to ±96, and the channel marked. -/
def State.setDrift (s : State) (p k : Nat) (v : Int) : State :=
  let s := s.setBank16 (0x44000 + 12 * p + 2 * k) (BitVec.ofInt 16 (clampInt (-96) 96 v))
  if v.natAbs > 96 then s.modSmp (fun m => { m with driftOver := m.driftOver.set p true false }) else s

/-- R202: the drift that a present path delay R gives: −(R − R0). -/
def State.driftOf (s : State) (p k : Nat) (r : BitVec 32) : Int := -(r.toInt - s.baseline p k)

/-- R188, R202: the measured path delays of a cluster, channel by channel and class by class; its drift calibration is over. -/
def State.clusterDrifts (s : State) (c : Nat) (rs : List (BitVec 32)) : State :=
  let s := s.noteMeter ((List.range 48).map (fun i => 0xD000 + 48 * c + i))
  let s := s.modSmp (fun m => { m with
    driftOver := (List.range 16).foldl (fun a j => a.set (16 * c + j) false false) m.driftOver, trefCal := m.trefCal.set c true false })
  ((List.range 96).foldl (fun a n => a.setDrift (16 * c + n / 6) (n % 6) (a.driftOf (16 * c + n / 6) (n % 6) (rs.getD n 0))) s).calOver c
    false true

/-- R202: drift calibration of the named clusters completes: rs gives, for each cluster still to complete in ascending order, its 96
present path delays in ticks. It cannot complete while a wipe keeps the secure bank closed (R178; log entry 71). -/
def State.driftcalComplete (s : State) (rs : List (List (BitVec 32))) : State :=
  match s.smp.cals.find? (fun r => !r.self) with
  | none => s
  | some r =>
    if !s.bankReady then s
    else
      let t := (List.range r.left.length).foldl (fun acc i => acc.clusterDrifts (r.left.getD i 0) (rs.getD i [])) s
      (t.pendOffsets r.left).calSettle

/-- R194: the SETCLOSE timeout since the first entry has elapsed. -/
def State.setcloseTimeout (s : State) : State :=
  match s.filling with
  | some b =>
    if s.smp.setclose = 0 ∨ (s.buf b).entries = [] then s
    else (s.atTime ((s.buf b).tfirst.toNat + 6400 * s.smp.setclose.toNat)).closeBlock
  | none => s

/-- R178, R194, R204: the wipe completes: the bank accepts accesses, and the SMP reads its calibration store again, or for the first time
where its start waits for that. The block closes where CALID or PLANE is about to change. -/
def State.bankWipeComplete (s : State) : State :=
  if !(s.flag F.SBK_STATUS_WIPING) then s
  else
    let s := ((s.setFld F.SBK_STATUS_WIPING 0).setFld F.SBK_STATUS_READY 1).logLate
    if !(s.smp.reload && s.smpOn) then s
    else if s.smpState = smpBoot then s.loadCal.smpOpen
    else ((if s.reloadChanges then s.closeBlock else s).loadCal).noteChain

/-! ### Registers (R192) -/

/-- SMP_STATUS as it reads. -/
def State.smpStatus (s : State) : Word :=
  let w := s.reg .SMP_STATUS
  let w := putFld F.SMP_STATUS_PENDING (bit ((List.range 64).any (fun c => s.smp.pendOff.get c false))) w
  let w := putFld F.SMP_STATUS_ANYOOC (bit ((List.range 1024).any s.ooc)) w
  let w := putFld F.SMP_STATUS_SEALFULL (bit (s.fuses.sealNo == 4096)) w
  putFld F.SMP_STATUS_CAL (bit (!s.smp.cals.isEmpty)) w

/-- SMP_WIN as it reads. -/
def State.smpWin (s : State) : Word :=
  let code (b : Nat) : Nat := match (s.buf b).st with | .free => 0 | .filling => 1 | .signing => 2 | .signed => 3
  let st := ((List.range 4).map (fun b => code b * 4 ^ b)).foldl (· + ·) 0
  match s.filling with
  | some b => BitVec.ofNat 64 (st + b * 2 ^ 16 + (s.buf b).entries.length * 2 ^ 32)
  | none => BitVec.ofNat 64 st

/-- SMP_OOC_w as it reads. -/
def State.smpOoc (s : State) (w : Nat) : Word :=
  BitVec.ofNat 64 (((List.range 64).map (fun j => bit (s.ooc (64 * w + j)) * 2 ^ j)).foldl (· + ·) 0)

end Sys2Proof.Machine
end

