-- ==== Sys2Proof/Machine/Loader.lean ====
section
/-!
DEFINITION. The configuration controller and the scrubber (chapter 09): settings, images, frames, loads at start-up and in
user mode, the SMP's segment, frame scrubbing.
-/
namespace Sys2Proof.Machine

open Sys2Proof

/-! ### Loader states (R242) -/

def ldHold : Nat := 1
def ldSettings : Nat := 2
def ldHeader : Nat := 3
def ldSigchk : Nat := 4
def ldFrames : Nat := 5
def ldHashchk : Nat := 6
def ldDoneWait : Nat := 7
def ldUser : Nat := 8
def ldFailed : Nat := 9
def ldWaitImage : Nat := 10

/-- The loader's state. -/
def State.ldState (s : State) : Nat := s.fld F.CFG_STATUS_STATE
/-- Set the loader's state. -/
def State.setLd (s : State) (v : Nat) : State := s.setFld F.CFG_STATUS_STATE v
/-- Change the loader's record. -/
def State.modLoader (s : State) (f : Loader → Loader) : State := { s with loader := f s.loader }
/-- R231: image slots. -/
def slot0Base : Nat := 0x01000000
def slot1Base : Nat := 0x10000000
def goldenBase : Nat := 0x20000000
/-- The start of an image slot. -/
def slotBase (n : Nat) : Nat := if n = 0 then slot0Base else slot1Base

/-- R235: the straps name the golden image only. -/
def State.goldenOnly (s : State) : Bool := s.fld F.CFG_STATUS_STRAP == 1

/-- R230: the flash read command and its dummy cycles in the read mode that the settings record sets. -/
def Loader.readCommand (l : Loader) : Byte × Nat := if l.fmode = 0 then (0x0C, 8) else (l.ordop, l.dummy)

/-! ### Settings record (R232, R233) -/

/-- Word w of the settings copy at a flash offset. -/
def State.setWord (s : State) (base w : Nat) : Word := bytesWord (s.flashBytes (base + 8 * w) 8)

/-- R233: a settings copy is valid. -/
def State.settingsValid (s : State) (base : Nat) : Bool :=
  let w := s.setWord base
  let w2 := w 2
  w 0 == 0x4353455400010000#64 && (w 1).extractLsb' 32 32 == 0#32 &&
    (w2 &&& ~~~ 0x0000001FFFFF0103#64) == 0 && fldOf ⟨.CFG_SRC, 1, 0⟩ w2 != 3 &&
    (w 3 ||| w 4 ||| w 5 ||| w 6) == 0 && (w 7).extractLsb' 32 32 == 0#32 &&
    (w 7).extractLsb' 0 32 == crc32c (s.flashBytes base 0x38)

/-- R233: the settings copy to use: 0 copy A, 1 copy B, 2 defaults. -/
def State.settingsChoice (s : State) : Nat :=
  let a := s.settingsValid 0
  let b := s.settingsValid 0x10000
  if a ∧ b then
    let d := ((s.setWord 0 1).setWidth 32 - (s.setWord 0x10000 1).setWidth 32 : BitVec 32)
    if d.toNat < 2 ^ 31 then 0 else 1
  else if a then 0
  else if b then 1
  else 2

/-- R232, R234: the ACTIVE slot that the settings record in force names. -/
def State.activeSlot (s : State) : Nat :=
  match s.settingsChoice with
  | 2 => 0
  | n => bit ((s.setWord (0x10000 * n) 2).getLsbD 8)

/-! ### Image sources -/

/-- Bytes of DRAM as master 347 reads them: none where a line is not OK. -/
def State.dramBytes (s : State) (a n : Nat) : Option (List Byte) × State :=
  let first := a / 64
  let last := (a + n + 63) / 64
  let q := (List.range (last - first)).foldl (fun (acc : Option (List (List Byte)) × State) i =>
    let la := (first + i) * 64
    let k := acc.2.dramChannel la
    let r : LineReq := { xid := 0, first := 0, mid := 347, lam := acc.2.dramLine la, kind := .read, mask := 0xFF }
    if acc.2.dmcState k ≠ dmcReady then (none, acc.2)
    else match acc.2.performLine k r [] with
      | some (reply, t) =>
        match acc.1 with
        | some bs => if reply.status = .ok then (some (leBytes 64 reply.data :: bs), t) else (none, t)
        | none => (none, t)
      | none => (none, acc.2)) (some [], s)
  (q.1.map (fun bs => ((bs.reverse.flatten).drop (a % 64)).take n), q.2)

/-- What a read of an image source gives: bytes, the failure cause of R243, or nothing yet (a stream without data). -/
inductive SrcRead where
  | bytes (bs : List Byte)
  | fail (cause : Nat)
  | wait
  deriving DecidableEq, Repr

/-- Bytes off to off + n - 1 of an image that can be read again: flash (kind 1) or DRAM (kind 2). bad: the cause where the
bytes cannot be had. -/
def State.imageBytes (s : State) (src : SectorSrc) (off n bad : Nat) (dead : Bool) : SrcRead × State :=
  if src.kind = 1 then
    if dead then (.fail 7, s) else (.bytes (s.flashBytes (src.base + off) n), s)
  else if src.kind = 2 then
    if s.dramCap < src.base + off + n then (.fail 3, s)
    else match s.dramBytes (src.base + off) n with
      | (some bs, t) => (.bytes bs, t)
      | (none, t) => (.fail bad, t)
  else (.fail bad, s)

/-- The next n bytes of the image that is being loaded, from its offset off. -/
def State.nextBytes (s : State) (off n bad : Nat) (dead : Bool) : SrcRead × State :=
  let l := s.loader
  if l.src.kind = 3 then
    if n ≤ l.stream.length then (.bytes (l.stream.take n), s.modLoader (fun x => { x with stream := x.stream.drop n }))
    else if l.streamEnd then (.fail 3, s)
    else (.wait, s)
  else s.imageBytes l.src off n bad dead

/-! ### Header (R236 to R238) -/

/-- Word at an offset of a header. -/
def hdrWord (h : List Byte) (off : Nat) : Word := bytesWord ((h.drop off).take 8)
/-- Bits of a word. -/
def bitsOf (w : Word) (hi lo : Nat) : Nat := (w.extractLsb' lo (hi - lo + 1)).toNat
/-- A segment entry: type, frames, offset, length. -/
structure Seg where
  typ : Nat
  frames : Nat
  offset : Nat
  len : Nat
  deriving DecidableEq, Repr
/-- SEGj. -/
def hdrSeg (h : List Byte) (j : Nat) : Seg :=
  let w := hdrWord h (0x40 + 32 * j)
  { typ := bitsOf w 7 0, frames := bitsOf w 63 32, offset := (hdrWord h (0x48 + 32 * j)).toNat,
    len := (hdrWord h (0x50 + 32 * j)).toNat }
/-- The FABRIC segment. -/
def fabricSeg (h : List Byte) : Seg := if (hdrSeg h 0).typ = 1 then hdrSeg h 0 else hdrSeg h 1
/-- The SMP segment, in SEG0 where there is one. -/
def smpSeg (h : List Byte) : Option Seg := if (hdrSeg h 0).typ = 2 then some (hdrSeg h 0) else none
def hdrPartial (h : List Byte) : Bool := (hdrWord h 8).getLsbD 1
def hdrBodyLen (h : List Byte) : Nat := (hdrWord h 0x28).toNat
def hdrHash (h : List Byte) : BitVec 512 := BitVec.ofNat 512 (beNat ((h.drop 0xC0).take 64))
def hdrKeySlot (h : List Byte) : Nat := bitsOf (hdrWord h 0x30) 9 8
def hdrIseq (h : List Byte) : Nat := bitsOf (hdrWord h 0x20) 63 32

/-- R236: every reserved bit and byte is 0. -/
def reservedZero (h : List Byte) : Bool :=
  (hdrWord h 8 &&& 0xFFFF0000000000FC#64) == 0 && (hdrWord h 0x30 &&& ~~~ 0x30F#64) == 0 && hdrWord h 0x38 == 0 &&
    (List.range 4).all (fun j =>
      (hdrWord h (0x40 + 32 * j) &&& 0x00000000FFFFFF00#64) == 0 && hdrWord h (0x58 + 32 * j) == 0) &&
    ((h.drop 0x184).take 4).all (· == 0) && ((h.drop 0x1CA).take 6).all (· == 0) && (h.drop 0x212).all (· == 0)

/-- R238: the segment conditions. -/
def segmentsGood (h : List Byte) : Bool :=
  let n := bitsOf (hdrWord h 0x30) 3 0
  let segs := (List.range 4).map (hdrSeg h)
  let used := segs.take n
  let fs := fabricSeg h
  (n == 1 || n == 2) && used.all (fun g => g.typ == 1 || g.typ == 2) && (segs.drop n).all (fun g => g.typ == 0) &&
    (used.filter (fun g => g.typ == 1)).length == 1 && (used.drop 1).all (fun g => g.typ == 1) &&
    (hdrSeg h 0).offset == 0x1000 &&
    (n == 1 || (hdrSeg h 1).offset == 0x1000 + (hdrSeg h 0).len) &&
    hdrBodyLen h == used.foldl (fun acc g => acc + g.len) 0 &&
    fs.frames != 0 && fs.frames % 3456 == 0 && fs.len == 1040 * fs.frames && bitsOf (hdrWord h 0x20) 31 0 == fs.frames &&
    (match smpSeg h with | some g => g.frames == 0 && decide (g.len ≤ 4 * 2 ^ 20) | none => true) &&
    decide (0x1000 + hdrBodyLen h ≤ 224 * 2 ^ 20)

/-- R238: the header is no header mismatch. user: a load in user mode. -/
def State.headerGood (s : State) (h : List Byte) (user : Bool) : Bool :=
  let w1 := hdrWord h 8
  hdrWord h 0 == 0x43494D4700011000#64 && reservedZero h && bitsOf w1 47 36 == 0x0C5 && bitsOf w1 35 24 == 0x144 &&
    (bitsOf w1 23 8).testBit (s.fld F.SYS_ID_STEP) &&
    (!(w1.getLsbD 0) || leNat ((h.drop 0x10).take 16) == Config.deviceUid.toNat) &&
    segmentsGood h && (!(hdrPartial h) || (user && (smpSeg h).isNone))

/-- R237: the header's signature is valid. -/
def State.signatureGood (s : State) (h : List Byte) : Bool :=
  let pubBytes := (h.drop 0x100).take 132
  let pub : BitVec 1056 := BitVec.ofNat 1056 (beNat pubBytes)
  let sig : BitVec 1056 := BitVec.ofNat 1056 (beNat ((h.drop 0x188).take 66 ++ (h.drop 0x1D0).take 66))
  let known : Bool :=
    if s.fuses.lc = 0 then true
    else match s.fuses.cfgKeys.get (hdrKeySlot h) none with
      | some k => k == sha512 pubBytes
      | none => false
  known && ecdsaVerify pub (sha512 (h.take 0x100)) sig

/-! ### Frames (R239, R240, R257) -/

/-- R257: the 192 check bits of a frame: row checks in [63:0], column checks in [191:64]. -/
def frameCheck (d : BitVec 8192) : BitVec 192 :=
  let row (r : Nat) : BitVec 128 := d.extractLsb' (128 * r) 128
  let p : BitVec 64 := BitVec.ofNat 64 ((List.range 64).foldl (fun acc r => acc + (if parity (row r) then 2 ^ r else 0)) 0)
  let cols : BitVec 128 := (List.range 64).foldl (fun acc r => acc ^^^ row r) 0#128
  cols ++ (p ^^^ p.rotateLeft 1)

/-- A frame with its check bits. -/
def withCheck (d : BitVec 8192) : BitVec 8384 := frameCheck d ++ d

/-- The configuration bits of a frame record. -/
def frameBits (r : List Byte) : BitVec 8192 := BitVec.ofNat 8192 (leNat ((r.drop 8).take 1024))

/-- R240: the record's CRC, type and reserved bits are good. -/
def frameRecordGood (r : List Byte) : Bool :=
  let a := hdrWord r 0
  leNat ((r.drop 1032).take 4) == (crc32c (r.take 1032)).toNat && bitsOf a 63 56 == 1 && bitsOf a 47 12 == 0 &&
    decide (bitsOf a 55 48 < 64) && decide (bitsOf a 11 0 < 3456) && (r.drop 1036).all (· == 0)

/-- The sector and frame that a record names. -/
def frameSector (r : List Byte) : Nat := bitsOf (hdrWord r 0) 55 48
def frameNumber (r : List Byte) : Nat := bitsOf (hdrWord r 0) 11 0

/-- A stored frame. -/
def State.frame (s : State) (x f : Nat) : BitVec 8384 := s.frames.get (3456 * x + f) 0
def State.setFrame (s : State) (x f : Nat) (v : BitVec 8384) : State :=
  { s with frames := s.frames.set (3456 * x + f) v 0 }

/-- SCR_STATUS.ACTIVE follows the passes that run. -/
def State.scrubActive (s : State) : State :=
  s.setFld F.SCR_STATUS_ACTIVE (bit ((List.range 64).any (fun y => (s.sector y).pass.isSome)))

/-- R214, R243, R253: a sector is cleared: every select code 0, not configured; its border cells hold by the declarations in force. -/
def State.clearSector (s : State) (x : Nat) : State :=
  let s := s.holdBorder x
  let s := { s with frames := s.frames.clear (fun k => k / 3456 == x), ffs := s.ffs.clear (fun k => k / 2 / 163840 == x),
                    arith := s.arith.clear (fun k => k / 96 == x) }
  let s := (s.setFld F.FAB_STATUS_CONFIGURED 0 x).setFld F.FAB_STATUS_RELOADING 0 x
  (s.modSector x (fun c => { c with view := {}, gates := 0, src := {}, pass := none, repair := none })).scrubActive

/-! ### Starting and failing (R242 to R245, R252) -/

/-- A load starts at HEADER. -/
def State.startLoad (s : State) (src : SectorSrc) (attempt back : Nat) (user golden : Bool) : State :=
  let s := s.modLoader (fun l =>
    { l with user := user, src := src, back := back, golden := golden, hdr := [], body := [], sect := none, frame := 0,
             count := 0, sectors := [], start := s.now, stream := [], streamLast := s.now, streamEnd := false, fenced := [], good := false })
  ((s.setFld F.CFG_STATUS_ATTEMPT attempt).setFld F.CFG_STATUS_BUSY 1).setLd ldHeader

/-- R235, R243: the start-up load of the golden image. -/
def State.startGolden (s : State) : State := s.startLoad { kind := 1, base := goldenBase } 3 ldFailed false true

/-- R243, R255: the load fails with a cause. -/
def State.loadFail (s : State) (cause : Nat) : State :=
  let l := s.loader
  let wrote := if l.user then l.fenced else match l.sect with | some x => x :: l.sectors | none => l.sectors
  let s := s.forAll wrote (fun acc x => acc.clearSector x)
  let s := ((s.setFld F.CFG_STATUS_CAUSE cause).raise F.CFG_STATUS_LOADERR).setFld F.CFG_STATUS_BUSY 0
  let s := s.logErr { kind := 5, inst := 0, cls := 0x05, data := BitVec.ofNat 64 cause }
  if l.user then (s.modLoader (fun x => { x with user := false })).setLd ldUser
  else if l.back = ldFailed ∧ !l.golden then s.startGolden
  else s.setLd l.back

/-- R248, R235: CFG_HOLD has been high for 32 cycles. -/
def State.holdRelease (s : State) : State :=
  if s.ldState = ldHold then
    (s.setFld F.CFG_STATUS_HOLDIN 1).setLd (if s.fld F.CFG_STATUS_STRAP = 2 then ldWaitImage else ldSettings)
  else s

/-- R232, R233, R235: the settings are read. dead: the flash does not respond. -/
def State.settingsRead (s : State) (dead : Bool) : State :=
  if s.ldState ≠ ldSettings then s
  else if dead then
    (s.modLoader (fun l => { l with back := ldFailed, golden := s.goldenOnly, user := false, sectors := [], sect := none })).loadFail 7
  else
    let c := s.settingsChoice
    let w2 := if c = 2 then 0#64 else s.setWord (0x10000 * c) 2
    let active := bitsOf w2 8 8
    let s := (s.setFld F.CFG_STATUS_SETSRC c).modLoader (fun l =>
      { l with settings := true, fmode := bitsOf w2 1 0, active := active == 1, tmo := bitsOf w2 23 16,
               ordop := w2.extractLsb' 24 8, dummy := bitsOf w2 36 32 })
    if s.goldenOnly then s.startGolden
    else s.startLoad { kind := 1, base := slotBase active } (1 + active) ldFailed false false

/-- R236, R238: the header is read and checked. -/
def State.headerCheck (s : State) (dead : Bool) : State :=
  if s.ldState ≠ ldHeader then s
  else match s.nextBytes 0 0x1000 1 dead with
    | (.bytes h, t) =>
      if t.headerGood h t.loader.user then (t.modLoader (fun l => { l with hdr := h })).setLd ldSigchk
      else t.loadFail 1
    | (.fail c, t) => t.loadFail c
    | (.wait, t) => t

/-- R237: verification of the signature completes. -/
def State.signatureCheck (s : State) : State :=
  if s.ldState ≠ ldSigchk then s
  else if s.signatureGood s.loader.hdr then s.setLd ldFrames
  else s.loadFail 4

/-- R252, R256: a sector can be fenced: powered and not RELOADING. -/
def State.fenceable (s : State) (x : Nat) : Bool := s.sectorOn x && !(s.flag F.FAB_STATUS_RELOADING x)

/-- R254: a completion that reaches sector x after its fence is discarded: its outstanding requests are marked. -/
def State.lateRequests (s : State) (x : Nat) : State :=
  { s with xacts := ⟨s.xacts.cells.map (fun c => (c.1, c.2.map (fun q =>
      if q.mid.toNat = 256 + x then { q with late := true } else q)))⟩ }

/-- R254, R260: a sector is fenced: RELOADING, its border cells hold, its flip-flops at INIT, completions that are still outstanding
discarded, its scrub pass abandoned. -/
def State.fenceSector (s : State) (x : Nat) : State :=
  let s := (s.lateRequests x).holdBorder x
  let s := { s with ffs := s.ffs.clear (fun k => k / 2 / 163840 == x), arith := s.arith.clear (fun k => k / 96 == x) }
  let s := ((s.setFld F.FAB_STATUS_RELOADING 1 x).modSector x (fun c => { c with pass := none })).scrubActive
  s.modLoader (fun l => { l with fenced := l.fenced ++ [x] })

/-- R240: a frame record is the next in order. -/
def Loader.inOrder (l : Loader) (r : List Byte) : Bool :=
  if l.frame = 0 then
    frameNumber r == 0 && (match l.sectors.getLast? with | some y => decide (y < frameSector r) | none => true)
  else frameNumber r == l.frame && l.sect == some (frameSector r)

/-- The length of the SMP segment ahead of the frames. -/
def Loader.smpLen (l : Loader) : Nat := match smpSeg l.hdr with | some g => g.len | none => 0

/-- R252, R254: the sector whose frame 0 is due: the next frame record passes R240 and names it. -/
def State.dueSector (s : State) : Option Nat :=
  let l := s.loader
  if s.ldState ≠ ldFrames ∨ l.frame ≠ 0 ∨ l.body.length < l.smpLen then none
  else match (s.nextBytes (0x1000 + l.body.length) 1040 2 false).1 with
    | .bytes r => if frameRecordGood r ∧ l.inOrder r then some (frameSector r) else none
    | _ => none

/-- R254, R256: before frame 0 of sector x in a user-mode load: the sector is fenced, for a full image every sector at once; a sector
that is unpowered or RELOADING ends the load. A repair in progress finishes first. -/
def State.sectorFence (s : State) (x : Nat) : State :=
  let l := s.loader
  if !l.user ∨ s.dueSector ≠ some x ∨ l.fenced.contains x then s
  else
    let xs := if hdrPartial l.hdr then [x] else List.range 64
    if !(xs.all s.fenceable) then s.loadFail 8
    else if xs.any (fun y => (s.sector y).repair.isSome) then s
    else s.forAll xs (fun acc y => acc.fenceSector y)

/-- R239, R254: an accepted frame record is written to its sector. -/
def State.acceptFrame (s : State) (r : List Byte) : State :=
  let x := frameSector r
  let f := frameNumber r
  let s := if f = 0 then s.bmFill x else s
  let s := (s.setFrame x f (withCheck (frameBits r))).setFld F.CFG_STATUS_PRSECT x
  let last : Bool := f == 3455
  let s := s.modLoader (fun l =>
    { l with body := l.body ++ r, count := l.count + 1, frame := if last then 0 else f + 1,
             sect := if last then none else some x, sectors := if last then l.sectors ++ [x] else l.sectors })
  if s.loader.count = (fabricSeg s.loader.hdr).frames then s.setLd ldHashchk else s

/-- R240, R246: the next part of the body arrives: the SMP segment, or a frame record. -/
def State.frameArrival (s : State) (dead : Bool) : State :=
  let l := s.loader
  if s.ldState ≠ ldFrames then s
  else
    if l.body.length < l.smpLen then
      match s.nextBytes 0x1000 l.smpLen 2 dead with
      | (.bytes bs, t) => t.modLoader (fun x => { x with body := bs })
      | (.fail c, t) => t.loadFail c
      | (.wait, t) => t
    else
      match s.nextBytes (0x1000 + l.body.length) 1040 2 dead with
      | (.bytes r, t) =>
        if !(frameRecordGood r) ∨ !(l.inOrder r) then t.loadFail 2
        else if l.user ∧ !(l.fenced.contains (frameSector r)) then s
        else t.acceptFrame r
      | (.fail c, t) => t.loadFail c
      | (.wait, t) => t

/-- R247, R254, R258: a loaded sector is configured, its source recorded. In user mode it is released with that: its new declarations come
into force and its logic drives the border; at start-up this waits for entry to user mode. -/
def State.releaseSector (s : State) (x pos : Nat) : State :=
  let l := s.loader
  let s := (s.setFld F.FAB_STATUS_CONFIGURED 1 x).setFld F.FAB_STATUS_RELOADING 0 x
  let s := s.modSector x (fun c => { c with src := { l.src with hash := hdrHash l.hdr, pos := pos } })
  if l.user then s.freeBorder x else s

/-- R241, R254, R256: the body hash is compared; on pass the loaded sectors are released. -/
def State.hashCheck (s : State) : State :=
  let l := s.loader
  if s.ldState ≠ ldHashchk then s
  else if sha512 l.body ≠ hdrHash l.hdr then s.loadFail 5
  else
    let s := if l.user ∧ !(hdrPartial l.hdr) then
        s.forAll ((List.range 64).filter (fun x => !(l.sectors.contains x))) (fun acc x => acc.clearSector x)
      else s
    let s := (l.sectors.zip (List.range l.sectors.length)).foldl (fun acc p => acc.releaseSector p.1 p.2) s
    let w : Word := BitVec.ofNat 64 (hdrIseq l.hdr * 2 ^ 32 + hdrKeySlot l.hdr * 256 +
      s.fld F.CFG_STATUS_ATTEMPT * 16 + bit (hdrPartial l.hdr))
    let s := (s.setReg .CFG_IMAGE w).setFld F.CFG_STATUS_BUSY 0
    let s := s.modLoader (fun x => { x with good := true, imgHash := hdrHash l.hdr })
    if l.user then (s.modLoader (fun x => { x with user := false })).setLd ldUser else s.setLd ldDoneWait

/-- R245: the first TIME at which the load times out: after a gap of 100 ms in a stream, or after LOADTMO, whichever comes first. -/
def Loader.deadline (l : Loader) : Option Nat :=
  let ms100 := 640000000
  let gap := l.streamLast + ms100 + 1
  let whole := l.start + l.tmo * ms100 + 1
  if l.src.kind = 3 ∧ !l.streamEnd then some (if l.tmo = 0 then gap else min gap whole)
  else if l.tmo = 0 then none
  else some whole

/-- R245: LOADTMO, or a gap of 100 ms in a stream, has expired. -/
def State.loadTimeout (s : State) : State :=
  if s.ldState < ldHeader ∨ ldHashchk < s.ldState then s
  else match s.loader.deadline with
    | some t => (s.atTime t).loadFail 6
    | none => s

/-! ### Commands (R250, R252, R261) -/

/-- R252, R242: CFG_CTRL.LOAD: a load from CFG_SRC starts, unless refused. -/
def State.cfgLoad (s : State) : State :=
  let st := s.ldState
  let kind := s.fld F.CFG_SRC_KIND
  let base := s.fld F.CFG_SRC_ADDR
  if (st = ldUser ∨ st = ldFailed ∨ st = ldWaitImage) ∧ !(s.flag F.CFG_STATUS_BUSY) ∧ kind ≠ 3 ∧ (kind = 2 ∨ base % 16 = 0) then
    s.startLoad { kind := kind + 1, base := if kind = 2 then 0 else base } (4 + kind) st (st = ldUser) true
  else s.raise F.CFG_STATUS_CFGERR

/-- R250, R261: CFG_CTRL.DONEREL. -/
def State.cfgDoneRel (s : State) : State :=
  if s.ldState = ldFailed ∨ s.ldState = ldWaitImage then s.modLoader (fun l => { l with doneRel := true })
  else s.raise F.CFG_STATUS_CFGERR

/-- R261: a write of CFG_CTRL. -/
def State.writeCfgCtrl (s : State) (v : Word) : State :=
  let s := if fldOf F.CFG_CTRL_DONEREL v = 1 then s.cfgDoneRel else s
  if fldOf F.CFG_CTRL_LOAD v = 1 then s.cfgLoad else s

/-- R261: a write of CFG_SRC. -/
def State.writeCfgSrc (s : State) (v : Word) : State :=
  if s.flag F.CFG_STATUS_BUSY then s.raise F.CFG_STATUS_CFGERR
  else (s.setFld F.CFG_SRC_KIND (fldOf F.CFG_SRC_KIND v)).setFld F.CFG_SRC_ADDR (fldOf F.CFG_SRC_ADDR v)

/-- R247, R249: CFG_DONE has been high for 32 cycles: the new declarations of every configured sector are in force and its logic drives
the border. -/
def State.enterUser (s : State) : State :=
  ((s.setFld F.CFG_STATUS_DONEIN 1).setLd ldUser).forAll
    ((List.range 64).filter (fun x => s.flag F.FAB_STATUS_CONFIGURED x)) (fun acc x => acc.freeBorder x)

/-- R246: the ACTIVE slot by the settings record, which R233 chooses; where the loader has read none since reset (straps 2 and 3), as it
would choose now. -/
def State.segmentSlot (s : State) : Nat := if s.loader.settings then bit s.loader.active else s.activeSlot

/-- R246: the SMP's segment is read from flash: of the first image whose header passes. -/
def State.smpSegmentDelivery (s : State) : State :=
  if !s.smp.segReq ∨ s.smp.seg.isSome then s
  else
    let bases := if s.goldenOnly then [goldenBase] else [slotBase s.segmentSlot, goldenBase]
    let good := bases.find? (fun b => let h := s.flashBytes b 0x1000; s.headerGood h false && s.signatureGood h)
    match good with
    | none => s.smpFail
    | some b =>
      match smpSeg (s.flashBytes b 0x1000) with
      | none => s.smpFail
      | some g => s.modSmp (fun m => { m with seg := some (s.flashBytes (b + g.offset) g.len) })

/-! ### Scrubber (R257 to R260) -/

/-- R260: the scrubber visits a sector. -/
def State.scrubs (s : State) (x : Nat) : Bool :=
  s.flag F.SCR_CTRL_EN && s.userMode && s.sectorOn x && s.flag F.FAB_STATUS_CONFIGURED x && !(s.flag F.FAB_STATUS_RELOADING x)

/-- R259: a pass of sector x starts. -/
def State.scrubPassStart (s : State) (x : Nat) : State :=
  if s.scrubs x ∧ (s.sector x).pass = none then
    (s.modSector x (fun c => { c with pass := some 0, upsets := 0 })).scrubActive
  else s

/-- R257: what the checks of a frame say: rows and columns that mismatch. -/
def frameKind (v : BitVec 8384) : CodeKind :=
  let d : BitVec 8192 := v.extractLsb' 0 8192
  let syn : BitVec 192 := v.extractLsb' 8192 192 ^^^ frameCheck d
  gridKind (syn.extractLsb' 0 64 : BitVec 64) (syn.extractLsb' 64 128 : BitVec 128)

/-- R257: the scrubber reads the next frame of sector x. upset: the cells that have flipped since they were written. -/
def State.scrubFrame (s : State) (x : Nat) (upset : BitVec 8384) : State :=
  match (s.sector x).pass with
  | none => s
  | some f =>
    if !(s.scrubs x) ∨ (s.sector x).repair.isSome ∨ 3537 ≤ f then s
    else if 3456 ≤ f then s.modSector x (fun c => { c with pass := some (f + 1) })
    else
      let v := s.frame x f ^^^ upset
      match frameKind v with
      | .clean => (s.setFrame x f v).modSector x (fun c => { c with pass := some (f + 1) })
      | .corrected b =>
        let d : BitVec 8192 := v.extractLsb' 0 8192
        let d := if b < 8192 then d ^^^ (1#8192 <<< b) else d
        ((s.setFrame x f (withCheck d)).count F.SCR_CNT_CORR 0 x).modSector x
          (fun c => { c with pass := some (f + 1), upsets := c.upsets + 1 })
      | _ => (s.setFrame x f v).modSector x (fun c => { c with repair := some f })

/-- R258: the reload of a frame from its recorded source: the frame record, where every check passes. -/
def State.reloadRecord (s : State) (x f : Nat) (dead : Bool) : Option (List Byte) × State :=
  let src := (s.sector x).src
  match s.imageBytes src 0 0x1000 9 dead with
  | (.bytes h, t) =>
    if hdrHash h ≠ src.hash then (none, t)
    else match t.imageBytes src ((fabricSeg h).offset + 1040 * (3456 * src.pos + f)) 1040 9 dead with
      | (.bytes r, u) => (if frameRecordGood r ∧ frameSector r = x ∧ frameNumber r = f then some r else none, u)
      | (_, u) => (none, u)
  | (_, t) => (none, t)

/-- R258: the scrubber reloads the frame that it found uncorrectable, or records the failure. -/
def State.frameReload (s : State) (x : Nat) (dead : Bool) : State :=
  match (s.sector x).repair with
  | none => s
  | some f =>
    let q := s.reloadRecord x f dead
    let t := q.2.modSector x (fun c => { c with repair := none, pass := some (f + 1), upsets := c.upsets + 1 })
    match q.1 with
    | some r => (t.setFrame x f (withCheck (frameBits r))).count F.SCR_CNT_RELOAD 0 x
    | none =>
      let t := (t.count F.SCR_CNT_FAIL 0 x).raise F.SCR_STATUS_SCRUBFAIL
      let t := ((t.setFld F.SCR_STATUS_VALID 1).setFld F.SCR_STATUS_SECTOR x).setFld F.SCR_STATUS_FRAME f
      t.logErr { kind := 4, inst := x, cls := 0x04, loc := f }

/-- R259: a change of a sector's period is logged (log entry 31 names the record type). -/
def State.setPeriod (s : State) (x p : Nat) : State :=
  if s.fld F.SCR_PERIOD_PERIOD 0 x = p then s
  else (s.setFld F.SCR_PERIOD_PERIOD p 0 x).logEvent 0x03 (BitVec.ofNat 64 x) (BitVec.ofNat 64 p)

/-- R259: a pass of sector x ends, and the adaptive rule may change its period. -/
def State.scrubPassEnd (s : State) (x : Nat) : State :=
  if (s.sector x).pass ≠ some 3537 then s
  else
    let u := (s.sector x).upsets
    let s := ((s.count F.SCR_CNT_PASSES 0 x).modSector x (fun c => { c with pass := none })).scrubActive
    let period := s.fld F.SCR_PERIOD_PERIOD 0 x
    let upth := s.fld F.SCR_CTRL_UPTH
    let quiet := s.fld F.SCR_CTRL_QUIET
    if !(s.flag F.SCR_CTRL_AUTO) then s
    else if upth ≠ 0 ∧ upth ≤ u then (s.modSector x (fun c => { c with quiet := 0 })).setPeriod x (max 10 (period / 2))
    else if u = 0 then
      let n := (s.sector x).quiet + 1
      if quiet ≠ 0 ∧ n = quiet then
        (s.modSector x (fun c => { c with quiet := 0 })).setPeriod x (min 10000 (2 * period))
      else s.modSector x (fun c => { c with quiet := n })
    else s.modSector x (fun c => { c with quiet := 0 })

end Sys2Proof.Machine
end

