-- ==== Sys2Proof/Machine/Reply.lean ====
section
/-!
DEFINITION. Command packets and replies of Mbana as bytes (R399), the mailbox windows (R398), replies on the four transports
(R396), and the record of a state-changing command (R408).
-/
namespace Sys2Proof.Machine

open Sys2Proof

/-- Change Mbana's record. -/
def State.modMb (s : State) (f : Mbana → Mbana) : State := { s with mb := f s.mb }

/-- Little-endian bytes of a number. -/
def natBytes (n v : Nat) : List Byte := (List.range n).map (fun i => BitVec.ofNat 8 (v / 256 ^ i))

/-! ### Mailbox windows (R398) -/

/-- Global address of byte offset off in mailbox window j. -/
def mboxAddr (j off : Nat) : Nat := 0x001800100000 + 0x1000 * j + off

/-- A byte range of a mailbox window. -/
def State.mboxBytes (s : State) (j off n : Nat) : List Byte :=
  (List.range n).map (fun i => byteOf (s.regs.get (mboxAddr j ((off + i) / 8 * 8)) 0) ((off + i) % 8))

/-- Write bytes from an 8-byte aligned offset of a mailbox window; the last word is filled up with zeros. -/
def State.setMboxBytes (s : State) (j off : Nat) (bs : List Byte) : State :=
  { s with regs := (List.range ((bs.length + 7) / 8)).foldl (fun acc i =>
      acc.set (mboxAddr j (off + 8 * i)) (bytesWord ((bs.drop (8 * i)).take 8)) 0) s.regs }

/-! ### Packets (R399) -/

/-- R399: the bytes of a reply: header, reply data, CRC-32C. -/
def MbReply.bytes (r : MbReply) : List Byte :=
  let h := [0x4D#8, 0x42#8, 0x01#8, 0x01#8] ++ natBytes 2 r.op ++ natBytes 2 r.seq ++ natBytes 2 r.data.length ++
    natBytes 1 r.status ++ [0#8] ++ natBytes 4 r.token ++ r.data
  h ++ leBytes 4 (crc32c h)

/-- R396, R398: a reply goes out on its transport. -/
def State.sendReply (s : State) (r : MbReply) : State :=
  if r.via = 0 then s.modMb (fun m => { m with sent := m.sent ++ [.reply r] })
  else if r.via = 1 then s.modMb (fun m => { m with spiReply := r.bytes })
  else
    let j := r.via - 2
    let s := ((s.setMboxBytes j 0x800 r.bytes).setFld F.MGT_MBSTAT_BUSY 0 j).setFld F.MGT_MBSTAT_DONE 1 j
    if j < 8 then s.pendIrq (1 + j) else s

/-- R408: the SOURCE of a record about a command: transport in [15:12], master ID or bridge in [9:0]. -/
def cmdSource (via : Nat) : BitVec 16 :=
  if via < 2 then BitVec.ofNat 16 (via * 4096)
  else if via < 10 then BitVec.ofNat 16 (3 * 4096 + 320 + (via - 2))
  else BitVec.ofNat 16 (2 * 4096 + (via - 10))

/-- R400, R401, R408: a command completes: a state-changing one is recorded (type 0x02), the reply is kept for a repeat of
the packet, and goes out. -/
def State.completeCmd (s : State) (r : MbReply) (record : Bool) (params : List Byte) : State :=
  let s := if record then
      s.logEvent 0x02 (BitVec.ofNat 64 (r.op + r.token * 2 ^ 16 + r.status * 2 ^ 48)) (bytesWord (params.take 8)) .none (cmdSource r.via)
    else s
  (s.modMb (fun m => { m with last := m.last.set r.via (some r) none })).sendReply r

/-! ### Settings (R411) -/

/-- R411: the default of a settings key. -/
def settingDefault (key : Nat) : Nat :=
  if key = 0x02 then 24
  else if key = 0x10 then 32
  else if key = 0x11 then 600
  else if key = 0x12 then 1000
  else if key = 0x20 then 160
  else if key = 0x21 then 3600
  else if key = 0x30 then 1
  else if key = 0x31 then 16
  else if key = 0x40 then 1
  else if key = 0x41 then 895
  else if key = 0x42 then 905
  else if key = 0x50 then 8
  else if key = 0x51 then 16
  else if key = 0x61 then 2
  else if key = 0x62 then 16
  else if key = 0x80 then 3600
  else if key = 0xA0 then 2
  else if key = 0xA1 then 2
  else 0

/-- R410: the value of a settings key; a key that is absent takes its default. -/
def State.setting (s : State) (key : Nat) : Nat :=
  match s.mb.settings.get key none with
  | some v => v.toNat
  | none => settingDefault key

/-- R395: Mbana reboots; the rest of the device keeps running. -/
def State.mbReboot (s : State) (cause : Nat) : State :=
  if s.mb.run = .safe ∨ s.mb.run = .off then s else s.modMb (fun m => { m with run := .booting, cause := cause })

end Sys2Proof.Machine
end

