-- ==== Sys2Proof/Machine/Lane.lean ====
section
/-!
DEFINITION. Serial lanes and their quads (chapter 13): commits, lane states, training and taps, FIFOs, loss detection, test
patterns, eye scan.
-/
namespace Sys2Proof.Machine

open Sys2Proof

/-- The states of a lane (R338). -/
def lnOff : Nat := 0
def lnAcquire : Nat := 1
def lnTrain : Nat := 2
def lnReady : Nat := 3
def lnLost : Nat := 4

/-- The state of lane l. -/
def State.lnState (s : State) (l : Nat) : Nat := s.fld F.LN_STATUS_STATE l
/-- The quad of a lane is powered. -/
def State.laneOn (s : State) (l : Nat) : Bool := s.domOn (domLQ (l / 4))
/-- Lane l beyond its registers. -/
def State.lane (s : State) (l : Nat) : Lane := s.lanes.get l {}
/-- Change lane l. -/
def State.modLane (s : State) (l : Nat) (f : Lane → Lane) : State := { s with lanes := s.lanes.set l (f (s.lane l)) {} }
/-- The lanes of quad q. -/
def quadLanes (q : Nat) : List Nat := (List.range 4).map (4 * q + ·)

/-- R350: a lane that leaves READY during an eye scan ends the scan. -/
def State.abortScan (s : State) (l : Nat) : State :=
  if s.flag F.LN_ESRES_BUSY l then
    ((s.setFld F.LN_ESRES_BUSY 0 l).setFld F.LN_ESRES_DONE 1 l).setFld F.LN_ESRES_ABORT 1 l
  else s

/-- Lane l enters a state: outside READY both FIFOs are empty (R344), an eye scan ends (R350) and the checker stops. -/
def State.setLn (s : State) (l v : Nat) : State :=
  let s := s.setFld F.LN_STATUS_STATE v l
  if v = lnReady then s
  else ((s.abortScan l).modLane l (fun x => { x with rx := [], tx := [], chk := {} })).setFld F.LN_STATUS_PLOCK 0 l

/-! ### Commits -/

/-- R340: taps that obey the rules. -/
def tapsGood (pre main post : Nat) : Bool :=
  decide (pre ≤ 15) && decide (16 ≤ main ∧ main ≤ 63) && decide (post ≤ 31) && decide (pre + main + post ≤ 63)

/-- R333: the baud rate, in kHz × 256 × 2^DIV, of a quad's PLL setting. -/
def State.quadRate (s : State) (q : Nat) : Nat := 2 * s.fld F.LN_QPLL_REFKHZ q * s.fld F.LN_QPLL_M q

/-- R337: the shadow settings of lane l break a check. -/
def State.lnCommitBad (s : State) (l : Nat) : Bool :=
  let c (f : Fld) : Nat := s.sfld f l
  let use := c F.LN_CFG_USE
  let md := c F.LN_CFG_MOD
  let div := c F.LN_CFG_DIV
  let train := c F.LN_CFG_TRAIN
  let rate := s.quadRate (l / 4)
  let unit := 256 * 2 ^ div
  let lo := if md = 0 then 1250000 else 16000000
  use == 3 || decide (5 ≤ div) || c F.LN_CFG_WIDTH == 3 || decide (48 ≤ c F.LN_CFG_LCLK) || c F.LN_CFG_LOOP == 3 ||
    s.fld F.LN_ESCAN_EYE l == 3 ||
    decide (rate < lo * unit) || decide (32000000 * unit < rate) ||
    (use == 2 && decide ((c F.LN_CFG_BRIDGE < 8) ≠ (l / 4 < 18))) ||
    (train == 1 && use != 2) || (train == 2 && md == 1) || (train == 3 && md == 0) ||
    (c F.LN_CFG_PRECODE == 1 && md == 0) ||
    !(tapsGood (c F.LN_TXEQ_PRE) (c F.LN_TXEQ_MAIN) (c F.LN_TXEQ_POST))

/-- The active taps of lane l take the values of LN_TXEQ. -/
def State.takeTaps (s : State) (l : Nat) : State :=
  let s := s.setFld F.LN_STATUS_APRE (s.fld F.LN_TXEQ_PRE l) l
  let s := s.setFld F.LN_STATUS_AMAIN (s.fld F.LN_TXEQ_MAIN l) l
  s.setFld F.LN_STATUS_APOST (s.fld F.LN_TXEQ_POST l) l

/-- R337, R338, R341: LN_COMMIT.GO of lane l. -/
def State.lnCommit (s : State) (l : Nat) : State :=
  if !(s.laneOn l) then s
  else if s.lnCommitBad l then s.raise F.LN_STATUS_CFGERR l
  else
    let old (f : Fld) : Nat := s.fld f l
    let chg (f : Fld) : Bool := s.fld f l != s.sfld f l
    let moved : Bool := chg F.LN_CFG_USE || chg F.LN_CFG_MOD || chg F.LN_CFG_DIV || chg F.LN_CFG_WIDTH ||
      chg F.LN_CFG_TRAIN || chg F.LN_CFG_BRIDGE || chg F.LN_CFG_PRECODE || chg F.LN_CFG_LCLK
    let eq : Bool := chg F.LN_TXEQ_PRE || chg F.LN_TXEQ_MAIN || chg F.LN_TXEQ_POST
    let wasOff : Bool := old F.LN_STATUS_STATE == lnOff
    let s := s.commitBlock .LN l
    let s := if s.fld F.LN_CFG_USE l = 0 then
        ((s.setLn l lnOff).setFld F.LN_STATUS_LOS 0 l).setFld F.LN_STATUS_LOL 0 l
      else if moved ∨ wasOff then s.setLn l lnAcquire else s
    let s := if s.fld F.LN_CFG_LOOP l = 2 then s.modLane l (fun x => { x with tx := [] }) else s
    if s.fld F.LN_CFG_TRAIN l = 0 then s.takeTaps l
    else if eq then s.modLane l (fun x => { x with tapsDue := true }) else s

/-- R336: LN_QCOMMIT.GO of quad q. -/
def State.lnqCommit (s : State) (q : Nat) : State :=
  let ref := s.sfld F.LN_QPLL_REFKHZ q
  let m := s.sfld F.LN_QPLL_M q
  if !(s.domOn (domLQ q)) then s
  else if (quadLanes q).any (fun l => s.fld F.LN_CFG_USE l != 0) ∨ ref < 100000 ∨ 312500 < ref ∨
      ref * m < 8000000 * 256 ∨ 16000000 * 256 < ref * m then s.raise F.LN_QSTATUS_CFGERR q
  else (s.commitBlock .LNQ q).setFld F.LN_QSTATUS_LOCK 0 q

/-! ### Loss detection (R335, R345, R346) -/

/-- R346: what a rising LOS or LOL does to lane l beside its own flag. -/
def State.lnLoss (s : State) (l : Nat) : State :=
  let st := s.lnState l
  let s := if st = lnReady ∨ st = lnTrain then s.setLn l lnLost else s
  if s.flag F.LN_CFG_IEN l then s.pendIrq (45 + l) else s

/-- R346: LOS rises. -/
def State.losRise (s : State) (l : Nat) : State :=
  if s.lnState l = lnOff ∨ s.flag F.LN_STATUS_LOS l ∨ !(s.laneOn l) then s
  else (((s.setFld F.LN_STATUS_LOS 1 l).raise F.LN_STATUS_LOSEV l).count F.LN_CNT_LOS l).lnLoss l

/-- R346: LOL rises. -/
def State.lolRise (s : State) (l : Nat) : State :=
  if s.lnState l = lnOff ∨ s.flag F.LN_STATUS_LOL l ∨ !(s.laneOn l) then s
  else (((s.setFld F.LN_STATUS_LOL 1 l).raise F.LN_STATUS_LOLEV l).count F.LN_CNT_LOL l).lnLoss l

/-- R346: with both detectors clear a lane in LOST goes on to ACQUIRE. -/
def State.lnRecover (s : State) (l : Nat) : State :=
  if s.lnState l = lnLost ∧ !(s.flag F.LN_STATUS_LOS l) ∧ !(s.flag F.LN_STATUS_LOL l) then s.setLn l lnAcquire else s

/-- R345: LOS clears. -/
def State.losClear (s : State) (l : Nat) : State := (s.setFld F.LN_STATUS_LOS 0 l).lnRecover l

/-- R345: LOL clears; not while the quad's PLL is unlocked. -/
def State.lolClear (s : State) (l : Nat) : State :=
  if s.flag F.LN_QSTATUS_LOCK (l / 4) then (s.setFld F.LN_STATUS_LOL 0 l).lnRecover l else s

/-- R335: the reference of quad q is lost: the PLL is unlocked and every lane that is not OFF loses lock. -/
def State.refLoss (s : State) (q : Nat) : State :=
  if s.domOn (domLQ q) then
    ((s.setFld F.LN_QSTATUS_REFLOS 1 q).setFld F.LN_QSTATUS_LOCK 0 q).forAll (quadLanes q) (fun acc l => acc.lolRise l)
  else s

/-- R335: a valid reference returns. -/
def State.refReturn (s : State) (q : Nat) : State := s.setFld F.LN_QSTATUS_REFLOS 0 q

/-- R335, R336: the quad PLL locks. -/
def State.quadLock (s : State) (q : Nat) : State :=
  if s.domOn (domLQ q) ∧ !(s.flag F.LN_QSTATUS_REFLOS q) then s.setFld F.LN_QSTATUS_LOCK 1 q else s

/-! ### Acquisition and training (R338 to R341) -/

/-- R338: ACQUIRE ends: the clock recovery has been locked for 10 µs. -/
def State.acquireDone (s : State) (l : Nat) : State :=
  if s.lnState l = lnAcquire ∧ !(s.flag F.LN_STATUS_LOS l) ∧ !(s.flag F.LN_STATUS_LOL l) ∧ s.flag F.LN_QSTATUS_LOCK (l / 4) then
    if s.fld F.LN_CFG_TRAIN l = 0 then s.setLn l lnReady
    else
      let s := if (s.lane l).tapsDue then (s.takeTaps l).modLane l (fun x => { x with tapsDue := false }) else s
      s.setLn l lnTrain
  else s

/-- R338: the training protocol ends. -/
def State.trainingEnd (s : State) (l : Nat) (ok : Bool) : State :=
  if s.lnState l ≠ lnTrain then s
  else if ok then s.setLn l lnReady
  else ((s.raise F.LN_STATUS_TRAINFAIL l).count F.LN_CNT_TRFAIL l).setLn l lnAcquire

/-- R341: the partner requests one step of a tap; a request that would break R340 is not performed. -/
def State.coefficientRequest (s : State) (l : Nat) (tap : Tap) (up : Bool) : State :=
  let step (v : Nat) : Nat := if up then v + 1 else v - 1
  let f : Fld := match tap with | .pre => F.LN_STATUS_APRE | .main => F.LN_STATUS_AMAIN | .post => F.LN_STATUS_APOST
  let v := s.fld f l
  let p := s.fld F.LN_STATUS_APRE l
  let m := s.fld F.LN_STATUS_AMAIN l
  let q := s.fld F.LN_STATUS_APOST l
  let good : Bool := match tap with
    | .pre => tapsGood (step p) m q
    | .main => tapsGood p (step m) q
    | .post => tapsGood p m (step q)
  if s.lnState l = lnTrain ∧ good ∧ (up ∨ v ≠ 0) then s.setFld f (step v) l else s

/-! ### Words (R343, R344) and patterns (R347, R348) -/

/-- Width of a lane's words in bits. -/
def State.lnWidth (s : State) (l : Nat) : Nat := 32 * 2 ^ s.fld F.LN_CFG_WIDTH l

/-- R347: the next bit of a pattern from the last 64 of it, newest in bit 0. -/
def patternNext (code : Nat) (upat h : Word) : Bool :=
  let b (i : Nat) : Bool := h.getLsbD (i - 1)
  match code with
  | 1 => xor (b 7) (b 6)
  | 2 => xor (b 9) (b 5)
  | 3 => xor (xor (b 13) (b 12)) (xor (b 2) (b 1))
  | 4 => xor (b 15) (b 14)
  | 5 => xor (b 23) (b 18)
  | 6 => xor (b 31) (b 28)
  | _ =>
    -- bit i of the pattern was sent 64 bits ago where the history is a rotation of the pattern
    let sent (k : Nat) : Bool := (List.range 64).all (fun i => h.getLsbD i == upat.getLsbD ((k + 64 - i) % 64))
    match (List.range 64).find? sent with
    | some k => upat.getLsbD ((k + 1) % 64)
    | none => !(h.getLsbD 63)

/-- R348: the checker takes one bit: the checker, the errors counted and the bits counted. -/
def checkBit (code : Nat) (upat : Word) (x : Checker × Nat × Nat) (rxBit : Bool) : Checker × Nat × Nat :=
  let c := x.1
  let push (w : Word) (v : Bool) : Word := (w <<< 1) ||| (bitv v).setWidth 64
  let locked : Bool := c.good ≥ 64
  let hist := push c.hist rxBit
  if locked then
    let e := patternNext code upat c.ref
    let bad := e != rxBit
    let errs := (if bad then c.errs ++ [c.pos] else c.errs).filter (fun p => c.pos < p + 1024)
    let c' : Checker :=
      if 64 ≤ errs.length then { hist := hist }
      else { c with hist := hist, ref := push c.ref e, pos := c.pos + 1, errs := errs }
    (c', x.2.1 + bit bad, x.2.2 + 1)
  else
    let ok := patternNext code upat c.hist == rxBit
    let g := if ok then c.good + 1 else 0
    ({ c with hist := hist, good := g, ref := hist, pos := 0, errs := [] }, x.2.1, x.2.2)

/-- R348: the checker takes a received word. -/
def State.checkWord (s : State) (l : Nat) (w : BitVec 128) : State :=
  let code := s.fld F.LN_TEST_PCHK l
  if code = 0 then s
  else
    let inv := s.flag F.LN_TEST_PINV l
    let upat := s.reg .LN_UPAT l
    let q := (List.range (s.lnWidth l)).foldl (fun acc i => checkBit code upat acc (xor inv (w.getLsbD i)))
      ((s.lane l).chk, 0, 0)
    let s := (s.modLane l (fun x => { x with chk := q.1 })).count F.LN_PCNT_ERRS l 0 0 q.2.1
    (s.count F.LN_PBITS_BITS l 0 0 q.2.2).setFld F.LN_STATUS_PLOCK (bit (64 ≤ q.1.good)) l

/-- R343, R344: a received word enters the receive FIFO, or is dropped where the FIFO is full. -/
def State.receiveWord (s : State) (l : Nat) (w : BitVec 128) : State :=
  if s.lnState l ≠ lnReady then s
  else
    let s := s.checkWord l w
    if s.fld F.LN_CFG_USE l ≠ 1 then s
    else if 32 ≤ (s.lane l).rx.length then (s.count F.LN_CNT_OVF l).raise F.LN_STATUS_OVF l
    else s.modLane l (fun x => { x with rx := x.rx ++ [w] })

/-- R343, R344, R347, R351: the fabric may present transmit words. -/
def State.txOpen (s : State) (l : Nat) : Bool :=
  s.lnState l == lnReady && s.fld F.LN_CFG_USE l == 1 && s.fld F.LN_TEST_PGEN l == 0 && s.fld F.LN_CFG_LOOP l != 2

/-- R343: TXRDY of lane l. -/
def State.txReady (s : State) (l : Nat) : Bool := s.txOpen l && decide ((s.lane l).tx.length < 32)

/-- R343: lane l takes a word from its border where TXV = 1 and TXRDY = 1; else the word is ignored. v: TXV, then TXD. -/
def State.takeTx (s : State) (l : Nat) (v : BitVec 129) : State :=
  if v.getLsbD 128 ∧ s.txReady l then s.modLane l (fun x => { x with tx := x.tx ++ [v.setWidth 128] }) else s

/-- R17, R228, R253, R343: in a cycle of the lane border's clock the sector that faces lane l drives TXV and TXD; while its border cells
hold, they drive what they hold. -/
def State.transmitWord (s : State) (l : Nat) (txv : Bool) (w : BitVec 128) : State :=
  let x := quadSector (l / 4)
  if !(s.laneClock l) then s
  else if s.sectorRuns x then
    let v : BitVec 129 := bitv txv ++ w
    (s.modSector x (fun c => { c with tx := c.tx.set l v 0 })).takeTx l v
  else s.takeTx l ((s.sector x).tx.get l 0)

/-- R344: the transmitter needs a word and the FIFO is empty. -/
def State.txUnderrun (s : State) (l : Nat) : State :=
  if s.txOpen l ∧ (s.lane l).tx.isEmpty then (s.count F.LN_CNT_UNDER l).raise F.LN_STATUS_UNDER l else s

/-- R343: in one idle step each lane's FIFOs move one word on: the border of the facing sector takes a received word on its clock, the balls
take a transmit word (log entry 32). -/
def State.drainLanes (s : State) : State :=
  s.forAll (s.lanes.cells.map (·.1)) (fun acc l =>
    let n := if acc.fld F.LN_CFG_USE l = 1 ∧ !(acc.laneClock l) then 0 else 1
    acc.modLane l (fun x => { x with rx := x.rx.drop n, tx := x.tx.drop 1 }))

/-- R347 to R349: a write of LN_TEST. -/
def State.writeLnTest (s : State) (l : Nat) (v : Word) : State :=
  let gen := fldOf F.LN_TEST_PGEN v
  if 7 < gen ∨ 7 < fldOf F.LN_TEST_PCHK v ∨ (gen ≠ 0 ∧ s.fld F.LN_CFG_USE l ≠ 1) ∨ fldOf F.LN_TEST_SJPER v < 4 then
    s.raise F.LN_STATUS_CFGERR l
  else
    let s := s.setReg .LN_TEST (v &&& 0xFFFF007F000003FF#64) l
    let s := ((s.setFld F.LN_PCNT_ERRS 0 l).setFld F.LN_PBITS_BITS 0 l).setFld F.LN_STATUS_PLOCK 0 l
    s.modLane l (fun x => { x with chk := {}, tx := if gen = 0 then x.tx else [] })

/-- R350: a write of LN_ESCAN. -/
def State.writeEscan (s : State) (l : Nat) (v : Word) : State :=
  let go := fldOf F.LN_ESCAN_GO v = 1
  let dw := fldOf F.LN_ESCAN_DWELL v
  let eye := fldOf F.LN_ESCAN_EYE v
  let bad : Bool := s.lnState l != lnReady || s.flag F.LN_ESRES_BUSY l || decide (dw < 10) || decide (40 < dw) ||
    (if s.flag F.LN_CFG_MOD l then eye == 3 else eye != 0)
  if go ∧ bad then s.raise F.LN_STATUS_CFGERR l
  else
    let s := s.setReg .LN_ESCAN (v &&& 0x3FFF3F06#64) l
    if go then (s.setReg .LN_ESRES 0 l).setFld F.LN_ESRES_BUSY 1 l else s

/-- R350: an eye scan ends with the disagreements that it counted. -/
def State.escanDone (s : State) (l : Nat) (errs : Nat) : State :=
  if s.flag F.LN_ESRES_BUSY l then
    let s := s.setFld F.LN_ESRES_ERRS (min errs (2 ^ s.fld F.LN_ESCAN_DWELL l)) l
    (s.setFld F.LN_ESRES_BUSY 0 l).setFld F.LN_ESRES_DONE 1 l
  else s

end Sys2Proof.Machine
end

