-- ==== Sys2Proof/Machine/Packet.lean ====
section
/-!
DEFINITION. Packets as bits (R264, R265, R267), their link blocks (R362), frames with CRC and seal (R330, R361, R362).
-/
namespace Sys2Proof.Machine

open Sys2Proof

/-! ### Headers (R264, R267) -/

/-- R264: the header of a packet. -/
def Packet.header (p : Packet) : BitVec 128 :=
  BitVec.ofNat 128 (p.addr % 2 ^ 48 * 2 ^ 80 + bit p.inspect * 2 ^ 73 + p.status % 16 * 2 ^ 69 + p.mid.toNat * 2 ^ 59 +
    p.tag.toNat * 2 ^ 51 + p.len % 128 * 2 ^ 44 + p.cmd % 32 * 2 ^ 39 + bit p.ext * 2 ^ 38 + bit p.rt * 2 ^ 37 +
    p.vcl % 4 * 2 ^ 35 + p.turn.toNat * 2 ^ 7 + p.nh % 16 * 2 ^ 3 + p.exit % 8)

/-- R267: the extension of a packet. -/
def Packet.extension (p : Packet) : BitVec 128 :=
  if p.ext then BitVec.ofNat 128 (p.hop.toNat * 2 ^ 40 + p.dhops % 16 * 2 ^ 36 + p.sdev % 2 ^ 18 * 2 ^ 18 + p.ddev % 2 ^ 18)
  else 0

/-- A field of a 128-bit unit. -/
def unitBits (u : BitVec 128) (hi lo : Nat) : Nat := (u.extractLsb' lo (hi - lo + 1)).toNat

/-- The packet that a header and an extension spell, without its data. -/
def packetOf (h e : BitVec 128) : Packet :=
  { addr := unitBits h 127 80, inspect := h.getLsbD 73, status := unitBits h 72 69, mid := BitVec.ofNat 10 (unitBits h 68 59),
    tag := BitVec.ofNat 8 (unitBits h 58 51), len := unitBits h 50 44, cmd := unitBits h 43 39, ext := h.getLsbD 38,
    rt := h.getLsbD 37, vcl := unitBits h 36 35, turn := BitVec.ofNat 28 (unitBits h 34 7), nh := unitBits h 6 3,
    exit := unitBits h 2 0, ddev := unitBits e 17 0, sdev := unitBits e 35 18, dhops := unitBits e 39 36,
    hop := BitVec.ofNat 28 (unitBits e 67 40) }

/-- R265: words of data that a packet carries. -/
def Packet.dataWords (p : Packet) : Nat :=
  if p.cmd = 0x02 ∨ p.cmd = 0x10 then p.len
  else if 0x03 ≤ p.cmd ∧ p.cmd ≤ 0x06 then 1
  else if p.cmd = 0x07 then 2
  else if p.cmd = 0x12 then 1
  else 0

/-- R265: a packet is a response. -/
def Packet.isResponse (p : Packet) : Bool := decide (0x10 ≤ p.cmd)

/-- The class of a packet on a link: 0 BREQ, 1 BRSP, 2 RT (R361). -/
def Packet.linkClass (p : Packet) : Nat := if p.rt then 2 else if p.isResponse then 1 else 0

/-! ### Link blocks (R362) -/

/-- A link block of up to four words. -/
def wordBlk (ws : List (Word × Bool)) : LinkBlk :=
  let n := min ws.length 4
  (List.range n).foldl (fun (acc : LinkBlk) i =>
    let w := ws.getD i (0, false)
    { bits := acc.bits ||| (w.1.setWidth 256 <<< (64 * i)), valid := acc.valid ||| (1#4 <<< i),
      poison := if w.2 then acc.poison ||| (1#4 <<< i) else acc.poison }) {}

/-- A 256-bit header unit as a link block. -/
def headBlk (p : Packet) : LinkBlk := { bits := p.extension ++ p.header, valid := 0xF#4 }

/-- A list of words in groups of n, by fuel. -/
def groupWords (n : Nat) : Nat → List (Word × Bool) → List (List (Word × Bool))
  | 0, _ => []
  | _, [] => []
  | f + 1, ws => ws.take n :: groupWords n f (ws.drop n)

/-- A 128-bit RT unit as two words. -/
def unitWords (u : BitVec 128) : List (Word × Bool) := [(u.extractLsb' 0 64, false), (u.extractLsb' 64 64, false)]

/-- R265: the words of data that a packet carries. -/
def Packet.data (p : Packet) : List (Word × Bool) := (List.range p.dataWords).map (fun i => p.words.getD i (0, false))

/-- R264, R362: the link blocks of a packet: bulk units one to a block, RT units two to a block. -/
def Packet.blocks (p : Packet) : List LinkBlk :=
  if p.rt then
    let units := unitWords p.header ++ (if p.ext then unitWords p.extension else []) ++ p.data
    let padded := if units.length % 2 = 1 then units ++ [(0, false)] else units
    (groupWords 4 8 padded).map wordBlk
  else headBlk p :: (groupWords 4 16 p.data).map wordBlk

/-- The words of a link block with their poison. -/
def LinkBlk.words (b : LinkBlk) : List (Word × Bool) :=
  (List.range 4).map (fun i => (b.bits.extractLsb' (64 * i) 64, b.poison.getLsbD i))

/-- The first packet of a class's stream of link blocks, and the number of blocks that it takes; none until it is whole. -/
def takePacket (rt : Bool) (bs : List LinkBlk) : Option (Packet × Nat) :=
  match bs with
  | [] => none
  | b :: _ =>
    if rt then
      let ws := bs.flatMap LinkBlk.words
      let u (i : Nat) : BitVec 128 := (ws.getD (2 * i + 1) (0, false)).1 ++ (ws.getD (2 * i) (0, false)).1
      let h := packetOf (u 0) 0
      let p := if h.ext then packetOf (u 0) (u 1) else h
      let skip := if h.ext then 4 else 2
      let n := (skip + p.dataWords + 3) / 4
      if bs.length < n then none else some ({ p with words := (ws.drop skip).take p.dataWords }, n)
    else
      let p := packetOf (b.bits.extractLsb' 0 128) (b.bits.extractLsb' 128 128)
      let n := 1 + (p.dataWords + 3) / 4
      if bs.length < n then none
      else some ({ p with words := ((bs.drop 1).flatMap LinkBlk.words).take p.dataWords }, n)

/-! ### Frames (R330, R361, R362) -/

/-- R361: the SOF payload [63:8] of a frame, with its type byte. -/
def Frame.sof (f : Frame) : Word :=
  BitVec.ofNat 64 (0x40 + f.cls % 4 * 2 ^ 8 + (f.blocks.length - 1) % 16 * 2 ^ 10 + bit f.enc * 2 ^ 14 + f.epoch.toNat * 2 ^ 15)

/-- The SOF payload bytes. -/
def Frame.sofBytes (f : Frame) : List Byte := (wordBytes f.sof).drop 1

/-- R362: the SIDE part of link blocks. -/
def sideOf (bs : List LinkBlk) : BitVec 128 :=
  (List.range (min bs.length 16)).foldl (fun acc i =>
    let b := bs.getD i {}
    acc ||| ((b.poison ++ b.valid).setWidth 128 <<< (8 * i))) 0#128

/-- The link blocks that a frame's SIDE and blocks spell. -/
def Frame.linkBlks (f : Frame) : List LinkBlk :=
  (f.blocks.zip (List.range f.blocks.length)).map (fun x =>
    { bits := x.1, valid := f.side.extractLsb' (8 * x.2) 4, poison := f.side.extractLsb' (8 * x.2 + 4) 4 })

/-- The bytes of SIDE and link blocks. -/
def Frame.bodyBytes (f : Frame) : List Byte := leBytes 16 f.side ++ f.blocks.flatMap (leBytes 32)

/-- R362: the CRC-32C of a frame. -/
def Frame.crcOf (f : Frame) : BitVec 32 :=
  crc32c (f.sofBytes ++ f.bodyBytes ++ (if f.enc then leBytes 16 f.tag else []))

/-- R330: the IV of a frame. -/
def linkIv (epoch : Byte) (sdev bridge : Nat) (frame : Word) : BitVec 96 :=
  BitVec.ofNat 96 (epoch.toNat * 2 ^ 88 + sdev % 2 ^ 18 * 2 ^ 70 + bridge % 16 * 2 ^ 66 + frame.toNat)

/-- Bytes in blocks of 16, the last filled up with zeros, by fuel. -/
def bytes16 : Nat → List Byte → List (BitVec 128)
  | 0, _ => []
  | _, [] => []
  | f + 1, bs => BitVec.ofNat 128 (beNat ((bs.take 16) ++ List.replicate (16 - bs.length) 0)) :: bytes16 f (bs.drop 16)

/-- Block i of the GCM keystream under a key and an IV. -/
def gcmBlock (key : BitVec 256) (iv : BitVec 96) (i : Nat) : BitVec 128 := aes256 key (iv ++ BitVec.ofNat 32 (i + 2))

/-- GCM encryption (and decryption) of bytes. -/
def gcmCrypt (key : BitVec 256) (iv : BitVec 96) (bs : List Byte) : List Byte :=
  let ks := (List.range ((bs.length + 15) / 16)).flatMap (fun i => beBytes 16 (gcmBlock key iv i))
  (bs.zip ks).map (fun p => p.1 ^^^ p.2)

/-- The GCM tag over additional data and ciphertext. -/
def gcmTag (key : BitVec 256) (iv : BitVec 96) (aad ct : List Byte) : BitVec 128 :=
  let len : BitVec 128 := BitVec.ofNat 128 (8 * aad.length * 2 ^ 64 + 8 * ct.length)
  ghash (aes256 key 0) (bytes16 8 aad ++ bytes16 64 ct ++ [len]) ^^^ aes256 key (iv ++ 1#32)

/-- Little-endian bytes as a vector. -/
def bytesVec (w : Nat) (bs : List Byte) : BitVec w := BitVec.ofNat w (leNat bs)

/-- A frame's SIDE and blocks replaced by bytes of the same number. -/
def Frame.withBody (f : Frame) (bs : List Byte) : Frame :=
  { f with side := bytesVec 128 (bs.take 16),
           blocks := (List.range f.blocks.length).map (fun i => bytesVec 256 ((bs.drop (16 + 32 * i)).take 32)) }

/-- R330: seal a frame. -/
def Frame.seal' (f : Frame) (key : BitVec 256) (iv : BitVec 96) : Frame :=
  let g := f.withBody (gcmCrypt key iv f.bodyBytes)
  { g with tag := gcmTag key iv f.sofBytes g.bodyBytes }

/-- R330: the tag of a sealed frame is good. -/
def Frame.tagGood (f : Frame) (key : BitVec 256) (iv : BitVec 96) : Bool := f.tag == gcmTag key iv f.sofBytes f.bodyBytes

/-- R330: open a sealed frame. -/
def Frame.open' (f : Frame) (key : BitVec 256) (iv : BitVec 96) : Frame := f.withBody (gcmCrypt key iv f.bodyBytes)

end Sys2Proof.Machine
end

