-- ==== Sys2Proof/Machine/Swepin.lean ====
section
/-!
DEFINITION. Swepin bridges: bonds, link states, frames, acknowledgement and replay (R353 to R365), link keys (R330, R331),
and the time base (R371 to R374).
-/
namespace Sys2Proof.Machine

open Sys2Proof

/-- The states of a bridge (R357). -/
def swDown : Nat := 0
def swTrain : Nat := 1
def swAlign : Nat := 2
def swInit : Nat := 3
def swUp : Nat := 4

/-- The state of bridge b. -/
def State.swState (s : State) (b : Nat) : Nat := s.fld F.SWP_STATUS_STATE b
/-- Bridge b beyond its registers. -/
def State.bridge (s : State) (b : Nat) : Bridge := s.bridges.get b {}
/-- Change bridge b. -/
def State.modBridge (s : State) (b : Nat) (f : Bridge → Bridge) : State :=
  { s with bridges := s.bridges.set b (f (s.bridge b)) {} }
/-- Bridge b is powered. -/
def State.bridgeOn (s : State) (b : Nat) : Bool := s.domOn (domSB b)

/-- Durations in root periods. -/
def usRoot : Nat := 6400
def msRoot : Nat := 6400000

/-! ### Bonds (R353) -/

/-- The lanes of a bond of code nl from lane first. -/
def bondLanes (nl first : Nat) : List Nat := (List.range (2 ^ nl)).map (first + ·)

/-- The bond of bridge b. -/
def State.bond (s : State) (b : Nat) : List Nat := bondLanes (s.fld F.SWP_CTRL_NL b) (s.fld F.SWP_CTRL_FIRST b)

/-- R353: a bond's place: FIRST a multiple of its size, every lane on the bridge's edge. -/
def bondPlaced (b nl first : Nat) : Bool :=
  let n := 2 ^ nl
  let lo := if b < 8 then 0 else 72
  decide (nl < 5) && first % n == 0 && decide (lo ≤ first ∧ first + n ≤ lo + 72)

/-- R353: every lane of the bond of bridge b is configured for it, and all alike. -/
def State.bondGood (s : State) (b : Nat) : Bool :=
  let ls := s.bond b
  let l0 := s.fld F.SWP_CTRL_FIRST b
  let rate (l : Nat) : Nat := s.quadRate (l / 4) * 2 ^ (4 - s.fld F.LN_CFG_DIV l)
  ls.all (fun l => s.fld F.LN_CFG_USE l == 2 && s.fld F.LN_CFG_BRIDGE l == b && s.fld F.LN_CFG_TRAIN l == 1 &&
    s.fld F.LN_CFG_MOD l == s.fld F.LN_CFG_MOD l0 && rate l == rate l0)

/-! ### Entering DOWN (R360) -/

/-- A request of another bridge's context will have no response: it completes with EDEAD (status code 5). -/
def State.ctxDead (s : State) (b' k : Nat) : State :=
  if (s.bridge b').rsps.any (fun r => r.1 == k) then s
  else s.modBridge b' (fun x => { x with rsps := x.rsps ++ [(k, { status := 5, cmd := 0x11 })] })

/-- The bridge by which a context's request leaves this device. -/
def Ctx.out : Ctx → Option Nat
  | .link _ _ _ o => o
  | .desc _ _ o => some o

/-- R360: every context whose request left through bridge b completes with EDEAD. -/
def State.failContexts (s : State) (b : Nat) : State :=
  s.forAll (List.range 16) (fun acc b' =>
    acc.forAll (((acc.bridge b').ctxs.cells.filter (fun c => (c.2.bind Ctx.out) == some b)).map (·.1))
      (fun a k => a.ctxDead b' k))

/-- Lanes of the bond that run are held in ACQUIRE while the bridge is in DOWN (R357). -/
def State.holdLanes (s : State) (b : Nat) : State :=
  s.forAll (s.bond b) (fun acc l =>
    if acc.lnState l = lnTrain ∨ acc.lnState l = lnReady then acc.setLn l lnAcquire else acc)

/-- R374: the source of the time base is lost. -/
def State.sourceLost (s : State) (b : Nat) : State :=
  if s.fld F.TB_CTRL_MODE ≠ 0 ∧ s.fld F.TB_CTRL_SRC = b then (s.setFld F.TB_STATUS_ALIGNED 0).setFld F.TB_STATUS_HOLD 1 else s

/-- R360: the link of bridge b enters DOWN. -/
def State.linkDown (s : State) (b cause : Nat) : State :=
  if s.swState b = swDown then s
  else
    let wasUp := s.swState b = swUp
    let s := if wasUp then ((s.raise F.SWP_STATUS_DOWNEV b).count F.SWP_CNT_DOWN b).sourceLost b else s
    let s := (s.setFld F.SWP_STATUS_CAUSE cause b).setFld F.SWP_STATUS_STATE swDown b
    let s := s.failContexts b
    let s := s.modBridge b (fun x =>
      { x with downAt := s.now, retry := false, inits := 0, txSeq := 0, rxSeq := 0, nakSent := false, acksDue := 0,
               replay := [], replays := 0, credits := {}, retCred := {}, stream := {}, rxs := {}, reqs := [],
               ctxs := ⟨x.ctxs.cells.filter (fun c => match c.2 with | some (.link _ _ _ _) => false | _ => true)⟩ })
    s.holdLanes b

/-- R360: after an event on lanes, a link whose bond breaks R353 (cause 1) or lost a lane (cause 6) enters DOWN. -/
def State.bondWatch (s : State) : State :=
  s.forAll (List.range 16) (fun acc b =>
    if acc.swState b = swDown then acc
    else if !(acc.bondGood b) then acc.linkDown b 1
    else if swAlign ≤ acc.swState b ∧ (acc.bond b).any (fun l => acc.lnState l != lnReady) then acc.linkDown b 6
    else acc)

/-! ### SWP_COMMIT (R377) -/

/-- R377: the shadow settings of bridge b break a check. -/
def State.swpCommitBad (s : State) (b : Nat) : Bool :=
  let nl := s.sfld F.SWP_CTRL_NL b
  let first := s.sfld F.SWP_CTRL_FIRST b
  let mine := bondLanes nl first
  !(bondPlaced b nl first) ||
    (s.sfld F.SWP_CTRL_EN b == 1 && (List.range 16).any (fun o =>
      o != b && s.flag F.SWP_CTRL_EN o && (s.bond o).any (fun l => mine.contains l))) ||
    (s.sfld F.SWP_QSIZE_SIZE b != 0 &&
      crossesRange (32 * s.sfld F.SWP_QBASE_BASE b) (32 * s.sfld F.SWP_QSIZE_SIZE b))

/-- R360, R377: SWP_COMMIT.GO of bridge b. -/
def State.swpCommit (s : State) (b : Nat) : State :=
  if !(s.bridgeOn b) then s
  else if s.swpCommitBad b then s.raise F.SWP_STATUS_CFGERR b
  else
    let chg : Bool := s.fld F.SWP_CTRL_EN b != s.sfld F.SWP_CTRL_EN b || s.fld F.SWP_CTRL_NL b != s.sfld F.SWP_CTRL_NL b ||
      s.fld F.SWP_CTRL_FIRST b != s.sfld F.SWP_CTRL_FIRST b
    let s := if chg then s.linkDown b (if s.sfld F.SWP_CTRL_EN b = 0 then 8 else s.fld F.SWP_STATUS_CAUSE b) else s
    let s := s.commitBlock .SWP b
    if chg then s.modBridge b (fun x => { x with retry := true }) else s

/-! ### Link states (R357 to R359) -/

/-- R357: DOWN to TRAIN. -/
def State.linkTrain (s : State) (b : Nat) : State :=
  if s.bridgeOn b ∧ s.swState b = swDown ∧ s.flag F.SWP_CTRL_EN b ∧ (s.bridge b).retry ∧ s.bondGood b ∧
      (s.bond b).all (fun l => s.lnState l == lnTrain || s.lnState l == lnReady) then
    (s.setFld F.SWP_STATUS_STATE swTrain b).modBridge b (fun x => { x with downAt := s.now })
  else s

/-- R357: 10 ms after it entered DOWN a bridge with EN = 1 may train again. -/
def State.linkRetry (s : State) (b : Nat) : State :=
  if s.swState b = swDown ∧ s.flag F.SWP_CTRL_EN b ∧ !((s.bridge b).retry) then
    (s.atTime ((s.bridge b).downAt + 10 * msRoot)).modBridge b (fun x => { x with retry := true })
  else s

/-- R357: TRAIN to ALIGN. -/
def State.linkAlign (s : State) (b : Nat) : State :=
  if s.swState b = swTrain ∧ (s.bond b).all (fun l => s.lnState l == lnReady) then
    (s.setFld F.SWP_STATUS_STATE swAlign b).modBridge b (fun x => { x with downAt := s.now })
  else s

/-- R331: a transfer of bridge b's link keys is due. -/
def State.dueKeys (s : State) (b : Nat) : State := { s with ice := { s.ice with linkDue := s.ice.linkDue.set b true false } }

/-- R357: ALIGN to INIT. -/
def State.linkInit (s : State) (b : Nat) : State :=
  if s.swState b = swAlign then
    ((s.setFld F.SWP_STATUS_STATE swInit b).modBridge b (fun x => { x with downAt := s.now, inits := 0 })).dueKeys b
  else s

/-- TB_STATUS.ALIGNED as it reads: always 1 in MASTER (R373). -/
def State.aligned (s : State) : Bool := s.fld F.TB_CTRL_MODE == 0 || s.flag F.TB_STATUS_ALIGNED

/-- R359: the payload of an INIT block. -/
def State.initBlock (s : State) (b : Nat) : Word :=
  BitVec.ofNat 64 (0x46 + s.fld F.SWP_DEVID_ID * 2 ^ 8 + s.fld F.SWP_DEVID_VALID * 2 ^ 26 + b * 2 ^ 27 +
    s.fld F.SWP_CTRL_NL b * 2 ^ 31 + s.fld F.SWP_CTRL_ENC b * 2 ^ 34 + 256 * 2 ^ 35 + 256 * 2 ^ 44 + 32 * 2 ^ 53 +
    bit s.aligned * 2 ^ 59)

/-- Send a control block. -/
def State.sendCtl (s : State) (b : Nat) (w : Word) : State := s.modBridge b (fun x => { x with ctl := w })

/-- R357: INIT_SEND. -/
def State.initSend (s : State) (b : Nat) : State := if s.swState b = swInit then s.sendCtl b (s.initBlock b) else s

/-- R359, R374: an INIT block with the given payload is received. -/
def State.initReceive (s : State) (b : Nat) (w : Word) : State :=
  let g (hi lo : Nat) : Nat := (w.extractLsb' lo (hi - lo + 1)).toNat
  if s.swState b ≠ swInit then s
  else if g 26 26 = 0 ∨ s.fld F.SWP_DEVID_VALID = 0 then s.linkDown b 9
  else if g 33 31 ≠ s.fld F.SWP_CTRL_NL b ∨ g 34 34 ≠ s.fld F.SWP_CTRL_ENC b then s.linkDown b 4
  else
    let s := (s.setFld F.SWP_STATUS_PEERDEV (g 25 8) b).setFld F.SWP_STATUS_PEERBR (g 30 27) b
    let s := s.modBridge b (fun x => { x with inits := x.inits + 1, peerAligned := g 59 59 == 1 })
    if (s.bridge b).inits < 2 then s
    else
      let cr : Tab Nat := (((({} : Tab Nat).set 0 (g 43 35) 0).set 1 (g 52 44) 0).set 2 (g 58 53) 0)
      (s.setFld F.SWP_STATUS_STATE swUp b).modBridge b (fun x =>
        { x with credits := cr, txSeq := 0, rxSeq := 0, downAt := s.now, resync := true })

/-- R357: a timeout of TRAIN, ALIGN or INIT. -/
def State.linkTimeout (s : State) (b : Nat) : State :=
  let t := (s.bridge b).downAt
  let st := s.swState b
  if st = swTrain then (s.atTime (t + 500 * msRoot)).linkDown b 2
  else if st = swAlign then (s.atTime (t + msRoot)).linkDown b 3
  else if st = swInit then (s.atTime (t + msRoot)).linkDown b 5
  else s

/-! ### Frames (R361 to R364, R330, R331) -/

/-- A packet is queued for the link of bridge b. -/
def State.queueLink (s : State) (b : Nat) (p : Packet) : State :=
  s.modBridge b (fun x => { x with stream := x.stream.set p.linkClass (x.stream.get p.linkClass [] ++ p.blocks) [] })

/-- The link keys of bridge b. -/
def State.linkKeys (s : State) (b : Nat) : LinkKeys := s.ice.linkKeys.get b {}

/-- R362, R363: the next frame of n link blocks of a class. -/
def State.buildFrame (s : State) (b cls n : Nat) : Frame :=
  let x := s.bridge b
  let bs := (x.stream.get cls []).take n
  let enc := s.flag F.SWP_CTRL_ENC b
  let epoch : Byte := BitVec.ofNat 8 (s.fld F.SWP_KEY_TXEPOCH b)
  let f : Frame := { cls := cls, enc := enc, epoch := epoch, side := sideOf bs, blocks := bs.map (·.bits), seq := x.txSeq }
  let f := if enc then f.seal' (s.linkKeys b).txCur (linkIv epoch (s.fld F.SWP_DEVID_ID) b x.txFrames) else f
  { f with crc := f.crcOf }

/-- R363, R364: FRAME_SEND: a frame of n link blocks of a class, where the stream holds them, the credits cover them and the
replay buffer has room. -/
def State.frameSend (s : State) (b cls n : Nat) : State :=
  let x := s.bridge b
  let used := x.replay.foldl (fun acc f => acc + 32 * f.blocks.length) 0
  if s.swState b = swUp ∧ cls < 3 ∧ 1 ≤ n ∧ n ≤ 16 ∧ n ≤ (x.stream.get cls []).length ∧ n ≤ x.credits.get cls 0 ∧
      x.replay.length < 2048 ∧ used + 32 * n ≤ 65536 then
    let f := s.buildFrame b cls n
    (s.pmonEvent (396 + b) 0x50 0 1).modBridge b (fun y =>
      { y with stream := y.stream.set cls ((y.stream.get cls []).drop n) [], credits := y.credits.set cls (y.credits.get cls 0 - n) 0,
               replay := y.replay ++ [f], txSeq := y.txSeq + 1, txFrames := if f.enc then y.txFrames + 1 else y.txFrames,
               downAt := if y.replay.isEmpty then s.now else y.downAt })
  else s

/-- R364: the receiver discards a frame: counted, with a NAK on the first. -/
def State.discardFrame (s : State) (b : Nat) : State :=
  let s := s.count F.SWP_CNT_DISC b
  if (s.bridge b).nakSent then s
  else
    let w : Word := BitVec.ofNat 64 (0x44 + (s.bridge b).rxSeq.toNat * 2 ^ 8)
    (s.sendCtl b w).modBridge b (fun x => { x with nakSent := true })

/-- R330, R331: the key of a received sealed frame, the frame counter expected in its epoch, and whether its epoch is the next; none where
its EPOCH is neither of the two held. -/
def State.rxKey (s : State) (b : Nat) (f : Frame) : Option (BitVec 256 × Word × Bool) :=
  let cur : Byte := BitVec.ofNat 8 (s.fld F.SWP_KEY_RXEPOCH b)
  if f.epoch = cur then some ((s.linkKeys b).rxCur, (s.bridge b).rxFrames, false)
  else if f.epoch = cur + 1 then some ((s.linkKeys b).rxNext, (s.bridge b).rxNextFrames, true)
  else none

/-- R330: the IV of a frame that bridge b receives, with frame counter n. -/
def State.rxIv (s : State) (b : Nat) (f : Frame) (n : Word) : BitVec 96 :=
  linkIv f.epoch (s.fld F.SWP_STATUS_PEERDEV b) (s.fld F.SWP_STATUS_PEERBR b) n

/-- R330: the frame counter under which a received frame's tag verifies: the expected one; for the first frame since the link came up,
which the sender's discarded frames may have moved ahead, the least of the 2,049 from it on (log entry 68). -/
def State.rxCounter (s : State) (b : Nat) (f : Frame) (key : BitVec 256) (n : Word) : Option Word :=
  ((List.range (if (s.bridge b).resync then 2049 else 1)).map (fun i => n + BitVec.ofNat 64 i)).find? (fun c => f.tagGood key (s.rxIv b f c))

/-- The packets that a class's received stream holds whole, by fuel, with what remains. -/
def wholePackets (rt : Bool) : Nat → List LinkBlk → List (Packet × Nat) × List LinkBlk
  | 0, bs => ([], bs)
  | f + 1, bs => match takePacket rt bs with
    | none => ([], bs)
    | some (p, n) =>
      let r := wholePackets rt f (bs.drop n)
      ((p, n) :: r.1, r.2)

/-- R364: an accepted frame's link blocks join their class's stream. Answers the packets that are now whole, each with its
number of link blocks. -/
def State.takeFrame (s : State) (b : Nat) (f : Frame) : List (Packet × Nat) × State :=
  let bs := (s.bridge b).rxs.get f.cls [] ++ f.linkBlks
  let q := wholePackets (f.cls == 2) 64 bs
  (q.1, s.modBridge b (fun x => { x with rxs := x.rxs.set f.cls q.2 [], rxSeq := x.rxSeq + 1, nakSent := false,
                                         acksDue := x.acksDue + 1 }))

/-- R364, R330: whether a received frame is accepted, with its content opened. fec: it is touched by a codeword that the FEC
could not correct (R355). -/
def State.checkFrame (s : State) (b : Nat) (f : Frame) (fec : Bool) : Option Frame × State :=
  if fec ∨ f.crc ≠ f.crcOf ∨ 2 < f.cls then (none, s)
  else if f.enc then
    match s.rxKey b f with
    | none => (none, s)
    | some (key, exp, next) =>
      match s.rxCounter b f key exp with
      | none => (none, s)
      | some n =>
        if f.seq ≠ (s.bridge b).rxSeq then (none, s)
        else
          let t := if next then (s.setFld F.SWP_KEY_RXEPOCH f.epoch.toNat b).promoteKey b false else s
          (some (f.open' key (s.rxIv b f n)), t.modBridge b (fun x =>
            { x with rxFrames := n + 1, rxNextFrames := if next then 0 else x.rxNextFrames, resync := false }))
  else if f.seq ≠ (s.bridge b).rxSeq ∨ s.flag F.SWP_CTRL_ENC b then (none, s)
  else (some f, s)

/-- Credits are to be returned for link blocks of a class (R363). -/
def State.returnCredits (s : State) (b cls n : Nat) : State :=
  s.modBridge b (fun x => { x with retCred := x.retCred.set cls (x.retCred.get cls 0 + n) 0 })

/-- R361, R364: ACK_SEND: the cumulative SEQ and the credits to return. -/
def State.ackSend (s : State) (b : Nat) : State :=
  if s.swState b ≠ swUp then s
  else
    let x := s.bridge b
    let w : Word := BitVec.ofNat 64 (0x43 + (x.rxSeq - 1).toNat * 2 ^ 8 + min (x.retCred.get 0 0) 511 * 2 ^ 20 +
      min (x.retCred.get 1 0) 511 * 2 ^ 29 + min (x.retCred.get 2 0) 63 * 2 ^ 38)
    let less (c m : Nat) : Nat := x.retCred.get c 0 - min (x.retCred.get c 0) m
    let rc : Tab Nat := (((({} : Tab Nat).set 0 (less 0 511) 0).set 1 (less 1 511) 0).set 2 (less 2 63) 0)
    (s.sendCtl b w).modBridge b (fun y => { y with acksDue := 0, retCred := rc })

/-- R364: an ACK block with the given payload is received. -/
def State.ackReceive (s : State) (b : Nat) (w : Word) : State :=
  let g (hi lo : Nat) : Nat := (w.extractLsb' lo (hi - lo + 1)).toNat
  let seq : BitVec 12 := BitVec.ofNat 12 (g 19 8)
  if s.swState b ≠ swUp then s
  else
    let x := s.bridge b
    let n := match x.replay with
      | [] => 0
      | f :: _ => let d := (seq - f.seq).toNat + 1; if d ≤ x.replay.length then d else 0
    let add (c : Nat) (v : Nat) (t : Tab Nat) : Tab Nat := t.set c (t.get c 0 + v) 0
    s.modBridge b (fun y =>
      { y with replay := y.replay.drop n, replays := if n = 0 then y.replays else 0, downAt := if n = 0 then y.downAt else s.now,
               credits := add 0 (g 28 20) (add 1 (g 37 29) (add 2 (g 43 38) y.credits)) })

/-- R364: every unacknowledged frame is sent again; at the replay limit the link enters DOWN. -/
def State.replayFrames (s : State) (b : Nat) : State :=
  if s.swState b ≠ swUp ∨ (s.bridge b).replay.isEmpty then s
  else
    let s := ((s.count F.SWP_CNT_REPLAY b).pmonEvent (396 + b) 0x52 0 1).modBridge b (fun x => { x with replays := x.replays + 1, downAt := s.now })
    if 8 ≤ (s.bridge b).replays then s.linkDown b 7 else s

/-- R364: 16 µs without ACK progress. -/
def State.replayTimeout (s : State) (b : Nat) : State :=
  if s.swState b ≠ swUp ∨ (s.bridge b).replay.isEmpty then s
  else (s.atTime ((s.bridge b).downAt + 16 * usRoot)).replayFrames b

/-! ### Link keys (R331) -/

/-- R331: SWP_KEY.NEXT, by Mbana only. Answers the status. -/
def State.swpKeyNext (s : State) (b : Nat) (mid : MasterId) : Status × State :=
  if mid = 328 then (.ok, (s.modBridge b (fun x => { x with keyNext := true, keyMoved := false })).dueKeys b) else (.edeny, s)

/-- R331: the transfer of bridge b's link keys completes. -/
def State.keyTransfer (s : State) (b : Nat) : State :=
  if s.ice.linkDue.get b false then
    (s.linkKeyTransfer b).modBridge b (fun x => { x with keyMoved := x.keyNext })
  else s

/-- R331: at a frame boundary the sender switches to the next epoch. -/
def State.epochSwitch (s : State) (b : Nat) : State :=
  let x := s.bridge b
  if x.keyNext ∧ x.keyMoved then
    ((s.promoteKey b true).setFld F.SWP_KEY_TXEPOCH ((s.fld F.SWP_KEY_TXEPOCH b + 1) % 256) b).modBridge b
      (fun y => { y with keyNext := false, keyMoved := false, txFrames := 0 })
  else s

/-! ### Ring heads (R370, R377) -/

/-- R370: a write of SWP_QHEAD. -/
def State.writeQhead (s : State) (b v : Nat) : State :=
  if v < s.fld F.SWP_QSIZE_SIZE b then s.setFld F.SWP_QHEAD_HEAD v b else s.raise F.SWP_STATUS_CFGERR b

/-- R370: a write of SWP_RTHEAD; its ring has 16 entries, so no 4-bit value is beyond it. -/
def State.writeRthead (s : State) (b v : Nat) : State := s.setFld F.SWP_RTHEAD_HEAD (v % 16) b

/-! ### Time base (R371 to R374) -/

/-- The next quiet slot at or after now: cycles 1,016 to 1,023 of a frame of 4,096 root periods (R276). -/
def State.nextQuiet (s : State) : Nat :=
  let r := s.now % 4096
  if 4064 ≤ r then s.now else s.now - r + 4064

/-- R371: the present instant in ticks of the time base. -/
def State.nowTicks (s : State) : Nat := 512 * s.now + s.tb.frac

/-- R377: a write of TB_STEP. -/
def State.writeTbStep (s : State) (v : Word) : State :=
  if s.fld F.TB_CTRL_MODE = 0 then { s with tb := { s.tb with step := v.toInt } }.setFld F.TB_STATUS_PEND 1
  else s.raise F.TB_STATUS_CFGERR

/-- R373, R377: a write of TB_CTRL. -/
def State.writeTbCtrl (s : State) (v : Word) : State :=
  if fldOf F.TB_CTRL_MODE v = 3 ∨ 16 < fldOf F.TB_CTRL_NAVG v then s.raise F.TB_STATUS_CFGERR
  else s.setReg .TB_CTRL (v &&& 0x1FF3#64)

/-- R374: no engine is in STREAM and no gang is armed. -/
def State.noStream (s : State) : Bool :=
  s.engines.cells.all (fun c => c.2.mode != .stream && c.2.mode != .paused && !c.2.gang.armed)

/-- R374: a pending step takes effect at a quiet slot. -/
def State.stepApply (s : State) : State :=
  if s.flag F.TB_STATUS_PEND ∧ s.noStream then
    let s := s.atTime s.nextQuiet
    let x : Int := (s.tb.frac : Int) + s.tb.step
    let s := { s with time := BitVec.ofInt 64 (s.time.toNat + x / 512), tb := { frac := (x % 512).toNat, step := 0 } }
    let s := (s.setFld F.TB_STATUS_PEND 0).raise F.TB_STATUS_STEPEV
    if s.fld F.TB_CTRL_MODE = 0 then s else (s.setFld F.TB_STATUS_ALIGNED 1).setFld F.TB_STATUS_HOLD 0
  else s

/-- R372: TIME_SYNC_SEND: a SYNC block leaves with the stamp t1. -/
def State.timeSyncSend (s : State) (b t1 : Nat) : State :=
  if s.swState b = swUp ∧ s.flag F.SWP_CTRL_TIMEEN b then
    let e := ((s.bridge b).exch + 1) % 256
    let w : Word := BitVec.ofNat 64 (0x45 + e * 2 ^ 10 + bit s.aligned * 2 ^ 18)
    (s.sendCtl b w).modBridge b (fun x => { x with exch := e, t1 := t1 })
  else s

/-- R372, R374: a SYNC block of exchange e arrives; it is answered with a REPLY. aligned: the sender's ALIGNED. -/
def State.timeSync (s : State) (b e : Nat) (aligned : Bool) : State :=
  if s.swState b = swUp ∧ s.flag F.SWP_CTRL_TIMEEN b then
    let w : Word := BitVec.ofNat 64 (0x45 + 1 * 2 ^ 8 + e % 256 * 2 ^ 10 + bit s.aligned * 2 ^ 18)
    let s := (s.sendCtl b w).modBridge b (fun x =>
      { x with peerAligned := aligned, allAligned := x.allAligned && aligned })
    if aligned then s else s.sourceLost b
  else s

/-- R373: the average of a block acts on a follower. -/
def State.follow (s : State) (b : Nat) (offs : Int) (good : Bool) : State :=
  let mode := s.fld F.TB_CTRL_MODE
  if mode = 0 ∨ s.fld F.TB_CTRL_SRC ≠ b ∨ !good then s
  else
    let limit : Nat := if mode = 1 then 0 else 327680
    if limit < offs.natAbs then ({ s with tb := { s.tb with step := offs } }).setFld F.TB_STATUS_PEND 1
    else if offs = 0 then (s.setFld F.TB_STATUS_ALIGNED 1).setFld F.TB_STATUS_HOLD 0
    else s

/-- R372: a REPLY block of exchange e arrives with the stamps t2 and t3, at t4. -/
def State.timeReply (s : State) (b e t2 t3 t4 : Nat) (aligned : Bool) : State :=
  let x := s.bridge b
  if s.swState b ≠ swUp ∨ !(s.flag F.SWP_CTRL_TIMEEN b) ∨ e % 256 ≠ x.exch then s
  else
    let a : Int := (t2 : Int) - x.t1
    let c : Int := (t4 : Int) - t3
    let asym : Int := ((s.reg .SWP_ASYM b).setWidth 32 : BitVec 32).toInt
    let all := x.allAligned && aligned
    let s := s.modBridge b (fun y =>
      { y with sumTheta := y.sumTheta + (a - c - asym), sumDelta := y.sumDelta + (a + c), nExch := y.nExch + 1,
               allAligned := all, peerAligned := aligned })
    let s := if aligned then s else s.sourceLost b
    let n := 2 ^ s.fld F.TB_CTRL_NAVG
    let y := s.bridge b
    if y.nExch < n then s
    else
      let offs := y.sumTheta / (2 * n : Nat)
      let delay := y.sumDelta / (2 * n : Nat)
      let w : Word := (BitVec.ofInt 32 delay) ++ (BitVec.ofInt 32 offs)
      let s := (s.setReg .SWP_LINK w b).modBridge b (fun z =>
        { z with sumTheta := 0, sumDelta := 0, nExch := 0, allAligned := true })
      s.follow b offs all

/-- R373: the servo of STEERED changes the trim by at most 0.1 ppm toward OFFS = 0, within ±40 ppm; how much is a free value. -/
def State.servoTrim (s : State) : State :=
  let b := s.fld F.TB_CTRL_SRC
  if s.fld F.TB_CTRL_MODE ≠ 2 ∨ s.flag F.TB_STATUS_HOLD then s
  else
    let offs := ((s.reg .SWP_LINK b).setWidth 32 : BitVec 32).toInt
    let v := s.fresh 7
    let d : Int := (v.1.toNat % 103 : Nat)
    let t := ((s.reg .TB_STATUS).extractLsb' 32 32 : BitVec 32).toInt
    let t' := if 0 < offs then min (t + d) 40960 else if offs < 0 then max (t - d) (-40960) else t
    v.2.setFld F.TB_STATUS_TRIM (BitVec.ofInt 32 t').toNat

/-- R377: a read of TB_TIME latches FRAC. -/
def State.readTime (s : State) : Word × State := (s.time, s.setFld F.TB_FRAC_FRAC s.tb.frac)

/-- R366: the route entry of a device. -/
def State.drtLookup (s : State) (b d : Nat) : Word :=
  let own := s.fld F.SWP_DEVID_ID
  let i := if d / 256 = own / 256 then 1024 + d % 256 else d / 256
  s.reg .SWP_DRT b i

end Sys2Proof.Machine
end

