-- ==== Sys2Proof/Machine/Power.lean ====
section
/-!
DEFINITION. Clocks, power domains, reset and start-up (chapter 17).
-/
namespace Sys2Proof.Machine

open Sys2Proof

/-- Change the power record. -/
def State.modPwr (s : State) (f : Power → Power) : State := { s with pwr := f s.pwr }

/-- A unit of a domain can act: the domain is on and its clock runs. -/
def State.live (s : State) (d : Nat) : Bool := s.domOn d && s.cstate == ckRun

/-! ### Domains (R33, R409) -/

/-- R409: a switchable domain has this code. -/
def domExists (d : Nat) : Bool :=
  match d / 256 with
  | 0 => decide (d % 256 < 9)
  | 1 => decide (d % 256 < 64)
  | 2 => decide (d % 256 < 64)
  | 3 => decide (d % 256 < 64)
  | 4 => decide (d % 256 < 12)
  | 5 => decide (d % 256 < 36)
  | 6 => decide (d % 256 < 16)
  | 7 => d % 256 == 0
  | _ => false

/-- Mark a domain as on or off (R446). -/
def State.setDomOn (s : State) (d : Nat) (on : Bool) : State :=
  let w := s.reg .PWR_ON 0 (d / 256)
  let m : Word := 1#64 <<< (d % 256)
  s.setReg .PWR_ON (if on then w ||| m else w &&& ~~~ m) 0 (d / 256)

/-- R19: the router of DRAM channel k, and its port. -/
def dramPort (k : Nat) : Nat × Nat :=
  if k < 6 then (k + 1, 6)
  else match k with
    | 6 => (57, 6)
    | 7 => (58, 6)
    | 8 => (61, 6)
    | 9 => (62, 6)
    | 10 => (62, 2)
    | _ => (61, 2)

/-- R19: the router of application cores 2i and 2i + 1. -/
def coreRouter (i : Nat) : Nat :=
  match i with
  | 0 => 27
  | 1 => 28
  | 2 => 35
  | _ => 36

/-- R19: the router of bridge b. -/
def bridgeRouter (b : Nat) : Nat := if b < 8 then 8 * b else 8 * (b - 8) + 7

/-- R19: the NIs (8 * router + port) behind which a domain's blocks stand. Of the shared port 6, whose NI lies in NET, the model takes
the NI as one of SB_b and as none of LQ_q (DESIGN CHOICE, log entry 63: R34 asks for "an NI of the domain"). -/
def domNis (d : Nat) : List Nat :=
  let i := d % 256
  match d / 256 with
  | 0 => if i < 8 then [8 * coreRouter (i / 2) + 7] else [8 * 27 + 7]
  | 1 => [8 * i + 4]
  | 2 => [8 * i + 4]
  | 3 => [8 * i + 5]
  | 4 => let p := dramPort i; [8 * p.1 + p.2]
  | 6 => [8 * bridgeRouter i + 6]
  | 7 => [8 * 59 + 6, 8 * 60 + 6]
  | _ => []

/-- R285: a domain is fenced: an operation that switches it off or resets it runs. -/
def State.fenced (s : State) (d : Nat) : Bool := s.pwr.ops.any (fun o => o.dom == d && o.kind != .on)

/-- R284, R285: the NI on port p of router r takes no new request: its ACCEPT is 0, or the border proxy answers in its place
(DEDUCED, log entry 65: a fenced domain's NIs report DRAINED with no write of ACCEPT). -/
def State.niRefuses (s : State) (r p : Nat) : Bool :=
  !(s.flag F.NOC_NI_ACCEPT r p) || s.pwr.ops.any (fun o => o.kind != .on && (domNis o.dom).contains (8 * r + p))

/-- R285: nothing is under way at an NI. -/
def State.niIdle (s : State) (n : Nat) : Bool := (s.nis.get n {}).outst == 0 && (s.nis.get n {}).infl == 0

/-- R285: the domain has drained: every NI of it is DRAINED. -/
def State.drained (s : State) (d : Nat) : Bool := (domNis d).all (fun n => s.niRefuses (n / 8) (n % 8) && s.niIdle n)

/-- A gang that engine e belongs to is armed, paused or running (R34). -/
def State.gangActive (s : State) (e : Nat) : Bool :=
  let l := s.eng (s.leader e)
  ((s.members (s.leader e)).contains e && (l.gang.armed || l.mode == .paused || l.mode == .stream)) ||
    (s.eng e).mode == .stream || (s.eng e).mode == .paused

/-- R34, R182, R254, R33: a command that would power off or reset the domain is refused. -/
def State.offDenied (s : State) (d : Nat) : Bool :=
  let i := d % 256
  let rtrx := (domNis d).any (fun n => s.flag F.NOC_NI_RTRX (n / 8) (n % 8))
  let anyGang := (List.range 256).any s.gangActive
  match d / 256 with
  | 0 => rtrx || (i == 8 && (List.range 8).any (fun k => s.domOn (domCPU k)))
  | 1 => rtrx || (List.range 4).any (fun j => s.gangActive (4 * i + j))
  | 2 => rtrx || (List.range 4).any (fun j => s.gangActive (4 * i + j))
  | 3 => rtrx || s.flag F.FAB_STATUS_RELOADING i
  | 7 => rtrx || anyGang || !s.smp.cals.isEmpty
  | _ => rtrx

/-! ### What power-off and reset of a domain do (R434, R435, R438) -/

/-- R37, R438: cluster c returns to its reset values; every gang that loses an engine is no longer armed (R34). -/
def State.resetCluster (s : State) (c : Nat) : State :=
  let es := (List.range 4).map (4 * c + ·)
  let leaders := es.map s.leader
  let s := s.forAll leaders (fun acc l => acc.modEng l (fun x => { x with gang := {} }))
  let s := s.forAll es (fun acc e => ((acc.setEng e {}).resetBlock .CE e).resetBlock .TSET e)
  let s := s.forAll ((List.range 16).map (16 * c + ·)) (fun acc p => (acc.setChan p {}).resetBlock .PIN p)
  let s := (s.setFcu c {}).resetBlock .FCU c
  { s with offs := s.offs.clear (fun k => k / 96 == c) }.resetBlock .PMON (332 + c)

/-- R438: slice n returns to its reset values; its content is lost (R33). -/
def State.resetSlice (s : State) (n : Nat) : State :=
  let t := { s with slices := s.slices.clear (fun k => k / 131072 == n), slcs := s.slcs.set n {} {}, arbs := s.arbs.set (512 + n) {} {} }
  ((t.resetBlock .SLC n).resetBlock .ARB (512 + n)).resetBlock .PMON (76 + n)

/-- R214, R438: sector x is cleared and unconfigured; its block memories lose their content. The border cells keep their
declarations (R253). -/
def State.resetSector (s : State) (x : Nat) : State :=
  let t := s.clearSector x
  let t := { t with bm := t.bm.clear (fun k => bmSector (k / 512) == x), bmLast := t.bmLast.clear (fun n => bmSector n == x),
                    bmOut := t.bmOut.clear (fun k => bmSector (k / 2) == x), bmRet := t.bmRet.clear (fun n => bmSector n == x),
                    lineStop := t.lineStop.clear (fun k => k / 16 == x) }
  t.resetBlock .FAB x

/-- R438: the lanes of quad q are OFF. -/
def State.resetQuad (s : State) (q : Nat) : State :=
  let s := s.forAll (quadLanes q) (fun acc l => ((acc.setLn l lnOff).resetBlock .LN l).modLane l (fun _ => {}))
  (s.resetBlock .LNQ q).bondWatch

/-- R360, R438: the link of bridge b goes DOWN and the bridge returns to its reset values; SWP_DEVID keeps its own. -/
def State.resetBridge (s : State) (b : Nat) : State :=
  let s := s.linkDown b 8
  let dev := s.regs.get (regAddr .SWP_DEVID) 0
  let dev' := s.work.get (regAddr .SWP_DEVID) 0
  let s := ((s.modBridge b (fun _ => {})).resetBlock .SWP b).resetBlock .PMON (396 + b)
  { s with regs := s.regs.set (regAddr .SWP_DEVID) dev 0, work := s.work.set (regAddr .SWP_DEVID) dev' 0 }

/-- R418: with TAMPERLOCK = 1 the application cores stay in reset until TAMPER_CLEAR. -/
def State.tamperHold (s : State) : Bool := s.setting 0x72 == 1 && s.flag F.LCS_STATUS_TAMPERED

/-- R244, R418, R442: the cores stay in reset: outside user mode, and while a tamper latch holds them. -/
def State.coresHeld (s : State) : Bool := !s.userMode || s.tamperHold

/-- R2, R458: lines of a core's L1 instruction or data cache, and of its L2. -/
def l1Lines : Nat := 65536 / 64
def l2Lines : Nat := 1048576 / 64

/-- R440: what core k's L1 and L2 hold is discarded. -/
def Caches.dropCore (c : Caches) (k : Nat) : Caches :=
  { c with l1i := c.l1i.clear (fun n => n / l1Lines == k), l1d := c.l1d.clear (fun n => n / l1Lines == k),
           l2 := c.l2.clear (fun n => n / l2Lines == k) }

/-- R460: a line leaves every cache. -/
def Caches.dropLine (c : Caches) (line : Nat) : Caches :=
  let f (t : Tab (Option CacheLine)) : Tab (Option CacheLine) :=
    ⟨t.cells.filter (fun x => match x.2 with | some l => l.line != line | none => true)⟩
  { l1i := f c.l1i, l1d := f c.l1d, l2 := f c.l2, l3 := f c.l3 }

/-- R440: core k restarts; the lines that its L1 and L2 hold are discarded, unwritten data with them. -/
def State.resetCore (s : State) (k : Nat) : State :=
  let run := (s.fld F.SYS_CORE_RUN_RUN).testBit k
  { s with
    caches := s.caches.dropCore k
    harts := s.harts.set k { running := run && s.domOn (domCPU k) && !s.coresHeld, pc := s.reg .SYS_RVBAR 0 k } {} }

/-- R435: a domain loses power: what it held is gone, and its registers return to their reset values. -/
def State.domainOff (s : State) (d : Nat) : State :=
  let i := d % 256
  let s := s.setDomOn d false
  match d / 256 with
  | 0 => if i < 8 then s.resetCore i else { s with caches := {}, plic := {} }
  | 1 => s.resetCluster i
  | 2 => s.forAll ((List.range 4).map (4 * i + ·)) State.resetSlice
  | 3 => s.resetSector i
  | 4 => s.dramPowerOff i
  | 5 => s.resetQuad i
  | 6 => s.resetBridge i
  | _ => s.smpPowerOff

/-- R270: at power-on of cluster c the tables of its NI, shadow and active, take the default entries (DEDUCED, log entry 47). -/
def State.defaultRoutes (s : State) (c : Nat) : State :=
  s.resetRange (regAddr .NOC_ROUTE c (tableOf 4)) (regAddr .NOC_ROUTE c (tableOf 4) + 0x1000)

/-- R434: a domain reports ready; its own initialisation begins or is done: slices fill (R35), a DRAM channel trains (R313),
the SMP asks for its segment (R204), a cluster's offsets are loaded again (R187). -/
def State.domainOn (s : State) (d : Nat) : State :=
  let i := d % 256
  let s := s.setDomOn d true
  match d / 256 with
  | 0 => if i < 8 then s.resetCore i else s
  | 1 => (s.defaultRoutes i).pendOffsets [i]
  | 2 => s.forAll ((List.range 4).map (4 * i + ·)) State.startSliceFill
  | 7 => s.smpPowerOn
  | _ => s

/-- R440, R441: what the reset of a scope does to its domain once drained. -/
def State.domainReset (s : State) (d : Nat) : State :=
  let i := d % 256
  match d / 256 with
  | 0 => s.resetCore i
  | 1 => (s.resetCluster i).pendOffsets [i]
  | 2 => s.forAll ((List.range 4).map (4 * i + ·)) (fun acc n => (acc.resetSlice n).startSliceFill n)
  | 3 => s.resetSector i
  | 4 => s.dramPowerOff i
  | 5 => s.resetQuad i
  | 6 => s.resetBridge i
  | _ => s

/-! ### Domain operations -/

/-- Results of PWR_STATUS and RST_STATUS, and statuses of R401. -/
def resOk : Nat := 1
def resDenied : Nat := 2
def resBadParam : Nat := 3
def resTimeout : Nat := 4

/-- R435, R446: the asker of an operation learns its result (status of R401 for a command, whose parameters the stored reply
carries for the record). -/
def State.answerOp (s : State) (ask : PwrAsk) (res : Nat) : State :=
  match ask with
  | .own => s
  | .reg => (s.setFld F.PWR_STATUS_RESULT res).setFld F.PWR_STATUS_BUSY 0
  | .rst => (s.setFld F.RST_STATUS_RESULT res).setFld F.RST_STATUS_BUSY 0
  | .cmd r => s.completeCmd { r with status := if res = resOk then 0 else 8, data := [] } true r.data

/-- Start a domain operation. -/
def State.startOp (s : State) (o : PwrOp) : State := s.modPwr (fun p => { p with ops := p.ops ++ [o] })

/-- The operation that runs on a domain. -/
def State.opOn (s : State) (d : Nat) : Option PwrOp := s.pwr.ops.find? (fun o => o.dom == d)

/-- Remove the operation of a domain. -/
def State.dropOp (s : State) (d : Nat) : State := s.modPwr (fun p => { p with ops := p.ops.filter (fun o => o.dom != d) })

/-- Remove the operation that switches domain d off; a power-up that wake-on-access has requested since stays (R286). -/
def State.dropOff (s : State) (d : Nat) : State :=
  s.modPwr (fun p => { p with ops := p.ops.filter (fun o => o.dom != d || o.kind != .off) })

/-- R434: the switch of domain d is among the 8 that may close at the same time. -/
def State.switchTurn (s : State) (d : Nat) : Bool :=
  ((s.pwr.ops.filter (fun o => o.kind == .on)).take 8).any (fun o => o.dom == d)

/-- R434, R441: DOMAIN_POWER_UP: a domain that powers up, or that a scoped reset has drained, reports ready. -/
def State.domainPowerUp (s : State) (d : Nat) : State :=
  match s.opOn d with
  | some o =>
    if o.kind = .on ∧ s.switchTurn d ∧ s.cstate = ckRun then ((s.dropOp d).domainOn d).answerOp o.ask resOk
    else if o.kind = .reset ∧ s.drained d then ((s.dropOp d).domainReset d).answerOp o.ask resOk
    else s
  | none => s

/-- R435: DOMAIN_POWER_DOWN: the domain has drained, its outputs are isolated, the switch opens and it reports off. -/
def State.domainPowerDown (s : State) (d : Nat) : State :=
  match s.opOn d with
  | some o => if o.kind = .off ∧ s.drained d then ((s.dropOff d).domainOff d).answerOp o.ask resOk else s
  | none => s

/-- R435: DRAIN_TIMEOUT: a drain exceeds 10 ms; the fence is lifted and the domain stays on. -/
def State.drainTimeout (s : State) (d : Nat) : State :=
  match s.opOn d with
  | some o => if o.kind ≠ .on ∧ !(s.drained d) then (s.dropOp d).answerOp o.ask resTimeout else s
  | none => s

/-- R434, R435: a request to switch domain d: its result at once, or none when an operation starts. -/
def State.switchCheck (s : State) (d : Nat) (on : Bool) : Option Nat :=
  if !(domExists d) then some resBadParam
  else if s.domOn d = on then some resOk
  else if !on ∧ s.offDenied d then some resDenied
  else none

/-- R446: PWR_REQ is written. -/
def State.pwrReqGo (s : State) (v : Word) : State :=
  let d := fldOf F.PWR_REQ_DOMAIN v
  let on := fldOf F.PWR_REQ_ON v == 1
  if fldOf F.PWR_REQ_GO v = 0 then s
  else if s.flag F.PWR_STATUS_BUSY ∨ (s.opOn d).isSome then s.raise F.PWR_STATUS_CFGERR
  else
    let s := s.setFld F.PWR_STATUS_DOMAIN d
    match s.switchCheck d on with
    | some r => s.setFld F.PWR_STATUS_RESULT r
    | none => (s.setFld F.PWR_STATUS_BUSY 1).startOp { dom := d, kind := if on then .on else .off, ask := .reg }

/-- R440: the domain of a scope and instance; none where the scope or the instance does not exist. -/
def scopeDomain (scope inst : Nat) : Option Nat :=
  match scope with
  | 1 => if inst < 8 then some (domCPU inst) else none
  | 2 => if inst < 64 then some (domCL inst) else none
  | 3 => if inst < 64 then some (domSL inst) else none
  | 4 => if inst < 64 then some (domFS inst) else none
  | 5 => if inst < 12 then some (domDM inst) else none
  | 6 => if inst < 36 then some (domLQ inst) else none
  | 7 => if inst < 16 then some (domSB inst) else none
  | _ => none

/-! ### Whole-device reset -/

/-- R442: the order in which hardware powers the switchable domains except SMP. -/
def startDomains : List Nat :=
  (List.range 12).map domDM ++ (List.range 64).map domSL ++ (List.range 64).map domCL ++ (List.range 36).map domLQ ++
    (List.range 16).map domSB ++ (List.range 64).map domFS ++ [domL3] ++ (List.range 8).map domCPU

/-- The bits of a word that lie in the Halo bank (R455). -/
def haloBits (w : Word) : Word := w &&& 0xFFFF#64

/-- R455: the GPIO registers. -/
def gpioRegs : List RegId :=
  [.GPIO_OUT, .GPIO_OE, .GPIO_OD, .GPIO_IN, .GPIO_LKMASK, .GPIO_PMMASK, .GPIO_PMVAL, .GPIO_PMCTL, .GPIO_WAKE]

/-- R438, R439: what a reset of everything but HALO, the SMP and TIME leaves: the base state of a DEVICE reset and of a clock stop. The
levels of CFG_DONE and CFG_HOLD and the straps as sampled are none of what it resets (R235, R439). -/
def State.haloOnly (s : State) : State :=
  let b : State :=
    { pending := s.pending, free := s.free, time := s.time, offs := {}, flash := s.flash, smp := s.smp,
      log := s.log, fuses := s.fuses, ilvLocked := s.ilvLocked, rtc := s.rtc, temps := s.temps, sbk := s.sbk, mb := s.mb,
      xnext := s.xnext, fnext := s.fnext, pwr := { s.pwr with ops := [], globalFrom := {} } }
  let b := { b with tb := { frac := s.tb.frac, step := 0 } }
  let b := { b with io := { spis := s.io.spis, rtcFrac := s.io.rtcFrac, rtcAlarm := s.io.rtcAlarm, alarmF := s.io.alarmF,
                            xtalFail := s.io.xtalFail, locked := haloBits s.io.locked, pads := s.io.pads } }
  let b := { b with harts := (({} : Tab Hart).set 8 (s.harts.get 8 {}) {}).set 9 (s.harts.get 9 {}) {} }
  let b := { b with dbg := { tap := s.dbg.tap, wdtAt := ({} : Tab Nat).set 8 (s.dbg.wdtAt.get 8 0) 0 } }
  let smpLo := Block.SMP.place.1
  let wdtLo := Block.WDT.place.1 + 8 * 0x1000
  let b := { b with regs := ((b.regs.merge s.regs smpLo (smpLo + 0x100000)).merge s.regs wdtLo (wdtLo + 0x1000)) }
  let b := b.setReg .RST_CAUSE (s.reg .RST_CAUSE)
  let b := b.setReg .LCS_STATUS (s.reg .LCS_STATUS)
  let b := b.setReg .DMC_ILV (s.reg .DMC_ILV)
  let b := b.setReg .CFG_STATUS (s.reg .CFG_STATUS &&& 0x0000007800000000#64)
  let b := b.setReg .CLK_STATUS (s.reg .CLK_STATUS &&& 0x0000FFFF00000787#64)
  let b := b.setReg .PWR_ON (if s.smpOn then 1#64 else 0#64) 0 7
  gpioRegs.foldl (fun acc r => acc.setReg r (haloBits (s.reg r) ||| (acc.reg r &&& ~~~ 0xFFFF#64))) b

/-- R442, step 3: SYS and NET are released and the clocks run; step 4: hardware powers every switchable domain except SMP. -/
def State.releaseFast (s : State) : State :=
  (s.setFld F.CLK_STATUS_CSTATE ckRun).modPwr (fun p =>
    { p with ops := p.ops ++ startDomains.map (fun d => { dom := d, kind := .on }) })

/-- R242, R439: where the loader goes once straps are sampled, SYS is ready and Mbana runs. -/
def State.loaderStart (s : State) : State :=
  if s.cstate ≠ ckRun ∨ s.ldState ≠ 0 ∨ s.pwr.strap = 3 ∨ s.pwr.asleep ∨ !(s.mb.run = .firmware ∨ s.mb.run = .rom) then s
  else
    if s.fuses.lc = 4 then s.setLd ldWaitImage
    else if s.pwr.deviceRst then s.setLd (if s.pwr.strap = 2 then ldWaitImage else ldSettings)
    else s.setLd ldHold

/-- R439: a DEVICE reset: everything but HALO, Mbana's SRAM and the SMP is reset, and start-up runs from step 3. Debug
authorisation ends (R470). -/
def State.deviceReset (s : State) (last : Nat) : State :=
  let s := s.haloOnly
  let s := s.modPwr (fun p => { p with deviceRst := true, asleep := false, thermal := false })
  let s := (s.setFld F.RST_CAUSE_LAST last).count F.RST_CAUSE_DEVCNT
  let s := s.setFld F.CLK_STATUS_PLLLOCK 1
  (s.releaseFast.bankWipe 1).loaderStart

/-- R440, R441: a reset command: scope and instance. Its result at once, or none when an operation starts. -/
def State.resetCheck (s : State) (scope inst : Nat) : Option Nat :=
  if scope = 0 then (if inst = 0 then none else some resBadParam)
  else match scopeDomain scope inst with
    | none => some resBadParam
    | some d => if s.offDenied d then some resDenied else none

/-- R440, R441: start a reset that resetCheck has passed. -/
def State.startReset (s : State) (scope inst : Nat) (ask : PwrAsk) : State :=
  match scopeDomain scope inst with
  | some d => s.startOp { dom := d, kind := .reset, ask := ask }
  | none => s.deviceReset 2

/-- R446: RST_CTRL is written. -/
def State.rstCtrlGo (s : State) (v : Word) : State :=
  let scope := fldOf F.RST_CTRL_SCOPE v
  let inst := fldOf F.RST_CTRL_INST v
  let busy : Bool := match scopeDomain scope inst with | some d => (s.opOn d).isSome | none => false
  if fldOf F.RST_CTRL_GO v = 0 then s
  else if s.flag F.RST_STATUS_BUSY ∨ busy then s.raise F.RST_STATUS_CFGERR
  else match s.resetCheck scope inst with
    | some r => s.setFld F.RST_STATUS_RESULT r
    | none => if scope = 0 then s.deviceReset 2 else (s.setFld F.RST_STATUS_BUSY 1).startReset scope inst .rst

/-! ### Clock stop and lock (R430 to R433) -/

/-- R431: the clock stop: Mbana and SYS go to 8 MHz, every other root-derived clock stops, every domain except HALO, SYS and
SMP is held in reset with its power on, DRAM loses its content, TIME holds. -/
def State.clockStop (s : State) (mon cause : Nat) : State :=
  let on := (List.range 8).map (fun j => s.reg .PWR_ON 0 j)
  let es := (List.range 64)
  let s := s.forAll es State.resetSector
  let s := s.forAll es State.resetCluster
  let s := s.forAll (List.range 256) State.resetSlice
  let s := s.forAll (List.range 36) State.resetQuad
  let s := s.forAll (List.range 16) State.resetBridge
  let s := s.forAll (List.range 12) (fun acc k => (acc.dramPowerOff k).modDmc k (fun _ => {}))
  let s := { s with dram := {}, caches := {}, plic := {}, xacts := {}, flights := {}, nis := {}, arbs := {}, fcus := {},
                    harts := s.harts.clear (fun k => decide (k < 8)) }
  let s := s.forAll (List.range 64) (fun acc i => (acc.resetBlock .NOC i).resetBlock .PMON i)
  let s := (List.range 8).foldl (fun acc j => acc.setReg .PWR_ON (on.getD j 0) 0 j) s
  let s := s.logEvent 0x04 (BitVec.ofNat 64 (56 + mon + 2 * 2 ^ 8))
  (s.setFld F.CLK_STATUS_CSTATE ckStopped).modPwr (fun p => { p with stopCause := cause, stopMon := mon, ops := [] })

/-- R431, R432: a clock stop is due: without the 8 MHz oscillator the clock controller waits for it. -/
def State.clockStopDue (s : State) (mon cause : Nat) : State :=
  if s.cstate ≠ ckRun then s
  else if s.flag F.CLK_STATUS_OSCRDY then s.clockStop mon cause
  else (s.setFld F.CLK_STATUS_CSTATE ckWait).modPwr (fun p => { p with stopMon := mon })

/-- R430: monitor n trips. -/
def State.clockMonitorTrip (s : State) (n : Nat) : State :=
  let s := s.setReg .CLK_STATUS (s.reg .CLK_STATUS ||| ((1#64 <<< (n % 8)) <<< 24))
  if n < 5 then
    let s := if n < 2 then s.setFld F.CLK_STATUS_PLLLOCK 0 else s
    s.clockStopDue n 3
  else if n = 5 then s.setFld F.CLK_STATUS_OSCRDY 0
  else if n = 6 then
    { (s.setFld F.CLK_STATUS_XTALRDY 0).modPwr (fun p => { p with crystal := false }) with io := { s.io with xtalFail := true } }
  else (s.setFld F.CLK_STATUS_MPLLLOCK 0).modMb (fun m => { m with portUp := false })

/-- R432, R442: the 8 MHz oscillator is ready: the boot ROM starts, or a CLOCK_WAIT ends in a clock stop. -/
def State.oscillatorReady (s : State) : State :=
  let s := s.setFld F.CLK_STATUS_OSCRDY 1
  let s := if s.mb.run = .off then s.modMb (fun m => { m with run := .booting }) else s
  if s.cstate = ckWait then
    let s := (s.count F.CLK_STATUS_CWAIT).logEvent 0x0B (BitVec.ofNat 64 s.pwr.stopMon)
    s.clockStop s.pwr.stopMon 5
  else s

/-- R374, R431: followers clear ALIGNED. -/
def State.unalign (s : State) : State :=
  if s.fld F.TB_CTRL_MODE = 0 then s else (s.setFld F.TB_STATUS_ALIGNED 0).setFld F.TB_STATUS_HOLD 1

/-- The root PLL locks (R431, R433, R442, R445). -/
def State.rootPllLock (s : State) : State :=
  if s.cstate = ckBoot then
    let first := !s.pwr.locked
    let s := (s.setFld F.CLK_STATUS_PLLLOCK 1).modPwr (fun p => { p with locked := true })
    let s := if first then { s with time := 0 } else s.unalign
    let s := s.releaseFast
    let s := if s.pwr.asleep then s.startOp { dom := domSMP, kind := .on } else s.bankWipe 1
    s.loaderStart
  else if s.cstate = ckStopped ∧ !s.pwr.thermal then s.unalign.deviceReset s.pwr.stopCause
  else s

/-- R407, R431: every temperature site is below 90 °C. -/
def State.coolEnough (s : State) : Bool := (List.range 40).all (fun n => decide (s.temps.get n 0 < 90 * 16))

/-- R431, R433: a lock attempt, at 10 ms intervals: ok says whether the PLL locks. After a thermal trip Mbana clears the stop
once every site is below 90 °C. -/
def State.pllLockRetry (s : State) (ok : Bool) : State :=
  if !ok then s
  else if s.cstate = ckStopped ∧ s.pwr.thermal then
    if s.coolEnough then (s.modPwr (fun p => { p with thermal := false })).rootPllLock else s
  else s.rootPllLock

/-- R407: a temperature site is at 110 °C or above: every fast domain stops. -/
def State.thermalTrip (s : State) : State :=
  if (List.range 40).any (fun n => decide (110 * 16 ≤ s.temps.get n 0)) then
    (s.modPwr (fun p => { p with thermal := true })).clockStopDue 0 4
  else s

/-- R430, R442: the crystal runs, and the real-time clock takes its time from it again. -/
def State.crystalReady (s : State) : State :=
  { (s.setFld F.CLK_STATUS_XTALRDY 1).modPwr (fun p => { p with crystal := true }) with io := { s.io with xtalFail := false } }

/-- R430: the management PLL locks. -/
def State.managementPllLock (s : State) : State := s.setFld F.CLK_STATUS_MPLLLOCK 1

/-! ### Power-on (R437, R442) -/

/-- R437, R442: power-on reset: everything returns to reset but flash, fuses, and what the outside holds; the straps are
sampled (R235). cause 0: PORST_N, 1: VHALO monitor. -/
def State.powerOnReset (s : State) (cause strap : Nat) : State :=
  let b : State :=
    { pending := s.pending, free := s.free, flash := s.flash, fuses := s.fuses, temps := s.temps,
      log := { s.log with pend := [], wr := 0, late := [] }, xnext := s.xnext, fnext := s.fnext }
  let b := { b with pwr := { strap := strap % 4 }, io := { pads := s.io.pads } }
  (b.setFld F.RST_CAUSE_LAST (if cause = 1 then 1 else 0)).setFld F.CFG_STATUS_STRAP (strap % 4)

/-! ### Device ready (R443) -/

/-- R443: the ready condition. -/
def State.deviceIsReady (s : State) : Bool :=
  s.cstate == ckRun && s.bankReady && (s.mb.run == .firmware || s.mb.run == .rom) &&
    (List.range 256).all (fun n => !(s.domOn (domSL (n / 4))) || s.flag F.SLC_STATUS_FILLED n) &&
    (s.fld F.DMC_ILV_CAP == 0 || (List.range 12).all (fun k => s.dmcState k == dmcReady)) &&
    (!s.smpOn || s.smpState != smpBoot)

/-- R249, R442: in DONE_WAIT the ready condition holds and CFG_DONE is released. -/
def State.deviceReady (s : State) : State :=
  if s.ldState = ldDoneWait ∧ s.deviceIsReady then s.modLoader (fun l => { l with ready := true }) else s

/-! ### CLK_COMMIT (R446) -/

/-- R223: when a changed line restarts: the first rising edge of the new division at least 16 root periods after the period in progress. -/
def State.lineRestartAt (s : State) (on : Bool) (old new : Nat) : Nat :=
  roundUp new ((if on then roundUp old (s.now + 1) else s.now) + 16)

/-- R446: the fabric global lines take their shadow settings, unless an N lies outside 8 to 4,096; a changed line completes
its period and restarts (R223). -/
def State.clkCommit (s : State) : State :=
  let bad := (List.range 32).any (fun g =>
    let n := s.sfld F.CLK_GLOBAL_N 0 g
    decide (n < 8) || decide (4096 < n))
  if bad then s.raise F.CLK_STATUS_CFGERR
  else
    let changed := (List.range 32).filter (fun g => s.shadowReg .CLK_GLOBAL 0 g != s.reg .CLK_GLOBAL 0 g)
    let olds := changed.map (fun g => (g, s.reg .CLK_GLOBAL 0 g))
    let s := s.commitBlock .CLK
    s.modPwr (fun p => { p with globalFrom := olds.foldl (fun acc o =>
      acc.set o.1 (s.lineRestartAt (fldOf F.CLK_GLOBAL_EN o.2 == 1) (fldOf F.CLK_GLOBAL_N o.2) (s.fld F.CLK_GLOBAL_N 0 o.1)) 0) p.globalFrom })

/-! ### Device sleep (R444, R445) -/

/-- R444: SLEEP is refused while any gang is armed or in STREAM. -/
def State.sleepDenied (s : State) : Bool :=
  (List.range 256).any (fun e => (s.eng e).gang.armed || (s.eng e).mode == .stream || (s.eng e).mode == .paused)

/-- R444: device sleep: the log is flushed, every switchable domain powers down in order, the secure bank keeps its content,
SYS and NET power down (registers of reset domain power-on are retained, R438), the PLLs stop. -/
def State.enterSleep (s : State) : State :=
  let s := s.flushLog
  let srcs := (List.range 64).map (fun x => (s.sector x).src)
  let order := (List.range 8).map domCPU ++ [domL3] ++ (List.range 64).map domFS ++ (List.range 64).map domCL ++
    (List.range 64).map domSL ++ (List.range 36).map domLQ ++ (List.range 16).map domSB ++ [domSMP] ++ (List.range 12).map domDM
  let s := s.forAll order (fun acc d => if acc.domOn d then acc.domainOff d else acc)
  let s := s.forAll (List.range 64) (fun acc x => acc.modSector x (fun c => { c with src := srcs.getD x {} }))
  let s := s.forAll (List.range 64) (fun acc i => (acc.resetBlock .NOC i).resetBlock .PMON i)
  let s := s.forAll (List.range 512) (fun acc i => acc.resetBlock .ARB i)
  let s := (((s.resetBlock .SYS).resetBlock .PWR).resetRange (Block.RST.place.1 + 8) (Block.RST.place.1 + 0x10000))
  let s := (s.forAll (List.range 24) (fun acc j => acc.resetBlock .MGT j)).resetBlock .PMX
  let s := s.forAll (List.range 8) (fun acc k => acc.resetBlock .WDT k)
  let s := s.resetBlock .DBG
  let s := s.resetRange (Block.TB.place.1 + 0x1000) (Block.TB.place.1 + 0x1080)
  let s := { s with plic := {}, nis := {}, arbs := {}, xacts := {}, flights := {},
                    io := { spis := s.io.spis, rtcFrac := s.io.rtcFrac, rtcAlarm := s.io.rtcAlarm, alarmF := s.io.alarmF,
                            xtalFail := s.io.xtalFail, locked := haloBits s.io.locked, pads := s.io.pads } }
  let s := gpioRegs.foldl (fun acc r => acc.setReg r (haloBits (acc.reg r))) s
  let s := (s.setFld F.CLK_STATUS_PLLLOCK 0).setFld F.CLK_STATUS_MPLLLOCK 0
  let s := s.modMb (fun m => { m with portUp := false })
  (s.setFld F.CLK_STATUS_CSTATE ckSleep).modPwr (fun p => { p with ops := [], asleep := true })

/-- R445: wake conditions: 0 to 15 a pin of the wake mask, 16 the RTC alarm, 17 a tamper input. -/
def State.wakeEnabled (s : State) (source : Nat) : Bool :=
  if source < 16 then s.mb.wakeMask.getLsbD source
  else if source = 16 then s.io.rtcAlarm != 0
  else source == 17 && s.flag F.LCS_STATUS_TAMPERED

/-- R445: a wake event: the root PLL locks again, and start-up runs from step 3. -/
def State.wakeEvent (s : State) (source : Nat) : State :=
  if s.cstate = ckSleep ∧ s.wakeEnabled source then
    let s := s.setFld F.CLK_STATUS_CSTATE ckBoot
    { s with loader := { s.loader with user := false, ready := false } }.setLd 0
  else s

/-- R445: sector x is restored from the image recorded for it (R258), checked again by R237, R238 and R241; none where it
cannot be. -/
def State.restoreSector (s : State) (x : Nat) : Option State :=
  let src := (s.sector x).src
  if src.kind ≠ 1 ∧ src.kind ≠ 2 then none
  else match s.imageBytes src 0 0x1000 9 false with
    | (.bytes h, t) =>
      let len := hdrBodyLen h
      if t.headerGood h true ∧ t.signatureGood h ∧ hdrHash h = src.hash then
        match t.imageBytes src 0x1000 len 9 false with
        | (.bytes body, u) =>
          if sha512 body = hdrHash h then
            let recs := body.drop ((fabricSeg h).offset - 0x1000 + 1040 * 3456 * src.pos)
            let u := (u.bmFill x).forAll (List.range 3456) (fun acc f =>
              acc.setFrame x f (withCheck (frameBits ((recs.drop (1040 * f)).take 1040))))
            let u := (u.setFld F.FAB_STATUS_CONFIGURED 1 x).setFld F.FAB_STATUS_RELOADING 0 x
            some (u.modSector x (fun c => { c with src := src }))
          else none
        | _ => none
      else none
    | _ => none

/-- R445: after a wake the loader restores every sector from its recorded source; a sector whose source was a stream, or whose
image fails a check, stays unconfigured, with LOADERR, CAUSE 9 and an error record. User mode then follows R443. -/
def State.wakeRestore (s : State) : State :=
  let had := (List.range 64).filter (fun x => (s.sector x).src.kind != 0)
  let ramFirst := had.any (fun x => (s.sector x).src.kind == 2) && (List.range 12).any (fun k => s.dmcState k != dmcReady)
  if !s.pwr.asleep ∨ s.cstate ≠ ckRun ∨ had.any (fun x => !(s.sectorOn x)) ∨ ramFirst then s
  else
    let stream := s.loader.src.kind == 3
    let q := had.foldl (fun (acc : State × Nat × Bool) x =>
      match acc.1.restoreSector x with
      | some t => (t, acc.2.1 + 1, acc.2.2)
      | none => (acc.1.modSector x (fun c => { c with src := {} }), acc.2.1, true)) (s, 0, false)
    let t := q.1
    let t := if q.2.2 then
        ((t.setFld F.CFG_STATUS_CAUSE 9).raise F.CFG_STATUS_LOADERR).logErr { kind := 5, inst := 0, cls := 0x05, data := 9 }
      else t
    (t.modPwr (fun p => { p with asleep := false })).setLd (if q.2.1 = 0 ∧ stream then ldWaitImage else ldDoneWait)

end Sys2Proof.Machine
end

