-- ==== Sys2Proof/Machine/SysPins.lean ====
section
/-!
DEFINITION. System pins and management peripherals (chapter 18).
-/
namespace Sys2Proof.Machine

open Sys2Proof

/-- Change the pins' and peripherals' record. -/
def State.modIo (s : State) (f : Periph → Periph) : State := { s with io := f s.io }

/-! ### Pin ownership (R449 to R452) -/

/-- R449: the pins that the peripheral of priority j lists. -/
def pmxPins (j : Nat) : List Nat :=
  match j with
  | 0 => [0, 1, 2, 3]
  | 1 => [16, 17, 18]
  | 2 => [19, 20, 21]
  | 3 => [22, 23, 24]
  | 4 => [25, 26, 27]
  | 5 => [28, 29]
  | 6 => [30, 31, 24, 27]
  | 7 => [34, 35, 36, 37, 38, 39, 40]
  | 8 => [41]
  | 9 => [42]
  | 10 => [43]
  | 11 => [44]
  | _ => []

/-- R449: the owner of pin p under a setting of PMX_EN: 0 GPIO, 1 + j the peripheral of priority j. -/
def ownerUnder (en : Nat) (p : Nat) : Nat :=
  match (List.range 12).find? (fun j => en.testBit j && (pmxPins j).contains p) with
  | some j => 1 + j
  | none => 0

/-- The owner field of pin p. -/
def ownField (p : Nat) : Fld := ⟨.PMX_OWN, 4 * (p % 16) + 3, 4 * (p % 16)⟩

/-- The present owner of pin p. -/
def State.pinOwner (s : State) (p : Nat) : Nat := s.fld (ownField p) 0 (p / 16)

/-- R451, R452, R454: PMX_EN is written: the pins whose owner changes are high-impedance for one GPIO clock; locked pins keep
their owner. -/
def State.writePmxEn (s : State) (mid : MasterId) (v : Word) : Status × State :=
  if mid ≠ 328 then (.edeny, s)
  else
    let en := fldOf F.PMX_EN_EN v
    let s := s.setFld F.PMX_EN_EN en
    (.ok, (List.range 64).foldl (fun acc p =>
      let o := ownerUnder en p
      if acc.io.locked.getLsbD p ∨ acc.pinOwner p = o then acc
      else (acc.setFld (ownField p) o 0 (p / 16)).modIo (fun x => { x with hiZ := x.hiZ ||| (1#64 <<< p) })) s)

/-! ### Levels (R448, R453) -/

/-- R448: what the device itself drives on pin p: none where it is high-impedance or the peripheral's signal comes from
outside this model. -/
def State.pinDriven (s : State) (p : Nat) : Option Bool :=
  let o := s.pinOwner p
  if s.dbg.tap.highz then none
  else if s.dbg.tap.drive then some (s.dbg.tap.boundary.getLsbD p)
  else
  let v : Option Bool :=
    if s.io.hiZ.getLsbD p then none
    else if o = 0 then
      if (s.reg .GPIO_OE).getLsbD p then some ((s.reg .GPIO_OUT).getLsbD p) else none
    else if 9 ≤ o then some (s.io.timers.get (o - 9) {}).tout
    else none
  match v with
  | some true => if (s.reg .GPIO_OD).getLsbD p then none else some true
  | x => x

/-- R453: the pad values, given the board's levels. -/
def State.padValue (s : State) (board : Word) : Word :=
  (List.range 64).foldl (fun acc p =>
    acc ||| (if (s.pinDriven p).getD (board.getLsbD p) then 1#64 <<< p else 0#64)) 0#64

/-- R450: the level a peripheral input sees: its pin while the peripheral owns it, its default otherwise. -/
def State.inputLevel (s : State) (j p : Nat) (dflt : Bool) : Bool :=
  if s.pinOwner p = 1 + j ∧ !(s.io.hiZ.getLsbD p) then s.io.pads.getLsbD p else dflt

/-- R455: the pattern match in a GPIO clock with these pad values: level and edge, PMF, the interrupt. -/
def State.patternMatch (s : State) (board : Word) : State :=
  let v := s.padValue board
  let s := (s.setReg .GPIO_IN v).modIo (fun x => { x with pads := board, hiZ := 0 })
  let m := s.reg .GPIO_PMMASK
  let hit := m != 0 && (v &&& m) == (s.reg .GPIO_PMVAL &&& m)
  let was := s.io.matched
  let s := s.modIo (fun x => { x with matched := hit })
  if !(s.flag F.GPIO_PMCTL_EN) then s
  else if s.flag F.GPIO_PMCTL_MODE then (if hit then s.pendIrq 10 else s)
  else if hit ∧ !was then (s.raise F.GPIO_PMCTL_PMF).pendIrq 10
  else s

/-! ### Lock (R454) -/

/-- 64 GPIO clocks in root periods, with the GPIO clock at root/16. -/
def lockWindow : Nat := 1024

/-- R454: GPIO_LOCK is written. -/
def State.writeGpioLock (s : State) (v : Word) : State :=
  let inTime : Bool := match s.io.lockAt with | some t => decide (s.now ≤ t + lockWindow) | none => false
  if v = 0xC0DE#64 then s.modIo (fun x => { x with lockAt := some s.now })
  else if v = 0x3F21#64 ∧ inTime then
    s.modIo (fun x => { x with lockAt := none, locked := x.locked ||| s.reg .GPIO_LKMASK })
  else s.modIo (fun x => { x with lockAt := none })

/-- R454: 64 GPIO clocks without the second key, or another write to the block. -/
def State.cancelLock (s : State) : State := s.modIo (fun x => { x with lockAt := none })

/-- R8, R454: a write of GPIO_OE, GPIO_OD or GPIO_LKMASK: bits of locked pins do not change. -/
def State.writeGpioLocked (s : State) (r : RegId) (v : Word) : Status × State :=
  let old := s.reg r
  let k := s.io.locked
  let new := (v &&& ~~~ k) ||| (old &&& k)
  (if (v ^^^ old) &&& k = 0 then .ok else .edeny, (s.setReg r new).cancelLock)

/-- R455: GPIO_PMMASK is written. -/
def State.writePmmask (s : State) (v : Word) : State :=
  if 16 < countOnes v then s.raise F.GPIO_STATUS_CFGERR else s.setReg .GPIO_PMMASK v

/-- R450: PMX_TCAP_k is written; IMULTI shows two or more marked pins. -/
def State.writeTcap (s : State) (k : Nat) (v : Word) : State :=
  let w := s.fld F.PMX_STATUS_IMULTI
  let w' := if 2 ≤ countOnes v then w ||| 2 ^ k else w &&& (15 - 2 ^ k)
  (s.setReg .PMX_TCAP v 0 k).setFld F.PMX_STATUS_IMULTI w'

/-! ### Timers (R456) -/

def State.timer (s : State) (k : Nat) : Timer := s.io.timers.get k {}
def State.modTimer (s : State) (k : Nat) (f : Timer → Timer) : State :=
  s.modIo (fun x => { x with timers := x.timers.set k (f (s.timer k)) {} })

/-- A timer's COUNT now: it counts the GPIO clock, root/16, while enabled. -/
def State.timerCount (s : State) (k : Nat) : Word :=
  let t := s.timer k
  if t.ctl.getLsbD 0 then t.count + BitVec.ofNat 64 (s.now / 16 - t.since / 16) else t.count

/-- R456: a compare: CMPF, the TOUT action, and with RELOAD a COUNT of 0. -/
def State.timerCompare (s : State) (k : Nat) : State :=
  let t := s.timer k
  if t.ctl.getLsbD 0 then
    let tout := match (t.ctl.extractLsb' 2 2).toNat with
      | 0 => t.tout
      | 1 => true
      | 2 => false
      | _ => !t.tout
    s.modTimer k (fun x => { x with
      cmpF := true, tout := tout, count := if t.ctl.getLsbD 1 then 0 else t.cmp, since := s.now })
  else s

/-- R450, R456: a rising edge of TCAP_k, which exactly one pin routes, latches COUNT. -/
def State.timerCapture (s : State) (k : Nat) : State :=
  if countOnes (s.reg .PMX_TCAP 0 k) = 1 then
    s.modTimer k (fun x => { x with cap := s.timerCount k, capOvf := x.capOvf || x.capF, capF := true })
  else s

/-! ### SPI masters, I2C controllers, UARTs (R456) -/

/-- SPI master m (0: flash, 1: pins). -/
def State.spim (s : State) (m : Nat) : SpiM := s.io.spims.get m {}
def State.modSpim (s : State) (m : Nat) (f : SpiM → SpiM) : State :=
  s.modIo (fun x => { x with spims := x.spims.set m (f (s.spim m)) {} })

/-- R456: CMD of an SPI master is written with GO; LEN 0 does nothing (R13). -/
def State.spiTransfer (s : State) (m len : Nat) : State :=
  if len % 65536 = 0 then s
  else if (s.spim m).busy then s.modSpim m (fun x => { x with cfgErr := true })
  else s.modSpim m (fun x => { x with busy := true, len := len % 65536 })

/-- R456: the transfer ends: LEN bytes were sent and these came in. -/
def State.spiTransferDone (s : State) (m : Nat) (bytes : List Byte) : State :=
  if (s.spim m).busy then
    s.modSpim m (fun x => { x with
      busy := false, len := 0, tx := x.tx.drop x.len, rx := (x.rx ++ bytes.take x.len).take 256 })
  else s

/-- I2C controller i. -/
def State.i2c (s : State) (i : Nat) : I2c := s.io.i2cs.get i {}
def State.modI2c (s : State) (i : Nat) (f : I2c → I2c) : State :=
  s.modIo (fun x => { x with i2cs := x.i2cs.set i (f (s.i2c i)) {} })

/-- Fields of the I2C command word. -/
def i2cRead (c : BitVec 25) : Bool := c.getLsbD 7
def i2cWlen (c : BitVec 25) : Nat := (c.extractLsb' 8 8).toNat
def i2cRlen (c : BitVec 25) : Nat := (c.extractLsb' 16 8).toNat

/-- R456: CMD of an I2C controller is written. -/
def State.i2cTransaction (s : State) (i : Nat) (cmd : BitVec 25) : State :=
  if !(cmd.getLsbD 24) ∨ i2cWlen cmd + i2cRlen cmd = 0 then s
  else if (s.i2c i).busy then s.modI2c i (fun x => { x with cfgErr := true })
  else s.modI2c i (fun x => { x with cmd := cmd, busy := true, nack := false, arbLost := false, tmo := false, pecErr := false })

/-- R456: the transaction ends, with what went wrong and the bytes read. -/
def State.i2cDone (s : State) (i : Nat) (nack arb tmo pec : Bool) (bytes : List Byte) : State :=
  if (s.i2c i).busy then
    s.modI2c i (fun x => { x with
      busy := false, nack := nack, arbLost := arb, tmo := tmo && x.cfg.getLsbD 3, pecErr := pec && x.cfg.getLsbD 2,
      fifo := if i2cRead x.cmd ∧ !nack then (bytes.take (i2cRlen x.cmd)).take 32 else x.fifo.drop (i2cWlen x.cmd) })
  else s

/-- R450, R456: ALERT_N of an I2C controller is asserted, on a pin that the controller owns. -/
def State.smbusAlert (s : State) (i : Nat) : State :=
  if s.pinOwner (18 + 3 * i) = 2 + i then s.modI2c i (fun x => { x with alert := true }) else s

/-- UART u. -/
def State.uart (s : State) (u : Nat) : Uart := s.io.uarts.get u {}
def State.modUart (s : State) (u : Nat) (f : Uart → Uart) : State :=
  s.modIo (fun x => { x with uarts := x.uarts.set u (f (s.uart u)) {} })

/-- A UART runs: DIV is not 0. -/
def Uart.on (x : Uart) : Bool := x.cfg.extractLsb' 0 16 != 0
/-- The character width of R456 applied to a byte. -/
def Uart.char (x : Uart) (b : Byte) : Byte := if x.cfg.getLsbD 18 then b &&& 0x7F#8 else b

/-- R456: a character arrives on RX, on a pin that the UART owns; a full FIFO loses it. -/
def State.uartReceive (s : State) (u : Nat) (b : Byte) (frameErr parErr : Bool) : State :=
  if (s.uart u).on ∧ s.pinOwner (29 + 2 * u) = 6 + u then
    s.modUart u (fun x =>
      let x := { x with frameErr := x.frameErr || frameErr, parErr := x.parErr || (parErr && x.cfg.extractLsb' 16 2 != 0) }
      if x.rx.length < 64 then { x with rx := x.rx ++ [x.char b] } else { x with overrun := true })
  else s

/-- R456: DATA is written: the byte is queued for transmission while the FIFO has room. -/
def State.uartTransmit (s : State) (u : Nat) (b : Byte) : State :=
  if (s.uart u).tx.length < 64 then s.modUart u (fun x => { x with tx := x.tx ++ [x.char b] }) else s

/-- R456: clear to send: UART1 with FLOW holds its transmitter while CTS_N is high. -/
def State.uartClear (s : State) (u : Nat) : Bool :=
  u == 0 || !((s.uart u).cfg.getLsbD 20) || !(s.inputLevel 6 27 false)

/-- Each running UART sends one queued character (in the idle step, log entry 32). -/
def State.drainUarts (s : State) : State :=
  s.forAll [0, 1] (fun acc u => if (acc.uart u).on ∧ acc.uartClear u then acc.modUart u (fun x => { x with tx := x.tx.drop 1 }) else acc)

/-- R456: the real-time clock reaches ALARM. -/
def State.rtcAlarmHit (s : State) : State :=
  if s.io.rtcAlarm ≠ 0 ∧ s.rtc ≤ s.io.rtcAlarm then
    { s with rtc := s.io.rtcAlarm }.modIo (fun x => { x with alarmF := true })
  else s

/-! ### Mbana's local bus (R456) -/

/-- The bytes of a list with some replaced from an offset on. -/
def putBytes (xs : List Byte) (off : Nat) (bs : List Byte) : List Byte :=
  (List.range (max xs.length (off + bs.length))).map (fun i =>
    if off ≤ i ∧ i < off + bs.length then bs.getD (i - off) 0 else xs.getD i 0)

/-- R456: a write of register off of peripheral j by Mbana. -/
def State.busWrite (s : State) (j off : Nat) (v : Word) : State :=
  if j = 0 then
    if off = 0 then s.modIo (fun x => { x with spis := { x.spis with en := v.getLsbD 0 } })
    else if off = 8 then s.modIo (fun x => { x with spis := { x.spis with cfgErr := x.spis.cfgErr && !(v.getLsbD 2) } })
    else if 0xA00 ≤ off ∧ off < 0xE20 then { s with mb := { s.mb with spiReply := putBytes s.mb.spiReply (off - 0xA00) (wordBytes v) } }
    else s
  else if j < 5 then
    let i := j - 1
    if off = 0 then
      if v.extractLsb' 0 2 = 3 then s.modI2c i (fun x => { x with cfgErr := true })
      else s.modI2c i (fun x => { x with cfg := v.setWidth 4 })
    else if off = 8 then s.i2cTransaction i (v.setWidth 25)
    else if off = 0x10 then
      s.modI2c i (fun x => { x with
        nack := x.nack && !(v.getLsbD 1), arbLost := x.arbLost && !(v.getLsbD 2), tmo := x.tmo && !(v.getLsbD 3),
        pecErr := x.pecErr && !(v.getLsbD 4), alert := x.alert && !(v.getLsbD 5), cfgErr := x.cfgErr && !(v.getLsbD 6) })
    else if off = 0x18 then s.modI2c i (fun x => if x.fifo.length < 32 then { x with fifo := x.fifo ++ [v.setWidth 8] } else x)
    else s
  else if j < 7 then
    let u := j - 5
    if off = 0 then s.modUart u (fun x => { x with cfg := v.setWidth 21 })
    else if off = 8 then
      s.modUart u (fun x => { x with
        overrun := x.overrun && !(v.getLsbD 16), frameErr := x.frameErr && !(v.getLsbD 17), parErr := x.parErr && !(v.getLsbD 18) })
    else if off = 0x10 then s.uartTransmit u (v.setWidth 8)
    else s
  else if j = 7 ∨ j = 12 then
    let m := if j = 7 then 1 else 0
    if off = 0 then
      if (v.extractLsb' 2 8).toNat < 4 ∨ (s.spim m).busy then s.modSpim m (fun x => { x with cfgErr := true })
      else s.modSpim m (fun x => { x with cfg := v.setWidth 12 })
    else if off = 8 then (if v.getLsbD 16 then s.spiTransfer m (v.extractLsb' 0 16).toNat else s)
    else if off = 0x10 then s.modSpim m (fun x => { x with cfgErr := x.cfgErr && !(v.getLsbD 1) })
    else if off = 0x18 then s.modSpim m (fun x => { x with tx := (x.tx ++ wordBytes v).take 256 })
    else s
  else if j < 12 then
    let k := j - 8
    if off = 0 then s.modTimer k (fun x => { x with count := s.timerCount k, since := s.now, ctl := v.setWidth 5 })
    else if off = 8 then s.modTimer k (fun x => { x with count := v, since := s.now })
    else if off = 0x10 then s.modTimer k (fun x => { x with cmp := v })
    else if off = 0x20 then
      s.modTimer k (fun x => { x with
        cmpF := x.cmpF && !(v.getLsbD 0), capF := x.capF && !(v.getLsbD 1), capOvf := x.capOvf && !(v.getLsbD 2) })
    else s
  else if j = 13 then
    if off = 0 then { s with rtc := (v.setWidth 48 : BitVec 48).toNat }.modIo (fun x => { x with rtcFrac := 0 })
    else if off = 0x10 then s.modIo (fun x => { x with rtcAlarm := (v.setWidth 48 : BitVec 48).toNat })
    else if off = 0x18 then s.modIo (fun x => { x with alarmF := x.alarmF && !(v.getLsbD 0) })
    else s
  else s

/-- Eight bytes of a list from an offset, as a word. -/
def wordAt (xs : List Byte) (off : Nat) : Word := bytesWord ((List.range 8).map (fun i => xs.getD (off + i) 0))

/-- R456: a status word of flag bits, from bit 0 up. -/
def flagWord (fs : List Bool) : Word := fs.foldr (fun b acc => (acc <<< 1) ||| (if b then 1#64 else 0#64)) 0#64

/-- R456: the registers of the SPI slave. -/
def SpiS.value (x : SpiS) (reply : List Byte) (off : Nat) : Word :=
  if off = 0 then flagWord [x.en]
  else if off = 8 then flagWord [!x.rx.isEmpty, false, x.cfgErr] ||| BitVec.ofNat 64 (x.rx.length % 2048 * 65536)
  else if 0x400 ≤ off ∧ off < 0x820 then wordAt x.rx (off - 0x400)
  else if 0xA00 ≤ off ∧ off < 0xE20 then wordAt reply (off - 0xA00)
  else 0

/-- R456: the registers of an I2C controller. -/
def I2c.value (x : I2c) (off : Nat) : Word :=
  if off = 0 then x.cfg.setWidth 64
  else if off = 8 then (x.cmd.setWidth 24).setWidth 64
  else if off = 0x10 then flagWord [x.busy, x.nack, x.arbLost, x.tmo, x.pecErr, x.alert, x.cfgErr]
  else if off = 0x18 then (x.fifo.headD 0).setWidth 64
  else 0

/-- R456: the registers of a UART. -/
def Uart.value (x : Uart) (off : Nat) : Word :=
  if off = 0 then x.cfg.setWidth 64
  else if off = 8 then
    BitVec.ofNat 64 (x.rx.length % 128 + x.tx.length % 128 * 256) ||| (flagWord [x.overrun, x.frameErr, x.parErr] <<< 16)
  else if off = 0x10 then (x.rx.headD 0).setWidth 64
  else 0

/-- R456: the registers of an SPI master. -/
def SpiM.value (x : SpiM) (off : Nat) : Word :=
  if off = 0 then x.cfg.setWidth 64
  else if off = 8 then BitVec.ofNat 64 (x.len % 65536)
  else if off = 0x10 then flagWord [x.busy, x.cfgErr]
  else if off = 0x18 then wordAt x.rx 0
  else 0

/-- R456: the value that a read of register off of peripheral j returns. -/
def State.busValue (s : State) (j off : Nat) : Word :=
  if j = 0 then s.io.spis.value s.mb.spiReply off
  else if j < 5 then (s.i2c (j - 1)).value off
  else if j < 7 then (s.uart (j - 5)).value off
  else if j = 7 ∨ j = 12 then (s.spim (if j = 7 then 1 else 0)).value off
  else if j < 12 then
    let x := s.timer (j - 8)
    if off = 0 then x.ctl.setWidth 64
    else if off = 8 then s.timerCount (j - 8)
    else if off = 0x10 then x.cmp
    else if off = 0x18 then x.cap
    else if off = 0x20 then flagWord [x.cmpF, x.capF, x.capOvf]
    else 0
  else if j = 13 then
    if off = 0 then BitVec.ofNat 64 (s.rtc % 2 ^ 48)
    else if off = 8 then s.io.rtcFrac.setWidth 64
    else if off = 0x10 then BitVec.ofNat 64 (s.io.rtcAlarm % 2 ^ 48)
    else if off = 0x18 then flagWord [s.io.alarmF, s.io.xtalFail]
    else 0
  else 0

/-- R456: a read of a FIFO register of peripheral j by Mbana takes what it returns. -/
def State.busRead (s : State) (j off : Nat) : State :=
  if 1 ≤ j ∧ j < 5 ∧ off = 0x18 then s.modI2c (j - 1) (fun x => { x with fifo := x.fifo.drop 1 })
  else if (j = 5 ∨ j = 6) ∧ off = 0x10 then s.modUart (j - 5) (fun x => { x with rx := x.rx.drop 1 })
  else if (j = 7 ∨ j = 12) ∧ off = 0x18 then s.modSpim (if j = 7 then 1 else 0) (fun x => { x with rx := x.rx.drop 8 })
  else s

end Sys2Proof.Machine
end

