-- ==== Sys2Proof/Machine/Cores.lean ====
section
/-!
DEFINITION. Application cores, interrupt controller, watchdogs, debug paths, watches and performance monitors (chapter 19).
-/
namespace Sys2Proof.Machine

open Sys2Proof

/-! ### Harts (R457, R461) -/

/-- Hart h: cores 0 to 7, Mbana 8, meter core 9. -/
def State.hart (s : State) (h : Nat) : Hart := s.harts.get h {}
/-- Change hart h. -/
def State.modHart (s : State) (h : Nat) (f : Hart → Hart) : State := { s with harts := s.harts.set h (f (s.hart h)) {} }
/-- Change the debug record. -/
def State.modDbg (s : State) (f : Debug → Debug) : State := { s with dbg := f s.dbg }

/-- CSR numbers of the RISC-V privileged architecture that a trap and debug mode use. -/
def csrMstatus : Nat := 0x300
def csrMedeleg : Nat := 0x302
def csrMtvec : Nat := 0x305
def csrMepc : Nat := 0x341
def csrMcause : Nat := 0x342
def csrMtval : Nat := 0x343
def csrSstatus : Nat := 0x100
def csrStvec : Nat := 0x105
def csrSepc : Nat := 0x141
def csrScause : Nat := 0x142
def csrStval : Nat := 0x143
def csrDcsr : Nat := 0x7B0
def csrDpc : Nat := 0x7B1
def csrTselect : Nat := 0x7A0
def csrTdata1 : Nat := 0x7A1
def csrTdata2 : Nat := 0x7A2

def Hart.c (x : Hart) (n : Nat) : Word := x.csr.get n 0
def Hart.setC (x : Hart) (n : Nat) (v : Word) : Hart := { x with csr := x.csr.set n v 0 }

/-- R459: a hart takes an exception, as the RISC-V privileged architecture says (log entry 40): delegated to S-mode where
medeleg says so and the hart is below M-mode. -/
def Hart.trap (x : Hart) (cause : Nat) (tval : Word) : Hart :=
  let st := x.c csrMstatus
  if x.priv < 3 ∧ (x.c csrMedeleg).getLsbD cause then
    let st' := (st &&& ~~~ 0x122#64) ||| (if st.getLsbD 1 then 0x20#64 else 0) ||| (if x.priv = 1 then 0x100#64 else 0)
    let y := (((x.setC csrSepc x.pc).setC csrScause (BitVec.ofNat 64 cause)).setC csrStval tval).setC csrMstatus st'
    { y with pc := x.c csrStvec &&& ~~~ 3#64, priv := 1 }
  else
    let st' := (st &&& ~~~ 0x1888#64) ||| (if st.getLsbD 3 then 0x80#64 else 0) ||| (BitVec.ofNat 64 x.priv <<< 11)
    let y := (((x.setC csrMepc x.pc).setC csrMcause (BitVec.ofNat 64 cause)).setC csrMtval tval).setC csrMstatus st'
    { y with pc := x.c csrMtvec &&& ~~~ 3#64, priv := 3 }

/-- R461: SYS_CORE_RUN is written: a bit set releases its core, a bit cleared resets it. -/
def State.coreRun (s : State) (v : Word) : State :=
  let old := s.fld F.SYS_CORE_RUN_RUN
  let new := fldOf F.SYS_CORE_RUN_RUN v
  let s := if fldOf F.SYS_CORE_RUN_BOOTERR v = 1 then s.setFld F.SYS_CORE_RUN_BOOTERR 0 else s
  let s := s.setFld F.SYS_CORE_RUN_RUN new
  s.forAll ((List.range 8).filter (fun k => old.testBit k != new.testBit k)) State.resetCore

/-- R418, R442, R461: cores that TAMPERLOCK or the wait for user mode held leave reset. -/
def State.releaseCores (s : State) : State :=
  s.forAll ((List.range 8).filter (fun k => (s.fld F.SYS_CORE_RUN_RUN).testBit k && !(s.hart k).running)) State.resetCore

/-- R249, R442: USER_MODE_ENTRY: user mode is entered, and cores whose RUN bit is set leave reset (log entry 74). -/
def State.userModeEntry (s : State) : State :=
  if s.ldState = ldDoneWait ∧ s.loader.ready then s.enterUser.releaseCores else s

/-! ### Host boot (R461) -/

def hostBase : Nat := 0x30000000

/-- R461, R416: the host boot image's header is good. -/
def State.hostHeaderGood (s : State) (h : List Byte) : Bool :=
  let len := (hdrWord h 8).toNat
  let load := (hdrWord h 0x10).toNat
  let entry := (hdrWord h 0x18).toNat
  let pubBytes := (h.drop 0x80).take 132
  let pub : BitVec 1056 := BitVec.ofNat 1056 (beNat pubBytes)
  let sig : BitVec 1056 := BitVec.ofNat 1056 (beNat ((h.drop 0x104).take 132))
  let known : Bool :=
    if s.fuses.lc = 0 then true
    else match s.fuses.cfgKeys.get (bitsOf (hdrWord h 0x20) 1 0) none with
      | some k => k == sha512 pubBytes
      | none => false
  hdrWord h 0 == 0x4348424F00010000#64 && decide (1 ≤ len ∧ len ≤ 2 ^ 28 - 512) && load % 64 == 0 &&
    decide (load + len ≤ s.dramCap) && decide (load ≤ entry ∧ entry < load + len) &&
    known && ecdsaVerify pub (sha512 (h.take 0x80)) sig

/-- Mbana writes one line of the body to DRAM; bytes beyond the body's end stay. -/
def State.bootLine (s : State) (a : Nat) (bs : List Byte) : State :=
  let words := (bs.length + 7) / 8
  let k := s.dramChannel a
  let q : LineReq := { xid := 0, first := 0, mid := 328, lam := s.dramLine a, kind := .write,
                       mask := BitVec.ofNat 8 (2 ^ words - 1), data := (bytesWords 8 bs).map (fun w => (w, false)) }
  match s.performLine k q [] with
  | some (_, t) => t
  | none => s

/-- R461: Mbana checks the host boot image, copies its body to DRAM and releases core 0, or sets BOOTERR. -/
def State.hostBoot (s : State) : State :=
  if !s.userMode ∨ s.mb.run ≠ .firmware then s
  else
    let h := s.flashBytes hostBase 512
    let body := s.flashBytes (hostBase + 512) (hdrWord h 8).toNat
    if s.hostHeaderGood h ∧ sha512 body = BitVec.ofNat 512 (beNat ((h.drop 0x40).take 64)) then
      let load := (hdrWord h 0x10).toNat
      let s := s.forAll (List.range ((body.length + 63) / 64)) (fun acc i =>
        acc.bootLine (load + 64 * i) ((body.drop (64 * i)).take 64))
      let s := s.setReg .SYS_RVBAR (hdrWord h 0x18 &&& 0x0000FFFFFFFFFFFF#64)
      s.coreRun (BitVec.ofNat 64 (s.fld F.SYS_CORE_RUN_RUN ||| 1))
    else s.raise F.SYS_CORE_RUN_BOOTERR

/-! ### Interrupt controller (R462, R463) -/

/-- R463: the condition of a level source; false for an edge source. -/
def State.levelHolds (s : State) (src : Nat) : Bool :=
  if 1 ≤ src ∧ src < 9 then s.flag F.MGT_MBSTAT_DONE (src - 1)
  else if src = 10 then s.flag F.GPIO_PMCTL_EN && s.flag F.GPIO_PMCTL_MODE && s.io.matched
  else if 29 ≤ src ∧ src < 45 then s.flag F.SWP_STATUS_DOWNEV (src - 29)
  else if src = 261 then
    (List.range 412).any (fun i => s.flag F.PMON_CTL_IEN i && (s.flag F.PMON_STATUS_WINF i || s.fld F.PMON_STATUS_OVF i != 0))
  else if 270 ≤ src ∧ src < 278 then s.flag F.DBG_VT_STAT_RXFULL 0 (src - 270) && s.flag F.DBG_VT_STAT_IEN 0 (src - 270)
  else false

/-- A source is enabled in a context. -/
def State.irqEnabled (s : State) (ctx src : Nat) : Bool := (s.plic.enable.get (16 * ctx + src / 64) 0).getLsbD (src % 64)

/-- R462: the pending enabled source that a claim in a context takes: the highest priority, the lowest ID among equals; 0 where
there is none. -/
def State.claimId (s : State) (ctx : Nat) : Nat :=
  (s.plic.pend.cells.foldl (fun (best : Nat × Nat) c =>
    let src := c.1
    let p := s.plic.prio.get src 0
    if c.2 ∧ s.irqEnabled ctx src ∧ best.2 < p then (src, p) else best) (0, 0)).1

/-- R462: a claim: the source is no longer pending until it is completed or raised again. An inspect read does not claim. The
word read holds the threshold in [31:0] and the claimed ID in [63:32]. -/
def State.plicClaim (s : State) (ctx : Nat) (inspect : Bool) : Word × State :=
  let id := if inspect then 0 else s.claimId ctx
  let w := BitVec.ofNat 64 (id * 2 ^ 32 + s.plic.thresh.get ctx 0)
  if id = 0 then (w, s)
  else (w, { s with plic := { s.plic with pend := s.plic.pend.set id false false, claimed := s.plic.claimed.set id true false } })

/-- R462, R463: a write of the threshold and claim word: the threshold is set, the ID in [63:32] is completed, and a level
source whose condition holds is pended again. -/
def State.plicComplete (s : State) (ctx : Nat) (v : Word) : State :=
  let id := (v.extractLsb' 32 32).toNat
  let s := { s with plic := { s.plic with thresh := s.plic.thresh.set ctx (v.extractLsb' 0 3).toNat 0 } }
  if id ≠ 0 ∧ id < 1024 ∧ s.plic.claimed.get id false ∧ s.irqEnabled ctx id then
    let s := { s with plic := { s.plic with claimed := s.plic.claimed.set id false false } }
    if s.levelHolds id then s.pendIrq id else s
  else s

/-- R462: a source interrupts a context: some pending enabled source is above its threshold. -/
def State.irqAt (s : State) (ctx : Nat) : Bool :=
  s.plic.pend.cells.any (fun c => c.2 && s.irqEnabled ctx c.1 && decide (s.plic.thresh.get ctx 0 < s.plic.prio.get c.1 0))

/-- R462: a read of the PLIC by aligned 64-bit word: the layout of the RISC-V PLIC specification (log entry 33). -/
def State.plicRead (s : State) (off : Nat) (inspect : Bool) : Word × State :=
  if off < 0x1000 then
    (BitVec.ofNat 64 (s.plic.prio.get (off / 4) 0 + s.plic.prio.get (off / 4 + 1) 0 * 2 ^ 32), s)
  else if off < 0x1080 then
    ((List.range 64).foldl (fun (acc : Word) i =>
      acc ||| (if s.plic.pend.get ((off - 0x1000) * 8 + i) false then 1#64 <<< i else 0#64)) 0, s)
  else if 0x2000 ≤ off ∧ off < 0x2800 then (s.plic.enable.get (16 * ((off - 0x2000) / 0x80) + (off % 0x80) / 8) 0, s)
  else if 0x200000 ≤ off ∧ off < 0x210000 ∧ off % 0x1000 = 0 then s.plicClaim ((off - 0x200000) / 0x1000) inspect
  else (0, s)

/-- R462: a write of the PLIC by aligned 64-bit word. Source 0 does not exist. -/
def State.plicWrite (s : State) (off : Nat) (v : Word) : State :=
  if off < 0x1000 then
    let n := off / 4
    let p0 := s.plic.prio.set (n + 1) (v.extractLsb' 32 3).toNat 0
    { s with plic := { s.plic with prio := if n = 0 then p0 else p0.set n (v.extractLsb' 0 3).toNat 0 } }
  else if 0x2000 ≤ off ∧ off < 0x2800 then
    let w := (off % 0x80) / 8
    let v := if w = 0 then v &&& ~~~ 1#64 else v
    { s with plic := { s.plic with enable := s.plic.enable.set (16 * ((off - 0x2000) / 0x80) + w) v 0 } }
  else if 0x200000 ≤ off ∧ off < 0x210000 ∧ off % 0x1000 = 0 then s.plicComplete ((off - 0x200000) / 0x1000) v
  else s

/-- R463: SYS_IRQPOST is written. -/
def State.irqPost (s : State) (v : Word) : State :=
  let n := fldOf F.SYS_IRQPOST_SRC v
  if 768 ≤ n then s.pendIrq n else s

/-- R464: core k's timer interrupt is pending. -/
def State.timerPending (s : State) (k : Nat) : Bool := decide ((s.reg .TB_MTIMECMP 0 k).toNat ≤ s.now)

/-- R464: TIME reaches TB_MTIMECMP_k. -/
def State.machineTimer (s : State) (k : Nat) : State := s.atTime (s.reg .TB_MTIMECMP 0 k).toNat

/-- R460: a failed write-back of a dirty line of core k: its data is lost, SYS_WBERR_k records it. -/
def State.writebackError (s : State) (k a st : Nat) : State :=
  let s := { s with caches := s.caches.dropLine (a / 64) }
  let s := ((s.setFld F.SYS_WBERR_VALID 1 0 k).setFld F.SYS_WBERR_STATUS st 0 k).setFld F.SYS_WBERR_ADDR (a / 64 * 64) 0 k
  s.pendIrq (262 + k)

/-! ### Watchdogs (R465, R466) -/

/-- R466: WDT instance k is frozen. -/
def State.wdtFrozen (s : State) (k : Nat) : Bool :=
  if k < 8 then (s.hart k).halted || !(s.domOn (domCPU k)) else s.flag F.DBG_CTRL_HOLD_WDT && (s.hart 8).halted

/-- A watchdog reloads a full PERIOD. -/
def State.wdtReload (s : State) (k : Nat) : State := s.modDbg (fun d => { d with wdtAt := d.wdtAt.set k s.now 0 })

/-- A full PERIOD with STAGE := 0 (R466). -/
def State.wdtRestart (s : State) (k : Nat) : State := (s.setFld F.WDT_STATUS_STAGE 0 k).wdtReload k

/-- WDT_STATUS.REMAIN: µs left in the present stage; a frozen watchdog shows a full PERIOD (log entry 41). -/
def State.wdtRemain (s : State) (k : Nat) : Nat :=
  let p := s.fld F.WDT_PERIOD_PERIOD k
  if s.wdtFrozen k ∨ !(s.flag F.WDT_CTRL_EN k) then p else p - (s.now - s.dbg.wdtAt.get k 0) / 6400

/-- R465: WDT_KICK is written. -/
def State.wdtKick (s : State) (k : Nat) (v : Word) : State :=
  if v = 0xA5C3#64 then s.wdtRestart k else s.raise F.WDT_STATUS_BADKEY k

/-- R465: an enabled watchdog expires: first the early interrupt, then the reset of its core or of Mbana. -/
def State.wdtExpiry (s : State) (k : Nat) : State :=
  if !(s.flag F.WDT_CTRL_EN k) ∨ s.fld F.WDT_PERIOD_PERIOD k = 0 ∨ s.wdtFrozen k then s
  else
    let s := s.atTime (s.dbg.wdtAt.get k 0 + 6400 * s.fld F.WDT_PERIOD_PERIOD k)
    if s.fld F.WDT_STATUS_STAGE k = 0 then
      let s := ((s.setFld F.WDT_STATUS_STAGE 1 k).raise F.WDT_STATUS_EARLY k).wdtReload k
      if k < 8 then s.pendIrq (253 + k) else s
    else
      let s := (s.count F.WDT_STATUS_RESETS k).wdtRestart k
      if k < 8 then s.resetCore k else s.mbReboot 2

/-- R8, R465: WDT_CTRL and WDT_PERIOD are written; LOCK freezes EN, LOCK and PERIOD. Enabling starts a full PERIOD. -/
def State.writeWdt (s : State) (r : RegId) (k : Nat) (v : Word) : Status × State :=
  let m : Word := if r = .WDT_CTRL then 3 else 0xFFFFFFFF
  let old := s.reg r k
  let new := v &&& m
  if s.flag F.WDT_CTRL_LOCK k then (if new = old then .ok else .edeny, s)
  else
    let t := s.setReg r new k
    (.ok, if r = .WDT_CTRL ∧ old.getLsbD 0 ∧ new.getLsbD 0 then t else t.wdtRestart k)

/-! ### Debug level (R469, R470) -/

/-- R469, R470: the debug level in force: 3 in BLANK, 0 in SCRAPPED, else what was granted. -/
def State.dbgLevel (s : State) : Nat :=
  if s.fuses.lc = 0 then 3 else if s.fuses.lc = 4 then 0 else s.fld F.DBG_STATUS_LEVEL

/-- R469: the level lets the debug module act on hart h: the meter core only in RMA. -/
def State.hartAllowed (s : State) (h : Nat) : Bool :=
  if h < 8 then decide (2 ≤ s.dbgLevel)
  else if h = 8 then s.dbgLevel == 3
  else h == 9 && s.dbgLevel == 3 && s.fuses.lc == 3

/-- R466, R475: hart h enters debug mode: its reservation is cleared; dpc and dcsr as the debug specification says. -/
def State.enterDebug (s : State) (h cause : Nat) : State :=
  s.modHart h (fun x =>
    let d := (x.c csrDcsr &&& ~~~ 0x1C3#64) ||| BitVec.ofNat 64 (cause * 64 + x.priv)
    let y := (x.setC csrDpc x.pc).setC csrDcsr d
    { y with halted := true, resv := none, resumeAck := false })

/-- Whether a hart executes: application cores and the meter core as their reset says; Mbana while it boots or runs. -/
def State.hartRuns (s : State) (h : Nat) : Bool :=
  if h < 8 then (s.hart h).running
  else if h = 8 then s.mb.run == .booting || s.mb.run == .firmware || s.mb.run == .rom
  else h == 9 && s.smpOn

/-- R206: authorised debug of the meter core breaks the seal: a seal step is taken before the debugger first acts on hart 9 under an
authorisation (log entry 72). -/
def State.meterDebug (s : State) (h : Nat) : State :=
  if h = 9 ∧ s.hartAllowed 9 ∧ !s.dbg.meterSeal then (s.modDbg (fun d => { d with meterSeal := true })).sealStepForced 6 else s

/-- R468: the debug module halts hart h. -/
def State.hartHalt (s : State) (h : Nat) : State :=
  if s.hartAllowed h ∧ s.hartRuns h ∧ !(s.hart h).halted then (s.meterDebug h).enterDebug h 3 else s

/-- A halted hart leaves debug mode at dpc; its watchdog reloads a full PERIOD (R466). -/
def State.leaveDebug (s : State) (h : Nat) : State :=
  let s := s.modHart h (fun x =>
    { x with halted := false, resumeAck := true, pc := x.c csrDpc, priv := (x.c csrDcsr &&& 3#64).toNat })
  if h < 8 then s.wdtRestart h else if h = 8 ∧ s.flag F.DBG_CTRL_HOLD_WDT then s.wdtRestart 8 else s

/-- R468: the debug module resumes hart h. -/
def State.hartResume (s : State) (h : Nat) : State :=
  if s.hartAllowed h ∧ (s.hart h).halted then s.leaveDebug h else s

/-- Registers after instructions that the RISC-V architecture defines and this manual does not: free values (log entry 42). -/
def State.runUnknown (s : State) (h : Nat) : State :=
  let n := s.free
  let s := { s with free := n + 65 }
  s.modHart h (fun x => { x with
    pc := Config.freeValue 64 n,
    gpr := (List.range 31).foldl (fun acc i => acc.set (i + 1) (Config.freeValue 64 (n + 1 + i)) 0) x.gpr,
    fpr := (List.range 32).foldl (fun acc i => acc.set i (Config.freeValue 64 (n + 33 + i)) 0) x.fpr })

/-- R468: hart h executes one instruction and enters debug mode again. -/
def State.singleStep (s : State) (h : Nat) : State :=
  if s.hartAllowed h ∧ (s.hart h).halted then (((s.meterDebug h).leaveDebug h).runUnknown h).enterDebug h 4 else s

/-- R468: the debug module resets hart h; that of the meter core is no reset of the SMP (R183). -/
def State.hartReset (s : State) (h : Nat) : State :=
  if !(s.hartAllowed h) then s
  else if h < 8 then s.resetCore h
  else if h = 8 then (s.modHart 8 (fun _ => {})).mbReboot 3
  else (s.meterDebug 9).modHart 9 (fun _ => {})

/-- R468: ndmreset resets the application cores only. -/
def State.ndmReset (s : State) : State :=
  if 2 ≤ s.dbgLevel then s.forAll (List.range 8) State.resetCore else s

/-- R469, R470: authorisation ends; halted harts are resumed. -/
def State.endDebug (s : State) : State :=
  let s := ((s.setFld F.DBG_STATUS_LEVEL 0).setFld F.DBG_STATUS_SOURCE 0).setFld F.DBG_STATUS_SLOT 0
  let s := s.modDbg (fun d => { d with meterSeal := false })
  s.forAll ((List.range 10).filter (fun h => (s.hart h).halted)) State.leaveDebug

/-! ### Debug module registers (R468) -/

def State.modDm (s : State) (f : DebugModule → DebugModule) : State := s.modDbg (fun d => { d with dm := f d.dm })

/-- R471: the trigger that a hart's tselect names: 0 to 7 mcontrol6, 8 icount. -/
def Hart.trigSel (x : Hart) : Nat := (x.c csrTselect).toNat

/-- A register number of an abstract command: none where the debug module has no such register. tdata1 and tdata2 show the
trigger that tselect names (R471). -/
def State.absRead (s : State) (h r : Nat) : Option Word :=
  let x := s.hart h
  if r < 0x1000 then
    some (if r = 0xC01 then s.time else if r = csrTdata1 then (x.trigs.get x.trigSel {}).tdata1
      else if r = csrTdata2 then (x.trigs.get x.trigSel {}).tdata2 else x.c r)
  else if r < 0x1020 then some (x.gpr.get (r - 0x1000) 0)
  else if r < 0x1040 then some (x.fpr.get (r - 0x1020) 0)
  else none

/-- A write of a CSR of a halted hart: tselect holds the number of a trigger that exists, and keeps its value else; tdata1
and tdata2 reach the trigger that it names (R471). -/
def Hart.writeCsr (x : Hart) (r : Nat) (v : Word) : Hart :=
  if r = csrTselect then (if v.toNat < 9 then x.setC r v else x)
  else if r = csrTdata1 then { x with trigs := x.trigs.set x.trigSel { x.trigs.get x.trigSel {} with tdata1 := v } {} }
  else if r = csrTdata2 then { x with trigs := x.trigs.set x.trigSel { x.trigs.get x.trigSel {} with tdata2 := v } {} }
  else x.setC r v

/-- Write a register of a halted hart. -/
def State.absWrite (s : State) (h r : Nat) (v : Word) : State :=
  s.modHart h (fun x =>
    if r < 0x1000 then x.writeCsr r v
    else if r < 0x1020 then (if r = 0x1000 then x else { x with gpr := x.gpr.set (r - 0x1000) v 0 })
    else { x with fpr := x.fpr.set (r - 0x1020) v 0 })

/-- R468: an abstract command on the selected hart: register access, and program-buffer execution with postexec. -/
def State.abstractCommand (s : State) (cmd : BitVec 32) : State :=
  let h := s.dbg.dm.hartSel
  let fail (e : Nat) : State := s.modDm (fun d => { d with cmdErr := e })
  if s.dbg.dm.cmdErr ≠ 0 then s
  else if !(s.hartAllowed h) ∨ cmd.extractLsb' 24 8 ≠ 0 then fail 2
  else if !(s.hart h).halted then fail 4
  else
    let size := (cmd.extractLsb' 20 3).toNat
    let r := (cmd.extractLsb' 0 16).toNat
    let transfer := cmd.getLsbD 17
    let s := s.meterDebug h
    let done : State → State := fun t => if cmd.getLsbD 18 then t.runUnknown h else t
    if !transfer then done s
    else if size ≠ 2 ∧ size ≠ 3 then fail 2
    else match s.absRead h r with
      | none => fail 3
      | some v =>
        if cmd.getLsbD 16 then
          let arg : Word := s.dbg.dm.data1 ++ s.dbg.dm.data0
          done (s.absWrite h r (if size = 3 then arg else (arg.setWidth 32).signExtend 64))
        else
          done (s.modDm (fun d => { d with
            data0 := v.setWidth 32, data1 := if size = 3 then v.extractLsb' 32 32 else d.data1 }))

/-- dmstatus of the selected hart (version 3: the 1.0 specification). -/
def State.dmStatus (s : State) : BitVec 32 :=
  let h := s.dbg.dm.hartSel
  let x := s.hart h
  let dup (b : Bool) (n : Nat) : Nat := if b then 3 * 2 ^ n else 0
  BitVec.ofNat 32 (3 + 128 * bit (s.dbgLevel != 0) + dup x.halted 8 + dup (!x.halted && s.hartRuns h) 10 +
    dup (!x.halted && !(s.hartRuns h) && decide (h < 10)) 12 + dup (decide (10 ≤ h)) 14 + dup x.resumeAck 16 + dup x.haveReset 18)

/-- R468: a read of a debug module register. -/
def State.dmRead (s : State) (a : Nat) : BitVec 32 :=
  let d := s.dbg.dm
  if a = 0x04 then d.data0
  else if a = 0x05 then d.data1
  else if a = 0x10 then BitVec.ofNat 32 (bit d.active + d.hartSel * 2 ^ 16)
  else if a = 0x11 then s.dmStatus
  else if a = 0x16 then BitVec.ofNat 32 (2 + d.cmdErr * 2 ^ 8 + 16 * 2 ^ 24)
  else if a = 0x18 then d.autoExec
  else if 0x20 ≤ a ∧ a < 0x30 then d.progbuf.get (a - 0x20) 0
  else if a = 0x38 then
    BitVec.ofNat 32 (8 + 48 * 2 ^ 5 + d.sbError * 2 ^ 12 + bit d.sbReadOnData * 2 ^ 15 + bit d.sbAutoInc * 2 ^ 16 +
      d.sbAccess * 2 ^ 17 + bit d.sbReadOnAddr * 2 ^ 20 + bit (s.dbg.sbPend.isSome || s.dbg.sbWait.isSome) * 2 ^ 21 + 2 ^ 29)
  else if a = 0x39 then d.sbAddr.setWidth 32
  else if a = 0x3A then d.sbAddr.extractLsb' 32 32
  else if a = 0x3C then d.sbData.setWidth 32
  else if a = 0x3D then d.sbData.extractLsb' 32 32
  else if a = 0x40 then BitVec.ofNat 32 ((List.range 10).foldl (fun acc h => acc + (if (s.hart h).halted then 2 ^ h else 0)) 0)
  else 0

/-- R468: a write of dmcontrol. -/
def State.writeDmControl (s : State) (v : BitVec 32) : State :=
  let h := (v.extractLsb' 16 10).toNat
  if !(v.getLsbD 0) then s.modDm (fun _ => {})
  else
    let s := s.modDm (fun d => { d with active := true, hartSel := h })
    let s := if v.getLsbD 1 then s.ndmReset else s
    let s := if v.getLsbD 29 then s.hartReset h else s
    let s := if v.getLsbD 28 ∧ s.hartAllowed h then s.modHart h (fun x => { x with haveReset := false }) else s
    if v.getLsbD 31 then s.hartHalt h
    else if v.getLsbD 30 then
      if (s.hart h).c csrDcsr &&& 4 = 0 then s.hartResume h else s.singleStep h
    else s

/-- A system bus access is to be issued (R468). -/
def State.askBus (s : State) (write : Bool) : State :=
  if s.dbg.dm.sbError ≠ 0 ∨ s.dbg.sbPend.isSome ∨ s.dbg.sbWait.isSome then s else s.modDbg (fun d => { d with sbPend := some write })

/-- R468, R469: a write of a debug module register; false where the level does not grant it. At level 1 those of the system bus
are written, since inspect reads and the virtual terminal need them (log entry 49). -/
def State.dmWrite (s : State) (a : Nat) (v : BitVec 32) : Bool × State :=
  let lvl := s.dbgLevel
  if a = 0x38 then
    (true, s.modDm (fun d => { d with
      sbError := if v.extractLsb' 12 3 = 0 then d.sbError else 0, sbReadOnData := v.getLsbD 15, sbAutoInc := v.getLsbD 16,
      sbAccess := (v.extractLsb' 17 3).toNat, sbReadOnAddr := v.getLsbD 20 }))
  else if a = 0x39 then
    let s := s.modDm (fun d => { d with sbAddr := (d.sbAddr.extractLsb' 32 32 : BitVec 32) ++ v })
    (true, if s.dbg.dm.sbReadOnAddr then s.askBus false else s)
  else if a = 0x3A then (true, s.modDm (fun d => { d with sbAddr := v ++ (d.sbAddr.setWidth 32 : BitVec 32) }))
  else if a = 0x3C then (true, (s.modDm (fun d => { d with sbData := (d.sbData.extractLsb' 32 32 : BitVec 32) ++ v })).askBus true)
  else if a = 0x3D then (true, s.modDm (fun d => { d with sbData := v ++ (d.sbData.setWidth 32 : BitVec 32) }))
  else if lvl < 2 then (false, s)
  else if a = 0x04 then (true, s.modDm (fun d => { d with data0 := v }))
  else if a = 0x05 then (true, s.modDm (fun d => { d with data1 := v }))
  else if a = 0x10 then
    if s.hartAllowed (v.extractLsb' 16 10).toNat ∨ 10 ≤ (v.extractLsb' 16 10).toNat then (true, s.writeDmControl v) else (false, s)
  else if a = 0x16 then (true, s.modDm (fun d => { d with cmdErr := d.cmdErr &&& (7 - (v.extractLsb' 8 3).toNat) }))
  else if a = 0x17 then (true, s.abstractCommand v)
  else if a = 0x18 then (true, s.modDm (fun d => { d with autoExec := v }))
  else if 0x20 ≤ a ∧ a < 0x30 then (true, s.modDm (fun d => { d with progbuf := d.progbuf.set (a - 0x20) v 0 }))
  else (true, s)

/-- R468, R469: one DMI transaction: op 1 reads, 2 writes; the result code (0 success, 2 failed, 3 busy) and the data. -/
def State.dmiAccess (s : State) (op a : Nat) (v : BitVec 32) : Nat × BitVec 32 × State :=
  if op = 0 then (0, 0, s)
  else if s.dbgLevel = 0 then (2, 0, s)
  else if op = 1 then
    let t := if a = 0x3C ∧ s.dbg.dm.sbReadOnData then s.askBus false else s
    (0, s.dmRead a, t)
  else if op = 2 then
    match s.dmWrite a v with
    | (true, t) => (0, 0, t)
    | (false, t) => (2, 0, t)
  else (2, 0, s)

/-! ### TAP (R467) -/

def State.modTap (s : State) (f : Tap' → Tap') : State := s.modDbg (fun d => { d with tap := f d.tap })

/-- R235: board-test mode. -/
def State.boardTest (s : State) : Bool := s.pwr.strap == 3

/-- R3, R4: the IDCODE register: SYS_ID's value as the TAP shows it (log entry 43). -/
def State.idcode (s : State) : Word :=
  BitVec.ofNat 64 (s.fld F.SYS_ID_STEP * 2 ^ 28 + s.fld F.SYS_ID_PART * 2 ^ 12 + s.fld F.SYS_ID_FAMILY * 2 + 1)

/-- R467: an instruction that selects the boundary-scan register in board-test mode, and the bypass register otherwise. -/
def State.tapBoundary (s : State) (ir : Nat) (upd : Option Word) (drive highz : Bool) : State :=
  if s.boardTest then
    s.modTap (fun t => { t with ir := ir, reg := if drive ∧ upd.isNone ∨ highz then .bypass else .boundary,
                                shift := if drive ∧ upd.isNone ∨ highz then 0 else s.padValue s.io.pads,
                                boundary := upd.getD t.boundary, drive := drive, highz := highz })
  else s.modTap (fun t => { t with ir := ir, reg := .bypass, shift := 0, drive := false, highz := false })

/-- R467: EXTEST, SAMPLE/PRELOAD, CLAMP, HIGHZ, with the boundary cells as updated. -/
def State.tapExtest (s : State) (cells : Word) : State := s.tapBoundary 0x00 (some cells) true false
def State.tapSample (s : State) (cells : Word) : State := s.tapBoundary 0x02 (some cells) false false
def State.tapClamp (s : State) : State := s.tapBoundary 0x03 none true false
def State.tapHighz (s : State) : State := s.tapBoundary 0x04 none false true

/-- R467: IDCODE, DTMCS, BYPASS. -/
def State.tapIdcode (s : State) : State :=
  s.modTap (fun t => { t with ir := 1, reg := .idcode, shift := s.idcode, drive := false, highz := false })
def State.tapBypass (s : State) : State :=
  s.modTap (fun t => { t with ir := 0x3F, reg := .bypass, shift := 0, drive := false, highz := false })
/-- R467: DTMCS: version 1, 9 address bits, the last DMI result; dmireset clears it. -/
def State.tapDtmcs (s : State) (v : BitVec 32) : State :=
  s.modTap (fun t => { t with ir := 0x10, reg := .dtmcs, shift := BitVec.ofNat 64 (1 + 9 * 16 + t.dmiErr * 1024),
                              dmiErr := if v.getLsbD 16 then 0 else t.dmiErr, drive := false, highz := false })
/-- R467: DMI: one transaction; the register then shows the data and the result code. -/
def State.tapDmi (s : State) (op a : Nat) (v : BitVec 32) : State :=
  let (r, d, t) := if s.dbg.tap.dmiErr ≠ 0 then (s.dbg.tap.dmiErr, 0#32, s) else s.dmiAccess op (a % 512) v
  t.modTap (fun x => { x with ir := 0x11, reg := .dmi, dmiErr := r, drive := false, highz := false,
                              shift := BitVec.ofNat 64 (r + d.toNat * 4 + (a % 512) * 2 ^ 34) })
/-- R437, R467: TRST_N resets the TAP controller: Test-Logic-Reset selects IDCODE. -/
def State.tapReset (s : State) : State := s.modTap (fun _ => { shift := s.idcode })

/-! ### Triggers (R471) -/

/-- R471: trigger t of hart h fires: breakpoint exception, or debug mode where action 1 and dmode say so. -/
def State.triggerFire (s : State) (h t : Nat) : State :=
  let x := s.hart h
  let g := x.trigs.get t {}
  let typ := (g.tdata1.extractLsb' 60 4).toNat
  let action := if typ = 6 then (g.tdata1.extractLsb' 12 4).toNat else (g.tdata1.extractLsb' 0 6).toNat
  if !(s.hartRuns h) ∨ x.halted ∨ !((typ = 6 ∧ t < 8) ∨ (typ = 3 ∧ t = 8)) then s
  else if action = 1 then (if g.tdata1.getLsbD 59 then s.enterDebug h 2 else s)
  else if action = 0 then s.modHart h (fun y => y.trap 3 y.pc)
  else s

/-! ### Engine watches (R472) -/

/-- R472: the value that watch unit u compares, where it is at hand; fails: the fail bits of the engine's pins at compare
close. -/
def State.watchValue (s : State) (u : Nat) (fails : BitVec 4) : Word :=
  let x := s.eng (s.fld F.DBG_EWCFG_ENG 0 u)
  match s.fld F.DBG_EWCFG_SRC 0 u with
  | 0 => x.ao.setWidth 64
  | 1 => x.dout
  | 2 => x.flags.setWidth 64
  | _ => fails.setWidth 64

/-- R472: a watched value was sampled: on a match the unit counts, records and starts its action. idx is the vector index in
STREAM, or the bundle address in ANALYSIS. -/
def State.watchMatch (s : State) (u : Nat) (fails : BitVec 4) (idx : Word48) : State :=
  let e := s.fld F.DBG_EWCFG_ENG 0 u
  let m := s.reg .DBG_EWMASK 0 u
  let x := s.eng e
  let stream := x.mode == .stream
  if !(s.flag F.DBG_EWCFG_EN 0 u) ∨ (s.watchValue u fails &&& m) ≠ (s.reg .DBG_EWVAL 0 u &&& m) then s
  else
    let s := s.count F.DBG_EWCNT_COUNT 0 u
    let s := if s.flag F.DBG_EWHIT_VALID 0 u then s
      else s.setReg .DBG_EWHIT (BitVec.ofNat 64 (2 ^ 63 + bit (!stream) * 2 ^ 48 + idx.toNat)) 0 u
    match s.fld F.DBG_EWCFG_ACT 0 u with
    | 1 =>
      if stream then s.modDbg (fun d => { d with pauses := d.pauses ++ [(s.leader e, s.now + 32)] })
      else if x.mode = .analysis then s.irqDoorbell e 0x80 else s
    | 2 => if x.mode = .idle ∨ x.mode = .fault then s else s.ceAbort e
    | 3 => s.modDbg (fun d => { d with freezes := d.freezes ++ [roundUp 8 (s.now + 64)] })
    | _ => s

/-- R68, R472: the gang of leader e pauses at this step, at least 8 engine cycles after the match; a pause request of the FCU
falls together with it. -/
def State.watchPause (s : State) (e : Nat) : State :=
  let x := s.eng e
  match s.dbg.pauses.find? (fun p => p.1 == e) with
  | none => s
  | some p =>
    if s.leader e = e ∧ x.mode = .stream ∧ !x.alone ∧ x.s6.isSome ∧ !(s.faulting (s.members e)) then
      ((s.atTime p.2).modDbg (fun d => { d with pauses := d.pauses.filter (fun q => q.1 != e) })).stepParts (s.members e) .forced
    else if x.mode ≠ .stream then s.modDbg (fun d => { d with pauses := d.pauses.filter (fun q => q.1 != e) })
    else s

/-- R480: DBG_EWCOMMIT.GO. -/
def State.ewCommit (s : State) : State :=
  if (List.range 16).any (fun u => decide (4 ≤ s.sfld F.DBG_EWCFG_SRC 0 u)) then s.raise F.DBG_STATUS_CFGERR
  else s.commitBlock .DBG

/-! ### Virtual terminal (R473) -/

/-- R473: core k writes its TX entry. -/
def State.vtTxWrite (s : State) (k : Nat) (mid : MasterId) (v : Word) : Status × State :=
  if mid.toNat ≠ 320 + k then (.edeny, s)
  else if fldOf F.DBG_VT_TX_N v = 0 then (.ok, s)
  else if s.flag F.DBG_VT_STAT_TXFULL 0 k then (.ok, s.raise F.DBG_VT_STAT_TXOVF 0 k)
  else (.ok, (s.setReg .DBG_VT_TX (v &&& 0x07FFFFFFFFFFFFFF#64) 0 k).setFld F.DBG_VT_STAT_TXFULL 1 0 k)

/-- R473: master 329 reads the TX entry; core k may look at it; an inspect read does not empty it. -/
def State.vtTxRead (s : State) (k : Nat) (mid : MasterId) (inspect : Bool) : Status × Word × State :=
  if mid = 329 ∧ 1 ≤ s.dbgLevel then
    let v := s.reg .DBG_VT_TX 0 k
    (.ok, v, if inspect then s else (s.setReg .DBG_VT_TX 0 0 k).setFld F.DBG_VT_STAT_TXFULL 0 0 k)
  else if mid.toNat = 320 + k then (.ok, s.reg .DBG_VT_TX 0 k, s)
  else (.edeny, 0, s)

/-- R473: master 329 writes core k's RX entry. -/
def State.vtRxWrite (s : State) (k : Nat) (mid : MasterId) (v : Word) : Status × State :=
  if mid ≠ 329 ∨ s.dbgLevel = 0 then (.edeny, s)
  else if fldOf F.DBG_VT_RX_N v = 0 then (.ok, s)
  else if s.flag F.DBG_VT_STAT_RXFULL 0 k then (.ok, s.raise F.DBG_VT_STAT_RXOVF 0 k)
  else
    let s := (s.setReg .DBG_VT_RX (v &&& 0x07FFFFFFFFFFFFFF#64) 0 k).setFld F.DBG_VT_STAT_RXFULL 1 0 k
    (.ok, if s.flag F.DBG_VT_STAT_IEN 0 k then s.pendIrq (270 + k) else s)

/-- R473: core k reads its RX entry. -/
def State.vtRxRead (s : State) (k : Nat) (mid : MasterId) (inspect : Bool) : Status × Word × State :=
  if mid.toNat = 320 + k then
    let v := s.reg .DBG_VT_RX 0 k
    (.ok, v, if inspect then s else (s.setReg .DBG_VT_RX 0 0 k).setFld F.DBG_VT_STAT_RXFULL 0 0 k)
  else if mid = 329 ∧ 1 ≤ s.dbgLevel then (.ok, s.reg .DBG_VT_RX 0 k, s)
  else (.edeny, 0, s)

/-! ### Performance monitors (R476 to R480) -/

/-- R29: kinds of monitor. -/
inductive PmonKind where
  | router | dram | slice | cluster | bridge
  deriving DecidableEq, Repr

/-- R29: the kind of PMON instance i. -/
def pmonKind (i : Nat) : PmonKind :=
  if i < 64 then .router else if i < 76 then .dram else if i < 332 then .slice else if i < 396 then .cluster else .bridge

/-- R33: root periods per cycle of the monitor's clock. -/
def pmonDiv (i : Nat) : Nat := if pmonKind i = .slice then 8 else 4

/-- R29: the domain of the monitor's block; none: NET. -/
def pmonDom (i : Nat) : Option Nat :=
  match pmonKind i with
  | .router => none
  | .dram => some (domDM (i - 64))
  | .slice => some (domSL ((i - 76) / 4))
  | .cluster => some (domCL (i - 332))
  | .bridge => some (domSB (i - 396))

/-- The monitor's block is powered. -/
def State.pmonOn (s : State) (i : Nat) : Bool := match pmonDom i with | none => true | some d => s.domOn d

/-- PMON_CYC now. -/
def State.pmonCyc (s : State) (i : Nat) : Word :=
  let c := s.reg .PMON_CYC i
  if s.pmonCounts i then c + BitVec.ofNat 64 (s.now / pmonDiv i - s.dbg.cycAt.get i 0 / pmonDiv i) else c

/-- Bring PMON_CYC up to date. -/
def State.pmonSync (s : State) (i : Nat) : State :=
  (s.setReg .PMON_CYC (s.pmonCyc i) i).modDbg (fun d => { d with cycAt := d.cycAt.set i s.now 0 })

/-- R476: the events of each kind of instance. -/
def pmonEventGood (i evt : Nat) : Bool :=
  decide (evt ≤ 6) || match pmonKind i with
    | .router => evt == 0x10 || evt == 0x11
    | .dram => decide (0x20 ≤ evt ∧ evt ≤ 0x26)
    | .slice => decide (0x30 ≤ evt ∧ evt ≤ 0x34)
    | .cluster => decide (0x40 ≤ evt ∧ evt ≤ 0x47)
    | .bridge => decide (0x50 ≤ evt ∧ evt ≤ 0x54)

/-- R480: PMON_COMMIT.GO. -/
def State.pmonCommit (s : State) (i : Nat) : State :=
  let bad := (List.range 8).any (fun j =>
      !(pmonEventGood i (s.sfld F.PMON_EVT_EVT i j)) || (decide (64 ≤ i) && s.sfld F.PMON_EVT_PORT i j != 0)) ||
    s.sfld F.PMON_FMID_PRIV i == 3 || s.sfld F.PMON_FMID_CLASS i == 3 ||
    decide (s.sfld F.PMON_FHI_ADDR i < s.sfld F.PMON_FLO_ADDR i)
  if bad then s.raise F.PMON_STATUS_CFGERR i else s.commitBlock .PMON i

/-- R476: every counter and PMON_CYC := 0. -/
def State.pmonClear (s : State) (i : Nat) : State :=
  let s := s.forAll (List.range 8) (fun acc j => acc.setFld F.PMON_CNT_COUNT 0 i j)
  (s.setReg .PMON_CYC 0 i).modDbg (fun d => { d with cycAt := d.cycAt.set i s.now 0 })

/-- R477: a packet passes the filter of an instance. -/
def State.pmonPasses (s : State) (i : Nat) (mid : MasterId) (rt inspect : Bool) (a : Nat) : Bool :=
  let fmask := BitVec.ofNat 10 (s.fld F.PMON_FMID_FMASK i)
  let dbg := mid == 329 || inspect
  (mid ^^^ BitVec.ofNat 10 (s.fld F.PMON_FMID_FMID i)) &&& fmask == 0 &&
    (match s.fld F.PMON_FMID_PRIV i with | 0 => true | 1 => !dbg | _ => dbg) &&
    (match s.fld F.PMON_FMID_CLASS i with | 0 => true | 1 => !rt | _ => rt) &&
    decide (s.fld F.PMON_FLO_ADDR i ≤ a ∧ a ≤ s.fld F.PMON_FHI_ADDR i)

/-- R478: clock frequency of the instance's block in Hz. -/
def pmonHz (i : Nat) : Nat := 6400000000 / pmonDiv i

/-- R478: the instance closes a window: each port's bytes and rate are written and WINF is set. -/
def State.pmonWindowClose (s : State) (i : Nat) (bytes : List Nat) : State :=
  let win := s.fld F.PMON_WIN_WIN i
  if win = 0 ∨ !(s.pmonCounts i) then s
  else
    let ports := if i < 64 then 8 else 1
    let s := s.forAll (List.range ports) (fun acc p =>
      let b := min (bytes.getD p 0) (2 ^ 32 - 1)
      let rate := min (b * 8 * pmonHz i / win / 1000000) (2 ^ 32 - 1)
      (acc.setFld F.PMON_BW_BYTES b i p).setFld F.PMON_BW_MBPS rate i p)
    let s := s.raise F.PMON_STATUS_WINF i
    if s.flag F.PMON_CTL_IEN i then s.pendIrq 261 else s

/-- R479: the effect of a global command on one monitor. -/
def State.pmonDo (s : State) (i op : Nat) : State :=
  match op with
  | 0 => (s.pmonSync i).setFld F.PMON_STATUS_FROZEN 1 i
  | 1 => (s.pmonSync i).setFld F.PMON_STATUS_FROZEN 0 i
  | 2 =>
    let s := s.pmonSync i
    (s.forAll (List.range 8) (fun acc j => acc.setFld F.PMON_SNAP_COUNT (acc.fld F.PMON_CNT_COUNT i j) i j)).setReg .PMON_SNAPCYC (s.reg .PMON_CYC i) i
  | _ => s.pmonClear i

/-- R29, R479: the monitors at router r's position. -/
def pmonsAt (r : Nat) : List Nat :=
  [r] ++ ((List.range 12).filter (fun k => (dramPort k).1 == r)).map (64 + ·) ++ (List.range 4).map (fun j => 76 + 4 * r + j) ++
    [332 + r] ++ ((List.range 16).filter (fun b => bridgeRouter b == r)).map (396 + ·)

/-- R479: DBG_PMCMD.GO: refused when T < TIME + 4,800; otherwise one RT write goes to every router NI, which hands it to the
monitors at its position; one that does not accept RT requests answers EDEAD, and PMFAIL counts it. -/
def State.pmonSend (s : State) (op : Nat) : State :=
  let t := (s.reg .DBG_PMTIME).toNat
  if t < s.now + 4800 then s.raise F.DBG_STATUS_CFGERR
  else s.forAll (List.range 64) (fun acc r =>
    if acc.flag F.NOC_NI_RTRX r 0 then
      acc.modDbg (fun d => { d with cmds := (pmonsAt r).foldl (fun tb i =>
        tb.set i (tb.get i [] ++ [{ op := op, t := roundUp 8 t }]) []) d.cmds })
    else acc.count F.DBG_STATUS_PMFAIL)

/-- R479: monitor i acts on the oldest command that has reached it, at the first edge of its clock at or after T; one that
reached it after T does not act and sets LATE. -/
def State.globalCommandAct (s : State) (i : Nat) (late : Bool) : State :=
  match s.dbg.cmds.get i [] with
  | [] => s
  | c :: rest =>
    let s := s.modDbg (fun d => { d with cmds := d.cmds.set i rest [] })
    if !(s.pmonOn i) then s
    else if late then s.raise F.PMON_STATUS_LATE i
    else (s.atTime c.t).pmonDo i c.op

/-- R472: a watch freezes every monitor, at the first multiple of 8 root periods at least 64 after the match. -/
def State.watchFreeze (s : State) : State :=
  match s.dbg.freezes with
  | [] => s
  | t :: rest =>
    let s := (s.atTime t).modDbg (fun d => { d with freezes := rest })
    s.forAll ((List.range 412).filter s.pmonOn) (fun acc i => acc.pmonDo i 0)

/-- R480: PMON_CTL is written. -/
def State.writePmonCtl (s : State) (i : Nat) (v : Word) : State :=
  let s := s.pmonSync i
  let s := (s.setFld F.PMON_CTL_RUN (fldOf F.PMON_CTL_RUN v) i).setFld F.PMON_CTL_IEN (fldOf F.PMON_CTL_IEN v) i
  if fldOf F.PMON_CTL_CLR v = 1 then s.pmonClear i else s

end Sys2Proof.Machine
end

