-- ==== Sys2Proof/Machine/Mbana.lean ====
section
/-!
DEFINITION. Mbana's core (chapter 16): persistent settings (R410, R411), the transports and the intake queue (R396 to R398,
R404), the checks of a packet (R400 to R403), and the boot (R395, R413).
-/
namespace Sys2Proof.Machine

open Sys2Proof

/-- Mbana takes and executes commands (R395, R413). -/
def State.mbServes (s : State) : Bool := s.mb.run == .firmware || s.mb.run == .rom

/-- The RTC never runs behind a moment the part has reached (log entry 4). -/
def State.atRtc (s : State) (t : Nat) : State := if s.rtc < t then { s with rtc := t } else s

/-! ### Sensors and thresholds (R406, R407) -/

/-- R406: the nominal value of a voltage sensor in mV. -/
def State.nominal (s : State) (n : Nat) : Nat :=
  if n < 44 then s.mb.vcore
  else if n < 46 then 950
  else if n < 48 then 900
  else if n < 50 then 1200
  else if n < 51 then 1000
  else if n < 53 then 1200
  else 1800

/-- The reading of a sensor. -/
def State.reading (s : State) (n : Nat) : Int := if n < 40 then s.temps.get n 0 else s.mb.sens.get n 0

/-- R406, R411: WARN or CRIT of a sensor: a temperature in 1/16 °C, or a distance from nominal in mV or ppm. -/
def State.threshold (s : State) (n : Nat) (crit : Bool) : Int :=
  match s.mb.settings.get (0x100 + 2 * n + bit crit) none with
  | some v => (v.setWidth 32).toInt
  | none =>
    if n < 40 then (if crit then 1600 else 1520)
    else if n < 56 then ((s.nominal n * (if crit then 5 else 3) / 100 : Nat) : Int)
    else if crit then 1000 else 100

/-- R407: a reading beyond a threshold. -/
def State.beyond (s : State) (n : Nat) (v t : Int) : Bool :=
  if n < 40 then decide (t < v)
  else if n < 56 then decide (t < ((v - (s.nominal n : Int)).natAbs : Int))
  else decide (t < (v.natAbs : Int))

/-- R407: the hardware limit of a CRIT. -/
def State.critAllowed (s : State) (n : Nat) (t : Int) : Bool :=
  if n < 40 then decide (t ≤ 1680)
  else if n < 56 then decide (100 * t ≤ ((8 * s.nominal n : Nat) : Int))
  else true

/-! ### Persistent settings (R410, R411) -/

/-- R411: the resource of a settings key; none for an unknown key and for KEYCTR. -/
def keyResource (k : Nat) : Option Nat :=
  if k ∈ [0x01, 0x02, 0x03, 0x04, 0x30, 0x31, 0x50, 0x51, 0x60, 0x61, 0x62, 0x80] then some 0
  else if k ∈ [0x10, 0x11, 0x12] then some 4
  else if k ∈ [0x20, 0x21, 0x40, 0x41, 0x42, 0x43, 0xA0, 0xA1] then some 6
  else if k ∈ [0x70, 0x71, 0x72] then some 7
  else if k ∈ [0x90, 0x91] then some 3
  else if 0x100 ≤ k ∧ k < 0x180 then some 2
  else none

/-- R411: the key exists. -/
def keyKnown (k : Nat) : Bool := (keyResource k).isSome || k == 0xF0

/-- R411: the range of a key that SET may write; false for a read-only key. -/
def State.keyInRange (s : State) (k v : Nat) : Bool :=
  let rng (lo hi : Nat) : Bool := decide (lo ≤ v ∧ v ≤ hi)
  if k ∈ [0x01, 0x03, 0x04, 0x43] then true
  else if k = 0x02 then rng 0 32
  else if k = 0x10 then rng 8 80
  else if k = 0x11 ∨ k = 0x21 then rng 0 86400
  else if k = 0x12 then rng 100 100000
  else if k = 0x20 then rng 16 480
  else if k = 0x30 ∨ k = 0x31 then rng 0 255
  else if k = 0x40 ∨ k = 0x60 ∨ k = 0x72 then rng 0 1
  else if k = 0x41 then rng 880 920 && decide (v < s.setting 0x42)
  else if k = 0x42 then rng 880 920 && decide (s.setting 0x41 < v)
  else if k = 0x50 then rng 1 64
  else if k = 0x51 then rng 1 65535
  else if k = 0x61 ∨ k = 0x62 then rng 1 255
  else if k = 0x70 ∨ k = 0x71 then rng 0 15
  else if k = 0x80 then rng 60 86400
  else if k = 0xA0 then rng 0 2
  else if k = 0xA1 then rng 0 4
  else if 0x100 ≤ k ∧ k < 0x180 then
    k % 2 == 0 || s.critAllowed ((k - 0x100) / 2) ((BitVec.ofNat 32 v).toInt)
  else false

/-- R410: the value of a key as GET returns it. -/
def State.keyValue (s : State) (k : Nat) : Word :=
  if 0x100 ≤ k then BitVec.ofInt 64 (s.threshold ((k - 0x100) / 2) (k % 2 == 1)) else BitVec.ofNat 64 (s.setting k)

/-- R410: flash offset of a settings copy. -/
def mbSetBase (n : Nat) : Nat := 0x00A00000 + 0x10000 * n

/-- R410: a settings copy is valid. -/
def State.mbSetValid (s : State) (n : Nat) : Bool :=
  let b := mbSetBase n
  s.setWord b 0 == 0x4D42535400010000#64 && (s.setWord b 1).extractLsb' 32 32 == 0#32 &&
    decide ((s.setWord b 2).toNat ≤ 2048) && s.setWord b 3 == 0#64 &&
    leNat (s.flashBytes (b + 0x81E4) 4) == (crc32c (s.flashBytes b 0x81E4)).toNat

/-- R233, R410: the settings copy in force: 0, 1, or 2 where neither is valid. -/
def State.mbSetChoice (s : State) : Nat :=
  let a := s.mbSetValid 0
  let b := s.mbSetValid 1
  if a ∧ b then
    let d := ((s.setWord (mbSetBase 0) 1).setWidth 32 - (s.setWord (mbSetBase 1) 1).setWidth 32 : BitVec 32)
    if d.toNat < 2 ^ 31 then 0 else 1
  else if a then 0
  else if b then 1
  else 2

/-- R410: the settings are read from the copy in force. -/
def State.loadSettings (s : State) : State :=
  let n := s.mbSetChoice
  if n = 2 then s.modMb (fun m => { m with settings := {}, cert := [] })
  else
    let b := mbSetBase n
    let ents := (List.range (s.setWord b 2).toNat).map (fun i =>
      ((s.setWord (b + 0x40 + 16 * i) 0).toNat % 65536, s.setWord (b + 0x40 + 16 * i) 1))
    let c := s.flashBytes (b + 0x8040) 420
    s.modMb (fun m => { m with
      settings := ents.foldl (fun acc e => acc.set e.1 (some e.2) none) {},
      cert := if c.all (· == 0) then [] else c })

/-- R234, R410: the settings are written into the copy that is not in force, with the next sequence number. -/
def State.saveSettings (s : State) : State :=
  let n := s.mbSetChoice
  let dst := if n = 0 then 1 else 0
  let seq : Nat := if n = 2 then 1 else ((s.setWord (mbSetBase n) 1).toNat + 1) % 2 ^ 32
  let ents := (s.mb.settings.cells.filterMap (fun c => c.2.map (fun v => (c.1, v)))).take 2048
  let body := natBytes 8 0x4D42535400010000 ++ natBytes 8 seq ++ natBytes 8 ents.length ++ natBytes 40 0 ++
    ents.flatMap (fun e => natBytes 8 e.1 ++ wordBytes e.2)
  let body := body ++ natBytes (0x8040 - body.length) 0 ++ s.mb.cert ++ natBytes (420 - s.mb.cert.length) 0
  let b := mbSetBase dst
  { s with flash := s.flash.clear (fun a => decide (b ≤ a ∧ a < b + 0x10000)) }.setFlash b (body ++ leBytes 4 (crc32c body))

/-- R410: a key takes a value, and the settings are written. -/
def State.setKey (s : State) (k : Nat) (v : Word) : State :=
  (s.modMb (fun m => { m with settings := m.settings.set k (some v) none })).saveSettings

/-! ### Transports (R396 to R398) -/

/-- R397: the port's MAC address: 0x02, then UID[39:0]. -/
def macAddr : BitVec 48 := 0x02#8 ++ Config.deviceUid.extractLsb' 0 40

/-- R397: the IPv6 link-local address of a unique identity, from the MAC address in modified EUI-64 form. -/
def linkLocalOf (uid : BitVec 128) : BitVec 128 :=
  0xFE80000000000000#64 ++ ((0x00#8 ++ uid.extractLsb' 24 16) ++ (0xFFFE#16 ++ uid.extractLsb' 0 24))

/-- R397: the part's IPv6 link-local address. -/
def linkLocal : BitVec 128 := linkLocalOf Config.deviceUid

/-- R397: the static IPv6 address; 0: off. -/
def State.ip6 (s : State) : BitVec 128 := BitVec.ofNat 64 (s.setting 0x03) ++ BitVec.ofNat 64 (s.setting 0x04)

/-- R397: an IPv4 destination is the port's. -/
def State.ownIp4 (s : State) (a : BitVec 32) : Bool := s.setting 0x01 % 2 ^ 32 != 0 && a.toNat == s.setting 0x01 % 2 ^ 32

/-- R397: an IPv6 destination is the port's. -/
def State.ownIp6 (s : State) (a : BitVec 128) : Bool := a == linkLocal || (s.ip6 != 0 && a == s.ip6)

/-- The management port answers (R395, R397). -/
def State.portAnswers (s : State) : Bool := s.mb.portUp && s.mbServes

/-- The management port sends a message. -/
def State.portSend (s : State) (m : PortMsg) : State := s.modMb (fun x => { x with sent := x.sent ++ [m] })

/-- R396, R404: the place of a transport in the order of packets that complete in one cycle: port, SPI, bridges, cores. -/
def viaOrder (via : Nat) : Nat := if via < 2 then via else if via < 10 then 100 + via else via

/-- R400: the first check, and the fields of a packet: its version and the packet. -/
def parsePacket (via peer : Nat) (bs : List Byte) : Option (Nat × MbPkt) :=
  let n (off len : Nat) : Nat := leNat ((bs.drop off).take len)
  if n 0 2 = 0x424D ∧ n 3 1 = 0 ∧ n 8 2 ≤ 1024 ∧ bs.length = 20 + n 8 2 ∧
      n (16 + n 8 2) 4 = (crc32c (bs.take (16 + n 8 2))).toNat then
    some (n 2 1, { via := via, peer := peer, op := n 4 2, seq := n 6 2, token := n 12 4, params := (bs.drop 16).take (n 8 2) })
  else none

/-- R405: the opcodes. -/
def mbOpcodes : List Nat :=
  [0x100, 0x101, 0x102, 0x103, 0x104, 0x105, 0x106, 0x107, 0x108, 0x109, 0x10A, 0x200, 0x201, 0x202, 0x203, 0x204, 0x205,
   0x206, 0x207, 0x208, 0x209, 0x300, 0x301, 0x302, 0x400, 0x401, 0x402, 0x403, 0x404, 0x405, 0x500, 0x501, 0x502, 0x503,
   0x600, 0x601, 0x602, 0x603, 0x604, 0x700, 0x701, 0x702, 0x703, 0x704, 0x705, 0x800, 0x801, 0x802, 0x803, 0x804, 0x805,
   0x806, 0x807]

/-- n parameter bytes from byte off, as a little-endian number. -/
def MbPkt.num (p : MbPkt) (off n : Nat) : Nat := leNat ((p.params.drop off).take n)

/-- n parameter bytes from byte off. -/
def MbPkt.sub (p : MbPkt) (off n : Nat) : List Byte := (p.params.drop off).take n

/-- R402, R405: the resource that a command changes. -/
def MbPkt.resource (p : MbPkt) : Option Nat :=
  let o := p.op
  if o = 0x102 ∨ o = 0x103 then (if p.num 0 1 < 8 then some (p.num 0 1) else none)
  else if o = 0x105 then keyResource (p.num 0 2)
  else if o ∈ [0x104, 0x108, 0x109] then some 0
  else if 0x201 ≤ o ∧ o ≤ 0x209 then some 1
  else if o = 0x301 then some 2
  else if 0x400 ≤ o ∧ o ≤ 0x404 then some 3
  else if 0x500 ≤ o ∧ o ≤ 0x502 then some 4
  else if 0x601 ≤ o ∧ o ≤ 0x604 then some 5
  else if o ∈ [0x700, 0x702, 0x703, 0x704, 0x705] then some 6
  else if 0x802 ≤ o ∧ o ≤ 0x807 then some 7
  else none

/-- R404: the targets that a command names: a domain, sensor, settings key, channel, slot or region, numbered by kind. -/
def MbPkt.targets (p : MbPkt) : List Nat :=
  let o := p.op
  if o = 0x700 then [p.num 0 2]
  else if o = 0x104 then (match scopeDomain (p.num 0 2) (p.num 2 2) with | some d => [d] | none => [0xFFFF])
  else if o = 0x500 ∨ o = 0x501 then [domSMP]
  else if o = 0x301 then [0x20000 + p.num 0 1]
  else if o = 0x105 then
    (if 0x100 ≤ p.num 0 2 ∧ p.num 0 2 < 0x180 then [0x20000 + (p.num 0 2 - 0x100) / 2, 0x30000 + p.num 0 2]
     else [0x30000 + p.num 0 2])
  else if o = 0x703 then ((List.range 12).filter (fun k => (p.num 0 2).testBit k)).map (0x40000 + ·)
  else if o = 0x206 ∨ o = 0x209 then [0x50000 + p.num 0 1]
  else if o = 0x108 ∨ o = 0x109 then [0x60000 + p.num 0 1]
  else []

/-- R404: two packets of one cycle of which the later one is not executed. -/
def twins (a b : MbPkt) : Bool :=
  a.cyc == b.cyc && a.token == b.token && a.resource.isSome && a.resource == b.resource &&
    a.targets.any (fun x => b.targets.contains x)

/-- R404: insert a packet behind the packets of earlier cycles and, in its own cycle, by the order of the transports. -/
def insertPacket (p : MbPkt) : List MbPkt → List MbPkt
  | [] => [p]
  | q :: t =>
    if q.cyc = p.cyc ∧ viaOrder p.via < viaOrder q.via then p :: (q :: t).map (fun x => if twins x p then { x with twin := true } else x)
    else q :: insertPacket (if twins q p then { p with twin := true } else p) t

/-- R398: a mailbox's packet is taken and executes. -/
def State.mailTaken (s : State) (via : Nat) : State :=
  if via < 2 then s else (s.setFld F.MGT_MBSTAT_PEND 0 (via - 2)).setFld F.MGT_MBSTAT_BUSY 1 (via - 2)

/-- A reply to a packet. -/
def MbPkt.reply (p : MbPkt) (st : Nat) (data : List Byte) : MbReply :=
  { via := p.via, peer := p.peer, op := p.op, seq := p.seq, token := p.token, status := st, data := data }

/-- R399, R400, R404: the bytes of a command arrive on a transport. same: their receipt completes in the cycle of the packet
before. -/
def State.intake (s : State) (via peer : Nat) (bs : List Byte) (same : Bool) : State :=
  match parsePacket via peer bs with
  | none =>
    if via < 2 then s else (s.setFld F.MGT_MBSTAT_PEND 0 (via - 2)).raise F.MGT_MBSTAT_REJECT (via - 2)
  | some (ver, p) =>
    let s := if same then s else s.modMb (fun m => { m with cyc := m.cyc + 1 })
    let p := { p with cyc := s.mb.cyc }
    if ver ≠ 1 ∨ p.op ∉ mbOpcodes then (s.mailTaken via).sendReply (p.reply 3 [])
    else if 4 ≤ (s.mb.queue.filter (fun q => q.via == via)).length then (s.mailTaken via).sendReply (p.reply 1 [])
    else s.modMb (fun m => { m with queue := insertPacket p m.queue })

/-- R397: a UDP datagram arrives: addresses, port, whether it is a fragment, its checksum (0: good, 1: bad, 2: zero). -/
def State.udpDatagram (s : State) (v6 : Bool) (dst : BitVec 128) (port : Nat) (frag : Bool) (ck peer : Nat) (bs : List Byte)
    (same : Bool) : State :=
  let own := if v6 then s.ownIp6 dst else s.ownIp4 (dst.setWidth 32)
  if !s.portAnswers ∨ !own ∨ frag ∨ port ≠ 4950 ∨ ck = 1 ∨ (ck = 2 ∧ v6) then s else s.intake 0 peer bs same

/-- R397: ARP. -/
def State.arpRequest (s : State) (ip : BitVec 32) (src : BitVec 48) : State :=
  if s.portAnswers ∧ s.ownIp4 ip then s.portSend (.arp ip src) else s

/-- R397: ICMP echo. -/
def State.icmpEcho (s : State) (v6 : Bool) (dst src : BitVec 128) (payload : List Byte) : State :=
  if !s.portAnswers then s
  else if v6 then (if s.ownIp6 dst then s.portSend (.echo6 src payload) else s)
  else if s.ownIp4 (dst.setWidth 32) then s.portSend (.echo4 (src.setWidth 32) payload) else s

/-- R397: IPv6 neighbour discovery. -/
def State.neighborDiscovery (s : State) (target src : BitVec 128) : State :=
  if s.portAnswers ∧ s.ownIp6 target then s.portSend (.neighbor target src) else s

/-- R397: the management port gains or loses its link partner. -/
def State.managementPortLink (s : State) (up : Bool) : State :=
  s.modMb (fun m => { m with portUp := up && s.flag F.CLK_STATUS_MPLLLOCK })

/-- R396: SPI frame 0x02. A frame that arrives while Mbana boots waits in the slave. -/
def State.spiCommandFrame (s : State) (bs : List Byte) (same : Bool) : State :=
  if !s.io.spis.en ∨ s.mb.run = .safe ∨ s.mb.run = .off then s
  else if s.mbServes then (s.modMb (fun m => { m with spiReply := [] })).intake 1 0 bs same
  else { s with io := { s.io with spis := { s.io.spis with rx := bs } } }

/-- R396: SPI frame 0x03. -/
def State.spiReplyFrame (s : State) : State :=
  if s.io.spis.en ∧ s.mbServes then s.modMb (fun m => { m with spiOut := m.spiReply }) else s.modMb (fun m => { m with spiOut := [] })

/-- R396, R394: SPI frame 0x05, the status byte. -/
def State.spiStatusFrame (s : State) : State :=
  let v := bit (!s.mb.spiReply.isEmpty) + 2 * bit (s.mb.queue.any (fun q => q.via == 1)) + 4 * bit (s.mb.run == .safe)
  if s.io.spis.en then s.modMb (fun m => { m with spiOut := natBytes 1 v }) else s

/-- The packet in a mailbox's request buffer: as long as its header says (R398, R399). -/
def State.mboxPacket (s : State) (j : Nat) : List Byte :=
  s.mboxBytes j 0 (20 + min 1024 (leNat (s.mboxBytes j 8 2)))

/-- R398: MGT_MBCTL.GO. A packet submitted while Mbana boots stays pending (R395). -/
def State.mailboxGo (s : State) (j : Nat) (same : Bool) : State :=
  if s.flag F.MGT_MBSTAT_PEND j ∨ s.flag F.MGT_MBSTAT_BUSY j then s
  else
    let s := ((s.setFld F.MGT_MBSTAT_DONE 0 j).setFld F.MGT_MBSTAT_REJECT 0 j).setFld F.MGT_MBSTAT_PEND 1 j
    if s.mbServes then s.intake (2 + j) 0 (s.mboxPacket j) same else s

/-! ### Execution (R400 to R404) -/

/-- What follows a command's body: its reply goes out now, was sent or will be sent by the operation, or the packet stays at
the front of the queue until the operation it waits for is done. -/
inductive CmdEnd where
  | reply | held | again
  deriving DecidableEq, Repr

/-- The result of a command's body. -/
structure CmdRes where
  st : Nat := 0
  data : List Byte := []
  state : State
  fin : CmdEnd := .reply

/-- R400, check 3: the opcode is allowed in the life-cycle state, in the minimal ROM service (R413) and on the transport. -/
def State.opAllowed (s : State) (p : MbPkt) : Bool :=
  let o := p.op
  let lc := s.fuses.lc
  if lc = 4 then o == 0x100 || o == 0x101 || o == 0x800
  else if s.mb.run = .rom ∧ o / 256 ≠ 1 ∧ o / 256 ≠ 4 ∧ o / 256 ≠ 8 then false
  else if o = 0x10A then p.via == 10 + p.num 0 1
  else if o = 0x802 then decide (p.via < 2) && decide (lc ≤ 1)
  else if o = 0x803 then lc == 1
  else if o = 0x804 then lc == 1
  else if o = 0x805 then lc == 2
  else true

/-- R403: the ownership check. -/
def State.owned (s : State) (p : MbPkt) : Bool :=
  match p.resource with
  | none => true
  | some r =>
    match s.mb.owners.get r none with
    | some o => o.token == p.token
    | none => p.token != 0

/-- R400, R403, R404: the status with which a packet is refused; 0 where it passes. prm is the check of the parameters, rdy
the checks of readiness and of running operations (0, 1 or 9). -/
def State.verdict (s : State) (p : MbPkt) (prm : State → MbPkt → Bool) (rdy : State → MbPkt → Nat) : Nat :=
  if p.twin then 6
  else if !(s.opAllowed p) then 2
  else if !(prm s p) then 4
  else if !(s.owned p) then 5
  else rdy s p

/-- R400: the stored reply of a repeated packet. -/
def State.storedReply (s : State) (p : MbPkt) : Option MbReply :=
  match s.mb.last.get p.via none with
  | some r => if r.token = p.token ∧ r.op = p.op ∧ r.seq = p.seq then some { r with peer := p.peer } else none
  | none => none

/-- R400, R404: Mbana executes the packet at the front of its queue, whose opcode is op. -/
def State.runCmd (s : State) (op : Nat) (prm : State → MbPkt → Bool) (rdy : State → MbPkt → Nat)
    (run : State → MbPkt → CmdRes) : State :=
  match s.mb.queue with
  | [] => s
  | p :: rest =>
    if !s.mbServes ∨ p.op ≠ op then s
    else
      let t := (s.modMb (fun m => { m with queue := rest })).mailTaken p.via
      match s.storedReply p with
      | some r => t.sendReply r
      | none =>
        let v := s.verdict p prm rdy
        if v ≠ 0 then t.sendReply (p.reply v [])
        else
          let r := run t p
          match r.fin with
          | .reply => r.state.completeCmd (p.reply r.st r.data) p.resource.isSome p.params
          | .held => r.state
          | .again => r.state.modMb (fun m => { m with queue := p :: m.queue })

/-- A command without conditions of readiness. -/
def noWait (_ : State) (_ : MbPkt) : Nat := 0

/-- LEN is exactly n. -/
def lenIs (n : Nat) (_ : State) (p : MbPkt) : Bool := p.params.length == n

/-! ### Firmware images (R412, R413) -/

/-- R231: flash offset of a firmware slot. -/
def fwBase (slot : Nat) : Nat := 0x00200000 + 0x400000 * slot

/-- The version of the image in a slot. -/
def State.fwVersion (s : State) (slot : Nat) : Nat := leNat (s.flashBytes (fwBase slot + 4) 4)

/-- The body hash that the header of a slot names (header layout: log entry 44). -/
def State.fwHash (s : State) (slot : Nat) : List Byte := s.flashBytes (fwBase slot + 0x40) 64

/-- R412: the image in a slot is valid. -/
def State.fwValid (s : State) (slot : Nat) : Bool :=
  let b := fwBase slot
  let len := leNat (s.flashBytes (b + 8) 4)
  let pub := s.flashBytes (b + 0x80) 132
  let kh := sha512 pub
  leNat (s.flashBytes b 4) == 0x4D424657 && decide (len ≤ 0x400000 - 512) &&
    (kh == Config.onhildKey || (decide (1 ≤ s.fuses.lc) && s.fuses.fwKey == some kh)) &&
    sha512 (s.flashBytes (b + 512) len) == BitVec.ofNat 512 (beNat (s.fwHash slot)) &&
    ecdsaVerify (BitVec.ofNat 1056 (beNat pub)) (sha512 (s.flashBytes b 128))
      (BitVec.ofNat 1056 (beNat (s.flashBytes (b + 0x104) 132)))

/-- FWTRIAL's state and slot (R411). -/
def State.trialState (s : State) : Nat := s.setting 0x91 % 4
def State.trialSlot (s : State) : Nat := s.setting 0x91 / 256 % 2

/-- R413: the boot ROM settles the trial: the slot it wants, and whether a trial is rolled back. -/
def State.bootTrial (s : State) : Nat × Bool × State :=
  if s.trialState = 1 then (s.trialSlot, false, s.setKey 0x91 (BitVec.ofNat 64 (2 + 256 * s.trialSlot)))
  else if s.trialState = 2 then (s.setting 0x90 % 2, true, s.setKey 0x91 0)
  else (s.setting 0x90 % 2, false, s)

/-! ### Wipes of a life-cycle transition (R417) -/

/-- R417, step 5: the secure bank (cause 3), every slice, Mbana's SRAM outside its boot area, every sector and every DRAM
channel are wiped. -/
def State.lcWipe (s : State) : State :=
  let s := (s.flushLog.bankWipe 3)
  let s := s.forAll ((List.range 256).filter s.sliceOn) State.startSliceFill
  let s := s.forAll (List.range 64) (fun acc x => (acc.clearSector x).modSector x (fun c => { c with src := {} }))
  let s := s.forAll ((List.range 12).filter (fun k => s.domOn (domDM k) && s.dmcState k == dmcReady)) (fun acc k =>
    (acc.clearChannel k).setDmcState k dmcFill)
  s.modMb (fun m =>
    { run := m.run, cause := m.cause, slot := m.slot, bootRtc := m.bootRtc, cyc := m.cyc, portUp := m.portUp, sent := m.sent,
      spiReply := m.spiReply, spiOut := m.spiOut, vcore := m.vcore, tamperOn := m.tamperOn, settings := m.settings,
      cert := m.cert, sens := m.sens, wipeSeen := true, confirmBy := m.confirmBy })

/-! ### Reboot (R394, R395, R413, R417) -/

/-- R395: packets that waited for the end of the reboot are taken: the SPI slave's, and the mailboxes' in their order. -/
def State.takeWaiting (s : State) : State :=
  let s := if s.io.spis.rx = [] then s else
    let bs := s.io.spis.rx
    { s with io := { s.io with spis := { s.io.spis with rx := [] } } }.intake 1 0 bs false
  s.forAll ((List.range 24).map (fun i => (i + 8) % 24)) (fun acc j =>
    if acc.flag F.MGT_MBSTAT_PEND j ∧ !(acc.mb.queue.any (fun q => q.via == 2 + j)) then acc.intake (2 + j) 0 (acc.mboxPacket j) true
    else acc)

/-- R442, steps 6 and 7: what the boot ROM and Mbana do at a power-on: DMC_ILV from the settings with GO, the key counter, and
the SMP domain. -/
def State.powerOnBoot (s : State) : State :=
  let v : Word := BitVec.ofNat 64 (s.setting 0xA0 * 16 + s.setting 0xA1 + 256)
  let s := (s.writeIlv 0 v).2
  let s := s.modMb (fun m => { m with keyNext := s.setting 0xF0 })
  if s.smpOn ∨ (s.opOn domSMP).isSome then s else s.startOp { dom := domSMP, kind := .on }

/-- R395, R413: Mbana finishes its boot: settings, firmware slot, records, and a life-cycle wipe that was interrupted. -/
def State.rebootComplete (s : State) : State :=
  if s.mb.run ≠ .booting then s
  else
    let s := s.loadSettings
    let q := s.bootTrial
    let want := q.1
    let s := q.2.2
    let pick : Option Nat := if s.fwValid want then some want else if s.fwValid (1 - want) then some (1 - want) else none
    let s := s.modMb (fun m => { m with
      run := if pick.isSome then .firmware else .rom, slot := pick.getD want, bootRtc := s.rtc,
      confirmBy := if s.trialState = 2 then some (s.rtc + 600) else none })
    let s := s.logEvent 0x01 (BitVec.ofNat 64 (s.mb.slot + s.fwVersion s.mb.slot * 2 ^ 32)) (BitVec.ofNat 64 (s.fld F.RST_CAUSE_LAST))
    let s := if s.mb.cause = 1 then s.logEvent 0x0C (BitVec.ofNat 64 (s.fld F.LCS_STATUS_LSMIS)) else s
    let s := if q.2.1 then s.logEvent 0x09 (BitVec.ofNat 64 (s.fwVersion s.mb.slot)) (BitVec.ofNat 64 s.mb.slot) else s
    let s := if s.fuses.lcLogged < s.fuses.lc then
        let u := s.lcWipe.logEvent 0x07 (BitVec.ofNat 64 (s.fuses.lcLogged + s.fuses.lc * 2 ^ 8)) 0 .mbana
        { u with fuses := { u.fuses with lcLogged := u.fuses.lc } }
      else s
    let s := if s.mb.cause = 0 then s.powerOnBoot else s
    let s := s.modMb (fun m => { m with cause := 5 })
    s.loaderStart.takeWaiting

/-- R394: a lockstep mismatch. -/
def State.lockstepMismatch (s : State) : State :=
  if s.mb.run = .off ∨ s.mb.run = .safe then s
  else
    let s := s.count F.LCS_STATUS_LSMIS
    let recent := (s.mb.mism ++ [s.rtc]).filter (fun t => decide (s.rtc ≤ t + 10))
    let s := s.modMb (fun m => { m with mism := recent })
    if 3 ≤ recent.length then (s.modMb (fun m => { m with run := .safe })).raise F.LCS_STATUS_SAFE
    else s.mbReboot 1

end Sys2Proof.Machine
end

