-- ==== Sys2Proof/Machine/MbanaCmd.lean ====
section
/-!
DEFINITION. What each command of R405 does when it is the packet that Mbana executes, with the operations of chapter 16 behind
it: keys (R423), attestation (R421), certificates (R422), images and firmware (R412 to R415), the life cycle (R416, R417).
-/
namespace Sys2Proof.Machine

open Sys2Proof

/-! ### Shared operations -/

/-- The UID as 16 bytes. -/
def uidBytes : List Byte := leBytes 16 Config.deviceUid

/-- R423: Mbana takes the next key number, with KEYCTR written ahead, and derives the key. -/
def State.drawKey (s : State) : BitVec 256 × State :=
  let n := s.mb.keyNext
  let s := if n < s.setting 0xF0 then s else s.setKey 0xF0 (BitVec.ofNat 64 (n + 1024))
  let h := sha512 (beBytes 32 Config.fuseSecretM ++ [0x43#8, 0x4B#8, 0x45#8, 0x59#8] ++ beBytes 8 (BitVec.ofNat 64 n))
  (h.setWidth 256, s.modMb (fun m => { m with keyNext := n + 1 }))

/-- A byte string of 32 bytes as a key in memory order. -/
def keyOfBytes (bs : List Byte) : BitVec 256 := BitVec.ofNat 256 (leNat (bs.take 32))

/-- R422: a certificate is valid. -/
def State.certGood (s : State) (c : List Byte) : Bool :=
  let slot := leNat ((c.drop 148).take 1)
  let issuer := (c.drop 156).take 132
  c.length == 420 && decide (slot < 4) && ((c.drop 149).take 7).all (· == 0) &&
    s.fuses.cfgKeys.get slot none == some (sha512 issuer) &&
    ecdsaVerify (sigOf issuer) (sha512 (c.take 288)) (sigOf ((c.drop 288).take 132))

/-- A fresh ephemeral key: its number, by the counter of free values. -/
def State.newEphemeral (s : State) : Nat × State := (Config.ephemeral s.free, { s with free := s.free + 1 })

/-- R423: a half of a link key agreement: bridge, epoch, ephemeral key, signature by d_I over these, certificate. -/
def State.keyHalf (s : State) (b epoch eph : Nat) : List Byte × State :=
  let body := natBytes 1 b ++ natBytes 1 epoch ++ beBytes 132 (publicKey eph)
  let sig := ecdsaSign identityKey (sha512 body) s.log.signs
  (body ++ beBytes 132 sig ++ s.mb.cert ++ natBytes (420 - s.mb.cert.length) 0, { s with log := { s.log with signs := s.log.signs + 1 } })

/-- R423, R422: a received half is good: its certificate is valid and its subject key verifies the signature. -/
def State.halfGood (s : State) (h : List Byte) : Bool :=
  let cert := (h.drop 266).take 420
  h.length == 686 && s.certGood cert &&
    ecdsaVerify (sigOf ((cert.drop 16).take 132)) (sha512 (h.take 134)) (sigOf ((h.drop 134).take 132))

/-- R423: the agreed keys of an epoch go into the secure bank as bridge b's next keys, and SWP_KEY.NEXT is written. -/
def State.agreeKeys (s : State) (b epoch eph : Nat) (peer : BitVec 1056) : State :=
  let own := s.fld F.SWP_DEVID_ID
  let other := s.fld F.SWP_STATUS_PEERDEV b
  let h := beBytes 64 (sha512 (beBytes 66 (ecdh eph peer) ++ natBytes 1 epoch ++
    natBytes 4 (min own other) ++ natBytes 4 (max own other)))
  let low := keyOfBytes h
  let high := keyOfBytes (h.drop 32)
  let lk : LinkKeys := { s.mb.links.get b {} with
    txNext := if own ≤ other then low else high, rxNext := if own ≤ other then high else low }
  ((s.setLinkKeys b lk).swpKeyNext b 328).2

/-- Erase a range of the flash. -/
def State.eraseFlash (s : State) (base len : Nat) : State :=
  { s with flash := s.flash.clear (fun a => decide (base ≤ a ∧ a < base + len)) }

/-- R231: flash offset of an image slot; 2: golden. -/
def imgBase (slot : Nat) : Nat := if slot = 2 then goldenBase else slotBase slot

def imgSize : Nat := 224 * 2 ^ 20

/-- R234: the settings record is written into the copy that is not in force. -/
def State.writeRecord (s : State) (active fmode tmo ordop dummy : Nat) : State :=
  let n := s.settingsChoice
  let dst := if n = 0 then 0x10000 else 0
  let seq := if n = 2 then 1 else ((s.setWord (0x10000 * n) 1).toNat + 1) % 2 ^ 32
  let body := natBytes 8 0x4353455400010000 ++ natBytes 8 seq ++
    natBytes 8 (fmode + active * 2 ^ 8 + tmo * 2 ^ 16 + ordop * 2 ^ 24 + dummy * 2 ^ 32) ++ natBytes 32 0
  (s.eraseFlash dst 0x10000).setFlash dst (body ++ leBytes 4 (crc32c body) ++ natBytes 4 0)

/-- A register as 8 bytes. -/
def State.regBytes (s : State) (r : RegId) (i : Nat := 0) (j : Nat := 0) : List Byte := wordBytes (s.reg r i j)

/-- R195, R200: SMP_SEAL as it reads. -/
def State.smpSealBytes (s : State) : List Byte := natBytes 8 s.fuses.sealNo

/-! ### SYSTEM (0x01xx) -/

/-- R405: PING. -/
def State.cmdPing (s : State) : State :=
  s.runCmd 0x100 (lenIs 0) noWait (fun t _ =>
    let v := t.fresh 32
    let ver := if t.mb.run = .firmware then natBytes 4 (t.fwVersion t.mb.slot) else leBytes 4 v.1
    { data := ver ++ natBytes 1 t.mb.slot ++ natBytes 3 0 ++ natBytes 8 (t.rtc - t.mb.bootRtc),
      state := if t.mb.run = .firmware then t else v.2 })

/-- R405: GETID. -/
def State.cmdGetid (s : State) : State :=
  s.runCmd 0x101 (lenIs 0) noWait (fun t _ =>
    { data := uidBytes ++ wordBytes t.idcode ++ t.regBytes .SWP_DEVID ++ natBytes 1 t.fuses.lc ++ natBytes 7 0 ++
        beBytes 132 (publicKey identityKey), state := t })

/-- R408: the record of a change of ownership. -/
def State.logOwner (s : State) (r token lease : Nat) : State :=
  s.logEvent 0x0D (BitVec.ofNat 64 (r + token * 2 ^ 16)) (BitVec.ofNat 64 lease)

/-- R403: CLAIM. -/
def State.cmdClaim (s : State) : State :=
  s.runCmd 0x102 (fun t p => lenIs 8 t p && decide (p.num 0 1 < 8) && p.token != 0) noWait (fun t p =>
    let lease := p.num 4 4
    let o : Owner := { token := p.token, endAt := if lease = 0 then none else some (t.rtc + lease) }
    { state := (t.modMb (fun m => { m with owners := m.owners.set (p.num 0 1) (some o) none })).logOwner (p.num 0 1) p.token lease })

/-- R403: RELEASE. -/
def State.cmdRelease (s : State) : State :=
  s.runCmd 0x103 (fun t p => lenIs 1 t p && decide (p.num 0 1 < 8)) noWait (fun t p =>
    let r := p.num 0 1
    { state := match t.mb.owners.get r none with
        | some _ => (t.modMb (fun m => { m with owners := m.owners.set r none none })).logOwner r 0 0
        | none => t })

/-- R403: a lease ends. -/
def State.leaseExpiry (s : State) (r : Nat) : State :=
  match s.mb.owners.get r none with
  | some o =>
    match o.endAt with
    | some t => ((s.atRtc t).modMb (fun m => { m with owners := m.owners.set r none none })).logOwner r 0 0
    | none => s
  | none => s

/-- R440, R405: RESET. The reply of a DEVICE reset goes out before it; that of a scoped reset when it has run. -/
def State.cmdReset (s : State) : State :=
  s.runCmd 0x104
    (fun t p => lenIs 4 t p && t.resetCheck (p.num 0 2) (p.num 2 2) != some resBadParam)
    (fun t p => match scopeDomain (p.num 0 2) (p.num 2 2) with | some d => bit (t.opOn d).isSome | none => 0)
    (fun t p =>
      if t.resetCheck (p.num 0 2) (p.num 2 2) = some resDenied then { st := 2, state := t }
      else if p.num 0 2 = 0 then { state := ((t.completeCmd (p.reply 0 []) true p.params).endDebug).deviceReset 2, fin := .held }
      else { state := t.startReset (p.num 0 2) (p.num 2 2) (.cmd (p.reply 0 p.params)), fin := .held })

/-- R405, R411: SET. -/
def State.cmdSet (s : State) : State :=
  s.runCmd 0x105 (fun t p => lenIs 16 t p && t.keyInRange (p.num 0 2) (p.num 8 8)) noWait (fun t p =>
    { state := t.setKey (p.num 0 2) (BitVec.ofNat 64 (p.num 8 8)) })

/-- R405: GET. -/
def State.cmdGet (s : State) : State :=
  s.runCmd 0x106 (fun t p => lenIs 2 t p && keyKnown (p.num 0 2)) noWait (fun t p =>
    { data := wordBytes (t.keyValue (p.num 0 2)), state := t })

/-- R421: ATTEST. -/
def State.cmdAttest (s : State) : State :=
  s.runCmd 0x107 (lenIs 32) noWait (fun t p =>
    let body := p.sub 0 32 ++ uidBytes ++ natBytes 8 t.fuses.lc ++ natBytes 8 (t.fwVersion t.mb.slot) ++ t.fwHash t.mb.slot ++
      t.regBytes .CFG_IMAGE ++ beBytes 64 t.loader.imgHash ++ wordBytes t.sealWord ++ t.regBytes .SMP_CALID ++
      t.regBytes .SMP_START ++ beBytes 64 t.smp.segHash ++ beBytes 132 (publicKey (partitionKey t.fuses.sealNo)) ++
      beBytes 132 t.mb.certSig
    { data := body ++ beBytes 132 (ecdsaSign identityKey (sha512 body) t.log.signs),
      state := { t with log := { t.log with signs := t.log.signs + 1 } } })

/-- R423: ICEKEY. -/
def State.cmdIcekey (s : State) : State :=
  s.runCmd 0x108 (fun t p => lenIs 2 t p && decide (p.num 0 1 < 16) && decide (p.num 1 1 < 2))
    (fun t _ => if t.bankReady then 0 else 9) (fun t p =>
    let r := p.num 0 1
    let cur := t.fld F.ICE_RSTAT_KSEL 0 r
    if p.num 1 1 = 0 then
      if t.iceState r ≠ iceOff then { st := 2, state := t }
      else
        let k := t.drawKey
        let q := k.2.drawKey
        { state := (q.2.writeKey (0x80 * r + 0x20 * cur) k.1).writeKey (0x80 * r + 0x40) q.1 }
    else if t.iceState r ≠ iceReady ∨ t.flag F.ICE_RSTAT_SPARE 0 r then { st := 2, state := t }
    else
      let k := t.drawKey
      { state := ((k.2.writeKey (0x80 * r + 0x20 * (1 - cur)) k.1).writeIceCtrl 328 (BitVec.ofNat 64 (r * 256 + 8))).2 })

/-- R405, R327: ICEUNLOCK. -/
def State.cmdIceunlock (s : State) : State :=
  s.runCmd 0x109 (fun t p => lenIs 1 t p && decide (p.num 0 1 < 16)) noWait (fun t p =>
    if t.iceState (p.num 0 1) = iceLocked then { state := (t.writeIceCtrl 328 (BitVec.ofNat 64 (p.num 0 1 * 256 + 2))).2 }
    else { st := 2, state := t })

/-- R423: LINKKEY. -/
def State.cmdLinkkey (s : State) : State :=
  s.runCmd 0x10A (lenIs 686) (fun t _ => if t.bankReady then 0 else 9) (fun t p =>
    if t.halfGood p.params then
      let e := t.newEphemeral
      let h := e.2.keyHalf (p.num 0 1) (p.num 1 1) e.1
      { data := h.1, state := h.2.agreeKeys (p.num 0 1) (p.num 1 1) e.1 (sigOf (p.sub 2 132)) }
    else { st := 7, state := t })

/-! ### CONFIG (0x02xx) -/

/-- R405: CFGSTAT. -/
def State.cmdCfgstat (s : State) : State :=
  s.runCmd 0x200 (lenIs 0) noWait (fun t _ => { data := t.regBytes .CFG_STATUS ++ t.regBytes .CFG_IMAGE, state := t })

/-- The loader takes a LOAD or a stream (R244, R252). -/
def State.loaderOpen (s : State) : Bool := s.ldState == ldUser || s.ldState == ldFailed || s.ldState == ldWaitImage

/-- R405, R252: LOAD. -/
def State.cmdLoad (s : State) : State :=
  s.runCmd 0x201 (fun t p => lenIs 16 t p && decide (p.num 0 1 < 3) && (p.num 0 1 == 2 || p.num 8 8 % 16 == 0) && decide (p.num 8 8 < 2 ^ 48))
    (fun t _ => bit (t.flag F.CFG_STATUS_BUSY)) (fun t p =>
    if t.loaderOpen then { state := (t.writeCfgSrc (BitVec.ofNat 64 (p.num 0 1 * 2 ^ 62 + p.num 8 8))).cfgLoad }
    else { st := 2, state := t })

/-- R405, R244: STREAM_BEGIN. -/
def State.cmdStreamBegin (s : State) : State :=
  s.runCmd 0x202 (lenIs 8) (fun t _ => bit t.mb.streamOpen) (fun t p =>
    if !t.loaderOpen then { st := 2, state := t }
    else if p.num 0 8 = 0 then { state := t }
    else
      let t := t.modMb (fun m => { m with streamOpen := true, streamLen := p.num 0 8, streamPos := 0 })
      { state := (t.writeCfgSrc (2#64 <<< 62)).cfgLoad })

/-- R405: STREAM_DATA. -/
def State.cmdStreamData (s : State) : State :=
  s.runCmd 0x203
    (fun t p => decide (8 ≤ p.params.length) && (!t.mb.streamOpen ||
      (p.num 0 8 == t.mb.streamPos && decide (p.num 0 8 + (p.params.length - 8) ≤ t.mb.streamLen))))
    (fun t _ => if t.mb.streamOpen then 0 else 9)
    (fun t p =>
      let bs := p.params.drop 8
      let t := t.modMb (fun m => { m with streamPos := m.streamPos + bs.length })
      { state := if bs ≠ [] ∧ t.loader.src.kind = 3 ∧ t.flag F.CFG_STATUS_BUSY then
          t.modLoader (fun l => { l with stream := l.stream ++ bs, streamLast := t.now }) else t })

/-- R405, R243: STREAM_END: the reply follows the end of the load. -/
def State.cmdStreamEnd (s : State) : State :=
  s.runCmd 0x204 (lenIs 0) (fun t _ => if t.mb.streamOpen then 0 else 9) (fun t _ =>
    if t.loader.src.kind = 3 ∧ t.flag F.CFG_STATUS_BUSY then
      { state := t.modLoader (fun l => { l with streamEnd := true }), fin := .again }
    else
      { st := if t.loader.good ∧ t.loader.src.kind = 3 then 0 else 7, data := natBytes 1 (t.fld F.CFG_STATUS_CAUSE),
        state := t.modMb (fun m => { m with streamOpen := false }) })

/-- R250: DONEREL. -/
def State.cmdDonerel (s : State) : State :=
  s.runCmd 0x205 (lenIs 0) noWait (fun t _ =>
    if t.ldState = ldFailed ∨ t.ldState = ldWaitImage then { state := t.cfgDoneRel } else { st := 2, state := t })

/-- R405: an erase of a slot runs. -/
def erasing (w : Option SlotWrite) : Bool := match w with | some x => x.erasing | none => false

/-- R405: IMGWRITE_BEGIN. -/
def State.cmdImgwriteBegin (s : State) : State :=
  s.runCmd 0x206 (fun t p => lenIs 16 t p && decide (p.num 0 1 < 3) && decide (p.num 8 8 ≤ imgSize))
    (fun t _ => bit (erasing t.mb.img)) (fun t p =>
    let slot := p.num 0 1
    if (slot < 2 ∧ slot = t.activeSlot) ∨ (slot = 2 ∧ 2 ≤ t.fuses.lc) then { st := 2, state := t }
    else if p.num 8 8 = 0 then { state := t }
    else { state := t.modMb (fun m => { m with img := some { slot := slot, len := p.num 8 8 } }) })

/-- The offset of a data packet is the next byte, and the data fits. -/
def nextByte (w : Option SlotWrite) (off n : Nat) : Bool :=
  match w with
  | some x => x.erasing || (off == x.pos && decide (off + n ≤ x.len))
  | none => true

/-- Whether a slot accepts data: 0, or NOT_READY, or BUSY while it is erased. -/
def slotReady (w : Option SlotWrite) : Nat := match w with | some x => if x.erasing then 1 else 0 | none => 9

/-- R405: IMGWRITE_DATA. -/
def State.cmdImgwriteData (s : State) : State :=
  s.runCmd 0x207 (fun t p => decide (8 ≤ p.params.length) && nextByte t.mb.img (p.num 0 8) (p.params.length - 8))
    (fun t _ => slotReady t.mb.img) (fun t p =>
    match t.mb.img with
    | some w =>
      { state := (t.setFlash (imgBase w.slot + w.pos) (p.params.drop 8)).modMb (fun m =>
          { m with img := some { w with pos := w.pos + (p.params.length - 8) } }) }
    | none => { st := 9, state := t })

/-- R405, R237, R238: IMGWRITE_END. -/
def State.cmdImgwriteEnd (s : State) : State :=
  s.runCmd 0x208 (lenIs 0) (fun t _ => slotReady t.mb.img) (fun t _ =>
    match t.mb.img with
    | some w =>
      let h := t.flashBytes (imgBase w.slot) 0x1000
      let t := t.modMb (fun m => { m with img := none })
      if t.headerGood h true ∧ t.signatureGood h then { data := natBytes 4 (hdrIseq h), state := t }
      else { st := 7, state := t.eraseFlash (imgBase w.slot) imgSize }
    | none => { st := 9, state := t })

/-- R405, R234: SETSLOT. -/
def State.cmdSetslot (s : State) : State :=
  s.runCmd 0x209 (fun t p => lenIs 5 t p && decide (p.num 0 1 < 2) && decide (p.num 1 1 < 3) && decide (p.num 4 1 < 32)) noWait
    (fun t p => { state := t.writeRecord (p.num 0 1) (p.num 1 1) (p.num 2 1) (p.num 3 1) (p.num 4 1) })

/-- R405, R414: the erase of a slot completes; img: of an image slot, else of the firmware slot. -/
def State.slotEraseComplete (s : State) (img : Bool) : State :=
  if img then
    match s.mb.img with
    | some w => if w.erasing then
        (s.eraseFlash (imgBase w.slot) imgSize).modMb (fun m => { m with img := some { w with erasing := false } }) else s
    | none => s
  else
    match s.mb.fw with
    | some w => if w.erasing then
        (s.eraseFlash (fwBase w.slot) 0x400000).modMb (fun m => { m with fw := some { w with erasing := false } }) else s
    | none => s

/-! ### SENSORS (0x03xx) -/

/-- R406: a reading as SENSORS returns it. -/
def State.sensorBytes (s : State) (n : Nat) : List Byte :=
  leBytes 4 ((BitVec.ofInt 24 (s.reading n)).setWidth 32 ||| BitVec.ofNat 32 (bit (s.mb.warned.get n false) * 2 ^ 24 +
    bit (s.mb.crits.get n false) * 2 ^ 25))

/-- R406: SENSORS. -/
def State.cmdSensors (s : State) : State :=
  s.runCmd 0x300 (fun t p => lenIs 2 t p && decide (p.num 0 1 + p.num 1 1 ≤ 64)) noWait (fun t p =>
    { data := (List.range (p.num 1 1)).flatMap (fun i => t.sensorBytes (p.num 0 1 + i)), state := t })

/-- R407: THRESH. -/
def State.cmdThresh (s : State) : State :=
  s.runCmd 0x301 (fun t p => lenIs 12 t p && decide (p.num 0 1 < 64) &&
      t.critAllowed (p.num 0 1) (BitVec.ofNat 32 (p.num 8 4)).toInt) noWait (fun t p =>
    let n := p.num 0 1
    { state := (t.setKey (0x100 + 2 * n) ((BitVec.ofNat 32 (p.num 4 4)).signExtend 64)).setKey (0x101 + 2 * n)
        ((BitVec.ofNat 32 (p.num 8 4)).signExtend 64) })

/-- R405: the first n records of a list that fit whole in 1,016 bytes. -/
def fitRecords (n : Nat) (rs : List (List Word)) : List (List Word) :=
  ((rs.take n).foldl (fun (acc : List (List Word) × Nat × Bool) r =>
    if acc.2.2 ∧ acc.2.1 + 8 * r.length ≤ 1016 then (acc.1 ++ [r], acc.2.1 + 8 * r.length, true) else (acc.1, acc.2.1, false))
    ([], 0, true)).1

/-- R405, R408: LOGREAD. -/
def State.cmdLogread (s : State) : State :=
  s.runCmd 0x302 (fun t p => lenIs 9 t p && decide (p.num 8 1 ≤ 15)) noWait (fun t p =>
    let held := (t.log.kept ++ t.cached).filter (fun r => decide (p.num 0 8 ≤ (r.getD 1 0).toNat))
    let out := fitRecords (p.num 8 1) held
    { data := natBytes 1 out.length ++ natBytes 7 0 ++ wordsBytes out.flatten, state := t })

/-! ### UPDATE (0x04xx) -/

/-- The firmware slot that FWSLOT does not name (R411, R414). -/
def State.inactiveFw (s : State) : Nat := 1 - s.setting 0x90 % 2

/-- R414: FW_BEGIN. -/
def State.cmdFwBegin (s : State) : State :=
  s.runCmd 0x400 (fun t p => lenIs 4 t p && decide (p.num 0 4 ≤ 0x400000)) (fun t _ => bit (erasing t.mb.fw)) (fun t p =>
    if p.num 0 4 = 0 then { state := t }
    else { state := t.modMb (fun m => { m with fw := some { slot := t.inactiveFw, len := p.num 0 4 } }) })

/-- R414: FW_DATA. -/
def State.cmdFwData (s : State) : State :=
  s.runCmd 0x401 (fun t p => decide (4 ≤ p.params.length) && nextByte t.mb.fw (p.num 0 4) (p.params.length - 4))
    (fun t _ => slotReady t.mb.fw) (fun t p =>
    match t.mb.fw with
    | some w =>
      { state := (t.setFlash (fwBase w.slot + w.pos) (p.params.drop 4)).modMb (fun m =>
          { m with fw := some { w with pos := w.pos + (p.params.length - 4), checked := false } }) }
    | none => { st := 9, state := t })

/-- R414, R415: FW_END. -/
def State.cmdFwEnd (s : State) : State :=
  s.runCmd 0x402 (lenIs 0) (fun t _ => slotReady t.mb.fw) (fun t _ =>
    match t.mb.fw with
    | some w =>
      let v := t.fwVersion w.slot
      if !(t.fwValid w.slot) then { st := 7, state := t }
      else if v / 2 ^ 26 < t.fuses.floor then { st := 2, state := t }
      else { data := natBytes 4 v, state := (t.modMb (fun m => { m with fw := some { w with checked := true } })).logEvent 0x09
              (BitVec.ofNat 64 v) (BitVec.ofNat 64 w.slot) }
    | none => { st := 9, state := t })

/-- A checked image waits in the inactive slot. -/
def fwChecked (w : Option SlotWrite) : Bool := match w with | some x => x.checked | none => false

/-- R414, R395: FW_ACTIVATE: the reply goes out before the reboot. -/
def State.cmdFwActivate (s : State) : State :=
  s.runCmd 0x403 (lenIs 0) (fun t _ => if fwChecked t.mb.fw then 0 else 9) (fun t p =>
    let slot := match t.mb.fw with | some w => w.slot | none => 0
    let t := t.setKey 0x91 (BitVec.ofNat 64 (1 + 256 * slot))
    let t := t.logEvent 0x09 (BitVec.ofNat 64 (t.fwVersion slot)) (BitVec.ofNat 64 slot)
    let t := (t.modMb (fun m => { m with fw := none })).completeCmd (p.reply 0 []) true p.params
    { state := t.mbReboot 3, fin := .held })

/-- R414, R415: FW_CONFIRM. -/
def State.cmdFwConfirm (s : State) : State :=
  s.runCmd 0x404 (fun t p => lenIs 1 t p && decide (p.num 0 1 < 2)) noWait (fun t p =>
    if t.trialState ≠ 2 then { st := 2, state := t }
    else
      let slot := t.trialSlot
      let t := (t.setKey 0x90 (BitVec.ofNat 64 slot)).setKey 0x91 0
      let t := t.modMb (fun m => { m with confirmBy := none })
      { state := if p.num 0 1 = 1 then { t with fuses := { t.fuses with floor := max t.fuses.floor (t.fwVersion slot / 2 ^ 26) } } else t })

/-- R405: FW_STAT. -/
def State.cmdFwStat (s : State) : State :=
  s.runCmd 0x405 (lenIs 0) noWait (fun t _ =>
    let one (i : Nat) : List Byte := natBytes 4 (t.fwVersion i) ++ natBytes 1 (bit (t.fwValid i))
    { data := one 0 ++ one 1 ++ natBytes 1 (t.setting 0x90) ++ natBytes 1 t.trialState ++ natBytes 1 t.fuses.floor, state := t })

/-- R414: 600 s without FW_CONFIRM: Mbana reboots into the old slot. -/
def State.trialTimeout (s : State) : State :=
  match s.mb.confirmBy with
  | some t => if s.mbServes then ((s.atRtc t).modMb (fun m => { m with confirmBy := none })).mbReboot 4 else s
  | none => s

/-! ### METROLOGY (0x05xx) -/

/-- R405, R182: SMP_POWER. -/
def State.cmdSmpPower (s : State) : State :=
  s.runCmd 0x500 (fun t p => lenIs 1 t p && decide (p.num 0 1 < 2)) (fun t _ => bit (t.opOn domSMP).isSome) (fun t p =>
    match t.switchCheck domSMP (p.num 0 1 == 1) with
    | some r => { st := if r = resOk then 0 else 2, state := t }
    | none => { state := t.startOp { dom := domSMP, kind := if p.num 0 1 = 1 then .on else .off } })

/-- R183: SMP_RESET. -/
def State.cmdSmpReset (s : State) : State :=
  s.runCmd 0x501 (lenIs 0) (fun t _ => if t.smpOn then 0 else 9) (fun t _ => { state := t.smpReset })

/-- R405, R199: SMP_RELAY: the request runs in Mbana's own slot, and the reply follows its end. -/
def State.cmdSmpRelay (s : State) : State :=
  s.runCmd 0x502 (fun _ p => decide (2 ≤ p.params.length ∧ p.params.length ≤ 226)) (fun t _ => if t.smpOn then 0 else 9) (fun t p =>
    match t.mb.relay with
    | none =>
      let c := t.smpClaim 328
      if !(c.1.getLsbD 63) then { st := 1, state := t }
      else
        let i := (c.1.setWidth 4).toNat
        let u := c.2.modMbox i (fun x => { x with data := setBytes x.data (p.params.drop 2) })
        let req : Word := BitVec.ofNat 64 (2 ^ 63 + (p.params.length - 2) * 2 ^ 32 + p.num 0 2)
        { state := (u.smpGo i 328 req).modMb (fun m => { m with relay := some i }), fin := .again }
    | some i =>
      let x := t.slot i
      let t' := t.modMb (fun m => { m with relay := none })
      if x.owner ≠ some 328 then { st := 9, state := t' }
      else if !x.done then { state := t, fin := .again }
      else
        let res := ((List.range 28).flatMap (fun w => wordBytes (x.data.get (4 + w) 0))).take x.rlen.toNat
        { data := natBytes 1 x.status.toNat ++ res, state := t'.smpRelease i 328 })

/-- R405: SMPSTAT. -/
def State.cmdSmpstat (s : State) : State :=
  s.runCmd 0x503 (lenIs 0) noWait (fun t _ =>
    { data := wordBytes t.smpStatus ++ t.smpSealBytes ++ t.regBytes .SMP_CALID ++ t.regBytes .SMP_START ++
        (List.range 16).flatMap (fun w => wordBytes (t.smpOoc w)), state := t })

/-! ### DEBUG (0x06xx) -/

/-- R470: DBG_CHAL. -/
def State.cmdDbgChal (s : State) : State :=
  s.runCmd 0x600 (fun t p => lenIs 1 t p && decide (p.num 0 1 < 4)) noWait (fun t _ =>
    let v := t.fresh 256
    { data := leBytes 32 v.1, state := v.2.modMb (fun m => { m with dbgNonce := some (v.1, t.rtc) }) })

/-- R470: a level is granted. -/
def State.grantDebug (s : State) (level source slot : Nat) : State :=
  ((s.setFld F.DBG_STATUS_LEVEL level).setFld F.DBG_STATUS_SOURCE source).setFld F.DBG_STATUS_SLOT slot

/-- R470: DBG_RESP. -/
def State.cmdDbgResp (s : State) : State :=
  s.runCmd 0x601 (fun t p => lenIs 134 t p && decide (p.num 0 1 < 4) && decide (p.num 1 1 < 4)) noWait (fun t p =>
    let level := p.num 0 1
    let slot := p.num 1 1
    let u := t.modMb (fun m => { m with dbgNonce := none })
    if (if slot < 2 then 3 else 2) < level then { st := 2, state := t }
    else
      let good : Bool := match t.mb.dbgNonce, t.fuses.dbgKeys.get slot none with
        | some (n, at0), some k => decide (t.rtc ≤ at0 + 60) &&
            Config.debugSigned k (sha512 (leBytes 32 n ++ uidBytes ++ natBytes 1 level)) (sigOf (p.sub 2 132))
        | _, _ => false
      if good then { state := u.grantDebug level 2 slot } else { st := 7, state := u })

/-- R470: DBG_PASS, with its lockout after three failures in a row. -/
def State.cmdDbgPass (s : State) : State :=
  s.runCmd 0x602 (fun _ p => decide (1 ≤ p.params.length ∧ p.params.length ≤ 65) && decide (p.num 0 1 < 4)) noWait (fun t p =>
    if t.flag F.DBG_STATUS_LOCKOUT ∨ 2 < p.num 0 1 then { st := 2, state := t }
    else if t.fuses.passHash = some (sha512 (p.params.drop 1 ++ uidBytes)) then
      { state := (t.modMb (fun m => { m with passFails := 0 })).grantDebug (p.num 0 1) 3 0 }
    else
      let n := t.mb.passFails + 1
      let u := t.modMb (fun m => { m with passFails := if n = 3 then 0 else n })
      { st := 7, state := if n = 3 then u.setFld F.DBG_STATUS_LOCKOUT 1 else u })

/-- R405: the lockout of DBG_PASS ends. -/
def State.lockoutEnd (s : State) : State := s.setFld F.DBG_STATUS_LOCKOUT 0

/-- R470: DBG_REVOKE. -/
def State.cmdDbgRevoke (s : State) : State := s.runCmd 0x603 (lenIs 0) noWait (fun t _ => { state := t.endDebug })

/-- R468: one entry of a tunnel frame: the answered entry, and the state. -/
def State.tunnelEntry (s : State) (e : List Byte) : List Byte × State :=
  let r := s.dmiAccess (leNat (e.take 1)) (leNat ((e.drop 2).take 2)) (BitVec.ofNat 32 (leNat ((e.drop 4).take 4)))
  (natBytes 1 r.1 ++ (e.drop 1).take 3 ++ leBytes 4 r.2.1, r.2.2)

/-- R468: DBG_TUNNEL. -/
def State.cmdDbgTunnel (s : State) : State :=
  s.runCmd 0x604 (fun _ p => p.params.length % 8 == 0) noWait (fun t p =>
    if t.dbgLevel = 0 then { st := 2, state := t }
    else
      let q := (List.range (p.params.length / 8)).foldl (fun (acc : List Byte × State) i =>
        let r := acc.2.tunnelEntry (p.sub (8 * i) 8)
        (acc.1 ++ r.1, r.2)) ([], t)
      { data := q.1, state := q.2 })

/-! ### POWER (0x07xx) -/

/-- R405, R434, R435: PWR_DOMAIN. A power-off is answered when the domain reports off. -/
def State.cmdPwrDomain (s : State) : State :=
  s.runCmd 0x700 (fun t p => lenIs 4 t p && domExists (p.num 0 2) && decide (p.num 2 1 < 2)) (fun t p => bit (t.opOn (p.num 0 2)).isSome)
    (fun t p =>
    let d := p.num 0 2
    match t.switchCheck d (p.num 2 1 == 1) with
    | some r => { st := if r = resOk then 0 else 2, state := t }
    | none =>
      if p.num 2 1 = 1 then { state := t.startOp { dom := d, kind := .on } }
      else { state := t.startOp { dom := d, kind := .off, ask := .cmd (p.reply 0 p.params) }, fin := .held })

/-- R405, R409: PWR_STAT. -/
def State.cmdPwrStat (s : State) : State :=
  s.runCmd 0x701 (lenIs 0) noWait (fun t _ => { data := (List.range 8).flatMap (fun j => t.regBytes .PWR_ON 0 j), state := t })

/-- R405, R446: CLK_GLOBAL. -/
def State.cmdClkGlobal (s : State) : State :=
  s.runCmd 0x702 (fun t p => lenIs 4 t p && decide (p.num 0 1 < 32) && decide (8 ≤ p.num 2 2 ∧ p.num 2 2 ≤ 4096)) noWait (fun t p =>
    let g := p.num 0 1
    { state := (t.setShadow .CLK_GLOBAL (putFld F.CLK_GLOBAL_N (p.num 2 2) (t.shadowReg .CLK_GLOBAL 0 g)) 0 g).clkCommit })

/-- The channels of a mask. -/
def maskChannels (m : Nat) : List Nat := (List.range 12).filter (fun k => m.testBit k)

/-- R311: DRAM_RATE. -/
def State.cmdDramRate (s : State) : State :=
  s.runCmd 0x703 (fun t p => lenIs 3 t p && decide (p.num 0 2 < 4096) && decide (p.num 2 1 < 3))
    (fun t p =>
      let ks := maskChannels (p.num 0 2)
      if ks.any (fun k => t.dmcState k == dmcFill || t.dmcState k == dmcTransition) then 1
      else if ks.any (fun k => t.dmcState k != dmcReady) then 9
      else 0)
    (fun t p =>
      let v : Word := match p.num 2 1 with | 0 => 2#64 | 1 => 3#64 | _ => 4#64
      { state := t.forAll (maskChannels (p.num 0 2)) (fun acc k => acc.writeDmcCmd k v false acc.userMode) })

/-- R405: VTRIM; ack: the regulator acknowledges within 10 ms. -/
def State.cmdVtrim (s : State) (ack : Bool) : State :=
  s.runCmd 0x704 (fun t p => lenIs 2 t p && decide (900 ≤ p.num 0 2 ∧ p.num 0 2 ≤ 940)) noWait (fun t p =>
    if ack then { state := t.modMb (fun m => { m with vcore := p.num 0 2 }) } else { st := 8, state := t })

/-- R444: SLEEP: the reply goes out before sleep. -/
def State.cmdSleep (s : State) : State :=
  s.runCmd 0x705 (lenIs 8) noWait (fun t p =>
    if t.sleepDenied then { st := 2, state := t }
    else
      let t := t.modMb (fun m => { m with wakeMask := BitVec.ofNat 16 (p.num 0 2) })
      let t := { t with io := { t.io with rtcAlarm := if p.num 4 4 = 0 then 0 else t.rtc + p.num 4 4 } }
      { state := (t.completeCmd (p.reply 0 []) true p.params).enterSleep, fin := .held })

/-! ### LIFECYCLE (0x08xx) -/

/-- R405: LC_STAT. A transition is one step here, so none is in progress. -/
def State.cmdLcStat (s : State) : State :=
  s.runCmd 0x800 (lenIs 0) noWait (fun t _ =>
    { data := natBytes 1 t.fuses.lc ++ natBytes 1 (t.fld F.LCS_STATUS_TAMPERED) ++ leBytes 2 (Config.fuseRows t.fuses.lc) ++ natBytes 1 0,
      state := t })

/-- R405: LC_NONCE. -/
def State.cmdLcNonce (s : State) : State :=
  s.runCmd 0x801 (lenIs 0) noWait (fun t _ =>
    let v := t.fresh 256
    { data := leBytes 32 v.1, state := v.2.modMb (fun m => { m with lcNonce := some (v.1, t.rtc) }) })

/-- R417, step 2: the domains that a transition powers off. -/
def lcDomains : List Nat :=
  (List.range 8).map domCPU ++ (List.range 64).map domCL ++ (List.range 64).map domFS ++ (List.range 16).map domSB ++
    (List.range 36).map domLQ

/-- R417: a life-cycle transition. -/
def State.lcTransition (s : State) (new : Nat) : State :=
  let old := s.fuses.lc
  let s := s.flushLog
  let s := s.forAll ((List.range 256).filter (fun e => s.leader e == e && (s.eng e).mode != .idle)) State.ceAbort
  let s := s.forAll (lcDomains.filter s.domOn) State.domainOff
  let s := s.sealStepForced 5
  let s := { s with fuses := { s.fuses with lc := new } }.logEvent 0x07 (BitVec.ofNat 64 (old + new * 2 ^ 8)) 0 .mbana
  let s := { s with fuses := { s.fuses with lcLogged := new } }
  let s := (s.endDebug.lcWipe.setLd 0).mbReboot 4
  s.modPwr (fun p => { p with deviceRst := true })

/-- R405: the reply to a transition goes out, and the transition runs. -/
def State.lcAccept (s : State) (p : MbPkt) (new : Nat) : CmdRes :=
  { state := (s.completeCmd (p.reply 0 []) true p.params).lcTransition new, fin := .held }

/-- A fuse slot of R405's LC_PROVISION: an all-zero hash leaves it empty. -/
def hashAt (p : MbPkt) (i : Nat) : Option (BitVec 512) :=
  let h := BitVec.ofNat 512 (beNat (p.sub (64 * i) 64))
  if h = 0 then none else some h

/-- Fill a slot where a hash is named. -/
def orHash (a b : Option (BitVec 512)) : Option (BitVec 512) := match b with | some h => some h | none => a

/-- R416: LC_PROVISION. -/
def State.cmdLcProvision (s : State) : State :=
  s.runCmd 0x802 (lenIs 640) noWait (fun t p =>
    let f := t.fuses
    let old (i : Nat) : Option (BitVec 512) :=
      if i < 4 then f.cfgKeys.get i none else if i < 8 then f.dbgKeys.get (i - 4) none else if i = 8 then f.passHash else f.fwKey
    if (List.range 10).any (fun i => (hashAt p i).isSome && (old i).isSome) then { st := 2, state := t }
    else
      let fill (tb : Tab (Option (BitVec 512))) (base : Nat) : Tab (Option (BitVec 512)) :=
        (List.range 4).foldl (fun acc i => acc.set i (orHash (acc.get i none) (hashAt p (base + i))) none) tb
      let f' := { f with cfgKeys := fill f.cfgKeys 0, dbgKeys := fill f.dbgKeys 4, passHash := orHash f.passHash (hashAt p 8),
                         fwKey := orHash f.fwKey (hashAt p 9) }
      let u := { t with fuses := f' }
      if f.lc = 0 then u.lcAccept p 1 else { state := u })

/-- R422: LC_CERT. -/
def State.cmdLcCert (s : State) : State :=
  s.runCmd 0x803 (lenIs 420) noWait (fun t p =>
    if t.certGood p.params ∧ p.sub 0 16 = uidBytes ∧ p.sub 16 132 = beBytes 132 (publicKey identityKey) then
      { state := (t.modMb (fun m => { m with cert := p.params })).saveSettings }
    else { st := 7, state := t })

/-- R405: the signature of LC_DEPLOY, LC_RMA and LC_SCRAP, over the nonce of LC_NONCE, the UID and the opcode. -/
def State.lcSigned (s : State) (p : MbPkt) : Bool :=
  match s.mb.lcNonce, s.fuses.cfgKeys.get (p.num 0 1) none with
  | some (n, at0), some k => decide (s.rtc ≤ at0 + 60) &&
      Config.debugSigned k (sha512 (leBytes 32 n ++ uidBytes ++ natBytes 2 p.op)) (sigOf (p.sub 1 132))
  | _, _ => false

/-- R405, R417: LC_DEPLOY, LC_RMA and LC_SCRAP: the nonce is used, and a good signature starts the transition. -/
def State.lcMove (s : State) (p : MbPkt) (new : Nat) : CmdRes :=
  let good := s.lcSigned p
  let u := s.modMb (fun m => { m with lcNonce := none })
  if good ∨ (new = 4 ∧ s.fuses.lc = 0) then u.lcAccept p new else { st := 7, state := u }

/-- LEN and key slot of the signed commands. -/
def lcParams (_ : State) (p : MbPkt) : Bool := p.params.length == 133 && decide (p.num 0 1 < 4)

/-- R417: LC_DEPLOY. -/
def State.cmdLcDeploy (s : State) : State := s.runCmd 0x804 lcParams noWait (fun t p => t.lcMove p 2)
/-- R417: LC_RMA. -/
def State.cmdLcRma (s : State) : State := s.runCmd 0x805 lcParams noWait (fun t p => t.lcMove p 3)
/-- R417: LC_SCRAP; no signature in BLANK. -/
def State.cmdLcScrap (s : State) : State :=
  s.runCmd 0x806 (fun t p => lcParams t p || (t.fuses.lc == 0 && decide (p.params.length ≤ 1))) noWait (fun t p => t.lcMove p 4)

/-- R418: the enabled inputs that are at their active level. -/
def State.tamperActive (s : State) : BitVec 4 := s.mb.tamperOn &&& BitVec.ofNat 4 (s.setting 0x70)

/-- R418: TAMPER_CLEAR. -/
def State.cmdTamperClear (s : State) : State :=
  s.runCmd 0x807 (lenIs 0) noWait (fun t _ =>
    if t.tamperActive ≠ 0 then { st := 2, state := t } else { state := (t.setFld F.LCS_STATUS_TAMPERED 0).releaseCores })

end Sys2Proof.Machine
end

