-- ==== Sys2Proof/Machine/MbanaEvents.lean ====
section
/-!
DEFINITION. What happens to Mbana without a command: sensor readings and thermal actions (R406, R407), tamper (R418), link
epochs (R423), and the policies of R424.
-/
namespace Sys2Proof.Machine

open Sys2Proof

/-- Mbana's notice interrupt at the interrupt controller (R463). -/
def State.mbNotice (s : State) : State := s.pendIrq 11

/-! ### Sensors (R406, R407) -/

/-- R408: a record of a sensor threshold: the sensor with WARN (1) or CRIT (2), and the reading. -/
def State.logSensor (s : State) (n : Nat) (v : Int) (crit : Bool) : State :=
  s.logEvent 0x04 (BitVec.ofNat 64 (n + (if crit then 2 else 1) * 2 ^ 8)) (BitVec.ofInt 64 v)

/-- The lowest of the VCORE sensors. -/
def State.lowestCore (s : State) : Int :=
  [41, 42, 43].foldl (fun acc n => min acc (s.mb.sens.get n 0)) (s.mb.sens.get 40 0)

/-- R424, policy 4: consecutive readings outside the trim band. -/
def State.countTrim (s : State) : State :=
  let v := s.lowestCore
  s.modMb (fun m => { m with
    lowRuns := if v < (s.setting 0x41 : Int) then m.lowRuns + 1 else 0,
    highRuns := if (s.setting 0x42 : Int) < v then m.highRuns + 1 else 0 })

/-- R406, R407: a reading of sensor n. -/
def State.sensorReading (s : State) (n : Nat) (v : Int) : State :=
  if 64 ≤ n then s
  else
    let s := if n < 40 then { s with temps := s.temps.set n v 0 } else s.modMb (fun m => { m with sens := m.sens.set n v 0 })
    let s := if n < 16 ∧ s.smpOn then s.updateTout else s
    if !s.mbServes then s
    else
      let w := s.beyond n v (s.threshold n false)
      let c := s.beyond n v (s.threshold n true)
      let s := s.modMb (fun m => { m with warned := m.warned.set n w false, crits := m.crits.set n c false })
      let s := if w then (s.logSensor n v c).mbNotice else s
      if n = 43 then s.countTrim else s

/-- R407: a temperature has been beyond CRIT for 1 ms: gangs in STREAM are aborted, CL_c and LQ_q power off, and a record is
written. -/
def State.thermalCrit (s : State) (n : Nat) : State :=
  if 40 ≤ n ∨ !s.mbServes ∨ !(s.beyond n (s.temps.get n 0) (s.threshold n true)) then s
  else
    let s := s.forAll ((List.range 256).filter (fun e => s.leader e == e && ((s.eng e).mode == .stream || (s.eng e).mode == .paused))) State.ceAbort
    let ds := ((List.range 64).map domCL ++ (List.range 36).map domLQ).filter (fun d => s.domOn d && (s.opOn d).isNone)
    let s := s.forAll ds (fun acc d => acc.startOp { dom := d, kind := .off })
    s.logSensor n (s.temps.get n 0) true

/-! ### Event log (R409) -/

/-- R409: Mbana copies the cache to the flash ring. -/
def State.logFlush (s : State) : State := if s.mbServes then s.flushLog else s

/-! ### Tamper (R418, R432) -/

/-- R418: a tamper input acts: the secure bank is wiped, the seal stepped, and the record written after the wipe; debug
authorisation ends (R470). -/
def State.tamperAct (s : State) (ins : BitVec 4) : State :=
  let s := s.setFld F.LCS_STATUS_TAMPERED 1
  let s := (s.bankWipe 2).sealStepForced 4
  (s.logEvent 0x08 (ins.setWidth 64) s.log.flushed).endDebug

/-- R418: the filtered levels of TAMPER_0 to TAMPER_3 become these. In CLOCK_WAIT they are latched (R432). -/
def State.tamper (s : State) (levels : BitVec 4) : State :=
  let act := ~~~ (levels ^^^ BitVec.ofNat 4 (s.setting 0x71))
  let en := BitVec.ofNat 4 (s.setting 0x70)
  let new := act &&& en &&& ~~~ s.mb.tamperOn
  let s := (s.modMb (fun m => { m with tamperOn := act })).setFld F.LCS_STATUS_TAMPIN act.toNat
  let hit := act &&& en
  if new = 0 ∧ (hit = 0 ∨ s.flag F.LCS_STATUS_TAMPERED) then s
  else if s.cstate = ckWait then s.modPwr (fun p => { p with tamperLatch := p.tamperLatch ||| hit })
  else s.tamperAct hit

/-- R432: tamper inputs latched in CLOCK_WAIT are acted on once the oscillator runs. -/
def State.tamperLatched (s : State) : State :=
  if s.pwr.tamperLatch = 0 ∨ s.cstate = ckWait then s
  else
    let ins := s.pwr.tamperLatch
    (s.modPwr (fun p => { p with tamperLatch := 0 })).tamperAct ins

/-! ### Link epochs (R423) -/

/-- R423: Mbana agrees the next epoch of bridge b with the peer, whose half it receives. -/
def State.linkEpoch (s : State) (b : Nat) (half : List Byte) : State :=
  if !s.mbServes ∨ s.swState b ≠ swUp ∨ !s.bankReady then s
  else
    let epoch := (s.fld F.SWP_KEY_TXEPOCH b + 1) % 256
    let e := s.newEphemeral
    let h := e.2.keyHalf b epoch e.1
    if h.2.halfGood half ∧ leNat ((half.drop 1).take 1) = epoch then h.2.agreeKeys b epoch e.1 (sigOf ((half.drop 2).take 132)) else h.2

/-! ### Policies (R424) -/

/-- R408, R424: the record of a policy's decision: policy, input value, action. -/
def State.logPolicy (s : State) (n : Nat) (input : Int) (action : Nat) : State :=
  s.logEvent 0x03 (BitVec.ofNat 64 (n + action % 2 ^ 32 * 2 ^ 8)) (BitVec.ofInt 64 input)

/-- R424, policy 1: a cluster's trigger. -/
def State.driftDue (s : State) (c : Nat) : Bool :=
  let dt : Bool := match s.smp.tcal.get c none with
    | some t => decide ((s.setting 0x10 : Int) ≤ ((s.clusterTemp c - t).natAbs : Int))
    | none => false
  let l := s.smp.last.get c {}
  dt || (s.setting 0x11 != 0 && l.kind != 0 && decide (s.setting 0x11 * 6400000000 ≤ s.now - l.time.toNat))

/-- R424, policy 1: a cluster is eligible; idle names the clusters without a gang for DRIFT_IDLE µs. -/
def State.driftEligible (s : State) (idle : List Nat) (c : Nat) : Bool :=
  idle.contains c && s.domOn (domCL c) && !(s.clusterBusy c) && (List.range 4).all (fun j => !(s.gangActive (4 * c + j))) && s.driftDue c

/-- R424, policy 1: drift calibration. -/
def State.driftPolicy (s : State) (idle : List Nat) : State :=
  if !s.mbServes ∨ !s.smpOn ∨ s.smpState ≠ smpReady ∨ !s.smp.cals.isEmpty ∨ (s.mb.owners.get 4 none).isSome then s
  else
    let cs := ((List.range 64).filter (s.driftEligible idle)).take 8
    if cs = [] then s
    else
      let r := s.smpCalibrate false (cs.foldl (fun acc c => acc + 2 ^ c) 0)
      r.2.2.logPolicy 1 (s.clusterTemp (cs.headD 0)) (cs.headD 0)

/-- R424, policy 2: training of channel k has ended: its time and temperature. -/
def State.noteTrained (s : State) (k : Nat) : State :=
  s.modMb (fun m => { m with trainedAt := m.trainedAt.set k s.rtc 0, trainTemp := m.trainTemp.set k (s.temps.get (16 + k) 0) 0 })

/-- R424, policy 2: DRAM retraining of channel k. -/
def State.retrainPolicy (s : State) (k : Nat) : State :=
  let t := s.temps.get (16 + k) 0
  let dt := decide ((s.setting 0x20 : Int) ≤ ((t - s.mb.trainTemp.get k 0).natAbs : Int))
  let age := s.setting 0x21 != 0 && decide (s.mb.trainedAt.get k 0 + s.setting 0x21 ≤ s.rtc)
  if 12 ≤ k ∨ !s.mbServes ∨ s.dmcState k ≠ dmcReady ∨ !(dt || age) then s
  else if (List.range 256).any s.streaming then
    if s.mb.deferAt.get k 0 = 0 ∨ s.mb.deferAt.get k 0 + 3600 ≤ s.rtc then
      (s.modMb (fun m => { m with deferAt := m.deferAt.set k (max 1 s.rtc) 0 })).logPolicy 2 t (2 ^ 16 + k)
    else s
  else if (List.range 12).any (fun j => s.dmcState j == dmcTransition) then s
  else (s.writeDmcCmd k 4 false s.userMode).logPolicy 2 t k

/-- R424, policy 3: the scrubber's thresholds at entry to user mode. -/
def State.scrubPolicy (s : State) : State :=
  if !s.mbServes ∨ !s.userMode then s
  else
    let s := ((s.setFld F.SCR_CTRL_UPTH (s.setting 0x30)).setFld F.SCR_CTRL_QUIET (s.setting 0x31)).setFld F.SCR_CTRL_AUTO 1
    s.logPolicy 3 (s.setting 0x30 : Int) (s.setting 0x31)

/-- R424, policy 4: supply trim. ack: the regulator acknowledges within 10 ms. -/
def State.trimPolicy (s : State) (ack : Bool) : State :=
  let v := s.lowestCore
  let low := decide (10 ≤ s.mb.lowRuns)
  let high := decide (10 ≤ s.mb.highRuns)
  let next := if low then s.mb.vcore + 2 else s.mb.vcore - 2
  if !s.mbServes ∨ s.setting 0x40 = 0 ∨ s.mb.trimOff ∨ !(low || high) ∨ s.now < s.mb.trimAt + 10 * msRoot ∨
      ((List.range 256).any s.streaming ∧ 880 ≤ v) ∨ next < 900 ∨ 940 < next then s
  else if ack then
    (s.modMb (fun m => { m with vcore := next, trimAt := s.now, lowRuns := 0, highRuns := 0 })).logPolicy 4 v next
  else (s.modMb (fun m => { m with trimOff := true })).logPolicy 4 v 0

/-- R424, policy 5: the patrol interval of channel k. -/
def State.patrolPolicy (s : State) (k : Nat) : State :=
  let ce := s.fld F.DMC_CNT_CE k
  let n := if ce < s.mb.patrolCe.get k 0 then ce else ce - s.mb.patrolCe.get k 0
  let since := s.rtc - s.mb.patrolAt.get k 0
  let p := s.fld F.DMC_CTRL_PATROL k
  let mayChange := s.mb.patrolChg.get k 0 = 0 ∨ s.mb.patrolChg.get k 0 + 3600 ≤ s.rtc
  let window (m : Mbana) : Mbana := { m with patrolAt := m.patrolAt.set k s.rtc 0, patrolCe := m.patrolCe.set k ce 0 }
  let change (v : Nat) : State :=
    ((s.setFld F.DMC_CTRL_PATROL v k).modMb (fun m =>
      { window m with patrolChg := m.patrolChg.set k (max 1 s.rtc) 0 })).logPolicy 5 (n : Int) v
  if 12 ≤ k ∨ !s.mbServes ∨ !(s.domOn (domDM k)) then s
  else if s.setting 0x51 ≤ n ∧ since ≤ 3600 then (if mayChange then change (max (s.setting 0x50) (p / 2)) else s)
  else if n = 0 then (if 86400 ≤ since ∧ mayChange then change (min 64 (2 * p)) else s)
  else if 3600 ≤ since then s.modMb window
  else s

/-- R424, policy 6: the records of one location in the last 24 h, of a set of classes, with their counts. -/
def State.eventsAt (s : State) (kind : Byte) (inst loc : Nat) (ue : Bool) : Nat :=
  s.err.recs.cells.foldl (fun acc c =>
    match c.2 with
    | some l =>
      if l.body.kind = kind ∧ l.body.inst = inst ∧ l.body.loc = loc ∧ l.body.cls = (if ue then 0x02 else 0x01) ∧
          s.now - l.time.toNat ≤ 86400 * 6400000000 then acc + l.count else acc
    | none => acc) 0

/-- R424, policy 6: retirement at one location. A DRAM page is marked 100 ms later with AUTORET. -/
def State.retirePolicy (s : State) (kind : Byte) (inst loc : Nat) : State :=
  let ue := s.eventsAt kind inst loc true
  let ce := s.eventsAt kind inst loc false
  if !s.mbServes ∨ !(decide (s.setting 0x61 ≤ ue) || decide (s.setting 0x62 ≤ ce)) then s
  else
    let s := (s.logPolicy 6 ((ue + ce : Nat) : Int) inst).logEvent 0x0E (BitVec.ofNat 64 (kind.toNat * 2 ^ 16 + inst)) (BitVec.ofNat 64 loc)
    let s := s.mbNotice
    if s.setting 0x60 = 1 ∧ kind = 2 then
      let page := s.lineAddr inst (loc % 2 ^ 25) / 4096
      s.modMb (fun m => { m with retires := m.retires ++ [(page, s.now + 100 * msRoot)] })
    else s

/-- The first page-retirement entry that is free (R391). -/
def State.freePrt (s : State) : Option Nat := (List.range 256).find? (fun i => !(s.flag F.ERR_PRT_V 0 i))

/-- R424, policy 6: the page whose 100 ms are over is marked; a full table is logged. -/
def State.applyRetire (s : State) : State :=
  match s.mb.retires with
  | [] => s
  | (page, t) :: rest =>
    if s.now < t then s
    else
      let s := s.modMb (fun m => { m with retires := rest })
      match s.freePrt with
      | some i => s.setReg .ERR_PRT (BitVec.ofNat 64 (2 ^ 63 + page * 4096)) 0 i
      | none => s.logPolicy 6 (page : Int) (2 ^ 16)

/-- R424, policy 7: lock-down of region r. -/
def State.lockdownPolicy (s : State) (r : Nat) : State :=
  if s.mbServes ∧ s.ice.lockIrq.get r false then
    let s := { s with ice := { s.ice with lockIrq := s.ice.lockIrq.set r false false } }
    (s.logPolicy 7 (r : Int) 0).mbNotice
  else s

/-- R424, policy 8, R328: new keys of region r, in its current slot and, where a spare key was ready, in the other, and RESUME. -/
def State.renewRegion (s : State) (r : Nat) : State :=
  let cur := s.fld F.ICE_RSTAT_KSEL 0 r
  let k := s.drawKey
  let q := k.2.drawKey
  let t := (q.2.writeKey (0x80 * r + 0x20 * cur) k.1).writeKey (0x80 * r + 0x40) q.1
  let u := if t.flag F.ICE_RSTAT_SPARE 0 r then let d := t.drawKey; d.2.writeKey (0x80 * r + 0x20 * (1 - cur)) d.1 else t
  (u.writeIceCtrl 328 (BitVec.ofNat 64 (r * 256 + 4))).2

/-- R424, policy 8, R328: after a wipe: new keys for every enabled region, then RESUME, the link keys of Mbana's key area again, and a new
link epoch with every peer; halves: what the peers of bridges 0 to 15 answer. -/
def State.wipePolicy (s : State) (halves : List (List Byte)) : State :=
  if !s.mbServes ∨ !s.mb.wipeSeen ∨ !s.bankReady then s
  else
    let s := s.modMb (fun m => { m with wipeSeen := false })
    let s := s.forAll ((List.range 16).filter (fun r => s.flag F.ICE_RCFG_EN 0 r)) State.renewRegion
    let s := s.forAll (List.range 16) (fun acc b => acc.setLinkKeys b (acc.mb.links.get b {}))
    let s := s.forAll (List.range 16) (fun acc b => acc.linkEpoch b (halves.getD b []))
    s.logPolicy 8 (s.fld F.SBK_STATUS_CAUSE : Int) 0

/-- R390, R408: Mbana copies an accepted error record into the event log: words 0 and 3. -/
def State.copyErr (s : State) (before : BitVec 32) : State :=
  if s.err.seq = before ∨ !s.mbServes then s
  else
    let i := (s.fld F.ERR_PTR_WP + 511) % 512
    s.logEvent 0x0A (s.errWord i 0) (s.errWord i 3)

end Sys2Proof.Machine
end

