-- ==== Sys2Proof/Machine/NocCfg.lean ====
section
/-!
DEFINITION. Chapter 10's configuration side: the commits of a router's settings and route tables with the west-first check
(R271, R280 to R282, R289), the quiet slot (R276), the token buckets (R275) and the common arbiter (R287, R288).
-/
namespace Sys2Proof.Machine

open Sys2Proof

/-- The NI with key 8 * router + port (port 0: the router NI). -/
def State.ni (s : State) (n : Nat) : Ni := s.nis.get n {}
/-- Change an NI. -/
def State.modNi (s : State) (n : Nat) (f : Ni → Ni) : State := { s with nis := s.nis.set n (f (s.ni n)) {} }
/-- An arbiter. -/
def State.arb (s : State) (i : Nat) : Arb := s.arbs.get i {}
/-- Change an arbiter. -/
def State.modArb (s : State) (i : Nat) (f : Arb → Arb) : State := { s with arbs := s.arbs.set i (f (s.arb i)) {} }

/-! ### Commits of a router -/

/-- The router beyond mesh port m (R18); none at the edge. -/
def meshNext (r m : Nat) : Option Nat :=
  match m with
  | 0 => if r < 8 then none else some (r - 8)
  | 1 => if r % 8 = 7 then none else some (r + 1)
  | 2 => if r < 56 then some (r + 8) else none
  | 3 => if r % 8 = 0 then none else some (r - 1)
  | _ => none

/-- The moves of a route entry (R264). -/
def routeMoves (w : Word) : List Nat :=
  (List.range (fldOf F.NOC_ROUTE_NH w)).map (fun j => fldOf F.NOC_ROUTE_TURN w / 4 ^ j % 4)

/-- R271: no west move after another move, and no reversal between north and south. -/
def westFirst : List Nat → Bool
  | [] => true
  | [_] => true
  | a :: b :: t => !(a != 3 && b == 3) && !(a == 0 && b == 2) && !(a == 2 && b == 0) && westFirst (b :: t)

/-- The router in which a list of moves ends; none when it leaves the grid. -/
def walkMoves : Nat → List Nat → Option Nat
  | r, [] => some r
  | r, m :: ms => match meshNext r m with
    | some q => walkMoves q ms
    | none => none

/-- R271: a V = 1 entry of destination d in a table of router r is good. -/
def routeGood (r d : Nat) (w : Word) : Bool :=
  let ms := routeMoves w
  decide (fldOf F.NOC_ROUTE_NH w ≤ 14) && westFirst ms && walkMoves r ms == some (d / 8) &&
    fldOf F.NOC_ROUTE_EXIT w == d % 8 && portExists (d / 8) (d % 8)

/-- The address of a router's first route entry. -/
def routeBase (r : Nat) : Nat := regAddr .NOC_ROUTE r

/-- R271: the first offending shadow entry of a router: table and destination. Entries that were never written hold the
defaults, which are good. -/
def State.badRoute (s : State) (r : Nat) : Option (Nat × Nat) :=
  let b := routeBase r
  match s.shadow.cells.find? (fun c => decide (b ≤ c.1) && decide (c.1 < b + 0x6000) &&
      fldOf F.NOC_ROUTE_V c.2 == 1 && !routeGood r ((c.1 - b) % 0x1000 / 8) c.2) with
  | some c => some ((c.1 - b) / 0x1000, (c.1 - b) % 0x1000 / 8)
  | none => none

/-- R282: the commit changes a table. -/
def State.routesChange (s : State) (r : Nat) : Bool :=
  let b := routeBase r
  let rows (t : Tab Word) : List (Nat × Word) := t.cells.filter (fun c => decide (b ≤ c.1) && decide (c.1 < b + 0x6000))
  rows s.work != rows s.shadow

/-- R280, R281: a commit holds router r for at most 64 network cycles (how long is open: a free value): both channels under MAINT,
else its bulk grants. -/
def State.holdRouter (s : State) (r : Nat) (maint : Bool) : State :=
  let f := s.fresh 7
  let till := s.now + 4 * (f.1.toNat % 65)
  f.2.modNi (8 * r) (fun i => if maint then { i with holdTill := till } else { i with stallTill := till })

/-- R280, R281: router r grants no new bulk packet. -/
def State.bulkHeld (s : State) (r : Nat) : Bool := decide (s.now < max (s.ni (8 * r)).holdTill (s.ni (8 * r)).stallTill)

/-- R280, R281: a packet that reaches a router held by a commit waits there until the hold ends. -/
def State.passHold (s : State) (r : Nat) (rt : Bool) : State :=
  let i := s.ni (8 * r)
  s.atTime (if rt then i.holdTill else max i.holdTill i.stallTill)

/-- R289: the moment at which a router's commit takes effect: the shadow values are taken, checked (R271) and put in force. With MAINT
the commit holds both channels (R280), else one that changes NOC_CFG holds the bulk grants (R281). -/
def State.nocEffect (s : State) (r : Nat) (maint : Bool) : State :=
  let s := s.setFld F.NOC_STATUS_CPEND 0 r
  match s.badRoute r with
  | some (t, d) => (s.setFld F.NOC_STATUS_CFGERR 1 r).setFld F.NOC_STATUS_ERRENT (t * 1024 + d) r
  | none =>
    let s := if s.routesChange r then s.setFld F.NOC_STATUS_GEN ((s.fld F.NOC_STATUS_GEN r + 1) % 65536) r else s
    let s := if maint ∨ s.reg .NOC_CFG r ≠ s.shadowReg .NOC_CFG r then s.holdRouter r maint else s
    s.commitBlock .NOC r

/-- NOC_COMMIT: R280, R289: a write of GO schedules the commit for the quiet slot, or puts it in force with MAINT = 1. -/
def State.nocCommit (s : State) (r : Nat) : State :=
  if s.flag F.NOC_CFG_MAINT r then s.nocEffect r true else s.setFld F.NOC_STATUS_CPEND 1 r

/-- ARB_COMMIT: R288: an arbiter of a router waits for the quiet slot (R281), or commits at once and holds both channels with MAINT = 1
(R280); the others commit at once. -/
def State.arbCommit (s : State) (i : Nat) : State :=
  if i < 512 then
    if s.flag F.NOC_CFG_MAINT (i / 8) then (s.commitBlock .ARB i).holdRouter (i / 8) true else s.setFld F.ARB_STATUS_PEND 1 i
  else s.commitBlock .ARB i

/-- The pending commits of router r take effect (R281, R289). -/
def State.routerCommits (s : State) (r : Nat) : State :=
  let s := if s.flag F.NOC_STATUS_CPEND r then s.nocEffect r false else s
  (List.range 8).foldl (fun (s : State) k =>
    let i := 8 * r + k
    if s.flag F.ARB_STATUS_PEND i then ((s.setFld F.ARB_STATUS_PEND 0 i).commitBlock .ARB i).holdRouter r false else s) s

/-- R276: TIME lies in a quiet slot: cycles 1,016 to 1,023 of a frame of 1,024 network cycles. -/
def State.inQuiet (s : State) : Bool := decide (4064 ≤ s.now % 4096)

/-- QUIET_SLOT: R276, R281, R289: cycle 1,016 of the next frame whose quiet slot has not begun comes; pending commits of the
routers take effect. -/
def State.quietSlot (s : State) : State :=
  let f := if s.inQuiet then s.now / 4096 + 1 else s.now / 4096
  (s.atTime (4096 * f + 4064)).forAll (List.range 64) State.routerCommits

/-- TOKEN_REFILL: R275: the bucket of the NI on port p of router r gains a token, up to 4. -/
def State.tokenRefill (s : State) (r p : Nat) : State :=
  if r < 64 ∧ niExists r p then s.setFld F.NOC_NISTAT_TOKENS (min 4 (s.fld F.NOC_NISTAT_TOKENS r p + 1)) r p else s

/-! ### The common arbiter (R287) -/

/-- R29: the arbiter exists. -/
def arbExists (i : Nat) : Bool := if i < 512 then portExists (i / 8) (i % 8) else decide (i < 781)

/-- R288: requester r exists at arbiter i (R159, R177, R272, R300). -/
def arbRequester (i r : Nat) : Bool :=
  if i < 512 then portExists (i / 8) r
  else if i < 768 then decide (r < 2)
  else if i < 780 then decide (r < 7)
  else decide (r < 3)

/-- R287: the waits and the hold of n cycles; the hold limit cuts the owner. -/
def State.arbCycles (s : State) (i : Nat) (req : List Nat) (n : Nat) : State :=
  let a := s.arb i
  let w := req.foldl (fun (t : Tab Nat) r => if a.owner = some r then t else t.set r (t.get r 0 + n) 0) a.wait
  let s := s.modArb i (fun x => { x with wait := w })
  match a.owner with
  | none => s
  | some o =>
    let h := a.held + n
    let s := s.modArb i (fun x => { x with held := h })
    let lim := s.fld F.ARB_CFG_HOLD i o
    if lim ≠ 0 ∧ h > lim then
      s.setFld F.ARB_STATUS_CUT (s.fld F.ARB_STATUS_CUT i ||| 2 ^ o) i
    else s

/-- The requester with the largest wait, the lowest on ties. -/
def largestWait (w : Tab Nat) : List Nat → Option Nat
  | [] => none
  | r :: rs => match largestWait w rs with
    | some q => if w.get r 0 < w.get q 0 then some q else some r
    | none => some r

/-- The first requester with the highest priority, scanning from last + 1 round-robin. -/
def State.highestPrio (s : State) (i last : Nat) (e : List Nat) : Option Nat :=
  let order := ((List.range 8).map (fun k => (last + 1 + k) % 8)).filter (e.contains ·)
  let top := order.foldl (fun m r => max m (s.fld F.ARB_CFG_PRIO i r)) 0
  order.find? (fun r => s.fld F.ARB_CFG_PRIO i r == top)

/-- R287: the owner goes. -/
def State.arbRelease (s : State) (i : Nat) : State :=
  (s.modArb i (fun x => { x with owner := none })).setFld F.ARB_STATUS_OWNED 0 i

/-- R29, R476: the monitor and port at which arbiter i's grants are counted; none: the secure bank's arbiter. -/
def arbPmon (i : Nat) : Option (Nat × Nat) :=
  if i < 512 then some (i / 8, i % 8)
  else if i < 768 then some (76 + (i - 512), 0)
  else if i < 780 then some (64 + (i - 768), 0)
  else none

/-- R287: requester w becomes the owner (R288, R476: the counts). pass: whose requests pass the monitor's filter. -/
def State.arbTake (s : State) (i w : Nat) (forced : Bool) (pass : Nat → Bool) : State :=
  let wt := (s.arb i).wait.get w 0
  let s := match arbPmon i with | some q => s.pmonEvent q.1 0x05 q.2 1 (pass w) | none => s
  let s := s.modArb i (fun x => { x with owner := some w, last := w, wait := x.wait.set w 0 0, used := 0, held := 0 })
  let s := (s.setFld F.ARB_STATUS_OWNER w i).setFld F.ARB_STATUS_OWNED 1 i
  let s := (s.count F.ARB_CNT_GRANTS i w).count F.ARB_CNT_FORCED i w 0 (bit forced)
  s.setFld F.ARB_CNT_MAXWAIT (min 0xFFFF (max wt (s.fld F.ARB_CNT_MAXWAIT i w))) i w

/-- R287: the decision of a cycle in which the owner's transfer ends at a boundary, or in which there is no owner. -/
def State.arbDecide (s : State) (i : Nat) (req : List Nat) (pass : Nat → Bool) : State :=
  let cut := s.fld F.ARB_STATUS_CUT i
  let a := s.arb i
  let e := req.filter (fun r => !cut.testBit r)
  let f := e.filter (fun r => s.fld F.ARB_CFG_WAIT i r != 0 && decide (s.fld F.ARB_CFG_WAIT i r ≤ a.wait.get r 0))
  let s := match a.owner with
    | some o =>
      let b := s.fld F.ARB_CFG_BURST i o
      let go : Bool := !req.contains o || cut.testBit o || (b != 0 && decide (b ≤ a.used)) || f.any (· != o)
      if go then s.arbRelease i else s
    | none => s
  if (s.arb i).owner ≠ none then s
  else match largestWait (s.arb i).wait f with
    | some w => s.arbTake i w true pass
    | none => match s.highestPrio i (s.arb i).last e with
      | some w => s.arbTake i w false pass
      | none => s

/-- The requesters of a mask that the arbiter has. -/
def arbMask (i : Nat) (m : Byte) : List Nat := (List.range 8).filter (fun r => m.getLsbD r && arbRequester i r)

/-- The requesters of a DRAM front end that have an access waiting (R300). -/
def State.dramReq (s : State) (k : Nat) : List Nat :=
  (List.range 7).filter (fun r => ((s.dmc k).offer r).isSome)

/-- The requesters of a slice's port B or of the secure bank that have an access waiting (R159, R177). -/
def State.portReq (s : State) (i : Nat) : List Nat := (List.range 8).filter (fun r => (s.arb i).wq.any (fun w => w.req == r))

/-- Arbiters 512 to 767 and 780 take their requests from the accesses that wait at them, the DRAM front ends from their input
queues, and the routers' arbiters from the packets on the mesh, which an event names. -/
def State.arbRequests (s : State) (i : Nat) (req : Byte) : List Nat :=
  if i < 512 then arbMask i req
  else if 768 ≤ i ∧ i < 780 then s.dramReq (i - 768)
  else s.portReq i

/-- ARB_HOLD_CUT: R287: cycles pass inside a transfer, and an owner that exceeds its hold limit is cut. -/
def State.arbHoldCut (s : State) (i : Nat) (req : Byte) (n : Nat) : State :=
  if arbExists i then s.arbCycles i (s.arbRequests i req) n else s

end Sys2Proof.Machine
end

