-- ==== Sys2Proof/Machine/RegWrite.lean ====
section
/-!
DEFINITION. Reads and writes of control space: which register, log word, mailbox word or buffer word an address names (R26,
R28), who may reach it (R32, R469), and what a write or read of it does, by access type (R7 to R11) or by the register's own
rule.
-/
namespace Sys2Proof.Machine

open Sys2Proof

/-! ### What an address names -/

/-- What a control-space word is. -/
inductive CtlItem where
  | reg (r : RegId) (i j k : Nat)
  | errRec (i w : Nat)
  | mbox (j off : Nat)
  | slot (i w : Nat)
  | result (b w : Nat)
  | plic (off : Nat)
  deriving DecidableEq, Repr

/-- The indices of an offset in a register's array. -/
def regIndex (r : RegId) (off : Nat) : Option (Nat × Nat) :=
  let d := r.desc
  if off < d.off then none
  else
    let o := off - d.off
    let j := if d.n1 = 1 then 0 else o / d.s1
    let o' := o - j * d.s1
    let k := if d.n2 = 1 then 0 else o' / d.s2
    if j < d.n1 ∧ k < d.n2 ∧ o' = k * d.s2 then some (j, k) else none

/-- The first register of a list that lies at an offset. -/
def findReg (off : Nat) : List RegId → Option (RegId × Nat × Nat)
  | [] => none
  | r :: rs => match regIndex r off with
    | some (j, k) => some (r, j, k)
    | none => findReg off rs

/-- The block instance at an address. -/
def findBlock (a : Nat) : List Block → Option (Block × Nat × Nat)
  | [] => none
  | b :: bs =>
    let p := b.place
    if p.1 ≤ a ∧ a < p.1 + p.2.1 * p.2.2 then some (b, (a - p.1) / p.2.2, (a - p.1) % p.2.2) else findBlock a bs

/-- R29, R268, R288, R289: the register exists in this instance. -/
def instHas (r : RegId) (i j : Nat) : Bool :=
  match r with
  | .ARB_CFG => arbExists i && arbRequester i j
  | .ARB_CNT => arbExists i && arbRequester i j
  | .ARB_COMMIT => arbExists i
  | .ARB_STATUS => arbExists i
  | .NOC_NI => niExists i j
  | .NOC_NISTAT => niExists i j
  | .NOC_ROUTE => niExists i (niOfTable j)
  | _ => true

/-- Where the interrupt controller lies (R28). -/
def plicBase : Nat := 0x001810000000
/-- Its size. -/
def plicSize : Nat := 0x4000000

/-- R26, R28: what the word at a control-space address is. -/
def ctlItem (a : Nat) : Option CtlItem :=
  if plicBase ≤ a ∧ a < plicBase + plicSize then some (.plic (a - plicBase))
  else match findBlock a Block.all with
    | none => none
    | some (b, i, off) =>
      if b = .ERR ∧ 0x8000 ≤ off then some (.errRec ((off - 0x8000) / 64) ((off - 0x8000) % 64 / 8))
      else if b = .MGT ∧ (off < 0x420 ∨ (0x800 ≤ off ∧ off < 0xC20)) then some (.mbox i off)
      else if b = .SMP ∧ 0x10000 ≤ off ∧ off < 0x11000 then some (.slot ((off - 0x10000) / 256) ((off - 0x10000) % 256 / 8))
      else if b = .SMP ∧ 0x80000 ≤ off then some (.result ((off - 0x80000) / 0x20000) ((off - 0x80000) % 0x20000 / 8))
      else match findReg off (blockRegs b) with
        | some (r, j, k) => if instHas r i j then some (.reg r i j k) else none
        | none => none

/-! ### Regions (R27) -/

/-- The regions of R27. -/
inductive Region where
  | dram
  | slice (n : Nat)
  | fabric (x : Nat)
  | engine (e : Nat)
  | bank
  | block (b : Block) (i : Nat)
  | mgt
  | plic
  deriving DecidableEq, Repr

/-- R26, R27: the region of an address; none: unmapped. -/
def regionAt (a : Nat) : Option Region :=
  if a < 0x000600000000 then some .dram
  else if 0x001000000000 ≤ a ∧ a < 0x001010000000 then some (.slice ((a - 0x001000000000) / 0x100000))
  else if 0x001100000000 ≤ a ∧ a < 0x001104000000 then some (.fabric ((a - 0x001100000000) / 0x100000))
  else if 0x001200000000 ≤ a ∧ a < 0x001200100000 then some .bank
  else if 0x001300000000 ≤ a ∧ a < 0x001301000000 then some (.engine ((a - 0x001300000000) / 0x10000))
  else if 0x001800090000 ≤ a ∧ a < 0x0018000a0000 then some .mgt
  else if plicBase ≤ a ∧ a < plicBase + plicSize then some .plic
  else match findBlock a Block.all with
    | some (b, i, _) => if b = .ARB ∧ !(arbExists i) then none else some (.block b i)
    | none => none

/-- R262: the router and port that serve a region other than DRAM; port 0 stands for the router itself. -/
def Region.place : Region → Nat × Nat
  | .dram => (0, 0)
  | .slice n => (n / 4, 4)
  | .fabric x => (x, 5)
  | .engine e => (e / 4, 4)
  | .bank => (60, 7)
  | .mgt => (63, 7)
  | .plic => (27, 7)
  | .block b i =>
    match b with
    | .CE => (i / 4, 4)
    | .TSET => (i / 4, 4)
    | .PIN => (i / 16, 4)
    | .FCU => (i, 4)
    | .SLC => (i / 4, 4)
    | .FAB => (i, 5)
    | .DMC => dramPort i
    | .SWP => (bridgeRouter i, 6)
    | .LN => (quadRouter (i / 4), 6)
    | .LNQ => (quadRouter i, 6)
    | .SMP => (59, 6)
    | .ICE => (59, 7)
    | .SBK => (60, 7)
    | .CFG => (62, 7)
    | .SCR => (62, 7)
    | .DBG => (55, 7)
    | .NOC => (i, 0)
    | .ARB =>
      if i < 512 then (i / 8, 0)
      else if i < 768 then ((i - 512) / 4, 4)
      else if i < 780 then dramPort (i - 768) else (60, 7)
    | .PMON =>
      if i < 64 then (i, 0)
      else if i < 76 then dramPort (i - 64)
      else if i < 332 then ((i - 76) / 4, 4)
      else if i < 396 then (i - 332, 4) else (bridgeRouter (i - 396), 6)
    | _ => (63, 7)

/-- R33: the power domain of a region; none: NET, SYS, HALO or SBK. The ICE register block on port 7 of router (3, 7) lies in none that
a command switches (DESIGN CHOICE, log entry 63: R33 places the channels' ICE datapaths, not this block). -/
def Region.domain : Region → Option Nat
  | .dram => none
  | .slice n => some (domSL (n / 4))
  | .fabric x => some (domFS x)
  | .engine e => some (domCL (e / 4))
  | .bank => none
  | .mgt => none
  | .plic => some domL3
  | .block b i =>
    match b with
    | .CE => some (domCL (i / 4))
    | .TSET => some (domCL (i / 4))
    | .PIN => some (domCL (i / 16))
    | .FCU => some (domCL i)
    | .SLC => some (domSL (i / 4))
    | .FAB => some (domFS i)
    | .DMC => some (domDM i)
    | .SWP => some (domSB i)
    | .LN => some (domLQ (i / 4))
    | .LNQ => some (domLQ i)
    | .SMP => some domSMP
    | .ARB =>
      if i < 512 then none
      else if i < 768 then some (domSL ((i - 512) / 4))
      else if i < 780 then some (domDM (i - 768)) else none
    | .PMON => pmonDom i
    | _ => none

/-! ### Rights (R32, R469) -/

/-- Master ID ranges (R30). -/
def isEngineMid (m : Nat) : Bool := decide (m < 256)
def isSectorMid (m : Nat) : Bool := decide (256 ≤ m ∧ m < 320)
def isCoreMid (m : Nat) : Bool := decide (320 ≤ m ∧ m < 328)
def isBridgeMid (m : Nat) : Bool := decide (330 ≤ m ∧ m < 346)

/-- R469: what the debug master's level grants. -/
def State.debugRight (s : State) (g : Region) (write : Bool) : Bool :=
  let l := s.dbgLevel
  let plain : Bool := decide ((if write then 2 else 1) ≤ l)
  match g with
  | .bank => false
  | .block .SBK _ => false
  | .block .LCS _ => !write && decide (3 ≤ l)
  | .block .CLK _ => decide (3 ≤ l)
  | .block .PWR _ => decide (3 ≤ l)
  | .block .RST _ => decide (3 ≤ l)
  | .block .WDT i => if i = 8 then decide (3 ≤ l) else plain
  | .block .DBG i => if i = 1 then decide (1 ≤ l) else plain
  | _ => plain

/-- R469, R473: an address of the virtual terminal. -/
def isVtAddr (a : Nat) : Bool := decide (0x0018000C0100 ≤ a ∧ a < 0x0018000C0200)

/-- The region whose rights hold for n words from an address: the virtual terminal, which level 1 grants to the debug master,
counts as an instance 1 of the DBG block (R469, log entry 49). -/
def rightsRegion (g : Region) (a n : Nat) : Region :=
  if g = .block .DBG 0 ∧ isVtAddr a ∧ isVtAddr (a + 8 * (n - 1)) then .block .DBG 1 else g

/-- R32: master m has the right to a region. The secure bank's rights by offset are checked by the bank (R176). -/
def State.right (s : State) (m : Nat) (g : Region) (write : Bool) : Bool :=
  if m = 328 then true
  else if m = 329 then s.debugRight g write
  else
    let core := isCoreMid m
    let sector := isSectorMid m
    let bridge := isBridgeMid m
    let memory := isEngineMid m || sector || core || bridge
    match g with
    | .dram => memory || m == 346 || m == 347
    | .slice _ => memory
    | .fabric _ => memory
    | .engine _ => memory
    | .bank => m == 348 || m == 346
    | .mgt => sector || core || bridge
    | .plic => sector || core || bridge
    | .block b i =>
      match b with
      | .SBK => false
      | .LCS => false
      | .CLK => false
      | .PWR => false
      | .RST => false
      | .WDT => core && i == m - 320 && decide (i < 8)
      | .MGT => (decide (i < 8) && m == 320 + i) || (decide (8 ≤ i) && m == 330 + (i - 8))
      | .CFG => sector || core || bridge || m == 347
      | .SCR => sector || core || bridge || m == 347
      | _ => sector || core || bridge

/-! ### Writes -/

/-- R7: a write of a register whose fields follow their access types alone: RWS bits to the shadow, RW bits set, W1C bits
cleared. -/
def State.plainWrite (s : State) (r : RegId) (i j k : Nat) (v : Word) : State :=
  let d := r.desc
  if isShadowed r then
    let m := BitVec.ofNat 64 d.rws &&& (if r = .NOC_CFG then ~~~ (0xFF#64 &&& ~~~ (BitVec.ofNat 64 (portMask i))) else BitVec.allOnes 64)
    s.setShadow r ((s.shadowReg r i j k &&& ~~~ m) ||| (v &&& m)) i j k
  else
    let m := BitVec.ofNat 64 d.rw
    let old := s.reg r i j k
    let c := v &&& BitVec.ofNat 64 d.w1c
    s.setReg r (((old &&& ~~~ m) ||| (v &&& m)) &&& ~~~ c) i j k

/-- The set bits of a number below n, lowest first. -/
def setBits (n v : Nat) : List Nat := (List.range n).filter (fun i => v.testBit i)

/-- R365: SWP_DEVID locks for good once LOCK is set. -/
def State.writeDevid (s : State) (v : Word) : Status × State :=
  let m : Word := 0x800000000007FFFF#64
  let old := s.reg .SWP_DEVID
  if old.getLsbD 63 then (if v &&& m = old then .ok else .edeny, s)
  else (.ok, s.setReg .SWP_DEVID (v &&& m))

/-- R392: a write of ERR_CKCTRL or ERR_CKDATA. -/
def State.writeChecker (s : State) (r : RegId) (mid : MasterId) (v : Word) : Status × State :=
  if mid ≠ 328 ∧ mid ≠ 329 then (.edeny, s)
  else if r = .ERR_CKDATA then (.ok, s.plainWrite r 0 0 0 v)
  else
    let inst := fldOf F.ERR_CKCTRL_INST v
    let bad : Bool := match fldOf F.ERR_CKCTRL_KIND v with
      | 0 => false
      | 1 => decide (12 ≤ inst)
      | 2 => inst != 0
      | _ => true
    (.ok, if bad then s.raise F.ERR_STATUS_CFGERR else s.plainWrite r 0 0 0 v)

/-- R466, R480: a write of DBG_CTRL: HOLD_WDT by master 329 at level 3 only; a write that clears it while Mbana is halted
restarts watchdog 8. -/
def State.writeDbgCtrl (s : State) (mid : MasterId) (v : Word) : Status × State :=
  let old := s.fld F.DBG_CTRL_HOLD_WDT
  let new := fldOf F.DBG_CTRL_HOLD_WDT v
  let t := s.setFld F.DBG_CTRL_INSPECT (fldOf F.DBG_CTRL_INSPECT v)
  if new = old then (.ok, t)
  else if mid ≠ 329 ∨ s.dbgLevel < 3 then (.edeny, t)
  else
    let t := t.setFld F.DBG_CTRL_HOLD_WDT new
    (.ok, if new = 0 ∧ (s.hart 8).halted then t.wdtRestart 8 else t)

/-- R310: the NI of channel k has ACCEPT = 0 and DRAINED = 1. -/
def State.channelQuiet (s : State) (k : Nat) : Bool :=
  let p := dramPort k
  !(s.flag F.NOC_NI_ACCEPT p.1 p.2) && s.niIdle (8 * p.1 + p.2)

/-- R454: any other write of a GPIO register breaks an unlock sequence; OE, OD and LKMASK lock per pin. -/
def State.writeGpio (s : State) (r : RegId) (v : Word) : Status × State :=
  match r with
  | .GPIO_LOCK => (.ok, s.writeGpioLock v)
  | .GPIO_OE => s.cancelLock.writeGpioLocked r v
  | .GPIO_OD => s.cancelLock.writeGpioLocked r v
  | .GPIO_LKMASK => s.cancelLock.writeGpioLocked r v
  | .GPIO_PMMASK => (.ok, s.cancelLock.writePmmask v)
  | _ => (.ok, s.cancelLock.plainWrite r 0 0 0 v)

/-- A write of 1 to bit 0 of a COMMIT register. -/
def ifGo (v : Word) (s t : State) : State := if v.getLsbD 0 then t else s

/-- What a write of a register does, and its status. A register without a rule of its own is written by access type (R7). -/
def State.regWrite (s : State) (mid : MasterId) (r : RegId) (i j k : Nat) (v : Word) : Status × State :=
  match r with
  | .CE_CTRL => (.ok, s.writeCeCtrl i v)
  | .CE_COMMIT => (.ok, ifGo v s (s.ceCommit i))
  | .TSET_COMMIT => (.ok, ifGo v s (s.tsetCommit i))
  | .PIN_CFG => (.ok, s.writePinCfg i v)
  | .FCU_COMMIT => (.ok, ifGo v s (s.fcuCommit i))
  | .FCU_CLR =>
    let s := s.forAll (setBits 4 (fldOf F.FCU_CLR_SLOT v)) (fun s n => s.fcuClearSlot i n)
    (.ok, s.forAll (setBits 16 (fldOf F.FCU_CLR_PIN v)) (fun s n => s.fcuClearPin i n))
  | .FCU_RRP => (.ok, s.writeRrp i j (fldOf F.FCU_RRP_RP v))
  | .SLC_CTRL => (.ok, s.writeSlcCtrl i v)
  | .SBK_CTRL => (.ok, ifGo v s (s.flushLog.bankWipe 4))
  | .FAB_COMMIT => (.ok, ifGo v s (s.fabCommit i))
  | .CFG_CTRL => (.ok, s.writeCfgCtrl v)
  | .CFG_SRC => (.ok, s.writeCfgSrc v)
  | .SCR_PERIOD =>
    let p := fldOf F.SCR_PERIOD_PERIOD v
    (.ok, if 10 ≤ p ∧ p ≤ 10000 then s.setPeriod j p else s.raise F.SCR_STATUS_CFGERR)
  | .ARB_COMMIT => (.ok, ifGo v s (s.arbCommit i))
  | .NOC_COMMIT => (.ok, ifGo v s (s.nocCommit i))
  | .DMC_CTRL => (.ok, if fldOf F.DMC_CTRL_PAGE v = 3 then s.raise F.DMC_STATUS_CFGERR i else s.plainWrite r i j k v)
  | .DMC_CMD => (.ok, s.writeDmcCmd i v (s.channelQuiet i) s.userMode)
  | .DMC_ILV => s.writeIlv i v
  | .ICE_CTRL => s.writeIceCtrl mid v
  | .ICE_COMMIT => (.ok, ifGo v s s.iceCommit)
  | .ICE_RSTAT =>
    (.ok, if fldOf F.ICE_RSTAT_RATE v < 8 then s.raise F.ICE_STATUS_CFGERR else s.plainWrite r i j k v)
  | .LN_COMMIT => (.ok, ifGo v s (s.lnCommit i))
  | .LN_QCOMMIT => (.ok, ifGo v s (s.lnqCommit i))
  | .LN_TEST => (.ok, s.writeLnTest i v)
  | .LN_ESCAN => (.ok, s.writeEscan i v)
  | .SWP_COMMIT => (.ok, ifGo v s (s.swpCommit i))
  | .SWP_KEY => if v.getLsbD 0 then s.swpKeyNext i mid else (.ok, s)
  | .SWP_QHEAD => (.ok, s.writeQhead i (fldOf F.SWP_QHEAD_HEAD v))
  | .SWP_RTHEAD => (.ok, s.writeRthead i (fldOf F.SWP_RTHEAD_HEAD v))
  | .SWP_DEVID => s.writeDevid v
  | .TB_CTRL => (.ok, s.writeTbCtrl v)
  | .TB_STEP => (.ok, s.writeTbStep v)
  | .ERR_PTR => (.ok, s.writeErrPtr v)
  | .ERR_CKCTRL => s.writeChecker r mid v
  | .ERR_CKDATA => s.writeChecker r mid v
  | .MGT_MBCTL => (.ok, ifGo v s (s.mailboxGo i false))
  | .CLK_COMMIT => (.ok, ifGo v s s.clkCommit)
  | .PWR_REQ => (.ok, s.pwrReqGo v)
  | .RST_CTRL => (.ok, s.rstCtrlGo v)
  | .GPIO_OUT => s.writeGpio r v
  | .GPIO_OE => s.writeGpio r v
  | .GPIO_OD => s.writeGpio r v
  | .GPIO_IN => s.writeGpio r v
  | .GPIO_LKMASK => s.writeGpio r v
  | .GPIO_LOCK => s.writeGpio r v
  | .GPIO_PMMASK => s.writeGpio r v
  | .GPIO_PMVAL => s.writeGpio r v
  | .GPIO_PMCTL => s.writeGpio r v
  | .GPIO_WAKE => s.writeGpio r v
  | .GPIO_STATUS => s.writeGpio r v
  | .PMX_EN => s.writePmxEn mid v
  | .PMX_TCAP => (.ok, s.writeTcap j v)
  | .SYS_CORE_RUN => (.ok, s.coreRun v)
  | .SYS_IRQPOST => (.ok, s.irqPost v)
  | .WDT_CTRL => s.writeWdt r i v
  | .WDT_PERIOD => s.writeWdt r i v
  | .WDT_KICK => (.ok, s.wdtKick i v)
  | .DBG_CTRL => s.writeDbgCtrl mid v
  | .DBG_PMCMD => (.ok, if fldOf F.DBG_PMCMD_GO v = 1 then s.pmonSend (fldOf F.DBG_PMCMD_OP v) else s)
  | .DBG_EWCOMMIT => (.ok, ifGo v s s.ewCommit)
  | .DBG_VT_TX => s.vtTxWrite j mid v
  | .DBG_VT_RX => s.vtRxWrite j mid v
  | .PMON_CTL => (.ok, s.writePmonCtl i v)
  | .PMON_COMMIT => (.ok, ifGo v s (s.pmonCommit i))
  | .SMP_STATUS => if mid = 328 then (.ok, s.plainWrite r i j k v) else (.edeny, s)
  | .SMP_SEAL => if mid = 328 then (.ok, s) else (.edeny, s)
  | .SMP_CALID => if mid = 328 then (.ok, s) else (.edeny, s)
  | .SMP_START => if mid = 328 then (.ok, s) else (.edeny, s)
  | .SMP_CLAIM => if mid = 328 then (.ok, s) else (.edeny, s)
  | .SMP_WIN => if mid = 328 then (.ok, s) else (.edeny, s)
  | .SMP_CNT => if mid = 328 then (.ok, s) else (.edeny, s)
  | .SMP_OOC => if mid = 328 then (.ok, s) else (.edeny, s)
  | _ => (.ok, s.plainWrite r i j k v)

/-- R398: a write of a mailbox window's buffers: the request while no command waits or runs; the reply is Mbana's. -/
def State.mboxWrite (s : State) (mid : MasterId) (j off : Nat) (v : Word) : Status × State :=
  let busy : Bool := s.flag F.MGT_MBSTAT_PEND j || s.flag F.MGT_MBSTAT_BUSY j
  if off < 0x420 then
    if busy then (.edeny, s) else (.ok, { s with regs := s.regs.set (mboxAddr j off) v 0 })
  else if mid = 328 then (.ok, { s with regs := s.regs.set (mboxAddr j off) v 0 })
  else (.edeny, s)

/-- A write of one control-space word (R493); a poisoned word is not applied (R388). -/
def State.ctlWrite (s : State) (mid : MasterId) (a : Nat) (v : Word) (p : Bool) : Status × State :=
  match ctlItem a with
  | none => (.eaddr, s)
  | some it =>
    if p then (.epoison, s)
    else match it with
      | .reg r i j k => s.regWrite mid r i j k v
      | .errRec _ _ => (.ok, s)
      | .mbox j off => s.mboxWrite mid j off v
      | .slot i w => s.slotWrite i w mid v
      | .result _ _ => (if mid = 328 then .ok else .edeny, s)
      | .plic off => (.ok, s.plicWrite off v)

/-! ### Reads -/

/-- DBG_STATUS.SOURCE reads 1 in BLANK, where level 3 is granted without a grant (R470). -/
def State.dbgStatus (s : State) : Word :=
  let w := putFld F.DBG_STATUS_LEVEL s.dbgLevel (s.reg .DBG_STATUS)
  if s.fuses.lc = 0 then putFld F.DBG_STATUS_SOURCE 1 w else w

/-- NOC_NISTAT as it reads (R275, R289). -/
def State.niStatus (s : State) (r p : Nat) : Word :=
  let x := s.ni (8 * r + p)
  let dr := s.niRefuses r p && s.niIdle (8 * r + p)
  let w := putFld F.NOC_NISTAT_OUTST x.outst (s.reg .NOC_NISTAT r p)
  putFld F.NOC_NISTAT_DRAINED (bit dr) (putFld F.NOC_NISTAT_INFL x.infl w)

/-- FCU_STATUS as it reads (R139, R146). -/
def State.fcuStatus (s : State) (c : Nat) : Word :=
  let f := s.fcu c
  let w := putFld F.FCU_STATUS_OCC f.fifo.length (s.reg .FCU_STATUS c)
  let w := putFld F.FCU_STATUS_AOCC f.accq.length w
  let w := putFld F.FCU_STATUS_NG (s.fcuGangs c) w
  putFld F.FCU_STATUS_MARKA (s.accMark c) (putFld F.FCU_STATUS_MARK (s.recordMark c) w)

/-- PIN_STATUS as it reads: the balls of the channel, 0 while high-impedance (R104, R133). -/
def State.pinStatus (s : State) (p : Nat) : Word :=
  let c := s.chan p
  let oe := s.flag F.PIN_CFG_OE p
  let w := putFld F.PIN_STATUS_PDRV (bit (oe && c.pdrv)) (s.reg .PIN_STATUS p)
  let w := putFld F.PIN_STATUS_PDEN (bit (oe && c.pden)) w
  putFld F.PIN_STATUS_PCMPL (bit c.compL) (putFld F.PIN_STATUS_PCMPH (bit c.compH) w)

/-- The value that a read of a register returns (R7): the shadow of an RWS register, 0 for a write-only one, and for status
registers what the part holds at that moment. TIME, SMP_CLAIM and the terminal entries are read by regRead. -/
def State.regValue (s : State) (r : RegId) (i j k : Nat) : Word :=
  match r with
  | .CE_STATUS => s.ceStatus i
  | .FCU_STATUS => s.fcuStatus i
  | .FCU_GSTAT => putFld F.FCU_GSTAT_BUSY (bit (s.fcuBusy i j)) (s.reg r i j)
  | .PIN_STATUS => s.pinStatus i
  | .SMP_STATUS => s.smpStatus
  | .SMP_SEAL => putFld F.SMP_SEAL_SEAL s.fuses.sealNo (s.reg r)
  | .SMP_WIN => s.smpWin
  | .SMP_OOC => s.smpOoc j
  | .LCS_STATUS => putFld F.LCS_STATUS_STATE s.fuses.lc (s.reg r)
  | .TB_STEP => 0
  | .TB_STATUS => putFld F.TB_STATUS_ALIGNED (bit s.aligned) (s.reg r)
  | .NOC_NISTAT => s.niStatus i j
  | .NOC_STATUS => putFld F.NOC_STATUS_STALL (bit (s.bulkHeld i)) (s.reg .NOC_STATUS i)
  | .DBG_STATUS => s.dbgStatus
  | .WDT_STATUS =>
    putFld F.WDT_STATUS_FROZEN (bit (s.wdtFrozen i)) (putFld F.WDT_STATUS_REMAIN (s.wdtRemain i) (s.reg r i))
  | .PMON_CYC => s.pmonCyc i
  | .GPIO_LOCK => s.io.locked
  | _ => if isShadowed r then s.shadowReg r i j k else s.reg r i j k

/-- R7: the RC fields of a register after a read. -/
def State.clearRc (s : State) (r : RegId) (i j k : Nat) : State :=
  if r.desc.rc = 0 then s else s.setReg r (s.reg r i j k &&& ~~~ (BitVec.ofNat 64 r.desc.rc)) i j k

/-- R133: PIN_STATUS shows the comparator balls of channel p as they stand at the read, synchronised. Nothing in this model fixes
their levels between strobes: they are free values (log entry 2). -/
def State.seeComparators (s : State) (p : Nat) : State :=
  let v := s.fresh 2
  v.2.modChan p (fun c => { c with compH := v.1.getLsbD 0, compL := v.1.getLsbD 1 })

/-- A read of a register: its status, its value, and what the read changes (R7, R199, R371, R473). -/
def State.regRead (s : State) (mid : MasterId) (r : RegId) (i j k : Nat) (inspect : Bool) : Status × Word × State :=
  match r with
  | .SMP_CLAIM =>
    if inspect then (.ok, 0, s) else let q := s.smpClaim mid; (.ok, q.1, q.2)
  | .TB_TIME => let q := s.readTime; (.ok, q.1, if inspect then s else q.2)
  | .PIN_STATUS => let t := s.seeComparators i; (.ok, t.pinStatus i, t)
  | .DBG_VT_TX => s.vtTxRead j mid inspect
  | .DBG_VT_RX => s.vtRxRead j mid inspect
  | _ => (.ok, s.regValue r i j k, if inspect then s else s.clearRc r i j k)

/-- A read of one control-space word: a read of a word that names no register returns 0 with EADDR (R493). -/
def State.ctlRead (s : State) (mid : MasterId) (a : Nat) (inspect : Bool) : WordReply × State :=
  match ctlItem a with
  | none => ({ status := .eaddr }, s)
  | some (.reg r i j k) =>
    let q := s.regRead mid r i j k inspect
    ({ data := q.2.1, status := q.1 }, q.2.2)
  | some (.errRec i w) => ({ data := s.errWord i w }, s)
  | some (.mbox j off) => ({ data := s.regs.get (mboxAddr j off) 0 }, s)
  | some (.slot i w) => ({ data := s.slotRead i w }, s)
  | some (.result b w) => (s.bufRead b w, s)
  | some (.plic off) => let q := s.plicRead off inspect; ({ data := q.1 }, q.2)

/-- REGISTER_WRITE at the block: rights (R32), a power domain that is off (R278), then the word. Answers the status. -/
def State.registerWrite (s : State) (mid : MasterId) (a : Nat) (v : Word) : Status × State :=
  match regionAt a with
  | none => (.eaddr, s)
  | some g =>
    if a % 8 ≠ 0 then (.enarrow, s)
    else if (match g.domain with | some d => !(s.domOn d) || s.fenced d | none => false) then (.easleep, s)
    else if !(s.right mid.toNat (rightsRegion g a 1) true) then (.edeny, s)
    else if g = .dram ∨ g = .bank then (.eaddr, s)
    else s.ctlWrite mid a v false

/-- RC_READ at the block: as registerWrite, for a read. -/
def State.registerRead (s : State) (mid : MasterId) (a : Nat) (inspect : Bool) : WordReply × State :=
  match regionAt a with
  | none => ({ status := .eaddr }, s)
  | some g =>
    if a % 8 ≠ 0 then ({ status := .enarrow }, s)
    else if (match g.domain with | some d => !(s.domOn d) || s.fenced d | none => false) then ({ status := .easleep }, s)
    else if !(s.right mid.toNat (rightsRegion g a 1) false) then ({ status := .edeny }, s)
    else s.ctlRead mid a inspect

end Sys2Proof.Machine
end

