-- ==== Sys2Proof/Machine/Net.lean ====
section
/-!
DEFINITION. Chapter 10's requests and responses: the source NI's checks, the walk over the routers, the border proxy and the
target NI (R262 to R279, R285, R286), what a request does at its target (R158 to R166, R176, R224 to R226, R296, R493), and
the response's way back. A request is held in State.xacts from its issue to its response.
-/
namespace Sys2Proof.Machine

open Sys2Proof

/-! ### Masters and statuses -/

/-- R264: the code of a status. -/
def Status.code : Status → Nat
  | .ok => 0 | .eaddr => 1 | .enarrow => 2 | .edeny => 3 | .easleep => 4 | .edead => 5 | .epoison => 6 | .einteg => 7 | .ecoll => 8

/-- The status of a code. -/
def statusOf : Nat → Status
  | 0 => .ok | 1 => .eaddr | 2 => .enarrow | 3 => .edeny | 4 => .easleep | 5 => .edead | 6 => .epoison | 7 => .einteg | _ => .ecoll

/-- R19, R30, R263: the router and port of the NI of a master. -/
def masterNi (m : Nat) : Nat × Nat :=
  if m < 256 then (m / 4, 4)
  else if m < 320 then (m - 256, 5)
  else if m < 328 then (coreRouter ((m - 320) / 2), 7)
  else if m = 328 then (63, 7)
  else if m = 329 then (55, 7)
  else if m < 346 then (bridgeRouter (m - 330), 6)
  else if m = 346 then (59, 7)
  else if m = 347 then (62, 7)
  else (60, 6)

/-- R278, R296: the status of a request: that of its first word, in address order, that did not complete with OK. -/
def firstFail : List (Nat × Status) → Option (Nat × Status)
  | [] => none
  | f :: fs => match firstFail fs with
    | some g => if g.1 < f.1 then some g else some f
    | none => some f

/-- The status of a request. -/
def Xact.status (x : Xact) : Status := match firstFail x.fails with | some f => f.2 | none => .ok

/-- The response's words: those of a read, or the old value of an atomic. -/
def Xact.reply (x : Xact) : List (Word × Bool) :=
  match x.kind with
  | .write => []
  | .reserved => []
  | _ => (List.range x.len).map (fun i => (x.words.get i 0, x.poison.get i false))

/-! ### Monitors (R476, R477) -/

/-- A packet as a monitor's filter sees it. -/
structure PktInfo where
  mid : MasterId
  rt : Bool
  inspect : Bool
  addr : Nat
  words : Nat
  deriving DecidableEq, Repr

/-- R265, R476: the units of a packet. -/
def PktInfo.units (i : PktInfo) : Nat := 1 + (if i.rt then (i.words + 1) / 2 else (i.words + 3) / 4)

/-- R476: events 0x01 to 0x03 of a packet at a monitor. -/
def State.pmonPacket (s : State) (i port : Nat) (p : PktInfo) : State :=
  if !(s.pmonCounts i) then s
  else
    let ok := s.pmonPasses i p.mid p.rt p.inspect p.addr
    ((s.pmonEvent i 0x01 port 1 ok).pmonEvent i 0x02 port p.units ok).pmonEvent i 0x03 port p.words ok

/-- R476: a packet leaves a router by an output. -/
def State.pmonHop (s : State) (r out : Nat) (p : PktInfo) : State :=
  let s := s.pmonPacket r out p
  if p.rt then s.pmonEvent r 0x10 out 1 else s

/-- The monitor at the block that serves an address (R29), if it has one. -/
def State.pmonOf (s : State) (g : Region) (a : Nat) : Option Nat :=
  match g with
  | .dram => some (64 + s.dramChannel a)
  | .slice n => some (76 + n)
  | .engine e => some (332 + e / 4)
  | .block .CE i => some (332 + i / 4)
  | .block .TSET i => some (332 + i / 4)
  | .block .PIN i => some (332 + i / 16)
  | .block .FCU i => some (332 + i)
  | .block .SWP i => some (396 + i)
  | _ => none

/-! ### Source checks (R26, R27, R262, R266, R268, R275, R278) -/

/-- The parts of a DRAM request: first word and words, split where G bytes end (R262). -/
def splitAt (a g : Nat) : Nat → Nat → Nat → List (Nat × Nat)
  | 0, _, _ => []
  | _ + 1, first, 0 => if first = 0 then [(0, 0)] else []
  | f + 1, first, left + 1 =>
    let n := min (left + 1) ((g - (a + 8 * first) % g) / 8)
    (first, n) :: (if left + 1 ≤ n then [] else splitAt a g f (first + n) (left + 1 - n))

/-- The parts of a request (R262). -/
def State.partsOfReq (s : State) (x : Xact) (g : Region) : List (Nat × Nat) :=
  if g = .dram ∧ !x.narrow then splitAt x.addr s.ilvG (x.len + 1) 0 x.len else [(0, x.len)]

/-- R262: the router and port that serve a part of a request. -/
def State.partPlace (s : State) (x : Xact) (g : Region) (first : Nat) : Nat × Nat :=
  if g = .dram then dramPort (s.dramChannel (x.addr + 8 * first)) else g.place

/-- R33: the power domain behind a part of a request. -/
def State.partDomain (s : State) (x : Xact) (g : Region) (first : Nat) : Option Nat :=
  if g = .dram then some (domDM (s.dramChannel (x.addr + 8 * first))) else g.domain

/-- The route entry by which the NI of a router and port sends to a place (R262, R268); a router's own registers are reached by
the entry of its port 4 (log entry 45). -/
def State.routeTo (s : State) (ni to' : Nat × Nat) : Word :=
  s.reg .NOC_ROUTE ni.1 (tableOf ni.2) (8 * to'.1 + (if to'.2 = 0 then 4 else to'.2))

/-- R26, R27: the address range of a request lies in one region of fitted memory. -/
def State.rangeGood (s : State) (a len : Nat) : Option Region :=
  match regionAt a with
  | none => none
  | some g =>
    let last := a + 8 * len - 1
    if len ≠ 0 ∧ regionAt last ≠ some g then none
    else if g = .dram ∧ s.dramCap ≤ max a last then none
    else some g

/-- R278: what the source NI answers before it sends anything. A fabric master's narrow request is refused by its port (R225). -/
def State.sourceCheck (s : State) (x : Xact) : Option Status :=
  if x.narrow ∧ isSectorMid x.mid.toNat then some .enarrow
  else match s.rangeGood x.addr x.len with
  | none => some .eaddr
  | some _ =>
    if (if x.rt then 6 else 64) < x.len then some .eaddr
    else if x.rt ∧ x.kind = .read then some .edeny
    else if x.rt ∧ !(s.flag F.NOC_NI_RTTX (masterNi x.mid.toNat).1 (masterNi x.mid.toNat).2) then some .edeny
    else none

/-! ### At the target -/

/-- A failure of the word at an index. -/
def State.failWord (s : State) (n i : Nat) (st : Status) : State := s.modXact n (fun x => { x with fails := x.fails ++ [(i, st)] })

/-- The result of a word at an index. -/
def State.takeWord (s : State) (n i : Nat) (r : WordReply) : State :=
  s.modXact n (fun x => { x with words := x.words.set i r.data 0, poison := x.poison.set i r.poison false,
                                 fails := if r.status = .ok then x.fails else x.fails ++ [(i, r.status)] })

/-- Apply an access to the words first to first + count - 1, in address order. -/
def State.eachWord (s : State) (n first count : Nat) (f : State → Nat → WordReply × State) : State :=
  s.forAll ((List.range count).map (first + ·)) (fun s i => let q := f s i; q.2.takeWord n i q.1)

/-- Word i of a request's data. -/
def Xact.par (x : Xact) (i : Nat) : Word × Bool := x.wpar.getD i (0, false)

/-- R166: an operand of an atomic has arrived poisoned: OP, or CMP for CAS64. -/
def Xact.opPoison (x : Xact) (op : AtomicOp) : Bool := (x.par 0).2 || (op == .cas64 && (x.par 1).2)

/-- R158 to R166: words of a request at slice k's port B; an access that ends with ECOLL is counted once. -/
def State.atSlice (s : State) (n : Nat) (x : Xact) (k first count : Nat) : State :=
  let j (i : Nat) : Nat := (x.addr + 8 * i) % 0x100000 / 8
  let s := if (s.sliceBlock k).isNone then s.pmonEvent (76 + k) 0x31 0 count else s
  match x.kind with
  | .read => s.eachWord n first count (fun s i => s.sliceRead x.mid k (j i) x.same)
  | .write =>
    let t := s.eachWord n first count (fun s i => s.sliceWrite x.mid k (j i) (x.par i).1 (x.par i).2 x.same)
    match t.xacts.get n none with
    | some y => if y.fails.any (fun f => f.2 == .ecoll) then t.noteColl k else t
    | none => t
  | .atomic op => s.eachWord n first count (fun s i => s.sliceAtomic x.mid k (j i) op (x.par 0).1 (x.par 1).1 (x.opPoison op) x.same)
  | .reserved => s

/-- R176 to R178: words of a request at the secure bank. -/
def State.atBank (s : State) (n : Nat) (x : Xact) (first count : Nat) : State :=
  let off := x.addr - 0x001200000000
  let j (i : Nat) : Nat := (off + 8 * i) / 8
  if count = 0 then s
  else if !(sbkAllowed x.mid off (8 * x.len) (x.kind != .read)) then (s.bankDeny).failWord n first .edeny
  else match x.kind with
    | .read => s.eachWord n first count (fun s i => s.bankRead x.mid (j i))
    | .write => s.eachWord n first count (fun s i => s.bankWrite x.mid (j i) (x.par i).1 (x.par i).2)
    | .atomic op => s.eachWord n first count (fun s i => s.bankAtomic x.mid (j i) op (x.par 0).1 (x.par 1).1 (x.opPoison op))
    | .reserved => s

/-- R82, R459, R493: words of a request in engine e's local space. -/
def State.atEngine (s : State) (n : Nat) (x : Xact) (e first count : Nat) : State :=
  let off (i : Nat) : Nat := (x.addr + 8 * i) % 0x10000
  match x.kind with
  | .read => s.eachWord n first count (fun s i => (s.localRead e (off i), s))
  | .write => s.eachWord n first count (fun s i =>
      let q := s.localWrite x.mid.toNat e (off i) (x.par i).1 (x.par i).2 x.same; ({ status := q.1 }, q.2))
  | _ => if count = 0 then s else s.failWord n first .edeny

/-- R459, R493: words of a request in control space. -/
def State.atControl (s : State) (n : Nat) (x : Xact) (first count : Nat) : State :=
  match x.kind with
  | .read => s.eachWord n first count (fun s i => s.ctlRead x.mid (x.addr + 8 * i) x.inspect)
  | .write => s.eachWord n first count (fun s i =>
      let q := s.ctlWrite x.mid (x.addr + 8 * i) (x.par i).1 (x.par i).2; ({ status := q.1 }, q.2))
  | _ => if count = 0 then s else s.failWord n first .edeny

/-- The line request of the words first to first + count - 1, which lie in one line (R296). -/
def State.lineReq (s : State) (n : Nat) (x : Xact) (first count : Nat) : LineReq :=
  let a := x.addr + 8 * first
  let p := a % 64 / 8
  let isAtomic : Bool := x.kind != .read && x.kind != .write
  let opPoison : Bool := match x.kind with
    | .atomic op => x.opPoison op
    | _ => false
  { xid := n, first := first, mid := x.mid, rt := x.rt, lam := s.dramLine a, kind := x.kind,
    mask := BitVec.ofNat 8 ((2 ^ count - 1) * 2 ^ p),
    data := (List.range 8).map (fun i => if isAtomic then ((x.par 0).1, opPoison) else if p ≤ i then x.par (first + (i - p)) else (0, false)),
    cmp := (x.par 1).1 }

/-- R474: an inspect read of a line is answered at once and changes nothing. -/
def State.inspectLine (s : State) (n k : Nat) (q : LineReq) : State :=
  match s.performLine k q [] with
  | some (r, t) => { s with free := t.free }.modXact n (·.takeLine q r)
  | none => s.failWord n q.first .easleep

/-- R296, R300: the lines of a part go to the input queues of its channel; a channel that is not up answers EASLEEP. -/
def State.atDram (s : State) (n : Nat) (x : Xact) (first count : Nat) : State :=
  let k := s.dramChannel (x.addr + 8 * first)
  let qs := ((splitAt (x.addr + 8 * first) 64 (count + 1) 0 count).filter (fun p => p.2 != 0)).map
    (fun p => s.lineReq n x (first + p.1) p.2)
  if count = 0 then s
  else if s.dmcState k ≠ dmcReady ∧ s.dmcState k ≠ dmcTransition then s.failWord n first .easleep
  else
    let s := s.modXact n (fun y => { y with left := y.left + qs.length })
    if x.inspect then qs.foldl (fun s q => s.inspectLine n k q) s
    else (s.modDmc k (fun c => { c with wait := c.wait ++ qs })).dramQueues k

/-! ### The arbiter of a slice's port B and of the secure bank (R159, R177, R287) -/

/-- R159, R177: the requester as which a request competes: RT or bulk at a slice; Mbana, the re-encryption engine or the meter core at
the bank. -/
def arbReqOf (g : Region) (x : Xact) : Nat :=
  match g with
  | .bank => if x.mid = 328 then 0 else if x.mid = 346 then 1 else 2
  | _ => if x.rt then 0 else 1

/-- R156, R287: the units of a granted access: port words at a slice, one access at the bank. -/
def arbUnits (g : Region) (x : Xact) (first count : Nat) : Nat :=
  match g with
  | .bank => 1
  | _ => let j := (x.addr + 8 * first) / 8; (j + count - 1) / 4 + 1 - j / 4

/-- A granted access is performed. -/
def State.serveAccess (s : State) (n : Nat) (x : Xact) (g : Region) (first count : Nat) : State :=
  match g with
  | .slice k => s.atSlice n x k first count
  | .bank => s.atBank n x first count
  | _ => s

/-- The first waiting access of arbiter i's owner o is performed; its units count, and its cycles count to the others' waits and the
owner's hold. -/
def State.arbServe (s : State) (i o : Nat) : State :=
  match (s.arb i).wq.find? (fun w => w.req == o) with
  | none => s
  | some w =>
    let s := s.modArb i (fun a => { a with wq := a.wq.erase w })
    match s.xacts.get w.xid none with
    | none => s
    | some x => match regionAt x.addr with
      | none => s
      | some g =>
        let u := arbUnits g x w.first w.count
        let t := (s.serveAccess w.xid x g w.first w.count).modXact w.xid (fun y => { y with left := y.left - 1 })
        (t.arbCycles i (t.portReq i) u).modArb i (fun a => { a with used := a.used + u })

/-- The monitor filter passes the first waiting access of requester r at arbiter i. -/
def State.arbPasses (s : State) (i r : Nat) : Bool :=
  match (s.arb i).wq.find? (fun w => w.req == r), arbPmon i with
  | some w, some q => match s.xacts.get w.xid none with
    | some x => s.pmonPasses q.1 x.mid x.rt x.inspect x.addr
    | none => false
  | _, _ => false

/-- R287: arbiter i grants and performs its waiting accesses one after another, as far as requesters that are not cut wait; an owner
whose access ends and that does not request goes. By fuel. -/
def State.arbDrain (s : State) (i : Nat) : Nat → State
  | 0 => s
  | f + 1 =>
    let s := s.arbDecide i (s.portReq i) (s.arbPasses i)
    match (s.arb i).owner with
    | none => s
    | some o => State.arbDrain (s.arbServe i o) i f

/-- An access arrives at arbiter i. -/
def State.arbArrive (s : State) (i n : Nat) (x : Xact) (g : Region) (first count : Nat) : State :=
  let s := (s.modXact n (fun y => { y with left := y.left + 1 })).modArb i
    (fun a => { a with wq := a.wq ++ [{ req := arbReqOf g x, xid := n, first := first, count := count }] })
  s.arbDrain i ((s.arb i).wq.length + 1)

/-- R159, R177: an access joins its arbiter; one of no words (R158, R165), and an inspect read, which changes nothing (R474), do not. -/
def State.atArbiter (s : State) (i n : Nat) (x : Xact) (g : Region) (first count : Nat) : State :=
  if count = 0 ∨ x.inspect then s.serveAccess n x g first count else s.arbArrive i n x g first count

/-- ARB_GRANT: R287: arbiter i decides at a boundary, after n cycles in which its requesters waited. At a router the owner of the past
n cycles transferred some units and the next owner transfers more; a router that a commit holds grants nothing (R281). A DRAM
front end admits one access of its owner (R300), and grants nothing in a transition (R311). A slice's port B and the secure bank
perform their owner's access. pass: the granted request of a router or a front end passes the monitor's filter. -/
def State.arbGrant (s : State) (i : Nat) (req : Byte) (n units more : Nat) (pass : Bool) : State :=
  if !arbExists i then s
  else
    let rs := s.arbRequests i req
    if i < 512 then
      let s := (s.modArb i (fun x => { x with used := x.used + (if x.owner = none then 0 else units) })).arbCycles i rs n
      if s.bulkHeld (i / 8) then s
      else
        let s := s.arbDecide i rs (fun _ => pass)
        s.modArb i (fun x => { x with used := x.used + (if x.owner = none then 0 else more) })
    else if 768 ≤ i ∧ i < 780 then
      let s := s.arbCycles i rs n
      if s.dmcState (i - 768) = dmcTransition then s
      else
        let s := s.arbDecide i rs (fun _ => pass)
        match (s.arb i).owner with
        | some o => match s.dramAdmit (i - 768) o with
          | some t => t.modArb i (fun x => { x with used := x.used + 1 })
          | none => s
        | none => s
    else (s.arbCycles i rs n).arbDrain i (rs.length + (s.arb i).wq.length + 1)

/-! ### The target -/

/-- R278: what the target does with words first to first + count - 1 of request n. -/
def State.atTarget (s : State) (n : Nat) (x : Xact) (g : Region) (first count : Nat) : State :=
  let write := x.kind != .read
  let isAtomic : Bool := x.kind != .read && x.kind != .write
  if !(s.right x.mid.toNat (rightsRegion g (x.addr + 8 * first) count) write) then (if g = .bank then s.bankDeny else s).failWord n first .edeny
  else if x.kind = .reserved then s.failWord n first .edeny
  else if x.narrow then s.failWord n first .enarrow
  else if isAtomic ∧ 1 < x.len then s.failWord n first .eaddr
  else match g with
    | .dram => s.atDram n x first count
    | .slice k => s.atArbiter (512 + k) n x g first count
    | .fabric _ => s.modXact n (fun y => { y with left := y.left + 1 })
    | .engine e => s.atEngine n x e first count
    | .bank => s.atArbiter 780 n x g first count
    | _ => s.atControl n x first count

/-- R474: an inspect read changes nothing but the request itself. -/
def State.perform (s : State) (n : Nat) (x : Xact) (g : Region) (first count : Nat) : State :=
  let t := s.atTarget n x g first count
  let t := if x.inspect then { s with xacts := t.xacts, free := t.free } else t
  t.modXact n (fun y => { y with left := y.left - 1 })

/-! ### The way to the target -/

/-- R269: a port by which a header can leave a router. -/
def State.portOpen (s : State) (r p : Nat) : Bool := portExists r p && (s.fld F.NOC_CFG_PEN r).testBit p

/-- Where a walk ends: in a router, or dropped in one. -/
inductive WalkEnd where
  | reach (r : Nat)
  | drop (r : Nat)
  deriving DecidableEq, Repr

/-- R269: a header follows its moves. -/
def State.walk (s : State) (p : PktInfo) : Nat → List Nat → WalkEnd × State
  | r, [] => (.reach r, s)
  | r, m :: ms =>
    if s.portOpen r m then
      match meshNext r m with
      | some q => State.walk ((s.passHold r p.rt).pmonHop r m p) p q ms
      | none => (.drop r, s)
    else (.drop r, s)

/-- R269: a header follows its moves and leaves by its exit; port 0 stands for a packet that the last router decodes (R262). -/
def State.walkTo (s : State) (p : PktInfo) (r : Nat) (entry : Word) (exit' : Nat) : WalkEnd × State :=
  match s.walk p r (routeMoves entry) with
  | (.drop q, t) => (.drop q, t)
  | (.reach q, t) => if exit' = 0 then (.reach q, t)
    else if t.portOpen q exit' then (.reach q, (t.passHold q p.rt).pmonHop q exit' p) else (.drop q, t)

/-- A part ends without being performed: its status, and the NI that answers it. -/
def State.failPart (s : State) (n first : Nat) (st : Status) (by' : Option Nat) : State :=
  let hs : List Holder := match by' with
    | some k => [{ ni := k, counted := false, first := first }]
    | none => []
  s.modXact n (fun x => { x with left := x.left - 1, fails := x.fails ++ [(first, st)], holders := x.holders ++ hs })

/-- R277, R284: the target NI accepts a part, which is then performed, or answers EDEAD. -/
def State.acceptPart (s : State) (n : Nat) (x : Xact) (g : Region) (first count : Nat) : State :=
  let pl := s.partPlace x g first
  let key := 8 * pl.1 + pl.2
  if !(s.flag F.NOC_NI_ACCEPT pl.1 pl.2) ∨ (x.rt ∧ !(s.flag F.NOC_NI_RTRX pl.1 pl.2)) then s.failPart n first .edead (some key)
  else
    let s := (s.modNi key (fun i => { i with infl := i.infl + 1 })).modXact n (fun y => { y with holders := y.holders ++ [{ ni := key, counted := true, first := first }] })
    let s := match s.pmonOf g (x.addr + 8 * first) with
      | some i => s.pmonPacket i 0 { mid := x.mid, rt := x.rt, inspect := x.inspect, addr := x.addr, words := x.wpar.length }
      | none => s
    s.perform n x g first count

/-- R286: power-up is requested for domain d, which is off or about to go off: behind the operation that switches it off. -/
def State.requestWake (s : State) (d : Nat) : State :=
  let off := s.pwr.ops.any (fun o => o.dom == d && o.kind == .off)
  if s.pwr.ops.any (fun o => o.dom == d && o.kind != .off) ∨ (s.domOn d ∧ !off) then s else s.startOp { dom := d, kind := .on }

/-- R286: wake-on-access holds a part at a port and requests power-up for its domain. -/
def State.holdPart (s : State) (key d n first count : Nat) : State :=
  (s.modNi key (fun i => { i with held := i.held ++ [(n, first, count)] })).requestWake d

/-- R285, R286: the border proxy: a part for a domain that is off or fenced. -/
def State.borderPart (s : State) (n : Nat) (x : Xact) (g : Region) (first count : Nat) : State :=
  let pl := s.partPlace x g first
  let key := 8 * pl.1 + pl.2
  match s.partDomain x g first with
  | none => if (s.ni key).held ≠ [] then s.modNi key (fun i => { i with held := i.held ++ [(n, first, count)] })
    else s.acceptPart n x g first count
  | some d =>
    if (s.ni key).held ≠ [] then s.modNi key (fun i => { i with held := i.held ++ [(n, first, count)] })
    else if s.domOn d ∧ !(s.fenced d) then s.acceptPart n x g first count
    else if (s.fld F.NOC_CFG_WAKE pl.1).testBit pl.2 then s.holdPart key d n first count
    else (s.count F.NOC_CNT_EASLEEP pl.1).failPart n first .easleep (some key)

/-- R268: the entry of a part's destination lets it be sent. -/
def State.entryGood (s : State) (x : Xact) (g : Region) (first : Nat) : Bool :=
  let w := s.routeTo (masterNi x.mid.toNat) (s.partPlace x g first)
  fldOf F.NOC_ROUTE_V w == 1 && (!x.rt || fldOf F.NOC_ROUTE_RT w == 1)

/-- R269, R278: a part is injected and walks to its target. -/
def State.sendPart (s : State) (n : Nat) (x : Xact) (g : Region) (first count : Nat) : State :=
  let src := masterNi x.mid.toNat
  let pl := s.partPlace x g first
  if !(s.entryGood x g first) then s.failPart n first .edead none
  else
    let p : PktInfo := { mid := x.mid, rt := x.rt, inspect := x.inspect, addr := x.addr + 8 * first, words := if x.kind = .read then 0 else if x.kind = .write then count else 1 }
    match s.walkTo p src.1 (s.routeTo src pl) pl.2 with
    | (.drop q, t) => (t.count F.NOC_CNT_EDEAD q).failPart n first .edead (some (8 * q))
    | (.reach _, t) => t.borderPart n x g first count

/-- Request n is injected: OUTST counts it, its time-out begins (R279), and its parts are sent. -/
def State.inject (s : State) (n : Nat) : State :=
  match s.xacts.get n none with
  | none => s
  | some x => match regionAt x.addr with
    | none => s
    | some g =>
      let s := s.modXact n (fun y => { y with sent := true, time := s.now })
      let s := s.modNi x.src (fun i => { i with outst := i.outst + 1 })
      (s.partsOfReq x g).foldl (fun s p => s.sendPart n x g p.1 p.2) s

/-- R474: the NI carries INSPECT for reads of master 329 and of harts in debug mode, while DBG_CTRL.INSPECT = 1. -/
def State.carriesInspect (s : State) (x : Xact) : Bool :=
  x.kind == .read && s.flag F.DBG_CTRL_INSPECT &&
    (x.mid == 329 || (isCoreMid x.mid.toNat && (s.hart (x.mid.toNat - 320)).halted))

/-- A master's request reaches its NI: it is refused there (R278), waits for a token (R275), or is injected. Its number is the
state's next request number. -/
def State.issue (s : State) (x0 : Xact) : State :=
  let n := s.xnext
  let src := masterNi x0.mid.toNat
  let x := { x0 with src := 8 * src.1 + src.2, inspect := s.carriesInspect x0 }
  let s := { s with xnext := n + 1, xacts := s.xacts.set n (some x) none }
  match s.sourceCheck x with
  | some st => s.failWord n 0 st
  | none => match regionAt x.addr with
    | none => s
    | some g =>
      let ps := s.partsOfReq x g
      if ps.all (fun p => !(s.entryGood x g p.1)) then s.failWord n 0 .edead
      else
        let s := s.modXact n (fun y => { y with left := ps.length })
        if x.rt then s.modNi x.src (fun i => { i with rtq := i.rtq ++ [n] }) else s.inject n

/-- A held part's domain is up: powered, not fenced, and for a slice domain filled (R35, R286). -/
def State.partReady (s : State) (h : Nat × Nat × Nat) : Bool :=
  match s.xacts.get h.1 none with
  | none => true
  | some x => match regionAt x.addr with
    | none => true
    | some g => match s.partDomain x g h.2.1 with
      | none => true
      | some d => s.domOn d && !(s.fenced d) &&
        (d / 256 != 2 || (List.range 4).all (fun i => s.flag F.SLC_STATUS_FILLED (4 * (d % 256) + i)))

/-! ### Sector port targets (R224 to R226) -/

/-- Data units that hold a poisoned word. -/
def poisonUnits (n : Nat) (ws : List (Word × Bool)) : Nat := ((groupWords n (ws.length + 1) ws).filter (fun u => u.any (·.2))).length

/-- SECTOR_PORT_TARGET: R224, R226, R388: request n at a sector port is refused, or delivered to the fabric design with its poison
bits on the port clock; the design completes it with a status and words, at once or later. -/
def State.sectorTarget (s : State) (n : Nat) (answer : Option (Status × List (Word × Bool))) : State :=
  match s.xacts.get n none with
  | none => s
  | some x => match regionAt x.addr with
    | some (.fabric k) =>
      if x.left = 0 ∨ !x.sent ∨ x.holders.all (fun h => !h.counted) then s
      else
        let stop : Option Status :=
          if x.atFabric then none
          else if !(s.sectorRuns k) then some .easleep
          else if !(s.flag F.FAB_PORT_TEN k) then some .edead else none
        match stop with
        | some st => (s.failWord n 0 st).modXact n (fun y => { y with left := 0 })
        | none =>
          if !(s.portClock k) then s
          else
          let s := if x.atFabric then s
            else (s.count F.FAB_PCNT_PSNIN k 0 0 (poisonUnits (if x.rt then 2 else 4) x.wpar)).modXact n (fun y => { y with atFabric := true })
          match answer with
          | none => s
          | some (st, ws) =>
            let s := s.forAll (List.range x.len) (fun s i => s.takeWord n i { data := (ws.getD i (0, false)).1, poison := (ws.getD i (0, false)).2 })
            let s := if st = .ok then s else s.failWord n 0 st
            s.modXact n (fun y => { y with left := 0 })
    | _ => s

/-- SECTOR_PORT_TIMEOUT: R225: the fabric design has not completed request n within TMO network cycles. -/
def State.sectorTimeout (s : State) (n : Nat) : State :=
  match s.xacts.get n none with
  | none => s
  | some x => match regionAt x.addr with
    | some (.fabric k) =>
      let waits := x.sent && x.holders.any (fun h => h.counted) && s.sectorRuns k && s.flag F.FAB_PORT_TEN k
      if (x.atFabric ∨ waits) ∧ x.left ≠ 0 ∧ s.fld F.FAB_PORT_TMO k ≠ 0 then
        let s := ((s.count F.FAB_PCNT_TMO k).raise F.FAB_STATUS_PORTTMO k).failWord n 0 .edead
        s.modXact n (fun y => { y with left := 0 })
      else s
    | _ => s

/-! ### Completions at the masters -/

/-- R144, R153: a record write of an FCU completes. Any status but OK drops the record and the slot's later writes that are
outstanding; a write to a ring that a commit has changed advances no pointer. -/
def State.recordDone (s : State) (c : Nat) (o : RecOut) (st : Status) : State :=
  let s := s.modFcu c (fun f => { f with outs := f.outs.filter (fun q => q.xid != o.xid) })
  if o.after then s.count F.FCU_DROP_DROPPED c o.slot
  else if st = .ok ∧ !o.live then s
  else if st = .ok then
    let size := s.fld F.FCU_RSIZE_SIZE c o.slot
    (s.setFld F.FCU_RWP_WP ((s.fld F.FCU_RWP_WP c o.slot + 1) % (max size 1)) c o.slot).pmonEvent (332 + c) 0x45 0 1
  else
    let s := (s.count F.FCU_DROP_DROPPED c o.slot).raise F.FCU_GSTAT_WERR c o.slot
    let s := s.modFcu c (fun f => { f with outs := f.outs.map (fun q => if q.slot = o.slot then { q with after := true } else q) })
    (s.modSlot c o.slot (fun x => { x with issue := s.fld F.FCU_RWP_WP c o.slot })).pmonEvent (332 + c) 0x46 0 1

/-- R152: a lane that an update incremented was already at its maximum. -/
def laneSaturated (op : AtomicOp) (old opnd : Word) : Bool :=
  let w := if op = .add16s then 16 else 8
  (List.range (64 / w)).any (fun l =>
    (opnd.toNat / 2 ^ (w * l)) % 2 ^ w != 0 && (old.toNat / 2 ^ (w * l)) % 2 ^ w == 2 ^ w - 1)

/-- R152: an accumulation update completes. ACCSAT, ACCERR and ACCLOST of an update that a member cluster's FCU issued stand in the
slot of the gang in its leader's FCU (DESIGN CHOICE, log entry 62: R152 does not say in which FCU). -/
def State.accDone (s : State) (c : Nat) (o : AccOut) (st : Status) (old : Word) : State :=
  let s := s.modFcu c (fun f => { f with accOuts := f.accOuts.filter (fun q => q.xid != o.xid) })
  let p := fcuOf o.lead
  if st ≠ .ok then (s.raise F.FCU_GSTAT_ACCERR p.1 p.2).count F.FCU_DROP_ACCLOST p.1 p.2
  else
    let s := s.pmonEvent (332 + c) 0x47 0 1
    if laneSaturated o.op old o.opnd then s.raise F.FCU_GSTAT_ACCSAT p.1 p.2 else s

/-- The FCU request that a number names, if an FCU issued it. -/
def State.fcuOwns (s : State) (c n : Nat) : Bool :=
  (s.fcu c).outs.any (fun o => o.xid == n) || (s.fcu c).accOuts.any (fun o => o.xid == n)

/-- R460: an uncacheable access of core k ends: a load writes its register; any status but OK is an access fault. -/
def State.coreDone (s : State) (k : Nat) (x : Xact) (rd : Nat) (st : Status) (v : Word) : State :=
  s.modHart k (fun h =>
    let h := { h with wait := none }
    if st = .ok then (if x.kind = .write ∨ rd = 0 then h else { h with gpr := h.gpr.set rd v 0 })
    else h.trap (if x.kind = .read then 5 else 7) (BitVec.ofNat 64 x.addr))

/-- R468: a system bus access ends: sbdata takes a read's word, and any status but OK is an error. -/
def State.busDone (s : State) (x : Xact) (st : Status) (v : Word) : State :=
  let s := s.modDbg (fun d => { d with sbWait := none })
  if st = .ok then
    s.modDm (fun d => { d with sbData := if x.kind = .read then v else d.sbData,
                               sbAddr := if d.sbAutoInc then d.sbAddr + 8 else d.sbAddr })
  else s.modDm (fun d => { d with sbError := if st = .eaddr then 2 else 7 })

/-- A response as a packet for a link (R368). -/
def Xact.packet (x : Xact) (st : Status) (ws : List (Word × Bool)) : Packet :=
  { addr := x.addr, status := st.code, mid := x.mid, tag := BitVec.ofNat 8 x.tag, rt := x.rt, words := ws,
    len := ws.length,
    cmd := match x.kind with | .read => 0x10 | .atomic _ => 0x12 | _ => 0x11 }

/-- A response reaches its master; one that comes after the fence of its sector is discarded (R254). -/
def State.deliver (s : State) (n : Nat) (x : Xact) (st : Status) : State :=
  let ws := x.reply
  let m := x.mid.toNat
  let v := (ws.getD 0 (0, false)).1
  if x.late then s
  else
  let s := { s with rsps := s.rsps.set m (some { tag := x.tag, status := st, words := ws }) none }
  if isEngineMid m then
    let c := m / 4
    match (s.fcu c).outs.find? (fun o => o.xid == n), (s.fcu c).accOuts.find? (fun o => o.xid == n) with
    | some o, _ => s.recordDone c o st
    | none, some o => s.accDone c o st v
    | none, none => s
  else if isCoreMid m then
    match (s.hart (m - 320)).wait with
    | some w => if w.1 = n then s.coreDone (m - 320) x w.2 st v else s
    | none => s
  else if m = 329 then (if s.dbg.sbWait = some n then s.busDone x st v else s)
  else if isBridgeMid m then
    s.modBridge (m - 330) (fun b => { b with rsps := b.rsps ++ [(x.tag, x.packet st ws)] })
  else s

/-! ### The way back -/

/-- R296, R301: the lines of a write that stand in a scheduler queue and whose status is certain. -/
def State.schedLines (s : State) (n : Nat) : Nat :=
  (List.range 12).foldl (fun acc k => acc + ((s.dmc k).sched.filter (fun q => q.xid == n && s.lineSure k q)).length) 0

/-- A request has its response: every part is answered; a write's lines have entered the scheduler queues (R301). -/
def State.answered (s : State) (n : Nat) (x : Xact) : Bool :=
  x.left == 0 || (x.kind == .write && x.left == s.schedLines n)

/-- The NIs that hold a request are done with it. -/
def State.unhold (s : State) (x : Xact) : State :=
  x.holders.foldl (fun s h => if h.counted then s.modNi h.ni (fun i => { i with infl := i.infl - 1 }) else s) s

/-- The router that drops the response from the NI with some key (R279). -/
def State.backWalk (s : State) (x : Xact) (key : Nat) : Option Nat × State :=
  let to' := masterNi x.mid.toNat
  let p : PktInfo := { mid := x.mid, rt := x.rt, inspect := x.inspect, addr := x.addr, words := x.reply.length }
  match s.walkTo p (key / 8) (s.routeTo (key / 8, key % 8) to') to'.2 with
  | (.drop q, t) => (some q, t)
  | (.reach _, t) => (none, t)

/-- R279: the responses of a request's NIs walk back; one that meets a disabled port is dropped, counted and logged, and its part is
lost. -/
def State.backAll (s : State) (x : Xact) : List Holder → List Nat × State
  | [] => ([], s)
  | h :: hs => match s.backWalk x h.ni with
    | (some q, t) =>
      let t := (t.count F.NOC_CNT_RSPDROP q).logErr { kind := 7, inst := q, cls := 0x09, mid := some x.mid, addr := x.addr }
      let r := State.backAll t x hs
      (h.first :: r.1, r.2)
    | (none, t) => State.backAll t x hs

/-- Forget a request. -/
def State.endXact (s : State) (n : Nat) : State := { s with xacts := s.xacts.set n none none }

/-- RDRSP, WRRSP, ATRSP: R262, R263, R279: the responses to request n cross the network, and its NI merges them into one for its
master; a response that is dropped leaves its part to the time-out, and one that comes after the time-out is discarded. -/
def State.respond (s : State) (n : Nat) : State :=
  match s.xacts.get n none with
  | none => s
  | some x =>
    if !(s.answered n x) ∨ x.lost ≠ [] then s
    else if !x.sent then (s.endXact n).deliver n x x.status
    else
      let s := if x.rt ∧ s.inQuiet then s.atTime ((s.now / 4096 + 1) * 4096) else s
      let r := (s.unhold x).backAll x x.holders
      let t := r.2
      if x.dead then t.endXact n
      else if r.1 ≠ [] then t.modXact n (fun y => { y with lost := r.1, holders := [] })
      else
        let t := (t.endXact n).modNi x.src (fun i => { i with outst := i.outst - 1 })
        let t : State := match s.pmonOf ((regionAt x.addr).getD .mgt) x.addr with
          | some i => if x.status = Status.ok then t else t.pmonEvent i 0x06 0 1 (t.pmonPasses i x.mid x.rt x.inspect x.addr)
          | none => t
        t.deliver n x x.status

/-- A response of one kind: the row that names that kind delivers it. -/
def State.respondKind (s : State) (n : Nat) (k : XKind → Bool) : State :=
  match s.xacts.get n none with
  | some x => if k x.kind ∧ x.far = none ∧ !(isEngineMid x.mid.toNat && s.fcuOwns (x.mid.toNat / 4) n) then s.respond n else s
  | none => s

/-- The first words of the accesses of request n that no unit has performed: its lines in the channels' queues (a write's lines in a
scheduler queue are answered, R301), what wake-on-access or an arbiter holds, and what a fabric design has not completed. -/
def State.openWords (s : State) (n : Nat) (x : Xact) : List Nat :=
  let lines := (List.range 12).flatMap (fun k =>
    let c := s.dmc k
    ((c.wait ++ c.inq ++ c.thrBuf ++ (if x.kind = .write then c.sched.filter (fun q => !(s.lineSure k q)) else c.sched)).filter
      (fun q => q.xid == n)).map (·.first))
  let held := s.nis.cells.flatMap (fun c => (c.2.held.filter (fun h => h.1 == n)).map (·.2.1))
  let wait := s.arbs.cells.flatMap (fun c => (c.2.wq.filter (fun w => w.xid == n)).map (·.first))
  lines ++ held ++ wait ++ (if x.atFabric ∧ x.left ≠ 0 then [0] else [])

/-- R262, R279: the parts of a request, given by their first words, are answered with EDEAD in place of what they would have answered. -/
def Xact.deadParts (x : Xact) (ps : List (Nat × Nat)) : Xact :=
  let inPart (i : Nat) : Bool := ps.any (fun p => decide (p.1 ≤ i ∧ (i < p.1 + p.2 ∨ i = p.1)))
  { x with words := x.words.clear inPart, poison := x.poison.clear inPart,
           fails := x.fails.filter (fun f => !(inPart f.1)) ++ ps.map (fun p => (p.1, Status.edead)) }

/-- RESPONSE_TIMEOUT: R262, R279: request n has had no response within RTMO x 1,024 network cycles of its injection. Its NI answers
EDEAD for every part that has none, merged with the other parts' responses, and the late ones will be discarded; where every
part has been performed, all are late. -/
def State.responseTimeout (s : State) (n : Nat) : State :=
  match s.xacts.get n none with
  | none => s
  | some x =>
    let m := s.fld F.NOC_NI_RTMO (x.src / 8) (x.src % 8)
    if !x.sent ∨ x.dead ∨ m = 0 then s
    else
      let s := (s.atTime (x.time + m * 4096)).modNi x.src (fun i => { i with outst := i.outst - 1 })
      match x.far, regionAt x.addr with
      | none, some g =>
        let ps := s.partsOfReq x g
        let open' := s.openWords n x
        let pending := ps.filter (fun p => open'.any (fun i => decide (p.1 ≤ i ∧ (i < p.1 + p.2 ∨ i = p.1))))
        let come := x.holders.filter (fun h => pending ≠ [] && !(pending.any (fun p => p.1 == h.first)))
        let r := (s.unhold { x with holders := come }).backAll x come
        let bad := ps.filter (fun p => pending.contains p || r.1.contains p.1 || x.lost.contains p.1)
        let bad := if bad = [] then ps else bad
        let y := x.deadParts bad
        let t := if pending = [] ∧ x.holders = [] then r.2.endXact n
          else r.2.modXact n (fun z => { z with dead := true, holders := z.holders.filter (fun h => !(come.contains h)) })
        t.deliver n y y.status
      | _, _ => (s.unhold x).endXact n |>.deliver n x .edead

/-! ### Fail capture units (R143, R144, R151) -/

/-- RECORD_WRITE: R143, R144: FCU c writes the record at the head of its FIFO as an RT write, when the ring has a free entry and
fewer than 4 record writes are outstanding. -/
def State.recordWrite (s : State) (c : Nat) (same : Bool) : State :=
  match (s.fcu c).fifo with
  | [] => s
  | r :: rs =>
    let size := s.fld F.FCU_RSIZE_SIZE c r.slot
    let x := (s.fcu c).slot r.slot
    let pendingOf := ((s.fcu c).outs.filter (fun o => o.slot == r.slot && o.live && !o.after)).length
    let e := if pendingOf = 0 then s.fld F.FCU_RWP_WP c r.slot else x.issue
    if size = 0 ∨ (e + 1) % size = s.fld F.FCU_RRP_RP c r.slot ∨ 4 ≤ (s.fcu c).outs.length then s
    else
      let n := s.xnext
      let s := s.modFcu c (fun f => { f with fifo := rs, outs := f.outs ++ [{ slot := r.slot, xid := n }] })
      let s := s.modSlot c r.slot (fun y => { y with issue := (e + 1) % size })
      s.issue { mid := BitVec.ofNat 10 (4 * c), rt := true, kind := .write, addr := s.fld F.FCU_RBASE_BASE c r.slot * 32 + 32 * e, len := 4, same := same,
                wpar := [(r.w0, false), (r.w1, false), (r.w2, false), (r.w3, false)] }

/-- RECORD_WRITE_DONE: R144: the oldest record write of a slot of FCU c completes. -/
def State.recordWriteDone (s : State) (c slot : Nat) : State :=
  match (s.fcu c).outs.find? (fun o => o.slot == slot) with
  | some o => s.respond o.xid
  | none => s

/-- ACCUMULATION_UPDATE: R151: FCU c issues the next update of its queue as a bulk atomic. -/
def State.accumulationUpdate (s : State) (c : Nat) (same : Bool) : State :=
  match (s.fcu c).accq with
  | [] => s
  | q :: qs => match q.upds with
    | [] => s.modFcu c (fun f => { f with accq := qs })
    | u :: us =>
      let n := s.xnext
      let s := s.modFcu c (fun f =>
        { f with accq := if us.isEmpty then qs else { q with upds := us } :: qs,
                 accOuts := f.accOuts ++ [{ slot := q.slot, lead := q.lead, op := u.op, opnd := u.opnd, xid := n }] })
      s.issue { mid := BitVec.ofNat 10 (4 * c), kind := .atomic u.op, addr := u.addr, len := 1, same := same, wpar := [(u.opnd, false)] }

/-- ACCUMULATION_UPDATE_DONE: R152: the k-th outstanding update of FCU c completes. -/
def State.accumulationDone (s : State) (c k : Nat) : State :=
  match (s.fcu c).accOuts[k]? with
  | some o => s.respond o.xid
  | none => s

/-! ### Cores and the debug module (R459, R468, R474) -/

/-- CORE_UNCACHEABLE_ACCESS: R459, R460: a running core accesses an address outside DRAM: aligned 64-bit loads and stores and
AMOADD.D and AMOSWAP.D are sent; anything else is an access fault without a network access. -/
def State.coreAccess (s : State) (k : Nat) (kind : CoreAccess) (a bytes rd : Nat) (v : Word) (same : Bool) : State :=
  let h := s.hart k
  if 8 ≤ k ∨ !(s.hartRuns k) ∨ h.wait.isSome ∨ regionAt a = some .dram then s
  else
    let fine : Bool := bytes == 8 && a % 8 == 0 && kind != .other && kind != .fetch && (regionAt a).isSome
    if !fine then
      s.modHart k (fun h => h.trap (if kind = .load then 5 else if kind = .fetch then 1 else 7) (BitVec.ofNat 64 a))
    else
      let xk : XKind := match kind with
        | .load => .read
        | .store => .write
        | .amoAdd => .atomic .add64
        | _ => .atomic .swap64
      let n := s.xnext
      (s.modHart k (fun h => { h with wait := some (n, rd) })).issue
        { mid := BitVec.ofNat 10 (320 + k), tag := rd, kind := xk, addr := a, len := 1, same := same, wpar := if kind = .load then [] else [(v, false)] }

/-- SYSTEM_BUS_ACCESS: R468, R469, R474: the debug module issues its pending system bus access as master 329; at level 1 only
inspect reads and accesses of the virtual terminal; a size other than 64 bits or a misaligned address is an error. -/
def State.systemBusAccess (s : State) (same : Bool) : State :=
  match s.dbg.sbPend with
  | none => s
  | some w =>
    let d := s.dbg.dm
    let s := s.modDbg (fun x => { x with sbPend := none })
    if d.sbAccess ≠ 3 then s.modDm (fun x => { x with sbError := 4 })
    else if d.sbAddr.toNat % 8 ≠ 0 then s.modDm (fun x => { x with sbError := 3 })
    else if s.dbgLevel < 1 ∨ (s.dbgLevel = 1 ∧ !(isVtAddr (d.sbAddr.toNat % 2 ^ 48)) ∧ (w ∨ !(s.flag F.DBG_CTRL_INSPECT))) then
      s.modDm (fun x => { x with sbError := 7 })
    else
      let n := s.xnext
      (s.modDbg (fun x => { x with sbWait := some n })).issue
        { mid := 329, kind := if w then .write else .read, addr := d.sbAddr.toNat % 2 ^ 48, len := 1, same := same,
          wpar := if w then [(d.sbData, false)] else [] }

end Sys2Proof.Machine
end

