-- ==== Sys2Proof/Machine/Bridge.lean ====
section
/-!
DEFINITION. Chapter 14's forwarding: packets between bridges on the mesh (R269, R366), received frames and requests (R364,
R367), responses through a bridge's contexts (R368), and the remote request engine (R369, R370).
-/
namespace Sys2Proof.Machine

open Sys2Proof

/-! ### Local memory, as the remote request engine reads and writes it (R369, R370) -/

/-- One word of DRAM or of a slice, read under a master. -/
def State.memReadWord (s : State) (mid : MasterId) (a : Nat) : WordReply × State :=
  match s.rangeGood a 1 with
  | some (.slice n) => s.sliceRead mid n (a % 0x100000 / 8)
  | some .dram =>
    let k := s.dramChannel a
    if s.dmcState k ≠ dmcReady ∧ s.dmcState k ≠ dmcTransition then ({ status := .easleep }, s)
    else
      let q : LineReq := { xid := 0, first := 0, mid := mid, lam := s.dramLine a, kind := .read, mask := 1#8 <<< (a % 64 / 8) }
      match s.performLine k q [] with
      | some (r, t) => ({ data := lineWord r.data (a % 64 / 8), poison := r.poison, status := r.status }, t)
      | none => ({ status := .easleep }, s)
  | _ => ({ status := .eaddr }, s)

/-- One word of DRAM or of a slice, written under a master. -/
def State.memWriteWord (s : State) (mid : MasterId) (a : Nat) (w : Word × Bool) : Status × State :=
  match s.rangeGood a 1 with
  | some (.slice n) => let q := s.sliceWrite mid n (a % 0x100000 / 8) w.1 w.2; (q.1.status, q.2)
  | some .dram =>
    let k := s.dramChannel a
    if s.dmcState k ≠ dmcReady ∧ s.dmcState k ≠ dmcTransition then (.easleep, s)
    else
      let q : LineReq := { xid := 0, first := 0, mid := mid, lam := s.dramLine a, kind := .write, mask := 1#8 <<< (a % 64 / 8),
                           data := List.replicate 8 w }
      match s.performLine k q [] with
      | some (r, t) => (r.status, t)
      | none => (.easleep, s)
  | _ => (.eaddr, s)

/-- Words from an address on, with the first status that is not OK. -/
def State.memRead (s : State) (mid : MasterId) (a : Nat) : Nat → List (Word × Bool) × Status × State
  | 0 => ([], .ok, s)
  | n + 1 =>
    let q := s.memReadWord mid a
    let r := State.memRead q.2 mid (a + 8) n
    ((q.1.data, q.1.poison) :: r.1, if q.1.status = .ok then r.2.1 else q.1.status, r.2.2)

/-- Words written from an address on. -/
def State.memWrite (s : State) (mid : MasterId) (a : Nat) : List (Word × Bool) → State
  | [] => s
  | w :: ws => State.memWrite (s.memWriteWord mid a w).2 mid (a + 8) ws

/-! ### Packets between bridges (R269, R366) -/

/-- The master ID of bridge b (R30). -/
def bridgeMid (b : Nat) : MasterId := BitVec.ofNat 10 (330 + b)

/-- The bridge at port 6 of a router, if there is one (R19). -/
def bridgeAt (r : Nat) : Option Nat := if r % 8 = 0 then some (r / 8) else if r % 8 = 7 then some (8 + r / 8) else none

/-- R265: the response to a command; one to a reserved command is taken as WRRSP (DESIGN CHOICE, log entry 65). -/
def rspCode (cmd : Nat) : Nat := if cmd = 0x01 then 0x10 else if 0x03 ≤ cmd ∧ cmd ≤ 0x07 then 0x12 else 0x11

/-- R265: the request kind of a command code. -/
def kindOf : Nat → Option XKind
  | 1 => some .read
  | 2 => some .write
  | 3 => some (.atomic .add64)
  | 4 => some (.atomic .add16s)
  | 5 => some (.atomic .add8s)
  | 6 => some (.atomic .swap64)
  | 7 => some (.atomic .cas64)
  | _ => none

/-- R265: a response that reports that a request was not performed. An ATRSP has its data unit, of a value that the spec does not give. -/
def Packet.answer (p : Packet) (st : Status) (old : Word) : Packet :=
  let ws : List (Word × Bool) := if rspCode p.cmd = 0x12 then [(old, false)] else []
  { p with status := st.code, len := ws.length, words := ws, cmd := rspCode p.cmd }

/-- The bridge of a master ID. -/
def bridgeOf (m : MasterId) : Nat := if 330 ≤ m.toNat then m.toNat - 330 else 0

/-- The oldest request of bridge b that is on its way through another bridge, or its own link, with tag k. -/
def State.farOf (s : State) (b k : Nat) : Option Nat :=
  (s.xacts.cells.find? (fun c => match c.2 with
    | some x => x.far.isSome && x.sent && x.mid == bridgeMid b && x.tag == k
    | none => false)).map (·.1)

/-- R279, R285: a bridge's request has its response: OUTST and INFL no longer count it. -/
def State.farDone (s : State) (n : Nat) : State :=
  match s.xacts.get n none with
  | none => s
  | some x => ((s.unhold x).endXact n).modNi x.src (fun i => { i with outst := i.outst - 1 })

/-- A response reaches bridge b. -/
def State.toBridge (s : State) (b : Nat) (p : Packet) : State :=
  let s := match s.farOf b p.tag.toNat with
    | some n => s.farDone n
    | none => s
  s.modBridge b (fun x => { x with rsps := x.rsps ++ [(p.tag.toNat, p)] })

/-- A request of bridge b is answered without being performed. -/
def State.refuseTo (s : State) (b : Nat) (p : Packet) (st : Status) : State :=
  let f := s.fresh 64
  f.2.toBridge b (p.answer st f.1)

/-- R264, R268, R272: a packet sets out from the NI of bridge b's router by a route entry: an RT packet in the entry's lane, a bulk packet
in VC0 or VC1, or with VC4 in VC2 or VC3. -/
def State.launch (s : State) (b : Nat) (w : Word) (p : Packet) (xid : Option Nat) : State :=
  let r := bridgeRouter b
  let p := { p with turn := BitVec.ofNat 28 (fldOf F.NOC_ROUTE_TURN w), nh := fldOf F.NOC_ROUTE_NH w, exit := fldOf F.NOC_ROUTE_EXIT w,
                    vcl := if p.rt then fldOf F.NOC_ROUTE_LANE w
                      else (if p.isResponse then 1 else 0) + (if p.ext ∧ s.flag F.NOC_CFG_VC4 r then 2 else 0) }
  { s with flights := s.flights.set s.fnext (some { pkt := p, router := r, xid := xid }) none, fnext := s.fnext + 1 }

/-- The route entry from bridge b's NI to that of bridge o. -/
def State.bridgeRoute (s : State) (b o : Nat) : Word := s.routeTo (bridgeRouter b, 6) (bridgeRouter o, 6)

/-- R268: an entry lets a packet of a class be sent. -/
def routeOpen (w : Word) (rt : Bool) : Bool := fldOf F.NOC_ROUTE_V w == 1 && (!rt || fldOf F.NOC_ROUTE_RT w == 1)

/-- R276, R368: a response that a link has brought to bridge b sets out for another bridge: an RT one after the quiet slot. One without
a route is dropped, counted and logged as one that meets a disabled port is (DESIGN CHOICE, log entry 65). -/
def State.setOut (s : State) (b to' : Nat) (p : Packet) : State :=
  let w := s.bridgeRoute b to'
  if routeOpen w p.rt then
    (if p.rt ∧ s.inQuiet then s.atTime ((s.now / 4096 + 1) * 4096) else s).launch b w p none
  else (s.count F.NOC_CNT_RSPDROP (bridgeRouter b)).logErr
    { kind := 7, inst := bridgeRouter b, cls := 0x09, mid := some p.mid, addr := p.addr }

/-- R360, R366: an EXT = 1 request is sent on the link of bridge b; a link that is not UP completes it with EDEAD. -/
def State.ontoLink (s : State) (b : Nat) (p : Packet) : State :=
  if s.swState b = swUp then s.queueLink b p
  else if p.isResponse then s.count F.NOC_CNT_RSPDROP (bridgeRouter b)
  else s.refuseTo (bridgeOf p.mid) p .edead

/-- R279: request n of a bridge is injected: OUTST counts it and its time-out begins; it goes on the bridge's own link or over the mesh
to another's. -/
def State.injectFar (s : State) (n : Nat) (x : Xact) (o : Nat) (p : Packet) : State :=
  let b := bridgeOf x.mid
  let s := s.modXact n (fun y => { y with sent := true, time := s.now })
  let s := s.modNi x.src (fun i => { i with outst := i.outst + 1 })
  if o = b then s.ontoLink o p else s.launch b (s.bridgeRoute b o) p (some n)

/-- R266, R268, R275, R278: bridge b's NI sends a request that leaves this device by bridge o: it is refused, waits for a token, or is
injected. -/
def State.sendFar (s : State) (b o : Nat) (p : Packet) : State :=
  let r := bridgeRouter b
  if p.rt ∧ !(s.flag F.NOC_NI_RTTX r 6) then s.refuseTo b p .edeny
  else if o ≠ b ∧ !(routeOpen (s.bridgeRoute b o) p.rt) then s.refuseTo b p .edead
  else
    let n := s.xnext
    let x : Xact := { mid := p.mid, tag := p.tag.toNat, rt := p.rt, kind := (kindOf p.cmd).getD .reserved, addr := p.addr, len := p.len,
                      wpar := p.words, src := 8 * r + 6, left := 1, far := some (o, p) }
    let s := { s with xnext := n + 1, xacts := s.xacts.set n (some x) none }
    if p.rt then s.modNi x.src (fun i => { i with rtq := i.rtq ++ [n] }) else s.injectFar n x o p

/-- RT_INJECT: R275, R276: the first RT request that waits in an NI is injected with a token; injection waits for the end of a
quiet slot. -/
def State.rtInject (s : State) (r p : Nat) : State :=
  match (s.ni (8 * r + p)).rtq with
  | [] => s
  | n :: ns =>
    let t := s.fld F.NOC_NISTAT_TOKENS r p
    if t = 0 then s
    else
      let s := if s.inQuiet then s.atTime ((s.now / 4096 + 1) * 4096) else s
      let s := (s.setFld F.NOC_NISTAT_TOKENS (t - 1) r p).modNi (8 * r + p) (fun i => { i with rtq := ns })
      match s.xacts.get n none with
      | some x => match x.far with
        | some (o, pk) => s.injectFar n x o pk
        | none => s.inject n
      | none => s

/-- R277, R284, R366: the NI of bridge b takes a request from the mesh, which INFL counts until its response passes back, or answers
EDEAD. -/
def State.enterBridge (s : State) (b : Nat) (p : Packet) (xid : Option Nat) : State :=
  let r := bridgeRouter b
  if !(s.flag F.NOC_NI_ACCEPT r 6) ∨ (p.rt ∧ !(s.flag F.NOC_NI_RTRX r 6)) then s.refuseTo (bridgeOf p.mid) p .edead
  else
    let s := match xid with
      | some n => (s.modNi (8 * r + 6) (fun i => { i with infl := i.infl + 1 })).modXact n
          (fun y => { y with holders := [{ ni := 8 * r + 6, counted := true, first := 0 }] })
      | none => s
    s.ontoLink b p

/-- R285, R286, R366: a packet leaves the mesh at the port of bridge b: the border proxy of a bridge that is off or fenced holds a request
under wake-on-access, or answers EASLEEP. -/
def State.atBridge (s : State) (b : Nat) (p : Packet) (xid : Option Nat) : State :=
  let r := bridgeRouter b
  let hold (s : State) : State := match xid with
    | some n => s.modNi (8 * r + 6) (fun i => { i with held := i.held ++ [(n, 0, 0)] })
    | none => s
  if p.isResponse then s.toBridge b p
  else if (s.ni (8 * r + 6)).held ≠ [] then hold s
  else if !(s.domOn (domSB b)) ∨ s.fenced (domSB b) then
    if (s.fld F.NOC_CFG_WAKE r).testBit 6 then (hold s).requestWake (domSB b)
    else (s.count F.NOC_CNT_EASLEEP r).refuseTo (bridgeOf p.mid) p .easleep
  else s.enterBridge b p xid

/-- R286: what wake-on-access holds for request n goes on. -/
def State.releaseHeld (s : State) (n : Nat) (x : Xact) (first count : Nat) : State :=
  match x.far with
  | some (o, p) => s.atBridge o p (some n)
  | none => match regionAt x.addr with
    | some g => s.borderPart n x g first count
    | none => s

/-- R286: the domain for which wake-on-access holds something is up. -/
def State.heldReady (s : State) (h : Nat × Nat × Nat) : Bool :=
  match s.xacts.get h.1 none with
  | some x => match x.far with
    | some (o, _) => s.domOn (domSB o) && !(s.fenced (domSB o))
    | none => s.partReady h
  | none => true

/-- WAKE_RELEASE: R286: the traffic held at port p of router r is released when the domain of the first held packet is up. -/
def State.wakeRelease (s : State) (r p : Nat) : State :=
  match (s.ni (8 * r + p)).held with
  | [] => s
  | h :: hs =>
    if s.heldReady h then
      let s := s.modNi (8 * r + p) (fun i => { i with held := [] })
      (h :: hs).foldl (fun s q => match s.xacts.get q.1 none with
        | some x => s.releaseHeld q.1 x q.2.1 q.2.2
        | none => s) s
    else s

/-- A packet as a monitor sees it. -/
def Packet.info (p : Packet) : PktInfo := { mid := p.mid, rt := p.rt, inspect := p.inspect, addr := p.addr, words := p.words.length }

/-- R265: the units of a packet. -/
def Packet.units (p : Packet) : Nat := p.info.units + (if p.rt ∧ p.ext then 1 else 0)

/-- R272: a packet needs another router's input buffer or output at once with packet f: another flight. -/
def State.otherFlight (s : State) (f : Nat) (c : Flight → Bool) : List Flight :=
  s.flights.cells.filterMap (fun q => match q.2 with
    | some g => if q.1 ≠ f ∧ c g then some g else none
    | none => none)

/-- The port by which a packet that leaves a router by mesh port m enters the next one. -/
def faceOf (m : Nat) : Nat := (m + 2) % 4

/-- R273: the lane buffer that an RT packet needs in router q, at the input that faces port m, holds another packet. -/
def State.laneFull (s : State) (f q m : Nat) (p : Packet) : Bool :=
  !(s.otherFlight f (fun g => g.pkt.rt && g.router == q && g.inp == faceOf m && g.pkt.vcl == p.vcl)).isEmpty

/-- R272: the 8-unit buffer of a bulk packet's virtual channel in router q, at the input that faces port m, has no room for its header. -/
def State.vcFull (s : State) (f q m : Nat) (p : Packet) : Bool :=
  decide (8 ≤ ((s.otherFlight f (fun g => !g.pkt.rt && g.router == q && g.inp == faceOf m && g.pkt.vcl == p.vcl)).map
    (fun g => g.pkt.units)).foldl (· + ·) 0)

/-- The output that a header names (R269). -/
def Packet.out (p : Packet) : Nat := if p.nh = 0 then p.exit else p.turn.toNat % 4

/-- R272: a bulk packet at a router is not served: its input is cut at the output's arbiter, a commit holds the router's grants, or a
response of its input wants the output before a request. -/
def State.bulkYields (s : State) (f : Nat) (fl : Flight) : Bool :=
  (s.fld F.ARB_STATUS_CUT (8 * fl.router + fl.pkt.out)).testBit fl.inp || s.bulkHeld fl.router ||
    (!fl.pkt.isResponse && !(s.otherFlight f (fun g => !g.pkt.rt && g.router == fl.router && g.inp == fl.inp && g.pkt.isResponse &&
      g.pkt.out == fl.pkt.out)).isEmpty)

/-- PACKET_HOP: R269, R272, R273: the header of packet f takes its next turn or its exit at the router that holds it; a missing or
disabled port drops it: a request is answered with EDEAD, a response is counted and logged (R279). It waits while the next buffer
is full, or a bulk packet while it is not served; wait: the network cycles that an RT packet then waits. -/
def State.packetHop (s : State) (f wait : Nat) : State :=
  match s.flights.get f none with
  | none => s
  | some fl =>
    let p := fl.pkt
    let out := p.out
    let gone : State := { s with flights := s.flights.set f none none }
    if !(s.portOpen fl.router out) then
      if p.isResponse then
        (gone.count F.NOC_CNT_RSPDROP fl.router).logErr { kind := 7, inst := fl.router, cls := 0x09, mid := some p.mid, addr := p.addr }
      else (gone.count F.NOC_CNT_EDEAD fl.router).refuseTo (bridgeOf p.mid) p .edead
    else if !p.rt ∧ s.bulkYields f fl then s
    else if p.nh = 0 then
      match bridgeAt fl.router with
      | some b => ((gone.passHold fl.router p.rt).pmonHop fl.router out p.info).atBridge b p fl.xid
      | none => gone
    else
      match meshNext fl.router out with
      | some q =>
        if p.rt ∧ s.laneFull f q out p then s.count F.NOC_CNT_RTHOLD fl.router 0 0 wait
        else if !p.rt ∧ s.vcFull f q out p then s
        else
          let s := (s.passHold fl.router p.rt).pmonHop fl.router out p.info
          let g : Flight := { fl with pkt := { p with turn := p.turn >>> 2, nh := p.nh - 1 }, router := q, inp := faceOf out }
          { s with flights := s.flights.set f (some g) none }
      | none => gone

/-! ### Received frames and requests (R364, R367) -/

/-- R363, R367, R368: a packet that has arrived whole: a response is routed on the mesh by its MID; a request waits for a
context. Credits return when the blocks are forwarded. -/
def State.fromLink (s : State) (b : Nat) (q : Packet × Nat) : State :=
  let p := q.1
  if p.isResponse then
    let s := s.returnCredits b p.linkClass q.2
    if isBridgeMid p.mid.toNat then
      let s := match s.farOf (bridgeOf p.mid) p.tag.toNat with
        | some n => match s.xacts.get n none with
          | some x => (s.unhold x).modXact n (fun y => { y with holders := [] })
          | none => s
        | none => s
      if bridgeOf p.mid = b then s.toBridge b p else s.setOut b (bridgeOf p.mid) p
    else s
  else s.modBridge b (fun x => { x with reqs := x.reqs ++ [(p, s.now)] })

/-- FRAME_RECEIVE: R364: bridge b receives a frame. fec: it is touched by a codeword that the FEC could not correct (R355). -/
def State.frameReceive (s : State) (b : Nat) (f : Frame) (fec : Bool) : State :=
  if s.swState b ≠ swUp then s
  else match (s.pmonEvent (396 + b) 0x51 0 1).checkFrame b f fec with
    | (none, t) => (if fec then t.count F.SWP_CNT_FECUNC b else t).discardFrame b
    | (some g, t) =>
      let q := t.takeFrame b g
      q.1.foldl (fun s p => s.fromLink b p) q.2

/-- The lowest free context of bridge b (R367: 256 contexts). -/
def State.freeCtx (s : State) (b : Nat) : Option Nat := (List.range 256).find? (fun k => (s.bridge b).ctxs.get k none == none)

/-- Hold a context. -/
def State.setCtx (s : State) (b k : Nat) (c : Option Ctx) : State :=
  s.modBridge b (fun x => { x with ctxs := x.ctxs.set k c none })

/-- R368: a packet as it goes back over the link of bridge b. -/
def State.backPacket (s : State) (b : Nat) (p : Packet) : Packet :=
  { p with ext := true, dhops := 1, hop := 0, ddev := s.fld F.SWP_STATUS_PEERDEV b, sdev := s.fld F.SWP_DEVID_ID }

/-- The first waiting request leaves the queue, and its credits return. -/
def State.popReq (s : State) (b : Nat) (p : Packet) : State :=
  (s.modBridge b (fun x => { x with reqs := x.reqs.drop 1 })).returnCredits b p.linkClass p.blocks.length

/-- R367: where a request received over a link goes. -/
inductive LinkWay where
  | dead
  | here
  | out (b : Nat) (p : Packet)
  deriving DecidableEq, Repr

/-- R367: DHOPS counts down; a further crossing, this device, or a relay's new path. -/
def State.linkWay (s : State) (b : Nat) (p : Packet) : LinkWay :=
  let d := p.dhops - 1
  if 0 < d then .out (p.hop.toNat % 16) { p with dhops := d, hop := p.hop >>> 4 }
  else if p.ddev = s.fld F.SWP_DEVID_ID then .here
  else
    let e := s.drtLookup b p.ddev
    if s.flag F.SWP_CTRL_RELAY b ∧ fldOf F.SWP_DRT_V e = 1 then
      .out (fldOf F.SWP_DRT_FIRST e) { p with dhops := fldOf F.SWP_DRT_DHOPS e, hop := BitVec.ofNat 28 (fldOf F.SWP_DRT_HOP e) }
    else .dead

/-- R367: the first waiting request of bridge b is answered with EDEAD over its link. -/
def State.sendBack (s : State) (b : Nat) (p : Packet) : State :=
  let f := s.fresh 64
  (f.2.popReq b p).ontoLink b (s.backPacket b (p.answer .edead f.1))

/-- LINK_REQUEST: R367: the first request that waits at bridge b is forwarded, relayed, delivered or answered with EDEAD. -/
def State.linkRequest (s : State) (b : Nat) (same : Bool) : State :=
  match (s.bridge b).reqs with
  | [] => s
  | (p, _) :: _ =>
    match s.linkWay b p with
    | .dead => s.sendBack b p
    | .here =>
      match s.freeCtx b with
      | none => s
      | some k =>
        let s := (s.popReq b p).setCtx b k (some (.link p.mid p.tag p.cmd none))
        s.issue { mid := bridgeMid b, tag := k, rt := p.rt, kind := (kindOf p.cmd).getD .reserved, addr := p.addr, len := p.len,
                  narrow := p.addr % 8 != 0, same := same, wpar := p.words }
    | .out o q =>
      match s.freeCtx b with
      | none => s
      | some k =>
        let s := (s.popReq b p).setCtx b k (some (.link p.mid p.tag p.cmd (some o)))
        s.sendFar b o { q with mid := bridgeMid b, tag := BitVec.ofNat 8 k }

/-- CONTEXT_WAIT_TIMEOUT: R367: the first waiting request of bridge b has waited longer than the response timeout. -/
def State.contextWaitTimeout (s : State) (b : Nat) : State :=
  match (s.bridge b).reqs with
  | [] => s
  | (p, t) :: _ =>
    let m := s.fld F.NOC_NI_RTMO (bridgeRouter b) 6
    if m = 0 then s
    else (s.atTime (t + m * 4096)).sendBack b p

/-! ### Responses and descriptors (R368 to R370) -/

/-- The first response at bridge b whose context satisfies a condition, with its place. -/
def State.rspWith (s : State) (b : Nat) (f : Option Ctx → Bool) : Option (Nat × Nat × Packet) :=
  let x := s.bridge b
  match x.rsps.findIdx? (fun r => f (x.ctxs.get r.1 none)) with
  | none => none
  | some i => match x.rsps[i]? with
    | some r => some (i, r.1, r.2)
    | none => none

/-- BRIDGE_RESPONSE: R368: a response from the mesh restores what its context saved and goes back over the link; one whose
context is already free is dropped and counted (R360). -/
def State.bridgeResponse (s : State) (b : Nat) : State :=
  let link (c : Option Ctx) : Bool := match c with
    | some (.desc _ _ _) => false
    | _ => true
  match s.rspWith b link with
  | none => s
  | some (i, k, p) =>
    let c := (s.bridge b).ctxs.get k none
    let s := s.modBridge b (fun x => { x with rsps := x.rsps.eraseIdx i })
    match c with
    | some (.link mid tag cmd _) =>
      let q := { p with mid := mid, tag := tag, cmd := rspCode cmd }
      (s.setCtx b k none).ontoLink b (s.backPacket b q)
    | _ => s.count F.NOC_CNT_RSPDROP (bridgeRouter b)

/-- Word w of descriptor e of the RT ring (true) or the bulk ring of bridge b, with its poison and status. -/
def State.descWords (s : State) (b : Nat) (rt : Bool) (e : Nat) : List (Word × Bool) × Status × State :=
  if rt then ((List.range 4).map (fun w => (s.reg .SWP_RTQ b e w, false)), .ok, s)
  else s.memRead (bridgeMid b) (s.fld F.SWP_QBASE_BASE b * 32 + 32 * e) 4

/-- A word of a descriptor is written. -/
def State.setDescWord (s : State) (b : Nat) (rt : Bool) (e w : Nat) (v : Word × Bool) : State :=
  if rt then s.setReg .SWP_RTQ v.1 b e w
  else (s.memWriteWord (bridgeMid b) (s.fld F.SWP_QBASE_BASE b * 32 + 32 * e + 8 * w) v).2

/-- R370: TAIL advances past completed descriptors, by fuel. -/
def advanceTail (size : Nat) : Nat → Nat → List Nat → Nat × List Nat
  | 0, t, ds => (t, ds)
  | f + 1, t, ds => if ds.contains t then advanceTail size f ((t + 1) % (max size 1)) (ds.filter (· != t)) else (t, ds)

/-- R370: descriptor e of a ring has completed. -/
def State.tailDone (s : State) (b : Nat) (rt : Bool) (e : Nat) : State :=
  if rt then
    let q := advanceTail 16 17 (s.fld F.SWP_RTTAIL_TAIL b) ((s.bridge b).rtDone ++ [e])
    (s.setFld F.SWP_RTTAIL_TAIL q.1 b).modBridge b (fun x => { x with rtDone := q.2 })
  else
    let ds := (s.bridge b).qDone ++ [e]
    let q := advanceTail (s.fld F.SWP_QSIZE_SIZE b) (ds.length + 1) (s.fld F.SWP_QTAIL_TAIL b) ds
    (s.setFld F.SWP_QTAIL_TAIL q.1 b).modBridge b (fun x => { x with qDone := q.2 })

/-- R369, R370: descriptor e completes with a status and the words of its response: data, DONE and STATUS are written, TAIL
advances, and IRQ raises source 13 + b. -/
def State.descDone (s : State) (b : Nat) (rt : Bool) (e : Nat) (d : List (Word × Bool)) (st : Status) (ws : List (Word × Bool)) : State :=
  let w0 := (d.getD 0 (0, false)).1
  let inline' := w0.getLsbD 39
  let cmd := (w0.extractLsb' 32 5).toNat
  let s :=
    if ws = [] ∨ st ≠ .ok then s
    else if inline' ∨ cmd = 7 then s.setDescWord b rt e 3 (ws.getD 0 (0, false))
    else s.memWrite (bridgeMid b) ((d.getD 2 (0, false)).1.toNat % 2 ^ 48) ws
  let w : Word := (w0 &&& ~~~ 0x0F00000000000000#64) ||| 0x8000000000000000#64 ||| BitVec.ofNat 64 (st.code * 2 ^ 56)
  let s := (s.setDescWord b rt e 0 (w, false)).tailDone b rt e
  if w0.getLsbD 40 then s.pendIrq (13 + b) else s

/-- Requests of a ring that are outstanding. -/
def State.descOut (s : State) (b : Nat) (rt : Bool) : Nat :=
  ((s.bridge b).ctxs.cells.filter (fun c => match c.2 with | some (.desc r _ _) => r == rt | _ => false)).length

/-- R266, R369, R370: a descriptor that completes locally: its status. -/
def descStop (rt : Bool) (cmd len : Nat) (inline' cls : Bool) : Option Status :=
  if (kindOf cmd).isNone ∨ (rt ∧ (!cls ∨ !inline')) ∨ (cls ∧ cmd = 1) then some .edeny
  else if (inline' ∨ 3 ≤ cmd) ∧ 1 < len then some .eaddr
  else if (if cls then 4 else 64) < len then some .eaddr
  else none

/-- R369: the words that a descriptor's request carries. -/
def State.descData (s : State) (b : Nat) (d : List (Word × Bool)) (cmd len : Nat) (inline' : Bool) :
    List (Word × Bool) × Status × State :=
  let w2 := d.getD 2 (0, false)
  let w3 := d.getD 3 (0, false)
  if cmd = 1 then ([], .ok, s)
  else if cmd = 7 then ([w3, w2], .ok, s)
  else if 3 ≤ cmd ∨ inline' then ([w3], .ok, s)
  else s.memRead (bridgeMid b) (w2.1.toNat % 2 ^ 48) len

/-- R369: descriptor e of a ring of bridge b is taken: it completes at once, or its request leaves through the bridge that the
device route table names. -/
def State.descStart (s0 : State) (b : Nat) (rt : Bool) (e k : Nat) : State :=
  let q := s0.descWords b rt e
  let d := q.1
  let s := q.2.2
  let w0 := (d.getD 0 (0, false)).1
  let cmd := (w0.extractLsb' 32 5).toNat
  let len := (w0.extractLsb' 24 7).toNat
  let ddev := (w0.extractLsb' 0 18).toNat
  let cls := w0.getLsbD 38
  let inline' := w0.getLsbD 39
  let r := s.drtLookup b ddev
  if d.any (·.2) then s.descDone b rt e d .epoison []
  else if q.2.1 ≠ .ok then s.descDone b rt e d q.2.1 []
  else if len = 0 then s.descDone b rt e d .ok []
  else match descStop rt cmd len inline' cls with
    | some st => s.descDone b rt e d st []
    | none =>
      if fldOf F.SWP_DRT_V r = 0 then s.descDone b rt e d .edead []
      else
        let p := s.descData b d cmd len inline'
        if p.2.1 ≠ .ok ∧ p.2.1 ≠ .epoison then p.2.2.descDone b rt e d p.2.1 []
        else
          let o := fldOf F.SWP_DRT_FIRST r
          let pk : Packet := { addr := (d.getD 1 (0, false)).1.toNat % 2 ^ 48, mid := bridgeMid b, tag := BitVec.ofNat 8 k, len := len,
                               cmd := cmd, rt := cls, ddev := ddev, sdev := s.fld F.SWP_DEVID_ID, dhops := fldOf F.SWP_DRT_DHOPS r,
                               hop := BitVec.ofNat 28 (fldOf F.SWP_DRT_HOP r), words := p.1 }
          (p.2.2.setCtx b k (some (.desc rt e o))).sendFar b o pk

/-- DESCRIPTOR_ISSUE: R370: bridge b issues its next descriptor: the RT ring first, at most 16 RT and 32 bulk requests
outstanding. -/
def State.descriptorIssue (s : State) (b : Nat) : State :=
  let x := s.bridge b
  match s.freeCtx b with
  | none => s
  | some k =>
    if x.rtIssue ≠ s.fld F.SWP_RTHEAD_HEAD b ∧ s.descOut b true < 16 then
      (s.modBridge b (fun y => { y with rtIssue := (x.rtIssue + 1) % 16 })).descStart b true x.rtIssue k
    else if x.qIssue ≠ s.fld F.SWP_QHEAD_HEAD b ∧ s.fld F.SWP_QSIZE_SIZE b ≠ 0 ∧ s.descOut b false < 32 then
      (s.modBridge b (fun y => { y with qIssue := (x.qIssue + 1) % s.fld F.SWP_QSIZE_SIZE b })).descStart b false x.qIssue k
    else s

/-- DESCRIPTOR_COMPLETE: R369: the first response at bridge b that answers a descriptor completes it. -/
def State.descriptorComplete (s : State) (b : Nat) : State :=
  let desc (c : Option Ctx) : Bool := match c with
    | some (.desc _ _ _) => true
    | _ => false
  match s.rspWith b desc with
  | none => s
  | some (i, k, p) =>
    match (s.bridge b).ctxs.get k none with
    | some (.desc rt e _) =>
      let s := (s.modBridge b (fun x => { x with rsps := x.rsps.eraseIdx i })).setCtx b k none
      let q := s.descWords b rt e
      q.2.2.descDone b rt e q.1 (statusOf p.status) p.words
    | _ => s

end Sys2Proof.Machine
end

