-- ==== Sys2Proof/Machine/Access.lean ====
section
/-!
DEFINITION. What a command needs before it acts: the unit's power domain and clock (R33, R426), and for an access to a
register the right of the master that makes it (R32, R278); and the response that the master receives.
-/
namespace Sys2Proof.Machine

open Sys2Proof

/-- An event of a unit in a switchable domain happens only while the domain is on and its clock runs (R33, R428). -/
def State.inDom (s : State) (d : Nat) (f : State → State) : State := if s.live d then f s else s

/-- An event of a unit in SYS or NET happens only while the root clock runs (R426, R446). -/
def State.inRun (s : State) (f : State → State) : State := if s.cstate == ckRun then f s else s

/-- R33: the domain of a master's NI; none: NET, SYS or HALO. -/
def masterDomain (m : Nat) : Option Nat :=
  if m < 256 then some (domCL (m / 4))
  else if m < 320 then some (domFS (m - 256))
  else if m < 328 then some (domCPU (m - 320))
  else if 330 ≤ m ∧ m < 346 then some (domSB (m - 330))
  else if m = 348 then some domSMP
  else none

/-- A master can issue a request: its ID is one of R30, and its domain is on and clocked; a sector port, while the sector's logic and the
port clock run (R225, R254). -/
def State.masterLive (s : State) (m : MasterId) : Bool :=
  decide (m.toNat < 349) && s.cstate == ckRun && (match masterDomain m.toNat with | some d => s.live d | none => true) &&
    (!(isSectorMid m.toNat) || (s.sectorRuns (m.toNat - 256) && s.portClock (m.toNat - 256)))

/-- The response that a master has received: its status and data. -/
def State.noteRsp (s : State) (mid : MasterId) (st : Status) (ws : List (Word × Bool)) : State :=
  { s with rsps := s.rsps.set mid.toNat (some { status := st, words := ws }) none }

/-- The region of a register; the virtual terminal's are the DBG block's instance 1 (rightsRegion). -/
def regRegion (r : RegId) (i : Nat) : Region :=
  if r = .DBG_VT_TX ∨ r = .DBG_VT_RX ∨ r = .DBG_VT_STAT then .block .DBG 1 else .block r.desc.blk i

/-- R278: an access of a register by a master, at the block: EASLEEP while the domain is off or fenced, EDENY without the
right, else the access itself. -/
def State.guarded (s : State) (mid : MasterId) (g : Region) (write : Bool) (f : State → WordReply × State) : State :=
  if !(s.masterLive mid) then s
  else if (match g.domain with | some d => !(s.domOn d) || s.fenced d | none => false) then s.noteRsp mid .easleep []
  else if !(s.right mid.toNat g write) then s.noteRsp mid .edeny []
  else
    let r := f s
    r.2.noteRsp mid r.1.status (if write then [] else [(r.1.data, r.1.poison)])

/-- A master writes register r of instance i, entry j (R7, R32). -/
def State.writeAs (s : State) (mid : MasterId) (r : RegId) (i j : Nat) (v : Word) : State :=
  s.guarded mid (regRegion r i) true (fun s => let q := s.regWrite mid r i j 0 v; ({ status := q.1 }, q.2))

/-- The debug master's reads carry INSPECT while DBG_CTRL.INSPECT = 1, as those of a halted hart do (R474). -/
def State.inspects (s : State) (mid : MasterId) : Bool :=
  s.flag F.DBG_CTRL_INSPECT && (mid == 329 || (isCoreMid mid.toNat && (s.hart (mid.toNat - 320)).halted))

/-- A master reads register r of instance i, entry j (R7, R32). -/
def State.readAs (s : State) (mid : MasterId) (r : RegId) (i j : Nat) : State :=
  s.guarded mid (regRegion r i) false (fun s =>
    let q := s.regRead mid r i j 0 (s.inspects mid); ({ data := q.2.1, status := q.1 }, q.2.2))

/-- A write of field f alone: the register's other bits as they stand (R7: the shadow of an RWS register). -/
def State.withFld (s : State) (f : Fld) (v : Nat) (i : Nat) (j : Nat := 0) : Word :=
  putFld f v (if isShadowed f.reg then s.shadowReg f.reg i j else s.reg f.reg i j)

/-- R158, R265: the request of an RD command. part: it is not of whole words. -/
def readReq (mid : MasterId) (tag : Byte) (a : Addr) (len : Nat) (part same rt : Bool) : Xact :=
  { mid := mid, tag := tag.toNat, rt := rt, kind := .read, addr := a.toNat, len := len,
    narrow := part || a.toNat % 8 != 0, same := same }

/-- R158, R265: the request of a WR command with its words and their poison. -/
def writeReq (mid : MasterId) (tag : Byte) (a : Addr) (ws : List (Word × Bool)) (part same rt : Bool) : Xact :=
  { mid := mid, tag := tag.toNat, rt := rt, kind := .write, addr := a.toNat, len := ws.length, wpar := ws,
    narrow := part || a.toNat % 8 != 0, same := same }

/-- R164, R165: the request of an atomic with its operands. -/
def atomicReq (mid : MasterId) (tag : Byte) (a : Addr) (f : AtomicOp) (op cmp : Word) (poison : Bool) (len : Nat)
    (part same rt : Bool) (cmpPoison : Bool := false) : Xact :=
  { mid := mid, tag := tag.toNat, rt := rt, kind := .atomic f, addr := a.toNat, len := len, wpar := [(op, poison), (cmp, cmpPoison)],
    narrow := part || a.toNat % 8 != 0, same := same }

/-- R22, R76: the doorbells of an engine's local space. -/
def startOff : Nat := 0x8000
def irqOff : Nat := 0x8008

/-- A master writes a word of an engine's local space (R82). -/
def State.localAs (s : State) (mid : MasterId) (e off : Nat) (v : Word) (p : Bool) (same : Bool := false) : State :=
  s.guarded mid (.engine e) true (fun s => let q := s.localWrite mid.toNat e off v p same; ({ status := q.1 }, q.2))

/-- A master writes word 0 of an SMP mailbox slot (R199). -/
def State.slotAs (s : State) (mid : MasterId) (i : Nat) (v : Word) : State :=
  s.guarded mid (.block .SMP 0) true (fun s => let q := s.slotWrite i 0 mid v; ({ status := q.1 }, q.2))

/-- A master writes MGT_MBCTL.GO of mailbox window j (R398). -/
def State.mailboxAs (s : State) (mid : MasterId) (j : Nat) (same : Bool) : State :=
  s.guarded mid (.block .MGT j) true (fun s => ({}, s.mailboxGo j same))

/-- A master reads the threshold and claim word of a context (R462). -/
def State.claimAs (s : State) (mid : MasterId) (ctx : Nat) : State :=
  s.guarded mid .plic false (fun s => let q := s.plicClaim ctx (s.inspects mid); ({ data := q.1 }, q.2))

/-- A master writes the threshold and claim word of a context (R462). -/
def State.completeAs (s : State) (mid : MasterId) (ctx : Nat) (v : Word) : State :=
  s.guarded mid .plic true (fun s => ({}, s.plicComplete ctx v))

/-- R224: bulk requests of a master that its NI has not answered. -/
def State.tagsOut (s : State) (m : MasterId) : Nat :=
  (s.xacts.cells.filter (fun c => match c.2 with | some x => x.mid == m && !x.rt && !x.dead | none => false)).length

/-- A master's request to its NI (R266, R278), where the master can issue one; a sector's master channel has 32 tags at most (R224). -/
def State.request (s : State) (x : Xact) : State :=
  if s.masterLive x.mid ∧ !(isSectorMid x.mid.toNat && !x.rt && decide (32 ≤ s.tagsOut x.mid)) then s.issue x else s

/-- R6, R456: a write of a register of peripheral j on Mbana's local bus; a misaligned one changes nothing. -/
def State.localBusWrite (s : State) (j a : Nat) (v : Word) : State :=
  if a % 8 ≠ 0 then s.noteRsp 328 .enarrow [] else (s.busWrite j a v).noteRsp 328 .ok []

/-- R6, R456: a read of a register of peripheral j on Mbana's local bus. -/
def State.localBusRead (s : State) (j a : Nat) : State :=
  if a % 8 ≠ 0 then s.noteRsp 328 .enarrow [(0, false)] else (s.busRead j a).noteRsp 328 .ok [(s.busValue j a, false)]

/-- REGISTER_WRITE: at the block (R7, R32, R493), or on Mbana's local bus, where some j names a peripheral (R456). -/
def State.anyWrite (s : State) (mid : MasterId) (bus : Option (Fin 14)) (a : Nat) (v : Word) : State :=
  match bus with
  | some j => s.inRun (fun s => s.localBusWrite j.val a v)
  | none =>
    if !(s.masterLive mid) then s
    else let q := s.registerWrite mid a v; q.2.noteRsp mid q.1 []

/-- RC_READ: a read of a word of control space, or of a register on Mbana's local bus, that has no row of its own. -/
def State.anyRead (s : State) (mid : MasterId) (bus : Option (Fin 14)) (a : Nat) : State :=
  match bus with
  | some j => s.inRun (fun s => s.localBusRead j.val a)
  | none =>
    if !(s.masterLive mid) then s
    else
      let q := s.registerRead mid a (s.inspects mid)
      q.2.noteRsp mid q.1.status [(q.1.data, q.1.poison)]

end Sys2Proof.Machine
end

