-- ==== Sys2Proof/Machine/AgenCmds.lean ====
section
/-!
DEFINITION. What the commands of this family do: AGEN operations of a bundle (chapter 03).
-/
namespace Sys2Proof.Machine

open Sys2Proof

/-- R90, ANOP: AGEN no-operation. -/
def execAnop (e : Fin 256) (ix : BAddr) (s : State) : Host.Outcome State Fault Refusal :=
  .next (s.keep (s.inDom (domCL (e.val / 4)) (fun s => s.opAgen e.val ix .nop)))

/-- R91, AOUT: Form AO from a scrambled address register, post-modify it, and optionally load or store. -/
def execAout (e : Fin 256) (ix : BAddr) (k : BitVec 3) (j : BitVec 3) (p : Bool) (m : BitVec 2) (n : BitVec 4)
    (s : State) : Host.Outcome State Fault Refusal :=
  .next (s.keep (s.inDom (domCL (e.val / 4)) (fun s => s.opAgen e.val ix (.aout k j p m n))))

/-- R91, SETA: Load a[k] with an extended immediate. -/
def execSeta (e : Fin 256) (ix : BAddr) (k : BitVec 3) (x : Bool) (imm : BitVec 16)
    (s : State) : Host.Outcome State Fault Refusal :=
  .next (s.keep (s.inDom (domCL (e.val / 4)) (fun s => s.opAgen e.val ix (.seta k x imm))))

/-- R91, SETO: Load o[k] with an extended immediate. -/
def execSeto (e : Fin 256) (ix : BAddr) (k : BitVec 3) (x : Bool) (imm : BitVec 16)
    (s : State) : Host.Outcome State Fault Refusal :=
  .next (s.keep (s.inDom (domCL (e.val / 4)) (fun s => s.opAgen e.val ix (.seto k x imm))))

/-- R91, SETM: Load m[k] with an extended immediate. -/
def execSetm (e : Fin 256) (ix : BAddr) (k : BitVec 3) (x : Bool) (imm : BitVec 16)
    (s : State) : Host.Outcome State Fault Refusal :=
  .next (s.keep (s.inDom (domCL (e.val / 4)) (fun s => s.opAgen e.val ix (.setm k x imm))))

/-- R91, MOVD: Move d[n][31:0] into an address, offset or limit register. -/
def execMovd (e : Fin 256) (ix : BAddr) (tr : BitVec 2) (k : BitVec 3) (n : BitVec 4)
    (s : State) : Host.Outcome State Fault Refusal :=
  .next (s.keep (s.inDom (domCL (e.val / 4)) (fun s => s.opAgen e.val ix (.movd tr k n))))

/-- R91, ADVA: Post-modify a[k] by o[j] without changing AO. -/
def execAdva (e : Fin 256) (ix : BAddr) (k : BitVec 3) (j : BitVec 3) (s : State) : Host.Outcome State Fault Refusal :=
  .next (s.keep (s.inDom (domCL (e.val / 4)) (fun s => s.opAgen e.val ix (.adva k j))))

/-- R91, CMPA: Compare a[k] unsigned with m[k] or an immediate into a flag. -/
def execCmpa (e : Fin 256) (ix : BAddr) (k : BitVec 3) (n : BitVec 3) (cc : BitVec 2) (imm2 : Bool)
    (imm : BitVec 11) (s : State) : Host.Outcome State Fault Refusal :=
  .next (s.keep (s.inDom (domCL (e.val / 4)) (fun s => s.opAgen e.val ix (.cmpa k n cc imm2 imm))))

/-- R91, ADDA: Add a sign-extended immediate to a[k] without wrap. -/
def execAdda (e : Fin 256) (ix : BAddr) (k : BitVec 3) (imm : BitVec 17) (s : State) : Host.Outcome State Fault Refusal :=
  .next (s.keep (s.inDom (domCL (e.val / 4)) (fun s => s.opAgen e.val ix (.adda k imm))))

end Sys2Proof.Machine
end

