-- ==== Sys2Proof/Machine/CommandCmds.lean ====
section
/-!
DEFINITION. What the commands of this family do: Mbana's commands (chapter 16).
-/
namespace Sys2Proof.Machine

open Sys2Proof

/-- R405, PING: Mbana command returning firmware version, slot and uptime. -/
def execPing (s : State) : Host.Outcome State Fault Refusal :=
  .next (s.keep (s.cmdPing))

/-- R405, GETID: Mbana command returning identity data. -/
def execGetid (s : State) : Host.Outcome State Fault Refusal :=
  .next (s.keep (s.cmdGetid))

/-- R403, CLAIM: Mbana command that claims a resource under a token with a lease. -/
def execClaim (s : State) : Host.Outcome State Fault Refusal :=
  .next (s.keep (s.cmdClaim))

/-- R403, RELEASE: Mbana command that frees a claimed resource. -/
def execRelease (s : State) : Host.Outcome State Fault Refusal :=
  .next (s.keep (s.cmdRelease))

/-- R440, RESET: Mbana command that runs a DEVICE or scoped reset. -/
def execReset (s : State) : Host.Outcome State Fault Refusal :=
  .next (s.keep (s.cmdReset))

/-- R411, SET: Mbana command that writes a persistent settings key. -/
def execSet (s : State) : Host.Outcome State Fault Refusal :=
  .next (s.keep (s.cmdSet))

/-- R405, GET: Mbana command that returns a settings key's value. -/
def execGet (s : State) : Host.Outcome State Fault Refusal :=
  .next (s.keep (s.cmdGet))

/-- R421, ATTEST: Mbana command that returns the signed attestation reply. -/
def execAttest (s : State) : Host.Outcome State Fault Refusal :=
  .next (s.keep (s.cmdAttest))

/-- R423, ICEKEY: Mbana command that writes region keys or a spare key into the secure bank. -/
def execIcekey (s : State) : Host.Outcome State Fault Refusal :=
  .next (s.keep (s.cmdIcekey))

/-- R405, ICEUNLOCK: Mbana command that unlocks a locked ICE region. -/
def execIceunlock (s : State) : Host.Outcome State Fault Refusal :=
  .next (s.keep (s.cmdIceunlock))

/-- R423, LINKKEY: Mbana command exchanging signed ECDH halves for a link epoch. -/
def execLinkkey (s : State) : Host.Outcome State Fault Refusal :=
  .next (s.keep (s.cmdLinkkey))

/-- R405, CFGSTAT: Mbana command returning CFG_STATUS and CFG_IMAGE. -/
def execCfgstat (s : State) : Host.Outcome State Fault Refusal :=
  .next (s.keep (s.cmdCfgstat))

/-- R405, LOAD: Mbana command that writes CFG_SRC and starts a load. -/
def execLoad (s : State) : Host.Outcome State Fault Refusal :=
  .next (s.keep (s.cmdLoad))

/-- R405, STREAM_BEGIN: Mbana command that opens a streamed image. -/
def execStreamBegin (s : State) : Host.Outcome State Fault Refusal :=
  .next (s.keep (s.cmdStreamBegin))

/-- R405, STREAM_DATA: Mbana command that feeds image bytes to the loader. -/
def execStreamData (s : State) : Host.Outcome State Fault Refusal :=
  .next (s.keep (s.cmdStreamData))

/-- R405, STREAM_END: Mbana command that ends a streamed image and reports the load outcome. -/
def execStreamEnd (s : State) : Host.Outcome State Fault Refusal :=
  .next (s.keep (s.cmdStreamEnd))

/-- R250, DONEREL: Mbana command that releases CFG_DONE of a held device. -/
def execDonerel (s : State) : Host.Outcome State Fault Refusal :=
  .next (s.keep (s.cmdDonerel))

/-- R405, IMGWRITE_BEGIN: Mbana command that erases an image slot for writing. -/
def execImgwriteBegin (s : State) : Host.Outcome State Fault Refusal :=
  .next (s.keep (s.cmdImgwriteBegin))

/-- R405, IMGWRITE_DATA: Mbana command that writes image bytes to flash. -/
def execImgwriteData (s : State) : Host.Outcome State Fault Refusal :=
  .next (s.keep (s.cmdImgwriteData))

/-- R405, IMGWRITE_END: Mbana command that checks the written image header. -/
def execImgwriteEnd (s : State) : Host.Outcome State Fault Refusal :=
  .next (s.keep (s.cmdImgwriteEnd))

/-- R234, SETSLOT: Mbana command that writes the settings record into the unchosen copy. -/
def execSetslot (s : State) : Host.Outcome State Fault Refusal :=
  .next (s.keep (s.cmdSetslot))

/-- R406, SENSORS: Mbana command returning sensor readings. -/
def execSensors (s : State) : Host.Outcome State Fault Refusal :=
  .next (s.keep (s.cmdSensors))

/-- R407, THRESH: Mbana command that sets a sensor's WARN and CRIT thresholds. -/
def execThresh (s : State) : Host.Outcome State Fault Refusal :=
  .next (s.keep (s.cmdThresh))

/-- R405, LOGREAD: Mbana command returning event records from a SEQ. -/
def execLogread (s : State) : Host.Outcome State Fault Refusal :=
  .next (s.keep (s.cmdLogread))

/-- R414, FW_BEGIN: Mbana command that erases the inactive firmware slot. -/
def execFwBegin (s : State) : Host.Outcome State Fault Refusal :=
  .next (s.keep (s.cmdFwBegin))

/-- R414, FW_DATA: Mbana command that writes firmware bytes. -/
def execFwData (s : State) : Host.Outcome State Fault Refusal :=
  .next (s.keep (s.cmdFwData))

/-- R414, FW_END: Mbana command that verifies the written firmware image and floor. -/
def execFwEnd (s : State) : Host.Outcome State Fault Refusal :=
  .next (s.keep (s.cmdFwEnd))

/-- R414, FW_ACTIVATE: Mbana command that arms a trial of the new slot and reboots. -/
def execFwActivate (s : State) : Host.Outcome State Fault Refusal :=
  .next (s.keep (s.cmdFwActivate))

/-- R415, FW_CONFIRM: Mbana command that confirms the trial slot and may raise the floor. -/
def execFwConfirm (s : State) : Host.Outcome State Fault Refusal :=
  .next (s.keep (s.cmdFwConfirm))

/-- R405, FW_STAT: Mbana command returning firmware slot status. -/
def execFwStat (s : State) : Host.Outcome State Fault Refusal :=
  .next (s.keep (s.cmdFwStat))

/-- R414, TRIAL_TIMEOUT: 600 s without FW_CONFIRM reboots into the old slot. -/
def execTrialTimeout (s : State) : Host.Outcome State Fault Refusal :=
  .next (s.keep (s.trialTimeout))

/-- R182, SMP_POWER: Mbana command that switches the SMP domain. -/
def execSmpPower (s : State) : Host.Outcome State Fault Refusal :=
  .next (s.keep (s.cmdSmpPower))

/-- R183, SMP_RESET: Mbana command that resets the SMP. -/
def execSmpReset (s : State) : Host.Outcome State Fault Refusal :=
  .next (s.keep (s.cmdSmpReset))

/-- R405, SMP_RELAY: Mbana command that relays an SMP request through Mbana's mailbox slot. -/
def execSmpRelay (s : State) : Host.Outcome State Fault Refusal :=
  .next (s.keep (s.cmdSmpRelay))

/-- R405, SMPSTAT: Mbana command returning SMP status registers. -/
def execSmpstat (s : State) : Host.Outcome State Fault Refusal :=
  .next (s.keep (s.cmdSmpstat))

/-- R470, DBG_CHAL: Mbana command returning a debug challenge nonce. -/
def execDbgChal (s : State) : Host.Outcome State Fault Refusal :=
  .next (s.keep (s.cmdDbgChal))

/-- R470, DBG_RESP: Mbana command granting a debug level on a verified signature. -/
def execDbgResp (s : State) : Host.Outcome State Fault Refusal :=
  .next (s.keep (s.cmdDbgResp))

/-- R470, DBG_PASS: Mbana command granting a debug level on a matching password. -/
def execDbgPass (s : State) : Host.Outcome State Fault Refusal :=
  .next (s.keep (s.cmdDbgPass))

/-- R470, DBG_REVOKE: Mbana command ending debug authorisation. -/
def execDbgRevoke (s : State) : Host.Outcome State Fault Refusal :=
  .next (s.keep (s.cmdDbgRevoke))

/-- R468, DBG_TUNNEL: Mbana command carrying DMI transactions. -/
def execDbgTunnel (s : State) : Host.Outcome State Fault Refusal :=
  .next (s.keep (s.cmdDbgTunnel))

/-- R34, PWR_DOMAIN: Mbana command that powers a domain on or off, refused for protected domains. -/
def execPwrDomain (s : State) : Host.Outcome State Fault Refusal :=
  .next (s.keep (s.cmdPwrDomain))

/-- R405, PWR_STAT: Mbana command returning domain power states. -/
def execPwrStat (s : State) : Host.Outcome State Fault Refusal :=
  .next (s.keep (s.cmdPwrStat))

/-- R405, CLK_GLOBAL: Mbana command that sets a fabric global line's division. -/
def execClkGlobal (s : State) : Host.Outcome State Fault Refusal :=
  .next (s.keep (s.cmdClkGlobal))

/-- R311, DRAM_RATE: Mbana command that starts rate changes or retraining on channels. -/
def execDramRate (s : State) : Host.Outcome State Fault Refusal :=
  .next (s.keep (s.cmdDramRate))

/-- R405, VTRIM: Mbana command that sets the VCORE setpoint. -/
def execVtrim (ack : Bool) (s : State) : Host.Outcome State Fault Refusal :=
  .next (s.keep (s.cmdVtrim ack))

/-- R444, SLEEP: Mbana command that puts the device into sleep. -/
def execSleep (s : State) : Host.Outcome State Fault Refusal :=
  .next (s.keep (s.cmdSleep))

/-- R405, LC_STAT: Mbana command returning life-cycle status. -/
def execLcStat (s : State) : Host.Outcome State Fault Refusal :=
  .next (s.keep (s.cmdLcStat))

/-- R405, LC_NONCE: Mbana command returning a life-cycle nonce. -/
def execLcNonce (s : State) : Host.Outcome State Fault Refusal :=
  .next (s.keep (s.cmdLcNonce))

/-- R416, LC_PROVISION: Mbana command that provisions key hashes and moves to PROVISIONED. -/
def execLcProvision (s : State) : Host.Outcome State Fault Refusal :=
  .next (s.keep (s.cmdLcProvision))

/-- R422, LC_CERT: Mbana command that stores the identity certificate. -/
def execLcCert (s : State) : Host.Outcome State Fault Refusal :=
  .next (s.keep (s.cmdLcCert))

/-- R417, LC_DEPLOY: Mbana command that transitions to DEPLOYED. -/
def execLcDeploy (s : State) : Host.Outcome State Fault Refusal :=
  .next (s.keep (s.cmdLcDeploy))

/-- R417, LC_RMA: Mbana command that transitions to RMA. -/
def execLcRma (s : State) : Host.Outcome State Fault Refusal :=
  .next (s.keep (s.cmdLcRma))

/-- R417, LC_SCRAP: Mbana command that transitions to SCRAPPED. -/
def execLcScrap (s : State) : Host.Outcome State Fault Refusal :=
  .next (s.keep (s.cmdLcScrap))

/-- R418, TAMPER_CLEAR: Mbana command that clears the tamper latch. -/
def execTamperClear (s : State) : Host.Outcome State Fault Refusal :=
  .next (s.keep (s.cmdTamperClear))

/-- R403, LEASE_EXPIRY: A resource lease expires and the resource becomes free. -/
def execLeaseExpiry (r : Fin 8) (s : State) : Host.Outcome State Fault Refusal :=
  .next (s.keep (s.leaseExpiry r.val))

/-- R405, SLOT_ERASE_COMPLETE: The flash erase that IMGWRITE_BEGIN or FW_BEGIN started completes and the slot accepts data.
-/
def execSlotEraseComplete (img : Bool) (s : State) : Host.Outcome State Fault Refusal :=
  .next (s.keep (s.slotEraseComplete img))

/-- R405, DBG_PASS_LOCKOUT_END: 60 s after three consecutive DBG_PASS failures the lockout ends and DBG_STATUS.LOCKOUT
clears. -/
def execDbgPassLockoutEnd (s : State) : Host.Outcome State Fault Refusal :=
  .next (s.keep (s.lockoutEnd))

end Sys2Proof.Machine
end

