-- ==== Sys2Proof/Machine/ConfigCmds.lean ====
section
/-!
DEFINITION. What the commands of this family do: the configuration controller (chapter 09).
-/
namespace Sys2Proof.Machine

open Sys2Proof

/-- R248, HOLD_RELEASE: CFG_HOLD high for 32 cycles lets the loader start reading. -/
def execHoldRelease (s : State) : Host.Outcome State Fault Refusal :=
  .next (s.keep (s.inRun (fun s => s.holdRelease)))

/-- R233, SETTINGS_READ: The loader reads both settings copies and chooses one. -/
def execSettingsRead (dead : Bool) (s : State) : Host.Outcome State Fault Refusal :=
  .next (s.keep (s.inRun (fun s => s.settingsRead dead)))

/-- R238, HEADER_CHECK: The loader reads and checks an image header. -/
def execHeaderCheck (dead : Bool) (s : State) : Host.Outcome State Fault Refusal :=
  .next (s.keep (s.inRun (fun s => s.headerCheck dead)))

/-- R237, SIGNATURE_CHECK: Verification of the header signature completes. -/
def execSignatureCheck (s : State) : Host.Outcome State Fault Refusal :=
  .next (s.keep (s.inRun (fun s => s.signatureCheck)))

/-- R240, FRAME_ARRIVAL: A frame record arrives, is checked and written to its sector. -/
def execFrameArrival (dead : Bool) (s : State) : Host.Outcome State Fault Refusal :=
  .next (s.keep (s.inRun (fun s => s.frameArrival dead)))

/-- R254, SECTOR_FENCE: Before a sector's frame 0 in a user load the sector is fenced and drained. -/
def execSectorFence (x : Fin 64) (s : State) : Host.Outcome State Fault Refusal :=
  .next (s.keep (s.inRun (fun s => s.sectorFence x.val)))

/-- R241, HASH_CHECK: The body hash is compared and, on pass, loaded sectors are released. -/
def execHashCheck (s : State) : Host.Outcome State Fault Refusal :=
  .next (s.keep (s.inRun (fun s => s.hashCheck)))

/-- R245, LOAD_TIMEOUT: LOADTMO or a 100 ms stream gap expires and the load fails with cause 6. -/
def execLoadTimeout (s : State) : Host.Outcome State Fault Refusal :=
  .next (s.keep (s.inRun (fun s => s.loadTimeout)))

/-- R246, SMP_SEGMENT_DELIVERY: At the next frame boundary the controller reads the SMP segment from flash and delivers it.
-/
def execSmpSegmentDelivery (s : State) : Host.Outcome State Fault Refusal :=
  .next (s.keep (s.inRun (fun s => s.smpSegmentDelivery)))

/-- R443, DEVICE_READY: When the ready condition holds after HASHCHK, the device releases CFG_DONE. -/
def execDeviceReady (s : State) : Host.Outcome State Fault Refusal :=
  .next (s.keep (s.inRun (fun s => s.deviceReady)))

/-- R249, USER_MODE_ENTRY: CFG_DONE high for 32 cycles enters user mode and starts fabric clocks, cores and scrubbing. -/
def execUserModeEntry (s : State) : Host.Outcome State Fault Refusal :=
  .next (s.keep (s.inRun (fun s => s.userModeEntry)))

/-- R252, CFG_CTRL_LOAD: CFG_CTRL.LOAD starts a user-mode load from CFG_SRC unless refused. -/
def execCfgCtrlLoad (mid : MasterId) (s : State) : Host.Outcome State Fault Refusal :=
  .next (s.keep (s.writeAs mid .CFG_CTRL 0 0 (putFld F.CFG_CTRL_LOAD 1 0)))

/-- R250, CFG_CTRL_DONEREL: CFG_CTRL.DONEREL releases CFG_DONE from a held device. -/
def execCfgCtrlDonerel (mid : MasterId) (s : State) : Host.Outcome State Fault Refusal :=
  .next (s.keep (s.writeAs mid .CFG_CTRL 0 0 (putFld F.CFG_CTRL_DONEREL 1 0)))

/-- R259, SCRUB_PASS_START: A sector's scrub pass starts every PERIOD ms. -/
def execScrubPassStart (x : Fin 64) (s : State) : Host.Outcome State Fault Refusal :=
  .next (s.keep (s.inRun (fun s => s.scrubPassStart x.val)))

/-- R257, SCRUB_FRAME: The scrubber reads a frame and corrects a single error or schedules a reload. -/
def execScrubFrame (x : Fin 64) (upset : BitVec 8384) (s : State) : Host.Outcome State Fault Refusal :=
  .next (s.keep (s.inRun (fun s => s.scrubFrame x.val upset)))

/-- R258, FRAME_RELOAD: The scrubber re-reads a frame from its recorded source and rewrites it, or records SCRUBFAIL. -/
def execFrameReload (x : Fin 64) (dead : Bool) (s : State) : Host.Outcome State Fault Refusal :=
  .next (s.keep (s.inRun (fun s => s.frameReload x.val dead)))

/-- R259, SCRUB_PASS_END: At the end of a pass the adaptive rule may halve or double the period. -/
def execScrubPassEnd (x : Fin 64) (s : State) : Host.Outcome State Fault Refusal :=
  .next (s.keep (s.inRun (fun s => s.scrubPassEnd x.val)))

end Sys2Proof.Machine
end

