-- ==== Sys2Proof/Machine/CoreCmds.lean ====
section
/-!
DEFINITION. What the commands of this family do: application cores and watchdogs (chapter 19).
-/
namespace Sys2Proof.Machine

open Sys2Proof

/-- R461, HOST_BOOT: At user-mode entry Mbana checks and copies the host boot image and releases core 0. -/
def execHostBoot (s : State) : Host.Outcome State Fault Refusal :=
  .next (s.keep (s.inRun (fun s => s.hostBoot)))

/-- R461, CORE_RUN: A write of SYS_CORE_RUN.RUN releases or resets cores. -/
def execCoreRun (mid : MasterId) (run : Byte) (s : State) : Host.Outcome State Fault Refusal :=
  .next (s.keep (s.writeAs mid .SYS_CORE_RUN 0 0 (putFld F.SYS_CORE_RUN_RUN run.toNat 0)))

/-- R463, IRQPOST: A write of SYS_IRQPOST raises a PLIC source 768 to 1,023. -/
def execIrqpost (mid : MasterId) (src : BitVec 10) (s : State) : Host.Outcome State Fault Refusal :=
  .next (s.keep (s.writeAs mid .SYS_IRQPOST 0 0 (putFld F.SYS_IRQPOST_SRC src.toNat 0)))

/-- R462, PLIC_CLAIM: A read of the threshold-claim word claims the highest pending interrupt. -/
def execPlicClaim (mid : MasterId) (ctx : Fin 16) (s : State) : Host.Outcome State Fault Refusal :=
  .next (s.keep (s.claimAs mid ctx.val))

/-- R462, PLIC_COMPLETE: A write of the threshold-claim word sets the threshold and completes an ID. -/
def execPlicComplete (mid : MasterId) (ctx : Fin 16) (v : Word) (s : State) : Host.Outcome State Fault Refusal :=
  .next (s.keep (s.completeAs mid ctx.val v))

/-- R459, CORE_UNCACHEABLE_ACCESS: A core access outside DRAM is sent as a 64-bit access or raises an access fault. -/
def execCoreUncacheableAccess (k : Fin 8) (kind : CoreAccess) (a : Addr) (bytes : Fin 9) (rd : BitVec 5) (v : Word)
    (same : Bool) (s : State) : Host.Outcome State Fault Refusal :=
  .next (s.keep (s.inDom (domCPU k.val) (fun s => s.coreAccess k.val kind a.toNat bytes.val rd.toNat v same)))

/-- R460, WRITEBACK_ERROR: A failed dirty-line write-back records SYS_WBERR and raises a PLIC source. -/
def execWritebackError (k : Fin 8) (a : Addr) (st : Fin 16) (s : State) : Host.Outcome State Fault Refusal :=
  .next (s.keep (s.inDom (domCPU k.val) (fun s => s.writebackError k.val a.toNat st.val)))

/-- R464, MACHINE_TIMER: TIME reaching TB_MTIMECMP_k makes core k's timer interrupt pending. -/
def execMachineTimer (k : Fin 8) (s : State) : Host.Outcome State Fault Refusal :=
  .next (s.keep (s.inDom (domCPU k.val) (fun s => s.machineTimer k.val)))

/-- R465, WDT_KICK: A WDT_KICK write reloads the watchdog or sets BADKEY. -/
def execWdtKick (mid : MasterId) (k : Fin 9) (key : Word) (s : State) : Host.Outcome State Fault Refusal :=
  .next (s.keep (s.writeAs mid .WDT_KICK k.val 0 key))

/-- R465, WDT_EXPIRY: A watchdog expires, raising an early interrupt or resetting its core or Mbana. -/
def execWdtExpiry (k : Fin 9) (s : State) : Host.Outcome State Fault Refusal :=
  .next (s.keep (s.wdtExpiry k.val))

end Sys2Proof.Machine
end

