-- ==== Sys2Proof/Machine/DebugCmds.lean ====
section
/-!
DEFINITION. What the commands of this family do: JTAG, the debug module, watch units and virtual terminals (chapter 19).
-/
namespace Sys2Proof.Machine

open Sys2Proof

/-- R467, EXTEST: JTAG instruction selecting boundary scan in board-test mode. -/
def execExtest (cells : Word) (s : State) : Host.Outcome State Fault Refusal :=
  .next (s.keep (s.tapExtest cells))

/-- R467, IDCODE: JTAG instruction selecting the 32-bit IDCODE register. -/
def execIdcode (s : State) : Host.Outcome State Fault Refusal :=
  .next (s.keep (s.tapIdcode))

/-- R467, SAMPLE_PRELOAD: JTAG instruction selecting boundary scan for sampling in board-test mode. -/
def execSamplePreload (cells : Word) (s : State) : Host.Outcome State Fault Refusal :=
  .next (s.keep (s.tapSample cells))

/-- R467, CLAMP: JTAG instruction clamping outputs with bypass selected. -/
def execClamp (s : State) : Host.Outcome State Fault Refusal :=
  .next (s.keep (s.tapClamp))

/-- R467, HIGHZ: JTAG instruction placing outputs in high-impedance with bypass selected. -/
def execHighz (s : State) : Host.Outcome State Fault Refusal :=
  .next (s.keep (s.tapHighz))

/-- R467, DTMCS: JTAG instruction selecting the debug transport control register. -/
def execDtmcs (v : BitVec 32) (s : State) : Host.Outcome State Fault Refusal :=
  .next (s.keep (s.tapDtmcs v))

/-- R467, DMI: JTAG instruction performing a DMI access within the authorised level. -/
def execDmi (op : Fin 4) (a : BitVec 9) (v : BitVec 32) (s : State) : Host.Outcome State Fault Refusal :=
  .next (s.keep (s.tapDmi op.val a.toNat v))

/-- R467, BYPASS: JTAG instruction selecting the 1-bit bypass register. -/
def execBypass (s : State) : Host.Outcome State Fault Refusal :=
  .next (s.keep (s.tapBypass))

/-- R468, HART_HALT: The debug module halts a hart. -/
def execHartHalt (h : Fin 10) (s : State) : Host.Outcome State Fault Refusal :=
  .next (s.keep (s.hartHalt h.val))

/-- R468, HART_RESUME: The debug module resumes a halted hart. -/
def execHartResume (h : Fin 10) (s : State) : Host.Outcome State Fault Refusal :=
  .next (s.keep (s.hartResume h.val))

/-- R468, SINGLE_STEP: The debug module single-steps a hart. -/
def execSingleStep (h : Fin 10) (s : State) : Host.Outcome State Fault Refusal :=
  .next (s.keep (s.singleStep h.val))

/-- R468, HARTRESET: The debug module resets a hart. -/
def execHartreset (h : Fin 10) (s : State) : Host.Outcome State Fault Refusal :=
  .next (s.keep (s.hartReset h.val))

/-- R468, NDMRESET: The debug module resets the application cores. -/
def execNdmreset (s : State) : Host.Outcome State Fault Refusal :=
  .next (s.keep (s.ndmReset))

/-- R468, ABSTRACT_COMMAND: The debug module performs an abstract register access or program buffer execution. -/
def execAbstractCommand (cmd : BitVec 32) (s : State) : Host.Outcome State Fault Refusal :=
  .next (s.keep (s.abstractCommand cmd))

/-- R468, SYSTEM_BUS_ACCESS: The debug module issues a 64-bit system bus access as master 329. -/
def execSystemBusAccess (same : Bool) (s : State) : Host.Outcome State Fault Refusal :=
  .next (s.keep (s.inRun (fun s => s.systemBusAccess same)))

/-- R471, TRIGGER_FIRE: A hart trigger matches and raises a breakpoint or enters debug mode. -/
def execTriggerFire (h : Fin 10) (t : Fin 9) (s : State) : Host.Outcome State Fault Refusal :=
  .next (s.keep (s.triggerFire h.val t.val))

/-- R472, WATCH_MATCH: An engine watch unit matches, counting and recording it and starting its action. -/
def execWatchMatch (u : Fin 16) (fails : BitVec 4) (idx : Word48) (s : State) : Host.Outcome State Fault Refusal :=
  .next (s.keep (s.inRun (fun s => s.watchMatch u.val fails idx)))

/-- R472, WATCH_PAUSE: At least 8 engine cycles after a watch match the gang pauses. -/
def execWatchPause (e : Fin 256) (s : State) : Host.Outcome State Fault Refusal :=
  .next (s.keep (s.inDom (domCL (e.val / 4)) (fun s => s.watchPause e.val)))

/-- R472, WATCH_FREEZE: At least 64 root periods after a watch match every performance monitor freezes. -/
def execWatchFreeze (s : State) : Host.Outcome State Fault Refusal :=
  .next (s.keep (s.inRun (fun s => s.watchFreeze)))

/-- R473, VT_TX_WRITE: Core k writes its virtual-terminal TX entry. -/
def execVtTxWrite (mid : MasterId) (k : Fin 8) (v : Word) (s : State) : Host.Outcome State Fault Refusal :=
  .next (s.keep (s.writeAs mid .DBG_VT_TX 0 k.val v))

/-- R473, VT_TX_READ: Master 329 reads and empties the TX entry. -/
def execVtTxRead (mid : MasterId) (k : Fin 8) (s : State) : Host.Outcome State Fault Refusal :=
  .next (s.keep (s.readAs mid .DBG_VT_TX 0 k.val))

/-- R473, VT_RX_WRITE: Master 329 writes core k's virtual-terminal RX entry. -/
def execVtRxWrite (mid : MasterId) (k : Fin 8) (v : Word) (s : State) : Host.Outcome State Fault Refusal :=
  .next (s.keep (s.writeAs mid .DBG_VT_RX 0 k.val v))

/-- R473, VT_RX_READ: Core k reads and empties its RX entry. -/
def execVtRxRead (mid : MasterId) (k : Fin 8) (s : State) : Host.Outcome State Fault Refusal :=
  .next (s.keep (s.readAs mid .DBG_VT_RX 0 k.val))

end Sys2Proof.Machine
end

