-- ==== Sys2Proof/Machine/DgenCmds.lean ====
section
/-!
DEFINITION. What the commands of this family do: DGEN operations of a bundle (chapter 03).
-/
namespace Sys2Proof.Machine

open Sys2Proof

/-- R93, DNOP: DGEN no-operation. -/
def execDnop (e : Fin 256) (ix : BAddr) (s : State) : Host.Outcome State Fault Refusal :=
  .next (s.keep (s.inDom (domCL (e.val / 4)) (fun s => s.opDgen e.val ix .nop)))

/-- R94, MOV: DGEN result d[SA]. -/
def execMov (e : Fin 256) (ix : BAddr) (w : DDest) (sa : BitVec 4) (s : State) : Host.Outcome State Fault Refusal :=
  .next (s.keep (s.inDom (domCL (e.val / 4)) (fun s => s.opDgen e.val ix (.mov w sa))))

/-- R94, NOT: DGEN result NOT d[SA]. -/
def execNot (e : Fin 256) (ix : BAddr) (w : DDest) (sa : BitVec 4) (s : State) : Host.Outcome State Fault Refusal :=
  .next (s.keep (s.inDom (domCL (e.val / 4)) (fun s => s.opDgen e.val ix (.not w sa))))

/-- R94, AND: DGEN result d[SA] AND d[SB]. -/
def execAnd (e : Fin 256) (ix : BAddr) (w : DDest) (sa : BitVec 4) (sb : BitVec 4)
    (s : State) : Host.Outcome State Fault Refusal :=
  .next (s.keep (s.inDom (domCL (e.val / 4)) (fun s => s.opDgen e.val ix (.and w sa sb))))

/-- R94, OR: DGEN result d[SA] OR d[SB]. -/
def execOr (e : Fin 256) (ix : BAddr) (w : DDest) (sa : BitVec 4) (sb : BitVec 4)
    (s : State) : Host.Outcome State Fault Refusal :=
  .next (s.keep (s.inDom (domCL (e.val / 4)) (fun s => s.opDgen e.val ix (.or w sa sb))))

/-- R94, XOR: DGEN result d[SA] XOR d[SB]. -/
def execXor (e : Fin 256) (ix : BAddr) (w : DDest) (sa : BitVec 4) (sb : BitVec 4)
    (s : State) : Host.Outcome State Fault Refusal :=
  .next (s.keep (s.inDom (domCL (e.val / 4)) (fun s => s.opDgen e.val ix (.xor w sa sb))))

/-- R94, ADD: DGEN result d[SA] + d[SB] modulo 2^64. -/
def execAdd (e : Fin 256) (ix : BAddr) (w : DDest) (sa : BitVec 4) (sb : BitVec 4)
    (s : State) : Host.Outcome State Fault Refusal :=
  .next (s.keep (s.inDom (domCL (e.val / 4)) (fun s => s.opDgen e.val ix (.add w sa sb))))

/-- R94, SUB: DGEN result d[SA] − d[SB] modulo 2^64. -/
def execSub (e : Fin 256) (ix : BAddr) (w : DDest) (sa : BitVec 4) (sb : BitVec 4)
    (s : State) : Host.Outcome State Fault Refusal :=
  .next (s.keep (s.inDom (domCL (e.val / 4)) (fun s => s.opDgen e.val ix (.sub w sa sb))))

/-- R94, SHL: DGEN result d[SA] shifted left by SH. -/
def execShl (e : Fin 256) (ix : BAddr) (w : DDest) (sa : BitVec 4) (sh : BitVec 6)
    (s : State) : Host.Outcome State Fault Refusal :=
  .next (s.keep (s.inDom (domCL (e.val / 4)) (fun s => s.opDgen e.val ix (.shl w sa sh))))

/-- R94, SHR: DGEN result d[SA] shifted right by SH with zero fill. -/
def execShr (e : Fin 256) (ix : BAddr) (w : DDest) (sa : BitVec 4) (sh : BitVec 6)
    (s : State) : Host.Outcome State Fault Refusal :=
  .next (s.keep (s.inDom (domCL (e.val / 4)) (fun s => s.opDgen e.val ix (.shr w sa sh))))

/-- R94, ROL: DGEN result d[SA] rotated left by SH. -/
def execRol (e : Fin 256) (ix : BAddr) (w : DDest) (sa : BitVec 4) (sh : BitVec 6)
    (s : State) : Host.Outcome State Fault Refusal :=
  .next (s.keep (s.inDom (domCL (e.val / 4)) (fun s => s.opDgen e.val ix (.rol w sa sh))))

/-- R94, LDI: DGEN result a sign-extended 13-bit immediate. -/
def execLdi (e : Fin 256) (ix : BAddr) (w : DDest) (imm : BitVec 13) (s : State) : Host.Outcome State Fault Refusal :=
  .next (s.keep (s.inDom (domCL (e.val / 4)) (fun s => s.opDgen e.val ix (.ldi w imm))))

/-- R94, CAT: DGEN result d[DST] shifted left 13 ORed with an immediate. -/
def execCat (e : Fin 256) (ix : BAddr) (w : DDest) (imm : BitVec 13) (s : State) : Host.Outcome State Fault Refusal :=
  .next (s.keep (s.inDom (domCL (e.val / 4)) (fun s => s.opDgen e.val ix (.cat w imm))))

/-- R94, TOPO: DGEN result d[SA] inverted when the parity of AO masked by d[SB] is 1. -/
def execTopo (e : Fin 256) (ix : BAddr) (w : DDest) (sa : BitVec 4) (sb : BitVec 4)
    (s : State) : Host.Outcome State Fault Refusal :=
  .next (s.keep (s.inDom (domCL (e.val / 4)) (fun s => s.opDgen e.val ix (.topo w sa sb))))

/-- R94, MOVAO: DGEN result AO zero-extended. -/
def execMovao (e : Fin 256) (ix : BAddr) (w : DDest) (s : State) : Host.Outcome State Fault Refusal :=
  .next (s.keep (s.inDom (domCL (e.val / 4)) (fun s => s.opDgen e.val ix (.movao w))))

/-- R60, PADV: Advance PRBS generator G by N bits and yield PW[G]. -/
def execPadv (e : Fin 256) (ix : BAddr) (w : DDest) (g : BitVec 2) (n : BitVec 7)
    (s : State) : Host.Outcome State Fault Refusal :=
  .next (s.keep (s.inDom (domCL (e.val / 4)) (fun s => s.opDgen e.val ix (.padv w g n))))

/-- R94, PXOR: DGEN result d[SA] XOR PW[G]. -/
def execPxor (e : Fin 256) (ix : BAddr) (w : DDest) (sa : BitVec 4) (g : BitVec 2)
    (s : State) : Host.Outcome State Fault Refusal :=
  .next (s.keep (s.inDom (domCL (e.val / 4)) (fun s => s.opDgen e.val ix (.pxor w sa g))))

/-- R94, PSEED: Load PRBS generator G's state from d[SA]. -/
def execPseed (e : Fin 256) (ix : BAddr) (w : DDest) (sa : BitVec 4) (g : BitVec 2)
    (s : State) : Host.Outcome State Fault Refusal :=
  .next (s.keep (s.inDom (domCL (e.val / 4)) (fun s => s.opDgen e.val ix (.pseed w sa g))))

/-- R94, UNPK: Unpack two 16-bit or 8-bit lanes into 24-bit fields. -/
def execUnpk (e : Fin 256) (ix : BAddr) (w : DDest) (sa : BitVec 4) (wd : Bool) (q : BitVec 2)
    (s : State) : Host.Outcome State Fault Refusal :=
  .next (s.keep (s.inDom (domCL (e.val / 4)) (fun s => s.opDgen e.val ix (.unpk w sa wd q))))

/-- R94, CMPD: Compare two data registers unsigned into a flag. -/
def execCmpd (e : Fin 256) (ix : BAddr) (sa : BitVec 4) (sb : BitVec 4) (n : BitVec 3) (cc : BitVec 2)
    (s : State) : Host.Outcome State Fault Refusal :=
  .next (s.keep (s.inDom (domCL (e.val / 4)) (fun s => s.opDgen e.val ix (.cmpd sa sb n cc))))

end Sys2Proof.Machine
end

