-- ==== Sys2Proof/Machine/DramCmds.lean ====
section
/-!
DEFINITION. What the commands of this family do: DRAM channels (chapter 11).
-/
namespace Sys2Proof.Machine

open Sys2Proof

/-- R296, LINE_ACCESS: The DRAM controller performs a scheduled line read, write, partial write or atomic with G512 and
crypto. -/
def execLineAccess (k : Fin 12) (n : Nat) (s : State) : Host.Outcome State Fault Refusal :=
  .next (s.keep (s.inDom (domDM k.val) (fun s => s.lineAccess k.val n)))

/-- R298, CEWB_WRITE_BACK: A scheduled write-back of a corrected line is performed unless a write is queued. -/
def execCewbWriteBack (k : Fin 12) (lam : Fin 33554432) (s : State) : Host.Outcome State Fault Refusal :=
  .next (s.keep (s.inDom (domDM k.val) (fun s => s.cewbWriteBack k.val lam.val)))

/-- R299, PATROL_READ: Every PATROL × 1,024 DRAM clocks the patrol reads and corrects the next line. -/
def execPatrolRead (k : Fin 12) (s : State) : Host.Outcome State Fault Refusal :=
  .next (s.keep (s.inDom (domDM k.val) (fun s => s.patrolRead k.val)))

/-- R303, REFRESH: Every TREFI DRAM clocks a per-bank refresh is issued or postponed. -/
def execRefresh (k : Fin 12) (s : State) : Host.Outcome State Fault Refusal :=
  .next (s.keep (s.inDom (domDM k.val) (fun s => s.refresh k.val)))

/-- R302, ROW_IDLE_CLOSE: A row idle for IDLE DRAM clocks is closed. -/
def execRowIdleClose (k : Fin 12) (b : Fin 16) (s : State) : Host.Outcome State Fault Refusal :=
  .next (s.keep (s.inDom (domDM k.val) (fun s => s.rowIdleClose k.val b.val)))

/-- R307, THROTTLE_END: A master's throttle duration expires. -/
def execThrottleEnd (k : Fin 12) (mid : MasterId) (b : Fin 16) (s : State) : Host.Outcome State Fault Refusal :=
  .next (s.keep (s.inDom (domDM k.val) (fun s => s.throttleEnd k.val mid b.val)))

/-- R308, DRAM_TRAINING: At DRAM clock start a channel resets, calibrates and trains its lanes. -/
def execDramTraining (k : Fin 12) (fail : Bool) (s : State) : Host.Outcome State Fault Refusal :=
  .next (s.keep (s.inDom (domDM k.val) (fun s => s.dramTraining k.val fail)))

/-- R308, TRAINING_COMPLETE: After training and GO the channel starts its fill. -/
def execTrainingComplete (k : Fin 12) (s : State) : Host.Outcome State Fault Refusal :=
  .next (s.keep (s.inDom (domDM k.val) (fun s => (s.trainingComplete k.val).noteTrained k.val)))

/-- R308, ILV_GO: DMC_ILV.GO locks the interleave register and lets the fills start. -/
def execIlvGo (mid : MasterId) (k : Fin 12) (ilv : BitVec 3) (cap : BitVec 4)
    (s : State) : Host.Outcome State Fault Refusal :=
  .next (s.keep (s.writeAs mid .DMC_ILV k.val 0 (putFld F.DMC_ILV_GO 1 (putFld F.DMC_ILV_CAP cap.toNat (putFld F.DMC_ILV_ILV ilv.toNat 0)))))

/-- R310, FILL: DMC_CMD.FILL starts a channel fill in user mode unless refused. -/
def execFill (mid : MasterId) (k : Fin 12) (s : State) : Host.Outcome State Fault Refusal :=
  .next (s.keep (s.writeAs mid .DMC_CMD k.val 0 (putFld F.DMC_CMD_FILL 1 0)))

/-- R310, DRAM_FILL_COMPLETE: A channel fill ends and the channel enters READY. -/
def execDramFillComplete (k : Fin 12) (s : State) : Host.Outcome State Fault Refusal :=
  .next (s.keep (s.inDom (domDM k.val) (fun s => s.dramFillComplete k.val)))

/-- R311, SETRATE: DMC_CMD.SETRATE starts a rate transition unless refused. -/
def execSetrate (mid : MasterId) (k : Fin 12) (rate : Bool) (s : State) : Host.Outcome State Fault Refusal :=
  .next (s.keep (s.writeAs mid .DMC_CMD k.val 0 (putFld F.DMC_CMD_SETRATE 1 (putFld F.DMC_CMD_RATE (bit rate) 0))))

/-- R311, RETRAIN: DMC_CMD.RETRAIN starts a retraining transition unless refused. -/
def execRetrain (mid : MasterId) (k : Fin 12) (s : State) : Host.Outcome State Fault Refusal :=
  .next (s.keep (s.writeAs mid .DMC_CMD k.val 0 (putFld F.DMC_CMD_RETRAIN 1 0)))

/-- R311, TRANSITION_QUIESCED: With the scheduler queue empty the banks are precharged and devices enter self-refresh. -/
def execTransitionQuiesced (k : Fin 12) (s : State) : Host.Outcome State Fault Refusal :=
  .next (s.keep (s.inDom (domDM k.val) (fun s => s.transitionQuiesced k.val)))

/-- R311, TRANSITION_COMPLETE: After clock switch, exit and retraining the channel returns to READY. -/
def execTransitionComplete (k : Fin 12) (s : State) : Host.Outcome State Fault Refusal :=
  .next (s.keep (s.inDom (domDM k.val) (fun s => (s.transitionComplete k.val).noteTrained k.val)))

/-- R307, THROTTLED_REQUEST_ADMIT: A throttled master's next request in the throttle buffer is admitted once GAP DRAM clocks
have passed since the last one. -/
def execThrottledRequestAdmit (k : Fin 12) (s : State) : Host.Outcome State Fault Refusal :=
  .next (s.keep (s.inDom (domDM k.val) (fun s => s.throttledAdmit k.val)))

end Sys2Proof.Machine
end

