-- ==== Sys2Proof/Machine/EngineCmds.lean ====
section
/-!
DEFINITION. What the commands of this family do: engine control, its pipeline's events and gangs (chapter 02).
-/
namespace Sys2Proof.Machine

open Sys2Proof

/-- R47, BBINV: CE_CTRL.BBINV invalidates the engine's bundle buffer in IDLE. -/
def execBbinv (mid : MasterId) (e : Fin 256) (s : State) : Host.Outcome State Fault Refusal :=
  .next (s.keep (s.writeAs mid .CE_CTRL e.val 0 (putFld F.CE_CTRL_BBINV 1 0)))

/-- R67, CLEAR: CE_CTRL.CLEAR returns an engine from FAULT to IDLE and clears CE_FAULT, deferred to the drain end. -/
def execClear (mid : MasterId) (e : Fin 256) (s : State) : Host.Outcome State Fault Refusal :=
  .next (s.keep (s.writeAs mid .CE_CTRL e.val 0 (putFld F.CE_CTRL_CLEAR 1 0)))

/-- R69, ABORT: CE_CTRL.ABORT faults the engine or its gang with cause ABORT. -/
def execAbort (mid : MasterId) (e : Fin 256) (s : State) : Host.Outcome State Fault Refusal :=
  .next (s.keep (s.writeAs mid .CE_CTRL e.val 0 (putFld F.CE_CTRL_ABORT 1 0)))

/-- R67, ANALYZE: CE_CTRL.ANALYZE moves an idle engine to ANALYSIS at CE_PC.APC. -/
def execAnalyze (mid : MasterId) (e : Fin 256) (s : State) : Host.Outcome State Fault Refusal :=
  .next (s.keep (s.writeAs mid .CE_CTRL e.val 0 (putFld F.CE_CTRL_ANALYZE 1 0)))

/-- R71, DISARM: CE_CTRL.DISARM to a leader disarms an armed gang and cancels a pending start if it arrives before the wake.
-/
def execDisarm (mid : MasterId) (e : Fin 256) (s : State) : Host.Outcome State Fault Refusal :=
  .next (s.keep (s.writeAs mid .CE_CTRL e.val 0 (putFld F.CE_CTRL_DISARM 1 0)))

/-- R71, ARM: CE_CTRL.ARM to a leader arms the gang when every member is idle with matching size. -/
def execArm (mid : MasterId) (e : Fin 256) (s : State) : Host.Outcome State Fault Refusal :=
  .next (s.keep (s.writeAs mid .CE_CTRL e.val 0 (putFld F.CE_CTRL_ARM 1 0)))

/-- R81, CE_COMMIT: A write of CE_COMMIT.GO commits the engine's RWS fields unless refused. -/
def execCeCommit (mid : MasterId) (e : Fin 256) (s : State) : Host.Outcome State Fault Refusal :=
  .next (s.keep (s.writeAs mid .CE_COMMIT e.val 0 1))

/-- R22, START_DOORBELL: A start command written to a leader's START doorbell arms a pending start, resumes a paused gang,
or is refused as late or unarmed. -/
def execStartDoorbell (mid : MasterId) (e : Fin 256) (t : Word) (same : Bool)
    (s : State) : Host.Outcome State Fault Refusal :=
  .next (s.keep (s.localAs mid e.val startOff t false same))

/-- R76, IRQ_DOORBELL: A write of the IRQ doorbell ORs request bits into CE_INT.PEND. -/
def execIrqDoorbell (mid : MasterId) (e : Fin 256) (bits : Byte) (s : State) : Host.Outcome State Fault Refusal :=
  .next (s.keep (s.localAs mid e.val irqOff (bits.setWidth 64) false))

/-- R82, ENGINE_STATE_WRITE: A write to the engine local-space state window updates a register when the engine is in IDLE or
FAULT. -/
def execEngineStateWrite (mid : MasterId) (e : Fin 256) (off : Fin 65) (v : Word) (poison : Bool)
    (s : State) : Host.Outcome State Fault Refusal :=
  .next (s.keep (s.localAs mid e.val (0x3000 + 8 * off.val) v poison))

/-- R72, GANG_WAKE: 24 engine cycles before the start time the leader wakes its members and begins prefetch at SPC. -/
def execGangWake (e : Fin 256) (s : State) : Host.Outcome State Fault Refusal :=
  .next (s.keep (s.inDom (domCL (e.val / 4)) (fun s => s.gangWake e.val)))

/-- R72, GANG_START: At the rounded start time the gang's first vector leaves S6 and the gang leaves the armed state. -/
def execGangStart (e : Fin 256) (s : State) : Host.Outcome State Fault Refusal :=
  .next (s.keep (s.inDom (domCL (e.val / 4)) (fun s => s.gangStart e.val)))

/-- R39, PIPELINE_STEP: The engine pipeline advances one stage, running each stage's work and the loop-end check. -/
def execPipelineStep (e : Fin 256) (s : State) : Host.Outcome State Fault Refusal :=
  .next (s.keep (s.inDom (domCL (e.val / 4)) (fun s => s.pipelineStep e.val)))

/-- R44, PREFETCH_RETURN: Port A read data for a prefetch enters the prefetch queue, possibly as a failed entry. -/
def execPrefetchReturn (e : Fin 256) (s : State) : Host.Outcome State Fault Refusal :=
  .next (s.keep (s.inDom (domCL (e.val / 4)) (fun s => s.prefetchReturn e.val)))

/-- R41, LOAD_RETURN: A load's port A data writes its target data register and poison bit. -/
def execLoadReturn (e : Fin 256) (s : State) : Host.Outcome State Fault Refusal :=
  .next (s.keep (s.inDom (domCL (e.val / 4)) (fun s => s.loadReturn e.val)))

/-- R73, GANG_FAULT: The gang fault signal reaches a member, which enters FAULT with cause GANG. -/
def execGangFault (e : Fin 256) (s : State) : Host.Outcome State Fault Refusal :=
  .next (s.keep (s.inDom (domCL (e.val / 4)) (fun s => s.gangFaultArrives e.val)))

/-- R126, SAFE_STATE: After the last event of the vectors before the faulting bundle, every pin of the gang takes the safe
state and the drain ends. -/
def execSafeState (e : Fin 256) (s : State) : Host.Outcome State Fault Refusal :=
  .next (s.keep (s.inDom (domCL (e.val / 4)) (fun s => s.safeState e.val)))

/-- R54, PROGRAM_END: After HALT or ENTA and its delay slot complete S6, the engine enters IDLE or analysis entry. -/
def execProgramEnd (e : Fin 256) (s : State) : Host.Outcome State Fault Refusal :=
  .next (s.keep (s.inDom (domCL (e.val / 4)) (fun s => s.programEnd e.val)))

/-- R125, END_OF_PATTERN_STATE: After the last vector period and the last event, every pin of the gang takes its end-of-
pattern state. -/
def execEndOfPatternState (e : Fin 256) (s : State) : Host.Outcome State Fault Refusal :=
  .next (s.keep (s.inDom (domCL (e.val / 4)) (fun s => s.endOfPattern e.val)))

/-- R74, SYNC_RELEASE: When every analysing member has reached SYNC, all release together 3 engine cycles after the last
arrival. -/
def execSyncRelease (e : Fin 256) (s : State) : Host.Outcome State Fault Refusal :=
  .next (s.keep (s.inDom (domCL (e.val / 4)) (fun s => s.syncRelease e.val)))

/-- R77, INTERRUPT_ENTRY: The engine accepts the lowest pending request, drains, saves IPC and IFLAGS and fetches the
handler. -/
def execInterruptEntry (e : Fin 256) (s : State) : Host.Outcome State Fault Refusal :=
  .next (s.keep (s.inDom (domCL (e.val / 4)) (fun s => s.interruptEntry e.val)))

/-- R80, RESTL_COMPLETE: When all 10 saved words have arrived, RESTL checks and writes the loop and call state and
refetches. -/
def execRestlComplete (e : Fin 256) (s : State) : Host.Outcome State Fault Refusal :=
  .next (s.keep (s.inDom (domCL (e.val / 4)) (fun s => s.restlComplete e.val)))

/-- R148, FCU_PAUSE: A fail-capture pause request takes effect at a step at least 8 engine cycles after the compare close.
-/
def execFcuPause (e : Fin 256) (s : State) : Host.Outcome State Fault Refusal :=
  .next (s.keep (s.inDom (domCL (e.val / 4)) (fun s => s.fcuPause e.val)))

end Sys2Proof.Machine
end

