-- ==== Sys2Proof/Machine/ErrorCmds.lean ====
section
/-!
DEFINITION. What the commands of this family do: error records and the error log (chapter 15).
-/
namespace Sys2Proof.Machine

open Sys2Proof

/-- R390, ERROR_RECORD: A unit's error record reaches the ERR log, merged, accepted or dropped, and raises the ERR
interrupt. -/
def execErrorRecord (s : State) : Host.Outcome State Fault Refusal :=
  .next (s.keep (s.inRun (fun s => s.errorRecord.copyErr s.err.seq)))

/-- R392, ERR_PTR_WRITE: A write of ERR_PTR.RP frees log records unless it would pass WP. -/
def execErrPtrWrite (mid : MasterId) (rp : BitVec 9) (s : State) : Host.Outcome State Fault Refusal :=
  .next (s.keep (s.writeAs mid .ERR_PTR 0 0 (putFld F.ERR_PTR_RP rp.toNat 0)))

end Sys2Proof.Machine
end

