-- ==== Sys2Proof/Machine/FabricCmds.lean ====
section
/-!
DEFINITION. What the commands of this family do: the fabric (chapter 08).
-/
namespace Sys2Proof.Machine

open Sys2Proof

/-- R218, BM_READ: A block-memory port read returns the old word, corrected or poisoned. -/
def execBmRead (n : Fin 10240) (ix : Fin 4096) (portB : Bool) (same : Bool) (s : State) : Host.Outcome State Fault Refusal :=
  .next (s.keep (s.inDom (domFS (bmSector n.val)) (fun s => s.bmRead n.val ix.val portB same)))

/-- R218, BM_WRITE: A block-memory port write stores its word, or is refused or collides. -/
def execBmWrite (n : Fin 10240) (ix : Fin 4096) (portB : Bool) (same : Bool) (be : Byte) (v : BitVec 80)
    (s : State) : Host.Outcome State Fault Refusal :=
  .next (s.keep (s.inDom (domFS (bmSector n.val)) (fun s => s.bmWrite n.val ix.val portB same be v)))

/-- R219, BM_SCRUB: The scrubber reads a protected block-memory word and writes back a correction when both ports are idle.
-/
def execBmScrub (n : Fin 10240) (w : Fin 512) (busy : Bool) (s : State) : Host.Outcome State Fault Refusal :=
  .next (s.keep (s.inDom (domFS (bmSector n.val)) (fun s => s.bmScrub n.val w.val busy)))

/-- R229, FAB_COMMIT: A write of FAB_COMMIT.GO commits the sector's clock and port settings unless refused. -/
def execFabCommit (mid : MasterId) (x : Fin 64) (s : State) : Host.Outcome State Fault Refusal :=
  .next (s.keep (s.writeAs mid .FAB_COMMIT x.val 0 1))

/-- R223, REGIONAL_LINE_RESTART: A changed regional line restarts on the first new-source edge at least 16 root periods
after stopping. -/
def execRegionalLineRestart (x : Fin 64) (j : Fin 16) (s : State) : Host.Outcome State Fault Refusal :=
  .next (s.keep (s.inDom (domFS x.val) (fun s => s.lineRestart x.val j.val)))

/-- R224, SECTOR_PORT_TARGET: A target request to a sector window is delivered to the fabric with its poison bits, or
refused. -/
def execSectorPortTarget (n : Nat) (answer : Option (Status × List (Word × Bool)))
    (s : State) : Host.Outcome State Fault Refusal :=
  .next (s.keep (s.inRun (fun s => s.sectorTarget n answer)))

/-- R225, SECTOR_PORT_TIMEOUT: A target request without completion within TMO is completed with EDEAD. -/
def execSectorPortTimeout (n : Nat) (s : State) : Host.Outcome State Fault Refusal :=
  .next (s.keep (s.inRun (fun s => s.sectorTimeout n)))

/-- R227, ENG_TRIG: At least 2 engine cycles after a MARK vector, ENG_TRIG pulses to the fabric. -/
def execEngTrig (e : Fin 256) (s : State) : Host.Outcome State Fault Refusal :=
  .next (s.keep (s.inDom (domCL (e.val / 4)) (fun s => s.engTrig e.val)))

/-- R227, ENG_IRQ: A rising edge on ENG_IRQ_i bit k sets CE_INT.PEND bit k. -/
def execEngIrq (e : Fin 256) (bits : Byte) (s : State) : Host.Outcome State Fault Refusal :=
  .next (s.keep (s.inDom (domCL (e.val / 4)) (fun s => s.engIrq e.val bits)))

/-- R211, FLIP_FLOP_EDGE: On an active edge of its selected clock an M-cell flip-flop loads INIT when its reset is asserted,
otherwise D when its enable is asserted. -/
def execFlipFlopEdge (x : Fin 64) (col : Fin 64) (row : Fin 320) (m : Fin 8) (b : Bool)
    (ones : List (Nat × Nat)) (sample : Bool) (s : State) : Host.Outcome State Fault Refusal :=
  .next (s.keep (s.inDom (domFS x.val) (fun s => s.flipFlopEdge x.val col.val row.val m.val b ones sample)))

/-- R220, ARITHMETIC_SLICE_EDGE: On a rising edge of its clock with CE = 1 an arithmetic slice captures inputs, registers
products and updates ACC, SAT and CASCOUT. -/
def execArithmeticSliceEdge (x : Fin 64) (ac : Fin 3) (ins : List (Nat × ArithIn))
    (s : State) : Host.Outcome State Fault Refusal :=
  .next (s.keep (s.inDom (domFS x.val) (fun s => s.arithColumnEdge x.val ac.val ins)))

end Sys2Proof.Machine
end

