-- ==== Sys2Proof/Machine/FcuCmds.lean ====
section
/-!
DEFINITION. What the commands of this family do: fail capture units (chapter 05).
-/
namespace Sys2Proof.Machine

open Sys2Proof

/-- R135, COMPARE_CLOSE: At vector k's compare close the FCU updates counters, forms records and accumulation entries and
applies stops and policy. -/
def execCompareClose (e : Fin 256) (s : State) : Host.Outcome State Fault Refusal :=
  .next (s.keep (s.inDom (domCL (e.val / 4)) (fun s => s.compareClose e.val)))

/-- R49, FAIL_FLAG_SET: At least 48 engine cycles after a failing strobe the FCU sets f7 and f6. -/
def execFailFlagSet (e : Fin 256) (s : State) : Host.Outcome State Fault Refusal :=
  .next (s.keep (s.inDom (domCL (e.val / 4)) (fun s => s.failFlagSet e.val)))

/-- R143, RECORD_WRITE: The FCU writes the head fail record to its ring as an RT write when the ring has a free entry. -/
def execRecordWrite (c : Fin 64) (same : Bool) (s : State) : Host.Outcome State Fault Refusal :=
  .next (s.keep (s.inDom (domCL c.val) (fun s => s.recordWrite c.val same)))

/-- R144, RECORD_WRITE_DONE: A record write completes; OK advances WP, any other status drops the record. -/
def execRecordWriteDone (c : Fin 64) (ix : Fin 4) (s : State) : Host.Outcome State Fault Refusal :=
  .next (s.keep (s.inDom (domCL c.val) (fun s => s.recordWriteDone c.val ix.val)))

/-- R151, ACCUMULATION_UPDATE: The FCU issues a queued bitmap or histogram update as a saturating atomic. -/
def execAccumulationUpdate (c : Fin 64) (same : Bool) (s : State) : Host.Outcome State Fault Refusal :=
  .next (s.keep (s.inDom (domCL c.val) (fun s => s.accumulationUpdate c.val same)))

/-- R152, ACCUMULATION_UPDATE_DONE: An accumulation update completes, setting ACCSAT or counting it lost. -/
def execAccumulationUpdateDone (c : Fin 64) (k : Nat) (s : State) : Host.Outcome State Fault Refusal :=
  .next (s.keep (s.inDom (domCL c.val) (fun s => s.accumulationDone c.val k)))

/-- R153, FCU_COMMIT: A write of FCU_COMMIT.GO commits the FCU's slot settings unless refused. -/
def execFcuCommit (mid : MasterId) (c : Fin 64) (s : State) : Host.Outcome State Fault Refusal :=
  .next (s.keep (s.writeAs mid .FCU_COMMIT c.val 0 1))

/-- R139, FCU_CLR_SLOT: FCU_CLR.SLOT clears a slot's gang counters. -/
def execFcuClrSlot (mid : MasterId) (c : Fin 64) (ix : Fin 4) (s : State) : Host.Outcome State Fault Refusal :=
  .next (s.keep (s.writeAs mid .FCU_CLR c.val 0 (putFld F.FCU_CLR_SLOT (2 ^ ix.val) 0)))

/-- R139, FCU_CLR_PIN: FCU_CLR.PIN clears a pin's NFAIL and VALID. -/
def execFcuClrPin (mid : MasterId) (c : Fin 64) (j : Fin 16) (s : State) : Host.Outcome State Fault Refusal :=
  .next (s.keep (s.writeAs mid .FCU_CLR c.val 0 (putFld F.FCU_CLR_PIN (2 ^ j.val) 0)))

/-- R153, FCU_RRP_WRITE: A write of FCU_RRP frees ring entries unless RP is out of range. -/
def execFcuRrpWrite (mid : MasterId) (c : Fin 64) (ix : Fin 4) (rp : BitVec 24)
    (s : State) : Host.Outcome State Fault Refusal :=
  .next (s.keep (s.writeAs mid .FCU_RRP c.val ix.val (putFld F.FCU_RRP_RP rp.toNat 0)))

end Sys2Proof.Machine
end

