-- ==== Sys2Proof/Machine/FlowCmds.lean ====
section
/-!
DEFINITION. What the commands of this family do: FLOW operations of a bundle (chapter 03).
-/
namespace Sys2Proof.Machine

open Sys2Proof

/-- R86, NOP: FLOW no-operation. -/
def execNop (e : Fin 256) (ix : BAddr) (s : State) : Host.Outcome State Fault Refusal :=
  .next (s.keep (s.inDom (domCL (e.val / 4)) (fun s => s.opFlow e.val ix .nop)))

/-- R87, JMP: Jump to T after the delay slot. -/
def execJmp (e : Fin 256) (ix : BAddr) (t : BAddr) (s : State) : Host.Outcome State Fault Refusal :=
  .next (s.keep (s.inDom (domCL (e.val / 4)) (fun s => s.opFlow e.val ix (.jmp t))))

/-- R87, BR: Conditional branch on a flag or loop counter after the delay slot. -/
def execBr (e : Fin 256) (ix : BAddr) (kind : Bool) (val : Bool) (idx : BitVec 3) (t : BAddr)
    (s : State) : Host.Outcome State Fault Refusal :=
  .next (s.keep (s.inDom (domCL (e.val / 4)) (fun s => s.opFlow e.val ix (.br kind val idx t))))

/-- R53, CALL: Push return address i + 2 and transfer to T, faulting CSTACK when full. -/
def execCall (e : Fin 256) (ix : BAddr) (t : BAddr) (s : State) : Host.Outcome State Fault Refusal :=
  .next (s.keep (s.inDom (domCL (e.val / 4)) (fun s => s.opFlow e.val ix (.call t))))

/-- R53, RET: Pop the call stack and transfer to the top entry, faulting CSTACK when empty. -/
def execRet (e : Fin 256) (ix : BAddr) (s : State) : Host.Outcome State Fault Refusal :=
  .next (s.keep (s.inDom (domCL (e.val / 4)) (fun s => s.opFlow e.val ix .ret)))

/-- R54, HALT: End the program after the delay slot. -/
def execHalt (e : Fin 256) (ix : BAddr) (s : State) : Host.Outcome State Fault Refusal :=
  .next (s.keep (s.inDom (domCL (e.val / 4)) (fun s => s.opFlow e.val ix .halt)))

/-- R54, ENTA: End stream mode like HALT and then enter analysis mode in each member. -/
def execEnta (e : Fin 256) (ix : BAddr) (s : State) : Host.Outcome State Fault Refusal :=
  .next (s.keep (s.inDom (domCL (e.val / 4)) (fun s => s.opFlow e.val ix .enta)))

/-- R50, LOOPI: Push a loop of immediate count C ending at E. -/
def execLoopi (e : Fin 256) (ix : BAddr) (c : BitVec 11) (en : BAddr) (s : State) : Host.Outcome State Fault Refusal :=
  .next (s.keep (s.inDom (domCL (e.val / 4)) (fun s => s.opFlow e.val ix (.loopi c en))))

/-- R50, LOOPL: Push a loop whose count is read from l[k]. -/
def execLoopl (e : Fin 256) (ix : BAddr) (k : BitVec 3) (en : BAddr) (s : State) : Host.Outcome State Fault Refusal :=
  .next (s.keep (s.inDom (domCL (e.val / 4)) (fun s => s.opFlow e.val ix (.loopl k en))))

/-- R52, POPL: Remove the innermost loop entry, faulting LSTACK when empty. -/
def execPopl (e : Fin 256) (ix : BAddr) (s : State) : Host.Outcome State Fault Refusal :=
  .next (s.keep (s.inDom (domCL (e.val / 4)) (fun s => s.opFlow e.val ix .popl)))

/-- R87, SETL: Set loop counter l[k] to V. -/
def execSetl (e : Fin 256) (ix : BAddr) (k : BitVec 3) (v : BitVec 24) (s : State) : Host.Outcome State Fault Refusal :=
  .next (s.keep (s.inDom (domCL (e.val / 4)) (fun s => s.opFlow e.val ix (.setl k v))))

/-- R87, CLRF: Clear the flags selected by mask M. -/
def execClrf (e : Fin 256) (ix : BAddr) (m : Byte) (s : State) : Host.Outcome State Fault Refusal :=
  .next (s.keep (s.inDom (domCL (e.val / 4)) (fun s => s.opFlow e.val ix (.clrf m))))

/-- R74, SYNC: Gang barrier in analysis mode; no effect in stream mode. -/
def execSync (e : Fin 256) (ix : BAddr) (s : State) : Host.Outcome State Fault Refusal :=
  .next (s.keep (s.inDom (domCL (e.val / 4)) (fun s => s.opFlow e.val ix .sync)))

/-- R80, SAVEL: Save the loop and call state as 10 words at a[k]. -/
def execSavel (e : Fin 256) (ix : BAddr) (k : BitVec 3) (s : State) : Host.Outcome State Fault Refusal :=
  .next (s.keep (s.inDom (domCL (e.val / 4)) (fun s => s.opFlow e.val ix (.savel k))))

/-- R80, RESTL: Start reading the loop and call state from 10 words at a[k]. -/
def execRestl (e : Fin 256) (ix : BAddr) (k : BitVec 3) (s : State) : Host.Outcome State Fault Refusal :=
  .next (s.keep (s.inDom (domCL (e.val / 4)) (fun s => s.opFlow e.val ix (.restl k))))

/-- R78, RETI: Return from an interrupt handler, restoring flags and IE and fetching at IPC. -/
def execReti (e : Fin 256) (ix : BAddr) (s : State) : Host.Outcome State Fault Refusal :=
  .next (s.keep (s.inDom (domCL (e.val / 4)) (fun s => s.opFlow e.val ix .reti)))

end Sys2Proof.Machine
end

