-- ==== Sys2Proof/Machine/IceCmds.lean ====
section
/-!
DEFINITION. What the commands of this family do: inline encryption (chapter 12).
-/
namespace Sys2Proof.Machine

open Sys2Proof

/-- R316, ICE_COMMIT: A write of ICE_COMMIT.GO commits region settings and enables or disables regions. -/
def execIceCommit (mid : MasterId) (s : State) : Host.Outcome State Fault Refusal :=
  .next (s.keep (s.writeAs mid .ICE_COMMIT 0 0 1))

/-- R317, REGION_INIT_COMPLETE: The re-encryption engine finishes initialising a region, which enters READY. -/
def execRegionInitComplete (r : Fin 16) (s : State) : Host.Outcome State Fault Refusal :=
  .next (s.keep (s.inRun (fun s => s.regionInitComplete r.val)))

/-- R329, KEYREADY: ICE_CTRL.KEYREADY marks the spare key loaded. -/
def execKeyready (mid : MasterId) (r : Fin 16) (s : State) : Host.Outcome State Fault Refusal :=
  .next (s.keep (s.writeAs mid .ICE_CTRL 0 0 (putFld F.ICE_CTRL_KEYREADY 1 (putFld F.ICE_CTRL_REGION r.val 0))))

/-- R328, RESUME: ICE_CTRL.RESUME returns a region from KEYWAIT to READY. -/
def execResume (mid : MasterId) (r : Fin 16) (s : State) : Host.Outcome State Fault Refusal :=
  .next (s.keep (s.writeAs mid .ICE_CTRL 0 0 (putFld F.ICE_CTRL_RESUME 1 (putFld F.ICE_CTRL_REGION r.val 0))))

/-- R327, UNLOCK: ICE_CTRL.UNLOCK, by Mbana only, returns a region from LOCKED. -/
def execUnlock (mid : MasterId) (r : Fin 16) (s : State) : Host.Outcome State Fault Refusal :=
  .next (s.keep (s.writeAs mid .ICE_CTRL 0 0 (putFld F.ICE_CTRL_UNLOCK 1 (putFld F.ICE_CTRL_REGION r.val 0))))

/-- R329, REKEY: ICE_CTRL.REKEY starts re-encryption of a region under the spare key. -/
def execRekey (mid : MasterId) (r : Fin 16) (s : State) : Host.Outcome State Fault Refusal :=
  .next (s.keep (s.writeAs mid .ICE_CTRL 0 0 (putFld F.ICE_CTRL_REKEY 1 (putFld F.ICE_CTRL_REGION r.val 0))))

/-- R329, REKEY_STEP: Every RATE DRAM clocks the engine re-encrypts the next line and advances B_k, completing the rekey at
the end. -/
def execRekeyStep (r : Fin 16) (k : Fin 12) (s : State) : Host.Outcome State Fault Refusal :=
  .next (s.keep (s.inDom (domDM k.val) (fun s => s.rekeyStep r.val k.val)))

/-- R331, LINK_KEY_TRANSFER: The re-encryption engine transfers a bridge's link keys to its key registers. -/
def execLinkKeyTransfer (b : Fin 16) (s : State) : Host.Outcome State Fault Refusal :=
  .next (s.keep (s.inRun (fun s => s.keyTransfer b.val)))

end Sys2Proof.Machine
end

