-- ==== Sys2Proof/Machine/LaneCmds.lean ====
section
/-!
DEFINITION. What the commands of this family do: serial lanes (chapter 13).
-/
namespace Sys2Proof.Machine

open Sys2Proof

/-- R336, LN_QCOMMIT: A write of LN_QCOMMIT.GO commits the quad PLL settings unless refused. -/
def execLnQcommit (mid : MasterId) (q : Fin 36) (s : State) : Host.Outcome State Fault Refusal :=
  .next (s.keep ((s.writeAs mid .LN_QCOMMIT q.val 0 1).bondWatch))

/-- R336, QUAD_PLL_LOCK: The quad PLL locks and LOCK becomes 1. -/
def execQuadPllLock (q : Fin 36) (s : State) : Host.Outcome State Fault Refusal :=
  .next (s.keep (s.inDom (domLQ q.val) (fun s => (s.quadLock q.val).bondWatch)))

/-- R335, REFLOS: Loss or deviation of LREF sets REFLOS and unlocks the quad PLL. -/
def execReflos (q : Fin 36) (s : State) : Host.Outcome State Fault Refusal :=
  .next (s.keep (s.inDom (domLQ q.val) (fun s => (s.refLoss q.val).bondWatch)))

/-- R337, LN_COMMIT: A write of LN_COMMIT.GO commits lane configuration and equaliser, possibly entering ACQUIRE or OFF. -/
def execLnCommit (mid : MasterId) (l : Fin 144) (s : State) : Host.Outcome State Fault Refusal :=
  .next (s.keep ((s.writeAs mid .LN_COMMIT l.val 0 1).bondWatch))

/-- R338, ACQUIRE_DONE: Clock recovery locked for 10 µs moves the lane to TRAIN or READY. -/
def execAcquireDone (l : Fin 144) (s : State) : Host.Outcome State Fault Refusal :=
  .next (s.keep (s.inDom (domLQ (l.val / 4)) (fun s => (s.acquireDone l.val).bondWatch)))

/-- R338, TRAINING_END: The training protocol ends in READY on success or ACQUIRE with TRAINFAIL. -/
def execTrainingEnd (l : Fin 144) (ok : Bool) (s : State) : Host.Outcome State Fault Refusal :=
  .next (s.keep (s.inDom (domLQ (l.val / 4)) (fun s => (s.trainingEnd l.val ok).bondWatch)))

/-- R341, COEFFICIENT_REQUEST: A partner's training request moves an active tap one step or is answered at its limit. -/
def execCoefficientRequest (l : Fin 144) (tap : Tap) (up : Bool) (s : State) : Host.Outcome State Fault Refusal :=
  .next (s.keep (s.inDom (domLQ (l.val / 4)) (fun s => s.coefficientRequest l.val tap up)))

/-- R346, LOS_EVENT: LOS rises, the lane enters LOST and the event is flagged and counted. -/
def execLosEvent (l : Fin 144) (s : State) : Host.Outcome State Fault Refusal :=
  .next (s.keep (s.inDom (domLQ (l.val / 4)) (fun s => (s.losRise l.val).bondWatch)))

/-- R346, LOL_EVENT: LOL rises, the lane enters LOST and the event is flagged and counted. -/
def execLolEvent (l : Fin 144) (s : State) : Host.Outcome State Fault Refusal :=
  .next (s.keep (s.inDom (domLQ (l.val / 4)) (fun s => (s.lolRise l.val).bondWatch)))

/-- R345, LOS_CLEAR: LOS clears after amplitude above LOSTH for 1 µs, returning a LOST lane toward ACQUIRE. -/
def execLosClear (l : Fin 144) (s : State) : Host.Outcome State Fault Refusal :=
  .next (s.keep (s.inDom (domLQ (l.val / 4)) (fun s => (s.losClear l.val).bondWatch)))

/-- R345, LOL_CLEAR: LOL clears after 10 µs of lock, returning a LOST lane toward ACQUIRE. -/
def execLolClear (l : Fin 144) (s : State) : Host.Outcome State Fault Refusal :=
  .next (s.keep (s.inDom (domLQ (l.val / 4)) (fun s => (s.lolClear l.val).bondWatch)))

/-- R343, RECEIVE_WORD: A received word enters the receive FIFO or is dropped on overflow, and the checker runs. -/
def execReceiveWord (l : Fin 144) (w : BitVec 128) (s : State) : Host.Outcome State Fault Refusal :=
  .next (s.keep (s.inDom (domLQ (l.val / 4)) (fun s => s.receiveWord l.val w)))

/-- R343, TRANSMIT_WORD: A word presented on TXD with TXRDY enters the transmit FIFO. -/
def execTransmitWord (l : Fin 144) (txv : Bool) (w : BitVec 128) (s : State) : Host.Outcome State Fault Refusal :=
  .next (s.keep (s.inDom (domLQ (l.val / 4)) (fun s => s.transmitWord l.val txv w)))

/-- R344, TX_UNDERRUN: The transmitter needs a word from an empty FIFO and sends zeros. -/
def execTxUnderrun (l : Fin 144) (s : State) : Host.Outcome State Fault Refusal :=
  .next (s.keep (s.inDom (domLQ (l.val / 4)) (fun s => s.txUnderrun l.val)))

/-- R347, PGEN: A write of LN_TEST.PGEN selects a transmit test pattern unless refused. -/
def execPgen (mid : MasterId) (l : Fin 144) (pat : BitVec 4) (s : State) : Host.Outcome State Fault Refusal :=
  .next (s.keep (s.writeAs mid .LN_TEST l.val 0 (s.withFld F.LN_TEST_PGEN pat.toNat l.val)))

/-- R348, PCHK: A write of LN_TEST.PCHK selects the checker pattern and restarts its counts. -/
def execPchk (mid : MasterId) (l : Fin 144) (pat : BitVec 4) (s : State) : Host.Outcome State Fault Refusal :=
  .next (s.keep (s.writeAs mid .LN_TEST l.val 0 (s.withFld F.LN_TEST_PCHK pat.toNat l.val)))

/-- R350, EYE_SCAN: A write of LN_ESCAN.GO starts an eye scan unless refused. -/
def execEyeScan (mid : MasterId) (l : Fin 144) (v : Word) (s : State) : Host.Outcome State Fault Refusal :=
  .next (s.keep (s.writeAs mid .LN_ESCAN l.val 0 (putFld F.LN_ESCAN_GO 1 v)))

/-- R350, EYE_SCAN_DONE: An eye scan ends after 2^DWELL bits or aborts when the lane leaves READY. -/
def execEyeScanDone (l : Fin 144) (errs : Nat) (s : State) : Host.Outcome State Fault Refusal :=
  .next (s.keep (s.inDom (domLQ (l.val / 4)) (fun s => s.escanDone l.val errs)))

/-- R335, REFERENCE_RETURN: A valid LREF_Qq returns, REFLOS clears and the quad PLL starts to relock. -/
def execReferenceReturn (q : Fin 36) (s : State) : Host.Outcome State Fault Refusal :=
  .next (s.keep (s.inDom (domLQ q.val) (fun s => (s.refReturn q.val).bondWatch)))

end Sys2Proof.Machine
end

