-- ==== Sys2Proof/Machine/MacCmds.lean ====
section
/-!
DEFINITION. What the commands of this family do: MAC operations of a bundle (chapter 03).
-/
namespace Sys2Proof.Machine

open Sys2Proof

/-- R96, MNOP: MAC no-operation. -/
def execMnop (e : Fin 256) (ix : BAddr) (s : State) : Host.Outcome State Fault Refusal :=
  .next (s.keep (s.inDom (domCL (e.val / 4)) (fun s => s.opMac e.val ix .nop)))

/-- R97, MACC: Multiply-accumulate with register operand B, optionally comparing. -/
def execMacc (e : Fin 256) (ix : BAddr) (mask : BitVec 4) (mode : BitVec 2) (j : BitVec 3) (k : BitVec 4)
    (ce : Bool) (n : BitVec 3) (rf : BitVec 3) (s : State) : Host.Outcome State Fault Refusal :=
  .next (s.keep (s.inDom (domCL (e.val / 4)) (fun s => s.opMac e.val ix (.macc mask mode j k ce n rf))))

/-- R97, MSUB: Multiply-subtract with register operand B, optionally comparing. -/
def execMsub (e : Fin 256) (ix : BAddr) (mask : BitVec 4) (mode : BitVec 2) (j : BitVec 3) (k : BitVec 4)
    (ce : Bool) (n : BitVec 3) (rf : BitVec 3) (s : State) : Host.Outcome State Fault Refusal :=
  .next (s.keep (s.inDom (domCL (e.val / 4)) (fun s => s.opMac e.val ix (.msub mask mode j k ce n rf))))

/-- R97, MACI: Multiply-accumulate with an immediate operand B. -/
def execMaci (e : Fin 256) (ix : BAddr) (mask : BitVec 4) (mode : BitVec 2) (j : BitVec 3) (imm : BitVec 11)
    (s : State) : Host.Outcome State Fault Refusal :=
  .next (s.keep (s.inDom (domCL (e.val / 4)) (fun s => s.opMac e.val ix (.maci mask mode j imm))))

/-- R97, MSBI: Multiply-subtract with an immediate operand B. -/
def execMsbi (e : Fin 256) (ix : BAddr) (mask : BitVec 4) (mode : BitVec 2) (j : BitVec 3) (imm : BitVec 11)
    (s : State) : Host.Outcome State Fault Refusal :=
  .next (s.keep (s.inDom (domCL (e.val / 4)) (fun s => s.opMac e.val ix (.msbi mask mode j imm))))

/-- R97, MCLR: Clear the masked accumulators. -/
def execMclr (e : Fin 256) (ix : BAddr) (mask : BitVec 4) (s : State) : Host.Outcome State Fault Refusal :=
  .next (s.keep (s.inDom (domCL (e.val / 4)) (fun s => s.opMac e.val ix (.mclr mask))))

/-- R97, MLDA: Load the masked accumulators from d[SA][47:0]. -/
def execMlda (e : Fin 256) (ix : BAddr) (mask : BitVec 4) (sa : BitVec 4) (s : State) : Host.Outcome State Fault Refusal :=
  .next (s.keep (s.inDom (domCL (e.val / 4)) (fun s => s.opMac e.val ix (.mlda mask sa))))

/-- R97, MMOV: Move an extended accumulator into a data register. -/
def execMmov (e : Fin 256) (ix : BAddr) (k : BitVec 2) (sgn : Bool) (dst : BitVec 4)
    (s : State) : Host.Outcome State Fault Refusal :=
  .next (s.keep (s.inDom (domCL (e.val / 4)) (fun s => s.opMac e.val ix (.mmov k sgn dst))))

/-- R97, MCMP: Compare an accumulator with d[SA] into a flag. -/
def execMcmp (e : Fin 256) (ix : BAddr) (k : BitVec 2) (n : BitVec 3) (cc : BitVec 2) (sgn : Bool) (sa : BitVec 4)
    (s : State) : Host.Outcome State Fault Refusal :=
  .next (s.keep (s.inDom (domCL (e.val / 4)) (fun s => s.opMac e.val ix (.mcmp k n cc sgn sa))))

end Sys2Proof.Machine
end

