-- ==== Sys2Proof/Machine/NetCmds.lean ====
section
/-!
DEFINITION. What the commands of this family do: requests, responses, routers and arbiters (chapter 10).
-/
namespace Sys2Proof.Machine

open Sys2Proof

/-- R265, RD: A read request packet is routed to its target, checked, and answered with RDRSP. -/
def execRd (mid : MasterId) (tag : Byte) (a : Addr) (len : BitVec 7) (part : Bool) (same : Bool) (rt : Bool)
    (s : State) : Host.Outcome State Fault Refusal :=
  .next (s.keep (s.request (readReq mid tag a len.toNat part same rt)))

/-- R265, WR: A write request packet is performed word by word at its target and answered with WRRSP. -/
def execWr (mid : MasterId) (tag : Byte) (a : Addr) (ws : List (Word × Bool)) (part : Bool) (same : Bool)
    (rt : Bool) (s : State) : Host.Outcome State Fault Refusal :=
  .next (s.keep (s.request (writeReq mid tag a ws part same rt)))

/-- R164, ADD64: An atomic 64-bit add on one code word returns the old value. -/
def execAdd64 (mid : MasterId) (tag : Byte) (a : Addr) (op : Word) (poison : Bool) (len : BitVec 7) (part : Bool)
    (same : Bool) (rt : Bool) (s : State) : Host.Outcome State Fault Refusal :=
  .next (s.keep (s.request (atomicReq mid tag a .add64 op 0 poison len.toNat part same rt)))

/-- R164, ADD16S: An atomic saturating add of four 16-bit lanes returns the old value. -/
def execAdd16s (mid : MasterId) (tag : Byte) (a : Addr) (op : Word) (poison : Bool) (len : BitVec 7) (part : Bool)
    (same : Bool) (rt : Bool) (s : State) : Host.Outcome State Fault Refusal :=
  .next (s.keep (s.request (atomicReq mid tag a .add16s op 0 poison len.toNat part same rt)))

/-- R164, ADD8S: An atomic saturating add of eight 8-bit lanes returns the old value. -/
def execAdd8s (mid : MasterId) (tag : Byte) (a : Addr) (op : Word) (poison : Bool) (len : BitVec 7) (part : Bool)
    (same : Bool) (rt : Bool) (s : State) : Host.Outcome State Fault Refusal :=
  .next (s.keep (s.request (atomicReq mid tag a .add8s op 0 poison len.toNat part same rt)))

/-- R164, SWAP64: An atomic swap writes OP and returns the old value. -/
def execSwap64 (mid : MasterId) (tag : Byte) (a : Addr) (op : Word) (poison : Bool) (len : BitVec 7) (part : Bool)
    (same : Bool) (rt : Bool) (s : State) : Host.Outcome State Fault Refusal :=
  .next (s.keep (s.request (atomicReq mid tag a .swap64 op 0 poison len.toNat part same rt)))

/-- R164, CAS64: An atomic compare-and-swap writes OP only when the old value equals CMP. -/
def execCas64 (mid : MasterId) (tag : Byte) (a : Addr) (op : Word) (cmp : Word) (poison cmpPoison : Bool) (len : BitVec 7)
    (part : Bool) (same : Bool) (rt : Bool) (s : State) : Host.Outcome State Fault Refusal :=
  .next (s.keep (s.request (atomicReq mid tag a .cas64 op cmp poison len.toNat part same rt cmpPoison)))

/-- R265, RDRSP: A read response reaches the requester with its data, poison bits and status. -/
def execRdrsp (n : Nat) (s : State) : Host.Outcome State Fault Refusal :=
  .next (s.keep (s.inRun (fun s => s.respondKind n (fun k => k == .read))))

/-- R265, WRRSP: A write response reaches the requester with its status. -/
def execWrrsp (n : Nat) (s : State) : Host.Outcome State Fault Refusal :=
  .next (s.keep (s.inRun (fun s => s.respondKind n (fun k => k == .write))))

/-- R265, ATRSP: An atomic response reaches the requester with the old value and status. -/
def execAtrsp (n : Nat) (s : State) : Host.Outcome State Fault Refusal :=
  .next (s.keep (s.inRun (fun s => s.respondKind n (fun k => k != .read && k != .write))))

/-- R269, PACKET_HOP: A header at a router takes its next turn or exit, or is dropped with EDEAD for a missing or disabled
port. -/
def execPacketHop (f wait : Nat) (s : State) : Host.Outcome State Fault Refusal :=
  .next (s.keep (s.inRun (fun s => s.packetHop f wait)))

/-- R279, RESPONSE_TIMEOUT: A request without a response within RTMO × 1,024 network cycles is answered locally with EDEAD.
-/
def execResponseTimeout (n : Nat) (s : State) : Host.Outcome State Fault Refusal :=
  .next (s.keep (s.inRun (fun s => s.responseTimeout n)))

/-- R275, RT_INJECT: An RT request waiting in an NI is injected once a shaper token is available and outside the quiet slot.
-/
def execRtInject (r : Fin 64) (p : Fin 8) (s : State) : Host.Outcome State Fault Refusal :=
  .next (s.keep (s.inRun (fun s => s.rtInject r.val p.val)))

/-- R275, TOKEN_REFILL: Every 16 network cycles an NI's RT token bucket gains one token up to 4. -/
def execTokenRefill (r : Fin 64) (p : Fin 8) (s : State) : Host.Outcome State Fault Refusal :=
  .next (s.keep (s.inRun (fun s => s.tokenRefill r.val p.val)))

/-- R276, QUIET_SLOT: At cycle 1,016 of each RT frame injection of RT packets stops and pending router commits take effect.
-/
def execQuietSlot (s : State) : Host.Outcome State Fault Refusal :=
  .next (s.keep (s.inRun State.quietSlot))

/-- R287, ARB_GRANT: At a boundary the common arbiter chooses a new owner by wait limit, priority and round-robin. -/
def execArbGrant (ix : Fin 781) (req : Byte) (n : Nat) (units : Nat) (more : Nat) (pass : Bool)
    (s : State) : Host.Outcome State Fault Refusal :=
  .next (s.keep (s.inRun (fun s => s.arbGrant ix.val req n units more pass)))

/-- R287, ARB_HOLD_CUT: An owner that exceeds its hold limit is cut and sets ARB_STATUS.CUT. -/
def execArbHoldCut (ix : Fin 781) (req : Byte) (n : Nat) (s : State) : Host.Outcome State Fault Refusal :=
  .next (s.keep (s.inRun (fun s => s.arbHoldCut ix.val req n)))

/-- R288, ARB_COMMIT: A write of ARB_COMMIT.GO commits all ARB_CFG_r of the instance. -/
def execArbCommit (mid : MasterId) (ix : Fin 781) (s : State) : Host.Outcome State Fault Refusal :=
  .next (s.keep (s.writeAs mid .ARB_COMMIT ix.val 0 1))

/-- R289, NOC_COMMIT: A write of NOC_COMMIT.GO schedules the router's settings and route tables for the quiet slot, checked
against the west-first rules. -/
def execNocCommit (mid : MasterId) (r : Fin 64) (s : State) : Host.Outcome State Fault Refusal :=
  .next (s.keep (s.writeAs mid .NOC_COMMIT r.val 0 1))

/-- R286, WAKE_RELEASE: Traffic held under wake-on-access is released when the woken domain's NI reports ready. -/
def execWakeRelease (r : Fin 64) (p : Fin 8) (s : State) : Host.Outcome State Fault Refusal :=
  .next (s.keep (s.inRun (fun s => s.wakeRelease r.val p.val)))

end Sys2Proof.Machine
end

