-- ==== Sys2Proof/Machine/PeripheralCmds.lean ====
section
/-!
DEFINITION. What the commands of this family do: system pins and management peripherals (chapter 18).
-/
namespace Sys2Proof.Machine

open Sys2Proof

/-- R451, PMX_EN_WRITE: A PMX_EN write by Mbana changes pin owners through one high-impedance clock. -/
def execPmxEnWrite (mid : MasterId) (v : Word) (s : State) : Host.Outcome State Fault Refusal :=
  .next (s.keep (s.writeAs mid .PMX_EN 0 0 v))

/-- R454, GPIO_LOCK: A GPIO_LOCK key write advances or completes the pin lock sequence. -/
def execGpioLock (mid : MasterId) (key : Word) (s : State) : Host.Outcome State Fault Refusal :=
  .next (s.keep (s.writeAs mid .GPIO_LOCK 0 0 key))

/-- R454, LOCK_SEQUENCE_TIMEOUT: No second key within 64 GPIO clocks cancels the lock sequence. -/
def execLockSequenceTimeout (s : State) : Host.Outcome State Fault Refusal :=
  .next (s.keep (s.cancelLock))

/-- R455, PATTERN_MATCH: The GPIO pattern match detects a match and sets PMF or asserts its interrupt. -/
def execPatternMatch (board : Word) (s : State) : Host.Outcome State Fault Refusal :=
  .next (s.keep (s.patternMatch board))

/-- R456, TIMER_COMPARE: A timer reaching CMP sets CMPF, applies its TOUT action and may reload. -/
def execTimerCompare (k : Fin 4) (s : State) : Host.Outcome State Fault Refusal :=
  .next (s.keep (s.inRun (fun s => s.timerCompare k.val)))

/-- R456, TIMER_CAPTURE: A TCAP rising edge latches COUNT into CAP. -/
def execTimerCapture (k : Fin 4) (s : State) : Host.Outcome State Fault Refusal :=
  .next (s.keep (s.inRun (fun s => s.timerCapture k.val)))

/-- R456, SPI_MASTER_TRANSFER: SPI master CMD.GO starts a transfer of LEN bytes. -/
def execSpiMasterTransfer (m : Fin 2) (len : BitVec 16) (s : State) : Host.Outcome State Fault Refusal :=
  .next (s.keep (s.inRun (fun s => s.spiTransfer m.val len.toNat)))

/-- R456, I2C_TRANSACTION: I2C CMD.GO starts a controller transaction. -/
def execI2cTransaction (ix : Fin 4) (cmd : BitVec 25) (s : State) : Host.Outcome State Fault Refusal :=
  .next (s.keep (s.inRun (fun s => s.i2cTransaction ix.val cmd)))

/-- R456, UART_RECEIVE: A UART receives a character into its FIFO. -/
def execUartReceive (u : Fin 2) (b : Byte) (frameErr : Bool) (parErr : Bool) (s : State) : Host.Outcome State Fault Refusal :=
  .next (s.keep (s.inRun (fun s => s.uartReceive u.val b frameErr parErr)))

/-- R456, UART_TRANSMIT: A UART DATA write queues a byte for transmission. -/
def execUartTransmit (u : Fin 2) (b : Byte) (s : State) : Host.Outcome State Fault Refusal :=
  .next (s.keep (s.inRun (fun s => s.uartTransmit u.val b)))

/-- R456, RTC_ALARM: The real-time clock reaches ALARM and sets ALARMF. -/
def execRtcAlarm (s : State) : Host.Outcome State Fault Refusal :=
  .next (s.keep (s.rtcAlarmHit))

/-- R456, I2C_TRANSACTION_DONE: An I2C controller transaction ends, clearing BUSY and setting NACK, ARBLOST, TIMEOUT or
PECERR as they arose. -/
def execI2cTransactionDone (ix : Fin 4) (nack : Bool) (arb : Bool) (tmo : Bool) (pec : Bool) (bytes : List Byte)
    (s : State) : Host.Outcome State Fault Refusal :=
  .next (s.keep (s.inRun (fun s => s.i2cDone ix.val nack arb tmo pec bytes)))

/-- R456, SPI_MASTER_TRANSFER_DONE: An SPI master transfer of LEN bytes ends and BUSY clears. -/
def execSpiMasterTransferDone (m : Fin 2) (bytes : List Byte) (s : State) : Host.Outcome State Fault Refusal :=
  .next (s.keep (s.inRun (fun s => s.spiTransferDone m.val bytes)))

/-- R456, SMBUS_ALERT: The ALERT_N input of an I2C controller is asserted and sets STAT.ALERT. -/
def execSmbusAlert (ix : Fin 4) (s : State) : Host.Outcome State Fault Refusal :=
  .next (s.keep (s.inRun (fun s => s.smbusAlert ix.val)))

end Sys2Proof.Machine
end

