-- ==== Sys2Proof/Machine/PinCmds.lean ====
section
/-!
DEFINITION. What the commands of this family do: The PIN slot, events at the balls, strobes, windows and captures (chapters 04 and 05).
-/
namespace Sys2Proof.Machine

open Sys2Proof

/-- R64, NORMAL_VECTOR: The PIN slot forms a normal vector that the timing generator accepts and places as events. -/
def execNormalVector (e : Fin 256) (ix : BAddr) (codes : BitVec 16) (ts : BitVec 6)
    (s : State) : Host.Outcome State Fault Refusal :=
  .next (s.keep (s.inDom (domCL (e.val / 4)) (fun s => s.opVector e.val ix { codes := codes, ts := ts, mode := 0 })))

/-- R122, PAUSE_VECTOR: A pause vector is issued and the gang then pauses until resumed. -/
def execPauseVector (e : Fin 256) (ix : BAddr) (codes : BitVec 16) (ts : BitVec 6)
    (s : State) : Host.Outcome State Fault Refusal :=
  .next (s.keep (s.inDom (domCL (e.val / 4)) (fun s => s.opVector e.val ix { codes := codes, ts := ts, mode := 1 })))

/-- R99, MARK_VECTOR: A MARK vector is issued normally and asserts the engine's trigger to its fabric sector. -/
def execMarkVector (e : Fin 256) (ix : BAddr) (codes : BitVec 16) (ts : BitVec 6)
    (s : State) : Host.Outcome State Fault Refusal :=
  .next (s.keep (s.inDom (domCL (e.val / 4)) (fun s => s.opVector e.val ix { codes := codes, ts := ts, mode := 2 })))

/-- R117, BALL_EVENT: A placed drive or enable event takes effect at the ball at its effective time. -/
def execBallEvent (p : Fin 1024) (s : State) : Host.Outcome State Fault Refusal :=
  .next (s.keep (s.inDom (domCL (p.val / 16)) (fun s => s.ballEvent p.val)))

/-- R114, STROBE: A strobe samples the comparators and yields pass or fail for its vector. -/
def execStrobe (p : Fin 1024) (h : Bool) (l : Bool) (s : State) : Host.Outcome State Fault Refusal :=
  .next (s.keep (s.inDom (domCL (p.val / 16)) (fun s => s.strobe p.val h l)))

/-- R115, WINDOW_CLOSE: A WC window closes and yields pass or fail from the comparator state over the window. -/
def execWindowClose (p : Fin 1024) (h : Bool) (l : Bool) (changed : Bool) (inv : Bool)
    (s : State) : Host.Outcome State Fault Refusal :=
  .next (s.keep (s.inDom (domCL (p.val / 16)) (fun s => s.windowClose p.val h l changed inv)))

/-- R128, EDGE_CAPTURE: An EC window closes and its raw capture enters the cluster capture queue or is dropped. -/
def execEdgeCapture (p : Fin 1024) (h : Bool) (l : Bool) (edges : List CompEdge)
    (s : State) : Host.Outcome State Fault Refusal :=
  .next (s.keep (s.inDom (domCL (p.val / 16)) (fun s => s.edgeCapture p.val h l edges)))

/-- R110, TSET_COMMIT: A write of TSET_COMMIT.GO commits all 64 timing sets unless a check fails. -/
def execTsetCommit (mid : MasterId) (e : Fin 256) (s : State) : Host.Outcome State Fault Refusal :=
  .next (s.keep (s.writeAs mid .TSET_COMMIT e.val 0 1))

/-- R133, PIN_CFG_WRITE: A PIN_CFG write sets OE, EOP, inversions and ECSRC unless refused. -/
def execPinCfgWrite (mid : MasterId) (p : Fin 1024) (v : Word) (s : State) : Host.Outcome State Fault Refusal :=
  .next (s.keep (s.writeAs mid .PIN_CFG p.val 0 v))

end Sys2Proof.Machine
end

