-- ==== Sys2Proof/Machine/PmonCmds.lean ====
section
/-!
DEFINITION. What the commands of this family do: performance monitors and the engine watch's commit (chapter 19).
-/
namespace Sys2Proof.Machine

open Sys2Proof

/-- R480, PMON_COMMIT: A write of PMON_COMMIT.GO commits a monitor's event and filter settings unless refused. -/
def execPmonCommit (mid : MasterId) (ix : Fin 412) (s : State) : Host.Outcome State Fault Refusal :=
  .next (s.keep (s.writeAs mid .PMON_COMMIT ix.val 0 1))

/-- R476, PMON_CLR: PMON_CTL.CLR zeroes every counter and PMON_CYC. -/
def execPmonClr (mid : MasterId) (ix : Fin 412) (s : State) : Host.Outcome State Fault Refusal :=
  .next (s.keep (s.writeAs mid .PMON_CTL ix.val 0 (s.withFld F.PMON_CTL_CLR 1 ix.val)))

/-- R478, PMON_WINDOW_CLOSE: Every WIN cycles a monitor writes byte and rate figures and sets WINF. -/
def execPmonWindowClose (ix : Fin 412) (bytes : List Nat) (s : State) : Host.Outcome State Fault Refusal :=
  .next (s.keep (s.inRun (fun s => s.pmonWindowClose ix.val bytes)))

/-- R479, FREEZE: Global command that stops every monitor at time T. -/
def execFreeze (mid : MasterId) (s : State) : Host.Outcome State Fault Refusal :=
  .next (s.keep (s.writeAs mid .DBG_PMCMD 0 0 (putFld F.DBG_PMCMD_GO 1 (putFld F.DBG_PMCMD_OP 0 0))))

/-- R479, RUN: Global command that unfreezes every monitor at time T. -/
def execRun (mid : MasterId) (s : State) : Host.Outcome State Fault Refusal :=
  .next (s.keep (s.writeAs mid .DBG_PMCMD 0 0 (putFld F.DBG_PMCMD_GO 1 (putFld F.DBG_PMCMD_OP 1 0))))

/-- R479, SNAP: Global command that copies every counter at time T. -/
def execSnap (mid : MasterId) (s : State) : Host.Outcome State Fault Refusal :=
  .next (s.keep (s.writeAs mid .DBG_PMCMD 0 0 (putFld F.DBG_PMCMD_GO 1 (putFld F.DBG_PMCMD_OP 2 0))))

/-- R479, CLEAR_COUNTERS: Global CLEAR command that zeroes every counter at time T. -/
def execClearCounters (mid : MasterId) (s : State) : Host.Outcome State Fault Refusal :=
  .next (s.keep (s.writeAs mid .DBG_PMCMD 0 0 (putFld F.DBG_PMCMD_GO 1 (putFld F.DBG_PMCMD_OP 3 0))))

/-- R479, GLOBAL_COMMAND_ACT: A monitor acts on a received global command at its first clock edge at or after T, or sets
LATE. -/
def execGlobalCommandAct (ix : Fin 412) (late : Bool) (s : State) : Host.Outcome State Fault Refusal :=
  .next (s.keep (s.inRun (fun s => s.globalCommandAct ix.val late)))

/-- R480, DBG_EWCOMMIT: A write of DBG_EWCOMMIT.GO commits every engine watch unit unless refused. -/
def execDbgEwcommit (mid : MasterId) (s : State) : Host.Outcome State Fault Refusal :=
  .next (s.keep (s.writeAs mid .DBG_EWCOMMIT 0 0 1))

end Sys2Proof.Machine
end

