-- ==== Sys2Proof/Machine/PolicyCmds.lean ====
section
/-!
DEFINITION. What the commands of this family do: sensors, tampering and Mbana's policies (chapter 16).
-/
namespace Sys2Proof.Machine

open Sys2Proof

/-- R406, SENSOR_READING: A periodic sensor reading updates and sets WARN or CRIT flags. -/
def execSensorReading (n : Fin 64) (v : Int) (s : State) : Host.Outcome State Fault Refusal :=
  .next (s.keep (s.sensorReading n.val v))

/-- R407, THERMAL_CRIT: A temperature beyond CRIT for 1 ms aborts streaming gangs and powers off cluster and quad domains.
-/
def execThermalCrit (n : Fin 40) (s : State) : Host.Outcome State Fault Refusal :=
  .next (s.keep (s.thermalCrit n.val))

/-- R407, THERMAL_TRIP: A site at 110 °C or above stops every fast domain. -/
def execThermalTrip (s : State) : Host.Outcome State Fault Refusal :=
  .next (s.keep (s.thermalTrip))

/-- R409, LOG_FLUSH: Mbana copies the event-log cache to the flash ring. -/
def execLogFlush (s : State) : Host.Outcome State Fault Refusal :=
  .next (s.keep (s.logFlush))

/-- R418, TAMPER: An enabled tamper input wipes the secure bank, steps the seal and logs. -/
def execTamper (levels : BitVec 4) (s : State) : Host.Outcome State Fault Refusal :=
  .next (s.keep (s.tamper levels))

/-- R423, LINK_EPOCH: Every LINK_EPOCH seconds Mbana agrees the next link epoch. -/
def execLinkEpoch (b : Fin 16) (half : List Byte) (s : State) : Host.Outcome State Fault Refusal :=
  .next (s.keep (s.linkEpoch b.val half))

/-- R424, DRIFT_CALIBRATION_POLICY: Mbana requests DRIFTCAL for eligible clusters. -/
def execDriftCalibrationPolicy (idle : List Nat) (s : State) : Host.Outcome State Fault Refusal :=
  .next (s.keep (s.driftPolicy idle))

/-- R424, DRAM_RETRAINING_POLICY: Mbana retrains a channel after temperature change or age. -/
def execDramRetrainingPolicy (k : Fin 12) (s : State) : Host.Outcome State Fault Refusal :=
  .next (s.keep (s.retrainPolicy k.val))

/-- R424, SCRUB_RATE_POLICY: At user-mode entry Mbana writes the scrubber thresholds. -/
def execScrubRatePolicy (s : State) : Host.Outcome State Fault Refusal :=
  .next (s.keep (s.scrubPolicy))

/-- R424, SUPPLY_TRIM_POLICY: Mbana steps the VCORE setpoint when readings leave the trim band. -/
def execSupplyTrimPolicy (ack : Bool) (s : State) : Host.Outcome State Fault Refusal :=
  .next (s.keep (s.trimPolicy ack))

/-- R424, PATROL_POLICY: Mbana halves or doubles a channel's patrol interval. -/
def execPatrolPolicy (k : Fin 12) (s : State) : Host.Outcome State Fault Refusal :=
  .next (s.keep (s.patrolPolicy k.val))

/-- R424, RETIREMENT_POLICY: Mbana proposes or performs retirement on repeated errors at a location. -/
def execRetirementPolicy (kind : Byte) (inst : Nat) (loc : Nat) (s : State) : Host.Outcome State Fault Refusal :=
  .next (s.keep (s.retirePolicy kind inst loc))

/-- R424, LOCKDOWN_POLICY: On an ICE lock-down interrupt Mbana logs and notifies. -/
def execLockdownPolicy (r : Fin 16) (s : State) : Host.Outcome State Fault Refusal :=
  .next (s.keep (s.lockdownPolicy r.val))

/-- R424, SECURE_BANK_WIPE_POLICY: After a wipe Mbana reloads keys, resumes regions and starts a new link epoch. -/
def execSecureBankWipePolicy (halves : List (List Byte)) (s : State) : Host.Outcome State Fault Refusal :=
  .next (s.keep (s.wipePolicy halves))

end Sys2Proof.Machine
end

