-- ==== Sys2Proof/Machine/PortCmds.lean ====
section
/-!
DEFINITION. What the commands of this family do: Mbana's ports: the management port, the SPI slave and the mailboxes (chapter 16).
-/
namespace Sys2Proof.Machine

open Sys2Proof

/-- R394, LOCKSTEP_MISMATCH: A Mbana lockstep mismatch resets both cores, and a third within 10 s enters SAFE. -/
def execLockstepMismatch (s : State) : Host.Outcome State Fault Refusal :=
  .next (s.keep (s.lockstepMismatch))

/-- R395, MBANA_REBOOT_COMPLETE: Mbana finishes its reboot and accepts commands again. -/
def execMbanaRebootComplete (s : State) : Host.Outcome State Fault Refusal :=
  .next (s.keep (s.rebootComplete))

/-- R397, UDP_DATAGRAM: A UDP datagram to port 4950 delivers a command packet to the intake queue. -/
def execUdpDatagram (v6 : Bool) (dst : BitVec 128) (port : BitVec 16) (frag : Bool) (ck : Nat) (peer : Nat)
    (bs : List Byte) (same : Bool) (s : State) : Host.Outcome State Fault Refusal :=
  .next (s.keep (s.udpDatagram v6 dst port.toNat frag ck peer bs same))

/-- R397, ARP_REQUEST: The management port answers an ARP request. -/
def execArpRequest (ip : BitVec 32) (src : BitVec 48) (s : State) : Host.Outcome State Fault Refusal :=
  .next (s.keep (s.arpRequest ip src))

/-- R397, ICMP_ECHO: The management port answers an ICMPv4 or ICMPv6 echo request. -/
def execIcmpEcho (v6 : Bool) (dst : BitVec 128) (src : BitVec 128) (payload : List Byte)
    (s : State) : Host.Outcome State Fault Refusal :=
  .next (s.keep (s.icmpEcho v6 dst src payload))

/-- R397, NEIGHBOR_DISCOVERY: The management port answers IPv6 neighbour discovery. -/
def execNeighborDiscovery (target : BitVec 128) (src : BitVec 128) (s : State) : Host.Outcome State Fault Refusal :=
  .next (s.keep (s.neighborDiscovery target src))

/-- R396, SPI_COMMAND_FRAME: SPI frame 0x02 writes a command packet. -/
def execSpiCommandFrame (bs : List Byte) (same : Bool) (s : State) : Host.Outcome State Fault Refusal :=
  .next (s.keep (s.spiCommandFrame bs same))

/-- R396, SPI_REPLY_FRAME: SPI frame 0x03 reads the reply. -/
def execSpiReplyFrame (s : State) : Host.Outcome State Fault Refusal :=
  .next (s.keep (s.spiReplyFrame))

/-- R396, SPI_STATUS_FRAME: SPI frame 0x05 reads the status byte. -/
def execSpiStatusFrame (s : State) : Host.Outcome State Fault Refusal :=
  .next (s.keep (s.spiStatusFrame))

/-- R398, MAILBOX_GO: MGT_MBCTL.GO submits the packet in a mailbox request buffer. -/
def execMailboxGo (mid : MasterId) (j : Fin 24) (same : Bool) (s : State) : Host.Outcome State Fault Refusal :=
  .next (s.keep (s.mailboxAs mid j.val same))

/-- R397, MANAGEMENT_PORT_LINK: The 1000BASE-X management port gains or loses its link partner and completes Clause 37 auto-
negotiation. -/
def execManagementPortLink (up : Bool) (s : State) : Host.Outcome State Fault Refusal :=
  .next (s.keep (s.managementPortLink up))

end Sys2Proof.Machine
end

