-- ==== Sys2Proof/Machine/PowerCmds.lean ====
section
/-!
DEFINITION. What the commands of this family do: clocks, power, reset and sleep (chapter 17).
-/
namespace Sys2Proof.Machine

open Sys2Proof

/-- R437, POWER_ON_RESET: PORST_N low or VHALO low resets the whole device and start-up begins. -/
def execPowerOnReset (cause : Fin 2) (strap : Fin 4) (s : State) : Host.Outcome State Fault Refusal :=
  .next (s.keep (s.powerOnReset cause.val strap.val))

/-- R432, OSCILLATOR_READY: The 8 MHz oscillator becomes ready, starting the boot ROM or leaving CLOCK_WAIT. -/
def execOscillatorReady (s : State) : Host.Outcome State Fault Refusal :=
  .next (s.keep (s.oscillatorReady.tamperLatched))

/-- R442, ROOT_PLL_LOCK: The root PLL locks, releasing SYS, NET and SBK and powering domains. -/
def execRootPllLock (s : State) : Host.Outcome State Fault Refusal :=
  .next (s.keep (s.rootPllLock))

/-- R431, PLL_LOCK_RETRY: Every 10 ms the root PLL retries lock. -/
def execPllLockRetry (ok : Bool) (s : State) : Host.Outcome State Fault Refusal :=
  .next (s.keep (s.pllLockRetry ok))

/-- R430, CLOCK_MONITOR_TRIP: A clock monitor trips and its action runs. -/
def execClockMonitorTrip (n : Fin 8) (s : State) : Host.Outcome State Fault Refusal :=
  .next (s.keep (s.clockMonitorTrip n.val))

/-- R441, RST_CTRL_GO: RST_CTRL.GO runs a scoped reset. -/
def execRstCtrlGo (mid : MasterId) (scope : BitVec 16) (inst : BitVec 16) (s : State) : Host.Outcome State Fault Refusal :=
  .next (s.keep (s.writeAs mid .RST_CTRL 0 0 (putFld F.RST_CTRL_GO 1 (putFld F.RST_CTRL_SCOPE scope.toNat (putFld F.RST_CTRL_INST inst.toNat 0)))))

/-- R434, PWR_REQ_GO: PWR_REQ.GO starts powering a domain on or off. -/
def execPwrReqGo (mid : MasterId) (dom : BitVec 16) (on : Bool) (s : State) : Host.Outcome State Fault Refusal :=
  .next (s.keep (s.writeAs mid .PWR_REQ 0 0 (putFld F.PWR_REQ_GO 1 (putFld F.PWR_REQ_ON (bit on) (putFld F.PWR_REQ_DOMAIN dom.toNat 0)))))

/-- R434, DOMAIN_POWER_UP: A domain finishes power-up initialisation and reports ready. -/
def execDomainPowerUp (d : BitVec 16) (s : State) : Host.Outcome State Fault Refusal :=
  .next (s.keep (s.domainPowerUp d.toNat))

/-- R435, DOMAIN_POWER_DOWN: After drain a domain is isolated, its switch opens and it reports off. -/
def execDomainPowerDown (d : BitVec 16) (s : State) : Host.Outcome State Fault Refusal :=
  .next (s.keep (s.domainPowerDown d.toNat))

/-- R435, DRAIN_TIMEOUT: A drain exceeding 10 ms lifts the fence and returns TIMEOUT. -/
def execDrainTimeout (d : BitVec 16) (s : State) : Host.Outcome State Fault Refusal :=
  .next (s.keep (s.drainTimeout d.toNat))

/-- R446, CLK_COMMIT: A write of CLK_COMMIT.GO commits fabric global line settings unless refused. -/
def execClkCommit (mid : MasterId) (s : State) : Host.Outcome State Fault Refusal :=
  .next (s.keep (s.writeAs mid .CLK_COMMIT 0 0 1))

/-- R445, WAKE_EVENT: An enabled SGPIO, RTC alarm or tamper wakes the device from sleep. -/
def execWakeEvent (source : Fin 18) (s : State) : Host.Outcome State Fault Refusal :=
  .next (s.keep (s.wakeEvent source.val))

/-- R445, WAKE_RESTORE: On wake the loader restores each sector from its recorded images. -/
def execWakeRestore (s : State) : Host.Outcome State Fault Refusal :=
  .next (s.keep (s.wakeRestore))

/-- R437, TAP_RESET: TRST_N resets the TAP controller. -/
def execTapReset (s : State) : Host.Outcome State Fault Refusal :=
  .next (s.keep (s.tapReset))

/-- R430, MANAGEMENT_PLL_LOCK: The management PLL locks or relocks, setting MPLLLOCK and letting the management port leave
link down. -/
def execManagementPllLock (s : State) : Host.Outcome State Fault Refusal :=
  .next (s.keep (s.managementPllLock))

/-- R430, CRYSTAL_READY: The 32.768 kHz crystal starts running or returns, setting XTALRDY and taking the real-time clock
back from the 8 MHz oscillator. -/
def execCrystalReady (s : State) : Host.Outcome State Fault Refusal :=
  .next (s.keep (s.crystalReady))

end Sys2Proof.Machine
end

