-- ==== Sys2Proof/Machine/RegCmds.lean ====
section
/-!
DEFINITION. What the commands of this family do: accesses to registers that have no row of their own (chapter 09).
-/
namespace Sys2Proof.Machine

open Sys2Proof

/-- R7, REGISTER_WRITE: A write to a control-space register that has no row of its own updates its fields by access type. -/
def execRegisterWrite (mid : MasterId) (bus : Option (Fin 14)) (a : Addr) (v : Word)
    (s : State) : Host.Outcome State Fault Refusal :=
  .next (s.keep (s.anyWrite mid bus a.toNat v))

/-- R7, RC_READ: A read of an RC field returns its value and clears it; an inspect read does not clear it. -/
def execRcRead (mid : MasterId) (bus : Option (Fin 14)) (a : Addr) (s : State) : Host.Outcome State Fault Refusal :=
  .next (s.keep (s.anyRead mid bus a.toNat))

end Sys2Proof.Machine
end

