-- ==== Sys2Proof/Machine/SliceCmds.lean ====
section
/-!
DEFINITION. What the commands of this family do: pattern slices and the secure bank (chapter 06).
-/
namespace Sys2Proof.Machine

open Sys2Proof

/-- R168, BGT_STEP: In an idle slice cycle the background test runs its next step on the current region. -/
def execBgtStep (n : Fin 256) (flips : BitVec 320) (s : State) : Host.Outcome State Fault Refusal :=
  .next (s.keep (s.inDom (domSL (n.val / 4)) (fun s => s.bgtRun n.val flips)))

/-- R168, BGT_WAIT_END: After GAP idle slice cycles the background test starts SAVE of the next region. -/
def execBgtWaitEnd (n : Fin 256) (s : State) : Host.Outcome State Fault Refusal :=
  .next (s.keep (s.inDom (domSL (n.val / 4)) (fun s => s.bgtWaitEnd n.val)))

/-- R174, SLICE_FILL: SLC_CTRL.FILL starts a zero fill of the slice unless refused. -/
def execSliceFill (mid : MasterId) (n : Fin 256) (s : State) : Host.Outcome State Fault Refusal :=
  .next (s.keep (s.writeAs mid .SLC_CTRL n.val 0 (s.withFld F.SLC_CTRL_FILL 1 n.val)))

/-- R175, SLICE_RETIRE: A change of SLC_CTRL.RETIRE retires or restores the slice unless refused. -/
def execSliceRetire (mid : MasterId) (n : Fin 256) (on : Bool) (s : State) : Host.Outcome State Fault Refusal :=
  .next (s.keep (s.writeAs mid .SLC_CTRL n.val 0 (s.withFld F.SLC_CTRL_RETIRE (bit on) n.val)))

/-- R173, SLICE_FILL_COMPLETE: A slice fill ends, setting FILLED and restarting service and the BGT. -/
def execSliceFillComplete (n : Fin 256) (s : State) : Host.Outcome State Fault Refusal :=
  .next (s.keep (s.inDom (domSL (n.val / 4)) (fun s => s.endSliceFill n.val)))

/-- R178, SBK_WIPE: SBK_CTRL.WIPE triggers a secure-bank wipe with CAUSE 4. -/
def execSbkWipe (mid : MasterId) (s : State) : Host.Outcome State Fault Refusal :=
  .next (s.keep (s.writeAs mid .SBK_CTRL 0 0 1))

/-- R178, SBK_WIPE_COMPLETE: A secure-bank wipe completes and the bank sets READY. -/
def execSbkWipeComplete (s : State) : Host.Outcome State Fault Refusal :=
  .next (s.keep (s.bankWipeComplete))

end Sys2Proof.Machine
end

