-- ==== Sys2Proof/Machine/SmpCmds.lean ====
section
/-!
DEFINITION. What the commands of this family do: the sealed measurement partition (chapter 07).
-/
namespace Sys2Proof.Machine

open Sys2Proof

/-- R199, SMP_CLAIM: A read of SMP_CLAIM claims a free mailbox slot for the reading master. -/
def execSmpClaim (mid : MasterId) (s : State) : Host.Outcome State Fault Refusal :=
  .next (s.keep (s.readAs mid .SMP_CLAIM 0 0))

/-- R199, SMP_REQUEST_GO: A write of REQ.GO submits the slot's request and clears DONE. -/
def execSmpRequestGo (mid : MasterId) (ix : Fin 16) (v : Word) (s : State) : Host.Outcome State Fault Refusal :=
  .next (s.keep (s.slotAs mid ix.val (v ||| (1#64 <<< 63))))

/-- R199, SMP_SLOT_RELEASE: A write of REQ.REL frees the mailbox slot. -/
def execSmpSlotRelease (mid : MasterId) (ix : Fin 16) (s : State) : Host.Outcome State Fault Refusal :=
  .next (s.keep (s.slotAs mid ix.val (1#64 <<< 62)))

/-- R200, FLUSH: SMP request that closes the filling result buffer. -/
def execFlush (ix : Fin 16) (s : State) : Host.Outcome State Fault Refusal :=
  .next (s.keep (s.inDom domSMP (fun s => s.smpRun ix.val 0x0001 (fun s => s.smpFlush))))

/-- R200, BUFFER_RELEASE: SMP RELEASE request frees a signed result buffer. -/
def execBufferRelease (ix : Fin 16) (s : State) : Host.Outcome State Fault Refusal :=
  .next (s.keep (s.inDom domSMP (fun s => s.smpRun ix.val 0x0002 (fun s => s.smpFree (s.slotParam ix.val)))))

/-- R200, SETCLOSE: SMP request that sets the block close timeout. -/
def execSetclose (ix : Fin 16) (s : State) : Host.Outcome State Fault Refusal :=
  .next (s.keep (s.inDom domSMP (fun s => s.smpRun ix.val 0x0003 (fun s => s.smpSetclose (s.param ix.val 0 4)))))

/-- R201, SELFCAL: SMP request that starts ball-plane self-calibration of named clusters. -/
def execSelfcal (ix : Fin 16) (s : State) : Host.Outcome State Fault Refusal :=
  .next (s.keep (s.inDom domSMP (fun s => s.smpRun ix.val 0x0010 (fun s => s.smpCalibrate true (s.slotParam ix.val)))))

/-- R202, DRIFTCAL: SMP request that starts drift calibration of named clusters. -/
def execDriftcal (ix : Fin 16) (s : State) : Host.Outcome State Fault Refusal :=
  .next (s.keep (s.inDom domSMP (fun s => s.smpRun ix.val 0x0011 (fun s => s.smpCalibrate false (s.slotParam ix.val)))))

/-- R200, CALSTAT: SMP request that returns a cluster's calibration status. -/
def execCalstat (ix : Fin 16) (s : State) : Host.Outcome State Fault Refusal :=
  .next (s.keep (s.inDom domSMP (fun s => s.smpRun ix.val 0x0012 (fun s => s.smpCalstat (s.slotParam ix.val)))))

/-- R200, CALIN_BEGIN: SMP request that opens a calibration import. -/
def execCalinBegin (ix : Fin 16) (s : State) : Host.Outcome State Fault Refusal :=
  .next (s.keep (s.inDom domSMP (fun s => s.smpRun ix.val 0x0020 (fun s => s.calinBegin (s.slotParam ix.val)))))

/-- R200, CALIN_DATA: SMP request that adds bytes to the open calibration import. -/
def execCalinData (ix : Fin 16) (s : State) : Host.Outcome State Fault Refusal :=
  .next (s.keep (s.inDom domSMP (fun s => s.smpRun ix.val 0x0021 (fun s => s.calinData (s.param ix.val 0 4) (s.paramBytes ix.val 4 (reqLen (s.slot ix.val).req - 4))))))

/-- R203, CALIN_END: SMP request that verifies and installs the imported calibration with a seal step. -/
def execCalinEnd (ix : Fin 16) (s : State) : Host.Outcome State Fault Refusal :=
  .next (s.keep (s.inDom domSMP (fun s => s.smpRun ix.val 0x0022 (fun s => s.calinEnd))))

/-- R200, CALOUT: SMP request that returns bytes of the current calibration set. -/
def execCalout (ix : Fin 16) (s : State) : Host.Outcome State Fault Refusal :=
  .next (s.keep (s.inDom domSMP (fun s => s.smpRun ix.val 0x0023 (fun s => s.calout (s.slotParam ix.val)))))

/-- R200, SMP_ATTEST: SMP ATTEST request returns seal, CALID, START and a partition-key signature. -/
def execSmpAttest (ix : Fin 16) (s : State) : Host.Outcome State Fault Refusal :=
  .next (s.keep (s.inDom domSMP (fun s => s.smpRun ix.val 0x0030 (fun s => s.smpAttest (s.paramBytes ix.val 0 32)))))

/-- R200, IMAGEHASH: SMP request that returns the SMP segment hash and active key hash. -/
def execImagehash (ix : Fin 16) (s : State) : Host.Outcome State Fault Refusal :=
  .next (s.keep (s.inDom domSMP (fun s => s.smpRun ix.val 0x0031 (fun s => s.imageHash))))

/-- R200, KEYROT: SMP request that rotates the metrology key with a seal step. -/
def execKeyrot (ix : Fin 16) (pub : BitVec 1056) (s : State) : Host.Outcome State Fault Refusal :=
  .next (s.keep (s.inDom domSMP (fun s => s.smpRun ix.val 0x0040 (fun s => s.keyrot pub (s.paramBytes ix.val 0 64) (sigOf (s.paramBytes ix.val 64 132))))))

/-- R201, SELFCAL_COMPLETE: Self-calibration of a cluster completes, replacing its tables, and the last one updates CALID.
-/
def execSelfcalComplete (c : Fin 64) (deskew : List (BitVec 16)) (lin : List (BitVec 16))
    (base : List (BitVec 32)) (s : State) : Host.Outcome State Fault Refusal :=
  .next (s.keep (s.inDom domSMP (fun s => s.selfcalComplete c.val deskew lin base)))

/-- R202, DRIFTCAL_COMPLETE: Drift calibration of the named clusters completes and CALID.MINOR increases. -/
def execDriftcalComplete (rs : List (List (BitVec 32))) (s : State) : Host.Outcome State Fault Refusal :=
  .next (s.keep (s.inDom domSMP (fun s => s.driftcalComplete rs)))

/-- R187, OFFSET_LOAD: Pending calibration offsets are written into a cluster once no engine of it streams or is armed. -/
def execOffsetLoad (c : Fin 64) (s : State) : Host.Outcome State Fault Refusal :=
  .next (s.keep (s.inDom domSMP (fun s => s.offsetLoad c.val)))

/-- R191, CAPTURE_ACCEPT: The SMP pipeline accepts a raw capture, converts it and writes a result entry. -/
def execCaptureAccept (c : Fin 64) (s : State) : Host.Outcome State Fault Refusal :=
  .next (s.keep (s.inDom domSMP (fun s => s.captureAccept c.val)))

/-- R194, SETCLOSE_TIMEOUT: The SETCLOSE timeout elapses and the filling buffer closes. -/
def execSetcloseTimeout (s : State) : Host.Outcome State Fault Refusal :=
  .next (s.keep (s.inDom domSMP (fun s => s.setcloseTimeout)))

/-- R196, BLOCK_SIGNED: Signing of a block completes, the buffer becomes SIGNED and the interrupt is raised. -/
def execBlockSigned (s : State) : Host.Outcome State Fault Refusal :=
  .next (s.keep (s.inDom domSMP (fun s => s.blockSigned)))

/-- R188, TRU_FAULT: Loss or deviation of REFCLK_TIMING or root PLL lock sets TREF and makes every channel OOC. -/
def execTruFault (s : State) : Host.Outcome State Fault Refusal :=
  .next (s.keep (s.truFault))

/-- R188, TRU_RECOVERY: After 10 ms of stable reference and a drift calibration, TREF and OOC clear. -/
def execTruRecovery (s : State) : Host.Outcome State Fault Refusal :=
  .next (s.keep (s.truRecovery))

/-- R204, SMP_POWER_ON: The SMP domain powers on, holds and releases reset, and requests its segment. -/
def execSmpPowerOn (s : State) : Host.Outcome State Fault Refusal :=
  .next (s.keep (s.domainPowerUp domSMP))

/-- R204, SMP_SEGMENT_ARRIVAL: After the segment arrives the SMP verifies it, loads firmware, derives its key, reads
calibration and becomes READY. -/
def execSmpSegmentArrival (s : State) : Host.Outcome State Fault Refusal :=
  .next (s.keep (s.inDom domSMP (fun s => s.smpSegmentArrival)))

/-- R183, SMP_WATCHDOG_EXPIRY: The meter core watchdog expires and resets the SMP. -/
def execSmpWatchdogExpiry (s : State) : Host.Outcome State Fault Refusal :=
  .next (s.keep (s.inDom domSMP (fun s => s.smpReset)))

/-- R184, SECTOR65_SCRUB: Every second the meter core scrubs the 65th sector and counts upsets. -/
def execSector65Scrub (n : Nat) (s : State) : Host.Outcome State Fault Refusal :=
  .next (s.keep (s.inDom domSMP (fun s => s.sector65Scrub n)))

end Sys2Proof.Machine
end

