-- ==== Sys2Proof/Machine/SwepinCmds.lean ====
section
/-!
DEFINITION. What the commands of this family do: Swepin links and the time base (chapter 14).
-/
namespace Sys2Proof.Machine

open Sys2Proof

/-- R377, SWP_COMMIT: A write of SWP_COMMIT.GO commits the bridge's link and ring settings unless refused. -/
def execSwpCommit (mid : MasterId) (b : Fin 16) (s : State) : Host.Outcome State Fault Refusal :=
  .next (s.keep (s.writeAs mid .SWP_COMMIT b.val 0 1))

/-- R357, LINK_TRAIN: With EN = 1 and every bond lane in TRAIN or READY the bridge enters TRAIN. -/
def execLinkTrain (b : Fin 16) (s : State) : Host.Outcome State Fault Refusal :=
  .next (s.keep (s.inDom (domSB b.val) (fun s => s.linkTrain b.val)))

/-- R357, LINK_ALIGN: With every bond lane READY the bridge enters ALIGN. -/
def execLinkAlign (b : Fin 16) (s : State) : Host.Outcome State Fault Refusal :=
  .next (s.keep (s.inDom (domSB b.val) (fun s => s.linkAlign b.val)))

/-- R357, LINK_INIT: After alignment and deskew the bridge enters INIT. -/
def execLinkInit (b : Fin 16) (s : State) : Host.Outcome State Fault Refusal :=
  .next (s.keep (s.inDom (domSB b.val) (fun s => s.linkInit b.val)))

/-- R357, INIT_SEND: Every 1 µs in INIT the bridge sends an INIT block. -/
def execInitSend (b : Fin 16) (s : State) : Host.Outcome State Fault Refusal :=
  .next (s.keep (s.inDom (domSB b.val) (fun s => s.initSend b.val)))

/-- R359, INIT: An INIT block is received and matched, leading to UP or DOWN. -/
def execInit (b : Fin 16) (w : Word) (s : State) : Host.Outcome State Fault Refusal :=
  .next (s.keep (s.inDom (domSB b.val) (fun s => s.initReceive b.val w)))

/-- R357, LINK_TIMEOUT: A TRAIN, ALIGN or INIT timeout sends the link to DOWN. -/
def execLinkTimeout (b : Fin 16) (s : State) : Host.Outcome State Fault Refusal :=
  .next (s.keep (s.inDom (domSB b.val) (fun s => s.linkTimeout b.val)))

/-- R357, LINK_RETRY: 10 ms after entering DOWN with EN = 1 the bridge retries TRAIN. -/
def execLinkRetry (b : Fin 16) (s : State) : Host.Outcome State Fault Refusal :=
  .next (s.keep (s.inDom (domSB b.val) (fun s => s.linkRetry b.val)))

/-- R363, FRAME_SEND: The bridge starts a frame when it holds credits for all its link blocks. -/
def execFrameSend (b : Fin 16) (cls : Fin 3) (n : Fin 17) (s : State) : Host.Outcome State Fault Refusal :=
  .next (s.keep (s.inDom (domSB b.val) (fun s => s.frameSend b.val cls.val n.val)))

/-- R364, FRAME_RECEIVE: A received frame is accepted in SEQ order or discarded with a NAK. -/
def execFrameReceive (b : Fin 16) (f : Frame) (fec : Bool) (s : State) : Host.Outcome State Fault Refusal :=
  .next (s.keep (s.inDom (domSB b.val) (fun s => s.frameReceive b.val f fec)))

/-- R364, ACK: An ACK block frees acknowledged frames and returns credits. -/
def execAck (b : Fin 16) (w : Word) (s : State) : Host.Outcome State Fault Refusal :=
  .next (s.keep (s.inDom (domSB b.val) (fun s => s.ackReceive b.val w)))

/-- R364, ACK_SEND: The receiver sends ACK at least every 256 network cycles. -/
def execAckSend (b : Fin 16) (s : State) : Host.Outcome State Fault Refusal :=
  .next (s.keep (s.inDom (domSB b.val) (fun s => s.ackSend b.val)))

/-- R364, NAK: A NAK block makes the transmitter replay every unacknowledged frame. -/
def execNak (b : Fin 16) (s : State) : Host.Outcome State Fault Refusal :=
  .next (s.keep (s.inDom (domSB b.val) (fun s => s.replayFrames b.val)))

/-- R364, REPLAY_TIMEOUT: 16 µs without ACK progress triggers a replay, up to the replay limit. -/
def execReplayTimeout (b : Fin 16) (s : State) : Host.Outcome State Fault Refusal :=
  .next (s.keep (s.inDom (domSB b.val) (fun s => s.replayTimeout b.val)))

/-- R367, LINK_REQUEST: A request received over a link is forwarded, relayed, delivered or answered with EDEAD. -/
def execLinkRequest (b : Fin 16) (same : Bool) (s : State) : Host.Outcome State Fault Refusal :=
  .next (s.keep (s.inDom (domSB b.val) (fun s => s.linkRequest b.val same)))

/-- R367, CONTEXT_WAIT_TIMEOUT: A request waiting for a bridge context beyond the response timeout is answered with EDEAD.
-/
def execContextWaitTimeout (b : Fin 16) (s : State) : Host.Outcome State Fault Refusal :=
  .next (s.keep (s.inDom (domSB b.val) (fun s => s.contextWaitTimeout b.val)))

/-- R368, BRIDGE_RESPONSE: A response from the mesh restores its context and is sent back over the link. -/
def execBridgeResponse (b : Fin 16) (s : State) : Host.Outcome State Fault Refusal :=
  .next (s.keep (s.inDom (domSB b.val) (fun s => s.bridgeResponse b.val)))

/-- R370, QHEAD: A write of SWP_QHEAD adds bulk descriptors to the bridge's ring. -/
def execQhead (mid : MasterId) (b : Fin 16) (head : BitVec 16) (s : State) : Host.Outcome State Fault Refusal :=
  .next (s.keep (s.writeAs mid .SWP_QHEAD b.val 0 (putFld F.SWP_QHEAD_HEAD head.toNat 0)))

/-- R370, RTHEAD: A write of SWP_RTHEAD adds RT descriptors to the bridge's internal ring. -/
def execRthead (mid : MasterId) (b : Fin 16) (head : BitVec 4) (s : State) : Host.Outcome State Fault Refusal :=
  .next (s.keep (s.writeAs mid .SWP_RTHEAD b.val 0 (putFld F.SWP_RTHEAD_HEAD head.toNat 0)))

/-- R369, DESCRIPTOR_ISSUE: The remote request engine issues the next descriptor's request when limits allow. -/
def execDescriptorIssue (b : Fin 16) (s : State) : Host.Outcome State Fault Refusal :=
  .next (s.keep (s.inDom (domSB b.val) (fun s => s.descriptorIssue b.val)))

/-- R369, DESCRIPTOR_COMPLETE: A descriptor's response writes DONE and STATUS, advances TAIL and may raise an interrupt. -/
def execDescriptorComplete (b : Fin 16) (s : State) : Host.Outcome State Fault Refusal :=
  .next (s.keep (s.inDom (domSB b.val) (fun s => s.descriptorComplete b.val)))

/-- R331, SWP_KEY_NEXT: SWP_KEY.NEXT, by Mbana only, marks the next transmit key loaded. -/
def execSwpKeyNext (mid : MasterId) (b : Fin 16) (s : State) : Host.Outcome State Fault Refusal :=
  .next (s.keep (s.writeAs mid .SWP_KEY b.val 0 (putFld F.SWP_KEY_NEXT 1 0)))

/-- R331, EPOCH_SWITCH: At a frame boundary after the key transfer the sender switches to the next epoch. -/
def execEpochSwitch (b : Fin 16) (s : State) : Host.Outcome State Fault Refusal :=
  .next (s.keep (s.inDom (domSB b.val) (fun s => s.epochSwitch b.val)))

/-- R372, TIME_SYNC_SEND: Once per RT frame a bridge with TIMEEN sends a TIME SYNC block stamped t1. -/
def execTimeSyncSend (b : Fin 16) (t1 : Nat) (s : State) : Host.Outcome State Fault Refusal :=
  .next (s.keep (s.inDom (domSB b.val) (fun s => s.timeSyncSend b.val t1)))

/-- R372, TIME_SYNC: A received TIME SYNC block is stamped t2 and answered with a TIME REPLY. -/
def execTimeSync (b : Fin 16) (e : Nat) (aligned : Bool) (s : State) : Host.Outcome State Fault Refusal :=
  .next (s.keep (s.inDom (domSB b.val) (fun s => s.timeSync b.val e aligned)))

/-- R372, TIME_REPLY: A received TIME REPLY completes an exchange and, at a block end, updates OFFS and DELAY and may make a
step pending. -/
def execTimeReply (b : Fin 16) (e : Nat) (t2 : Nat) (t3 : Nat) (t4 : Nat) (aligned : Bool)
    (s : State) : Host.Outcome State Fault Refusal :=
  .next (s.keep (s.inDom (domSB b.val) (fun s => s.timeReply b.val e t2 t3 t4 aligned)))

/-- R377, TB_STEP: A write of TB_STEP in MASTER makes a time-base step pending. -/
def execTbStep (mid : MasterId) (v : Word) (s : State) : Host.Outcome State Fault Refusal :=
  .next (s.keep (s.writeAs mid .TB_STEP 0 0 v))

/-- R374, STEP_APPLY: A pending step takes effect at a quiet slot with no engine streaming or armed, stopping the divided
clocks. -/
def execStepApply (s : State) : Host.Outcome State Fault Refusal :=
  .next (s.keep (s.inRun (fun s => s.stepApply)))

/-- R373, SERVO_TRIM: In STEERED the servo trims the root PLL each ms toward OFFS = 0. -/
def execServoTrim (s : State) : Host.Outcome State Fault Refusal :=
  .next (s.keep (s.inRun (fun s => s.servoTrim)))

/-- R377, TB_TIME_READ: A read of TB_TIME latches FRAC of the same root period into TB_FRAC. -/
def execTbTimeRead (mid : MasterId) (s : State) : Host.Outcome State Fault Refusal :=
  .next (s.keep (s.readAs mid .TB_TIME 0 0))

end Sys2Proof.Machine
end

