-- ==== Sys2Proof/Machine/Dispatch.lean ====
section
/-!
DEFINITION. The meaning of every command: one arm per constructor, one call of its meaning.
-/
namespace Sys2Proof.Machine

def exec (i : Instr) (s : State) : Host.Outcome State Fault Refusal :=
  match i with
  | .registerWrite mid bus a v => Sys2Proof.Machine.execRegisterWrite mid bus a v s
  | .rcRead mid bus a => Sys2Proof.Machine.execRcRead mid bus a s
  | .rd mid tag a len part same rt => Sys2Proof.Machine.execRd mid tag a len part same rt s
  | .wr mid tag a ws part same rt => Sys2Proof.Machine.execWr mid tag a ws part same rt s
  | .add64 mid tag a op poison len part same rt => Sys2Proof.Machine.execAdd64 mid tag a op poison len part same rt s
  | .add16s mid tag a op poison len part same rt => Sys2Proof.Machine.execAdd16s mid tag a op poison len part same rt s
  | .add8s mid tag a op poison len part same rt => Sys2Proof.Machine.execAdd8s mid tag a op poison len part same rt s
  | .swap64 mid tag a op poison len part same rt => Sys2Proof.Machine.execSwap64 mid tag a op poison len part same rt s
  | .cas64 mid tag a op cmp poison cmpPoison len part same rt => Sys2Proof.Machine.execCas64 mid tag a op cmp poison cmpPoison len part same rt s
  | .rdrsp n => Sys2Proof.Machine.execRdrsp n s
  | .wrrsp n => Sys2Proof.Machine.execWrrsp n s
  | .atrsp n => Sys2Proof.Machine.execAtrsp n s
  | .packetHop f wait => Sys2Proof.Machine.execPacketHop f wait s
  | .responseTimeout n => Sys2Proof.Machine.execResponseTimeout n s
  | .rtInject r p => Sys2Proof.Machine.execRtInject r p s
  | .tokenRefill r p => Sys2Proof.Machine.execTokenRefill r p s
  | .quietSlot => Sys2Proof.Machine.execQuietSlot s
  | .arbGrant ix req n units more pass => Sys2Proof.Machine.execArbGrant ix req n units more pass s
  | .arbHoldCut ix req n => Sys2Proof.Machine.execArbHoldCut ix req n s
  | .arbCommit mid ix => Sys2Proof.Machine.execArbCommit mid ix s
  | .nocCommit mid r => Sys2Proof.Machine.execNocCommit mid r s
  | .wakeRelease r p => Sys2Proof.Machine.execWakeRelease r p s
  | .bbinv mid e => Sys2Proof.Machine.execBbinv mid e s
  | .clear mid e => Sys2Proof.Machine.execClear mid e s
  | .abort mid e => Sys2Proof.Machine.execAbort mid e s
  | .analyze mid e => Sys2Proof.Machine.execAnalyze mid e s
  | .disarm mid e => Sys2Proof.Machine.execDisarm mid e s
  | .arm mid e => Sys2Proof.Machine.execArm mid e s
  | .ceCommit mid e => Sys2Proof.Machine.execCeCommit mid e s
  | .startDoorbell mid e t same => Sys2Proof.Machine.execStartDoorbell mid e t same s
  | .irqDoorbell mid e bits => Sys2Proof.Machine.execIrqDoorbell mid e bits s
  | .engineStateWrite mid e off v poison => Sys2Proof.Machine.execEngineStateWrite mid e off v poison s
  | .gangWake e => Sys2Proof.Machine.execGangWake e s
  | .gangStart e => Sys2Proof.Machine.execGangStart e s
  | .pipelineStep e => Sys2Proof.Machine.execPipelineStep e s
  | .prefetchReturn e => Sys2Proof.Machine.execPrefetchReturn e s
  | .loadReturn e => Sys2Proof.Machine.execLoadReturn e s
  | .gangFault e => Sys2Proof.Machine.execGangFault e s
  | .safeState e => Sys2Proof.Machine.execSafeState e s
  | .programEnd e => Sys2Proof.Machine.execProgramEnd e s
  | .endOfPatternState e => Sys2Proof.Machine.execEndOfPatternState e s
  | .syncRelease e => Sys2Proof.Machine.execSyncRelease e s
  | .interruptEntry e => Sys2Proof.Machine.execInterruptEntry e s
  | .restlComplete e => Sys2Proof.Machine.execRestlComplete e s
  | .fcuPause e => Sys2Proof.Machine.execFcuPause e s
  | .nop e ix => Sys2Proof.Machine.execNop e ix s
  | .jmp e ix t => Sys2Proof.Machine.execJmp e ix t s
  | .br e ix kind val idx t => Sys2Proof.Machine.execBr e ix kind val idx t s
  | .call e ix t => Sys2Proof.Machine.execCall e ix t s
  | .ret e ix => Sys2Proof.Machine.execRet e ix s
  | .halt e ix => Sys2Proof.Machine.execHalt e ix s
  | .enta e ix => Sys2Proof.Machine.execEnta e ix s
  | .loopi e ix c en => Sys2Proof.Machine.execLoopi e ix c en s
  | .loopl e ix k en => Sys2Proof.Machine.execLoopl e ix k en s
  | .popl e ix => Sys2Proof.Machine.execPopl e ix s
  | .setl e ix k v => Sys2Proof.Machine.execSetl e ix k v s
  | .clrf e ix m => Sys2Proof.Machine.execClrf e ix m s
  | .sync e ix => Sys2Proof.Machine.execSync e ix s
  | .savel e ix k => Sys2Proof.Machine.execSavel e ix k s
  | .restl e ix k => Sys2Proof.Machine.execRestl e ix k s
  | .reti e ix => Sys2Proof.Machine.execReti e ix s
  | .anop e ix => Sys2Proof.Machine.execAnop e ix s
  | .aout e ix k j p m n => Sys2Proof.Machine.execAout e ix k j p m n s
  | .seta e ix k x imm => Sys2Proof.Machine.execSeta e ix k x imm s
  | .seto e ix k x imm => Sys2Proof.Machine.execSeto e ix k x imm s
  | .setm e ix k x imm => Sys2Proof.Machine.execSetm e ix k x imm s
  | .movd e ix tr k n => Sys2Proof.Machine.execMovd e ix tr k n s
  | .adva e ix k j => Sys2Proof.Machine.execAdva e ix k j s
  | .cmpa e ix k n cc imm2 imm => Sys2Proof.Machine.execCmpa e ix k n cc imm2 imm s
  | .adda e ix k imm => Sys2Proof.Machine.execAdda e ix k imm s
  | .dnop e ix => Sys2Proof.Machine.execDnop e ix s
  | .mov e ix w sa => Sys2Proof.Machine.execMov e ix w sa s
  | .not e ix w sa => Sys2Proof.Machine.execNot e ix w sa s
  | .and e ix w sa sb => Sys2Proof.Machine.execAnd e ix w sa sb s
  | .or e ix w sa sb => Sys2Proof.Machine.execOr e ix w sa sb s
  | .xor e ix w sa sb => Sys2Proof.Machine.execXor e ix w sa sb s
  | .add e ix w sa sb => Sys2Proof.Machine.execAdd e ix w sa sb s
  | .sub e ix w sa sb => Sys2Proof.Machine.execSub e ix w sa sb s
  | .shl e ix w sa sh => Sys2Proof.Machine.execShl e ix w sa sh s
  | .shr e ix w sa sh => Sys2Proof.Machine.execShr e ix w sa sh s
  | .rol e ix w sa sh => Sys2Proof.Machine.execRol e ix w sa sh s
  | .ldi e ix w imm => Sys2Proof.Machine.execLdi e ix w imm s
  | .cat e ix w imm => Sys2Proof.Machine.execCat e ix w imm s
  | .topo e ix w sa sb => Sys2Proof.Machine.execTopo e ix w sa sb s
  | .movao e ix w => Sys2Proof.Machine.execMovao e ix w s
  | .padv e ix w g n => Sys2Proof.Machine.execPadv e ix w g n s
  | .pxor e ix w sa g => Sys2Proof.Machine.execPxor e ix w sa g s
  | .pseed e ix w sa g => Sys2Proof.Machine.execPseed e ix w sa g s
  | .unpk e ix w sa wd q => Sys2Proof.Machine.execUnpk e ix w sa wd q s
  | .cmpd e ix sa sb n cc => Sys2Proof.Machine.execCmpd e ix sa sb n cc s
  | .mnop e ix => Sys2Proof.Machine.execMnop e ix s
  | .macc e ix mask mode j k ce n rf => Sys2Proof.Machine.execMacc e ix mask mode j k ce n rf s
  | .msub e ix mask mode j k ce n rf => Sys2Proof.Machine.execMsub e ix mask mode j k ce n rf s
  | .maci e ix mask mode j imm => Sys2Proof.Machine.execMaci e ix mask mode j imm s
  | .msbi e ix mask mode j imm => Sys2Proof.Machine.execMsbi e ix mask mode j imm s
  | .mclr e ix mask => Sys2Proof.Machine.execMclr e ix mask s
  | .mlda e ix mask sa => Sys2Proof.Machine.execMlda e ix mask sa s
  | .mmov e ix k sgn dst => Sys2Proof.Machine.execMmov e ix k sgn dst s
  | .mcmp e ix k n cc sgn sa => Sys2Proof.Machine.execMcmp e ix k n cc sgn sa s
  | .normalVector e ix codes ts => Sys2Proof.Machine.execNormalVector e ix codes ts s
  | .pauseVector e ix codes ts => Sys2Proof.Machine.execPauseVector e ix codes ts s
  | .markVector e ix codes ts => Sys2Proof.Machine.execMarkVector e ix codes ts s
  | .ballEvent p => Sys2Proof.Machine.execBallEvent p s
  | .strobe p h l => Sys2Proof.Machine.execStrobe p h l s
  | .windowClose p h l changed inv => Sys2Proof.Machine.execWindowClose p h l changed inv s
  | .edgeCapture p h l edges => Sys2Proof.Machine.execEdgeCapture p h l edges s
  | .tsetCommit mid e => Sys2Proof.Machine.execTsetCommit mid e s
  | .pinCfgWrite mid p v => Sys2Proof.Machine.execPinCfgWrite mid p v s
  | .compareClose e => Sys2Proof.Machine.execCompareClose e s
  | .failFlagSet e => Sys2Proof.Machine.execFailFlagSet e s
  | .recordWrite c same => Sys2Proof.Machine.execRecordWrite c same s
  | .recordWriteDone c ix => Sys2Proof.Machine.execRecordWriteDone c ix s
  | .accumulationUpdate c same => Sys2Proof.Machine.execAccumulationUpdate c same s
  | .accumulationUpdateDone c k => Sys2Proof.Machine.execAccumulationUpdateDone c k s
  | .fcuCommit mid c => Sys2Proof.Machine.execFcuCommit mid c s
  | .fcuClrSlot mid c ix => Sys2Proof.Machine.execFcuClrSlot mid c ix s
  | .fcuClrPin mid c j => Sys2Proof.Machine.execFcuClrPin mid c j s
  | .fcuRrpWrite mid c ix rp => Sys2Proof.Machine.execFcuRrpWrite mid c ix rp s
  | .bgtStep n flips => Sys2Proof.Machine.execBgtStep n flips s
  | .bgtWaitEnd n => Sys2Proof.Machine.execBgtWaitEnd n s
  | .sliceFill mid n => Sys2Proof.Machine.execSliceFill mid n s
  | .sliceRetire mid n on => Sys2Proof.Machine.execSliceRetire mid n on s
  | .sliceFillComplete n => Sys2Proof.Machine.execSliceFillComplete n s
  | .sbkWipe mid => Sys2Proof.Machine.execSbkWipe mid s
  | .sbkWipeComplete => Sys2Proof.Machine.execSbkWipeComplete s
  | .smpClaim mid => Sys2Proof.Machine.execSmpClaim mid s
  | .smpRequestGo mid ix v => Sys2Proof.Machine.execSmpRequestGo mid ix v s
  | .smpSlotRelease mid ix => Sys2Proof.Machine.execSmpSlotRelease mid ix s
  | .flush ix => Sys2Proof.Machine.execFlush ix s
  | .bufferRelease ix => Sys2Proof.Machine.execBufferRelease ix s
  | .setclose ix => Sys2Proof.Machine.execSetclose ix s
  | .selfcal ix => Sys2Proof.Machine.execSelfcal ix s
  | .driftcal ix => Sys2Proof.Machine.execDriftcal ix s
  | .calstat ix => Sys2Proof.Machine.execCalstat ix s
  | .calinBegin ix => Sys2Proof.Machine.execCalinBegin ix s
  | .calinData ix => Sys2Proof.Machine.execCalinData ix s
  | .calinEnd ix => Sys2Proof.Machine.execCalinEnd ix s
  | .calout ix => Sys2Proof.Machine.execCalout ix s
  | .smpAttest ix => Sys2Proof.Machine.execSmpAttest ix s
  | .imagehash ix => Sys2Proof.Machine.execImagehash ix s
  | .keyrot ix pub => Sys2Proof.Machine.execKeyrot ix pub s
  | .selfcalComplete c deskew lin base => Sys2Proof.Machine.execSelfcalComplete c deskew lin base s
  | .driftcalComplete rs => Sys2Proof.Machine.execDriftcalComplete rs s
  | .offsetLoad c => Sys2Proof.Machine.execOffsetLoad c s
  | .captureAccept c => Sys2Proof.Machine.execCaptureAccept c s
  | .setcloseTimeout => Sys2Proof.Machine.execSetcloseTimeout s
  | .blockSigned => Sys2Proof.Machine.execBlockSigned s
  | .truFault => Sys2Proof.Machine.execTruFault s
  | .truRecovery => Sys2Proof.Machine.execTruRecovery s
  | .smpPowerOn => Sys2Proof.Machine.execSmpPowerOn s
  | .smpSegmentArrival => Sys2Proof.Machine.execSmpSegmentArrival s
  | .smpWatchdogExpiry => Sys2Proof.Machine.execSmpWatchdogExpiry s
  | .sector65Scrub n => Sys2Proof.Machine.execSector65Scrub n s
  | .bmRead n ix portB same => Sys2Proof.Machine.execBmRead n ix portB same s
  | .bmWrite n ix portB same be v => Sys2Proof.Machine.execBmWrite n ix portB same be v s
  | .bmScrub n w busy => Sys2Proof.Machine.execBmScrub n w busy s
  | .fabCommit mid x => Sys2Proof.Machine.execFabCommit mid x s
  | .regionalLineRestart x j => Sys2Proof.Machine.execRegionalLineRestart x j s
  | .sectorPortTarget n answer => Sys2Proof.Machine.execSectorPortTarget n answer s
  | .sectorPortTimeout n => Sys2Proof.Machine.execSectorPortTimeout n s
  | .engTrig e => Sys2Proof.Machine.execEngTrig e s
  | .engIrq e bits => Sys2Proof.Machine.execEngIrq e bits s
  | .holdRelease => Sys2Proof.Machine.execHoldRelease s
  | .settingsRead dead => Sys2Proof.Machine.execSettingsRead dead s
  | .headerCheck dead => Sys2Proof.Machine.execHeaderCheck dead s
  | .signatureCheck => Sys2Proof.Machine.execSignatureCheck s
  | .frameArrival dead => Sys2Proof.Machine.execFrameArrival dead s
  | .sectorFence x => Sys2Proof.Machine.execSectorFence x s
  | .hashCheck => Sys2Proof.Machine.execHashCheck s
  | .loadTimeout => Sys2Proof.Machine.execLoadTimeout s
  | .smpSegmentDelivery => Sys2Proof.Machine.execSmpSegmentDelivery s
  | .deviceReady => Sys2Proof.Machine.execDeviceReady s
  | .userModeEntry => Sys2Proof.Machine.execUserModeEntry s
  | .cfgCtrlLoad mid => Sys2Proof.Machine.execCfgCtrlLoad mid s
  | .cfgCtrlDonerel mid => Sys2Proof.Machine.execCfgCtrlDonerel mid s
  | .scrubPassStart x => Sys2Proof.Machine.execScrubPassStart x s
  | .scrubFrame x upset => Sys2Proof.Machine.execScrubFrame x upset s
  | .frameReload x dead => Sys2Proof.Machine.execFrameReload x dead s
  | .scrubPassEnd x => Sys2Proof.Machine.execScrubPassEnd x s
  | .lineAccess k n => Sys2Proof.Machine.execLineAccess k n s
  | .cewbWriteBack k lam => Sys2Proof.Machine.execCewbWriteBack k lam s
  | .patrolRead k => Sys2Proof.Machine.execPatrolRead k s
  | .refresh k => Sys2Proof.Machine.execRefresh k s
  | .rowIdleClose k b => Sys2Proof.Machine.execRowIdleClose k b s
  | .throttleEnd k mid b => Sys2Proof.Machine.execThrottleEnd k mid b s
  | .dramTraining k fail => Sys2Proof.Machine.execDramTraining k fail s
  | .trainingComplete k => Sys2Proof.Machine.execTrainingComplete k s
  | .ilvGo mid k ilv cap => Sys2Proof.Machine.execIlvGo mid k ilv cap s
  | .fill mid k => Sys2Proof.Machine.execFill mid k s
  | .dramFillComplete k => Sys2Proof.Machine.execDramFillComplete k s
  | .setrate mid k rate => Sys2Proof.Machine.execSetrate mid k rate s
  | .retrain mid k => Sys2Proof.Machine.execRetrain mid k s
  | .transitionQuiesced k => Sys2Proof.Machine.execTransitionQuiesced k s
  | .transitionComplete k => Sys2Proof.Machine.execTransitionComplete k s
  | .iceCommit mid => Sys2Proof.Machine.execIceCommit mid s
  | .regionInitComplete r => Sys2Proof.Machine.execRegionInitComplete r s
  | .keyready mid r => Sys2Proof.Machine.execKeyready mid r s
  | .resume mid r => Sys2Proof.Machine.execResume mid r s
  | .unlock mid r => Sys2Proof.Machine.execUnlock mid r s
  | .rekey mid r => Sys2Proof.Machine.execRekey mid r s
  | .rekeyStep r k => Sys2Proof.Machine.execRekeyStep r k s
  | .linkKeyTransfer b => Sys2Proof.Machine.execLinkKeyTransfer b s
  | .lnQcommit mid q => Sys2Proof.Machine.execLnQcommit mid q s
  | .quadPllLock q => Sys2Proof.Machine.execQuadPllLock q s
  | .reflos q => Sys2Proof.Machine.execReflos q s
  | .lnCommit mid l => Sys2Proof.Machine.execLnCommit mid l s
  | .acquireDone l => Sys2Proof.Machine.execAcquireDone l s
  | .trainingEnd l ok => Sys2Proof.Machine.execTrainingEnd l ok s
  | .coefficientRequest l tap up => Sys2Proof.Machine.execCoefficientRequest l tap up s
  | .losEvent l => Sys2Proof.Machine.execLosEvent l s
  | .lolEvent l => Sys2Proof.Machine.execLolEvent l s
  | .losClear l => Sys2Proof.Machine.execLosClear l s
  | .lolClear l => Sys2Proof.Machine.execLolClear l s
  | .receiveWord l w => Sys2Proof.Machine.execReceiveWord l w s
  | .transmitWord l txv w => Sys2Proof.Machine.execTransmitWord l txv w s
  | .txUnderrun l => Sys2Proof.Machine.execTxUnderrun l s
  | .pgen mid l pat => Sys2Proof.Machine.execPgen mid l pat s
  | .pchk mid l pat => Sys2Proof.Machine.execPchk mid l pat s
  | .eyeScan mid l v => Sys2Proof.Machine.execEyeScan mid l v s
  | .eyeScanDone l errs => Sys2Proof.Machine.execEyeScanDone l errs s
  | .swpCommit mid b => Sys2Proof.Machine.execSwpCommit mid b s
  | .linkTrain b => Sys2Proof.Machine.execLinkTrain b s
  | .linkAlign b => Sys2Proof.Machine.execLinkAlign b s
  | .linkInit b => Sys2Proof.Machine.execLinkInit b s
  | .initSend b => Sys2Proof.Machine.execInitSend b s
  | .init b w => Sys2Proof.Machine.execInit b w s
  | .linkTimeout b => Sys2Proof.Machine.execLinkTimeout b s
  | .linkRetry b => Sys2Proof.Machine.execLinkRetry b s
  | .frameSend b cls n => Sys2Proof.Machine.execFrameSend b cls n s
  | .frameReceive b f fec => Sys2Proof.Machine.execFrameReceive b f fec s
  | .ack b w => Sys2Proof.Machine.execAck b w s
  | .ackSend b => Sys2Proof.Machine.execAckSend b s
  | .nak b => Sys2Proof.Machine.execNak b s
  | .replayTimeout b => Sys2Proof.Machine.execReplayTimeout b s
  | .linkRequest b same => Sys2Proof.Machine.execLinkRequest b same s
  | .contextWaitTimeout b => Sys2Proof.Machine.execContextWaitTimeout b s
  | .bridgeResponse b => Sys2Proof.Machine.execBridgeResponse b s
  | .qhead mid b head => Sys2Proof.Machine.execQhead mid b head s
  | .rthead mid b head => Sys2Proof.Machine.execRthead mid b head s
  | .descriptorIssue b => Sys2Proof.Machine.execDescriptorIssue b s
  | .descriptorComplete b => Sys2Proof.Machine.execDescriptorComplete b s
  | .swpKeyNext mid b => Sys2Proof.Machine.execSwpKeyNext mid b s
  | .epochSwitch b => Sys2Proof.Machine.execEpochSwitch b s
  | .timeSyncSend b t1 => Sys2Proof.Machine.execTimeSyncSend b t1 s
  | .timeSync b e aligned => Sys2Proof.Machine.execTimeSync b e aligned s
  | .timeReply b e t2 t3 t4 aligned => Sys2Proof.Machine.execTimeReply b e t2 t3 t4 aligned s
  | .tbStep mid v => Sys2Proof.Machine.execTbStep mid v s
  | .stepApply => Sys2Proof.Machine.execStepApply s
  | .servoTrim => Sys2Proof.Machine.execServoTrim s
  | .tbTimeRead mid => Sys2Proof.Machine.execTbTimeRead mid s
  | .errorRecord => Sys2Proof.Machine.execErrorRecord s
  | .errPtrWrite mid rp => Sys2Proof.Machine.execErrPtrWrite mid rp s
  | .lockstepMismatch => Sys2Proof.Machine.execLockstepMismatch s
  | .mbanaRebootComplete => Sys2Proof.Machine.execMbanaRebootComplete s
  | .udpDatagram v6 dst port frag ck peer bs same => Sys2Proof.Machine.execUdpDatagram v6 dst port frag ck peer bs same s
  | .arpRequest ip src => Sys2Proof.Machine.execArpRequest ip src s
  | .icmpEcho v6 dst src payload => Sys2Proof.Machine.execIcmpEcho v6 dst src payload s
  | .neighborDiscovery target src => Sys2Proof.Machine.execNeighborDiscovery target src s
  | .spiCommandFrame bs same => Sys2Proof.Machine.execSpiCommandFrame bs same s
  | .spiReplyFrame => Sys2Proof.Machine.execSpiReplyFrame s
  | .spiStatusFrame => Sys2Proof.Machine.execSpiStatusFrame s
  | .mailboxGo mid j same => Sys2Proof.Machine.execMailboxGo mid j same s
  | .ping => Sys2Proof.Machine.execPing s
  | .getid => Sys2Proof.Machine.execGetid s
  | .claim => Sys2Proof.Machine.execClaim s
  | .release => Sys2Proof.Machine.execRelease s
  | .reset => Sys2Proof.Machine.execReset s
  | .set => Sys2Proof.Machine.execSet s
  | .get => Sys2Proof.Machine.execGet s
  | .attest => Sys2Proof.Machine.execAttest s
  | .icekey => Sys2Proof.Machine.execIcekey s
  | .iceunlock => Sys2Proof.Machine.execIceunlock s
  | .linkkey => Sys2Proof.Machine.execLinkkey s
  | .cfgstat => Sys2Proof.Machine.execCfgstat s
  | .load => Sys2Proof.Machine.execLoad s
  | .streamBegin => Sys2Proof.Machine.execStreamBegin s
  | .streamData => Sys2Proof.Machine.execStreamData s
  | .streamEnd => Sys2Proof.Machine.execStreamEnd s
  | .donerel => Sys2Proof.Machine.execDonerel s
  | .imgwriteBegin => Sys2Proof.Machine.execImgwriteBegin s
  | .imgwriteData => Sys2Proof.Machine.execImgwriteData s
  | .imgwriteEnd => Sys2Proof.Machine.execImgwriteEnd s
  | .setslot => Sys2Proof.Machine.execSetslot s
  | .sensors => Sys2Proof.Machine.execSensors s
  | .thresh => Sys2Proof.Machine.execThresh s
  | .logread => Sys2Proof.Machine.execLogread s
  | .fwBegin => Sys2Proof.Machine.execFwBegin s
  | .fwData => Sys2Proof.Machine.execFwData s
  | .fwEnd => Sys2Proof.Machine.execFwEnd s
  | .fwActivate => Sys2Proof.Machine.execFwActivate s
  | .fwConfirm => Sys2Proof.Machine.execFwConfirm s
  | .fwStat => Sys2Proof.Machine.execFwStat s
  | .trialTimeout => Sys2Proof.Machine.execTrialTimeout s
  | .smpPower => Sys2Proof.Machine.execSmpPower s
  | .smpReset => Sys2Proof.Machine.execSmpReset s
  | .smpRelay => Sys2Proof.Machine.execSmpRelay s
  | .smpstat => Sys2Proof.Machine.execSmpstat s
  | .dbgChal => Sys2Proof.Machine.execDbgChal s
  | .dbgResp => Sys2Proof.Machine.execDbgResp s
  | .dbgPass => Sys2Proof.Machine.execDbgPass s
  | .dbgRevoke => Sys2Proof.Machine.execDbgRevoke s
  | .dbgTunnel => Sys2Proof.Machine.execDbgTunnel s
  | .pwrDomain => Sys2Proof.Machine.execPwrDomain s
  | .pwrStat => Sys2Proof.Machine.execPwrStat s
  | .clkGlobal => Sys2Proof.Machine.execClkGlobal s
  | .dramRate => Sys2Proof.Machine.execDramRate s
  | .vtrim ack => Sys2Proof.Machine.execVtrim ack s
  | .sleep => Sys2Proof.Machine.execSleep s
  | .lcStat => Sys2Proof.Machine.execLcStat s
  | .lcNonce => Sys2Proof.Machine.execLcNonce s
  | .lcProvision => Sys2Proof.Machine.execLcProvision s
  | .lcCert => Sys2Proof.Machine.execLcCert s
  | .lcDeploy => Sys2Proof.Machine.execLcDeploy s
  | .lcRma => Sys2Proof.Machine.execLcRma s
  | .lcScrap => Sys2Proof.Machine.execLcScrap s
  | .tamperClear => Sys2Proof.Machine.execTamperClear s
  | .leaseExpiry r => Sys2Proof.Machine.execLeaseExpiry r s
  | .sensorReading n v => Sys2Proof.Machine.execSensorReading n v s
  | .thermalCrit n => Sys2Proof.Machine.execThermalCrit n s
  | .thermalTrip => Sys2Proof.Machine.execThermalTrip s
  | .logFlush => Sys2Proof.Machine.execLogFlush s
  | .tamper levels => Sys2Proof.Machine.execTamper levels s
  | .linkEpoch b half => Sys2Proof.Machine.execLinkEpoch b half s
  | .driftCalibrationPolicy idle => Sys2Proof.Machine.execDriftCalibrationPolicy idle s
  | .dramRetrainingPolicy k => Sys2Proof.Machine.execDramRetrainingPolicy k s
  | .scrubRatePolicy => Sys2Proof.Machine.execScrubRatePolicy s
  | .supplyTrimPolicy ack => Sys2Proof.Machine.execSupplyTrimPolicy ack s
  | .patrolPolicy k => Sys2Proof.Machine.execPatrolPolicy k s
  | .retirementPolicy kind inst loc => Sys2Proof.Machine.execRetirementPolicy kind inst loc s
  | .lockdownPolicy r => Sys2Proof.Machine.execLockdownPolicy r s
  | .secureBankWipePolicy halves => Sys2Proof.Machine.execSecureBankWipePolicy halves s
  | .powerOnReset cause strap => Sys2Proof.Machine.execPowerOnReset cause strap s
  | .oscillatorReady => Sys2Proof.Machine.execOscillatorReady s
  | .rootPllLock => Sys2Proof.Machine.execRootPllLock s
  | .pllLockRetry ok => Sys2Proof.Machine.execPllLockRetry ok s
  | .clockMonitorTrip n => Sys2Proof.Machine.execClockMonitorTrip n s
  | .rstCtrlGo mid scope inst => Sys2Proof.Machine.execRstCtrlGo mid scope inst s
  | .pwrReqGo mid dom on => Sys2Proof.Machine.execPwrReqGo mid dom on s
  | .domainPowerUp d => Sys2Proof.Machine.execDomainPowerUp d s
  | .domainPowerDown d => Sys2Proof.Machine.execDomainPowerDown d s
  | .drainTimeout d => Sys2Proof.Machine.execDrainTimeout d s
  | .clkCommit mid => Sys2Proof.Machine.execClkCommit mid s
  | .wakeEvent source => Sys2Proof.Machine.execWakeEvent source s
  | .wakeRestore => Sys2Proof.Machine.execWakeRestore s
  | .tapReset => Sys2Proof.Machine.execTapReset s
  | .pmxEnWrite mid v => Sys2Proof.Machine.execPmxEnWrite mid v s
  | .gpioLock mid key => Sys2Proof.Machine.execGpioLock mid key s
  | .lockSequenceTimeout => Sys2Proof.Machine.execLockSequenceTimeout s
  | .patternMatch board => Sys2Proof.Machine.execPatternMatch board s
  | .timerCompare k => Sys2Proof.Machine.execTimerCompare k s
  | .timerCapture k => Sys2Proof.Machine.execTimerCapture k s
  | .spiMasterTransfer m len => Sys2Proof.Machine.execSpiMasterTransfer m len s
  | .i2cTransaction ix cmd => Sys2Proof.Machine.execI2cTransaction ix cmd s
  | .uartReceive u b frameErr parErr => Sys2Proof.Machine.execUartReceive u b frameErr parErr s
  | .uartTransmit u b => Sys2Proof.Machine.execUartTransmit u b s
  | .rtcAlarm => Sys2Proof.Machine.execRtcAlarm s
  | .hostBoot => Sys2Proof.Machine.execHostBoot s
  | .coreRun mid run => Sys2Proof.Machine.execCoreRun mid run s
  | .irqpost mid src => Sys2Proof.Machine.execIrqpost mid src s
  | .plicClaim mid ctx => Sys2Proof.Machine.execPlicClaim mid ctx s
  | .plicComplete mid ctx v => Sys2Proof.Machine.execPlicComplete mid ctx v s
  | .coreUncacheableAccess k kind a bytes rd v same => Sys2Proof.Machine.execCoreUncacheableAccess k kind a bytes rd v same s
  | .writebackError k a st => Sys2Proof.Machine.execWritebackError k a st s
  | .machineTimer k => Sys2Proof.Machine.execMachineTimer k s
  | .wdtKick mid k key => Sys2Proof.Machine.execWdtKick mid k key s
  | .wdtExpiry k => Sys2Proof.Machine.execWdtExpiry k s
  | .extest cells => Sys2Proof.Machine.execExtest cells s
  | .idcode => Sys2Proof.Machine.execIdcode s
  | .samplePreload cells => Sys2Proof.Machine.execSamplePreload cells s
  | .clamp => Sys2Proof.Machine.execClamp s
  | .highz => Sys2Proof.Machine.execHighz s
  | .dtmcs v => Sys2Proof.Machine.execDtmcs v s
  | .dmi op a v => Sys2Proof.Machine.execDmi op a v s
  | .bypass => Sys2Proof.Machine.execBypass s
  | .hartHalt h => Sys2Proof.Machine.execHartHalt h s
  | .hartResume h => Sys2Proof.Machine.execHartResume h s
  | .singleStep h => Sys2Proof.Machine.execSingleStep h s
  | .hartreset h => Sys2Proof.Machine.execHartreset h s
  | .ndmreset => Sys2Proof.Machine.execNdmreset s
  | .abstractCommand cmd => Sys2Proof.Machine.execAbstractCommand cmd s
  | .systemBusAccess same => Sys2Proof.Machine.execSystemBusAccess same s
  | .triggerFire h t => Sys2Proof.Machine.execTriggerFire h t s
  | .watchMatch u fails idx => Sys2Proof.Machine.execWatchMatch u fails idx s
  | .watchPause e => Sys2Proof.Machine.execWatchPause e s
  | .watchFreeze => Sys2Proof.Machine.execWatchFreeze s
  | .vtTxWrite mid k v => Sys2Proof.Machine.execVtTxWrite mid k v s
  | .vtTxRead mid k => Sys2Proof.Machine.execVtTxRead mid k s
  | .vtRxWrite mid k v => Sys2Proof.Machine.execVtRxWrite mid k v s
  | .vtRxRead mid k => Sys2Proof.Machine.execVtRxRead mid k s
  | .pmonCommit mid ix => Sys2Proof.Machine.execPmonCommit mid ix s
  | .pmonClr mid ix => Sys2Proof.Machine.execPmonClr mid ix s
  | .pmonWindowClose ix bytes => Sys2Proof.Machine.execPmonWindowClose ix bytes s
  | .freeze mid => Sys2Proof.Machine.execFreeze mid s
  | .run mid => Sys2Proof.Machine.execRun mid s
  | .snap mid => Sys2Proof.Machine.execSnap mid s
  | .clearCounters mid => Sys2Proof.Machine.execClearCounters mid s
  | .globalCommandAct ix late => Sys2Proof.Machine.execGlobalCommandAct ix late s
  | .dbgEwcommit mid => Sys2Proof.Machine.execDbgEwcommit mid s
  | .flipFlopEdge x col row m b ones sample => Sys2Proof.Machine.execFlipFlopEdge x col row m b ones sample s
  | .arithmeticSliceEdge x ac ins => Sys2Proof.Machine.execArithmeticSliceEdge x ac ins s
  | .throttledRequestAdmit k => Sys2Proof.Machine.execThrottledRequestAdmit k s
  | .referenceReturn q => Sys2Proof.Machine.execReferenceReturn q s
  | .slotEraseComplete img => Sys2Proof.Machine.execSlotEraseComplete img s
  | .managementPortLink up => Sys2Proof.Machine.execManagementPortLink up s
  | .managementPllLock => Sys2Proof.Machine.execManagementPllLock s
  | .crystalReady => Sys2Proof.Machine.execCrystalReady s
  | .dbgPassLockoutEnd => Sys2Proof.Machine.execDbgPassLockoutEnd s
  | .i2cTransactionDone ix nack arb tmo pec bytes => Sys2Proof.Machine.execI2cTransactionDone ix nack arb tmo pec bytes s
  | .spiMasterTransferDone m bytes => Sys2Proof.Machine.execSpiMasterTransferDone m bytes s
  | .smbusAlert ix => Sys2Proof.Machine.execSmbusAlert ix s

end Sys2Proof.Machine
end

