-- ==== Sys2Proof/Machine/Step.lean ====
section
/-!
DEFINITION. One step of the part: the command at the front of the queue, or one root period while nothing waits.
-/
namespace Sys2Proof.Machine

open Sys2Proof

/-- What time alone does while no command waits (log entries 4 and 32): while the root clock runs, one root period passes, the
FIFOs drain one item each, pins that changed owner leave high impedance, and pages due for retirement are marked. -/
def State.tick (s : State) : State :=
  if s.cstate == ckRun then
    let t : State := s.atTime (s.now + 1)
    let t := t.drainLanes.drainUarts.applyRetire
    t.modIo (fun x => { x with hiZ := 0 })
  else s

/-- One step: the command at the front leaves the queue and takes effect; on an empty queue, time passes. -/
def step (s : State) : Host.Outcome State Fault Refusal :=
  match s.pending with
  | [] => .next s.tick
  | c :: rest => exec c { s with pending := rest }

/-- s with the command that a word spells in front of its queue; no word spells one. -/
def State.withFetchWord (s : State) (nbits w : Nat) : State :=
  match decodeTableWord nbits w with
  | some c => { s with pending := c :: s.pending }
  | none => s

end Sys2Proof.Machine
end

