-- ==== Sys2Proof/Safety.lean ====
section
/-!
DEFINITION. What counts as a safe step (the machine answers a next state), and the conditions under which the commands of a
family act, in the terms the statements use.
-/
namespace Sys2Proof

open Sys2Proof.Machine

/-- The step from s answers the next state t. -/
def StepsTo (s t : State) : Prop := step s = .next t

/-- The machine goes on from s. -/
def Safe (s : State) : Prop := ∃ t, StepsTo s t

namespace Machine

/-- Command c answers a next state from s, and P holds of it. -/
def Answers (c : Instr) (s : State) (P : State → Prop) : Prop := ∃ t, exec c s = .next t ∧ P t

/-- t is s with engine e replaced by x: everything else, the other engines included, is as it was. -/
def OnlyEngine (s : State) (e : Nat) (x : Engine) (t : State) : Prop :=
  t = { s with engines := t.engines } ∧ t.eng e = x ∧ ∀ k, k ≠ e → t.eng k = s.eng k

/-- Engine e executes bundles: its cluster is on and clocked, and it runs a stream or an analysis (R66, R428). -/
def State.Executes (s : State) (e : Nat) : Prop := s.live (domCL (e / 4)) = true ∧ s.running e = true

/-- Engine e acts on the program state of its program: in a stream, only the leader does (R70, R89). -/
def State.Fetches (s : State) (e : Nat) : Prop := s.streaming e = true → s.leader e = e

/-- Engine e executes bundles in ANALYSIS (R66). -/
def State.Analyses (s : State) (e : Nat) : Prop := s.live (domCL (e / 4)) = true ∧ (s.eng e).mode = .analysis

/-- A master's access reaches the block: the master can issue one (R30, R33), the domain of the region is on and not being
powered off (R278: EASLEEP), and the master has the right (R32: EDENY). -/
def State.Reaches (s : State) (mid : MasterId) (g : Region) (write : Bool) : Prop :=
  s.masterLive mid = true ∧
  (∀ d, g.domain = some d → s.domOn d = true ∧ s.fenced d = false) ∧
  s.right mid.toNat g write = true

/-- A master's write of register r of instance i reaches it. -/
def State.ReachesReg (s : State) (mid : MasterId) (r : RegId) (i : Nat) (write : Bool) : Prop :=
  s.Reaches mid (regRegion r i) write

/-- Request x of number n is ready to come back to its master whole: every part of it is answered, none of its responses has been
dropped, none is dropped on its way back, and its time-out has not ended it (R262, R279). -/
def State.Returns (s : State) (n : Nat) (x : Xact) : Prop :=
  s.xacts.get n none = some x ∧ s.answered n x = true ∧ x.lost = [] ∧ x.late = false ∧
  (x.sent = true → x.dead = false ∧
    (((if x.rt ∧ s.inQuiet then s.atTime ((s.now / 4096 + 1) * 4096) else s).unhold x).backAll x x.holders).1 = [])

/-- Mbana takes packet p, with rest behind it, from its intake queue (R398, R404). -/
def State.taken (s : State) (p : MbPkt) (rest : List MbPkt) : State :=
  (s.modMb (fun m => { m with queue := rest })).mailTaken p.via

/-- Packet p of opcode op is at the front of Mbana's intake queue and passes the checks of R400 and R404 that come before its
parameters and, with its parameters good, its ownership check (R403). -/
def State.Fronts (s : State) (p : MbPkt) (rest : List MbPkt) (op : Nat) : Prop :=
  s.mbServes = true ∧ s.mb.queue = p :: rest ∧ p.op = op ∧ s.storedReply p = none ∧ p.twin = false ∧ s.opAllowed p = true ∧
    s.owned p = true

end Machine

end Sys2Proof
end

