-- ==== Sys2Proof/Certificates/Slice0/Obligations.lean ====
section
/-!
DEFINITION. The statements for the provers: what the commands do, family by family, from the rules of the spec. Answers c s P
says that command c answers a next state from s and that P holds of it.
-/
open Sys2Proof Sys2Proof.Machine

/-- The queue: one step takes the command at the front and runs it on the state with the rest of the queue; on an empty queue
time passes (log entries 1 and 32: the queue and the idle step are the model's). -/
def Obligations.StepRunsTheFrontCommand : Prop :=
  (∀ (c : Instr) (rest : List Instr) (s : State), step { s with pending := c :: rest } = exec c { s with pending := rest }) ∧
  (∀ s : State, s.pending = [] → step s = .next s.tick)

/-- Every command of the table is performed from every state, and none of them reaches the queue. -/
def Obligations.EveryCommandAnswersAndKeepsTheQueue : Prop :=
  ∀ (c : Instr) (s : State), Answers c s (fun t => t.pending = s.pending)

/-- R4, R5, R37, R66, R103, R125, R164, R449: what power-on reset leaves, where the spec states it: every register of control
space shows its table's reset value, engines are in IDLE with their state zero and their generators at all ones, TIME is 0,
the channels are off, and nothing is under way. -/
def Obligations.ResetLeavesTheStatedValues : Prop :=
  (∀ (r : RegId) (i j k : Nat), State.reset.reg r i j k = regReset r i j k ∧ State.reset.shadowReg r i j k = regReset r i j k) ∧
  State.reset.reg .SYS_ID = 0x20C5144 ∧
  (∀ e : Nat, (State.reset.eng e).mode = .idle ∧ (State.reset.eng e).flags = 0 ∧ (State.reset.eng e).ld = 0 ∧
    (State.reset.eng e).cd = 0 ∧ (∀ g, (State.reset.eng e).rg g = prbsOnes g)) ∧
  State.reset.time = 0 ∧
  (∀ p : Nat, (State.reset.chan p).pdrv = false ∧ (State.reset.chan p).pden = false) ∧
  State.reset.reg .PMX_OWN = 0x1111 ∧ State.reset.pending = []

/-- R55, R57, R58, R90, R91: the AGEN operations of an engine that executes bundles. ANOP changes nothing; AOUT forms AO from the
unmodified address register and, with P = 0, post-modifies it; the others write their one register. -/
def Obligations.AgenOperationsWriteTheirRegisters : Prop :=
  ∀ (s : State) (e : Fin 256) (ix : BAddr), s.Executes e →
    let x := s.eng e
    Answers (.anop e ix) s (OnlyEngine s e x) ∧
    (∀ k j p n, Answers (.aout e ix k j p 0 n) s (OnlyEngine s e
      { x with ao := s.scrambleAt e k.toNat (x.ra k.toNat),
               a := if p then x.a else x.a.set k.toNat (postModify (x.ra k.toNat) (x.ro j.toNat) (x.rm k.toNat)) 0 })) ∧
    (∀ k sx imm, Answers (.seta e ix k sx imm) s (OnlyEngine s e
      { x with a := x.a.set k.toNat (if sx then imm.signExtend 32 else imm.setWidth 32) 0 })) ∧
    (∀ k sx imm, Answers (.seto e ix k sx imm) s (OnlyEngine s e
      { x with o := x.o.set k.toNat (if sx then imm.signExtend 32 else imm.setWidth 32) 0 })) ∧
    (∀ k sx imm, Answers (.setm e ix k sx imm) s (OnlyEngine s e
      { x with m := x.m.set k.toNat (if sx then imm.signExtend 32 else imm.setWidth 32) 0 })) ∧
    (∀ k n, x.rp n.toNat = false →
      Answers (.movd e ix 0 k n) s (OnlyEngine s e { x with a := x.a.set k.toNat ((x.rd n.toNat).setWidth 32) 0 }) ∧
      Answers (.movd e ix 1 k n) s (OnlyEngine s e { x with o := x.o.set k.toNat ((x.rd n.toNat).setWidth 32) 0 }) ∧
      Answers (.movd e ix 2 k n) s (OnlyEngine s e { x with m := x.m.set k.toNat ((x.rd n.toNat).setWidth 32) 0 })) ∧
    (∀ k j, Answers (.adva e ix k j) s (OnlyEngine s e
      { x with a := x.a.set k.toNat (postModify (x.ra k.toNat) (x.ro j.toNat) (x.rm k.toNat)) 0 })) ∧
    (∀ k n cc imm, n.toNat < 6 → Answers (.cmpa e ix k n cc true imm) s (OnlyEngine s e
      { x with flags := setFlag x.flags n.toNat (cmpU cc (x.ra k.toNat) (imm.setWidth 32)) })) ∧
    (∀ k n cc, n.toNat < 6 → Answers (.cmpa e ix k n cc false 0) s (OnlyEngine s e
      { x with flags := setFlag x.flags n.toNat (cmpU cc (x.ra k.toNat) (x.rm k.toNat)) })) ∧
    (∀ k imm, Answers (.adda e ix k imm) s (OnlyEngine s e
      { x with a := x.a.set k.toNat (x.ra k.toNat + imm.signExtend 32) 0 }))

/-- R58, R91: in analysis mode an AOUT that stores writes its word of the engine's own slice, poison included, and one that loads
takes that word; every other word of every slice keeps its content, but for the region that the background test gives back
(R169). -/
def Obligations.LoadsAndStoresReachOneWordOfTheSlice : Prop :=
  ∀ (s : State) (e : Fin 256) (ix : BAddr) (k j : BitVec 3) (p : Bool) (n : BitVec 4), s.Analyses e →
    let x := s.eng e
    let a := (s.scrambleAt e k.toNat (x.ra k.toNat)).toNat
    a < 131072 → s.portAError e = false →
    Answers (.aout e ix k j p 2 n) s (fun t =>
      t.cell e a = store64 (x.rd n.toNat) (x.rp n.toNat) ∧
      (∀ m w : Nat, w < 131072 → ¬ (m = e.val ∧ (w = a ∨ (3 ≤ s.bgtCode e ∧ w / 4 = s.fld F.SLC_BGT_CURSOR e))) →
        t.cell m w = s.cell m w) ∧
      t.eng e = { x with ao := s.scrambleAt e k.toNat (x.ra k.toNat),
                         a := if p then x.a else x.a.set k.toNat (postModify (x.ra k.toNat) (x.ro j.toNat) (x.rm k.toNat)) 0 } ∧
      (∀ m : Nat, m ≠ e.val → t.eng m = s.eng m)) ∧
    Answers (.aout e ix k j p 1 n) s (fun t =>
      (∃ q, (t.eng e).loads = x.loads ++ [q] ∧ q.reg = n ∧ q.data = (decode64 (t.cell e a)).data ∧
        q.poison = (decode64 (t.cell e a)).poison) ∧
      (∀ m w : Nat, w < 131072 → ¬ (m = e.val ∧ 3 ≤ s.bgtCode e ∧ w / 4 = s.fld F.SLC_BGT_CURSOR e) → t.cell m w = s.cell m w) ∧
      (t.eng e).d = x.d ∧ (t.eng e).ao = s.scrambleAt e k.toNat (x.ra k.toNat) ∧ (∀ m : Nat, m ≠ e.val → t.eng m = s.eng m))

/-- R56: with a limit register of zero, post-modification wraps an address register modulo 2^32; with another limit it corrects
the sum once, as the pseudocode of R55 writes it, so a register that starts below the limit and moves by no more than the limit
stays below it. ADVA and AOUT with P = 0 alike. -/
def Obligations.PostModificationWrapsAtTheLimit : Prop :=
  ∀ (s : State) (e : Fin 256) (ix : BAddr) (k j : BitVec 3) (n : BitVec 4), s.Executes e →
    let a := (s.eng e).ra k.toNat
    let o := (s.eng e).ro j.toNat
    let m := (s.eng e).rm k.toNat
    let sum : Int := (a.toNat : Int) + o.toInt
    ∀ c ∈ [Instr.adva e ix k j, Instr.aout e ix k j false 0 n], Answers c s (fun t =>
      let b := (t.eng e).ra k.toNat
      (m = 0 → b = a + o) ∧
      (m ≠ 0 → b = BitVec.ofInt 32
        (if (m.toNat : Int) ≤ sum then sum - m.toNat else if sum < 0 then sum + m.toNat else sum)) ∧
      (m ≠ 0 → a.toNat < m.toNat → o.toInt ≤ m.toNat → -(m.toNat : Int) ≤ o.toInt → b.toNat < m.toNat))

/-- R83, R86, R90, R93, R96, R99: a bundle's slots hold their operations, and each decodes to the operation it was encoded from,
with every operand, where the operation's values are not invalid. -/
def Obligations.BundleSlotsDecodeAsEncoded : Prop :=
  ∀ (f : FlowOp) (a : AgenOp) (d : DgenOp) (m : MacOp) (p : PinOp),
    let b := encodeBundle f a d m p
    decodeFlow (flowBits b) = some f ∧
    (a.ok = true → decodeAgen (agenBits b) = some a) ∧
    (d.ok = true → decodeDgen (dgenSlotBits b) = some d) ∧
    (m.ok = true → decodeMac (macBits b) = some m) ∧
    (p.ok = true → decodePin (pinBits b) = some p)

/-- R84: whatever a slot decodes to encodes to the slot again: no bit that the encoding shows as "—" is ignored, and no
reserved opcode or invalid value is taken for an operation. -/
def Obligations.DecodedSlotsEncodeBack : Prop :=
  (∀ (b : BitVec 32) (f : FlowOp), decodeFlow b = some f → encodeFlow f = b) ∧
  (∀ (b : BitVec 24) (a : AgenOp), decodeAgen b = some a → encodeAgen a = b ∧ a.ok = true) ∧
  (∀ (b : BitVec 24) (d : DgenOp), decodeDgen b = some d → encodeDgen d = b ∧ d.ok = true) ∧
  (∀ (b : BitVec 24) (m : MacOp), decodeMac b = some m → encodeMac m = b ∧ m.ok = true) ∧
  (∀ (b : BitVec 24) (p : PinOp), decodePin b = some p → encodePin p = b ∧ p.ok = true)

/-- R7, R10: a master's write of a register whose fields have shadows changes the shadow bits that the register table names,
and no working value; the master is answered OK. -/
def Obligations.WritesOfShadowedFieldsWaitForTheCommit : Prop :=
  ∀ (s : State) (mid : MasterId) (a : Addr) (v : Word) (r : RegId) (i j k : Nat),
    s.ReachesReg mid r i true → regionAt a.toNat = some (regRegion r i) → a.toNat % 8 = 0 →
    ctlItem a.toNat = some (.reg r i j k) → isShadowed r = true → r ≠ .NOC_CFG →
    let m := BitVec.ofNat 64 r.desc.rws
    exec (.registerWrite mid none a v) s =
      .next ((s.setShadow r ((s.shadowReg r i j k &&& ~~~ m) ||| (v &&& m)) i j k).noteRsp mid .ok [])

/-- R7, R26, R32, R278, R493: what a master's write or read of a control-space word does before a register is reached, and what
an access of a register without a rule of its own does: a write sets the RW bits and clears the W1C bits that it writes as 1 (TB_MTIMECMP, CE_STATUS);
RC_READ of any register with RC fields returns its value and clears exactly those fields, except an inspect read, which clears nothing.
SMP_CLAIM, whose RC read claims a slot (R199), has a statement of its own. -/
def Obligations.RegisterAccessesFollowTheAccessTypes : Prop :=
  ∀ (s : State) (mid : MasterId) (a : Addr) (v : Word), s.masterLive mid = true →
    (regionAt a.toNat = none →
      exec (.registerWrite mid none a v) s = .next (s.noteRsp mid .eaddr []) ∧
      exec (.rcRead mid none a) s = .next (s.noteRsp mid .eaddr [(0, false)])) ∧
    (∀ g, regionAt a.toNat = some g → a.toNat % 8 ≠ 0 →
      exec (.registerWrite mid none a v) s = .next (s.noteRsp mid .enarrow []) ∧
      exec (.rcRead mid none a) s = .next (s.noteRsp mid .enarrow [(0, false)])) ∧
    (∀ g d, regionAt a.toNat = some g → a.toNat % 8 = 0 → g.domain = some d → (s.domOn d = false ∨ s.fenced d = true) →
      exec (.registerWrite mid none a v) s = .next (s.noteRsp mid .easleep []) ∧
      exec (.rcRead mid none a) s = .next (s.noteRsp mid .easleep [(0, false)])) ∧
    (∀ g, regionAt a.toNat = some g → a.toNat % 8 = 0 → (∀ d, g.domain = some d → s.domOn d = true ∧ s.fenced d = false) →
      (s.right mid.toNat (rightsRegion g a.toNat 1) true = false → exec (.registerWrite mid none a v) s = .next (s.noteRsp mid .edeny [])) ∧
      (s.right mid.toNat (rightsRegion g a.toNat 1) false = false → exec (.rcRead mid none a) s = .next (s.noteRsp mid .edeny [(0, false)]))) ∧
    (∀ k : Nat, s.Reaches mid (.block .TB 0) true → ctlItem a.toNat = some (.reg .TB_MTIMECMP 0 k 0) → a.toNat % 8 = 0 →
      regionAt a.toNat = some (.block .TB 0) →
      exec (.registerWrite mid none a v) s = .next ((s.setReg .TB_MTIMECMP v 0 k).noteRsp mid .ok [])) ∧
    (∀ e : Nat, s.Reaches mid (.block .CE e) true → ctlItem a.toNat = some (.reg .CE_STATUS e 0 0) → a.toNat % 8 = 0 →
      regionAt a.toNat = some (.block .CE e) →
      exec (.registerWrite mid none a v) s =
        .next ((s.setReg .CE_STATUS (s.reg .CE_STATUS e &&& ~~~ (v &&& 0x3F0#64)) e).noteRsp mid .ok [])) ∧
    (∀ (r : RegId) (i j k : Nat), r ∈ [RegId.PIN_CNT, .SLC_CNT, .SBK_CNT, .SMP_CNT, .FAB_CNT, .FAB_PCNT, .SCR_CNT, .ARB_CNT, .NOC_CNT,
        .DMC_CNT, .ICE_CNT, .LN_CNT, .SWP_CNT, .ERR_CNT, .DBG_STATUS, .DBG_EWCNT] →
      regionAt a.toNat = some (regRegion r i) → a.toNat % 8 = 0 → ctlItem a.toNat = some (.reg r i j k) →
      (∀ d, (regRegion r i).domain = some d → s.domOn d = true ∧ s.fenced d = false) →
      s.right mid.toNat (rightsRegion (regRegion r i) a.toNat 1) false = true →
      exec (.rcRead mid none a) s = .next
        ((if s.inspects mid then s else s.setReg r (s.reg r i j k &&& ~~~ (BitVec.ofNat 64 r.desc.rc)) i j k).noteRsp mid .ok
          [(if r = .DBG_STATUS then s.dbgStatus else s.reg r i j k, false)]))

/-- R32, R278: a register command of a master without the right to the block is answered EDENY and changes nothing else, and one
to a block whose domain is off is answered EASLEEP. -/
def Obligations.CommandsWithoutTheRightChangeNothing : Prop :=
  ∀ (s : State) (mid : MasterId) (e : Fin 256), s.masterLive mid = true →
    (s.domOn (domCL (e.val / 4)) = false →
      ∀ c ∈ [Instr.arm mid e, .disarm mid e, .analyze mid e, .abort mid e, .clear mid e, .bbinv mid e, .ceCommit mid e,
          .tsetCommit mid e], exec c s = .next (s.noteRsp mid .easleep [])) ∧
    (s.domOn (domCL (e.val / 4)) = true → s.fenced (domCL (e.val / 4)) = false → isEngineMid mid.toNat = true →
      ∀ c ∈ [Instr.arm mid e, .disarm mid e, .analyze mid e, .abort mid e, .clear mid e, .bbinv mid e, .ceCommit mid e,
          .tsetCommit mid e], exec c s = .next (s.noteRsp mid .edeny []))

/-- R47, R67, R69, R71, R81: a command written to CE_CTRL acts in the modes that R67 and R71 give it, and elsewhere sets CTLERR
or ARMERR and nothing else. -/
def Obligations.EngineControlCommandsActInTheirModes : Prop :=
  ∀ (s : State) (mid : MasterId) (e : Fin 256), s.ReachesReg mid .CE_CTRL e true →
    let x := s.eng e
    let apc : BAddr := BitVec.ofNat 16 (s.fld F.CE_PC_APC e)
    let done (t : State) : Host.Outcome State Fault Refusal := .next (t.noteRsp mid .ok [])
    let ctlErr := done (s.raise F.CE_STATUS_CTLERR e)
    (x.mode = .idle → s.gangHeld e = false →
      exec (.bbinv mid e) s = done (s.setEng e { x with buf := {} }) ∧
      exec (.analyze mid e) s = done (s.setEng e
        { x with mode := .analysis, pc := apc, buf := {}, pq := [], pqNext := some apc, fetching := true, ending := .none,
                 s1 := none, ld := 0, cd := 0, leftIdle := true, alone := true, arrived := false, syncDone := false })) ∧
    (x.mode ≠ .idle ∨ s.gangHeld e = true → exec (.bbinv mid e) s = ctlErr ∧ exec (.analyze mid e) s = ctlErr) ∧
    (x.mode = .fault → x.draining = false →
      exec (.clear mid e) s = done ((s.setReg .CE_FAULT 0 e).setEng e { x with mode := .idle, alone := false, clearPend := false }
        |>.forAll (enginePins e) (fun acc p => if (acc.chan p).streamed then acc.takeEop p else acc))) ∧
    (x.mode = .fault → x.draining = true → exec (.clear mid e) s = done (s.setEng e { x with clearPend := true })) ∧
    (x.mode ≠ .fault → exec (.clear mid e) s = ctlErr) ∧
    (s.leader e = e → x.mode ≠ .stream → x.mode ≠ .paused → x.gang.woke = false →
      exec (.disarm mid e) s = done (s.setEng e { x with gang := { x.gang with armed := false, startAt := none } })) ∧
    (s.leader e ≠ e ∨ x.mode = .stream ∨ x.mode = .paused ∨ x.gang.woke = true → exec (.disarm mid e) s = ctlErr) ∧
    (s.leader e = e → x.gang.armed = false →
      (∀ m ∈ s.members e, (s.eng m).mode = .idle ∧ s.fld F.CE_GANG_SIZE m = s.fld F.CE_GANG_SIZE e) →
      exec (.arm mid e) s = done (s.setEng e { x with gang := { x.gang with armed := true, startAt := none, woke := false } })) ∧
    (s.leader e = e → x.gang.armed = false →
      (∃ m ∈ s.members e, (s.eng m).mode ≠ .idle ∨ s.fld F.CE_GANG_SIZE m ≠ s.fld F.CE_GANG_SIZE e) →
      exec (.arm mid e) s = done (s.raise F.CE_STATUS_ARMERR e)) ∧
    (s.leader e ≠ e → exec (.arm mid e) s = ctlErr)

/-- R66, R69, R73: CE_CTRL.ABORT puts a running engine into FAULT with cause ABORT in slot code 5 and itself as the source, and pends
its interrupt; where it runs or is paused in a gang, the fault signal is on its way to the other members. In IDLE it sets CTLERR,
and in FAULT it does nothing. -/
def Obligations.AbortFaultsARunningEngine : Prop :=
  ∀ (s : State) (mid : MasterId) (e : Fin 256), s.ReachesReg mid .CE_CTRL e true →
    let x := s.eng e
    (x.mode = .idle → exec (.abort mid e) s = .next ((s.raise F.CE_STATUS_CTLERR e).noteRsp mid .ok [])) ∧
    (x.mode = .fault → exec (.abort mid e) s = .next (s.noteRsp mid .ok [])) ∧
    (x.mode = .analysis ∨ x.mode = .sync → x.alone = true → x.gangFault = none →
      Answers (.abort mid e) s (fun t =>
        (t.eng e).mode = .fault ∧ (t.eng e).draining = true ∧ (t.eng e).fetching = false ∧
        t.reg .CE_FAULT e = BitVec.ofNat 64 (5 * 2 ^ 32 + x.abortAddr.toNat * 2 ^ 16 + e.val * 2 ^ 8 + 0x0C) ∧
        t.plic.pend.get (512 + e.val) false = true ∧
        (t.eng e).a = x.a ∧ (t.eng e).d = x.d ∧ (t.eng e).acc = x.acc ∧ (t.eng e).l = x.l ∧ (t.eng e).flags = x.flags ∧
        (∀ k : Nat, k ≠ e.val → t.eng k = s.eng k) ∧ t.chans = s.chans ∧ t.slices = s.slices)) ∧
    (let ms := s.members (s.leader e)
     let l := s.eng (s.leader e)
     let i := if x.mode = .stream then l.abortAddr else l.pausedAddr
     x.mode = .stream ∨ x.mode = .paused → x.alone = false → e.val ∈ ms → s.faulting ms = false →
      Answers (.abort mid e) s (fun t =>
        (t.eng e).mode = .fault ∧ (t.eng e).draining = true ∧
        t.reg .CE_FAULT e = BitVec.ofNat 64 (5 * 2 ^ 32 + i.toNat * 2 ^ 16 + e.val * 2 ^ 8 + 0x0C) ∧
        t.plic.pend.get (512 + e.val) false = true ∧
        (∀ m ∈ ms, m ≠ e.val → (t.eng m).gangFault = some (e.val, i) ∧ (t.eng m).mode = (s.eng m).mode) ∧
        (∀ k : Nat, k ∉ ms → t.eng k = s.eng k) ∧ t.chans = s.chans ∧ t.slices = s.slices))

/-- R10, R81: CE_COMMIT.GO gives every RWS field of the engine's block its shadow value together, in IDLE or FAULT outside an
armed or paused gang and with consistent values; else it sets CFGERR and changes nothing. -/
def Obligations.EngineCommitTakesAllShadowsOrNone : Prop :=
  ∀ (s : State) (mid : MasterId) (e : Fin 256), s.ReachesReg mid .CE_COMMIT e true →
    let ok := s.engineQuiet e && !(s.gangHeld e) && !(s.ceInconsistent e)
    (ok = true → Answers (.ceCommit mid e) s (fun t =>
      (∀ r ∈ [RegId.CE_GANG, .CE_PC, .CE_SRC, .CE_SCRCFG, .CE_SCRX, .CE_SCRY], ∀ j : Nat, j < r.desc.n1 →
        t.reg r e j = s.shadowReg r e j) ∧
      (∀ r : RegId, ∀ i j k : Nat, ¬ (0x001804000000 + e.val * 0x10000 ≤ regAddr r i j k ∧
          regAddr r i j k < 0x001804000000 + (e.val + 1) * 0x10000) → t.reg r i j k = s.reg r i j k) ∧
      t = { s with work := t.work, rsps := t.rsps })) ∧
    (ok = false → exec (.ceCommit mid e) s = .next ((s.raise F.CE_STATUS_CFGERR e).noteRsp mid .ok []))

/-- R22, R23, R24, R68, R71, R76, R82, R123: what a write of the START doorbell, the IRQ doorbell and the state window does. -/
def Obligations.EngineLocalWritesStartInterruptAndSetState : Prop :=
  ∀ (s : State) (mid : MasterId) (e : Fin 256), s.Reaches mid (.engine e) true →
    let x := s.eng e
    let done (t : State) : Host.Outcome State Fault Refusal := .next (t.noteRsp mid .ok [])
    (∀ t : Word, x.gang.cmdMid = none →
      let rt := roundUp 4 t.toNat
      let late := s.now + 128 > rt
      let noted (b : Bool) (g : Gang) : Gang :=
        { g with cmdMid := some mid.toNat, cmdTaken := b, cmdLate := s.flag F.CE_STATUS_LATE e }
      (s.leader e ≠ e → exec (.startDoorbell mid e t false) s = done (s.raise F.CE_STATUS_UNARMED e)) ∧
      (s.leader e = e → x.mode ≠ .paused → x.gang.armed = true → x.gang.startAt = none → ¬ late →
        exec (.startDoorbell mid e t false) s =
          done (s.setEng e { x with gang := { noted true x.gang with startAt := some rt } })) ∧
      (s.leader e = e → x.mode ≠ .paused → x.gang.armed = true → x.gang.startAt = none → late →
        exec (.startDoorbell mid e t false) s =
          done ((s.raise F.CE_STATUS_LATE e).setEng e { x with gang := noted false x.gang })) ∧
      (s.leader e = e → x.mode = .paused → x.gang.resumeAt = none → ¬ late → x.gang.pausedEnd ≤ 512 * rt + vecLatency →
        exec (.startDoorbell mid e t false) s =
          done (s.setEng e { x with gang := { noted true x.gang with resumeAt := some rt } })) ∧
      (s.leader e = e → x.mode ≠ .paused → (x.gang.armed = false ∨ x.gang.startAt ≠ none) →
        exec (.startDoorbell mid e t false) s =
          done ((s.raise F.CE_STATUS_UNARMED e).setEng e { x with gang := { x.gang with cmdMid := none } }))) ∧
    (∀ b : Byte, exec (.irqDoorbell mid e b) s =
      done (s.setFld F.CE_INT_PEND ((BitVec.ofNat 8 (s.fld F.CE_INT_PEND e)) ||| b).toNat e)) ∧
    (∀ (v : Word) (p : Bool) (j : Fin 65), s.engineQuiet e = false →
      exec (.engineStateWrite mid e j v p) s = .next (s.noteRsp mid .edeny [])) ∧
    (s.engineQuiet e = true → ∀ v : Word,
      (∀ k : Fin 8, exec (.engineStateWrite mid e ⟨k, by omega⟩ v false) s = done (s.setEng e (x.setA k (v.setWidth 32))) ∧
        exec (.engineStateWrite mid e ⟨8 + k, by omega⟩ v false) s = done (s.setEng e (x.setO k (v.setWidth 32))) ∧
        exec (.engineStateWrite mid e ⟨16 + k, by omega⟩ v false) s = done (s.setEng e (x.setM k (v.setWidth 32)))) ∧
      (∀ (k : Fin 16) (p : Bool),
        exec (.engineStateWrite mid e ⟨24 + k, by omega⟩ v p) s = done (s.setEng e (x.setD k v p))) ∧
      (∀ k : Fin 4, exec (.engineStateWrite mid e ⟨40 + k, by omega⟩ v false) s = done (s.setEng e (x.setAcc k (v.setWidth 48))) ∧
        exec (.engineStateWrite mid e ⟨44 + k, by omega⟩ v false) s = done (s.setEng e (x.setG k v)) ∧
        exec (.engineStateWrite mid e ⟨48 + k, by omega⟩ v false) s = done (s.setEng e (x.setPw k v))) ∧
      (∀ k : Fin 9, exec (.engineStateWrite mid e ⟨52 + k, by omega⟩ v false) s = done (s.setEng e (x.setLoopWord k v))) ∧
      (badDepth v ≠ none → exec (.engineStateWrite mid e 61 v false) s = done (s.raise F.CE_STATUS_CTLERR e)) ∧
      (badDepth v = none → exec (.engineStateWrite mid e 61 v false) s =
        done (s.setEng e { x with ld := (v.extractLsb' 0 4).toNat, cd := (v.extractLsb' 4 3).toNat })) ∧
      exec (.engineStateWrite mid e 62 v false) s =
        done (s.setEng e { x with pc := v.extractLsb' 0 16, flags := v.extractLsb' 16 8 }) ∧
      exec (.engineStateWrite mid e 63 v false) s = done (s.setEng e { x with ao := v.setWidth 32 }) ∧
      (∀ p : Bool, exec (.engineStateWrite mid e 64 v p) s = done (s.setEng e { x with dout := v, doutP := p })) ∧
      (∀ j : Fin 65, holdsPoison (0x3000 + 8 * j.val) = false →
        exec (.engineStateWrite mid e j v true) s = .next (s.noteRsp mid .epoison [])))

/-- R41, R49, R61, R72, R73, R74, R76, R77: the events of an engine alone: the wake of a gang, a load's data, the fault signal of
the gang, the sets of f6 and f7, the barrier, and the acceptance of an interrupt. -/
def Obligations.EngineEventsTakeEffect : Prop :=
  ∀ (s : State) (e : Fin 256), s.live (domCL (e.val / 4)) = true →
    let x := s.eng e
    (∀ t : Nat, x.gang.startAt = some t → x.gang.armed = true → x.gang.woke = false → s.leader e = e →
      Answers (.gangWake e) s (fun t' =>
        (t'.eng e).gang = { x.gang with woke := true } ∧ (t'.eng e).fetching = true ∧
        (t'.eng e).pc = BitVec.ofNat 16 (s.fld F.CE_PC_SPC e) ∧ (t'.eng e).pqNext = some (BitVec.ofNat 16 (s.fld F.CE_PC_SPC e)) ∧
        (∀ m ∈ s.members e, (t'.eng m).buf = {} ∧ (t'.eng m).pipeEmpty = true ∧ (t'.eng m).mode = (s.eng m).mode) ∧
        (∀ m : Nat, m ∉ s.members e → t'.eng m = s.eng m) ∧
        t' = { s with engines := t'.engines, time := t'.time })) ∧
    (∀ (l : LoadReq) (ls : List LoadReq), x.loads = l :: ls → x.loadDue = true → x.ending ≠ .reti →
      Answers (.loadReturn e) s (OnlyEngine s e
        { x with d := x.d.set l.reg.toNat l.data 0, dp := x.dp.set l.reg.toNat l.poison false, loads := ls })) ∧
    (∀ (src : Nat) (i : BAddr), x.gangFault = some (src, i) →
      Answers (.gangFault e) s (fun t => (t.eng e).mode = .fault ∧ (t.eng e).draining = true ∧ (t.eng e).gangFault = none ∧
        t.reg .CE_FAULT e = BitVec.ofNat 64 (5 * 2 ^ 32 + i.toNat * 2 ^ 16 + src * 2 ^ 8 + 0x0B) ∧
        (∀ m : Nat, m ≠ e.val → t.eng m = s.eng m))) ∧
    Answers (.failFlagSet e) s (OnlyEngine s e
      { x with f6Due := false, f7Due := false,
               flags := setFlags x.flags
                 ((if x.f6Due then [(6#3, true)] else []) ++ (if x.f7Due then [(7#3, true)] else [])) }) ∧
    (let ms := (s.gangOf e).filter (fun m => (s.eng m).mode == .analysis || (s.eng m).mode == .sync)
     (∀ m ∈ ms, (s.eng m).arrived = true) →
      Answers (.syncRelease e) s (fun t =>
        (∀ m ∈ ms, t.eng m = { s.eng m with
          arrived := false, mode := .analysis, syncDone := (s.eng m).mode == .sync || (s.eng m).syncDone }) ∧
        (∀ m : Nat, m ∉ ms → t.eng m = s.eng m) ∧ t = { s with engines := t.engines })) ∧
    (∀ k : Nat, s.lowestIrq e = some k → s.flag F.CE_INT_IE e = true → x.ending = .none → x.loads = [] → x.restl = none →
      x.s3 = none → x.s4 = none → x.s5 = none → x.s6 = none →
      ((x.mode = .analysis ∧ x.s1.isSome = true ∧ x.s2 = none) ∨
        (x.mode = .sync ∧ ∃ b, x.s2 = some b ∧ b.flow = .sync ∧ s.gangSize e ≠ 1 ∧ x.syncDone = false ∧ b.agen = .nop ∧ b.dgenOp = .nop ∧
          b.macOp = .nop ∧ s.s2Fault e x false true b none = none)) →
      Answers (.interruptEntry e) s (fun t =>
        t.fld F.CE_INT_IPC e = (match x.s1 with | some b => b.addr | none => x.pc).toNat ∧ (x.mode = .sync → (t.eng e).arrived = true) ∧
        (t.eng e).pipeEmpty = true ∧ t.fld F.CE_INT_IFLAGS e = x.flags.toNat ∧ t.fld F.CE_INT_ICAUSE e = k ∧
        t.fld F.CE_INT_IE e = 0 ∧ t.fld F.CE_INT_PEND e = s.fld F.CE_INT_PEND e - 2 ^ k ∧
        (t.eng e).mode = .analysis ∧ (t.eng e).pc = BitVec.ofNat 16 (s.fld F.CE_PC_IVEC e + 8 * k) ∧
        (t.eng e).fetching = true ∧ (∀ m : Nat, m ≠ e.val → t.eng m = s.eng m)))

/-- R38, R39, R44, R46, R54, R67, R72, R80, R101, R125, R126, R148: the steps of a program of an engine: the pipeline, the
prefetch, the end of a program, the safe state, the end-of-pattern state, and the completion of RESTL. -/
def Obligations.ProgramEventsMoveTheEngineOn : Prop :=
  ∀ (s : State) (e : Fin 256), s.live (domCL (e.val / 4)) = true →
    let x := s.eng e
    (∀ b1 : Stage, x.alone = true → x.mode = .analysis → x.ending ≠ .reti → x.s1 = some b1 →
      (∀ b, x.s2 = some b → b.flow = .nop) → x.loadWait = false → s.stepFault e [e.val] false = none →
      Answers (.pipelineStep e) s (fun t =>
        (t.eng e).s1 = none ∧ (t.eng e).s2 = some b1 ∧ (t.eng e).s3 = x.s2 ∧
        (t.eng e).s4.map (·.addr) = x.s3.map (·.addr) ∧ (t.eng e).s5.map (·.addr) = x.s4.map (·.addr) ∧
        (t.eng e).s6 = x.s5 ∧ (t.eng e).pc = (x.loopEnd b1.addr).1 ∧ (t.eng e).ld = (x.loopEnd b1.addr).2.ld ∧
        (t.eng e).acc = (match x.s6 with | some b => (x.applyMac b.mac).acc | none => x.acc) ∧
        (t.eng e).a = (match x.s3 with | some b => (x.applyAgen (s.latchS3 e x b).2).a | none => x.a) ∧
        (t.eng e).mode = .analysis ∧ (∀ m : Nat, m ≠ e.val → t.eng m = s.eng m) ∧ t.chans = s.chans)) ∧
    (x.alone = false → s.leader e ≠ e → Answers (.pipelineStep e) s (fun t => t = s)) ∧
    (∀ a : BAddr, x.pqNext = some a → x.fetching = true → x.mode ≠ .paused → x.pq.length + 2 ≤ 16 →
      Answers (.prefetchReturn e) s (fun t =>
        let n := if a.toNat % 2 = 0 then 2 else 1
        (t.eng e).pqNext = some (a + BitVec.ofNat 16 n) ∧
        (∃ q, (t.eng e).pq = x.pq ++ q ∧ q.map (·.addr) = (List.range n).map (fun k => a + BitVec.ofNat 16 k) ∧
          q.map (·.ok) = (List.range n).map (fun _ => !(s.portAError e))) ∧
        (∀ m : Nat, m ≠ e.val → t.eng m = s.eng m))) ∧
    (x.alone = true → x.ending = .halt → x.pipeEmpty = true → x.mode = .analysis →
      Answers (.programEnd e) s (fun t =>
        t.eng e = { x with mode := .idle, alone := false, ending := .none, arrived := false } ∧
        t.plic.pend.get (512 + e.val) false = true ∧ (∀ m : Nat, m ≠ e.val → t.eng m = s.eng m) ∧
        t = { s with engines := t.engines, plic := t.plic })) ∧
    (x.alone = false → s.leader e = e → x.mode = .stream → x.pipeEmpty = true → s.faulting (s.members e) = false →
      x.ending = .halt →
      Answers (.programEnd e) s (fun t =>
        (∀ m ∈ s.members e, (t.eng m).mode = .idle ∧ t.plic.pend.get (512 + m) false = true) ∧
        (t.eng e).gang.eopAt = some (s.eopInstant e) ∧ (∀ m : Nat, m ∉ s.members e → t.eng m = s.eng m) ∧ t.chans = s.chans)) ∧
    (x.alone = false → s.leader e = e → x.mode = .stream → x.pipeEmpty = true → s.faulting (s.members e) = false →
      x.ending = .enta →
      Answers (.programEnd e) s (fun t =>
        (∀ m ∈ s.members e, (t.eng m).mode = .analysis ∧ (t.eng m).alone = true ∧ (t.eng m).ld = 0 ∧ (t.eng m).cd = 0 ∧
          (t.eng m).pc = BitVec.ofNat 16 (s.fld F.CE_PC_APC m)) ∧
        (t.eng e).gang.eopAt = some (s.eopInstant e) ∧ (∀ m : Nat, m ∉ s.members e → t.eng m = s.eng m) ∧ t.chans = s.chans)) ∧
    (∀ at' : Nat, x.gang.eopAt = some at' → (∀ p ∈ s.gangPins e, (s.chan p).nothingBefore at' = true) →
      Answers (.endOfPatternState e) s (fun t =>
        (∀ p ∈ s.gangPins e, t.chan p =
          if s.eopReaches p then { eopApply (s.fld F.PIN_CFG_EOP p) (s.chan p) with eopOn := true } else s.chan p) ∧
        (∀ p, p ∉ s.gangPins e → t.chan p = s.chan p) ∧ (t.eng e).gang = { x.gang with eopAt := none })) ∧
    (let ms := s.partsOf e
     (∀ m ∈ ms, (s.eng m).mode = .fault ∧ (s.eng m).draining = true ∧ (s.eng m).pipeEmpty = true ∧ (s.eng m).clearPend = false ∧
        ∀ p ∈ enginePins m, (s.chan p).quiet = true) →
      Answers (.safeState e) s (fun t =>
        (∀ m ∈ ms, t.eng m = { s.eng m with draining := false } ∧
          ∀ p ∈ enginePins m, t.chan p = { s.chan p with pdrv := false, pden := false, eopOn := false }) ∧
        (∀ m : Nat, m ∉ ms → t.eng m = s.eng m ∧ ∀ p ∈ enginePins m, t.chan p = s.chan p) ∧
        t = { s with engines := t.engines, chans := t.chans })) ∧
    (∀ (r : RestlWait) (ws : List (Word × Bool)), x.restl = some r → r.words = some ws → x.loadWait = false →
      s.stageFault e e false 6 = none → s.stageFault e e false 3 = none →
      ws.any (·.2) = false → badDepth (ws.getD 9 (0, false)).1 = none →
      Answers (.restlComplete e) s (fun t =>
        (t.eng e).restl = none ∧ (t.eng e).restlDone = true ∧ (t.eng e).s1 = none ∧
        (∀ w : Nat, w < 8 →
          (t.eng e).rstart w = (ws.getD w (0, false)).1.extractLsb' 0 16 ∧
          (t.eng e).rend w = (ws.getD w (0, false)).1.extractLsb' 16 16 ∧
          (t.eng e).rl w = (ws.getD w (0, false)).1.extractLsb' 32 24) ∧
        (∀ w : Nat, w < 4 → (t.eng e).rcs w = (ws.getD 8 (0, false)).1.extractLsb' (16 * w) 16) ∧
        (t.eng e).ld = ((ws.getD 9 (0, false)).1.extractLsb' 0 4).toNat ∧
        (t.eng e).cd = ((ws.getD 9 (0, false)).1.extractLsb' 4 3).toNat ∧
        (t.eng e).a = x.a ∧ (t.eng e).d = x.d ∧ (∀ m : Nat, m ≠ e.val → t.eng m = s.eng m)))

/-- R22, R67, R68, R72, R105, R122, R123, R148: a gang's start and resume, and the fail capture unit's pause, with no fault in the step.
A start leaves the armed state, begins a run at the accepted start time with its first vector, and puts every member into STREAM, or
into a pause where that vector is a pause vector; a resume goes on at its own time; a pause that the FCU asked for puts every member
into a pause behind the vector that leaves S6, unless that is the program's last. Without an accepted time, or a request, nothing
happens. -/
def Obligations.GangsStartResumeAndPauseTogether : Prop :=
  ∀ (s : State) (e : Fin 256), s.live (domCL (e.val / 4)) = true → s.leader e = e →
    let x := s.eng e
    let ms := s.members e
    let fc := (fcuOf e).1
    let fi := (fcuOf e).2
    let steps : Prop := (x.s1.isSome = true ∨ x.fetching = false) ∧ s.stepFault e ms true = none
    let period (b : Stage) : Nat := s.fld F.TSET_PER_PERIOD e b.pin.ts.toNat
    (∀ (at' : Nat) (b : Stage), x.gang.startAt = some at' → x.gang.armed = true → x.gang.woke = true → x.mode = .idle →
      x.s6 = some b → steps →
      Answers (.gangStart e) s (fun t =>
        (∀ m ∈ ms, ((t.eng m).mode = .stream ∨ (t.eng m).mode = .paused) ∧ (b.pin.mode ≠ 1 → (t.eng m).mode = .stream)) ∧
        (t.eng e).gang.armed = false ∧ (t.eng e).gang.startAt = none ∧ (t.eng e).gang.run = x.gang.run + 1 ∧
        (t.eng e).gang.vidx = 1 ∧ (t.eng e).gang.nextV = 512 * at' + vecLatency + period b ∧
        t.flag F.FCU_GSTAT_CNTONLY fc fi = false ∧ (∀ m : Nat, m ∉ ms → t.eng m = s.eng m))) ∧
    (∀ at' : Nat, x.gang.startAt = none → x.gang.resumeAt = some at' → x.mode = .paused →
      ((s.fcu fc).slot fi).held = [] → steps →
      Answers (.gangStart e) s (fun t =>
        (∀ m ∈ ms, ((t.eng m).mode = .stream ∨ (t.eng m).mode = .paused) ∧
          ((∀ b, x.s6 = some b → b.pin.mode ≠ 1) → (t.eng m).mode = .stream)) ∧
        (t.eng e).gang.resumeAt = none ∧ (t.eng e).gang.run = x.gang.run + 1 ∧
        (t.eng e).gang.nextV = 512 * at' + vecLatency + (match x.s6 with | some b => period b | none => 0) ∧
        (t.eng e).gang.vidx = x.gang.vidx + (if x.s6.isSome then 1 else 0) ∧ (∀ m : Nat, m ∉ ms → t.eng m = s.eng m))) ∧
    (∀ b : Stage, x.mode = .stream → x.alone = false → x.s6 = some b → s.faulting ms = false →
      ((s.fcu fc).slot fi).reqs ≠ [] → steps →
      (x.ending = .none →
        Answers (.fcuPause e) s (fun t =>
          (∀ m ∈ ms, (t.eng m).mode = .paused) ∧ t.flag F.FCU_GSTAT_PAUSED fc fi = true ∧
          t.fld F.FCU_GSTAT_PREASON fc fi = stopReason ((s.fcu fc).slot fi).reqs ∧ t.plic.pend.get (189 + fc) false = true ∧
          (t.eng e).gang.vidx = x.gang.vidx + 1 ∧ (t.eng e).gang.nextV = x.gang.nextV + period b ∧
          (∀ m : Nat, m ∉ ms → t.eng m = s.eng m))) ∧
      (x.ending = .halt → x.s1 = none → x.s2 = none → x.s3 = none → x.s4 = none → x.s5 = none →
        Answers (.fcuPause e) s (fun t =>
          (∀ m ∈ ms, (t.eng m).mode = (s.eng m).mode) ∧ t.flag F.FCU_GSTAT_PAUSED fc fi = s.flag F.FCU_GSTAT_PAUSED fc fi ∧
          (t.eng e).gang.vidx = x.gang.vidx + 1))) ∧
    (x.gang.startAt = none → x.gang.resumeAt = none → Answers (.gangStart e) s (fun t => t = s)) ∧
    (((s.fcu fc).slot fi).reqs = [] → Answers (.fcuPause e) s (fun t => t = s))

/-- R59, R60, R61, R93, R94, R95: the DGEN operations of an engine that executes bundles write d[DST], DO and the generator
that they name, with the poison of the registers that they read; nothing else changes. -/
def Obligations.DataOperationsWriteTheirDestinations : Prop :=
  ∀ (s : State) (e : Fin 256) (ix : BAddr), s.Executes e →
    let x := s.eng e
    let d (k : BitVec 4) : Word := x.rd k.toNat
    let p (k : BitVec 4) : Bool := x.rp k.toNat
    let put (w : DDest) (y : Engine) (v : Word) (q : Bool) : Engine :=
      let y := if w.wr then y.setD w.dst.toNat v q else y
      if w.wo then { y with dout := v, doutP := q } else y
    let gives (c : Instr) (w : DDest) (v : Word) (q : Bool) : Prop := Answers c s (OnlyEngine s e (put w x v q))
    Answers (.dnop e ix) s (OnlyEngine s e x) ∧
    (∀ w sa, gives (.mov e ix w sa) w (d sa) (p sa) ∧ gives (.not e ix w sa) w (~~~ (d sa)) (p sa)) ∧
    (∀ w sa sb,
      gives (.and e ix w sa sb) w (d sa &&& d sb) (p sa || p sb) ∧ gives (.or e ix w sa sb) w (d sa ||| d sb) (p sa || p sb) ∧
      gives (.xor e ix w sa sb) w (d sa ^^^ d sb) (p sa || p sb) ∧ gives (.add e ix w sa sb) w (d sa + d sb) (p sa || p sb) ∧
      gives (.sub e ix w sa sb) w (d sa - d sb) (p sa || p sb) ∧
      gives (.topo e ix w sa sb) w
        (if parity (x.ao &&& (d sb).setWidth 32) then ~~~ (d sa) else d sa) (p sa || p sb)) ∧
    (∀ w sa sh, gives (.shl e ix w sa sh) w (d sa <<< sh.toNat) (p sa) ∧
      gives (.shr e ix w sa sh) w (d sa >>> sh.toNat) (p sa) ∧ gives (.rol e ix w sa sh) w ((d sa).rotateLeft sh.toNat) (p sa)) ∧
    (∀ w imm, gives (.ldi e ix w imm) w (imm.signExtend 64) false ∧
      gives (.cat e ix w imm) w ((d w.dst <<< 13) ||| imm.setWidth 64) (p w.dst)) ∧
    (∀ w, gives (.movao e ix w) w (x.ao.setWidth 64) false) ∧
    (∀ w sa g, gives (.pxor e ix w sa g) w (d sa ^^^ x.rpw g.toNat) (p sa)) ∧
    (∀ w sa wd q, (wd = true ∨ q.toNat ≤ 1) → gives (.unpk e ix w sa wd q) w (unpack (d sa) wd q.toNat) (p sa)) ∧
    (∀ w sa g, p sa = false → Answers (.pseed e ix w sa g) s (OnlyEngine s e
      { put w x (d sa) false with g := x.g.set g.toNat (prbsSeed g.toNat (d sa)) (prbsOnes g.toNat) })) ∧
    (∀ w g (n : BitVec 7), 1 ≤ n.toNat → n.toNat ≤ 64 →
      let r := prbsAdvance g.toNat n.toNat (x.rg g.toNat) (x.rpw g.toNat)
      Answers (.padv e ix w g n) s (OnlyEngine s e
        { put w x r.2 false with g := x.g.set g.toNat r.1 (prbsOnes g.toNat), pw := x.pw.set g.toNat r.2 0 })) ∧
    (∀ sa sb n cc, n.toNat < 6 → p sa = false → p sb = false →
      Answers (.cmpd e ix sa sb n cc) s (OnlyEngine s e { x with flags := setFlag x.flags n.toNat (cmpU cc (d sa) (d sb)) }))

/-- R60: the generators follow their taps. PADV by n bits takes n steps, each with the new bit of the generator's two taps
shifted into the state truncated to the generator's width, and shifts the bits into PWg with the first one lowest; by no bits it
changes nothing. A state write of all zeros, by PSEED or through the state window (R82), loads all ones. -/
def Obligations.GeneratorsFollowTheirTaps : Prop :=
  let width : BitVec 2 → Nat := fun g => [7, 15, 23, 31].getD g.toNat 31
  let hi : BitVec 2 → Nat := fun g => [6, 14, 22, 30].getD g.toNat 30
  let lo : BitVec 2 → Nat := fun g => [5, 13, 17, 27].getD g.toNat 27
  ∀ (s : State) (e : Fin 256) (g : BitVec 2),
    let x := s.eng e
    (∀ (ix : BAddr) (w : DDest), s.Executes e →
      (∀ n : BitVec 7, 1 ≤ n.toNat → n.toNat ≤ 64 → Answers (.padv e ix w g n) s (fun t =>
        ∃ (st : Nat → BitVec 31) (b : Nat → Bool) (new : Word), st 0 = x.rg g.toNat ∧
          (∀ i : Nat, i < n.toNat → b i = xor ((st i).getLsbD (hi g)) ((st i).getLsbD (lo g)) ∧
            (st (i + 1)).toNat = (2 * (st i).toNat + (b i).toNat) % 2 ^ width g) ∧
          (∀ i : Nat, new.getLsbD i = (decide (i < n.toNat) && b i)) ∧
          (t.eng e).rg g.toNat = st n.toNat ∧ (t.eng e).rpw g.toNat = ((x.rpw g.toNat) <<< n.toNat) ||| new)) ∧
      Answers (.padv e ix w g 0) s (fun t => (t.eng e).g = x.g ∧ (t.eng e).pw = x.pw) ∧
      (∀ sa : BitVec 4, x.rp sa.toNat = false → (x.rd sa.toNat).toNat % 2 ^ width g = 0 →
        Answers (.pseed e ix w sa g) s (fun t =>
          (t.eng e).rg g.toNat = BitVec.ofNat 31 (2 ^ width g - 1) ∧ (t.eng e).pw = x.pw))) ∧
    (∀ (mid : MasterId) (v : Word), s.Reaches mid (.engine e) true → s.engineQuiet e = true → v.toNat % 2 ^ width g = 0 →
      Answers (.engineStateWrite mid e ⟨44 + g.toNat, by omega⟩ v false) s (fun t =>
        (t.eng e).rg g.toNat = BitVec.ofNat 31 (2 ^ width g - 1) ∧ (t.eng e).pw = x.pw))

/-- R62, R63, R96, R97, R98: the MAC operations of an engine that executes bundles write the accumulators that their mask
enables, with the clamp of saturating modes noted in CE_STATUS.MACSAT, a data register, or a flag; nothing else changes. -/
def Obligations.MacOperationsAccumulateUnderTheirMask : Prop :=
  ∀ (s : State) (e : Fin 256) (ix : BAddr), s.Executes e →
    let x := s.eng e
    let run (sub : Bool) (mask : BitVec 4) (mode : BitVec 2) (j : BitVec 3) (b : BitVec 18) (k : Nat) : Word48 × Bool :=
      macAccum sub (mode.getLsbD 1) (mode.getLsbD 0) (x.racc k) (macA (x.rd (2 * j.toNat)) (x.rd (2 * j.toNat + 1)) k) b
    let acted (c : Instr) (sub : Bool) (mask : BitVec 4) (mode : BitVec 2) (j : BitVec 3) (b : BitVec 18) (fl : Byte) : Prop :=
      Answers c s (fun t =>
        (∀ k : Nat, k < 4 → (t.eng e).racc k = if mask.getLsbD k then (run sub mask mode j b k).1 else x.racc k) ∧
        t.eng e = { x with acc := (t.eng e).acc, flags := fl } ∧ (∀ m : Nat, m ≠ e.val → t.eng m = s.eng m) ∧
        t.reg .CE_STATUS e = (if (List.range 4).any (fun k => mask.getLsbD k && (run sub mask mode j b k).2)
          then putFld F.CE_STATUS_MACSAT 1 (s.reg .CE_STATUS e) else s.reg .CE_STATUS e) ∧
        t = { s with engines := t.engines, regs := t.regs })
    Answers (.mnop e ix) s (OnlyEngine s e x) ∧
    (∀ mask mode j k n rf, (MacOp.macc mask mode j k false n rf).ok = true →
      ((MacOp.macc mask mode j k false n rf).consumes.any x.rp) = false →
      acted (.macc e ix mask mode j k false n rf) false mask mode j ((x.rd k.toNat).setWidth 18) x.flags ∧
      acted (.msub e ix mask mode j k false n rf) true mask mode j ((x.rd k.toNat).setWidth 18) x.flags) ∧
    (∀ mask mode j k n rf, (MacOp.macc mask mode j k true n rf).ok = true →
      ((MacOp.macc mask mode j k true n rf).consumes.any x.rp) = false →
      let low := ((List.range 4).filter (fun i => mask.getLsbD i)).headD 0
      let fl := setFlag x.flags n.toNat (cmp48 (mode.getLsbD 1) 3 (x.racc low) ((x.rd (8 + rf.toNat)).setWidth 48))
      acted (.macc e ix mask mode j k true n rf) false mask mode j ((x.rd k.toNat).setWidth 18) fl ∧
      acted (.msub e ix mask mode j k true n rf) true mask mode j ((x.rd k.toNat).setWidth 18) fl) ∧
    (∀ mask mode j imm, ((macPair mask j).any x.rp) = false →
      let b : BitVec 18 := if mode.getLsbD 1 then imm.signExtend 18 else imm.setWidth 18
      acted (.maci e ix mask mode j imm) false mask mode j b x.flags ∧
      acted (.msbi e ix mask mode j imm) true mask mode j b x.flags) ∧
    (∀ mask, Answers (.mclr e ix mask) s (fun t =>
      (∀ k : Nat, k < 4 → (t.eng e).racc k = if mask.getLsbD k then 0 else x.racc k) ∧
      OnlyEngine s e { x with acc := (t.eng e).acc } t)) ∧
    (∀ mask sa, (mask = 0 ∨ x.rp sa.toNat = false) → Answers (.mlda e ix mask sa) s (fun t =>
      (∀ k : Nat, k < 4 → (t.eng e).racc k = if mask.getLsbD k then (x.rd sa.toNat).setWidth 48 else x.racc k) ∧
      OnlyEngine s e { x with acc := (t.eng e).acc } t)) ∧
    (∀ k sg dst, Answers (.mmov e ix k sg dst) s (OnlyEngine s e
      (x.setD dst.toNat (if sg then (x.racc k.toNat).signExtend 64 else (x.racc k.toNat).setWidth 64) false))) ∧
    (∀ k n cc sg sa, n.toNat < 6 → x.rp sa.toNat = false → Answers (.mcmp e ix k n cc sg sa) s (OnlyEngine s e
      { x with flags := setFlag x.flags n.toNat (cmp48 sg cc (x.racc k.toNat) ((x.rd sa.toNat).setWidth 48)) }))

/-- R61, R65, R69, R84, R85: a slot operation that consumes a poisoned register faults with cause POISON in its slot, at S3, and
an operation whose values are invalid with cause ILLEGAL, at S2: the engine alone in analysis enters FAULT, its record says so,
and the operation writes nothing. -/
def Obligations.PoisonAndIllegalValuesFaultTheEngine : Prop :=
  ∀ (s : State) (e : Fin 256) (ix : BAddr), s.Analyses e → (s.eng e).alone = true → (s.eng e).gangFault = none →
    let x := s.eng e
    let faults (c : Instr) (cause slot : Nat) : Prop := Answers c s (fun t =>
      (t.eng e).mode = .fault ∧
      t.reg .CE_FAULT e = BitVec.ofNat 64 (slot * 2 ^ 32 + ix.toNat * 2 ^ 16 + e.val * 2 ^ 8 + cause) ∧
      (t.eng e).a = x.a ∧ (t.eng e).d = x.d ∧ (t.eng e).acc = x.acc ∧ (t.eng e).flags = x.flags ∧ t.slices = s.slices ∧
      (∀ m : Nat, m ≠ e.val → t.eng m = s.eng m))
    (∀ tr k n, tr ≠ 3 → x.rp n.toNat = true → faults (.movd e ix tr k n) 7 1) ∧
    (∀ w sa g, x.rp sa.toNat = true → faults (.pseed e ix w sa g) 7 2) ∧
    (∀ sa sb n cc, n.toNat < 6 → (x.rp sa.toNat || x.rp sb.toNat) = true → faults (.cmpd e ix sa sb n cc) 7 2) ∧
    (∀ mask sa, mask ≠ 0 → x.rp sa.toNat = true → faults (.mlda e ix mask sa) 7 3) ∧
    (∀ k n, faults (.movd e ix 3 k n) 2 1) ∧
    (∀ w g (n : BitVec 7), 64 < n.toNat → faults (.padv e ix w g n) 2 2) ∧
    (∀ k n cc sg sa, 6 ≤ n.toNat → faults (.mcmp e ix k n cc sg sa) 2 3)

/-- R48 to R54, R74, R80, R86 to R89: the FLOW operations of the engine that fetches. Transfers redirect the fetch, CALL and RET
move the call stack, LOOP and POPL the loop stack; the others write the one thing that they name. -/
def Obligations.FlowOperationsActOnTheProgramState : Prop :=
  ∀ (s : State) (e : Fin 256) (ix : BAddr), s.Executes e → s.Fetches e → (s.eng e).ending ≠ .reti →
    let x := s.eng e
    let goesTo (y : Engine) (t : BAddr) : Engine := { y.restartPrefetch t with pc := t }
    let does (c : Instr) (y : Engine) : Prop := Answers c s (OnlyEngine s e y)
    let push (c : BitVec 24) (en : BAddr) : Engine :=
      { x with l := x.l.set x.ld c 0, lstart := x.lstart.set x.ld (ix + 2) 0, lend := x.lend.set x.ld en 0, ld := x.ld + 1 }
    let roomFor (en : BAddr) : Prop := x.ld < 8 ∧ ix.toNat + 2 ≤ en.toNat ∧ x.matchesEnd (ix + 1) = false
    does (.nop e ix) x ∧
    (∀ t, does (.jmp e ix t) (goesTo x t)) ∧
    (∀ val idx t, does (.br e ix false val idx t) (if x.flags.getLsbD idx.toNat = val then goesTo x t else x)) ∧
    (∀ val idx t, does (.br e ix true val idx t) (if (x.rl idx.toNat != 0) = val then goesTo x t else x)) ∧
    (∀ t, x.cd < 4 → does (.call e ix t) (goesTo { x with cstack := x.cstack.set x.cd (ix + 2) 0, cd := x.cd + 1 } t)) ∧
    (0 < x.cd → does (.ret e ix) (goesTo { x with cd := x.cd - 1 } (x.rcs (x.cd - 1)))) ∧
    does (.halt e ix) { x with ending := .halt, fetching := false } ∧
    (s.streaming e = true → does (.enta e ix) { x with ending := .enta, fetching := false }) ∧
    (∀ (c : BitVec 11) en, roomFor en →
      does (.loopi e ix c en) (if c = 0 then goesTo x (en + 1) else push (c.setWidth 24) en)) ∧
    (∀ k en, roomFor en →
      does (.loopl e ix k en) (if x.rl k.toNat = 0 then goesTo x (en + 1) else push (x.rl k.toNat) en)) ∧
    (0 < x.ld → does (.popl e ix) { x with ld := x.ld - 1 }) ∧
    (∀ k v, does (.setl e ix k v) { x with l := x.l.set k.toNat v 0 }) ∧
    (∀ m, s.streaming e = false → does (.clrf e ix m) { x with flags := x.flags &&& ~~~ m }) ∧
    (∀ m, s.streaming e = true → Answers (.clrf e ix m) s (fun t =>
      (∀ k ∈ s.members e, t.eng k = { s.eng k with flags := (s.eng k).flags &&& ~~~ m }) ∧
      (∀ k : Nat, k ∉ s.members e → t.eng k = s.eng k) ∧ t = { s with engines := t.engines })) ∧
    (s.streaming e = true ∨ s.gangSize e = 1 → does (.sync e ix) x) ∧
    (s.streaming e = false → s.gangSize e ≠ 1 → does (.sync e ix) { x with arrived := true, mode := .sync }) ∧
    (s.Analyses e → s.flag F.CE_INT_IE e = false → { x with s1 := none }.pipeEmpty = false ∨ x.loads ≠ [] →
      does (.reti e ix) { x with ending := .reti, fetching := false, s1 := none }) ∧
    (s.Analyses e → s.flag F.CE_INT_IE e = false → { x with s1 := none }.pipeEmpty = true → x.loads = [] →
      Answers (.reti e ix) s (fun t =>
        (t.eng e).pc = BitVec.ofNat 16 (s.fld F.CE_INT_IPC e) ∧ (t.eng e).flags = BitVec.ofNat 8 (s.fld F.CE_INT_IFLAGS e) ∧
        (t.eng e).fetching = true ∧ (t.eng e).ending = .none ∧ (t.eng e).s1 = none ∧ t.fld F.CE_INT_IE e = 1 ∧
        (t.eng e).a = x.a ∧ (t.eng e).d = x.d ∧ (∀ m : Nat, m ≠ e.val → t.eng m = s.eng m)))

/-- R80, R101: SAVEL writes the loop and call state as ten words at a[k] of the engine's slice; RESTL reads ten words from there and
waits with them, and when they have arrived they become the loop and call state: what SAVEL saved is restored. -/
def Obligations.SavedLoopStateIsRestored : Prop :=
  ∀ (s : State) (e : Fin 256) (ix : BAddr) (k : BitVec 3), s.Analyses e → s.portAError e = false →
    let x := s.eng e
    let a := (x.ra k.toNat).toNat
    a + 10 ≤ 131072 → x.ld ≤ 8 → x.cd ≤ 4 → s.bgtCode e < 3 →
    Answers (.savel e ix k) s (fun t =>
      (∀ w : Nat, w < 10 → t.cell e (a + w) = store64 (x.loopWord w) false) ∧
      (∀ m w : Nat, w < 131072 → ¬ (m = e.val ∧ a ≤ w ∧ w < a + 10) → t.cell m w = s.cell m w) ∧
      t.eng e = x ∧ (∀ m : Nat, m ≠ e.val → t.eng m = s.eng m) ∧
      (∀ y : Engine, y.mode = .analysis → y.a = x.a → y.s3 = none → y.s6 = none →
        Answers (.restl e ix k) (t.setEng e y) (fun r =>
          (r.eng e).restl = some { addr := ix, base := a, words := some ((List.range 10).map (fun w => (x.loopWord w, false))) } ∧
          (r.eng e).l = y.l ∧ (r.eng e).ld = y.ld ∧ (r.eng e).cd = y.cd ∧
          Answers (.restlComplete e) r (fun u => (u.eng e).restl = none ∧
          (∀ w : Nat, w < 8 → (u.eng e).rl w = x.rl w ∧ (u.eng e).rstart w = x.rstart w ∧ (u.eng e).rend w = x.rend w) ∧
          (∀ w : Nat, w < 4 → (u.eng e).rcs w = x.rcs w) ∧ (u.eng e).ld = x.ld ∧ (u.eng e).cd = x.cd ∧
          (u.eng e).d = y.d ∧ (u.eng e).flags = y.flags))))

/-- R53, R80, R87, R88, R89: a FLOW operation that its stacks or its mode do not allow faults the engine alone in analysis: LSTACK 4,
CSTACK 5, ILLEGAL 2 for ENTA and a RETI with IE = 1, SLICE 9 for a block outside the slice, all in slot code 0. -/
def Obligations.FlowOperationsFaultWhereTheStacksAreFullOrEmpty : Prop :=
  ∀ (s : State) (e : Fin 256) (ix : BAddr), s.Analyses e → (s.eng e).alone = true → (s.eng e).gangFault = none →
    let x := s.eng e
    let faults (c : Instr) (cause : Nat) : Prop := Answers c s (fun t =>
      (t.eng e).mode = .fault ∧ t.reg .CE_FAULT e = BitVec.ofNat 64 (ix.toNat * 2 ^ 16 + e.val * 2 ^ 8 + cause) ∧
      (t.eng e).ld = x.ld ∧ (t.eng e).cd = x.cd ∧ (t.eng e).l = x.l ∧ (t.eng e).cstack = x.cstack ∧
      (∀ m : Nat, m ≠ e.val → t.eng m = s.eng m))
    (x.ld = 0 → faults (.popl e ix) 4) ∧
    (∀ c en, x.matchesEnd (ix + 1) = false → (8 ≤ x.ld ∨ en.toNat < ix.toNat + 2) → faults (.loopi e ix c en) 4) ∧
    (∀ t, 4 ≤ x.cd → faults (.call e ix t) 5) ∧ (x.cd = 0 → faults (.ret e ix) 5) ∧
    faults (.enta e ix) 2 ∧ (s.flag F.CE_INT_IE e = true → faults (.reti e ix) 2) ∧
    (∀ k, 131072 < (x.ra k.toNat).toNat + 10 → faults (.savel e ix k) 9 ∧ faults (.restl e ix k) 9)

/-- R64, R99, R105, R106, R107, R108, R120, R122: a vector of a running gang: every pin's events are placed at the reference
time, the vector joins those whose compare close is to come with the next index, and the reference time moves on by the period
of the timing set; a pause vector pauses the gang, a MARK vector raises the trigger of every member. -/
def Obligations.VectorsAreIssuedInOrder : Prop :=
  ∀ (s : State) (e : Fin 256) (ix : BAddr) (codes : BitVec 16) (ts : BitVec 6), s.live (domCL (e.val / 4)) = true →
    s.leader e = e → (s.eng e).mode = .stream →
    let g := (s.eng e).gang
    let per := s.fld F.TSET_PER_PERIOD e ts.toNat
    let src (m : Nat) : MemberSrc :=
      let x := s.eng m
      { eng := m, aIn := (List.range 8).map x.ra, ao := x.ao, dout := x.dout, doutP := x.doutP }
    let good (mode : BitVec 2) : Prop := ∀ m ∈ s.members e,
      s.vectorRefused e m { codes := codes, ts := ts, mode := mode } = false ∧
        s.poisonedSource (src m) { codes := codes, ts := ts, mode := mode } = false
    let issued (t : State) : Prop :=
      (t.eng e).gang.vidx = g.vidx + 1 ∧ (t.eng e).gang.nextV = g.nextV + per ∧
      (∃ v, (t.eng e).gang.vecs = g.vecs ++ [v] ∧ v.idx = g.vidx ∧ v.v = g.nextV ∧ v.period = per ∧ v.ts = ts ∧ v.run = g.run ∧
        v.ao = (s.members e).map (fun m => (s.eng m).ao)) ∧
      (∀ m ∈ s.members e, ∀ k : Nat, k < 4 → t.chan (4 * m + k) =
        ((s.modChan (4 * m + k) (fun c => { c with streamed := true, eopOn := false })).placePin (src m) k (pinCode codes k) ts g.nextV
          (vecKey e g.run g.vidx) g.vidx).chan (4 * m + k)) ∧
      (∀ p : Nat, p ∉ s.gangPins e → t.chan p = s.chan p) ∧
      (∀ m : Nat, m ∉ s.members e → t.eng m = s.eng m)
    badPinCode { codes := codes, ts := ts, mode := 0 } = false →
    (good 0 → Answers (.normalVector e ix codes ts) s (fun t =>
      issued t ∧ ∀ m ∈ s.members e, (t.eng m).mode = (s.eng m).mode ∧ (t.eng m).trigCnt = (s.eng m).trigCnt)) ∧
    (good 1 → Answers (.pauseVector e ix codes ts) s (fun t => issued t ∧ ∀ m ∈ s.members e, (t.eng m).mode = .paused)) ∧
    (good 2 → Answers (.markVector e ix codes ts) s (fun t => issued t ∧ ∀ m ∈ s.members e,
      (t.eng m).mode = (s.eng m).mode ∧ (t.eng m).trig = true ∧ (t.eng m).trigCnt = (s.eng m).trigCnt + 1))

/-- R104, R117, R120: a drive or enable event takes effect at the ball at its effective time, the earliest first and a drive event
before an enable event of the same tick; before the first stream run after OE := 1 an event leaves the ball as it is. -/
def Obligations.BallsTakeTheirEventsInOrder : Prop :=
  ∀ (s : State) (p : Fin 1024), s.live (domCL (p.val / 16)) = true →
    let c := s.chan p
    let only (y : Channel) (at' : Nat) : State → Prop := fun t => t = ({ s with chans := s.chans.set p y {} }).atTime (at' / 512)
    (∀ d q, c.drvQ = d :: q → (∀ n, c.denQ.head? = some n → d.time ≤ n.time) →
      Answers (.ballEvent p) s (only { c with pdrv := if c.streamed then d.val else c.pdrv, drvQ := q } d.time)) ∧
    (∀ n q, c.denQ = n :: q → (∀ d, c.drvQ.head? = some d → n.time < d.time) →
      Answers (.ballEvent p) s (only { c with pden := if c.streamed then n.val else c.pden, denQ := q } n.time)) ∧
    (c.drvQ = [] → c.denQ = [] → Answers (.ballEvent p) s (fun t => t = s))

/-- R49, R114, R115, R121, R128, R130, R140: a strobe samples the comparators, or takes the sample of the group it falls in, and
notes pass or fail for its vector; a WC window that is served passes in a steady state L or H, one of C1 = C2 being a single sample;
the fail flags of the channel's engine and of its gang are due where one fails; a capture joins the cluster's queue with what the TDC
recorded, or is counted lost when the queue holds 64 or the SMP drops captures. -/
def Obligations.StrobesWindowsAndCapturesAreNoted : Prop :=
  ∀ (s : State) (p : Fin 1024), s.live (domCL (p.val / 16)) = true →
    let c := s.chan p
    let eng := p.val / 4
    let noted (t : State) (vec : Nat) (fail : Bool) : Prop :=
      (∃ r ∈ (t.chan p).results, r.vec = vec ∧ (fail = true → r.failed = true)) ∧
      (fail = true → (t.eng eng).f7Due = true ∧ ∀ m ∈ s.members (s.leader eng), (t.eng m).f6Due = true) ∧
      (fail = false → t.engines = s.engines) ∧ (∀ q : Nat, q ≠ p.val → t.chan q = s.chan q)
    (∀ ev rest h l, c.strobes = ev :: rest →
      let gH := groupSample c.grpH ev.tH h
      let gL := groupSample c.grpL ev.tL l
      let st := s.compState p gH.1.sample gL.1.sample
      let fail := st == 3 || !(codePasses ev.code ev.expct st)
      Answers (.strobe p h l) s (fun t =>
        (t.chan p).strobes = rest ∧ (t.chan p).grpH = some gH.1 ∧ (t.chan p).grpL = some gL.1 ∧ noted t ev.vec fail ∧
        ((gH.2 || gL.2) = true → t.flag F.PIN_STATUS_EDGECONF p = true) ∧
        (st = 3 → t.flag F.PIN_STATUS_CMPINV p = true))) ∧
    (∀ w rest h l changed inv, c.wins = w :: rest →
      let st := s.compState p h l
      let fail := !w.served || (changed && !w.single) || (inv && !w.single) || !(st == 1 || st == 2)
      Answers (.windowClose p h l changed inv) s (fun t => (t.chan p).wins = rest ∧ noted t w.vec fail)) ∧
    (∀ w rest h l edges, c.ecs = w :: rest →
      ((s.fcu (p.val / 16)).caps.length < 64 → s.smpDrops = false →
        Answers (.edgeCapture p h l edges) s (fun t =>
          (t.chan p) = { c with ecs := rest } ∧
          (t.fcu (p.val / 16)).caps = (s.fcu (p.val / 16)).caps ++
            [{ chan := p, vec := w.vec, v := w.v, kind := w.kind, raw := if w.kind = .armed then s.tdcRaw p h l edges else none }] ∧
          (∀ q : Nat, q ≠ p.val → t.chan q = s.chan q) ∧ t.regs = s.regs)) ∧
      ((64 ≤ (s.fcu (p.val / 16)).caps.length ∨ s.smpDrops = true) →
        Answers (.edgeCapture p h l edges) s (fun t =>
          (t.chan p) = { c with ecs := rest } ∧ t.fcus = s.fcus ∧ t.flag F.PIN_STATUS_ECLOSS p = true ∧
          t.fld F.PIN_CNT_NLOST p = satAdd (fldMax F.PIN_CNT_NLOST) (s.fld F.PIN_CNT_NLOST p) 1)))

/-- R104, R110, R111, R124, R133: TSET_COMMIT takes all 64 sets or none; it reports why it refuses; a write of PIN_CFG is refused
while the channel's engine is in STREAM or with a reserved ECSRC; a change of OE from 0 to 1 starts the channel from its reset levels,
and a change of EOP while the channel shows its end-of-pattern state takes the new one. -/
def Obligations.TimingSetsAndPinConfigurationAreChecked : Prop :=
  ∀ (s : State) (mid : MasterId),
    (∀ e : Fin 256, s.ReachesReg mid .TSET_COMMIT e true →
      let m := (s.eng e).mode
      (m ≠ .idle → m ≠ .fault → exec (.tsetCommit mid e) s = .next ((s.tsetRefuse e 0 0 6).noteRsp mid .ok [])) ∧
      (∀ ts k c, (m = .idle ∨ m = .fault) → s.tsetFirstFail e = some (ts, k, c) →
        exec (.tsetCommit mid e) s = .next ((s.tsetRefuse e ts k c).noteRsp mid .ok [])) ∧
      ((m = .idle ∨ m = .fault) → s.tsetFirstFail e = none →
        Answers (.tsetCommit mid e) s (fun t =>
          (∀ ts k : Nat, ts < 64 → k < 4 → t.pinSet e ts k = s.pinSetShadow e ts k ∧
            t.fld F.TSET_PER_PERIOD e ts = s.sfld F.TSET_PER_PERIOD e ts) ∧
          t = { s with work := t.work, rsps := t.rsps }))) ∧
    (∀ (p : Fin 1024) (v : Word), s.ReachesReg mid .PIN_CFG p true →
      let bad := s.chanStreaming p || decide (6 ≤ fldOf F.PIN_CFG_ECSRC v)
      let w := v &&& 0x377#64
      (bad = true → exec (.pinCfgWrite mid p v) s = .next ((s.raise F.PIN_STATUS_CFGERR p).noteRsp mid .ok [])) ∧
      (bad = false → fldOf F.PIN_CFG_OE v = 1 → s.fld F.PIN_CFG_OE p = 0 →
        exec (.pinCfgWrite mid p v) s = .next (((s.setReg .PIN_CFG w p).setChan p
          { s.chan p with pdrv := false, pden := false, oeRose := true, streamed := false, eopOn := false }).noteRsp mid .ok [])) ∧
      (bad = false → (fldOf F.PIN_CFG_OE v = 0 ∨ s.fld F.PIN_CFG_OE p = 1) →
        ((s.chan p).eopOn = false ∨ fldOf F.PIN_CFG_EOP v = s.fld F.PIN_CFG_EOP p →
          exec (.pinCfgWrite mid p v) s = .next ((s.setReg .PIN_CFG w p).noteRsp mid .ok [])) ∧
        ((s.chan p).eopOn = true → fldOf F.PIN_CFG_EOP v ≠ s.fld F.PIN_CFG_EOP p →
          exec (.pinCfgWrite mid p v) s = .next (((s.setReg .PIN_CFG w p).setChan p
            { eopApply (fldOf F.PIN_CFG_EOP v) (s.chan p) with eopOn := true }).noteRsp mid .ok []))))

/-- R134 to R138, R140, R142, R150: at the compare close of the gang's oldest vector the FCU counts each failing pin and keeps its
first failing index, counts the failing vector, and the vector leaves; the results of the vector are used up. -/
def Obligations.CompareCloseCountsTheFailingPins : Prop :=
  ∀ (s : State) (e : Fin 256), s.live (domCL (e.val / 4)) = true →
    let c := (fcuOf e).1
    let i := (fcuOf e).2
    (∀ v rest, (s.eng e).gang.vecs = v :: rest → (∀ p ∈ s.gangPins e, s.pinClosed p (v.key e) = true) →
      Answers (.compareClose e) s (fun t =>
        (t.eng e).gang = { (s.eng e).gang with vecs := rest } ∧
        (∀ p ∈ s.gangPins e, (t.chan p).results = (s.chan p).results.filter (fun r => r.vec != v.key e)) ∧
        (∀ p ∈ s.gangPins e, t.fld F.FCU_PCNT_NFAIL (p / 16) (p % 16) =
          if s.pinFailed p (v.key e) then satAdd (fldMax F.FCU_PCNT_NFAIL) (s.fld F.FCU_PCNT_NFAIL (p / 16) (p % 16)) 1
          else s.fld F.FCU_PCNT_NFAIL (p / 16) (p % 16)) ∧
        (∀ p ∈ s.gangPins e, s.pinFailed p (v.key e) = true → s.flag F.FCU_PFIRST_VALID (p / 16) (p % 16) = false →
          t.reg .FCU_PFIRST (p / 16) (p % 16) = BitVec.ofNat 64 (2 ^ 63 + v.idx.toNat)) ∧
        t.fld F.FCU_GCNT_VFAIL c i = (if (s.gangPins e).any (fun p => s.pinFailed p (v.key e))
          then satAdd (fldMax F.FCU_GCNT_VFAIL) (s.fld F.FCU_GCNT_VFAIL c i) 1 else s.fld F.FCU_GCNT_VFAIL c i) ∧
        t.slices = s.slices)) ∧
    ((s.eng e).gang.vecs = [] → Answers (.compareClose e) s (fun t => t = s))

/-- R143, R144, R151, R152: the FCU takes the head record for its ring, as one RT write of four words to the ring entry behind those
outstanding, where the ring has a free entry and fewer than four writes are outstanding, and else waits. A write's OK completion
advances WP (not on a ring that a commit has changed); another drops the record, counts it, sets WERR and drops the slot's later
writes. An accumulation update is one bulk atomic, whose completion may note a saturated lane (ACCSAT) or a lost update (ACCERR,
ACCLOST), in the slot of the gang's leader (the model's choice, log entry 62). -/
def Obligations.RecordsAndUpdatesLeaveTheFcuInOrder : Prop :=
  ∀ (s : State) (c : Fin 64), s.live (domCL c.val) = true →
    let f := s.fcu c
    (∀ r rs (same : Bool), f.fifo = r :: rs →
      let size := s.fld F.FCU_RSIZE_SIZE c r.slot
      let wp := if f.outs.any (fun o => o.slot == r.slot && o.live && !o.after) then (f.slot r.slot).issue else s.fld F.FCU_RWP_WP c r.slot
      (size ≠ 0 → (wp + 1) % size ≠ s.fld F.FCU_RRP_RP c r.slot → f.outs.length < 4 →
        Answers (.recordWrite c same) s (fun t =>
          (t.fcu c).fifo = rs ∧ (t.fcu c).outs = f.outs ++ [{ slot := r.slot, xid := s.xnext }] ∧ t.xnext = s.xnext + 1 ∧
          (∃ x, t.xacts.get s.xnext none = some x ∧ x.mid = BitVec.ofNat 10 (4 * c.val) ∧ x.rt = true ∧ x.kind = .write ∧
            x.addr = s.fld F.FCU_RBASE_BASE c r.slot * 32 + 32 * wp ∧ x.len = 4 ∧
            x.wpar = [(r.w0, false), (r.w1, false), (r.w2, false), (r.w3, false)]) ∧
          t.engines = s.engines ∧ t.slices = s.slices)) ∧
      ((size = 0 ∨ (wp + 1) % size = s.fld F.FCU_RRP_RP c r.slot ∨ 4 ≤ f.outs.length) →
        Answers (.recordWrite c same) s (fun t => t = s))) ∧
    (∀ (ix : Fin 4) o (x : Xact), f.outs.find? (fun q => q.slot == ix.val) = some o → f.outs.find? (fun q => q.xid == o.xid) = some o →
      s.Returns o.xid x → x.mid = BitVec.ofNat 10 (4 * c.val) →
      let wp := s.fld F.FCU_RWP_WP c ix
      let lost := satAdd (fldMax F.FCU_DROP_DROPPED) (s.fld F.FCU_DROP_DROPPED c ix) 1
      Answers (.recordWriteDone c ix) s (fun t =>
        t.xacts.get o.xid none = none ∧
        (x.status = .ok → o.after = false → (t.fcu c).outs = f.outs.filter (fun q => q.xid != o.xid) ∧
          t.fld F.FCU_RWP_WP c ix = if o.live then (wp + 1) % (max (s.fld F.FCU_RSIZE_SIZE c ix) 1) else wp) ∧
        (x.status ≠ .ok → o.after = false → t.fld F.FCU_RWP_WP c ix = wp ∧ t.flag F.FCU_GSTAT_WERR c ix = true ∧
          ((t.fcu c).slot ix).issue = wp ∧ t.fld F.FCU_DROP_DROPPED c ix = lost ∧
          (∀ q ∈ (t.fcu c).outs, q.xid ≠ o.xid ∧ (q.slot = ix.val → q.after = true))) ∧
        (o.after = true → t.fld F.FCU_RWP_WP c ix = wp ∧ t.fld F.FCU_DROP_DROPPED c ix = lost))) ∧
    (∀ q qs u us (same : Bool), f.accq = q :: qs → q.upds = u :: us →
      Answers (.accumulationUpdate c same) s (fun t =>
        (t.fcu c).accq = (if us.isEmpty then qs else { q with upds := us } :: qs) ∧
        (t.fcu c).accOuts = f.accOuts ++ [{ slot := q.slot, lead := q.lead, op := u.op, opnd := u.opnd, xid := s.xnext }] ∧
        t.xnext = s.xnext + 1)) ∧
    (∀ (k : Nat) o (x : Xact), f.accOuts[k]? = some o → f.accOuts.find? (fun q => q.xid == o.xid) = some o →
      f.outs.find? (fun q => q.xid == o.xid) = none → s.Returns o.xid x → x.mid = BitVec.ofNat 10 (4 * c.val) →
      let p := fcuOf o.lead
      Answers (.accumulationUpdateDone c k) s (fun t =>
        t.xacts.get o.xid none = none ∧ (t.fcu c).accOuts = f.accOuts.filter (fun q => q.xid != o.xid) ∧
        (x.status ≠ .ok → t.flag F.FCU_GSTAT_ACCERR p.1 p.2 = true ∧
          t.fld F.FCU_DROP_ACCLOST p.1 p.2 = satAdd (fldMax F.FCU_DROP_ACCLOST) (s.fld F.FCU_DROP_ACCLOST p.1 p.2) 1) ∧
        (x.status = .ok → laneSaturated o.op ((x.reply.getD 0 (0, false)).1) o.opnd = true →
          t.flag F.FCU_GSTAT_ACCSAT p.1 p.2 = true)))

/-- R139, R153: FCU_COMMIT takes every slot's settings or none, and a ring that it changes starts empty; clears of a slot and of a
pin zero their counters; a write of FCU_RRP frees entries where RP lies in the ring, or is 0 with SIZE 0, and is refused elsewhere. -/
def Obligations.FcuRegistersClearAndCommit : Prop :=
  ∀ (s : State) (mid : MasterId) (c : Fin 64),
    let done (t : State) : Host.Outcome State Fault Refusal := .next (t.noteRsp mid .ok [])
    let busy := (List.range 4).any (fun k => (s.eng (4 * c + k)).mode == .stream || (s.eng (4 * c + k)).mode == .paused)
    let bad := (List.range 4).any (fun i => s.fcuSlotBad c i)
    (s.ReachesReg mid .FCU_COMMIT c true → (busy || bad) = true →
      exec (.fcuCommit mid c) s = done (s.raise F.FCU_STATUS_CFGERR c)) ∧
    (s.ReachesReg mid .FCU_COMMIT c true → (busy || bad) = false →
      let same (i : Nat) : Prop := s.sfld F.FCU_RSIZE_SIZE c i = s.fld F.FCU_RSIZE_SIZE c i ∧
        s.sfld F.FCU_RBASE_BASE c i = s.fld F.FCU_RBASE_BASE c i
      Answers (.fcuCommit mid c) s (fun t =>
        (∀ r ∈ [RegId.FCU_GCFG, .FCU_FLIM, .FCU_RBASE, .FCU_ABASE, .FCU_RSIZE, .FCU_ACFG], ∀ i : Nat, i < 4 →
          t.reg r c i = s.shadowReg r c i) ∧
        (∀ i : Nat, i < 4 → same i → t.fld F.FCU_RWP_WP c i = s.fld F.FCU_RWP_WP c i ∧ t.fld F.FCU_RRP_RP c i = s.fld F.FCU_RRP_RP c i) ∧
        (∀ i : Nat, i < 4 → ¬ same i → t.fld F.FCU_RWP_WP c i = 0 ∧ t.fld F.FCU_RRP_RP c i = 0 ∧
          ∀ r ∈ (t.fcu c).fifo, r.slot ≠ i) ∧
        ((∀ i : Nat, i < 4 → same i) → t = { s with work := t.work, rsps := t.rsps }))) ∧
    (s.ReachesReg mid .FCU_CLR c true →
      (∀ i : Fin 4, exec (.fcuClrSlot mid c i) s =
        done ((((s.setReg .FCU_GCNT 0 c i).setReg .FCU_DROP 0 c i).setReg .FCU_FIRSTU 0 c i).modSlot c i
          (fun x => { x with limited := false }))) ∧
      (∀ j : Fin 16, exec (.fcuClrPin mid c j) s = done ((s.setReg .FCU_PCNT 0 c j).setReg .FCU_PFIRST 0 c j))) ∧
    (∀ (i : Fin 4) (rp : BitVec 24), s.ReachesReg mid .FCU_RRP c true →
      let size := s.fld F.FCU_RSIZE_SIZE c i
      ((rp.toNat < size ∨ size = 0 ∧ rp.toNat = 0) → exec (.fcuRrpWrite mid c i rp) s = done (s.setFld F.FCU_RRP_RP rp.toNat c i)) ∧
      (size ≤ rp.toNat → 0 < rp.toNat →
        exec (.fcuRrpWrite mid c i rp) s = done (s.raise F.FCU_STATUS_CFGERR c)))

/-- R168, R171 to R175, R178: the background test moves from step to step while no access waits, and waits GAP cycles; a fill
zeroes the slice and stops its service until it completes; a retirement stops it; each is refused while the slice's engine runs;
the secure bank's wipe zeroes the bank and clears READY until it completes. -/
def Obligations.SlicesAreTestedFilledAndRetired : Prop :=
  ∀ (s : State),
    (∀ n : Fin 256, s.live (domSL (n.val / 4)) = true →
      (s.bgtMayRun n = true → s.bgtCode n = 1 → Answers (.bgtWaitEnd n) s (fun t => t = s.setBgtCode n 2)) ∧
      (∀ flips, s.bgtMayRun n = true → (s.arbs.get (512 + n.val) {}).wq = [] → s.bgtCode n = 3 →
        Answers (.bgtStep n flips) s (fun t =>
          (∀ j : Nat, j < 4 → t.cell n (4 * s.fld F.SLC_BGT_CURSOR n + j) = 0) ∧ t.bgtCode n = 4 ∧
          (∀ m w : Nat, w < 131072 → ¬ (m = n.val ∧ w / 4 = s.fld F.SLC_BGT_CURSOR n) → t.cell m w = s.cell m w))) ∧
      (∀ flips, s.bgtMayRun n = true → (s.arbs.get (512 + n.val) {}).wq = [] → s.bgtCode n = 4 → s.region n (s.fld F.SLC_BGT_CURSOR n) ^^^ flips ≠ 0 →
        Answers (.bgtStep n flips) s (fun t =>
          t.flag F.SLC_STATUS_CELL n = true ∧ t.bgtCode n = 5 ∧
          t.fld F.SLC_CNT_CELL n = satAdd (fldMax F.SLC_CNT_CELL) (s.fld F.SLC_CNT_CELL n) 1 ∧
          t.err.onWay.length = s.err.onWay.length + 1 ∧ t.slices = s.slices)) ∧
      (∀ flips, s.bgtMayRun n = true → (s.arbs.get (512 + n.val) {}).wq = [] → s.bgtCode n = 11 →
        Answers (.bgtStep n flips) s (fun t =>
          (∀ j : Nat, j < 4 → t.cell n (4 * s.fld F.SLC_BGT_CURSOR n + j) = regionWord (s.slc n).hold j) ∧ t.bgtCode n = 12)) ∧
      (∀ flips, (s.arbs.get (512 + n.val) {}).wq ≠ [] → Answers (.bgtStep n flips) s (fun t => t = s)) ∧
      (s.flag F.SLC_STATUS_FILLING n = true →
        Answers (.sliceFillComplete n) s (fun t =>
          let u := (s.setFld F.SLC_STATUS_FILLING 0 n).setFld F.SLC_STATUS_FILLED 1 n
          let tests := s.sliceOn n && s.flag F.SLC_CTRL_BGTEN n && !(s.flag F.SLC_CTRL_RETIRE n) && s.bgtCode n == 0
          t = (if tests then u.setBgtCode n 2 else u) ∧
          t.flag F.SLC_STATUS_FILLED n = true ∧ t.flag F.SLC_STATUS_FILLING n = false)) ∧
      (s.flag F.SLC_STATUS_FILLING n = false → Answers (.sliceFillComplete n) s (fun t => t = s))) ∧
    (∀ (mid : MasterId) (n : Fin 256), s.ReachesReg mid .SLC_CTRL n true →
      (s.engineQuiet n = true → s.flag F.SLC_STATUS_FILLING n = false →
        Answers (.sliceFill mid n) s (fun t =>
          (∀ j : Nat, j < 131072 → t.cell n j = 0) ∧ (∀ m j : Nat, m ≠ n.val → j < 131072 → t.cell m j = s.cell m j) ∧
          t.flag F.SLC_STATUS_FILLING n = true ∧ t.flag F.SLC_STATUS_FILLED n = false ∧ t.sliceBlock n ≠ none)) ∧
      (s.engineQuiet n = false ∨ s.flag F.SLC_STATUS_FILLING n = true →
        Answers (.sliceFill mid n) s (fun t => t.flag F.SLC_STATUS_CFGERR n = true)) ∧
      (∀ on : Bool, s.engineQuiet n = true → Answers (.sliceRetire mid n on) s (fun t => t.flag F.SLC_CTRL_RETIRE n = on)) ∧
      (∀ on : Bool, s.engineQuiet n = false → s.flag F.SLC_CTRL_RETIRE n ≠ on →
        Answers (.sliceRetire mid n on) s (fun t => t.flag F.SLC_STATUS_CFGERR n = true ∧
          t.flag F.SLC_CTRL_RETIRE n = s.flag F.SLC_CTRL_RETIRE n))) ∧
    (∀ mid : MasterId, s.ReachesReg mid .SBK_CTRL 0 true → s.flag F.SBK_STATUS_WIPING = false →
      Answers (.sbkWipe mid) s (fun t =>
        (∀ j : Nat, t.bankCell j = 0) ∧ t.bankReady = false ∧ t.flag F.SBK_STATUS_WIPING = true ∧
        t.fld F.SBK_STATUS_CAUSE = 4 ∧ t.ice.keys = {} ∧ t.ice.linkKeys = {})) ∧
    (s.flag F.SBK_STATUS_WIPING = true → s.smp.reload = false →
      Answers .sbkWipeComplete s (fun t => t.bankReady = true ∧ t.flag F.SBK_STATUS_WIPING = false ∧ t.log.late = [] ∧
        (s.log.late = [] → t = (s.setFld F.SBK_STATUS_WIPING 0).setFld F.SBK_STATUS_READY 1)))

/-- R26, R158, R160, R164, R165, R262, R265, R278, R381: a bulk request of one word to a code word of a slice, from a master with
the right, by an open path, at a slice in service whose background test is not inside a region and at
whose port nothing waits: a read returns the corrected
word with its poison, a write stores it, an atomic stores its result and returns the old value; every other code word keeps its
content, and the request has its status. -/
def Obligations.RequestsReachTheirWordOfASlice : Prop :=
  ∀ (s : State) (mid : MasterId) (tag : Byte) (a : Addr) (n : Fin 256), s.masterLive mid = true →
    regionAt a.toNat = some (.slice n) → a.toNat % 8 = 0 → s.carriesInspect (readReq mid tag a 1 false false false) = false →
    let j := a.toNat % 0x100000 / 8
    let src := masterNi mid.toNat
    let dst := (n.val / 4, 4)
    let route := s.routeTo src dst
    fldOf F.NOC_ROUTE_V route = 1 →
    (∀ p : PktInfo, ∃ q, (s.walkTo p src.1 route 4).1 = .reach q) →
    s.flag F.NOC_NI_ACCEPT dst.1 dst.2 = true → (s.ni (8 * dst.1 + dst.2)).held = [] →
    s.domOn (domSL (n.val / 4)) = true → s.fenced (domSL (n.val / 4)) = false →
    s.sliceBlock n = none → s.bgtCode n < 3 → s.ckSlice n = false →
    (isSectorMid mid.toNat = true → s.tagsOut mid < 32) → (s.arb (512 + n.val)).wq = [] →
    (s.fld F.ARB_STATUS_CUT (512 + n.val)).testBit 1 = false →
    let code := decode64 (s.cell n j)
    let performed (t : State) (c : Code64) (st : Status) (old : Option (Word × Bool)) : Prop :=
      t.cell n j = c ∧ (∀ m w : Nat, w < 131072 → ¬ (m = n.val ∧ w = j) → t.cell m w = s.cell m w) ∧ t.xnext = s.xnext + 1 ∧
      ∃ x, t.xacts.get s.xnext none = some x ∧ x.mid = mid ∧ x.left = 0 ∧ x.sent = true ∧ x.status = st ∧
        (∀ o, old = some o → x.words.get 0 0 = o.1 ∧ x.poison.get 0 false = o.2)
    (s.right mid.toNat (.slice n) false = true →
      Answers (.rd mid tag a 1 false false false) s (fun t =>
        performed t (s.cell n j) (if code.poison then .epoison else .ok) (some (code.data, code.poison)))) ∧
    (s.right mid.toNat (.slice n) true = true →
      (∀ v p, Answers (.wr mid tag a [(v, p)] false false false) s (fun t => performed t (store64 v p) .ok none)) ∧
      (code.poison = false → ∀ v : Word,
        let result (op : AtomicOp) (cmp : Word) : Code64 := match atomicResult op code.data v cmp with
          | some r => encode64 r
          | none => s.cell n j
        Answers (.add64 mid tag a v false 1 false false false) s (fun t =>
          performed t (encode64 (code.data + v)) .ok (some (code.data, false))) ∧
        Answers (.swap64 mid tag a v false 1 false false false) s (fun t =>
          performed t (encode64 v) .ok (some (code.data, false))) ∧
        Answers (.add16s mid tag a v false 1 false false false) s (fun t =>
          performed t (result .add16s 0) .ok (some (code.data, false))) ∧
        Answers (.add8s mid tag a v false 1 false false false) s (fun t =>
          performed t (result .add8s 0) .ok (some (code.data, false))) ∧
        (∀ cmp, Answers (.cas64 mid tag a v cmp false false 1 false false false) s (fun t =>
          performed t (if code.data = cmp then encode64 v else s.cell n j) .ok (some (code.data, false))))))

/-- R265, R266, R275, R278: a request whose range does not lie in one region of fitted memory, or that is too long, is refused at its NI with EADDR,
a narrow one of a fabric master with ENARROW, an RT read with EDENY, and nothing is sent; an RT request that passes waits in its NI for a token. -/
def Obligations.RequestsAreCheckedAtTheirSource : Prop :=
  ∀ (s : State) (mid : MasterId) (tag : Byte) (a : Addr), s.masterLive mid = true →
    let src := masterNi mid.toNat
    let tags : Prop := isSectorMid mid.toNat = true → s.tagsOut mid < 32
    let narrow (part : Bool) : Bool := part || a.toNat % 8 != 0
    let refused (t : State) (st : Status) : Prop :=
      t = { s with xacts := t.xacts, xnext := s.xnext + 1 } ∧
      ∃ x, t.xacts.get s.xnext none = some x ∧ x.status = st ∧ x.left = 0 ∧ x.sent = false
    (∀ (len : BitVec 7) part same, tags → (narrow part && isSectorMid mid.toNat) = false →
      (s.rangeGood a.toNat len.toNat = none ∨ 64 < len.toNat) → Answers (.rd mid tag a len part same false) s (fun t => refused t .eaddr)) ∧
    (∀ (len : BitVec 7) part same, tags → narrow part = true → isSectorMid mid.toNat = true →
      Answers (.rd mid tag a len part same false) s (fun t => refused t .enarrow)) ∧
    (∀ (len : BitVec 7) part same, s.rangeGood a.toNat len.toNat ≠ none → len.toNat ≤ 6 →
      (narrow part && isSectorMid mid.toNat) = false → Answers (.rd mid tag a len part same true) s (fun t => refused t .edeny)) ∧
    (∀ (ws : List (Word × Bool)) g, s.rangeGood a.toNat ws.length = some g → g ≠ .dram → ws.length ≤ 6 → a.toNat % 8 = 0 →
      s.flag F.NOC_NI_RTTX src.1 src.2 = true → regionAt a.toNat = some g →
      fldOf F.NOC_ROUTE_V (s.routeTo src g.place) = 1 → fldOf F.NOC_ROUTE_RT (s.routeTo src g.place) = 1 →
      Answers (.wr mid tag a ws false false true) s (fun t =>
        (t.ni (8 * src.1 + src.2)).rtq = (s.ni (8 * src.1 + src.2)).rtq ++ [s.xnext] ∧ t.xnext = s.xnext + 1 ∧
        (∃ x, t.xacts.get s.xnext none = some x ∧ x.wpar = ws ∧ x.addr = a.toNat ∧ x.rt = true ∧ x.left = 1 ∧ x.sent = false) ∧
        t = { s with xacts := t.xacts, xnext := t.xnext, nis := t.nis }))

/-- R262, R263, R265, R275, R279, R286: a response that comes back reaches its master with its status and words and ends the
request; a request whose time-out passes with no response is answered EDEAD and its late response will find it dead; an RT
request leaves its NI with a token; a token is refilled up to four; held traffic is released when its domain is up. -/
def Obligations.ResponsesTimeOutsAndTokens : Prop :=
  ∀ (s : State), s.cstate = ckRun →
    (∀ (n : Nat) (x : Xact), s.Returns n x → x.far = none → (isEngineMid x.mid.toNat && s.fcuOwns (x.mid.toNat / 4) n) = false →
      let answered (t : State) : Prop :=
        t.xacts.get n none = none ∧ (∃ r, t.rsps.get x.mid.toNat none = some r ∧ r.tag = x.tag ∧ r.status = x.status ∧ r.words = x.reply) ∧
        (x.sent = true → (t.ni x.src).outst = (s.ni x.src).outst - 1)
      (x.kind = .read → Answers (.rdrsp n) s answered) ∧ (x.kind = .write → Answers (.wrrsp n) s answered) ∧
      (x.kind ≠ .read → x.kind ≠ .write → Answers (.atrsp n) s answered)) ∧
    (∀ (n : Nat) (x : Xact) (g : Region) (k : Nat), s.xacts.get n none = some x → x.sent = true → x.dead = false → x.late = false →
      x.far = none → s.fld F.NOC_NI_RTMO (x.src / 8) (x.src % 8) ≠ 0 → regionAt x.addr = some g → s.partsOfReq x g = [(0, k)] →
      Answers (.responseTimeout n) s (fun t =>
        (∃ r, t.rsps.get x.mid.toNat none = some r ∧ r.tag = x.tag ∧ r.status = .edead) ∧
        (t.ni x.src).outst = (s.ni x.src).outst - 1 ∧
        (t.xacts.get n none = none ∨ ∃ y, t.xacts.get n none = some y ∧ y.dead = true))) ∧
    (∀ (r : Fin 64) (p : Fin 8) n ns, (s.ni (8 * r.val + p.val)).rtq = n :: ns →
      (s.fld F.NOC_NISTAT_TOKENS r p = 0 → Answers (.rtInject r p) s (fun t => t = s)) ∧
      (0 < s.fld F.NOC_NISTAT_TOKENS r p → ∀ (x : Xact) (m : Nat), s.xacts.get n none = some x → x.far = none →
        regionAt x.addr = some (.slice m) →
        Answers (.rtInject r p) s (fun t => (t.ni (8 * r.val + p.val)).rtq = ns ∧
          (∃ y, t.xacts.get n none = some y ∧ y.sent = true ∧ y.kind = x.kind) ∧
          t.fld F.NOC_NISTAT_TOKENS r p = s.fld F.NOC_NISTAT_TOKENS r p - 1))) ∧
    (∀ (r : Fin 64) (p : Fin 8), niExists r p = true →
      Answers (.tokenRefill r p) s (fun t =>
        t = s.setFld F.NOC_NISTAT_TOKENS (min 4 (s.fld F.NOC_NISTAT_TOKENS r p + 1)) r p)) ∧
    (∀ (r : Fin 64) (p : Fin 8) h hs, (s.ni (8 * r.val + p.val)).held = h :: hs → s.heldReady h = false →
      Answers (.wakeRelease r p) s (fun t => t = s)) ∧
    (∀ (r : Fin 64) (h : Nat × Nat × Nat) (x : Xact) (m : Nat), (s.ni (8 * r.val + 4)).held = [h] → s.heldReady h = true →
      s.xacts.get h.1 none = some x → x.far = none → regionAt x.addr = some (.slice m) → m / 4 = r.val → x.rt = false →
      s.flag F.NOC_NI_ACCEPT r 4 = true →
      Answers (.wakeRelease r 4) s (fun t =>
        (t.ni (8 * r.val + 4)).held = [] ∧ (t.ni (8 * r.val + 4)).infl = (s.ni (8 * r.val + 4)).infl + 1))

/-- R159, R177, R276, R280, R281, R287, R288, R289, R300, R311: the arbiters and the routers' commits. At a boundary a router's arbiter without an owner
takes, of the requesters that are not cut, one that has waited its limit (the longest wait, then the lowest number), else one of
the highest priority, makes it the owner and counts the grant; an owner that still requests keeps its place below its burst limit
and gives it up there. The arbiter of a slice, and that of the secure bank, grants and performs what waits there; that of a DRAM channel
admits its owner's access, and grants nothing in a transition. Cycles inside a transfer count to the
owner's hold, and one beyond its limit is cut. A commit of an arbiter or router waits for the quiet slot, or takes effect at once
where the router is in maintenance; the quiet slot puts every pending commit in force, or refuses a router's with a bad route. -/
def Obligations.ArbitersAndRouterCommits : Prop :=
  ∀ (s : State),
    (∀ (ix : Fin 781) (req : Byte) (n units more : Nat) (pass : Bool), s.cstate = ckRun → arbExists ix = true → ix.val < 512 →
      s.bulkHeld (ix.val / 8) = false →
      let a := s.arb ix
      let rs := arbMask ix req
      let e := rs.filter (fun r => !(s.fld F.ARB_STATUS_CUT ix).testBit r)
      let granted (w : Nat) (forced : Bool) (t : State) : Prop :=
        (t.arb ix).owner = some w ∧ (t.arb ix).last = w ∧ (t.arb ix).held = 0 ∧ (t.arb ix).wait.get w 0 = 0 ∧
        t.fld F.ARB_STATUS_OWNER ix = w ∧ t.fld F.ARB_STATUS_OWNED ix = 1 ∧
        t.fld F.ARB_CNT_GRANTS ix w = satAdd (fldMax F.ARB_CNT_GRANTS) (s.fld F.ARB_CNT_GRANTS ix w) 1 ∧
        t.fld F.ARB_CNT_FORCED ix w = satAdd (fldMax F.ARB_CNT_FORCED) (s.fld F.ARB_CNT_FORCED ix w) (bit forced)
      let due (r : Nat) : Prop := s.fld F.ARB_CFG_WAIT ix r ≠ 0 ∧ s.fld F.ARB_CFG_WAIT ix r ≤ a.wait.get r 0 + n
      (a.owner = none → ∀ r ∈ e, due r → (∀ q ∈ e, due q → a.wait.get q 0 < a.wait.get r 0 ∨ (a.wait.get q 0 = a.wait.get r 0 ∧ r ≤ q)) →
        Answers (.arbGrant ix req n units more pass) s (granted r true)) ∧
      (a.owner = none → (∀ r ∈ e, ¬ due r) → ∀ w, s.highestPrio ix a.last e = some w →
        w ∈ e ∧ (∀ r ∈ e, s.fld F.ARB_CFG_PRIO ix r ≤ s.fld F.ARB_CFG_PRIO ix w) ∧
        Answers (.arbGrant ix req n units more pass) s (granted w false)) ∧
      (a.owner = none → e = [] → Answers (.arbGrant ix req n units more pass) s (fun t => (t.arb ix).owner = none)) ∧
      (∀ o, a.owner = some o → o ∈ e → s.fld F.ARB_CFG_HOLD ix o = 0 → (∀ r ∈ e, r ≠ o → s.fld F.ARB_CFG_WAIT ix r = 0) →
        let b := s.fld F.ARB_CFG_BURST ix o
        ((b = 0 ∨ a.used + units < b) → Answers (.arbGrant ix req n units more pass) s (fun t =>
          (t.arb ix).owner = some o ∧ (t.arb ix).used = a.used + units + more ∧ (t.arb ix).held = a.held + n)) ∧
        (b ≠ 0 → b ≤ a.used + units → ¬ due o → ∀ w, s.highestPrio ix a.last e = some w →
          Answers (.arbGrant ix req n units more pass) s (granted w false)))) ∧
    (∀ (ix : Fin 781) (req : Byte) (c units more : Nat) (pass : Bool) (w : ArbWait), s.cstate = ckRun → 512 ≤ ix.val →
      (ix.val < 768 ∨ ix.val = 780) → (s.arb ix).wq = [w] → (s.arb ix).owner = none → w.req < 8 →
      (s.fld F.ARB_STATUS_CUT ix).testBit w.req = false →
      Answers (.arbGrant ix req c units more pass) s (fun t =>
        (t.arb ix).wq = [] ∧ (t.arb ix).owner = none ∧
        t.fld F.ARB_CNT_GRANTS ix w.req = satAdd (fldMax F.ARB_CNT_GRANTS) (s.fld F.ARB_CNT_GRANTS ix w.req) 1)) ∧
    (∀ (k : Fin 12) (ix : Fin 781) (req : Byte) (c units more : Nat) (pass : Bool) (o : Nat) (q : LineReq), s.cstate = ckRun →
      ix.val = 768 + k.val → (s.arb ix).owner = none → s.dramReq k = [o] → (s.dmc k).offer o = some q →
      (s.fld F.ARB_STATUS_CUT ix).testBit o = false →
      (s.dmcState k = dmcReady → (s.dmc k).sched.length < 64 → Answers (.arbGrant ix req c units more pass) s (fun t =>
        (t.arb ix).owner = some o ∧ (t.arb ix).used = 1 ∧ (t.dmc k).sched = (s.dmc k).sched ++ [q] ∧
        t.fld F.ARB_CNT_GRANTS ix o = satAdd (fldMax F.ARB_CNT_GRANTS) (s.fld F.ARB_CNT_GRANTS ix o) 1)) ∧
      (s.dmcState k = dmcTransition → Answers (.arbGrant ix req c units more pass) s (fun t =>
        (t.arb ix).owner = none ∧ t.dmcs = s.dmcs ∧ t.regs = s.regs))) ∧
    (∀ (ix : Fin 781) (req : Byte) (n : Nat), s.cstate = ckRun → arbExists ix = true →
      let a := s.arb ix
      (∀ o, a.owner = some o → o < 8 → s.fld F.ARB_CFG_HOLD ix o ≠ 0 → s.fld F.ARB_CFG_HOLD ix o < a.held + n →
        Answers (.arbHoldCut ix req n) s (fun t =>
          (t.fld F.ARB_STATUS_CUT ix).testBit o = true ∧ (t.arb ix).owner = some o ∧ (t.arb ix).held = a.held + n)) ∧
      (∀ o, a.owner = some o → (s.fld F.ARB_CFG_HOLD ix o = 0 ∨ a.held + n ≤ s.fld F.ARB_CFG_HOLD ix o) →
        Answers (.arbHoldCut ix req n) s (fun t => t.regs = s.regs ∧ (t.arb ix).owner = some o ∧ (t.arb ix).held = a.held + n)) ∧
      (a.owner = none → Answers (.arbHoldCut ix req n) s (fun t => t.regs = s.regs ∧ (t.arb ix).owner = none ∧
        ∀ r ∈ s.arbRequests ix req, (t.arb ix).wait.get r 0 = a.wait.get r 0 + n))) ∧
    (∀ (mid : MasterId) (ix : Fin 781), s.ReachesReg mid .ARB_COMMIT ix true →
      ((ix.val < 512 ∧ s.fld F.NOC_CFG_MAINT (ix.val / 8) = 0) →
        exec (.arbCommit mid ix) s = .next ((s.setFld F.ARB_STATUS_PEND 1 ix).noteRsp mid .ok [])) ∧
      (¬ (ix.val < 512 ∧ s.fld F.NOC_CFG_MAINT (ix.val / 8) = 0) →
        Answers (.arbCommit mid ix) s (fun t =>
          (∀ r : Nat, r < 8 → t.reg .ARB_CFG ix r = s.shadowReg .ARB_CFG ix r) ∧
          (ix.val < 512 → s.now ≤ (t.ni (8 * (ix.val / 8))).holdTill ∧ (t.ni (8 * (ix.val / 8))).holdTill ≤ s.now + 256) ∧
          t = { s with work := t.work, rsps := t.rsps, nis := t.nis, free := t.free }))) ∧
    (∀ (mid : MasterId) (r : Fin 64), s.ReachesReg mid .NOC_COMMIT r true →
      (s.flag F.NOC_CFG_MAINT r = false →
        exec (.nocCommit mid r) s = .next ((s.setFld F.NOC_STATUS_CPEND 1 r).noteRsp mid .ok [])) ∧
      (∀ bad, s.flag F.NOC_CFG_MAINT r = true → s.badRoute r = some bad → Answers (.nocCommit mid r) s (fun t =>
        t.flag F.NOC_STATUS_CFGERR r = true ∧ t.work = s.work)) ∧
      (s.flag F.NOC_CFG_MAINT r = true → s.badRoute r = none → Answers (.nocCommit mid r) s (fun t =>
        t.reg .NOC_CFG r = s.shadowReg .NOC_CFG r ∧ (∀ d : Nat, d < 512 → t.reg .NOC_ROUTE r 0 d = s.shadowReg .NOC_ROUTE r 0 d) ∧
        s.now ≤ (t.ni (8 * r.val)).holdTill ∧ (t.ni (8 * r.val)).holdTill ≤ s.now + 256))) ∧
    (s.cstate = ckRun → Answers .quietSlot s (fun t =>
      (∀ r : Nat, r < 64 → t.flag F.NOC_STATUS_CPEND r = false) ∧ (∀ i : Nat, i < 512 → t.flag F.ARB_STATUS_PEND i = false) ∧
      (∀ r : Nat, r < 64 → s.flag F.NOC_STATUS_CPEND r = true → s.badRoute r = none →
        t.reg .NOC_CFG r = s.shadowReg .NOC_CFG r ∧ ∀ d : Nat, d < 512 → t.reg .NOC_ROUTE r 0 d = s.shadowReg .NOC_ROUTE r 0 d) ∧
      (∀ r : Nat, r < 64 → s.flag F.NOC_STATUS_CPEND r = true → s.badRoute r ≠ none →
        t.flag F.NOC_STATUS_CFGERR r = true ∧ t.reg .NOC_CFG r = s.reg .NOC_CFG r) ∧
      (∀ i k : Nat, i < 512 → k < 8 → s.flag F.ARB_STATUS_PEND i = true → t.reg .ARB_CFG i k = s.shadowReg .ARB_CFG i k) ∧
      (s.now < 2 ^ 63 → t.inQuiet = true) ∧ t.engines = s.engines ∧ t.slices = s.slices))

/-- R8, R199: a read of SMP_CLAIM gives the lowest free mailbox slot to the reader; a write of GO by the owner submits the
request, or answers it at once with NOT_READY, BAD_OPCODE or BAD_PARAM; a write of REL frees the slot; another master is refused
with EDENY. -/
def Obligations.MailboxSlotsAreClaimedUsedAndReleased : Prop :=
  ∀ (s : State) (mid : MasterId),
    (∀ i : Nat, s.ReachesReg mid .SMP_CLAIM 0 false → s.inspects mid = false → i < 16 → (s.slot i).owner = none →
      (∀ k : Nat, k < i → (s.slot k).owner ≠ none) →
      exec (.smpClaim mid) s = .next ((s.modMbox i (fun _ => { owner := some mid })).noteRsp mid .ok
        [(BitVec.ofNat 64 (2 ^ 63 + i), false)])) ∧
    (s.ReachesReg mid .SMP_CLAIM 0 false → s.inspects mid = false → (∀ k : Nat, k < 16 → (s.slot k).owner ≠ none) →
      exec (.smpClaim mid) s = .next (s.noteRsp mid .ok [(0, false)])) ∧
    (s.Reaches mid (.block .SMP 0) true → ∀ (ix : Fin 16) (v : Word),
      ((s.slot ix).owner ≠ some mid → mid ≠ 328 →
        exec (.smpRequestGo mid ix v) s = .next (s.noteRsp mid .edeny []) ∧
        exec (.smpSlotRelease mid ix) s = .next (s.noteRsp mid .edeny [])) ∧
      (s.slotOwned ix mid = true → (s.slot ix).running = true →
        exec (.smpRequestGo mid ix v) s = .next (s.noteRsp mid .edeny []) ∧
        exec (.smpSlotRelease mid ix) s = .next (s.noteRsp mid .edeny [])) ∧
      (s.slotOwned ix mid = true → (s.slot ix).running = false →
        exec (.smpSlotRelease mid ix) s = .next ((s.modMbox ix (fun _ => {})).noteRsp mid .ok [])) ∧
      (s.slotOwned ix mid = true → (s.slot ix).running = false → v.getLsbD 62 = false →
        let r := v ||| (1#64 <<< 63)
        let serves := s.smpState = smpReady ∨ (s.smpState = smpNoImage ∧ (reqOp v = 0x30 ∨ reqOp v = 0x31))
        let answered (st : Byte) : Prop := Answers (.smpRequestGo mid ix v) s (fun t =>
          (t.slot ix).status = st ∧ (t.slot ix).done = true ∧ (t.slot ix).running = false ∧ (t.slot ix).owner = (s.slot ix).owner ∧
          (t.slot ix).tag = reqTag v ∧ t.smp.reqs = s.smp.reqs ∧ t = { s with smp := t.smp, rsps := t.rsps })
        (¬ serves → answered stNotReady) ∧
        (serves → reqOp v ∉ smpOpcodes → answered stBadOpcode) ∧
        (serves → reqOp v ∈ smpOpcodes → 224 < reqLen v → answered stBadParam) ∧
        (serves → reqOp v ∈ smpOpcodes → reqLen v ≤ 224 →
          Answers (.smpRequestGo mid ix v) s (fun t =>
            (t.slot ix).running = true ∧ (t.slot ix).done = false ∧ (t.slot ix).req = r ∧ t.smp.reqs = s.smp.reqs ++ [ix.val] ∧
            t = { s with smp := t.smp, rsps := t.rsps }))))

/-- R193, R194, R200 to R203, R206: the SMP performs the request at the front of its queue: the slot gets the status and the
result bytes of the request, the queue moves on, and the request has its effect. -/
def Obligations.MeterCoreAnswersTheFrontRequest : Prop :=
  ∀ (s : State) (ix : Fin 16) (rest : List Nat) (op : Nat), s.live domSMP = true → s.smp.reqs = ix.val :: rest →
    reqOp (s.slot ix).req = op →
    let par := s.slotParam ix
    let mask := maskClusters par
    let answers (c : Instr) (st : Byte) (bs : List Byte) (P : State → Prop) : Prop := Answers c s (fun t =>
      (t.slot ix).status = st ∧ (t.slot ix).done = true ∧ (t.slot ix).running = false ∧
      (t.slot ix).rlen = BitVec.ofNat 16 bs.length ∧ (t.slot ix).data = setBytes (s.slot ix).data bs ∧
      t.smp.reqs = rest ∧ (∀ k : Nat, k ≠ ix.val → t.slot k = s.slot k) ∧
      (∀ e : Nat, (t.eng e).mode = (s.eng e).mode) ∧ t.slices = s.slices ∧ P t)
    let fill := s.filling
    (op = 1 → (∀ b, fill = some b → (s.buf b).entries ≠ [] →
      answers (.flush ix) stOk (leBytes 8 (BitVec.ofNat 64 s.smp.bseq)) (fun t =>
        (t.buf b).st = .signing ∧ (t.buf b).bseq = s.smp.bseq ∧ t.smp.bseq = s.smp.bseq + 1))) ∧
    (op = 1 → fill = none → answers (.flush ix) stOk [] (fun t => t.smp.bufs = s.smp.bufs)) ∧
    (op = 2 → par < 4 → (s.buf par).st = .signed →
      answers (.bufferRelease ix) stOk [] (fun t => ((t.buf par).st = .free ∨ (t.buf par).st = .filling) ∧ (t.buf par).entries = [])) ∧
    (op = 2 → (4 ≤ par ∨ (s.buf par).st ≠ .signed) →
      answers (.bufferRelease ix) stBadParam [] (fun t => t.smp.bufs = s.smp.bufs)) ∧
    (op = 3 → answers (.setclose ix) stOk [] (fun t => t.smp.setclose = BitVec.ofNat 32 (s.param ix 0 4))) ∧
    (op = 0x10 → mask ≠ [] → mask.any s.selfBlocked = false → mask.any s.calRunning = false →
      answers (.selfcal ix) stOk [] (fun t => (∀ c ∈ mask, t.calRunning c = true) ∧
        (s.smp.cals = [] → t.smp.cals = [{ self := true, wait := mask.drop 8, left := mask.take 8 }]))) ∧
    (op = 0x10 → mask.any s.selfBlocked = true →
      answers (.selfcal ix) stDenied [] (fun t => t.smp.cals = s.smp.cals)) ∧
    (op = 0x10 → mask.any s.selfBlocked = false → mask.any s.calRunning = true →
      answers (.selfcal ix) stBusy [] (fun t => t.smp.cals = s.smp.cals)) ∧
    (op = 0x11 → mask ≠ [] → mask.any s.clusterBusy = false → mask.any s.calRunning = false →
      answers (.driftcal ix) stOk [] (fun t => (∀ c ∈ mask, t.calRunning c = true) ∧
        (s.smp.cals = [] → t.smp.cals = [{ self := false, left := mask }]))) ∧
    (op = 0x11 → mask.any s.clusterBusy = true →
      answers (.driftcal ix) stDenied [] (fun t => t.smp.cals = s.smp.cals)) ∧
    (op = 0x11 → mask.any s.clusterBusy = false → mask.any s.calRunning = true →
      answers (.driftcal ix) stBusy [] (fun t => t.smp.cals = s.smp.cals)) ∧
    (mask = [] → (op = 0x10 → answers (.selfcal ix) stOk [] (fun t => t.smp.cals = s.smp.cals)) ∧
      (op = 0x11 → answers (.driftcal ix) stOk [] (fun t => t.smp.cals = s.smp.cals))) ∧
    (op = 0x12 → 63 < par → answers (.calstat ix) stBadParam [] (fun t => t.smp.cals = s.smp.cals)) ∧
    (op = 0x12 → par ≤ 63 → ∃ bs, bs.length = 104 ∧
      bs.take 8 = wordBytes (BitVec.ofInt 64 ((s.smp.tcal.get par none).getD 0)) ∧
      answers (.calstat ix) stOk bs (fun t => t.smp.cals = s.smp.cals)) ∧
    (op = 0x20 → s.smp.imp = false → par = 149504 → answers (.calinBegin ix) stOk [] (fun t => t.smp.imp = true)) ∧
    (op = 0x20 → s.smp.imp = false → par ≠ 149504 → answers (.calinBegin ix) stBadParam [] (fun t => t.smp.imp = false)) ∧
    (op = 0x20 → s.smp.imp = true → answers (.calinBegin ix) stBusy [] (fun t => t.smp.imp = true)) ∧
    (op = 0x21 → s.smp.imp = false → answers (.calinData ix) stNotReady [] (fun t => t.smp.imp = false ∧ t.sbk = s.sbk)) ∧
    (op = 0x21 → s.smp.imp = true →
      let off := s.param ix 0 4
      let bs := s.paramBytes ix 4 (reqLen (s.slot ix).req - 4)
      ((216 < bs.length ∨ 149504 < off + bs.length) → answers (.calinData ix) stBadParam [] (fun t => t.sbk = s.sbk)) ∧
      (bs.length ≤ 216 → off + bs.length ≤ 149504 → answers (.calinData ix) stOk [] (fun t =>
        (s.bankReady = true → ∀ k : Nat, k < bs.length → t.bankByte (importBase + off + k) = bs.getD k 0) ∧
        (∀ o : Nat, (o < importBase + off ∨ importBase + off + bs.length ≤ o) → t.bankByte o = s.bankByte o)))) ∧
    (op = 0x22 → s.smp.imp = false → s.fuses.sealNo < 4096 → answers (.calinEnd ix) stNotReady [] (fun t => t.fuses = s.fuses)) ∧
    (op = 0x22 → 4096 ≤ s.fuses.sealNo → answers (.calinEnd ix) stDenied [] (fun t => t.fuses = s.fuses ∧ t.smp.imp = false)) ∧
    (op = 0x23 → 0x27800 + 132 ≤ par → answers (.calout ix) stBadParam [] (fun t => t.smp.signs = s.smp.signs)) ∧
    (op = 0x23 → par + 216 ≤ 0x27800 →
      answers (.calout ix) stOk ((List.range 216).map (fun k => s.bankByte (0x40000 + (par + k)))) (fun t => t.sbk = s.sbk)) ∧
    (op = 0x23 → par < 0x27800 + 132 → ∃ bs, bs.length = min 216 (0x27800 + 132 - par) ∧
      (∀ k : Nat, k < bs.length → par + k < 0x27800 → bs.getD k 0 = s.bankByte (0x40000 + (par + k))) ∧
      answers (.calout ix) stOk bs (fun t => t.sbk = s.sbk)) ∧
    (op = 0x30 → ∃ bs, bs.length = 156 ∧ bs.take 24 = wordsBytes [s.sealWord, s.reg .SMP_CALID, s.reg .SMP_START] ∧
      answers (.smpAttest ix) stOk bs (fun t => t.smp.signs = s.smp.signs + 1)) ∧
    (op = 0x31 → answers (.imagehash ix) stOk (beBytes 64 s.smp.segHash ++ beBytes 64 s.metKey) (fun t => t.fuses = s.fuses)) ∧
    (∀ pub, op = 0x40 → 4096 ≤ s.fuses.sealNo → answers (.keyrot ix pub) stDenied [] (fun t => t.fuses = s.fuses)) ∧
    (∀ pub, op = 0x40 → s.fuses.sealNo < 4096 → sha512 (beBytes 132 pub) ≠ s.metKey →
      answers (.keyrot ix pub) stIntegrity [] (fun t => t.fuses = s.fuses)) ∧
    (∀ pub, op = 0x40 → sha512 (beBytes 132 pub) = s.metKey → s.fuses.metSlot < 7 → s.fuses.sealNo < 4096 →
      ecdsaVerify pub
        (sha512 (s.paramBytes ix 0 64 ++ beBytes 2 (BitVec.ofNat 16 s.fuses.sealNo))) (sigOf (s.paramBytes ix 64 132)) = true →
      answers (.keyrot ix pub) stOk (leBytes 8 (BitVec.ofNat 64 (s.fuses.sealNo + 1))) (fun t =>
        t.fuses.metSlot = s.fuses.metSlot + 1 ∧ t.fuses.sealNo = s.fuses.sealNo + 1 ∧
        t.fuses.metKeys.get t.fuses.metSlot none = some (BitVec.ofNat 512 (beNat (s.paramBytes ix 0 64)))))

/-- R200, R203, R205: the end of an import whose set is good takes a seal step, makes the set's calibration current with the next
CALID, leaves every cluster's offsets to be loaded, and writes both copies of the calibration store; a bad set, or a busy engine,
changes nothing but the open import. -/
def Obligations.ImportedCalibrationTakesASealStep : Prop :=
  ∀ (s : State) (ix : Fin 16) (rest : List Nat), s.live domSMP = true → s.smp.reqs = ix.val :: rest →
    reqOp (s.slot ix).req = 0x22 → s.smp.imp = true → s.fuses.sealNo < 4096 →
    let bytes := (List.range 149504).map (fun i => s.bankByte (importBase + i))
    let busy := (List.range 256).any (fun e => (s.eng e).mode != .idle || (s.eng (s.leader e)).gang.armed)
    (Config.calSetGood bytes s.metKey = false → Answers (.calinEnd ix) s (fun t =>
      (t.slot ix).status = stIntegrity ∧ t.smp.imp = false ∧ t.fuses = s.fuses ∧ t.sbk = s.sbk)) ∧
    (Config.calSetGood bytes s.metKey = true → busy = true → Answers (.calinEnd ix) s (fun t =>
      (t.slot ix).status = stDenied ∧ t.smp.imp = false ∧ t.fuses = s.fuses ∧ t.sbk = s.sbk)) ∧
    (Config.calSetGood bytes s.metKey = true → busy = false →
      Answers (.calinEnd ix) s (fun t =>
        (t.slot ix).status = stOk ∧ t.smp.imp = false ∧ t.fuses.sealNo = s.fuses.sealNo + 1 ∧
        t.fuses.sealLogged = s.fuses.sealNo + 1 ∧
        (t.reg .SMP_CALID).extractLsb' 32 32 = (s.reg .SMP_CALID).extractLsb' 32 32 + 1 ∧
        (t.reg .SMP_CALID).extractLsb' 0 32 = 0 ∧ t.smp.calValid = true ∧
        (∀ c : Nat, c < 64 → t.smp.pendOff.get c false = true) ∧
        t.flashBytes (calBase 0) (8 * calWords + 204) = t.flashBytes (calBase 1) (8 * calWords + 204)))

/-- R131, R183, R186 to R196, R201, R202, R204: the SMP's own events: pending offsets are loaded while a cluster is at rest; a capture
becomes a result entry; a block is closed and signed; a calibration completes; the reference fails and recovers; the domain powers
on and its segment arrives. -/
def Obligations.MeasurementEventsFollowTheirRules : Prop :=
  ∀ (s : State),
    (s.live domSMP = true →
      (∀ c : Fin 64, s.smp.pendOff.get c false = true → s.clusterBusy c = false → s.bankReady = true →
        Answers (.offsetLoad c) s (fun t =>
          (∀ p k : Nat, p / 16 = c.val → k < 6 → t.calOff p k = s.calC p k) ∧
          (∀ p k : Nat, p / 16 ≠ c.val → k < 6 → t.calOff p k = s.calOff p k) ∧ t.smp.pendOff.get c false = false)) ∧
      (∀ (c : Fin 64) cap caps b, s.smpOn = true → s.smpState = smpReady → s.smp.reload = false → (s.fcu c).caps = cap :: caps →
        s.filling = some b → (s.buf b).entries.length + 1 < 4096 →
        Answers (.captureAccept c) s (fun t =>
          (t.fcu c).caps = caps ∧ (t.buf b).entries = (s.buf b).entries ++ [s.resultEntry cap] ∧ (t.buf b).tlast = s.time ∧
          (∀ k : Nat, k ≠ c.val → t.fcu k = s.fcu k) ∧ t.sbk = s.sbk ∧ t.engines = s.engines)) ∧
      (∀ (c : Fin 64) cap caps b, s.smpOn = true → s.smpState = smpReady → s.smp.reload = false → (s.fcu c).caps = cap :: caps →
        s.filling = some b → 4096 ≤ (s.buf b).entries.length + 1 →
        Answers (.captureAccept c) s (fun t => (t.fcu c).caps = caps ∧ (t.buf b).st = .signing ∧
          (t.buf b).entries = (s.buf b).entries ++ [s.resultEntry cap])) ∧
      (∀ (c : Fin 64) cap caps, s.smpOn = true → s.smpState = smpReady → s.smp.reload = false → (s.fcu c).caps = cap :: caps →
        s.filling = none →
        Answers (.captureAccept c) s (fun t => t.flag F.SMP_STATUS_STALL = true ∧ (t.fcu c).caps = cap :: caps)) ∧
      (∀ b, s.filling = some b → s.smp.setclose ≠ 0 → (s.buf b).entries ≠ [] →
        Answers .setcloseTimeout s (fun t => (t.buf b).st = .signing ∧ (t.buf b).bseq = s.smp.bseq ∧ t.smp.bseq = s.smp.bseq + 1)) ∧
      (∀ b, b < 4 → s.smpState ≠ smpExhausted → (s.buf b).st = .signing → (∀ k : Nat, k < 4 → k ≠ b → (s.buf k).st ≠ .signing) →
        Answers .blockSigned s (fun t =>
          (t.buf b).st = .signed ∧ (t.buf b).header.length = 64 ∧ (t.buf b).entries = (s.buf b).entries ∧
          t.plic.pend.get 12 false = true ∧ t.smp.signs = s.smp.signs + 1 ∧
          t.fld F.SMP_CNT_BLOCKS = satAdd (fldMax F.SMP_CNT_BLOCKS) (s.fld F.SMP_CNT_BLOCKS) 1)) ∧
      (∀ (c : Fin 64) deskew lin base, (s.smp.cals.any (fun r => r.self && r.left.contains c.val)) = true →
        (∀ r ∈ s.smp.cals, c.val ∉ r.wait) →
        (s.selfLost c = true → Answers (.selfcalComplete c deskew lin base) s (fun t =>
          (t.smp.last.get c {}).st = 3 ∧ ∀ r ∈ t.smp.cals, r.self = true → c.val ∉ r.left)) ∧
        (s.selfLost c = false → s.bankReady = true → Answers (.selfcalComplete c deskew lin base) s (fun t =>
          (t.smp.last.get c {}).st = 2 ∧ (∀ r ∈ t.smp.cals, r.self = true → c.val ∉ r.left) ∧
          t.smp.calValid = true ∧ t.smp.pendOff.get c false = true ∧ t.smp.tcal.get c none = some (s.clusterTemp c))) ∧
        (s.selfLost c = false → s.bankReady = false → Answers (.selfcalComplete c deskew lin base) s (fun t => t = s)) ∧
        (∀ d, s.smp.cals = [{ self := true, left := [c.val], done := d }] → s.selfLost c = false → s.bankReady = true →
          Answers (.selfcalComplete c deskew lin base) s (fun t => t.smp.cals = [] ∧
            (t.reg .SMP_CALID).extractLsb' 32 32 = (s.reg .SMP_CALID).extractLsb' 32 32 + 1 ∧
            (t.reg .SMP_CALID).extractLsb' 0 32 = 0 ∧ t.flag F.SMP_STATUS_PLANE = false))) ∧
      (∀ cs rs, s.smp.cals = [{ self := false, left := cs }] → cs ≠ [] → s.bankReady = true →
        Answers (.driftcalComplete rs) s (fun t =>
          t.smp.cals = [] ∧ (∀ c ∈ cs, (t.smp.last.get c {}).st = 2 ∧ t.smp.pendOff.get c false = true) ∧
          t.reg .SMP_CALID = s.reg .SMP_CALID + 1)) ∧
      (∀ (c : Fin 64) rs, s.smp.cals = [{ self := false, left := [c.val] }] → s.bankReady = true →
        Answers (.driftcalComplete [rs]) s (fun t => ∀ n : Nat, n < 96 →
          t.drift (16 * c.val + n / 6) (n % 6) = clampInt (-96) 96 (-((rs.getD n 0).toInt - s.baseline (16 * c.val + n / 6) (n % 6))))) ∧
      (∀ bytes, s.smp.seg = some bytes → s.smpOn = true → s.smpState = smpBoot → s.segmentGood bytes = false →
        Answers .smpSegmentArrival s (fun t => t.smpState = smpNoImage ∧ t.smp.calValid = false)) ∧
      (∀ bytes, s.smp.seg = some bytes → s.smpOn = true → s.smpState = smpBoot → s.segmentGood bytes = true →
        s.fuses.exhausted = false → s.fuses.sealNo < 4096 → (∀ b : Nat, b < 4 → (s.buf b).st = .free) → s.bankReady = true →
        Answers .smpSegmentArrival s (fun t =>
          t.smpState = smpReady ∧ t.smp.segHash = sha512 bytes ∧ t.smp.bseq = 0 ∧ t.filling ≠ none)) ∧
      (s.smpOn = true → Answers .smpWatchdogExpiry s (fun t =>
        t.smp = { segReq := true } ∧
        t.fld F.SMP_STATUS_RESETS = satAdd (fldMax F.SMP_STATUS_RESETS) (s.fld F.SMP_STATUS_RESETS) 1)) ∧
      (∀ (n : Nat) seg, s.smpOn = true → s.smp.meter.seg = some seg →
        Answers (.sector65Scrub n) s (fun t => t.smp.meter.frames = sector65 seg ∧ t.fuses = s.fuses ∧
          t.fld F.SMP_CNT_UPSET = satAdd (fldMax F.SMP_CNT_UPSET) (s.fld F.SMP_CNT_UPSET) n))) ∧
    (s.smpOn = true → Answers .truFault s (fun t =>
      t.flag F.SMP_STATUS_TREF = true ∧ ∀ c : Nat, c < 64 → t.smp.trefOoc.get c false = true)) ∧
    Answers .truRecovery s (fun t =>
      (∀ c : Nat, c < 64 → t.smp.trefOoc.get c false = (s.smp.trefOoc.get c false && !(s.smp.trefCal.get c false))) ∧
      ((∀ c : Nat, c < 64 → (s.smp.trefOoc.get c false && !(s.smp.trefCal.get c false)) = false) → t.flag F.SMP_STATUS_TREF = false) ∧
      ((∃ c : Nat, c < 64 ∧ (s.smp.trefOoc.get c false && !(s.smp.trefCal.get c false)) = true) → t.regs = s.regs)) ∧
    (∀ o, s.opOn domSMP = some o → o.kind = .on → o.ask = .own → s.switchTurn domSMP = true → s.cstate = ckRun →
      Answers .smpPowerOn s (fun t => t.domOn domSMP = true ∧ t.smp.segReq = true))

/-- R215 to R219: at a port whose clock line runs, a read of a block memory gives the old word as the port's mode shows it and
changes no cell; a write stores its word, or is refused for a partial byte enable, and where it meets port A's write of the same
cycle port A's bits win; the scrubber corrects a protected word while both ports are idle. -/
def Obligations.BlockMemoryPortsAndScrubber : Prop :=
  ∀ (s : State) (n : Fin 10240), s.live (domFS (bmSector n)) = true → s.sectorRuns (bmSector n) = true → s.bmRet.get n false = false →
    let others (t : State) (w : Nat) : Prop :=
      (∀ m v : Nat, v < 512 → ¬ (m = n.val ∧ v = w) → t.bmWord m v = s.bmWord m v) ∧ t.ffs = s.ffs ∧ t.engines = s.engines ∧
      t.slices = s.slices
    (∀ (ix : Fin 4096) (portB same : Bool),
      let p := bmPlace (s.bmMode n portB) ix
      let old := s.bmOld n p.1 portB same
      Answers (.bmRead n ix portB same) s (fun t => if s.bmClock n portB = false then t = s else
        t.bmOut.get (2 * n.val + bit portB) {} = bmOutOf (s.bmMode n portB) p.2.1 p.2.2 old ∧ t.bm = s.bm ∧
        (t.bmLast.get n {}).old = old ∧ (t.bmLast.get n {}).mask = 0 ∧ t.ffs = s.ffs)) ∧
    (∀ (ix : Fin 4096) (portB : Bool) (be : Byte) (v : BitVec 80),
      let mode := s.bmMode n portB
      let p := bmPlace mode ix
      let mask : BitVec 80 := BitVec.ofNat 80 ((2 ^ p.2.2 - 1) * 2 ^ p.2.1)
      (mode = 0 → be = 0xFF → Answers (.bmWrite n ix portB false be v) s (fun t => if s.bmClock n portB = false then t = s else
        t.bmWord n p.1 = encode64 (v.setWidth 64) ∧ others t p.1)) ∧
      (mode = 0 → be ≠ 0xFF → ∀ same, Answers (.bmWrite n ix portB same be v) s (fun t => if s.bmClock n portB = false then t = s else
        t.bm = s.bm ∧ (t.bmOut.get (2 * n.val + bit portB) {}).dout = (bmOutOf 0 p.2.1 p.2.2 (s.bmOld n p.1 portB same)).dout ∧
        (be ≠ 0 → (t.bmOut.get (2 * n.val + bit portB) {}).wref = true ∧ t.flag F.FAB_STATUS_BMNARROW (bmSector n) = true ∧
          t.fld F.FAB_CNT_BMNARROW (bmSector n) = satAdd (fldMax F.FAB_CNT_BMNARROW) (s.fld F.FAB_CNT_BMNARROW (bmSector n)) 1))) ∧
      (mode ≠ 0 → Answers (.bmWrite n ix portB false be v) s (fun t => if s.bmClock n portB = false then t = s else
        t.bmWord n p.1 = (s.bmWord n p.1 &&& ~~~ mask) ||| ((v <<< p.2.1) &&& mask) ∧ others t p.1 ∧
        (t.bmOut.get (2 * n.val + bit portB) {}).dout = (bmOutOf mode p.2.1 p.2.2 (s.bmWord n p.1)).dout)) ∧
      (mode ≠ 0 → portB = true → ∀ met, s.bmMeets n p.1 true true = met → met &&& mask ≠ 0 →
        Answers (.bmWrite n ix true true be v) s (fun t => if s.bmClock n true = false then t = s else
          t.bmWord n p.1 &&& met = s.bmWord n p.1 &&& met ∧ others t p.1 ∧
          t.bmWord n p.1 &&& mask &&& ~~~ met = (v <<< p.2.1) &&& mask &&& ~~~ met ∧
          (t.bmOut.get (2 * n.val + 1) {}).collb = true ∧ t.flag F.FAB_STATUS_BMCOLL (bmSector n) = true))) ∧
    (∀ w : Fin 512,
      let d := decode64 (s.bmWord n w)
      (∀ b, s.flag F.SCR_CTRL_EN = true → s.bmMode n false = 0 → d.kind = .corrected b →
        Answers (.bmScrub n w false) s (fun t =>
          t.bmWord n w = encode64 d.data ∧ others t w ∧
          t.fld F.FAB_CNT_BMCE (bmSector n) = satAdd (fldMax F.FAB_CNT_BMCE) (s.fld F.FAB_CNT_BMCE (bmSector n)) 1)) ∧
      (s.flag F.SCR_CTRL_EN = true → s.bmMode n false = 0 → (∀ b, d.kind ≠ .corrected b) → d.kind ≠ .clean →
        Answers (.bmScrub n w false) s (fun t => t.bm = s.bm ∧ t.flag F.FAB_STATUS_BMUE (bmSector n) = true)) ∧
      Answers (.bmScrub n w true) s (fun t => t = s))

/-- R210 to R214, R220, R222 to R227, R229: an edge of a flip-flop, of its carry chain and of an arithmetic slice, where its clock
line runs, a FAB_COMMIT and the restart of a changed line, a target request at a sector port and its time-out, and the pulses and
doorbells between engines and fabric. -/
def Obligations.FabricLogicMovesOnItsEdges : Prop :=
  ∀ (s : State) (x : Fin 64),
    (∀ (col : Fin 64) (row : Fin 320) (m : Fin 8) (b : Bool) (ones : List (Nat × Nat)) (sample : Bool),
      s.live (domFS x) = true → s.sectorRuns x = true →
      let u0 := s.takeGates x ones
      let u := if sample && u0.columnClock x then u0.takeColumn x else u0
      let n := cellNumber col row m
      let cfg := s.cellCfg x n
      let wire (k : Nat) : Bool := u.plainWire x (tileWire (row.val * 64 + col.val) k) ones
      let pick (k : Nat) : Nat := bit (cfg.getLsbD (k + bit b))
      let reset := cfg.getLsbD (24 + bit b) && wire (2 + pick 30)
      let enable := !(cfg.getLsbD (22 + bit b)) || wire (pick 28)
      let d := if b then u.plainWire x (cellWire n 11) ones else (u.cellNet x ones netDepth n).2.1
      Answers (.flipFlopEdge x col row m b ones sample) s (fun t =>
        t.ff x n b = (if u.tileClock x (tileWire (row.val * 64 + col.val) (4 + pick 26)) = false then s.ff x n b
          else if reset then cfg.getLsbD (20 + bit b) else if enable then d else s.ff x n b) ∧
        t = { s with ffs := t.ffs, sectors := t.sectors } ∧
        ∀ k : Nat, k ≠ 2 * (x.val * 163840 + n) + bit b → t.ffs.get k none = s.ffs.get k none)) ∧
    (∀ (ones : List (Nat × Nat)) (f n : Nat),
      let cfg := s.cellCfg x n
      let r := s.cellNet x ones (f + 1) n
      let carried (k : Nat) : Prop := r.2.1 = (if cfg.getLsbD 16 then xor r.1 (s.cellNet x ones f k).2.2 else r.1) ∧
        (r.1 = true → r.2.2 = (s.cellNet x ones f k).2.2)
      (n % 8 ≠ 0 → carried (n - 1)) ∧ (n % 8 = 0 → 512 ≤ n → cfg.getLsbD 17 = false → carried (n - 512 + 7)) ∧
      (n % 8 = 0 → (n < 512 ∨ cfg.getLsbD 17 = true) → (cfg.extractLsb' 18 2).toNat < 2 →
        r.2.1 = (if cfg.getLsbD 16 then xor r.1 (cfg.getLsbD 18) else r.1))) ∧
    (∀ (ac : Fin 3) (r : Fin 32) (i : ArithIn), s.live (domFS x) = true → s.sectorRuns x = true →
      let k := 96 * x.val + 32 * ac.val + r.val
      let cfg := Config.arithBits (s.sectorFrames x) (32 * ac.val + r.val)
      let o := s.arith.get k {}
      let e (p : BitVec 42) : Int := if cfg.getLsbD 0 || cfg.getLsbD 1 then p.toInt else p.toNat
      let sum : Int := (if cfg.getLsbD 2 then e o.p0 else 0) + (if cfg.getLsbD 3 then e o.p1 else 0) +
        (if cfg.getLsbD 4 then e o.p2 else 0) + (if cfg.getLsbD 5 then e o.p3 else 0)
      Answers (.arithmeticSliceEdge x ac [(r.val, i)]) s (fun t =>
        if s.lineRuns x (Config.arithClock (s.sectorFrames x) (32 * ac.val + r.val)) = false then t = s else
        (t.arith.get k {}).cap = i ∧ (t.arith.get k {}).op = o.cap.op ∧ (t.arith.get k {}).c = o.cap.c ∧
        (t.arith.get k {}).p0 = arithProduct cfg o.cap.a0 o.cap.b ∧ (t.arith.get k {}).p3 = arithProduct cfg o.cap.a3 o.cap.b ∧
        (o.rst = true → (t.arith.get k {}).acc = 0 ∧ (t.arith.get k {}).sat = false) ∧
        (o.rst = false → o.op = 0 → (t.arith.get k {}).acc = o.acc) ∧
        (o.rst = false → cfg.getLsbD 6 = false → cfg.getLsbD 7 = false →
          (o.op = 1 → (t.arith.get k {}).acc = o.acc + BitVec.ofInt 64 sum) ∧
          (o.op = 2 → (t.arith.get k {}).acc = o.c + BitVec.ofInt 64 sum) ∧
          (o.op = 3 → (t.arith.get k {}).acc = o.acc - BitVec.ofInt 64 sum)) ∧
        t = { s with arith := t.arith } ∧ (∀ q : Nat, q ≠ k → t.arith.get q {} = s.arith.get q {}))) ∧
    (∀ mid : MasterId, s.ReachesReg mid .FAB_COMMIT x true →
      (s.fabInconsistent x = true → exec (.fabCommit mid x) s = .next ((s.setFld F.FAB_STATUS_CFGERR 1 x).noteRsp mid .ok [])) ∧
      (s.fabInconsistent x = false → Answers (.fabCommit mid x) s (fun t =>
        (∀ j : Nat, j < 16 → t.reg .FAB_RCLK x j = s.shadowReg .FAB_RCLK x j ∧
          (s.shadowReg .FAB_RCLK x j ≠ s.reg .FAB_RCLK x j → t.lineStop.get (16 * x.val + j) false = true) ∧
          (s.shadowReg .FAB_RCLK x j = s.reg .FAB_RCLK x j →
            t.lineStop.get (16 * x.val + j) false = s.lineStop.get (16 * x.val + j) false)) ∧
        t.reg .FAB_PORT x = s.shadowReg .FAB_PORT x ∧ t.regs = s.regs))) ∧
    (∀ j : Fin 16, s.live (domFS x) = true → Answers (.regionalLineRestart x j) s (fun t =>
      t.lineStop.get (16 * x.val + j.val) false = false ∧ t = { s with lineStop := t.lineStop })) ∧
    (∀ (n : Nat) (q : Xact) (ws : List (Word × Bool)), s.cstate = ckRun → s.xacts.get n none = some q →
      regionAt q.addr = some (.fabric x) → q.left ≠ 0 → q.sent = true → (∃ h ∈ q.holders, h.counted = true) → q.atFabric = false →
      q.fails = [] →
      let ends (t : State) (st : Status) : Prop := ∃ y, t.xacts.get n none = some y ∧ y.left = 0 ∧ y.status = st
      (s.sectorRuns x = false → Answers (.sectorPortTarget n none) s (fun t => ends t .easleep)) ∧
      (s.sectorRuns x = true → s.flag F.FAB_PORT_TEN x = false → Answers (.sectorPortTarget n none) s (fun t => ends t .edead)) ∧
      (s.sectorRuns x = true → s.flag F.FAB_PORT_TEN x = true → s.portClock x = false →
        Answers (.sectorPortTarget n none) s (fun t => t = s)) ∧
      (s.sectorRuns x = true → s.flag F.FAB_PORT_TEN x = true → s.portClock x = true →
        (∀ st, st ≠ .ok → Answers (.sectorPortTarget n (some (st, ws))) s (fun t => ends t st)) ∧
        Answers (.sectorPortTarget n none) s (fun t => ∃ y, t.xacts.get n none = some y ∧ y.atFabric = true ∧ y.left = q.left) ∧
        Answers (.sectorPortTarget n (some (.ok, ws))) s (fun t => ∃ y, t.xacts.get n none = some y ∧ y.left = 0 ∧
          ∀ i : Nat, i < q.len → i < ws.length → (y.words.get i 0, y.poison.get i false) = ws.getD i (0, false)))) ∧
    (∀ (n : Nat) (q : Xact), s.cstate = ckRun → s.xacts.get n none = some q → regionAt q.addr = some (.fabric x) →
      (q.atFabric = true ∨ (q.sent = true ∧ (∃ h ∈ q.holders, h.counted = true) ∧ s.sectorRuns x = true ∧ s.flag F.FAB_PORT_TEN x = true)) →
      q.left ≠ 0 → q.fails = [] → s.fld F.FAB_PORT_TMO x ≠ 0 →
      Answers (.sectorPortTimeout n) s (fun t =>
        t.flag F.FAB_STATUS_PORTTMO x = true ∧
        t.fld F.FAB_PCNT_TMO x = satAdd (fldMax F.FAB_PCNT_TMO) (s.fld F.FAB_PCNT_TMO x) 1 ∧
        ∃ y, t.xacts.get n none = some y ∧ y.left = 0 ∧ y.status = .edead)) ∧
    (∀ e : Fin 256, s.live (domCL (e.val / 4)) = true → (s.eng e).trig = true →
      (s.columnClock (e.val / 4) = true → Answers (.engTrig e) s (fun t =>
        t.eng e = { s.eng e with trig := false, pulses := (s.eng e).pulses + 1 } ∧ (∀ k, k ≠ e.val → t.eng k = s.eng k) ∧
        (t.sector (e.val / 4)).view.trig = (s.sector (e.val / 4)).view.trig ||| (1#4 <<< (e.val % 4)) ∧
        t = { s with engines := t.engines, sectors := t.sectors })) ∧
      (s.columnClock (e.val / 4) = false → Answers (.engTrig e) s (fun t => t = s))) ∧
    (∀ (e : Fin 256) (bits : Byte), s.live (domCL (e.val / 4)) = true →
      ((s.sectorRuns (e.val / 4) && s.columnClock (e.val / 4)) = true →
        let old := (s.sector (e.val / 4)).irq.get (e.val % 4) 0
        Answers (.engIrq e bits) s (fun t =>
          t.fld F.CE_INT_PEND e = ((BitVec.ofNat 8 (s.fld F.CE_INT_PEND e)) ||| (bits &&& ~~~ old)).toNat ∧
          (t.sector (e.val / 4)).irq.get (e.val % 4) 0 = bits ∧ t = { s with regs := t.regs, sectors := t.sectors })) ∧
      ((s.sectorRuns (e.val / 4) && s.columnClock (e.val / 4)) = false → Answers (.engIrq e bits) s (fun t => t = s)))

/-- R232 to R238, R243 to R250, R252: the loader leaves HOLD, chooses its settings and image, checks header and
signature, fails with a cause to the state that R243 names, delivers the SMP's segment, and enters user mode; CFG_CTRL starts a
load or releases CFG_DONE. -/
def Obligations.LoaderMovesThroughItsStates : Prop :=
  ∀ (s : State), s.cstate = ckRun → s.loader.back < 16 →
    let l := s.loader
    let fails (c : Instr) (cause : Nat) : Prop := Answers c s (fun t =>
      t.flag F.CFG_STATUS_LOADERR = true ∧ t.fld F.CFG_STATUS_CAUSE = cause ∧
      (∃ r, t.err.onWay = s.err.onWay ++ [r] ∧ r.kind = 5 ∧ r.cls = 0x05 ∧ r.data = BitVec.ofNat 64 cause) ∧
      t.ldState = (if l.user then ldUser else if l.back = ldFailed ∧ l.golden = false then ldHeader else l.back) ∧
      (l.user = false → l.back = ldFailed → l.golden = false → t.loader.src.base = goldenBase ∧ t.fld F.CFG_STATUS_ATTEMPT = 3))
    (s.ldState = ldHold → Answers .holdRelease s (fun t =>
      t.flag F.CFG_STATUS_HOLDIN = true ∧ t.ldState = (if s.fld F.CFG_STATUS_STRAP = 2 then ldWaitImage else ldSettings) ∧
      t = { s with regs := t.regs })) ∧
    (s.ldState = ldSettings → Answers (.settingsRead false) s (fun t =>
      let c := s.settingsChoice
      let active := if c = 2 then 0 else bit ((bytesWord (s.flashBytes (0x10000 * c + 16) 8)).getLsbD 8)
      t.fld F.CFG_STATUS_SETSRC = c ∧ t.ldState = ldHeader ∧ t.flag F.CFG_STATUS_BUSY = true ∧ t.loader.src.kind = 1 ∧
      t.loader.back = ldFailed ∧ t.loader.settings = true ∧ t.loader.active = (active == 1) ∧
      (s.goldenOnly = true → t.loader.src.base = goldenBase ∧ t.fld F.CFG_STATUS_ATTEMPT = 3) ∧
      (s.goldenOnly = false → t.loader.src.base = slotBase active ∧ t.fld F.CFG_STATUS_ATTEMPT = 1 + active))) ∧
    (s.ldState = ldSettings → Answers (.settingsRead true) s (fun t =>
      t.fld F.CFG_STATUS_CAUSE = 7 ∧ t.flag F.CFG_STATUS_LOADERR = true ∧
      t.ldState = (if s.goldenOnly then ldFailed else ldHeader))) ∧
    (s.ldState = ldHeader → l.src.kind = 1 →
      let h := s.flashBytes l.src.base 0x1000
      (s.headerGood h l.user = true → Answers (.headerCheck false) s (fun t => t.ldState = ldSigchk ∧ t.loader.hdr = h)) ∧
      (s.headerGood h l.user = false → fails (.headerCheck false) 1) ∧ fails (.headerCheck true) 7) ∧
    (s.ldState = ldSigchk →
      (s.signatureGood l.hdr = true → Answers .signatureCheck s (fun t => t.ldState = ldFrames ∧ t.loader = l)) ∧
      (s.signatureGood l.hdr = false → fails .signatureCheck 4)) ∧
    (s.ldState = ldHashchk → sha512 l.body ≠ hdrHash l.hdr → fails .hashCheck 5) ∧
    (ldHeader ≤ s.ldState → s.ldState ≤ ldHashchk →
      ((l.src.kind = 3 ∧ l.streamEnd = false) ∨ l.tmo ≠ 0 → fails .loadTimeout 6) ∧
      (l.tmo = 0 → (l.src.kind ≠ 3 ∨ l.streamEnd = true) → Answers .loadTimeout s (fun t => t = s))) ∧
    (s.smp.segReq = true → s.smp.seg = none → s.goldenOnly = false →
      let b := slotBase (if l.settings then bit l.active else s.activeSlot)
      let h := s.flashBytes b 0x1000
      let g := s.flashBytes goldenBase 0x1000
      let good (h : List Byte) : Bool := s.headerGood h false && s.signatureGood h
      (good h = true → (∀ w, smpSeg h = some w → Answers .smpSegmentDelivery s (fun t =>
          t.smp.seg = some (s.flashBytes (b + w.offset) w.len) ∧ t = { s with smp := t.smp })) ∧
        (smpSeg h = none → Answers .smpSegmentDelivery s (fun t => t.smpState = smpNoImage ∧ t.smp.seg = none))) ∧
      (good h = false → good g = true → ∀ w, smpSeg g = some w → Answers .smpSegmentDelivery s (fun t =>
        t.smp.seg = some (s.flashBytes (goldenBase + w.offset) w.len) ∧ t = { s with smp := t.smp })) ∧
      (good h = false → good g = false → Answers .smpSegmentDelivery s (fun t => t.smpState = smpNoImage ∧ t.smp.seg = none))) ∧
    (s.ldState = ldDoneWait → s.deviceIsReady = true → Answers .deviceReady s (fun t =>
      t = s.modLoader (fun l => { l with ready := true }))) ∧
    (s.ldState = ldDoneWait → l.ready = true → Answers .userModeEntry s (fun t =>
      t.ldState = ldUser ∧ t.userMode = true ∧ t.flag F.CFG_STATUS_DONEIN = true ∧
      (∀ x : Nat, x < 64 → s.flag F.FAB_STATUS_CONFIGURED x = true →
        (t.sector x).held = false ∧ (t.sector x).decl = some ((s.frame x 0).extractLsb' 0 8192)) ∧
      (∀ x : Nat, x < 64 → s.flag F.FAB_STATUS_CONFIGURED x = false → t.sector x = s.sector x) ∧
      (s.tamperHold = false → ∀ k : Nat, k < 8 → (s.fld F.SYS_CORE_RUN_RUN).testBit k = true → s.domOn (domCPU k) = true →
        (s.hart k).running = false → (t.hart k).running = true ∧ (t.hart k).pc = s.reg .SYS_RVBAR 0 k) ∧
      t.frames = s.frames ∧ t.engines = s.engines ∧ t.slices = s.slices)) ∧
    (∀ mid : MasterId, s.ReachesReg mid .CFG_CTRL 0 true →
      let kind := s.fld F.CFG_SRC_KIND
      let base := s.fld F.CFG_SRC_ADDR
      ((s.ldState = ldUser ∨ s.ldState = ldFailed ∨ s.ldState = ldWaitImage) →
        s.flag F.CFG_STATUS_BUSY = false → kind ≠ 3 → (kind = 2 ∨ base % 16 = 0) →
        Answers (.cfgCtrlLoad mid) s (fun t =>
          t.ldState = ldHeader ∧ t.flag F.CFG_STATUS_BUSY = true ∧ t.fld F.CFG_STATUS_ATTEMPT = 4 + kind ∧
          t.loader.src.kind = kind + 1 ∧ t.loader.src.base = (if kind = 2 then 0 else base) ∧ t.loader.back = s.ldState ∧
          (t.loader.user = true ↔ s.ldState = ldUser))) ∧
      ((s.flag F.CFG_STATUS_BUSY = true ∨ kind = 3 ∨ (kind ≠ 2 ∧ base % 16 ≠ 0)) →
        exec (.cfgCtrlLoad mid) s = .next ((s.setFld F.CFG_STATUS_CFGERR 1).noteRsp mid .ok [])) ∧
      ((s.ldState = ldFailed ∨ s.ldState = ldWaitImage) →
        exec (.cfgCtrlDonerel mid) s = .next ((s.modLoader (fun l => { l with doneRel := true })).noteRsp mid .ok [])) ∧
      (s.ldState ≠ ldFailed → s.ldState ≠ ldWaitImage →
        exec (.cfgCtrlDonerel mid) s = .next ((s.setFld F.CFG_STATUS_CFGERR 1).noteRsp mid .ok [])))

/-- R239 to R241, R254, R256 to R260: a frame record in order is written to its sector with its check bits; a sector of a user-mode
load is fenced before its frame 0, when a repair of it is done; a good body hash releases the loaded sectors (their declarations
come into force then in user mode, and at entry to user mode before it); the scrubber's passes correct single cells, reload a frame
or record the failure, and adapt their period. -/
def Obligations.FramesAreWrittenReleasedAndScrubbed : Prop :=
  ∀ (s : State), s.cstate = ckRun →
    let l := s.loader
    (∀ x : Fin 64, l.user = true → s.dueSector = some x.val → x.val ∉ l.fenced →
      let xs := if hdrPartial l.hdr then [x.val] else List.range 64
      (xs.all s.fenceable = true → (∀ y ∈ xs, (s.sector y).repair = none) → Answers (.sectorFence x) s (fun t =>
        t.loader.fenced = l.fenced ++ xs ∧
        (∀ y ∈ xs, t.flag F.FAB_STATUS_RELOADING y = true ∧ (t.sector y).held = true ∧ (t.sector y).pass = none) ∧
        (∀ y ∈ xs, ∀ n q, s.xacts.get n none = some q → q.mid.toNat = 256 + y → ∃ q', t.xacts.get n none = some q' ∧ q'.late = true) ∧
        (∀ y : Nat, y ∉ xs → t.sector y = s.sector y) ∧ t.frames = s.frames)) ∧
      (xs.all s.fenceable = true → (∃ y ∈ xs, (s.sector y).repair ≠ none) → Answers (.sectorFence x) s (fun t => t = s)) ∧
      (xs.all s.fenceable = false → Answers (.sectorFence x) s (fun t =>
        t.ldState = ldUser ∧ t.fld F.CFG_STATUS_CAUSE = 8 ∧ t.flag F.CFG_STATUS_LOADERR = true))) ∧
    (∀ x : Fin 64, (l.user = false ∨ s.dueSector ≠ some x.val ∨ x.val ∈ l.fenced) → Answers (.sectorFence x) s (fun t => t = s)) ∧
    (s.ldState = ldFrames → l.src.kind = 1 → (∀ g, smpSeg l.hdr = some g → g.len ≤ l.body.length) →
      let r := s.flashBytes (l.src.base + (0x1000 + l.body.length)) 1040
      let k := 3456 * frameSector r + frameNumber r
      (frameRecordGood r = true → l.inOrder r = true → (l.user = true → frameSector r ∈ l.fenced) →
        Answers (.frameArrival false) s (fun t =>
          t.frames.get k 0 = withCheck (frameBits r) ∧ (∀ j : Nat, j ≠ k → t.frames.get j 0 = s.frames.get j 0) ∧
          t.loader.body = l.body ++ r ∧ t.loader.count = l.count + 1 ∧ t.fld F.CFG_STATUS_PRSECT = frameSector r ∧
          t.ldState = (if l.count + 1 = (fabricSeg l.hdr).frames then ldHashchk else ldFrames) ∧
          (frameNumber r = 0 → ∀ j w : Nat, w < 512 → j / 160 = frameSector r → t.bmWord j w = poisonFill))) ∧
      (frameRecordGood r = false ∨ l.inOrder r = false → Answers (.frameArrival false) s (fun t =>
        t.flag F.CFG_STATUS_LOADERR = true ∧ t.fld F.CFG_STATUS_CAUSE = 2))) ∧
    (s.ldState = ldHashchk → sha512 l.body = hdrHash l.hdr → (∀ x ∈ l.sectors, x < 64) →
      Answers .hashCheck s (fun t =>
        t.ldState = (if l.user then ldUser else ldDoneWait) ∧ t.loader.good = true ∧ t.flag F.CFG_STATUS_BUSY = false ∧
        t.fld F.CFG_IMAGE_ISEQ = hdrIseq l.hdr ∧ t.fld F.CFG_IMAGE_ORIGIN = s.fld F.CFG_STATUS_ATTEMPT ∧
        (∀ x ∈ l.sectors, t.flag F.FAB_STATUS_CONFIGURED x = true ∧ t.flag F.FAB_STATUS_RELOADING x = false ∧
          (t.sector x).src.hash = hdrHash l.hdr ∧
          (l.user = true → (t.sector x).held = false ∧ (t.sector x).decl = some ((s.frame x 0).extractLsb' 0 8192)) ∧
          (l.user = false → (t.sector x).held = (s.sector x).held ∧ (t.sector x).decl = (s.sector x).decl)) ∧
        (l.user = true → hdrPartial l.hdr = false → ∀ x : Nat, x < 64 → x ∉ l.sectors →
          t.flag F.FAB_STATUS_CONFIGURED x = false ∧ ∀ f : Nat, f < 3456 → t.frame x f = 0))) ∧
    (∀ x : Fin 64,
      (s.scrubs x = true → (s.sector x).pass = none → Answers (.scrubPassStart x) s (fun t =>
        (t.sector x).pass = some 0 ∧ (t.sector x).upsets = 0 ∧ t.flag F.SCR_STATUS_ACTIVE = true ∧
        ∀ y : Nat, y ≠ x.val → t.sector y = s.sector y)) ∧
      (∀ f upset, s.scrubs x = true → (s.sector x).pass = some f → (s.sector x).repair = none → f < 3456 →
        let v := s.frame x f ^^^ upset
        (frameKind v = .clean → Answers (.scrubFrame x upset) s (fun t =>
          t.frame x f = v ∧ (t.sector x).pass = some (f + 1) ∧ t.regs = s.regs)) ∧
        (∀ b, frameKind v = .corrected b → Answers (.scrubFrame x upset) s (fun t =>
          (t.frame x f).extractLsb' 0 8192 = (if b < 8192 then v.extractLsb' 0 8192 ^^^ (1#8192 <<< b) else v.extractLsb' 0 8192) ∧
          frameKind (t.frame x f) = .clean ∧ (t.sector x).pass = some (f + 1) ∧ (t.sector x).upsets = (s.sector x).upsets + 1 ∧
          t.fld F.SCR_CNT_CORR 0 x = satAdd (fldMax F.SCR_CNT_CORR) (s.fld F.SCR_CNT_CORR 0 x) 1)) ∧
        ((∀ b, frameKind v ≠ .corrected b) → frameKind v ≠ .clean → Answers (.scrubFrame x upset) s (fun t =>
          (t.sector x).repair = some f ∧ (t.sector x).pass = some f))) ∧
      (∀ f, (s.sector x).repair = some f → f < 3456 → (s.sector x).src.kind = 1 →
        let src := (s.sector x).src
        let h := s.flashBytes src.base 0x1000
        let r := s.flashBytes (src.base + ((fabricSeg h).offset + 1040 * (3456 * src.pos + f))) 1040
        (hdrHash h = src.hash → frameRecordGood r = true → frameSector r = x.val → frameNumber r = f →
          Answers (.frameReload x false) s (fun t =>
            t.frame x f = withCheck (frameBits r) ∧ (t.sector x).repair = none ∧ (t.sector x).pass = some (f + 1) ∧
            t.fld F.SCR_CNT_RELOAD 0 x = satAdd (fldMax F.SCR_CNT_RELOAD) (s.fld F.SCR_CNT_RELOAD 0 x) 1)) ∧
        Answers (.frameReload x true) s (fun t =>
          t.frames = s.frames ∧ t.flag F.SCR_STATUS_SCRUBFAIL = true ∧ t.fld F.SCR_STATUS_SECTOR = x.val ∧
          t.fld F.SCR_STATUS_FRAME = f ∧ t.fld F.SCR_CNT_FAIL 0 x = satAdd (fldMax F.SCR_CNT_FAIL) (s.fld F.SCR_CNT_FAIL 0 x) 1)) ∧
      ((s.sector x).pass = some 3537 →
        let period := s.fld F.SCR_PERIOD_PERIOD 0 x
        let u := (s.sector x).upsets
        let upth := s.fld F.SCR_CTRL_UPTH
        Answers (.scrubPassEnd x) s (fun t =>
          (t.sector x).pass = none ∧ t.fld F.SCR_CNT_PASSES 0 x = satAdd (fldMax F.SCR_CNT_PASSES) (s.fld F.SCR_CNT_PASSES 0 x) 1 ∧
          (s.flag F.SCR_CTRL_AUTO = false → t.fld F.SCR_PERIOD_PERIOD 0 x = period) ∧
          (s.flag F.SCR_CTRL_AUTO = true → upth ≠ 0 → upth ≤ u →
            t.fld F.SCR_PERIOD_PERIOD 0 x = max 10 (period / 2) ∧ (t.sector x).quiet = 0) ∧
          (s.flag F.SCR_CTRL_AUTO = true → u = 0 → s.fld F.SCR_CTRL_QUIET ≠ 0 → (s.sector x).quiet + 1 = s.fld F.SCR_CTRL_QUIET →
            t.fld F.SCR_PERIOD_PERIOD 0 x = min 10000 (2 * period) ∧ (t.sector x).quiet = 0))))

/-- R294 to R299, R302 to R304, R307 to R314, R391: a scheduled access of a plaintext line that may be performed reads, writes or
updates it as its code words say and answers its request, adjacent atomics to one line with one write-back, and a retired page
answers EDEAD; corrected lines are written back; refresh, idle rows and throttling; training, fills and transitions move the channel
through its states; DMC_ILV and DMC_CMD act or are refused. -/
def Obligations.DramChannelsAccessTheirLinesAndMoveTheirStates : Prop :=
  ∀ (s : State) (k : Fin 12), s.live (domDM k) = true →
    let c := s.dmc k
    let st := s.dmcState k
    let only (t : State) (lam : Nat) (v : Line) : Prop :=
      t.line k lam = v ∧ ∀ m l : Nat, lineKey m l ≠ lineKey k lam → t.line m l = s.line m l
    (∀ (n : Nat) (r : LineReq) (x : Xact), st = dmcReady → c.sched[n]? = some r → c.mayPerform n r = true →
      s.xacts.get r.xid none = some x →
      let more := s.lineGroup k r (c.sched.drop (n + 1))
      let z := (r :: more).foldl atomicOn ((decodeLine (s.line k r.lam)).data, false, [])
      let plain := s.pageRetired (s.lineAddr k r.lam) = false ∧ s.ckDram k = false ∧ s.regionOf r.lam = none
      let d := decodeLine (s.line k r.lam)
      let bad : Status := if d.poison then .epoison else .ok
      let answers (dram : State → Prop) (a : LineReply) : Prop := Answers (.lineAccess k n) s (fun t =>
        dram t ∧ (t.dmc k).sched = c.sched.eraseIdx n ∧ t.xacts.get r.xid none = some (x.takeLine r a))
      (s.pageRetired (s.lineAddr k r.lam) = true → more = [] → answers (fun t => t.dram = s.dram) { status := .edead }) ∧
      (plain → r.kind = .read → answers (fun t => t.dram = s.dram) { status := bad, data := d.data, poison := d.poison }) ∧
      (plain → r.kind = .write → r.mask = 0xFF →
        answers (fun t => only t r.lam (storeLine (mergeLine 0 r) 0 (writesPoison r))) {}) ∧
      (plain → r.kind = .write → r.mask ≠ 0xFF → d.poison = false →
        answers (fun t => only t r.lam (storeLine (mergeLine d.data r) 0 (writesPoison r))) {}) ∧
      (plain → r.kind = .write → r.mask ≠ 0xFF → d.poison = true → answers (fun t => t.dram = s.dram) { status := .epoison }) ∧
      (∀ op, plain → r.kind = .atomic op → d.poison = false → Answers (.lineAccess k n) s (fun t =>
        only t r.lam (if z.2.1 then storeLine z.1 0 false else s.line k r.lam) ∧
        (t.dmc k).sched = c.sched.take n ++ c.sched.drop (n + 1 + more.length))) ∧
      (∀ op v, plain → more = [] → r.kind = .atomic op → d.poison = false → (r.data.getD (firstWord r) (0, false)).2 = false →
        atomicResult op (lineWord d.data (firstWord r)) (r.data.getD (firstWord r) (0, false)).1 r.cmp = some v →
        answers (fun t => only t r.lam (storeLine (setLineWord d.data (firstWord r) v) 0 false)) { data := d.data })) ∧
    (∀ (lam : Fin 33554432) b, c.cewb.contains lam.val = true → st = dmcReady → s.ckDram k = false →
      (∀ x ∈ c.sched, x.lam = lam.val → x.kind = .read) →
      (decodeLine (s.line k lam)).kind = .corrected b →
      Answers (.cewbWriteBack k lam) s (fun t =>
        only t lam (storeLine (decodeLine (s.line k lam)).data (s.spareBack lam (decodeLine (s.line k lam)).spare) false) ∧
        lam.val ∉ (t.dmc k).cewb)) ∧
    (∀ b, s.fld F.DMC_CTRL_PATROL k ≠ 0 → st = dmcReady → s.ckDram k = false → s.chanLines ≠ 0 →
      s.pageRetired (s.lineAddr k c.patrol) = false →
      (decodeLine (s.line k c.patrol)).kind = .corrected b →
      Answers (.patrolRead k) s (fun t =>
        only t c.patrol (storeLine (decodeLine (s.line k c.patrol)).data (s.spareBack c.patrol (decodeLine (s.line k c.patrol)).spare) false) ∧
        (t.dmc k).patrol = (c.patrol + 1) % s.chanLines ∧
        t.fld F.DMC_CNT_CE k = satAdd (fldMax F.DMC_CNT_CE) (s.fld F.DMC_CNT_CE k) 1)) ∧
    (st = dmcReady → Answers (.refresh k) s (fun t =>
      (t.dmc k).refBank = (c.refBank + 1) % 16 ∧ t.dram = s.dram ∧ (t.dmc k).sched = c.sched ∧ ∀ b : Nat, b < 16 →
        let p := c.postponed.get b 0
        let due := b = c.refBank ∨ p ≠ 0
        (due → c.queued b = true → p < 8 →
          (t.dmc k).postponed.get b 0 = p + 1 ∧ (t.dmc k).openRow.get b none = c.openRow.get b none) ∧
        (due → (c.queued b = false ∨ 8 ≤ p) → (t.dmc k).postponed.get b 0 = 0 ∧ (t.dmc k).openRow.get b none = none) ∧
        (¬ due → (t.dmc k).postponed.get b 0 = 0 ∧ (t.dmc k).openRow.get b none = c.openRow.get b none))) ∧
    (∀ b : Fin 16, s.fld F.DMC_CTRL_IDLE k ≠ 0 → Answers (.rowIdleClose k b) s (fun t =>
      (t.dmc k).openRow.get b none = none ∧ t.dram = s.dram)) ∧
    (∀ (mid : MasterId) (b : Fin 16) x e, c.throttled.find? (fun t => t.mid == mid) = some x →
      x.banks.find? (fun y => y.1 == b.val) = some e → Answers (.throttleEnd k mid b) s (fun t =>
        (t.dmc k).isThrottled mid b = false ∧
        (∀ m d, ¬ (m = mid ∧ d = b.val) → (t.dmc k).isThrottled m d = c.isThrottled m d) ∧
        t = { s with dmcs := t.dmcs, time := t.time })) ∧
    (∀ q qs, c.thrBuf = q :: qs → c.sched.length < 64 → st = dmcReady → Answers (.throttledRequestAdmit k) s (fun t =>
      (t.dmc k).thrBuf.take qs.length = qs ∧ (c.inq = [] → c.wait = [] → (t.dmc k).thrBuf = qs) ∧
      (t.dmc k).sched = c.sched ++ [q] ∧
      (t.dmc k).thrAt = t.now + s.fld F.DMC_RD_GAP k * (if s.flag F.DMC_STATUS_RATE k then 8 else 4) ∧ c.thrAt ≤ t.now ∧
      t = { s with dmcs := t.dmcs, time := t.time })) ∧
    (st = dmcTrain → c.trained = false →
      Answers (.dramTraining k true) s (fun t =>
        t.dmcState k = dmcFailed ∧ t.fld F.DMC_STATUS_TRFAIL k = 1 ∧ t.fld F.DMC_ILV_CAP = 0) ∧
      Answers (.dramTraining k false) s (fun t => (t.dmc k).trained = true ∧
        t.dmcState k = (if c.selfRefresh then dmcReady else dmcTrain))) ∧
    (st = dmcTrain → c.trained = true → s.ilvLocked = true → Answers (.trainingComplete k) s (fun t =>
      t.dmcState k = dmcFill ∧ (∀ l : Nat, l < 2 ^ 25 → t.line k l = 0) ∧
      ∀ m l : Nat, l < 2 ^ 25 → m ≠ k.val → t.line m l = s.line m l)) ∧
    (st = dmcFill → Answers (.dramFillComplete k) s (fun t => t = s.setFld F.DMC_STATUS_STATE dmcReady k)) ∧
    (∀ x, c.trans = some x → c.sched = [] → x.quiesced = false → Answers (.transitionQuiesced k) s (fun t =>
      (t.dmc k).trans = some { x with quiesced := true } ∧ (t.dmc k).openRow = {} ∧ t = { s with dmcs := t.dmcs })) ∧
    (∀ x, c.trans = some x → x.quiesced = true → x.rate < 2 → Answers (.transitionComplete k) s (fun t =>
      t.reg .DMC_TIM k x.rate = s.shadowReg .DMC_TIM k x.rate ∧ t.fld F.DMC_STATUS_RATE k = x.rate ∧ t.dmcState k = dmcReady ∧
      (t.dmc k).trans = none)) ∧
    (∀ mid : MasterId, s.ReachesReg mid .DMC_ILV k true → ∀ (ilv : BitVec 3) (cap : BitVec 4),
      (s.ilvLocked = true → ¬ (cap.toNat = s.fld F.DMC_ILV_CAP ∧ ilv.toNat = s.fld F.DMC_ILV_ILV) →
        exec (.ilvGo mid k ilv cap) s = .next (s.noteRsp mid .edeny [])) ∧
      (s.ilvLocked = false → (2 < cap.toNat ∨ 4 < ilv.toNat) →
        exec (.ilvGo mid k ilv cap) s = .next ((s.setFld F.DMC_STATUS_CFGERR 1 k).noteRsp mid .ok [])) ∧
      (s.ilvLocked = false → cap.toNat ≤ 2 → ilv.toNat ≤ 4 → Answers (.ilvGo mid k ilv cap) s (fun t =>
        ((∀ j : Nat, j < 12 → s.dmcState j ≠ dmcFailed) → t.fld F.DMC_ILV_CAP = cap.toNat) ∧
        ((∃ j : Nat, j < 12 ∧ s.dmcState j = dmcFailed) → t.fld F.DMC_ILV_CAP = 0) ∧ t.fld F.DMC_ILV_ILV = ilv.toNat ∧
        t.ilvLocked = true ∧ t.dram = s.dram))) ∧
    (∀ mid : MasterId, s.ReachesReg mid .DMC_CMD k true →
      (st ≠ dmcReady → ∀ rate,
        exec (.fill mid k) s = .next ((s.setFld F.DMC_STATUS_CFGERR 1 k).noteRsp mid .ok []) ∧
        exec (.setrate mid k rate) s = .next ((s.setFld F.DMC_STATUS_CFGERR 1 k).noteRsp mid .ok []) ∧
        exec (.retrain mid k) s = .next ((s.setFld F.DMC_STATUS_CFGERR 1 k).noteRsp mid .ok [])) ∧
      (st = dmcReady → s.channelQuiet k = true → s.userMode = true → Answers (.fill mid k) s (fun t =>
        t.dmcState k = dmcFill ∧ ∀ l : Nat, l < 2 ^ 25 → t.line k l = 0)) ∧
      (st = dmcReady → ∀ (c : Instr) (set : Bool) (rate : Nat),
        (c = .retrain mid k ∧ set = false ∧ rate = s.fld F.DMC_STATUS_RATE k ∨
          (∃ b, c = .setrate mid k b ∧ set = true ∧ rate = bit b)) →
        (timingGood (s.shadowReg .DMC_TIM k rate) = true → Answers c s (fun t =>
          t.dmcState k = dmcTransition ∧ (t.dmc k).trans = some { setrate := set, rate := rate } ∧ t.dram = s.dram)) ∧
        (timingGood (s.shadowReg .DMC_TIM k rate) = false →
          exec c s = .next ((s.setFld F.DMC_STATUS_TIMERR 1 k).noteRsp mid .ok []))))

/-- R315 to R319, R322 to R324, R327 to R329, R331: a read of an encrypted line answers the plaintext of what verifies, and EINTEG
otherwise, and stores nothing while the counter cache has room; ICE_COMMIT enables and disables regions; ICE_CTRL's commands act in
the states that admit them; initialisation and rekeying end in READY; a rekey step re-encrypts a line and moves its boundary; link
keys reach their bridge. -/
def Obligations.EncryptedRegionsVerifyAndRekey : Prop :=
  ∀ (s : State),
    (∀ (k : Fin 12) (n : Nat) (q : LineReq) (x : Xact) (r mu : Nat), s.live (domDM k) = true → s.dmcState k = dmcReady →
      (s.dmc k).sched[n]? = some q → (s.dmc k).mayPerform n q = true → s.xacts.get q.xid none = some x →
      s.pageRetired (s.lineAddr k q.lam) = false → s.ckDram k = false → s.regionOf q.lam = some (r, mu) → q.kind = .read →
      let d := decodeLine (s.line k q.lam)
      let w := (s.iceWalk (some q.who) r k mu).1
      let tag := lineTag (s.dataKey r k mu) 1 (s.lineAddr k q.lam) w.c d.data
      let answers (p : LineReply → State → Prop) : Prop := Answers (.lineAccess k n) s (fun t =>
        (s.ctrLines k + (s.iceLevels r).length < 512 → t.dram = s.dram) ∧ ∃ a, t.xacts.get q.xid none = some (x.takeLine q a) ∧ p a t)
      (s.iceState r = iceReady → d.poison = false → w.bad = none → d.spare = tag →
        answers (fun a _ => a = { data := d.data ^^^ keystream (s.dataKey r k mu) (s.lineAddr k q.lam) w.c })) ∧
      (s.iceState r = iceReady → d.poison = false → w.bad = none → d.spare ≠ tag → answers (fun a t =>
        a.status = .einteg ∧ t.fld F.ICE_CNT_INTEG 0 r = satAdd (fldMax F.ICE_CNT_INTEG) (s.fld F.ICE_CNT_INTEG 0 r) 1)) ∧
      (s.iceState r = iceLocked → answers (fun a t =>
        a.status = .einteg ∧ t.fld F.ICE_CNT_INTEG 0 r = satAdd (fldMax F.ICE_CNT_INTEG) (s.fld F.ICE_CNT_INTEG 0 r) 1)) ∧
      (s.iceState r = iceKeywait → answers (fun a _ => a = { status := .easleep }))) ∧
    (∀ mid : MasterId, s.ReachesReg mid .ICE_COMMIT 0 true →
      (s.iceCommitGood = false → exec (.iceCommit mid) s = .next ((s.setFld F.ICE_STATUS_CFGERR 1).noteRsp mid .ok [])) ∧
      (s.iceCommitGood = true → Answers (.iceCommit mid) s (fun t => ∀ r : Nat, r < 16 →
        t.reg .ICE_RCFG 0 r = s.shadowReg .ICE_RCFG 0 r ∧
        (s.sfld F.ICE_RCFG_EN 0 r = 0 → t.iceState r = iceOff) ∧
        (s.sfld F.ICE_RCFG_EN 0 r = 1 → s.iceState r = iceOff → t.iceState r = iceInit ∧
          t.iceKeys r = { kd0 := s.bankKey (0x80 * r), kd1 := s.bankKey (0x80 * r + 0x20), kt := s.bankKey (0x80 * r + 0x40) }) ∧
        (s.sfld F.ICE_RCFG_EN 0 r = 1 → s.iceState r ≠ iceOff → t.iceState r = s.iceState r)))) ∧
    (∀ r : Fin 16, s.cstate = ckRun → s.iceState r = iceInit → Answers (.regionInitComplete r) s (fun t =>
      t.iceState r = iceReady ∧ (∀ k j : Nat, k < 12 → j < 128 → t.root r k j = 0) ∧
      ∀ k lvl i : Nat, k < 12 → t.cachedCtr r k lvl i = none)) ∧
    (∀ (mid : MasterId) (r : Fin 16), s.ReachesReg mid .ICE_CTRL 0 true →
      let refused (c : Instr) : Prop := exec c s = .next ((s.setFld F.ICE_STATUS_CFGERR 1).noteRsp mid .ok [])
      (s.iceState r = iceReady →
        exec (.keyready mid r) s = .next ((s.setFld F.ICE_RSTAT_SPARE 1 0 r).noteRsp mid .ok [])) ∧
      (s.iceState r ≠ iceReady → refused (.keyready mid r)) ∧
      (s.iceState r = iceKeywait → Answers (.resume mid r) s (fun t =>
        t.iceState r = iceReady ∧ (t.iceKeys r).kd0 = s.bankKey (0x80 * r.val) ∧ t.dram = s.dram)) ∧
      (s.iceState r ≠ iceKeywait → refused (.resume mid r)) ∧
      (mid ≠ 328 → exec (.unlock mid r) s = .next (s.noteRsp mid .edeny [])) ∧
      (mid = 328 → s.iceState r = iceLocked → s.ice.before.get r 0 < 8 → Answers (.unlock mid r) s (fun t =>
        t.iceState r = s.ice.before.get r 0 ∧ t.ice.lockIrq.get r false = false)) ∧
      (mid = 328 → s.iceState r ≠ iceLocked → refused (.unlock mid r)) ∧
      (s.iceState r = iceReady → s.flag F.ICE_RSTAT_SPARE 0 r = true → Answers (.rekey mid r) s (fun t =>
        t.iceState r = iceRekey ∧ (∀ k : Nat, k < 12 → t.fld F.ICE_BND_B 0 r k = 0) ∧
        t.fld F.ICE_RSTAT_KSEL 0 r = s.fld F.ICE_RSTAT_KSEL 0 r)) ∧
      ((s.iceState r ≠ iceReady ∨ s.flag F.ICE_RSTAT_SPARE 0 r = false) → refused (.rekey mid r))) ∧
    (∀ (r : Fin 16) (k : Fin 12), s.live (domDM k) = true → s.iceState r = iceRekey →
      let mu := s.fld F.ICE_BND_B 0 r k
      let n := if s.iceSplit r then 64 else 1
      (mu + n < s.iceLines r → Answers (.rekeyStep r k) s (fun t =>
        t.fld F.ICE_BND_B 0 r k = mu + n ∧ t.iceState r = iceRekey ∧ t.fld F.ICE_RSTAT_KSEL 0 r = s.fld F.ICE_RSTAT_KSEL 0 r)) ∧
      (mu < s.iceLines r → s.iceLines r ≤ mu + n → mu + n < 2 ^ 25 →
        (∀ m : Nat, m < 12 → m ≠ k.val → s.iceLines r ≤ s.fld F.ICE_BND_B 0 r m) →
        Answers (.rekeyStep r k) s (fun t =>
          t.iceState r = iceReady ∧ t.fld F.ICE_RSTAT_KSEL 0 r = 1 - s.fld F.ICE_RSTAT_KSEL 0 r ∧ t.flag F.ICE_RSTAT_SPARE 0 r = false)) ∧
      (let lam := 16384 * s.fld F.ICE_RCFG_BASE 0 r + mu
       let w := (s.iceWalk reencryptor r k mu).1
       let d := decodeLine (s.line k lam)
       let a := s.lineAddr k lam
       let old := (s.iceKeys r).kd (s.fld F.ICE_RSTAT_KSEL 0 r)
       let new := (s.iceKeys r).kd (1 - s.fld F.ICE_RSTAT_KSEL 0 r)
       let e := d.data ^^^ keystream old a w.c ^^^ keystream new a 0
       mu < s.iceLines r → s.iceSplit r = false → s.ctrLines k + (s.iceLevels r).length < 512 →
       lam < 16384 * s.fld F.ICE_RCFG_CBASE 0 r → w.bad = none → d.poison = false →
       d.spare = lineTag old 1 a w.c d.data →
       Answers (.rekeyStep r k) s (fun t => t.line k lam = storeLine e (lineTag new 1 a 0 e) false ∧
         t.cachedCtr r k 0 (s.leafBlock r mu) = some (setCtr w.body (mu % 8) 0)))) ∧
    (∀ b : Fin 16, s.cstate = ckRun → s.ice.linkDue.get b false = true → Answers (.linkKeyTransfer b) s (fun t =>
      t.ice.linkKeys.get b {} = (⟨s.bankKey (0x1000 + 0x80 * b.val), s.bankKey (0x1000 + 0x80 * b.val + 0x20),
        s.bankKey (0x1000 + 0x80 * b.val + 0x40), s.bankKey (0x1000 + 0x80 * b.val + 0x60)⟩ : LinkKeys) ∧ t.ice.linkDue.get b false = false ∧
      (t.bridge b).keyMoved = (s.bridge b).keyNext ∧ t.sbk = s.sbk))

/-- R17, R228, R335 to R341, R343 to R348, R350: quads lock and lose their reference; a lane's commit, acquisition, training and taps;
loss detection moves lanes to LOST and back; received words enter their FIFO or are dropped and counted; on its border clock a lane
takes the word that its sector drives or holds where TXV and TXRDY are 1; test patterns and eye scans start, end or are refused.
After an event on lanes every link looks at its bond (R360, bondWatch), which changes nothing while all are DOWN. -/
def Obligations.LanesTrainCarryWordsAndLoseLock : Prop :=
  ∀ (s : State) (l : Fin 144),
    let q := l.val / 4
    let ln := s.lane l
    let watched (c : Instr) (s : State) (P : State → Prop) : Prop := Answers c s (fun t => ∃ u, P u ∧ t = u.bondWatch)
    ((∀ b : Nat, b < 16 → s.swState b = swDown) → s.bondWatch = s) ∧
    (∀ (mid : MasterId) (q : Fin 36), s.ReachesReg mid .LN_QCOMMIT q true →
      let ref := s.sfld F.LN_QPLL_REFKHZ q
      let m := s.sfld F.LN_QPLL_M q
      (((∀ i ∈ quadLanes q, s.fld F.LN_CFG_USE i = 0) ∧ 100000 ≤ ref ∧ ref ≤ 312500 ∧ 8000000 * 256 ≤ ref * m ∧
          ref * m ≤ 16000000 * 256) →
        watched (.lnQcommit mid q) s (fun t =>
          t.reg .LN_QPLL q = s.shadowReg .LN_QPLL q ∧ t.flag F.LN_QSTATUS_LOCK q = false ∧ t.lanes = s.lanes)) ∧
      (¬ ((∀ i ∈ quadLanes q, s.fld F.LN_CFG_USE i = 0) ∧ 100000 ≤ ref ∧ ref ≤ 312500 ∧ 8000000 * 256 ≤ ref * m ∧
          ref * m ≤ 16000000 * 256) →
        watched (.lnQcommit mid q) s (fun t =>
          t.reg .LN_QPLL q = s.reg .LN_QPLL q ∧ t.flag F.LN_QSTATUS_CFGERR q = true ∧ t.lanes = s.lanes))) ∧
    (∀ q : Fin 36, s.live (domLQ q) = true →
      (s.flag F.LN_QSTATUS_REFLOS q = false → watched (.quadPllLock q) s (fun t => t.flag F.LN_QSTATUS_LOCK q = true)) ∧
      watched (.reflos q) s (fun t =>
        t.flag F.LN_QSTATUS_REFLOS q = true ∧ t.flag F.LN_QSTATUS_LOCK q = false ∧
        ∀ i ∈ quadLanes q, s.lnState i ≠ lnOff → t.flag F.LN_STATUS_LOL i = true ∧
          (s.lnState i = lnReady → s.flag F.LN_STATUS_LOL i = false → t.lnState i = lnLost)) ∧
      watched (.referenceReturn q) s (fun t => t.flag F.LN_QSTATUS_REFLOS q = false ∧ t.lanes = s.lanes)) ∧
    (∀ mid : MasterId, s.ReachesReg mid .LN_COMMIT l true →
      (s.lnCommitBad l = true → watched (.lnCommit mid l) s (fun t =>
        t.flag F.LN_STATUS_CFGERR l = true ∧ t.reg .LN_CFG l = s.reg .LN_CFG l ∧ t.lnState l = s.lnState l)) ∧
      (s.lnCommitBad l = false → watched (.lnCommit mid l) s (fun t =>
        t.reg .LN_CFG l = s.shadowReg .LN_CFG l ∧ t.reg .LN_TXEQ l = s.shadowReg .LN_TXEQ l ∧
        (s.sfld F.LN_CFG_USE l = 0 → t.lnState l = lnOff ∧ t.flag F.LN_STATUS_LOS l = false ∧ t.flag F.LN_STATUS_LOL l = false) ∧
        (s.sfld F.LN_CFG_USE l ≠ 0 → s.lnState l = lnOff → t.lnState l = lnAcquire) ∧
        (s.sfld F.LN_CFG_USE l ≠ 0 → s.lnState l ≠ lnOff → s.shadowReg .LN_CFG l = s.reg .LN_CFG l → t.lnState l = s.lnState l) ∧
        (s.sfld F.LN_CFG_TRAIN l = 0 → t.fld F.LN_STATUS_AMAIN l = s.sfld F.LN_TXEQ_MAIN l)))) ∧
    (s.live (domLQ q) = true →
      let st := s.lnState l
      (st = lnAcquire → s.flag F.LN_STATUS_LOS l = false → s.flag F.LN_STATUS_LOL l = false → s.flag F.LN_QSTATUS_LOCK q = true →
        watched (.acquireDone l) s (fun t => t.lnState l = (if s.fld F.LN_CFG_TRAIN l = 0 then lnReady else lnTrain))) ∧
      (st = lnTrain →
        watched (.trainingEnd l true) s (fun t => t.lnState l = lnReady) ∧
        watched (.trainingEnd l false) s (fun t =>
          t.lnState l = lnAcquire ∧ t.flag F.LN_STATUS_TRAINFAIL l = true ∧
          t.fld F.LN_CNT_TRFAIL l = satAdd (fldMax F.LN_CNT_TRFAIL) (s.fld F.LN_CNT_TRFAIL l) 1)) ∧
      (∀ (tap : Tap) (up : Bool), st = lnTrain →
        let step (v : Nat) : Nat := if up then v + 1 else v - 1
        let old (x : Tap) : Nat := match x with
          | .pre => s.fld F.LN_STATUS_APRE l
          | .main => s.fld F.LN_STATUS_AMAIN l
          | .post => s.fld F.LN_STATUS_APOST l
        let new (x : Tap) : Nat := if x = tap then step (old x) else old x
        (tapsGood (new .pre) (new .main) (new .post) = true → (up = true ∨ old tap ≠ 0) →
          Answers (.coefficientRequest l tap up) s (fun t =>
            t.fld F.LN_STATUS_APRE l = new .pre ∧ t.fld F.LN_STATUS_AMAIN l = new .main ∧ t.fld F.LN_STATUS_APOST l = new .post)) ∧
        (tapsGood (new .pre) (new .main) (new .post) = false → Answers (.coefficientRequest l tap up) s (fun t => t = s))) ∧
      (st ≠ lnOff → s.flag F.LN_STATUS_LOS l = false → watched (.losEvent l) s (fun t =>
        t.flag F.LN_STATUS_LOS l = true ∧ t.flag F.LN_STATUS_LOSEV l = true ∧
        t.fld F.LN_CNT_LOS l = satAdd (fldMax F.LN_CNT_LOS) (s.fld F.LN_CNT_LOS l) 1 ∧
        t.lnState l = (if st = lnReady ∨ st = lnTrain then lnLost else st) ∧
        (s.flag F.LN_CFG_IEN l = true → t.plic.pend.get (45 + l.val) false = true))) ∧
      (st ≠ lnOff → s.flag F.LN_STATUS_LOL l = false → watched (.lolEvent l) s (fun t =>
        t.flag F.LN_STATUS_LOL l = true ∧ t.flag F.LN_STATUS_LOLEV l = true ∧
        t.fld F.LN_CNT_LOL l = satAdd (fldMax F.LN_CNT_LOL) (s.fld F.LN_CNT_LOL l) 1 ∧
        t.lnState l = (if st = lnReady ∨ st = lnTrain then lnLost else st))) ∧
      watched (.losClear l) s (fun t => t.flag F.LN_STATUS_LOS l = false ∧
        t.lnState l = (if st = lnLost ∧ s.flag F.LN_STATUS_LOL l = false then lnAcquire else st)) ∧
      (s.flag F.LN_QSTATUS_LOCK q = true → watched (.lolClear l) s (fun t => t.flag F.LN_STATUS_LOL l = false ∧
        t.lnState l = (if st = lnLost ∧ s.flag F.LN_STATUS_LOS l = false then lnAcquire else st))) ∧
      (∀ w, st = lnReady → s.fld F.LN_TEST_PCHK l = 0 → s.fld F.LN_CFG_USE l = 1 →
        (ln.rx.length < 32 → Answers (.receiveWord l w) s (fun t =>
          (t.lane l).rx = ln.rx ++ [w] ∧ (∀ k : Nat, k ≠ l.val → t.lane k = s.lane k) ∧ t = { s with lanes := t.lanes })) ∧
        (32 ≤ ln.rx.length → Answers (.receiveWord l w) s (fun t =>
          t.lanes = s.lanes ∧ t.flag F.LN_STATUS_OVF l = true ∧
          t.fld F.LN_CNT_OVF l = satAdd (fldMax F.LN_CNT_OVF) (s.fld F.LN_CNT_OVF l) 1))) ∧
      (∀ w, st = lnReady → s.fld F.LN_TEST_PCHK l ≠ 0 →
        let x := (List.range (s.lnWidth l)).foldl
          (fun acc i => checkBit (s.fld F.LN_TEST_PCHK l) (s.reg .LN_UPAT l) acc (xor (s.flag F.LN_TEST_PINV l) (w.getLsbD i)))
          (ln.chk, 0, 0)
        Answers (.receiveWord l w) s (fun t =>
          (t.lane l).chk = x.1 ∧ t.fld F.LN_PCNT_ERRS l = satAdd (fldMax F.LN_PCNT_ERRS) (s.fld F.LN_PCNT_ERRS l) x.2.1 ∧
          t.fld F.LN_PBITS_BITS l = satAdd (fldMax F.LN_PBITS_BITS) (s.fld F.LN_PBITS_BITS l) x.2.2)) ∧
      (∀ (txv : Bool) (w : BitVec 128),
        let x := quadSector (l / 4)
        let v : BitVec 129 := if s.sectorRuns x then bitv txv ++ w else (s.sector x).tx.get l 0
        (s.laneClock l = true → Answers (.transmitWord l txv w) s (fun t =>
          (t.lane l).tx = (if v.getLsbD 128 = true ∧ s.txReady l = true then ln.tx ++ [v.setWidth 128] else ln.tx) ∧
          (s.sectorRuns x = true → (t.sector x).tx.get l 0 = v) ∧ (∀ k : Nat, k ≠ l.val → t.lane k = s.lane k) ∧
          t = { s with lanes := t.lanes, sectors := t.sectors })) ∧
        (s.laneClock l = false → Answers (.transmitWord l txv w) s (fun t => t = s))) ∧
      (s.txOpen l = true → ln.tx = [] → Answers (.txUnderrun l) s (fun t =>
        t.flag F.LN_STATUS_UNDER l = true ∧ t.fld F.LN_CNT_UNDER l = satAdd (fldMax F.LN_CNT_UNDER) (s.fld F.LN_CNT_UNDER l) 1)) ∧
      (∀ errs, s.flag F.LN_ESRES_BUSY l = true → s.fld F.LN_ESCAN_DWELL l ≤ 40 → Answers (.eyeScanDone l errs) s (fun t =>
        t.fld F.LN_ESRES_ERRS l = min errs (2 ^ s.fld F.LN_ESCAN_DWELL l) ∧ t.flag F.LN_ESRES_DONE l = true ∧
        t.flag F.LN_ESRES_BUSY l = false))) ∧
    (∀ (mid : MasterId) (pat : BitVec 4), s.ReachesReg mid .LN_TEST l true →
      let ok := s.fld F.LN_CFG_USE l = 1 ∧ 4 ≤ s.fld F.LN_TEST_SJPER l ∧ s.fld F.LN_TEST_PCHK l ≤ 7 ∧ s.fld F.LN_TEST_PGEN l ≤ 7
      (7 < pat.toNat →
        exec (.pgen mid l pat) s = .next ((s.setFld F.LN_STATUS_CFGERR 1 l).noteRsp mid .ok []) ∧
        exec (.pchk mid l pat) s = .next ((s.setFld F.LN_STATUS_CFGERR 1 l).noteRsp mid .ok [])) ∧
      (pat ≠ 0 → s.fld F.LN_CFG_USE l ≠ 1 →
        exec (.pgen mid l pat) s = .next ((s.setFld F.LN_STATUS_CFGERR 1 l).noteRsp mid .ok [])) ∧
      (ok → pat.toNat ≤ 7 →
        Answers (.pgen mid l pat) s (fun t =>
          t.fld F.LN_TEST_PGEN l = pat.toNat ∧ t.fld F.LN_TEST_PCHK l = s.fld F.LN_TEST_PCHK l ∧ (pat ≠ 0 → (t.lane l).tx = [])) ∧
        Answers (.pchk mid l pat) s (fun t =>
          t.fld F.LN_TEST_PCHK l = pat.toNat ∧ t.fld F.LN_TEST_PGEN l = s.fld F.LN_TEST_PGEN l ∧ t.fld F.LN_PCNT_ERRS l = 0 ∧
          t.fld F.LN_PBITS_BITS l = 0 ∧ t.flag F.LN_STATUS_PLOCK l = false ∧ (t.lane l).chk = {}))) ∧
    (∀ (mid : MasterId) (v : Word), s.ReachesReg mid .LN_ESCAN l true →
      let dw := fldOf F.LN_ESCAN_DWELL v
      let eye := fldOf F.LN_ESCAN_EYE v
      let good := s.lnState l = lnReady ∧ s.flag F.LN_ESRES_BUSY l = false ∧ 10 ≤ dw ∧ dw ≤ 40 ∧
        (if s.flag F.LN_CFG_MOD l = true then eye ≠ 3 else eye = 0)
      (¬ good → exec (.eyeScan mid l v) s = .next ((s.setFld F.LN_STATUS_CFGERR 1 l).noteRsp mid .ok [])) ∧
      (good → Answers (.eyeScan mid l v) s (fun t =>
        t.flag F.LN_ESRES_BUSY l = true ∧ t.flag F.LN_ESRES_DONE l = false ∧ t.fld F.LN_ESCAN_DWELL l = dw ∧
        t.fld F.LN_ESCAN_PHASE l = fldOf F.LN_ESCAN_PHASE v)))

/-- R330, R331, R353, R357 to R364, R377: a bridge's commit; its link goes from DOWN through TRAIN, ALIGN and INIT to UP and falls to
DOWN with the cause of R360; frames are sent against credits, accepted in order or discarded with a NAK, acknowledged and
replayed; link keys change epoch at a frame boundary. -/
def Obligations.LinksTrainAndCarryFramesInOrder : Prop :=
  ∀ (s : State) (b : Fin 16),
    let x := s.bridge b
    let st := s.swState b
    let down (c : Instr) (cause : Nat) : Prop := Answers c s (fun t =>
      t.swState b = swDown ∧ t.fld F.SWP_STATUS_CAUSE b = cause ∧ (t.bridge b).replay = [] ∧ (t.bridge b).retry = false)
    (∀ mid : MasterId, s.ReachesReg mid .SWP_COMMIT b true →
      let same := s.sfld F.SWP_CTRL_EN b = s.fld F.SWP_CTRL_EN b ∧ s.sfld F.SWP_CTRL_NL b = s.fld F.SWP_CTRL_NL b ∧
        s.sfld F.SWP_CTRL_FIRST b = s.fld F.SWP_CTRL_FIRST b
      (s.swpCommitBad b = true → exec (.swpCommit mid b) s = .next ((s.setFld F.SWP_STATUS_CFGERR 1 b).noteRsp mid .ok [])) ∧
      (s.swpCommitBad b = false → Answers (.swpCommit mid b) s (fun t =>
        t.reg .SWP_CTRL b = s.shadowReg .SWP_CTRL b ∧ t.reg .SWP_QBASE b = s.shadowReg .SWP_QBASE b ∧
        (same → t.swState b = st ∧ t.bridge b = x) ∧ (¬ same → t.swState b = swDown ∧ (t.bridge b).retry = true)))) ∧
    (∀ mid : MasterId, s.ReachesReg mid .SWP_KEY b true →
      (mid ≠ 328 → exec (.swpKeyNext mid b) s = .next (s.noteRsp mid .edeny [])) ∧
      (mid = 328 → Answers (.swpKeyNext mid b) s (fun t =>
        (t.bridge b).keyNext = true ∧ t.ice.linkDue.get b false = true ∧ t.regs = s.regs))) ∧
    (s.live (domSB b) = true →
      (st = swDown → s.flag F.SWP_CTRL_EN b = true → x.retry = true → s.bondGood b = true →
        (∀ l ∈ s.bond b, s.lnState l = lnTrain ∨ s.lnState l = lnReady) →
        Answers (.linkTrain b) s (fun t => t.swState b = swTrain ∧ (t.bridge b).downAt = s.now ∧ t.lanes = s.lanes)) ∧
      (st = swTrain → (∀ l ∈ s.bond b, s.lnState l = lnReady) → Answers (.linkAlign b) s (fun t => t.swState b = swAlign)) ∧
      (st = swAlign → Answers (.linkInit b) s (fun t =>
        t.swState b = swInit ∧ (t.bridge b).inits = 0 ∧ t.ice.linkDue.get b false = true)) ∧
      (st = swInit → Answers (.initSend b) s (fun t => (t.bridge b).ctl = s.initBlock b ∧ t = { s with bridges := t.bridges })) ∧
      (∀ w : Word, st = swInit →
        let valid := w.getLsbD 26 = true ∧ s.fld F.SWP_DEVID_VALID = 1
        let matches' := (w.extractLsb' 31 3).toNat = s.fld F.SWP_CTRL_NL b ∧ (w.extractLsb' 34 1).toNat = s.fld F.SWP_CTRL_ENC b
        (¬ valid → down (.init b w) 9) ∧ (valid → ¬ matches' → down (.init b w) 4) ∧
        (valid → matches' → Answers (.init b w) s (fun t =>
          t.fld F.SWP_STATUS_PEERDEV b = (w.extractLsb' 8 18).toNat ∧ t.fld F.SWP_STATUS_PEERBR b = (w.extractLsb' 27 4).toNat ∧
          t.swState b = (if x.inits = 0 then swInit else swUp) ∧
          (x.inits ≠ 0 → (t.bridge b).credits.get 0 0 = (w.extractLsb' 35 9).toNat ∧
            (t.bridge b).credits.get 1 0 = (w.extractLsb' 44 9).toNat ∧ (t.bridge b).credits.get 2 0 = (w.extractLsb' 53 6).toNat ∧
            (t.bridge b).txSeq = 0 ∧ (t.bridge b).rxSeq = 0 ∧ (t.bridge b).txFrames = x.txFrames ∧ (t.bridge b).resync = true)))) ∧
      (st = swTrain → down (.linkTimeout b) 2) ∧ (st = swAlign → down (.linkTimeout b) 3) ∧
      (st = swInit → down (.linkTimeout b) 5) ∧
      (st = swDown → s.flag F.SWP_CTRL_EN b = true → x.retry = false → Answers (.linkRetry b) s (fun t =>
        (t.bridge b).retry = true ∧ t.swState b = swDown)) ∧
      (∀ (cls : Fin 3) (n : Fin 17), st = swUp → 1 ≤ n.val → n.val ≤ 16 → n.val ≤ (x.stream.get cls []).length →
        n.val ≤ x.credits.get cls 0 → x.replay.length < 2048 →
        x.replay.foldl (fun acc f => acc + 32 * f.blocks.length) 0 + 32 * n.val ≤ 65536 →
        Answers (.frameSend b cls n) s (fun t =>
          (t.bridge b).stream.get cls [] = (x.stream.get cls []).drop n ∧ (t.bridge b).credits.get cls 0 = x.credits.get cls 0 - n ∧
          (t.bridge b).txSeq = x.txSeq + 1 ∧
          ∃ f, (t.bridge b).replay = x.replay ++ [f] ∧ f.cls = cls.val ∧ f.seq = x.txSeq ∧ f.crc = f.crcOf ∧
            f.enc = s.flag F.SWP_CTRL_ENC b ∧ f.blocks.length = n.val ∧
            (s.flag F.SWP_CTRL_ENC b = false → f.blocks = ((x.stream.get cls []).take n).map (·.bits)))) ∧
      (∀ f : Frame, st = swUp → f.crc = f.crcOf → f.cls ≤ 2 → f.enc = false → s.flag F.SWP_CTRL_ENC b = false →
        (f.seq = x.rxSeq → Answers (.frameReceive b f false) s (fun t =>
          (t.bridge b).rxSeq = x.rxSeq + 1 ∧ (t.bridge b).nakSent = false ∧ (t.bridge b).acksDue = x.acksDue + 1)) ∧
        (f.seq ≠ x.rxSeq → x.nakSent = false → Answers (.frameReceive b f false) s (fun t =>
          (t.bridge b).rxSeq = x.rxSeq ∧ (t.bridge b).nakSent = true ∧ (t.bridge b).rxs = x.rxs ∧
          (t.bridge b).ctl = BitVec.ofNat 64 (0x44 + x.rxSeq.toNat * 2 ^ 8) ∧
          t.fld F.SWP_CNT_DISC b = satAdd (fldMax F.SWP_CNT_DISC) (s.fld F.SWP_CNT_DISC b) 1))) ∧
      (∀ f : Frame, st = swUp → Answers (.frameReceive b f true) s (fun t =>
        (t.bridge b).rxs = x.rxs ∧ (t.bridge b).rxSeq = x.rxSeq ∧
        t.fld F.SWP_CNT_FECUNC b = satAdd (fldMax F.SWP_CNT_FECUNC) (s.fld F.SWP_CNT_FECUNC b) 1)) ∧
      (∀ (w : Word) f fs (k : Nat), st = swUp → x.replay = f :: fs → k ≤ fs.length → k < 4096 →
        (w.extractLsb' 8 12 : BitVec 12) = f.seq + BitVec.ofNat 12 k → Answers (.ack b w) s (fun t =>
          (t.bridge b).replay = fs.drop k ∧ (t.bridge b).replays = 0 ∧
          (t.bridge b).credits.get 0 0 = x.credits.get 0 0 + (w.extractLsb' 20 9).toNat ∧
          (t.bridge b).credits.get 1 0 = x.credits.get 1 0 + (w.extractLsb' 29 9).toNat ∧
          (t.bridge b).credits.get 2 0 = x.credits.get 2 0 + (w.extractLsb' 38 6).toNat)) ∧
      (st = swUp → Answers (.ackSend b) s (fun t =>
        (t.bridge b).acksDue = 0 ∧ ((t.bridge b).ctl.extractLsb' 0 8 : Byte) = 0x43 ∧
        ((t.bridge b).ctl.extractLsb' 8 12 : BitVec 12) = x.rxSeq - 1 ∧
        (t.bridge b).retCred.get 0 0 = x.retCred.get 0 0 - min (x.retCred.get 0 0) 511)) ∧
      (st = swUp → x.replay ≠ [] → x.replays + 1 < 8 → ∀ c, c = .nak b ∨ c = .replayTimeout b → Answers c s (fun t =>
        (t.bridge b).replay = x.replay ∧ (t.bridge b).replays = x.replays + 1 ∧ t.swState b = swUp ∧
        t.fld F.SWP_CNT_REPLAY b = satAdd (fldMax F.SWP_CNT_REPLAY) (s.fld F.SWP_CNT_REPLAY b) 1)) ∧
      (st = swUp → x.replay ≠ [] → 8 ≤ x.replays + 1 → down (.nak b) 7 ∧ down (.replayTimeout b) 7) ∧
      (x.keyNext = true → x.keyMoved = true → Answers (.epochSwitch b) s (fun t =>
        t.fld F.SWP_KEY_TXEPOCH b = (s.fld F.SWP_KEY_TXEPOCH b + 1) % 256 ∧
        (t.ice.linkKeys.get b {}).txCur = (s.ice.linkKeys.get b {}).txNext ∧
        (t.mb.links.get b {}).txCur = (s.mb.links.get b {}).txNext ∧ (t.bridge b).keyNext = false ∧
        (t.bridge b).txFrames = 0)))

/-- R269, R272, R273, R275, R279, R366 to R374, R377: a packet hops to the next router, waits for its buffer, or leaves at a bridge,
and a closed port drops it; a request received over a link is answered EDEAD, delivered to this device, or sent on, each in a context;
an RT request of a bridge waits for a token; responses go back over the link; descriptors are issued and completed; time exchanges
measure the offset, and the time base steps and is trimmed. -/
def Obligations.BridgesForwardRequestsAndKeepTime : Prop :=
  ∀ (s : State),
    (∀ (f w : Nat) fl, s.cstate = ckRun → s.flights.get f none = some fl →
      let p := fl.pkt
      let waits (q : Nat) : Prop := if p.rt then s.laneFull f q p.out p = true else s.bulkYields f fl = true ∨ s.vcFull f q p.out p = true
      (s.portOpen fl.router p.out = true → p.nh ≠ 0 → ∀ q, meshNext fl.router p.out = some q →
        (¬ waits q → Answers (.packetHop f w) s (fun t =>
          t.flights.get f none = some { fl with pkt := { p with turn := p.turn >>> 2, nh := p.nh - 1 }, router := q, inp := faceOf p.out } ∧
          t.bridges = s.bridges)) ∧
        (waits q → p.rt = true → Answers (.packetHop f w) s (fun t => t.flights = s.flights ∧
          t.fld F.NOC_CNT_RTHOLD fl.router = satAdd (fldMax F.NOC_CNT_RTHOLD) (s.fld F.NOC_CNT_RTHOLD fl.router) w)) ∧
        (waits q → p.rt = false → Answers (.packetHop f w) s (fun t => t = s))) ∧
      (s.portOpen fl.router p.out = true → p.nh = 0 → ∀ b : Nat, bridgeAt fl.router = some b → b < 16 → p.isResponse = false →
        p.rt = false → s.bulkYields f fl = false → (s.ni (8 * bridgeRouter b + 6)).held = [] → s.domOn (domSB b) = true →
        s.fenced (domSB b) = false → s.flag F.NOC_NI_ACCEPT (bridgeRouter b) 6 = true → s.swState b = swUp →
        Answers (.packetHop f w) s (fun t =>
          t.flights.get f none = none ∧ (t.bridge b).stream.get 0 [] = (s.bridge b).stream.get 0 [] ++ p.blocks ∧
          (fl.xid.isSome → (t.ni (8 * bridgeRouter b + 6)).infl = (s.ni (8 * bridgeRouter b + 6)).infl + 1))) ∧
      (s.portOpen fl.router p.out = false → fl.router < 64 →
        (p.isResponse = false → Answers (.packetHop f w) s (fun t =>
          t.flights.get f none = none ∧
          (∃ old, (t.bridge (bridgeOf p.mid)).rsps = (s.bridge (bridgeOf p.mid)).rsps ++ [(p.tag.toNat, p.answer .edead old)]) ∧
          t.fld F.NOC_CNT_EDEAD fl.router = satAdd (fldMax F.NOC_CNT_EDEAD) (s.fld F.NOC_CNT_EDEAD fl.router) 1)) ∧
        (p.isResponse = true → Answers (.packetHop f w) s (fun t =>
          t.flights.get f none = none ∧ t.bridges = s.bridges ∧
          t.fld F.NOC_CNT_RSPDROP fl.router = satAdd (fldMax F.NOC_CNT_RSPDROP) (s.fld F.NOC_CNT_RSPDROP fl.router) 1)))) ∧
    (∀ (b : Fin 16), s.live (domSB b) = true →
      let x := s.bridge b
      let r : Fin 64 := ⟨bridgeRouter b % 64, Nat.mod_lt _ (by decide)⟩
      let key := 8 * bridgeRouter b + 6
      let sent (t : State) (q : Packet) : Prop := (t.bridge b).stream.get q.linkClass [] = x.stream.get q.linkClass [] ++ q.blocks
      (∀ p at' rest, x.reqs = (p, at') :: rest → s.swState b = swUp → ∀ same : Bool,
        let dead (t : State) : Prop := (t.bridge b).reqs = rest ∧ ∃ old, sent t (s.backPacket b (p.answer .edead old))
        (p.dhops ≤ 1 → p.ddev ≠ s.fld F.SWP_DEVID_ID → s.flag F.SWP_CTRL_RELAY b = false →
          Answers (.linkRequest b same) s dead) ∧
        (∀ k m, p.dhops ≤ 1 → p.ddev = s.fld F.SWP_DEVID_ID → s.freeCtx b = some k → regionAt p.addr = some (.slice m) →
          Answers (.linkRequest b same) s (fun t =>
            (t.bridge b).reqs = rest ∧ (t.bridge b).ctxs.get k none = some (.link p.mid p.tag p.cmd none) ∧
            t.xnext = s.xnext + 1 ∧ ∃ y, t.xacts.get s.xnext none = some y ∧ y.mid = bridgeMid b ∧
              y.kind = (kindOf p.cmd).getD .reserved ∧ y.addr = p.addr ∧ y.same = same)) ∧
        (∀ k, 2 ≤ p.dhops → p.hop.toNat % 16 = b.val → s.freeCtx b = some k →
          let pk : Packet := { p with dhops := p.dhops - 1, hop := p.hop >>> 4, mid := bridgeMid b, tag := BitVec.ofNat 8 k }
          let went (t : State) : Prop := (t.bridge b).reqs = rest ∧
            (t.bridge b).ctxs.get k none = some (.link p.mid p.tag p.cmd (some b.val))
          (p.rt = false → Answers (.linkRequest b same) s (fun t =>
            went t ∧ sent t pk ∧ (t.ni key).outst = (s.ni key).outst + 1)) ∧
          (p.rt = true → s.flag F.NOC_NI_RTTX (bridgeRouter b) 6 = true → Answers (.linkRequest b same) s (fun t =>
            went t ∧ (t.ni key).rtq = (s.ni key).rtq ++ [s.xnext] ∧
            ∃ y, t.xacts.get s.xnext none = some y ∧ y.far = some (b.val, pk) ∧ y.mid = bridgeMid b ∧ y.src = key))) ∧
        (s.fld F.NOC_NI_RTMO (bridgeRouter b) 6 ≠ 0 → Answers (.contextWaitTimeout b) s dead)) ∧
      (∀ n ns y pk, s.cstate = ckRun → s.swState b = swUp → (s.ni key).rtq = n :: ns → 0 < s.fld F.NOC_NISTAT_TOKENS r 6 →
        s.xacts.get n none = some y → y.far = some (b.val, pk) → y.mid = bridgeMid b → y.src = key →
        Answers (.rtInject r 6) s (fun t =>
          sent t pk ∧ (t.ni key).rtq = ns ∧ (t.ni key).outst = (s.ni key).outst + 1 ∧
          t.fld F.NOC_NISTAT_TOKENS r 6 = s.fld F.NOC_NISTAT_TOKENS r 6 - 1)) ∧
      (∀ k p mid tag cmd o, x.rsps = [(k, p)] → x.ctxs.get k none = some (.link mid tag cmd o) → s.swState b = swUp →
        Answers (.bridgeResponse b) s (fun t =>
          (t.bridge b).rsps = [] ∧ (t.bridge b).ctxs.get k none = none ∧
          sent t (s.backPacket b { p with mid := mid, tag := tag, cmd := rspCode cmd }))) ∧
      (∀ k, s.freeCtx b = some k → x.rtIssue ≠ s.fld F.SWP_RTHEAD_HEAD b → s.descOut b true < 16 → x.rtIssue < 16 →
        let w (i : Nat) := s.reg .SWP_RTQ b x.rtIssue i
        let r := s.drtLookup b ((w 0).extractLsb' 0 18).toNat
        ((w 0).extractLsb' 32 5).toNat = 2 → ((w 0).extractLsb' 24 7).toNat = 1 → (w 0).getLsbD 38 = true → (w 0).getLsbD 39 = true →
        let pk : Packet :=
          { addr := (w 1).toNat % 2 ^ 48, mid := bridgeMid b, tag := BitVec.ofNat 8 k, len := 1, cmd := 2, rt := true,
            ddev := ((w 0).extractLsb' 0 18).toNat, sdev := s.fld F.SWP_DEVID_ID, dhops := fldOf F.SWP_DRT_DHOPS r,
            hop := BitVec.ofNat 28 (fldOf F.SWP_DRT_HOP r), words := [(w 3, false)] }
        let issued (t : State) : Prop := (t.bridge b).rtIssue = (x.rtIssue + 1) % 16 ∧
          (t.bridge b).ctxs.get k none = some (.desc true x.rtIssue b.val)
        (fldOf F.SWP_DRT_V r = 1 → fldOf F.SWP_DRT_FIRST r = b.val →
          (s.flag F.NOC_NI_RTTX (bridgeRouter b) 6 = true → Answers (.descriptorIssue b) s (fun t =>
            issued t ∧ (t.ni key).rtq = (s.ni key).rtq ++ [s.xnext] ∧
            ∃ y, t.xacts.get s.xnext none = some y ∧ y.far = some (b.val, pk) ∧ y.mid = bridgeMid b ∧ y.src = key)) ∧
          (s.flag F.NOC_NI_RTTX (bridgeRouter b) 6 = false → Answers (.descriptorIssue b) s (fun t =>
            issued t ∧ ∃ old, (t.bridge b).rsps = x.rsps ++ [(k, pk.answer .edeny old)]))) ∧
        (fldOf F.SWP_DRT_V r = 0 → Answers (.descriptorIssue b) s (fun t =>
          (t.bridge b).rtIssue = (x.rtIssue + 1) % 16 ∧ (t.reg .SWP_RTQ b x.rtIssue 0).getLsbD 63 = true ∧
          ((t.reg .SWP_RTQ b x.rtIssue 0).extractLsb' 56 4).toNat = Status.edead.code))) ∧
      (∀ k p e o, x.rsps = [(k, p)] → x.ctxs.get k none = some (.desc true e o) → e < 16 → x.rtDone = [] →
        s.fld F.SWP_RTTAIL_TAIL b = e → p.status = 0 → (s.reg .SWP_RTQ b e 0).getLsbD 39 = true →
        ∀ v, p.words = [v] → Answers (.descriptorComplete b) s (fun t =>
          (t.bridge b).rsps = [] ∧ (t.bridge b).ctxs.get k none = none ∧ (t.reg .SWP_RTQ b e 0).getLsbD 63 = true ∧
          t.reg .SWP_RTQ b e 3 = v.1 ∧ t.fld F.SWP_RTTAIL_TAIL b = (e + 1) % 16 ∧
          ((s.reg .SWP_RTQ b e 0).getLsbD 40 = true → t.plic.pend.get (13 + b.val) false = true))) ∧
      (s.swState b = swUp → s.flag F.SWP_CTRL_TIMEEN b = true →
        (∀ t1, Answers (.timeSyncSend b t1) s (fun t => (t.bridge b).exch = (x.exch + 1) % 256 ∧ (t.bridge b).t1 = t1 ∧
          ((t.bridge b).ctl.extractLsb' 10 8).toNat = (x.exch + 1) % 256)) ∧
        (∀ e aligned, Answers (.timeSync b e aligned) s (fun t => (t.bridge b).peerAligned = aligned ∧
          ((t.bridge b).ctl.extractLsb' 10 8).toNat = e % 256 ∧ (t.bridge b).ctl.getLsbD 8 = true)) ∧
        (∀ (e t2 t3 t4 : Nat) (aligned : Bool), e % 256 = x.exch →
          let n := 2 ^ s.fld F.TB_CTRL_NAVG
          let theta : Int := x.sumTheta + (((t2 : Int) - x.t1) - ((t4 : Int) - t3) - ((s.reg .SWP_ASYM b).setWidth 32 : BitVec 32).toInt)
          let delta : Int := x.sumDelta + (((t2 : Int) - x.t1) + ((t4 : Int) - t3))
          (x.nExch + 1 < n → Answers (.timeReply b e t2 t3 t4 aligned) s (fun t =>
            (t.bridge b).sumTheta = theta ∧ (t.bridge b).sumDelta = delta ∧ (t.bridge b).nExch = x.nExch + 1)) ∧
          (n ≤ x.nExch + 1 → Answers (.timeReply b e t2 t3 t4 aligned) s (fun t =>
            t.reg .SWP_LINK b = (BitVec.ofInt 32 (delta / (2 * n : Nat))) ++ (BitVec.ofInt 32 (theta / (2 * n : Nat))) ∧
            (t.bridge b).sumTheta = 0 ∧ (t.bridge b).nExch = 0))))) ∧
    (∀ (mid : MasterId) (b : Fin 16),
      (s.ReachesReg mid .SWP_QHEAD b true → ∀ h : BitVec 16,
        exec (.qhead mid b h) s = .next ((if h.toNat < s.fld F.SWP_QSIZE_SIZE b then s.setFld F.SWP_QHEAD_HEAD h.toNat b
          else s.setFld F.SWP_STATUS_CFGERR 1 b).noteRsp mid .ok [])) ∧
      (s.ReachesReg mid .SWP_RTHEAD b true → ∀ h : BitVec 4,
        exec (.rthead mid b h) s = .next ((s.setFld F.SWP_RTHEAD_HEAD h.toNat b).noteRsp mid .ok []))) ∧
    (∀ (mid : MasterId) (v : Word), s.ReachesReg mid .TB_STEP 0 true →
      (s.fld F.TB_CTRL_MODE = 0 → Answers (.tbStep mid v) s (fun t => t.tb.step = v.toInt ∧ t.flag F.TB_STATUS_PEND = true)) ∧
      (s.fld F.TB_CTRL_MODE ≠ 0 → exec (.tbStep mid v) s = .next ((s.setFld F.TB_STATUS_CFGERR 1).noteRsp mid .ok []))) ∧
    (∀ mid : MasterId, s.ReachesReg mid .TB_TIME 0 false → s.inspects mid = false →
      exec (.tbTimeRead mid) s = .next ((s.setFld F.TB_FRAC_FRAC s.tb.frac).noteRsp mid .ok [(s.time, false)])) ∧
    (s.cstate = ckRun → s.flag F.TB_STATUS_PEND = true → s.noStream = true → Answers .stepApply s (fun t =>
      let x : Int := (s.tb.frac : Int) + s.tb.step
      t.time = BitVec.ofInt 64 ((s.atTime s.nextQuiet).time.toNat + x / 512) ∧ t.tb.frac = (x % 512).toNat ∧
      t.flag F.TB_STATUS_PEND = false ∧ t.flag F.TB_STATUS_STEPEV = true)) ∧
    (s.cstate = ckRun → s.fld F.TB_CTRL_MODE = 2 → s.flag F.TB_STATUS_HOLD = false → Answers .servoTrim s (fun t =>
      let offs := ((s.reg .SWP_LINK (s.fld F.TB_CTRL_SRC)).setWidth 32 : BitVec 32).toInt
      let old := ((s.reg .TB_STATUS).extractLsb' 32 32 : BitVec 32).toInt
      ∃ d : Nat, d ≤ 102 ∧ ((t.reg .TB_STATUS).extractLsb' 32 32 : BitVec 32) = BitVec.ofInt 32
        (if 0 < offs then min (old + d) 40960 else if offs < 0 then max (old - d) (-40960) else old)))

/-- R389, R390, R392, R476 to R480: an error record that reaches the log merges with the newest, is accepted with its number and the
ERR interrupt, or is dropped and counted; ERR_PTR frees records; a monitor commits its events or refuses, clears, closes its
windows, and acts on the global commands that the routers hand to it; DBG_EWCOMMIT commits the watch units or is refused. -/
def Obligations.ErrorRecordsAreLoggedAndMonitorsObey : Prop :=
  ∀ (s : State),
    (∀ r rest, s.cstate = ckRun → s.err.onWay = r :: rest →
      let wp := s.fld F.ERR_PTR_WP
      let u := (wp + 512 - s.fld F.ERR_PTR_RP) % 512
      let merges (l : LogRec) : Prop := u ≠ 0 ∧ s.errRec ((wp + 511) % 512) = some l ∧ l.body.kind = r.kind ∧ l.body.inst = r.inst ∧
        l.body.cls = r.cls ∧ l.body.loc = r.loc
      let limit := if r.cls = 0x01 ∨ r.cls = 0x07 then 480 else 511
      (∀ l, merges l → Answers .errorRecord s (fun t =>
        t.errRec ((wp + 511) % 512) = some { l with count := satAdd 65535 l.count 1 } ∧ t.fld F.ERR_PTR_WP = wp ∧ t.err.onWay = rest)) ∧
      ((∀ l, ¬ merges l) → u < limit → Answers .errorRecord s (fun t =>
        t.errRec wp = some { body := r, count := 1, time := s.time, seq := s.err.seq } ∧ t.fld F.ERR_PTR_WP = (wp + 1) % 512 ∧
        t.err.seq = s.err.seq + 1 ∧ t.err.onWay = rest ∧ t.plic.pend.get 9 false = true ∧
        ∀ i : Nat, i ≠ wp → t.errRec i = s.errRec i)) ∧
      ((∀ l, ¬ merges l) → limit ≤ u → Answers .errorRecord s (fun t =>
        t.err.recs = s.err.recs ∧ t.fld F.ERR_PTR_WP = wp ∧ t.err.onWay = rest ∧ t.flag F.ERR_STATUS_OVF = true ∧
        (limit = 480 → t.fld F.ERR_CNT_DROP0 = satAdd (fldMax F.ERR_CNT_DROP0) (s.fld F.ERR_CNT_DROP0) 1) ∧
        (limit = 511 → t.fld F.ERR_CNT_DROP1 = satAdd (fldMax F.ERR_CNT_DROP1) (s.fld F.ERR_CNT_DROP1) 1)))) ∧
    (∀ (mid : MasterId) (rp : BitVec 9), s.ReachesReg mid .ERR_PTR 0 true →
      exec (.errPtrWrite mid rp) s = .next
        ((if (rp.toNat + 512 - s.fld F.ERR_PTR_RP) % 512 ≤ (s.fld F.ERR_PTR_WP + 512 - s.fld F.ERR_PTR_RP) % 512
          then s.setFld F.ERR_PTR_RP rp.toNat else s.setFld F.ERR_STATUS_CFGERR 1).noteRsp mid .ok [])) ∧
    (∀ (mid : MasterId) (ix : Fin 412), s.ReachesReg mid .PMON_COMMIT ix true →
      let good := (∀ j : Nat, j < 8 → pmonEventGood ix (s.sfld F.PMON_EVT_EVT ix j) = true ∧
          (64 ≤ ix.val → s.sfld F.PMON_EVT_PORT ix j = 0)) ∧ s.sfld F.PMON_FMID_PRIV ix ≠ 3 ∧ s.sfld F.PMON_FMID_CLASS ix ≠ 3 ∧
        s.sfld F.PMON_FLO_ADDR ix ≤ s.sfld F.PMON_FHI_ADDR ix
      (good → Answers (.pmonCommit mid ix) s (fun t =>
        (∀ j : Nat, j < 8 → t.reg .PMON_EVT ix j = s.shadowReg .PMON_EVT ix j) ∧ t.reg .PMON_FMID ix = s.shadowReg .PMON_FMID ix ∧
        t.regs = s.regs)) ∧
      (¬ good → exec (.pmonCommit mid ix) s = .next ((s.setFld F.PMON_STATUS_CFGERR 1 ix).noteRsp mid .ok []))) ∧
    (∀ (mid : MasterId) (ix : Fin 412), s.ReachesReg mid .PMON_CTL ix true → Answers (.pmonClr mid ix) s (fun t =>
      (∀ j : Nat, j < 8 → t.fld F.PMON_CNT_COUNT ix j = 0) ∧ t.reg .PMON_CYC ix = 0 ∧
      t.fld F.PMON_CTL_RUN ix = s.fld F.PMON_CTL_RUN ix ∧ t.fld F.PMON_CTL_IEN ix = s.fld F.PMON_CTL_IEN ix)) ∧
    (∀ (ix : Fin 412) (bytes : List Nat), s.cstate = ckRun → s.fld F.PMON_WIN_WIN ix ≠ 0 → s.pmonCounts ix = true →
      Answers (.pmonWindowClose ix bytes) s (fun t =>
        t.flag F.PMON_STATUS_WINF ix = true ∧ (s.flag F.PMON_CTL_IEN ix = true → t.plic.pend.get 261 false = true) ∧
        ∀ p : Nat, p < (if ix.val < 64 then 8 else 1) →
          let n := min (bytes.getD p 0) (2 ^ 32 - 1)
          t.fld F.PMON_BW_BYTES ix p = n ∧
          t.fld F.PMON_BW_MBPS ix p = min (n * 8 * pmonHz ix / s.fld F.PMON_WIN_WIN ix / 1000000) (2 ^ 32 - 1))) ∧
    (∀ (mid : MasterId) (c : Instr) (op : Nat), s.ReachesReg mid .DBG_PMCMD 0 true →
      (c = .freeze mid ∧ op = 0 ∨ c = .run mid ∧ op = 1 ∨ c = .snap mid ∧ op = 2 ∨ c = .clearCounters mid ∧ op = 3) →
      let at' := (s.reg .DBG_PMTIME).toNat
      (at' < s.now + 4800 → exec c s = .next ((s.setFld F.DBG_STATUS_CFGERR 1).noteRsp mid .ok [])) ∧
      (s.now + 4800 ≤ at' → Answers c s (fun t => ∀ r : Nat, r < 64 → ∀ ix ∈ pmonsAt r,
        t.dbg.cmds.get ix [] = s.dbg.cmds.get ix [] ++
          (if s.flag F.NOC_NI_RTRX r 0 then [{ op := op, t := roundUp 8 at' }] else [])))) ∧
    (∀ (ix : Fin 412) (c : PmonCmd) rest, s.cstate = ckRun → s.dbg.cmds.get ix [] = c :: rest → s.pmonOn ix = true →
      Answers (.globalCommandAct ix true) s (fun t => t.flag F.PMON_STATUS_LATE ix = true ∧ t.dbg.cmds.get ix [] = rest ∧
        t.fld F.PMON_STATUS_FROZEN ix = s.fld F.PMON_STATUS_FROZEN ix) ∧
      Answers (.globalCommandAct ix false) s (fun t => t.dbg.cmds.get ix [] = rest ∧
        (c.op = 0 → t.flag F.PMON_STATUS_FROZEN ix = true) ∧ (c.op = 1 → t.flag F.PMON_STATUS_FROZEN ix = false) ∧
        (c.op = 2 → ∀ j : Nat, j < 8 → t.fld F.PMON_SNAP_COUNT ix j = s.fld F.PMON_CNT_COUNT ix j) ∧
        (c.op = 3 → (∀ j : Nat, j < 8 → t.fld F.PMON_CNT_COUNT ix j = 0) ∧ t.reg .PMON_CYC ix = 0))) ∧
    (∀ mid : MasterId, s.ReachesReg mid .DBG_EWCOMMIT 0 true →
      ((∃ u : Nat, u < 16 ∧ 4 ≤ s.sfld F.DBG_EWCFG_SRC 0 u) →
        exec (.dbgEwcommit mid) s = .next ((s.setFld F.DBG_STATUS_CFGERR 1).noteRsp mid .ok [])) ∧
      ((∀ u : Nat, u < 16 → s.sfld F.DBG_EWCFG_SRC 0 u < 4) → Answers (.dbgEwcommit mid) s (fun t =>
        (∀ u : Nat, u < 16 → t.reg .DBG_EWCFG 0 u = s.shadowReg .DBG_EWCFG 0 u) ∧ t.regs = s.regs)))

/-- R394 to R400, R404: a lockstep mismatch reboots Mbana or, for the third time in 10 s, ends in SAFE; a boot ends in firmware or in the
ROM service; the ports answer what is addressed to them; a packet that arrives whole enters the intake queue, one of another version or
of an unknown opcode is answered with status 3, and one beyond four of its transport with status 1. -/
def Obligations.PortsAnswerAndDeliverPackets : Prop :=
  ∀ (s : State),
    let queued (p : MbPkt) (same : Bool) : List MbPkt :=
      insertPacket { p with cyc := if same then s.mb.cyc else s.mb.cyc + 1 } s.mb.queue
    let room (via : Nat) : Prop := (s.mb.queue.filter (fun q => q.via == via)).length < 4
    (s.mb.run ≠ .off → s.mb.run ≠ .safe →
      let recent := (s.mb.mism ++ [s.rtc]).filter (fun t => decide (s.rtc ≤ t + 10))
      Answers .lockstepMismatch s (fun t =>
        t.fld F.LCS_STATUS_LSMIS = satAdd (fldMax F.LCS_STATUS_LSMIS) (s.fld F.LCS_STATUS_LSMIS) 1 ∧ t.mb.mism = recent ∧
        (3 ≤ recent.length → t.mb.run = .safe ∧ t.flag F.LCS_STATUS_SAFE = true) ∧
        (recent.length < 3 → t.mb.run = .booting ∧ t.mb.cause = 1) ∧
        t.engines = s.engines ∧ t.loader = s.loader ∧ t.bridges = s.bridges ∧ t.mb.queue = s.mb.queue)) ∧
    (s.mb.run = .booting →
      let q := s.loadSettings.bootTrial
      let u := q.2.2
      Answers .mbanaRebootComplete s (fun t =>
        (u.fwValid q.1 = true → t.mb.run = .firmware ∧ t.mb.slot = q.1) ∧
        (u.fwValid q.1 = false → u.fwValid (1 - q.1) = true → t.mb.run = .firmware ∧ t.mb.slot = 1 - q.1) ∧
        (u.fwValid q.1 = false → u.fwValid (1 - q.1) = false → t.mb.run = .rom) ∧
        t.mb.bootRtc = s.rtc ∧ t.mb.cause = 5 ∧ t.mbServes = true ∧
        (u.trialState = 2 → t.mb.confirmBy = some (s.rtc + 600)))) ∧
    (∀ (v6 : Bool) (dst : BitVec 128) (ck peer : Nat) (bs : List Byte) (same : Bool),
      s.portAnswers = true → (if v6 then s.ownIp6 dst else s.ownIp4 (dst.setWidth 32)) = true → (ck = 0 ∨ ck = 2 ∧ v6 = false) →
      let c : Instr := .udpDatagram v6 dst 4950 false ck peer bs same
      (parsePacket 0 peer bs = none → exec c s = .next s) ∧
      (∀ ver p, parsePacket 0 peer bs = some (ver, p) →
        (ver = 1 → p.op ∈ mbOpcodes → room 0 → Answers c s (fun t => t.mb.queue = queued p same ∧ t.mb.sent = s.mb.sent)) ∧
        ((ver ≠ 1 ∨ p.op ∉ mbOpcodes) → Answers c s (fun t =>
          t.mb.queue = s.mb.queue ∧ t.mb.sent = s.mb.sent ++ [.reply (p.reply 3 [])])) ∧
        (ver = 1 → p.op ∈ mbOpcodes → ¬ room 0 → Answers c s (fun t =>
          t.mb.queue = s.mb.queue ∧ t.mb.sent = s.mb.sent ++ [.reply (p.reply 1 [])])))) ∧
    (∀ (v6 frag : Bool) (dst : BitVec 128) (port : BitVec 16) (ck peer : Nat) (bs : List Byte) (same : Bool),
      (s.portAnswers = false ∨ port ≠ 4950 ∨ frag = true ∨ ck = 1 ∨ ck = 2 ∧ v6 = true) →
      exec (.udpDatagram v6 dst port frag ck peer bs same) s = .next s) ∧
    (∀ (ip : BitVec 32) (src : BitVec 48), exec (.arpRequest ip src) s = .next
      (if s.portAnswers ∧ s.ownIp4 ip then s.modMb (fun m => { m with sent := m.sent ++ [.arp ip src] }) else s)) ∧
    (∀ (dst src : BitVec 128) (data : List Byte), s.portAnswers = true →
      (s.ownIp6 dst = true → exec (.icmpEcho true dst src data) s = .next
        (s.modMb (fun m => { m with sent := m.sent ++ [.echo6 src data] }))) ∧
      (s.ownIp4 (dst.setWidth 32) = true → exec (.icmpEcho false dst src data) s = .next
        (s.modMb (fun m => { m with sent := m.sent ++ [.echo4 (src.setWidth 32) data] })))) ∧
    (∀ (target src : BitVec 128), exec (.neighborDiscovery target src) s = .next
      (if s.portAnswers ∧ s.ownIp6 target then s.modMb (fun m => { m with sent := m.sent ++ [.neighbor target src] }) else s)) ∧
    (∀ (bs : List Byte) (same : Bool), s.io.spis.en = true →
      (s.mb.run = .booting → exec (.spiCommandFrame bs same) s = .next (s.modIo (fun x => { x with spis := { x.spis with rx := bs } }))) ∧
      (s.mbServes = true → ∀ ver p, parsePacket 1 0 bs = some (ver, p) →
        (ver = 1 → p.op ∈ mbOpcodes → room 1 → Answers (.spiCommandFrame bs same) s (fun t =>
          t.mb.queue = queued p same ∧ t.mb.spiReply = [])) ∧
        (ver = 1 → p.op ∈ mbOpcodes → ¬ room 1 → Answers (.spiCommandFrame bs same) s (fun t =>
          t.mb.queue = s.mb.queue ∧ t.mb.spiReply = (p.reply 1 []).bytes)) ∧
        ((ver ≠ 1 ∨ p.op ∉ mbOpcodes) → Answers (.spiCommandFrame bs same) s (fun t =>
          t.mb.queue = s.mb.queue ∧ t.mb.spiReply = (p.reply 3 []).bytes)))) ∧
    (s.io.spis.en = true → s.mbServes = true →
      exec .spiReplyFrame s = .next (s.modMb (fun m => { m with spiOut := m.spiReply }))) ∧
    (s.io.spis.en = true → exec .spiStatusFrame s = .next (s.modMb (fun m => { m with spiOut :=
      [BitVec.ofNat 8 ((if s.mb.spiReply = [] then 0 else 1) + (if s.mb.queue.any (fun q => q.via == 1) then 2 else 0) +
        (if s.mb.run = .safe then 4 else 0))] }))) ∧
    (∀ (mid : MasterId) (j : Fin 24) (same : Bool), s.ReachesReg mid .MGT_MBCTL j true →
      let waits := s.flag F.MGT_MBSTAT_PEND j = true ∨ s.flag F.MGT_MBSTAT_BUSY j = true
      (waits → exec (.mailboxGo mid j same) s = .next (s.noteRsp mid .ok [])) ∧
      (¬ waits → s.mbServes = false → Answers (.mailboxGo mid j same) s (fun t => t.flag F.MGT_MBSTAT_PEND j = true ∧
        t.flag F.MGT_MBSTAT_DONE j = false ∧ t.flag F.MGT_MBSTAT_REJECT j = false ∧ t.mb = s.mb)) ∧
      (¬ waits → s.mbServes = true → parsePacket (2 + j) 0 (s.mboxPacket j) = none → Answers (.mailboxGo mid j same) s (fun t =>
        t.flag F.MGT_MBSTAT_PEND j = false ∧ t.flag F.MGT_MBSTAT_DONE j = false ∧ t.flag F.MGT_MBSTAT_REJECT j = true ∧ t.mb = s.mb)) ∧
      (¬ waits → s.mbServes = true → ∀ p, parsePacket (2 + j) 0 (s.mboxPacket j) = some (1, p) → p.op ∈ mbOpcodes → room (2 + j) →
        Answers (.mailboxGo mid j same) s (fun t => t.mb.queue = queued p same ∧ t.flag F.MGT_MBSTAT_PEND j = true ∧
          t.flag F.MGT_MBSTAT_BUSY j = false ∧ t.flag F.MGT_MBSTAT_DONE j = false))) ∧
    (∀ up : Bool, exec (.managementPortLink up) s = .next
      (s.modMb (fun m => { m with portUp := up && s.flag F.CLK_STATUS_MPLLLOCK })))

/-- R400, R401, R403, R405, R406, R408, R421: every command of R405 waits for its turn at the front of the queue, a repeated packet gets
its stored reply, refusals come in the order of R400, and the replies of the commands that change nothing are as R405 lays them out. -/
def Obligations.CommandsAreCheckedInOrderAndReadsAnswer : Prop :=
  ∀ (s : State),
    (∀ (c : Instr) (op : Nat),
      ((c, op) ∈ ([(.ping, 0x100), (.getid, 0x101), (.claim, 0x102), (.release, 0x103), (.reset, 0x104), (.set, 0x105), (.get, 0x106),
        (.attest, 0x107), (.icekey, 0x108), (.iceunlock, 0x109), (.linkkey, 0x10A), (.cfgstat, 0x200), (.load, 0x201)] ++
        [(.streamBegin, 0x202), (.streamData, 0x203), (.streamEnd, 0x204), (.donerel, 0x205), (.imgwriteBegin, 0x206),
        (.imgwriteData, 0x207), (.imgwriteEnd, 0x208), (.setslot, 0x209), (.sensors, 0x300), (.thresh, 0x301), (.logread, 0x302)] ++
        [(.fwBegin, 0x400), (.fwData, 0x401), (.fwEnd, 0x402), (.fwActivate, 0x403), (.fwConfirm, 0x404), (.fwStat, 0x405),
        (.smpPower, 0x500), (.smpReset, 0x501), (.smpRelay, 0x502), (.smpstat, 0x503), (.dbgChal, 0x600), (.dbgResp, 0x601)] ++
        [(.dbgPass, 0x602), (.dbgRevoke, 0x603), (.dbgTunnel, 0x604), (.pwrDomain, 0x700), (.pwrStat, 0x701), (.clkGlobal, 0x702),
        (.dramRate, 0x703), (.vtrim true, 0x704), (.vtrim false, 0x704), (.sleep, 0x705), (.lcStat, 0x800), (.lcNonce, 0x801)] ++
        [(.lcProvision, 0x802), (.lcCert, 0x803), (.lcDeploy, 0x804), (.lcRma, 0x805), (.lcScrap, 0x806), (.tamperClear, 0x807)] :
        List (Instr × Nat))) →
      (s.mb.queue = [] → exec c s = .next s) ∧
      (∀ p rest, s.mb.queue = p :: rest → (s.mbServes = false ∨ p.op ≠ op) → exec c s = .next s) ∧
      (∀ p rest, s.mbServes = true → s.mb.queue = p :: rest → p.op = op →
        let u := s.taken p rest
        (∀ r, s.storedReply p = some r → exec c s = .next (u.sendReply r)) ∧
        (s.storedReply p = none →
          (p.twin = true → exec c s = .next (u.sendReply (p.reply 6 []))) ∧
          (p.twin = false → s.opAllowed p = false → exec c s = .next (u.sendReply (p.reply 2 []))) ∧
          (p.twin = false → s.opAllowed p = true → s.owned p = false →
            exec c s = .next (u.sendReply (p.reply 4 [])) ∨ exec c s = .next (u.sendReply (p.reply 5 [])))))) ∧
    (∀ (r : MbReply) (record : Bool) (params : List Byte), let t := s.completeCmd r record params
      t.mb.last.get r.via none = some r ∧ (r.via = 0 → t.mb.sent = s.mb.sent ++ [.reply r]) ∧
      (r.via = 1 → t.mb.spiReply = r.bytes) ∧ t.log.seq = s.log.seq + (if record then 1 else 0) ∧
      (2 ≤ r.via → r.via < 26 → r.data.length ≤ 1024 → t.mboxBytes (r.via - 2) 0x800 r.bytes.length = r.bytes ∧
        t.flag F.MGT_MBSTAT_DONE (r.via - 2) = true ∧ t.flag F.MGT_MBSTAT_BUSY (r.via - 2) = false ∧
        (r.via < 10 → t.plic.pend.get (r.via - 1) false = true))) ∧
    (∀ (p : MbPkt) (rest : List MbPkt) (op : Nat), s.Fronts p rest op →
      let u := s.taken p rest
      let answers (c : Instr) (data : List Byte) : Prop := exec c s = .next (u.completeCmd (p.reply 0 data) false p.params)
      (p.params = [] →
        (op = 0x100 → s.mb.run = .firmware → answers .ping (natBytes 4 (u.fwVersion u.mb.slot) ++ natBytes 1 u.mb.slot ++ natBytes 3 0 ++
          natBytes 8 (u.rtc - u.mb.bootRtc))) ∧
        (op = 0x101 → answers .getid (uidBytes ++ wordBytes u.idcode ++ wordBytes (u.reg .SWP_DEVID) ++ natBytes 1 u.fuses.lc ++
          natBytes 7 0 ++ beBytes 132 (publicKey identityKey))) ∧
        (op = 0x200 → answers .cfgstat (wordBytes (u.reg .CFG_STATUS) ++ wordBytes (u.reg .CFG_IMAGE))) ∧
        (op = 0x405 → answers .fwStat (natBytes 4 (u.fwVersion 0) ++ natBytes 1 (bit (u.fwValid 0)) ++ natBytes 4 (u.fwVersion 1) ++
          natBytes 1 (bit (u.fwValid 1)) ++ natBytes 1 (u.setting 0x90) ++ natBytes 1 u.trialState ++ natBytes 1 u.fuses.floor)) ∧
        (op = 0x503 → answers .smpstat (wordBytes u.smpStatus ++ natBytes 8 u.fuses.sealNo ++ wordBytes (u.reg .SMP_CALID) ++
          wordBytes (u.reg .SMP_START) ++ (List.range 16).flatMap (fun w => wordBytes (u.smpOoc w)))) ∧
        (op = 0x701 → answers .pwrStat ((List.range 8).flatMap (fun j => wordBytes (u.reg .PWR_ON 0 j)))) ∧
        (op = 0x800 → answers .lcStat (natBytes 1 u.fuses.lc ++ natBytes 1 (u.fld F.LCS_STATUS_TAMPERED) ++
          leBytes 2 (Config.fuseRows u.fuses.lc) ++ natBytes 1 0)) ∧
        (op = 0x801 → ∃ n, n = Config.freeValue 256 s.free ∧
          exec .lcNonce s = .next ((({ u with free := s.free + 1 } : State).modMb (fun m => { m with lcNonce := some (n, s.rtc) })).completeCmd
            (p.reply 0 (leBytes 32 n)) false p.params))) ∧
      (op = 0x100 → p.params = [] → s.mb.run = .rom → ∃ v, exec .ping s = .next (({ u with free := s.free + 1 } : State).completeCmd
        (p.reply 0 (leBytes 4 (v : BitVec 32) ++ natBytes 1 u.mb.slot ++ natBytes 3 0 ++ natBytes 8 (u.rtc - u.mb.bootRtc))) false p.params)) ∧
      (op = 0x106 → p.params.length = 2 → keyKnown (p.num 0 2) = true → answers .get (wordBytes (u.keyValue (p.num 0 2)))) ∧
      (op = 0x300 → p.params.length = 2 → p.num 0 1 + p.num 1 1 ≤ 64 →
        answers .sensors ((List.range (p.num 1 1)).flatMap (fun i => let n := p.num 0 1 + i
          leBytes 4 ((BitVec.ofInt 24 (if n < 40 then s.temps.get n 0 else s.mb.sens.get n 0)).setWidth 32 |||
            BitVec.ofNat 32 (bit (s.mb.warned.get n false) * 2 ^ 24 + bit (s.mb.crits.get n false) * 2 ^ 25))))) ∧
      (op = 0x302 → p.params.length = 9 → p.num 8 1 ≤ 15 → ∃ out more : List (List Word),
        (u.log.kept ++ u.cached).filter (fun r => decide (p.num 0 8 ≤ (r.getD 1 0).toNat)) = out ++ more ∧ out.length ≤ p.num 8 1 ∧
        8 * out.flatten.length ≤ 1016 ∧
        (∀ r, more.head? = some r → out.length = p.num 8 1 ∨ 1016 < 8 * (out.flatten.length + r.length)) ∧
        answers .logread (natBytes 1 out.length ++ natBytes 7 0 ++ wordsBytes out.flatten)) ∧
      (op = 0x600 → p.params.length = 1 → p.num 0 1 < 4 → ∃ n, n = Config.freeValue 256 s.free ∧
        exec .dbgChal s = .next ((({ u with free := s.free + 1 } : State).modMb (fun m => { m with dbgNonce := some (n, s.rtc) })).completeCmd
          (p.reply 0 (leBytes 32 n)) false p.params)) ∧
      (op = 0x107 → p.params.length = 32 →
        let body := p.params ++ uidBytes ++ natBytes 8 u.fuses.lc ++ natBytes 8 (u.fwVersion u.mb.slot) ++ u.fwHash u.mb.slot ++
          wordBytes (u.reg .CFG_IMAGE) ++ beBytes 64 u.loader.imgHash ++ wordBytes u.sealWord ++ wordBytes (u.reg .SMP_CALID) ++
          wordBytes (u.reg .SMP_START) ++ beBytes 64 u.smp.segHash ++ beBytes 132 (publicKey (partitionKey u.fuses.sealNo)) ++
          beBytes 132 u.mb.certSig
        exec .attest s = .next (({ u with log := { u.log with signs := u.log.signs + 1 } } : State).completeCmd
          (p.reply 0 (body ++ beBytes 132 (ecdsaSign identityKey (sha512 body) u.log.signs))) false p.params)))

/-- R234, R250, R403, R405, R407, R410, R414, R415, R423, R440: what the commands of SYSTEM, CONFIG, SENSORS and UPDATE change when they
run, the end of a lease, the end of an erase, and a trial that nobody confirms. A packet comes from one of the 26 transports, and the
certificate that Mbana holds fills at most its field. -/
def Obligations.SystemConfigAndUpdateCommandsTakeEffect : Prop :=
  ∀ (s : State), s.mb.cert.length ≤ 420 →
    (∀ v : State, v.mb.keyNext + 1024 < 2 ^ 64 → v.drawKey.1 = (sha512 (beBytes 32 Config.fuseSecretM ++
        [0x43#8, 0x4B#8, 0x45#8, 0x59#8] ++ beBytes 8 (BitVec.ofNat 64 v.mb.keyNext))).setWidth 256 ∧
      v.drawKey.2.mb.keyNext = v.mb.keyNext + 1 ∧ v.mb.keyNext < v.drawKey.2.setting 0xF0) ∧
    (∀ (k : Nat) (v : Word), let t := s.setKey k v
      t.mb.settings.get k none = some v ∧ (∀ k', k' ≠ k → t.mb.settings.get k' none = s.mb.settings.get k' none) ∧
      t = { s with mb := { s.mb with settings := t.mb.settings }, flash := t.flash } ∧
      ∀ a : Nat, (a < 0x00A00000 ∨ 0x00A20000 ≤ a) → t.flashByte a = s.flashByte a) ∧
    (∀ (r : Fin 8) (o : Owner) (e : Nat), s.mb.owners.get r none = some o → o.endAt = some e → exec (.leaseExpiry r) s = .next
      (((s.atRtc e).modMb (fun m => { m with owners := m.owners.set r none none })).logEvent 0x0D (BitVec.ofNat 64 r) 0)) ∧
    (∀ w : SlotWrite, w.erasing = true → w.slot < 3 →
      (s.mb.img = some w → Answers (.slotEraseComplete true) s (fun t => t.mb.img = some { w with erasing := false } ∧
        (∀ a : Nat, t.flashByte a = (if imgBase w.slot ≤ a ∧ a < imgBase w.slot + 224 * 2 ^ 20 then flashBlank else s.flashByte a)) ∧
        t = { s with mb := t.mb, flash := t.flash })) ∧
      (s.mb.fw = some w → Answers (.slotEraseComplete false) s (fun t => t.mb.fw = some { w with erasing := false } ∧
        (∀ a : Nat, t.flashByte a = (if fwBase w.slot ≤ a ∧ a < fwBase w.slot + 0x400000 then flashBlank else s.flashByte a)) ∧
        t = { s with mb := t.mb, flash := t.flash }))) ∧
    (∀ at' : Nat, s.mbServes = true → s.mb.confirmBy = some at' → exec .trialTimeout s = .next
      ((s.atRtc at').modMb (fun m => { m with confirmBy := none, run := .booting, cause := 4 }))) ∧
    (∀ (p : MbPkt) (rest : List MbPkt) (op : Nat), s.Fronts p rest op → p.via < 26 →
      let u := s.taken p rest
      let n := p.params.length
      let a := p.num 0 1
      let ends (c : Instr) (st : Nat) (data : List Byte) (t : State) : Prop := exec c s = .next (t.completeCmd (p.reply st data) true p.params)
      (op = 0x102 → n = 8 → a < 8 → p.token ≠ 0 →
        let o : Owner := { token := p.token, endAt := if p.num 4 4 = 0 then none else some (s.rtc + p.num 4 4) }
        ends .claim 0 [] ((u.modMb (fun m => { m with owners := m.owners.set a (some o) none })).logEvent 0x0D
          (BitVec.ofNat 64 (a + p.token * 2 ^ 16)) (BitVec.ofNat 64 (p.num 4 4)))) ∧
      (op = 0x103 → n = 1 → a < 8 → ends .release 0 [] (if s.mb.owners.get a none = none then u else
        (u.modMb (fun m => { m with owners := m.owners.set a none none })).logEvent 0x0D (BitVec.ofNat 64 a) 0)) ∧
      (op = 0x104 → n = 4 → p.num 0 2 = 0 → p.num 2 2 = 0 → Answers .reset s (fun t =>
        t.fld F.RST_CAUSE_LAST = 2 ∧ t.cstate = ckRun ∧ t.engines = {} ∧ t.slcs = {} ∧ t.bridges = {} ∧ t.lanes = {} ∧
        t.pwr.ops = startDomains.map (fun d => { dom := d, kind := .on }) ∧ t.time = s.time ∧
        t.mb.last.get p.via none = some (p.reply 0 []) ∧ t.fld F.DBG_STATUS_LEVEL = 0)) ∧
      (∀ d, op = 0x104 → n = 4 → scopeDomain (p.num 0 2) (p.num 2 2) = some d → s.opOn d = none →
        (u.offDenied d = true → ends .reset 2 [] u) ∧
        (u.offDenied d = false → exec .reset s = .next
          (u.modPwr (fun x => { x with ops := x.ops ++ [{ dom := d, kind := .reset, ask := .cmd (p.reply 0 p.params) }] })))) ∧
      (op = 0x105 → n = 16 → s.keyInRange (p.num 0 2) (p.num 8 8) = true →
        ends .set 0 [] (u.setKey (p.num 0 2) (BitVec.ofNat 64 (p.num 8 8)))) ∧
      (op = 0x108 → n = 2 → a < 16 → s.bankReady = true →
        let cur := u.fld F.ICE_RSTAT_KSEL 0 a
        let k := u.drawKey
        let q := k.2.drawKey
        (p.num 1 1 = 0 → u.iceState a = iceOff → ends .icekey 0 []
          ((q.2.writeKey (0x80 * a + 0x20 * cur) k.1).writeKey (0x80 * a + 0x40) q.1)) ∧
        (p.num 1 1 = 0 → u.iceState a ≠ iceOff → ends .icekey 2 [] u) ∧
        (p.num 1 1 = 1 → u.iceState a = iceReady → u.flag F.ICE_RSTAT_SPARE 0 a = false → ends .icekey 0 []
          ((k.2.writeKey (0x80 * a + 0x20 * (1 - cur)) k.1).writeIceCtrl 328 (BitVec.ofNat 64 (a * 256 + 8))).2) ∧
        (p.num 1 1 = 1 → (u.iceState a ≠ iceReady ∨ u.flag F.ICE_RSTAT_SPARE 0 a = true) → ends .icekey 2 [] u)) ∧
      (op = 0x109 → n = 1 → a < 16 →
        (u.iceState a = iceLocked → s.ice.before.get a 0 < 8 → ∃ t, t.iceState a = s.ice.before.get a 0 ∧ t.ice.lockIrq.get a false = false ∧
          t = { u with regs := t.regs, ice := t.ice } ∧ ends .iceunlock 0 [] t) ∧
        (u.iceState a ≠ iceLocked → ends .iceunlock 2 [] u)) ∧
      (op = 0x10A → n = 686 → s.bankReady = true →
        let e := u.newEphemeral
        let h := e.2.keyHalf a (p.num 1 1) e.1
        (u.halfGood p.params = true → exec .linkkey s = .next ((h.2.agreeKeys a (p.num 1 1) e.1 (sigOf (p.sub 2 132))).completeCmd
          (p.reply 0 h.1) false p.params)) ∧
        (u.halfGood p.params = false → exec .linkkey s = .next (u.completeCmd (p.reply 7 []) false p.params))) ∧
      (op = 0x201 → n = 16 → a < 3 → (a = 2 ∨ p.num 8 8 % 16 = 0) → p.num 8 8 < 2 ^ 48 → s.flag F.CFG_STATUS_BUSY = false →
        (u.loaderOpen = true → ends .load 0 [] (u.writeCfgSrc (BitVec.ofNat 64 (a * 2 ^ 62 + p.num 8 8))).cfgLoad) ∧
        (u.loaderOpen = false → ends .load 2 [] u)) ∧
      (op = 0x202 → n = 8 → s.mb.streamOpen = false →
        (u.loaderOpen = false → ends .streamBegin 2 [] u) ∧
        (u.loaderOpen = true → p.num 0 8 = 0 → ends .streamBegin 0 [] u) ∧
        (u.loaderOpen = true → p.num 0 8 ≠ 0 → ends .streamBegin 0 []
          ((u.modMb (fun m => { m with streamOpen := true, streamLen := p.num 0 8, streamPos := 0 })).writeCfgSrc (2#64 <<< 62)).cfgLoad)) ∧
      (op = 0x203 → 8 ≤ n → s.mb.streamOpen = true → p.num 0 8 = s.mb.streamPos → p.num 0 8 + (n - 8) ≤ s.mb.streamLen →
        let v := u.modMb (fun m => { m with streamPos := m.streamPos + (n - 8) })
        ends .streamData 0 [] (if 8 < n ∧ s.loader.src.kind = 3 ∧ u.flag F.CFG_STATUS_BUSY = true then
          v.modLoader (fun l => { l with stream := l.stream ++ p.params.drop 8, streamLast := s.now }) else v)) ∧
      (op = 0x204 → n = 0 → s.mb.streamOpen = true →
        let runs := s.loader.src.kind = 3 ∧ u.flag F.CFG_STATUS_BUSY = true
        (runs → Answers .streamEnd s (fun t => t.loader.streamEnd = true ∧ t.mb.queue = p :: rest)) ∧
        (¬ runs → ends .streamEnd (if s.loader.good = true ∧ s.loader.src.kind = 3 then 0 else 7) (natBytes 1 (u.fld F.CFG_STATUS_CAUSE))
          (u.modMb (fun m => { m with streamOpen := false })))) ∧
      (op = 0x205 → n = 0 → ((u.ldState = ldFailed ∨ u.ldState = ldWaitImage) → ends .donerel 0 [] u.cfgDoneRel) ∧
        (¬ (u.ldState = ldFailed ∨ u.ldState = ldWaitImage) → ends .donerel 2 [] u)) ∧
      (op = 0x206 → n = 16 → a < 3 → p.num 8 8 ≤ 224 * 2 ^ 20 → erasing s.mb.img = false →
        let refused := a < 2 ∧ a = s.activeSlot ∨ a = 2 ∧ 2 ≤ s.fuses.lc
        (refused → ends .imgwriteBegin 2 [] u) ∧ (¬ refused → p.num 8 8 = 0 → ends .imgwriteBegin 0 [] u) ∧
        let w : SlotWrite := { slot := a, len := p.num 8 8, pos := 0, erasing := true, checked := false }
        (¬ refused → p.num 8 8 ≠ 0 → ends .imgwriteBegin 0 [] (u.modMb (fun m => { m with img := some w })))) ∧
      (∀ w : SlotWrite, w.erasing = false →
        (op = 0x207 → s.mb.img = some w → 8 ≤ n → p.num 0 8 = w.pos → w.pos + (n - 8) ≤ w.len → ends .imgwriteData 0 []
          ((u.setFlash (imgBase w.slot + w.pos) (p.params.drop 8)).modMb (fun m => { m with img := some { w with pos := w.pos + (n - 8) } }))) ∧
        (op = 0x208 → s.mb.img = some w → n = 0 →
          let v := u.modMb (fun m => { m with img := none })
          let h := s.flashBytes (imgBase w.slot) 0x1000
          let good := v.headerGood h true = true ∧ v.signatureGood h = true
          (good → ends .imgwriteEnd 0 (natBytes 4 (hdrIseq h)) v) ∧
          (¬ good → ends .imgwriteEnd 7 [] (v.eraseFlash (imgBase w.slot) (224 * 2 ^ 20)))) ∧
        (op = 0x401 → s.mb.fw = some w → 4 ≤ n → p.num 0 4 = w.pos → w.pos + (n - 4) ≤ w.len → ends .fwData 0 []
          ((u.setFlash (fwBase w.slot + w.pos) (p.params.drop 4)).modMb (fun m =>
            { m with fw := some { w with pos := w.pos + (n - 4), checked := false } }))) ∧
        (op = 0x402 → s.mb.fw = some w → n = 0 →
          let ver := s.fwVersion w.slot
          (u.fwValid w.slot = false → ends .fwEnd 7 [] u) ∧
          (u.fwValid w.slot = true → ver / 2 ^ 26 < s.fuses.floor → ends .fwEnd 2 [] u) ∧
          (u.fwValid w.slot = true → s.fuses.floor ≤ ver / 2 ^ 26 → ends .fwEnd 0 (natBytes 4 ver)
            ((u.modMb (fun m => { m with fw := some { w with checked := true } })).logEvent 0x09 (BitVec.ofNat 64 ver)
              (BitVec.ofNat 64 w.slot)))) ∧
        (op = 0x403 → s.mb.fw = some w → w.checked = true → w.slot < 2 → n = 0 → Answers .fwActivate s (fun t =>
          t.setting 0x91 = 1 + 256 * w.slot ∧ t.mb.run = .booting ∧ t.mb.cause = 3 ∧ t.mb.fw = none ∧
          t.mb.last.get p.via none = some (p.reply 0 []))) ∧
        (op = 0x403 → s.mb.fw = none → n = 0 → exec .fwActivate s = .next (u.sendReply (p.reply 9 [])))) ∧
      (op = 0x209 → n = 5 → a < 2 → p.num 1 1 < 3 → p.num 4 1 < 32 → ∃ t, ends .setslot 0 [] t ∧
        let old := s.settingsChoice
        let dst := if old = 0 then 0x10000 else 0
        t = { u with flash := t.flash } ∧ (∀ x : Nat, (x < dst ∨ dst + 0x10000 ≤ x) → t.flashByte x = s.flashByte x) ∧
        t.setWord dst 0 = 0x4353455400010000#64 ∧
        t.setWord dst 1 = BitVec.ofNat 64 (if old = 2 then 1 else ((s.setWord (0x10000 * old) 1).toNat + 1) % 2 ^ 32) ∧
        t.setWord dst 2 = BitVec.ofNat 64 (p.num 1 1 + a * 2 ^ 8 + p.num 2 1 * 2 ^ 16 + p.num 3 1 * 2 ^ 24 + p.num 4 1 * 2 ^ 32)) ∧
      (op = 0x301 → n = 12 → a < 64 → s.critAllowed a (BitVec.ofNat 32 (p.num 8 4)).toInt = true → Answers .thresh s (fun t =>
        t.threshold a false = (BitVec.ofNat 32 (p.num 4 4)).toInt ∧ t.threshold a true = (BitVec.ofNat 32 (p.num 8 4)).toInt ∧
        t.mb.last.get p.via none = some (p.reply 0 []))) ∧
      (op = 0x400 → n = 4 → p.num 0 4 ≤ 0x400000 → erasing s.mb.fw = false →
        let w : SlotWrite := { slot := 1 - s.setting 0x90 % 2, len := p.num 0 4, pos := 0, erasing := true, checked := false }
        ends .fwBegin 0 [] (if p.num 0 4 = 0 then u else u.modMb (fun m => { m with fw := some w }))) ∧
      (op = 0x404 → n = 1 → a < 2 →
        (s.trialState ≠ 2 → ends .fwConfirm 2 [] u) ∧
        (s.trialState = 2 → Answers .fwConfirm s (fun t => t.setting 0x90 = s.trialSlot ∧ t.trialState = 0 ∧ t.mb.confirmBy = none ∧
          t.fuses.floor = (if a = 1 then max s.fuses.floor (s.fwVersion s.trialSlot / 2 ^ 26) else s.fuses.floor) ∧
          t.mb.last.get p.via none = some (p.reply 0 [])))))

/-- R182, R183, R199, R311, R405, R416 to R418, R422, R434, R435, R444, R446, R468, R470: what the commands of METROLOGY, DEBUG, POWER and
LIFECYCLE change when they run, and the end of the lockout. A packet comes from one of the 26 transports. -/
def Obligations.MetrologyDebugPowerAndLifecycleCommandsTakeEffect : Prop :=
  ∀ (s : State),
    exec .dbgPassLockoutEnd s = .next (s.setFld F.DBG_STATUS_LOCKOUT 0) ∧
    (∀ (p : MbPkt) (rest : List MbPkt) (op : Nat), s.Fronts p rest op → p.via < 26 →
      let u := s.taken p rest
      let n := p.params.length
      let a := p.num 0 1
      let ends (c : Instr) (st : Nat) (data : List Byte) (t : State) : Prop := exec c s = .next (t.completeCmd (p.reply st data) true p.params)
      let sent (t : State) : Prop := (p.via = 0 → t.mb.sent = s.mb.sent ++ [.reply (p.reply 0 [])]) ∧
        (p.via = 1 → t.mb.spiReply = (p.reply 0 []).bytes)
      (op = 0x500 → n = 1 → a < 2 → s.opOn domSMP = none →
        (u.domOn domSMP = (a == 1) → ends .smpPower 0 [] u) ∧
        (a = 0 → u.domOn domSMP = true → u.offDenied domSMP = true → ends .smpPower 2 [] u) ∧
        (a = 0 → u.domOn domSMP = true → u.offDenied domSMP = false → ends .smpPower 0 [] (u.startOp { dom := domSMP, kind := .off })) ∧
        (a = 1 → u.domOn domSMP = false → ends .smpPower 0 [] (u.startOp { dom := domSMP, kind := .on }))) ∧
      (op = 0x501 → n = 0 → s.smpOn = true → Answers .smpReset s (fun t => t.smp = { segReq := true } ∧
        t.fld F.SMP_STATUS_RESETS = satAdd (fldMax F.SMP_STATUS_RESETS) (s.fld F.SMP_STATUS_RESETS) 1 ∧
        (∀ j : Nat, j < 0x18000 → t.bankCell j = s.bankCell j) ∧ t.mb.last.get p.via none = some (p.reply 0 []))) ∧
      (op = 0x502 → 2 ≤ n → n ≤ 226 → s.smpOn = true →
        let c := u.smpClaim 328
        (s.mb.relay = none → c.1.getLsbD 63 = false → ends .smpRelay 1 [] u) ∧
        (s.mb.relay = none → c.1.getLsbD 63 = true → Answers .smpRelay s (fun t =>
          t.mb.relay = some (c.1.setWidth 4).toNat ∧ t.mb.queue = p :: rest)) ∧
        (∀ i : Nat, s.mb.relay = some i → (s.slot i).owner = some 328 →
          ((s.slot i).done = false → exec .smpRelay s = .next (u.modMb (fun m => { m with queue := p :: rest }))) ∧
          ((s.slot i).done = true → ends .smpRelay 0 (natBytes 1 (s.slot i).status.toNat ++
            ((List.range 28).flatMap (fun w => wordBytes ((s.slot i).data.get (4 + w) 0))).take (s.slot i).rlen.toNat)
            ((u.modMb (fun m => { m with relay := none })).smpRelease i 328)))) ∧
      (op = 0x601 → n = 134 → a < 4 → p.num 1 1 < 4 →
        let slot := p.num 1 1
        let most := if slot < 2 then 3 else 2
        let good := ∃ x k, s.mb.dbgNonce = some x ∧ s.fuses.dbgKeys.get slot none = some k ∧ s.rtc ≤ x.2 + 60 ∧
          Config.debugSigned k (sha512 (leBytes 32 x.1 ++ uidBytes ++ natBytes 1 a)) (sigOf (p.sub 2 132)) = true
        (most < a → ends .dbgResp 2 [] u) ∧ (a ≤ most → ¬ good → ends .dbgResp 7 [] (u.modMb (fun m => { m with dbgNonce := none }))) ∧
        (a ≤ most → good → Answers .dbgResp s (fun t => t.fld F.DBG_STATUS_LEVEL = a ∧ t.fld F.DBG_STATUS_SOURCE = 2 ∧
          t.fld F.DBG_STATUS_SLOT = slot ∧ t.mb.dbgNonce = none ∧ t.mb.last.get p.via none = some (p.reply 0 [])))) ∧
      (op = 0x602 → 1 ≤ n → n ≤ 65 → a < 4 →
        let locked := u.flag F.DBG_STATUS_LOCKOUT = true
        let good := s.fuses.passHash = some (sha512 (p.params.drop 1 ++ uidBytes))
        ((locked ∨ a = 3) → ends .dbgPass 2 [] u) ∧
        (¬ locked → a ≤ 2 → good → Answers .dbgPass s (fun t => t.fld F.DBG_STATUS_LEVEL = a ∧ t.fld F.DBG_STATUS_SOURCE = 3 ∧
          t.mb.passFails = 0 ∧ t.mb.last.get p.via none = some (p.reply 0 []))) ∧
        (¬ locked → a ≤ 2 → ¬ good → s.mb.passFails ≠ 2 →
          ends .dbgPass 7 [] (u.modMb (fun m => { m with passFails := m.passFails + 1 }))) ∧
        (¬ locked → a ≤ 2 → ¬ good → s.mb.passFails = 2 →
          ends .dbgPass 7 [] ((u.modMb (fun m => { m with passFails := 0 })).setFld F.DBG_STATUS_LOCKOUT 1))) ∧
      (op = 0x603 → n = 0 → Answers .dbgRevoke s (fun t => t.fld F.DBG_STATUS_LEVEL = 0 ∧
        (∀ h : Nat, h < 10 → (t.hart h).halted = false) ∧ t.mb.last.get p.via none = some (p.reply 0 []))) ∧
      (op = 0x604 → n % 8 = 0 →
        (u.dbgLevel = 0 → ends .dbgTunnel 2 [] u) ∧
        (u.dbgLevel ≠ 0 →
          let q := (List.range (n / 8)).foldl (fun (x : List Byte × State) i =>
            let r := x.2.dmiAccess (p.num (8 * i) 1) (p.num (8 * i + 2) 2) (BitVec.ofNat 32 (p.num (8 * i + 4) 4))
            (x.1 ++ natBytes 1 r.1 ++ p.sub (8 * i + 1) 3 ++ leBytes 4 r.2.1, r.2.2)) ([], u)
          ends .dbgTunnel 0 q.1 q.2)) ∧
      (∀ d : Nat, op = 0x700 → n = 4 → d = p.num 0 2 → domExists d = true → s.opOn d = none →
        (p.num 2 1 < 2 → u.domOn d = (p.num 2 1 == 1) → ends .pwrDomain 0 [] u) ∧
        (p.num 2 1 = 0 → u.domOn d = true → u.offDenied d = true → ends .pwrDomain 2 [] u) ∧
        (p.num 2 1 = 0 → u.domOn d = true → u.offDenied d = false → exec .pwrDomain s = .next
          (u.startOp { dom := d, kind := .off, ask := .cmd (p.reply 0 p.params) })) ∧
        (p.num 2 1 = 1 → u.domOn d = false → ends .pwrDomain 0 [] (u.startOp { dom := d, kind := .on }))) ∧
      (op = 0x702 → n = 4 → a < 32 → 8 ≤ p.num 2 2 → p.num 2 2 ≤ 4096 →
        (∀ g : Nat, g < 32 → g ≠ a → 8 ≤ s.sfld F.CLK_GLOBAL_N 0 g ∧ s.sfld F.CLK_GLOBAL_N 0 g ≤ 4096) → Answers .clkGlobal s (fun t =>
        t.fld F.CLK_GLOBAL_N 0 a = p.num 2 2 ∧ (∀ g : Nat, g < 32 → g ≠ a → t.reg .CLK_GLOBAL 0 g = s.shadowReg .CLK_GLOBAL 0 g) ∧
        (s.fld F.CLK_GLOBAL_N 0 a ≠ p.num 2 2 → t.pwr.globalFrom.get a 0 =
          s.lineRestartAt (s.flag F.CLK_GLOBAL_EN 0 a) (s.fld F.CLK_GLOBAL_N 0 a) (p.num 2 2)) ∧
        t.mb.last.get p.via none = some (p.reply 0 []))) ∧
      (op = 0x703 → n = 3 → p.num 0 2 < 4096 → p.num 2 1 < 3 →
        let ks := (List.range 12).filter (fun k => (p.num 0 2).testBit k)
        ((∃ k ∈ ks, s.dmcState k = dmcFill ∨ s.dmcState k = dmcTransition) → exec .dramRate s = .next (u.sendReply (p.reply 1 []))) ∧
        ((∀ k ∈ ks, s.dmcState k = dmcReady) → ends .dramRate 0 []
          (u.forAll ks (fun acc k => acc.writeDmcCmd k (BitVec.ofNat 64 (p.num 2 1 + 2)) false acc.userMode)))) ∧
      (op = 0x704 → n = 2 → 900 ≤ p.num 0 2 → p.num 0 2 ≤ 940 →
        ends (.vtrim true) 0 [] (u.modMb (fun m => { m with vcore := p.num 0 2 })) ∧ ends (.vtrim false) 8 [] u) ∧
      (op = 0x705 → n = 8 →
        (s.sleepDenied = true → ends .sleep 2 [] u) ∧
        (s.sleepDenied = false → Answers .sleep s (fun t => t.cstate = ckSleep ∧ t.pwr.asleep = true ∧ t.pwr.ops = [] ∧
          t.mb.wakeMask = BitVec.ofNat 16 (p.num 0 2) ∧ t.io.rtcAlarm = (if p.num 4 4 = 0 then 0 else s.rtc + p.num 4 4) ∧
          t.mb.portUp = false ∧ t.log.pend = [] ∧ t.mb.last.get p.via none = some (p.reply 0 [])))) ∧
      (op = 0x802 → n = 640 →
        let f := s.fuses
        let old (i : Nat) : Option (BitVec 512) :=
          if i < 4 then f.cfgKeys.get i none else if i < 8 then f.dbgKeys.get (i - 4) none else if i = 8 then f.passHash else f.fwKey
        let now (t : State) (i : Nat) : Option (BitVec 512) :=
          if i < 4 then t.fuses.cfgKeys.get i none else if i < 8 then t.fuses.dbgKeys.get (i - 4) none
          else if i = 8 then t.fuses.passHash else t.fuses.fwKey
        let hash (i : Nat) : BitVec 512 := BitVec.ofNat 512 (beNat (p.sub (64 * i) 64))
        ((∃ i : Nat, i < 10 ∧ hash i ≠ 0 ∧ old i ≠ none) → ends .lcProvision 2 [] u) ∧
        ((∀ i : Nat, i < 10 → hash i = 0 ∨ old i = none) → Answers .lcProvision s (fun t => t.fuses.lc = 1 ∧ sent t ∧
          (∀ i : Nat, i < 10 → now t i = (if hash i = 0 then old i else some (hash i))) ∧
          (f.lc = 0 → t.mb.run = .booting ∧ t.mb.cause = 4)))) ∧
      (op = 0x803 → n = 420 →
        let good := u.certGood p.params = true ∧ p.sub 0 16 = uidBytes ∧ p.sub 16 132 = beBytes 132 (publicKey identityKey)
        (good → Answers .lcCert s (fun t => t.mb.cert = p.params ∧ sent t ∧ t.mb.settings = s.mb.settings)) ∧
        (¬ good → ends .lcCert 7 [] u)) ∧
      (∀ (c : Instr) (new : Nat), (c = .lcDeploy ∧ op = 0x804 ∧ new = 2 ∨ c = .lcRma ∧ op = 0x805 ∧ new = 3 ∨
          c = .lcScrap ∧ op = 0x806 ∧ new = 4) → n = 133 → a < 4 →
        let good := ∃ x k, s.mb.lcNonce = some x ∧ s.fuses.cfgKeys.get a none = some k ∧ s.rtc ≤ x.2 + 60 ∧
          Config.debugSigned k (sha512 (leBytes 32 x.1 ++ uidBytes ++ natBytes 2 op)) (sigOf (p.sub 1 132)) = true
        (good → Answers c s (fun t => t.fuses.lc = new ∧ t.mb.run = .booting ∧ t.mb.cause = 4 ∧ t.mb.lcNonce = none ∧ sent t ∧
          t.fld F.DBG_STATUS_LEVEL = 0)) ∧
        (¬ good → ¬ (new = 4 ∧ s.fuses.lc = 0) → ends c 7 [] (u.modMb (fun m => { m with lcNonce := none })))) ∧
      (op = 0x806 → s.fuses.lc = 0 → n ≤ 1 → Answers .lcScrap s (fun t => t.fuses.lc = 4 ∧ t.mb.run = .booting ∧ sent t)) ∧
      (op = 0x807 → n = 0 →
        (s.tamperActive ≠ 0 → ends .tamperClear 2 [] u) ∧
        (s.tamperActive = 0 → Answers .tamperClear s (fun t => t.flag F.LCS_STATUS_TAMPERED = false ∧
          t.mb.last.get p.via none = some (p.reply 0 [])))))

/-- R406, R407, R409, R418, R423, R424: a reading sets its sensor and flags and is recorded beyond WARN; CRIT and 110 °C act; the log cache
reaches the flash ring; a tamper input wipes the secure bank and steps the seal; link epochs are agreed; the eight policies act inside
their bounds and record what they decide. -/
def Obligations.SensorsTamperAndPoliciesAct : Prop :=
  ∀ (s : State),
    (∀ (n : Fin 64) (v : Int),
      let w := s.beyond n v (s.threshold n false)
      Answers (.sensorReading n v) s (fun t =>
        (n.val < 40 → t.temps.get n 0 = v ∧ t.mb.sens = s.mb.sens) ∧ (40 ≤ n.val → t.mb.sens.get n 0 = v ∧ t.temps = s.temps) ∧
        (∀ m : Nat, m ≠ n.val → t.temps.get m 0 = s.temps.get m 0 ∧ t.mb.sens.get m 0 = s.mb.sens.get m 0) ∧
        (s.mbServes = true → t.mb.warned.get n false = w ∧ t.mb.crits.get n false = s.beyond n v (s.threshold n true) ∧
          (w = true → t.plic.pend.get 11 false = true ∧ t.log.seq = s.log.seq + 1)) ∧
        ((s.mbServes = false ∨ w = false) → t.log = s.log ∧ t.plic = s.plic) ∧ t.regs = s.regs ∧ t.engines = s.engines)) ∧
    (∀ n : Fin 40, s.mbServes = true → s.beyond n (s.temps.get n 0) (s.threshold n true) = true →
      let gangs := (List.range 256).filter (fun e => s.leader e == e && ((s.eng e).mode == .stream || (s.eng e).mode == .paused))
      let v := s.forAll gangs State.ceAbort
      Answers (.thermalCrit n) s (fun t => t.engines = v.engines ∧ t.regs = v.regs ∧ t.log.seq = v.log.seq + 1 ∧
        ∀ d : Nat, ((∃ c : Fin 64, d = domCL c) ∨ ∃ q : Fin 36, d = domLQ q) → v.domOn d = true → v.opOn d = none →
          ({ dom := d, kind := .off } : PwrOp) ∈ t.pwr.ops)) ∧
    ((∃ n : Fin 40, 1760 ≤ s.temps.get n 0) → s.cstate = ckRun →
      (s.flag F.CLK_STATUS_OSCRDY = true → Answers .thermalTrip s (fun t => t.cstate = ckStopped ∧ t.pwr.thermal = true ∧
        t.pwr.stopCause = 4 ∧ t.pwr.ops = [] ∧ t.dram = {} ∧ t.time = s.time ∧ t.smp.seg = s.smp.seg)) ∧
      (s.flag F.CLK_STATUS_OSCRDY = false → Answers .thermalTrip s (fun t => t.cstate = ckWait ∧ t.pwr.thermal = true))) ∧
    ((∀ n : Fin 40, s.temps.get n 0 < 1760) → exec .thermalTrip s = .next s) ∧
    (s.mbServes = true → let bs := wordsBytes s.cached.flatten
      bs.length ≤ ringSize → Answers .logFlush s (fun t => t.cached = [] ∧ t.log.ring = (s.log.ring + bs.length) % ringSize ∧
        (∀ i : Nat, i < bs.length → t.flashByte (ringBase + (s.log.ring + i) % ringSize) = bs.getD i 0) ∧
        (∀ a : Nat, (a < 0x00A20000 ∨ 0x01000000 ≤ a) → t.flashByte a = s.flashByte a) ∧
        (s.cached ≠ [] → t.log.flushed = s.log.seq - 1 - BitVec.ofNat 64 s.log.late.length) ∧ t = { s with flash := t.flash, log := t.log })) ∧
    (∀ levels : BitVec 4,
      let act := ~~~ (levels ^^^ BitVec.ofNat 4 (s.setting 0x71))
      let on := act &&& BitVec.ofNat 4 (s.setting 0x70)
      (on = 0 → Answers (.tamper levels) s (fun t => t.fld F.LCS_STATUS_TAMPIN = act.toNat ∧
        t.flag F.LCS_STATUS_TAMPERED = s.flag F.LCS_STATUS_TAMPERED ∧ t.sbk = s.sbk ∧ t.fuses = s.fuses)) ∧
      (on &&& ~~~ s.mb.tamperOn ≠ 0 → s.cstate = ckWait → Answers (.tamper levels) s (fun t =>
        t.pwr.tamperLatch = s.pwr.tamperLatch ||| on ∧ t.fld F.LCS_STATUS_TAMPIN = act.toNat ∧ t.sbk = s.sbk)) ∧
      (on &&& ~~~ s.mb.tamperOn ≠ 0 → s.cstate ≠ ckWait → s.flag F.SBK_STATUS_WIPING = false → Answers (.tamper levels) s (fun t =>
        t.flag F.LCS_STATUS_TAMPERED = true ∧ t.fld F.LCS_STATUS_TAMPIN = act.toNat ∧ t.sbk = {} ∧ t.ice.keys = {} ∧
        t.fld F.SBK_STATUS_CAUSE = 2 ∧ t.flag F.SBK_STATUS_READY = false ∧ t.fld F.DBG_STATUS_LEVEL = 0 ∧
        (s.fuses.sealNo < 4096 → t.fuses.sealNo = s.fuses.sealNo + 1)))) ∧
    (∀ (b : Fin 16) (half : List Byte), s.mbServes = true → s.swState b = swUp → s.bankReady = true →
      let epoch := (s.fld F.SWP_KEY_TXEPOCH b + 1) % 256
      let e := s.newEphemeral
      let h := e.2.keyHalf b epoch e.1
      let good := h.2.halfGood half = true ∧ leNat ((half.drop 1).take 1) = epoch
      (good → exec (.linkEpoch b half) s = .next (h.2.agreeKeys b epoch e.1 (sigOf ((half.drop 2).take 132))) ∧
        Answers (.linkEpoch b half) s (fun t => (t.bridge b).keyNext = true)) ∧
      (¬ good → exec (.linkEpoch b half) s = .next h.2)) ∧
    (∀ idle : List Nat,
      let may := s.mbServes = true ∧ s.smpOn = true ∧ s.smpState = smpReady ∧ s.smp.cals = [] ∧ s.mb.owners.get 4 none = none
      let cs := ((List.range 64).filter (fun c => idle.contains c && s.domOn (domCL c) && !(s.clusterBusy c) &&
        (List.range 4).all (fun j => !(s.gangActive (4 * c + j))) && s.driftDue c)).take 8
      (may → cs ≠ [] → exec (.driftCalibrationPolicy idle) s = .next
        ((s.smpCalibrate false (cs.foldl (fun m c => m + 2 ^ c) 0)).2.2.logEvent 0x03
          (BitVec.ofNat 64 (1 + cs.headD 0 % 2 ^ 32 * 2 ^ 8)) (BitVec.ofInt 64 (s.clusterTemp (cs.headD 0))))) ∧
      ((¬ may ∨ cs = []) → exec (.driftCalibrationPolicy idle) s = .next s)) ∧
    (∀ k : Fin 12, s.mbServes = true → s.dmcState k = dmcReady →
      let t := s.temps.get (16 + k) 0
      let due := (s.setting 0x20 : Int) ≤ ((t - s.mb.trainTemp.get k 0).natAbs : Int) ∨
        s.setting 0x21 ≠ 0 ∧ s.mb.trainedAt.get k 0 + s.setting 0x21 ≤ s.rtc
      let busy := ∃ e : Nat, e < 256 ∧ s.streaming e = true
      (¬ due → exec (.dramRetrainingPolicy k) s = .next s) ∧
      (due → busy → (s.mb.deferAt.get k 0 = 0 ∨ s.mb.deferAt.get k 0 + 3600 ≤ s.rtc) → Answers (.dramRetrainingPolicy k) s (fun u =>
        u.dmcs = s.dmcs ∧ u.regs = s.regs ∧ u.mb.deferAt.get k 0 = max 1 s.rtc ∧ u.log.seq = s.log.seq + 1)) ∧
      (due → ¬ busy → (∀ j : Nat, j < 12 → s.dmcState j ≠ dmcTransition) → exec (.dramRetrainingPolicy k) s = .next
        ((s.writeDmcCmd k 4 false s.userMode).logEvent 0x03 (BitVec.ofNat 64 (2 + k.val % 2 ^ 32 * 2 ^ 8)) (BitVec.ofInt 64 t)))) ∧
    (s.mbServes = true → s.userMode = true → exec .scrubRatePolicy s = .next
      ((((s.setFld F.SCR_CTRL_UPTH (s.setting 0x30)).setFld F.SCR_CTRL_QUIET (s.setting 0x31)).setFld F.SCR_CTRL_AUTO 1).logEvent 0x03
        (BitVec.ofNat 64 (3 + s.setting 0x31 % 2 ^ 32 * 2 ^ 8)) (BitVec.ofInt 64 (s.setting 0x30)))) ∧
    (∀ ack : Bool,
      let v := min (min (min (s.mb.sens.get 40 0) (s.mb.sens.get 41 0)) (s.mb.sens.get 42 0)) (s.mb.sens.get 43 0)
      let next := if 10 ≤ s.mb.lowRuns then s.mb.vcore + 2 else s.mb.vcore - 2
      let may := s.mbServes = true ∧ s.setting 0x40 ≠ 0 ∧ s.mb.trimOff = false ∧ (10 ≤ s.mb.lowRuns ∨ 10 ≤ s.mb.highRuns) ∧
        s.mb.trimAt + 64000000 ≤ s.now ∧ ((∀ e : Nat, e < 256 → s.streaming e = false) ∨ v < 880) ∧ 900 ≤ next ∧ next ≤ 940
      (¬ may → exec (.supplyTrimPolicy ack) s = .next s) ∧
      (may → Answers (.supplyTrimPolicy ack) s (fun t => t.log.seq = s.log.seq + 1 ∧
        (ack = true → t.mb.vcore = next ∧ t.mb.trimAt = s.now ∧ t.mb.lowRuns = 0 ∧ t.mb.highRuns = 0) ∧
        (ack = false → t.mb.vcore = s.mb.vcore ∧ t.mb.trimOff = true)))) ∧
    (∀ k : Fin 12, s.mbServes = true → s.domOn (domDM k) = true →
      let n := if s.fld F.DMC_CNT_CE k < s.mb.patrolCe.get k 0 then s.fld F.DMC_CNT_CE k else s.fld F.DMC_CNT_CE k - s.mb.patrolCe.get k 0
      let p := s.fld F.DMC_CTRL_PATROL k
      let age := s.rtc - s.mb.patrolAt.get k 0
      let may := s.mb.patrolChg.get k 0 = 0 ∨ s.mb.patrolChg.get k 0 + 3600 ≤ s.rtc
      let sets (v : Nat) : Prop := Answers (.patrolPolicy k) s (fun t => t.reg .DMC_CTRL k = putFld F.DMC_CTRL_PATROL v (s.reg .DMC_CTRL k) ∧
        t.mb.patrolChg.get k 0 = max 1 s.rtc ∧ t.mb.patrolAt.get k 0 = s.rtc ∧ t.log.seq = s.log.seq + 1)
      (0 < s.setting 0x51 → s.setting 0x51 ≤ n → age ≤ 3600 → may → sets (max (s.setting 0x50) (p / 2))) ∧
      (n = 0 → 0 < s.setting 0x51 → 86400 ≤ age → may → sets (min 64 (2 * p))) ∧
      (0 < n → n < s.setting 0x51 → age < 3600 → exec (.patrolPolicy k) s = .next s) ∧
      (0 < n → n < s.setting 0x51 → 3600 ≤ age → Answers (.patrolPolicy k) s (fun t => t.regs = s.regs ∧ t.work = s.work ∧
        t.mb.patrolAt.get k 0 = s.rtc ∧ t.mb.patrolCe.get k 0 = s.fld F.DMC_CNT_CE k ∧ t.log = s.log))) ∧
    (∀ (kind : Byte) (inst loc : Nat), s.mbServes = true →
      let due := s.setting 0x61 ≤ s.eventsAt kind inst loc true ∨ s.setting 0x62 ≤ s.eventsAt kind inst loc false
      (¬ due → exec (.retirementPolicy kind inst loc) s = .next s) ∧
      (due → Answers (.retirementPolicy kind inst loc) s (fun t => t.log.seq = s.log.seq + 2 ∧
        t.plic.pend.get 11 false = true ∧ t.regs = s.regs ∧
        t.mb.retires = s.mb.retires ++ (if s.setting 0x60 = 1 ∧ kind = 2 then
          [(s.lineAddr inst (loc % 2 ^ 25) / 4096, s.now + 640000000)] else [])))) ∧
    (∀ r : Fin 16, s.mbServes = true → s.ice.lockIrq.get r false = true → Answers (.lockdownPolicy r) s (fun t =>
      t.ice.lockIrq.get r false = false ∧ t.plic.pend.get 11 false = true ∧ t.log.seq = s.log.seq + 1 ∧ t.regs = s.regs)) ∧
    (∀ halves : List (List Byte), s.mbServes = true → s.mb.wipeSeen = true → s.bankReady = true →
      Answers (.secureBankWipePolicy halves) s (fun t => t.mb.wipeSeen = false ∧ t.log.seq = s.log.seq + 1 ∧
        (∀ r : Fin 16, (s.flag F.ICE_RCFG_EN 0 r = true → s.iceState r = iceKeywait → t.iceState r = iceReady) ∧
          (s.flag F.ICE_RCFG_EN 0 r = false → t.iceState r = s.iceState r)) ∧
        ∀ b : Fin 16, s.swState b ≠ swUp → t.mb.links.get b {} = s.mb.links.get b {} ∧ (t.bridge b).keyNext = (s.bridge b).keyNext ∧
          (s.ckBank = false → t.bankKey (0x1000 + 0x80 * b.val) = (s.mb.links.get b {}).txCur)))

/-- R249, R285, R426, R430 to R435, R437 to R446: power-on and DEVICE resets, root lock, monitors and clock stops, the requests of PWR_REQ
and RST_CTRL with their results, domains that come up, go down or do not drain, the fabric lines' commit, wake and restore. -/
def Obligations.ClocksDomainsAndResetsFollowTheirRules : Prop :=
  ∀ (s : State),
    let starts := startDomains.map (fun d => ({ dom := d, kind := .on } : PwrOp))
    let had := (List.range 64).filter (fun x => (s.sector x).src.kind != 0)
    (∀ (cause : Fin 2) (strap : Fin 4), Answers (.powerOnReset cause strap) s (fun t => t.flash = s.flash ∧ t.fuses = s.fuses ∧
      t.log.pend = [] ∧ t.log.seq = s.log.seq ∧ t.pwr = { strap := strap } ∧ t.mb = {} ∧ t.engines = {} ∧ t.slices = {} ∧ t.dram = {} ∧
      t.sbk = {} ∧ t.harts = {} ∧ t.nis = {} ∧ t.bridges = {} ∧ t.lanes = {} ∧ t.plic = {} ∧ t.dbg = {} ∧ t.cstate = ckBoot ∧
      t.fld F.RST_CAUSE_LAST = cause.val ∧ t.fld F.CFG_STATUS_STRAP = strap.val ∧ ∀ (r : RegId) (i j k : Nat),
        regAddr r i j k ≠ regAddr .RST_CAUSE 0 0 0 → regAddr r i j k ≠ regAddr .CFG_STATUS 0 0 0 →
        t.reg r i j k = regReset r i j k)) ∧
    (s.cstate ≠ ckWait → s.pwr.tamperLatch = 0 → exec .oscillatorReady s = .next
      (let u := s.setFld F.CLK_STATUS_OSCRDY 1
       if s.mb.run = .off then u.modMb (fun m => { m with run := .booting }) else u)) ∧
    (s.cstate = ckWait → Answers .oscillatorReady s (fun t => t.cstate = ckStopped ∧ t.flag F.CLK_STATUS_OSCRDY = true ∧
      t.fld F.CLK_STATUS_CWAIT = satAdd (fldMax F.CLK_STATUS_CWAIT) (s.fld F.CLK_STATUS_CWAIT) 1 ∧ t.pwr.stopCause = 5 ∧
      t.pwr.tamperLatch = 0 ∧ t.time = s.time ∧ (s.pwr.tamperLatch ≠ 0 → t.flag F.LCS_STATUS_TAMPERED = true))) ∧
    (s.cstate = ckBoot → Answers .rootPllLock s (fun t => t.cstate = ckRun ∧ t.flag F.CLK_STATUS_PLLLOCK = true ∧ t.pwr.locked = true ∧
      t.time = (if s.pwr.locked then s.time else 0) ∧ (s.pwr.asleep = false → t.pwr.ops = s.pwr.ops ++ starts) ∧
      (s.pwr.asleep = true → t.pwr.ops = s.pwr.ops ++ starts ++ [{ dom := domSMP, kind := .on }] ∧ t.sbk = s.sbk) ∧
      (s.pwr.asleep = false → s.flag F.SBK_STATUS_WIPING = false → t.fld F.SBK_STATUS_CAUSE = 1 ∧ t.sbk = {}))) ∧
    (s.cstate = ckStopped → s.pwr.thermal = false → s.pwr.stopCause < 256 → Answers .rootPllLock s (fun t => t.cstate = ckRun ∧
      t.time = s.time ∧ t.fld F.RST_CAUSE_LAST = s.pwr.stopCause ∧ t.pwr.ops = starts ∧ t.engines = {} ∧ t.slices = {} ∧ t.dram = {} ∧
      t.smp.seg = s.smp.seg ∧ t.mb.owners = s.mb.owners ∧ t.mb.run = s.mb.run ∧
      t.fld F.RST_CAUSE_DEVCNT = satAdd (fldMax F.RST_CAUSE_DEVCNT) (s.fld F.RST_CAUSE_DEVCNT) 1)) ∧
    exec (.pllLockRetry false) s = .next s ∧
    (¬ (s.cstate = ckStopped ∧ s.pwr.thermal = true) → exec (.pllLockRetry true) s = exec .rootPllLock s) ∧
    (s.cstate = ckStopped → s.pwr.thermal = true →
      ((∀ n : Fin 40, s.temps.get n 0 < 1440) → Answers (.pllLockRetry true) s (fun t => t.cstate = ckRun ∧ t.pwr.thermal = false ∧
        t.pwr.ops = starts)) ∧
      ((∃ n : Fin 40, 1440 ≤ s.temps.get n 0) → exec (.pllLockRetry true) s = .next s)) ∧
    (∀ n : Fin 8, Answers (.clockMonitorTrip n) s (fun t => (t.fld F.CLK_STATUS_TRIP).testBit n = true ∧
      (n.val < 5 → s.cstate = ckRun → s.flag F.CLK_STATUS_OSCRDY = true → t.cstate = ckStopped ∧ t.pwr.stopCause = 3 ∧ t.pwr.stopMon = n.val ∧
        t.time = s.time ∧ t.dram = {} ∧ t.plic = {} ∧ ∀ j : Nat, j < 8 → t.reg .PWR_ON 0 j = s.reg .PWR_ON 0 j) ∧
      (n.val < 5 → s.cstate = ckRun → s.flag F.CLK_STATUS_OSCRDY = false → t.cstate = ckWait) ∧
      (n.val < 2 → t.flag F.CLK_STATUS_PLLLOCK = false) ∧ (n.val = 5 → t.flag F.CLK_STATUS_OSCRDY = false) ∧
      (n.val = 6 → t.flag F.CLK_STATUS_XTALRDY = false ∧ t.io.xtalFail = true) ∧
      (n.val = 7 → t.flag F.CLK_STATUS_MPLLLOCK = false ∧ t.mb.portUp = false) ∧ (5 ≤ n.val → t.cstate = s.cstate))) ∧
    (∀ (mid : MasterId) (scope inst : BitVec 16), s.ReachesReg mid .RST_CTRL 0 true →
      let c : Instr := .rstCtrlGo mid scope inst
      let ends (v : State) : Prop := exec c s = .next (v.noteRsp mid .ok [])
      let busy := s.flag F.RST_STATUS_BUSY = true ∨ ∃ d, scopeDomain scope.toNat inst.toNat = some d ∧ s.opOn d ≠ none
      (busy → ends (s.setFld F.RST_STATUS_CFGERR 1)) ∧
      (¬ busy → scope = 0 → inst = 0 → Answers c s (fun t => t.cstate = ckRun ∧ t.fld F.RST_CAUSE_LAST = 2 ∧ t.engines = {} ∧
        t.pwr.ops = starts ∧ t.time = s.time ∧ t.mb.run = s.mb.run)) ∧
      (¬ busy → scopeDomain scope.toNat inst.toNat = none → ¬ (scope = 0 ∧ inst = 0) → ends (s.setFld F.RST_STATUS_RESULT 3)) ∧
      (∀ d, ¬ busy → scopeDomain scope.toNat inst.toNat = some d →
        (s.offDenied d = true → ends (s.setFld F.RST_STATUS_RESULT 2)) ∧
        (s.offDenied d = false → ends ((s.setFld F.RST_STATUS_BUSY 1).modPwr (fun p =>
          { p with ops := p.ops ++ [{ dom := d, kind := .reset, ask := .rst }] }))))) ∧
    (∀ (mid : MasterId) (dom : BitVec 16) (on : Bool), s.ReachesReg mid .PWR_REQ 0 true →
      let d := dom.toNat
      let ends (v : State) : Prop := exec (.pwrReqGo mid dom on) s = .next (v.noteRsp mid .ok [])
      let busy := s.flag F.PWR_STATUS_BUSY = true ∨ s.opOn d ≠ none
      let u := s.setFld F.PWR_STATUS_DOMAIN d
      (busy → ends (s.setFld F.PWR_STATUS_CFGERR 1)) ∧
      (¬ busy → domExists d = false → ends (u.setFld F.PWR_STATUS_RESULT 3)) ∧
      (¬ busy → domExists d = true → u.domOn d = on → ends (u.setFld F.PWR_STATUS_RESULT 1)) ∧
      (¬ busy → domExists d = true → u.domOn d = true → on = false → u.offDenied d = true → ends (u.setFld F.PWR_STATUS_RESULT 2)) ∧
      (¬ busy → domExists d = true → u.domOn d = !on → (on = true ∨ u.offDenied d = false) →
        ends ((u.setFld F.PWR_STATUS_BUSY 1).modPwr (fun p =>
          { p with ops := p.ops ++ [{ dom := d, kind := if on then .on else .off, ask := .reg }] })))) ∧
    (∀ (dom : BitVec 16) (o : PwrOp), let d := dom.toNat
      domExists d = true → s.opOn d = some o → (∀ r, o.ask = .cmd r → r.via < 26) →
      let v := s.modPwr (fun p => { p with ops := p.ops.filter (fun q => q.dom != d) })
      (o.kind = .on → s.switchTurn d = true → s.cstate = ckRun →
        exec (.domainPowerUp dom) s = .next ((v.domainOn d).answerOp o.ask 1) ∧
        Answers (.domainPowerUp dom) s (fun t => t.domOn d = true ∧ t.opOn d = none ∧
          (o.ask = .reg → t.fld F.PWR_STATUS_RESULT = 1 ∧ t.flag F.PWR_STATUS_BUSY = false))) ∧
      (o.kind = .reset → s.drained d = true → exec (.domainPowerUp dom) s = .next ((v.domainReset d).answerOp o.ask 1) ∧
        Answers (.domainPowerUp dom) s (fun t => t.opOn d = none ∧ t.domOn d = s.domOn d ∧
          (o.ask = .rst → t.fld F.RST_STATUS_RESULT = 1 ∧ t.flag F.RST_STATUS_BUSY = false))) ∧
      (o.kind = .off → s.drained d = true → exec (.domainPowerDown dom) s = .next (((s.dropOff d).domainOff d).answerOp o.ask 1) ∧
        Answers (.domainPowerDown dom) s (fun t => t.domOn d = false ∧ (∀ q ∈ t.pwr.ops, q.dom = d → q.kind ≠ .off) ∧
          ∀ r, o.ask = .cmd r → t.mb.last.get r.via none = some { r with status := 0, data := [] })) ∧
      (o.kind ≠ .on → s.drained d = false → exec (.drainTimeout dom) s = .next (v.answerOp o.ask 4) ∧
        Answers (.drainTimeout dom) s (fun t => t.domOn d = s.domOn d ∧ t.opOn d = none ∧ t.fenced d = false ∧
          ∀ r, o.ask = .cmd r → t.mb.last.get r.via none = some { r with status := 8, data := [] }))) ∧
    (∀ mid : MasterId, s.ReachesReg mid .CLK_COMMIT 0 true →
      let good := ∀ g : Nat, g < 32 → 8 ≤ s.sfld F.CLK_GLOBAL_N 0 g ∧ s.sfld F.CLK_GLOBAL_N 0 g ≤ 4096
      (good → Answers (.clkCommit mid) s (fun t => ∀ g : Nat, g < 32 → t.reg .CLK_GLOBAL 0 g = s.shadowReg .CLK_GLOBAL 0 g ∧
        (s.shadowReg .CLK_GLOBAL 0 g ≠ s.reg .CLK_GLOBAL 0 g → t.pwr.globalFrom.get g 0 =
          s.lineRestartAt (s.flag F.CLK_GLOBAL_EN 0 g) (s.fld F.CLK_GLOBAL_N 0 g) (s.sfld F.CLK_GLOBAL_N 0 g)))) ∧
      (¬ good → exec (.clkCommit mid) s = .next ((s.setFld F.CLK_STATUS_CFGERR 1).noteRsp mid .ok []))) ∧
    (∀ n : Fin 18,
      let may := s.cstate = ckSleep ∧ (if n.val < 16 then s.mb.wakeMask.getLsbD n = true else
        if n.val = 16 then s.io.rtcAlarm ≠ 0 else s.flag F.LCS_STATUS_TAMPERED = true)
      (may → Answers (.wakeEvent n) s (fun t => t.cstate = ckBoot ∧ t.loader.user = false ∧ t.ldState = 0 ∧ t.time = s.time)) ∧
      (¬ may → exec (.wakeEvent n) s = .next s)) ∧
    ((s.pwr.asleep = false ∨ s.cstate ≠ ckRun ∨ ∃ x ∈ had, s.sectorOn x = false) → exec .wakeRestore s = .next s) ∧
    (s.pwr.asleep = true → s.cstate = ckRun → (∀ x ∈ had, s.sectorOn x = true) → (∀ k : Nat, k < 12 → s.dmcState k = dmcReady) →
      (had = [] → exec .wakeRestore s = .next ((s.modPwr (fun p => { p with asleep := false })).setLd
        (if s.loader.src.kind = 3 then ldWaitImage else ldDoneWait))) ∧
      (∀ x u, had = [x] → s.restoreSector x = some u → exec .wakeRestore s = .next
        ((u.modPwr (fun p => { p with asleep := false })).setLd ldDoneWait)) ∧
      ((∃ x ∈ had, (s.sector x).src.kind = 3) → Answers .wakeRestore s (fun t => t.pwr.asleep = false ∧
        t.fld F.CFG_STATUS_CAUSE = 9 ∧ t.flag F.CFG_STATUS_LOADERR = true ∧ (t.ldState = ldWaitImage ∨ t.ldState = ldDoneWait)))) ∧
    exec .tapReset s = .next { s with dbg := { s.dbg with tap := { shift := s.idcode } } } ∧
    exec .managementPllLock s = .next (s.setFld F.CLK_STATUS_MPLLLOCK 1) ∧
    Answers .crystalReady s (fun t => t.flag F.CLK_STATUS_XTALRDY = true ∧ t.pwr.crystal = true ∧ t.io.xtalFail = false ∧
      t.flag F.CLK_STATUS_OSCRDY = s.flag F.CLK_STATUS_OSCRDY)

/-- R449 to R456: PMX_EN gives each pin that is not locked its owner, the lock takes two writes, the pattern match and GPIO_IN see the
pads, and timers, SPI masters, I2C controllers, UARTs and the real-time clock do what their registers ask. -/
def Obligations.PinsLocksAndPeripheralsAct : Prop :=
  ∀ (s : State),
    (∀ en p : Nat,
      (∀ j : Nat, j < 12 → en.testBit j = true → p ∈ pmxPins j → (∀ i : Nat, i < j → en.testBit i = true → p ∉ pmxPins i) →
        ownerUnder en p = 1 + j) ∧
      ((∀ j : Nat, j < 12 → en.testBit j = true → p ∉ pmxPins j) → ownerUnder en p = 0)) ∧
    (∀ (mid : MasterId) (v : Word), s.ReachesReg mid .PMX_EN 0 true →
      (mid ≠ 328 → exec (.pmxEnWrite mid v) s = .next (s.noteRsp mid .edeny [])) ∧
      (mid = 328 → Answers (.pmxEnWrite mid v) s (fun t => t.fld F.PMX_EN_EN = v.toNat % 4096 ∧ ∀ p : Nat, p < 64 →
        let o := if s.io.locked.getLsbD p then s.pinOwner p else ownerUnder (v.toNat % 4096) p
        t.pinOwner p = o ∧ t.io.hiZ.getLsbD p = (s.io.hiZ.getLsbD p || o != s.pinOwner p)))) ∧
    (∀ (mid : MasterId) (key : Word), s.ReachesReg mid .GPIO_LOCK 0 true →
      let ends (t : State) : Prop := exec (.gpioLock mid key) s = .next (t.noteRsp mid .ok [])
      let inTime := ∃ t0, s.io.lockAt = some t0 ∧ s.now ≤ t0 + 1024
      (key = 0xC0DE → ends (s.modIo (fun x => { x with lockAt := some s.now }))) ∧
      (key = 0x3F21 → inTime → ends (s.modIo (fun x => { x with lockAt := none, locked := x.locked ||| s.reg .GPIO_LKMASK }))) ∧
      (key ≠ 0xC0DE → ¬ (key = 0x3F21 ∧ inTime) → ends (s.modIo (fun x => { x with lockAt := none })))) ∧
    exec .lockSequenceTimeout s = .next (s.modIo (fun x => { x with lockAt := none })) ∧
    (∀ board : Word,
      let v := s.padValue board
      let m := s.reg .GPIO_PMMASK
      let hit := m ≠ 0 ∧ v &&& m = s.reg .GPIO_PMVAL &&& m
      let en := s.flag F.GPIO_PMCTL_EN = true
      let level := s.flag F.GPIO_PMCTL_MODE = true
      (∀ p : Nat, p < 64 → v.getLsbD p = (s.pinDriven p).getD (board.getLsbD p)) ∧
      Answers (.patternMatch board) s (fun t => t.reg .GPIO_IN = v ∧ t.io.pads = board ∧ t.io.hiZ = 0 ∧ (t.io.matched = true ↔ hit) ∧
        (en → hit → (level ∨ s.io.matched = false) → t.plic.pend.get 10 false = true) ∧
        (en → hit → ¬ level → s.io.matched = false → t.flag F.GPIO_PMCTL_PMF = true) ∧
        ((¬ en ∨ ¬ hit ∨ ¬ level ∧ s.io.matched = true) → t.plic = s.plic ∧ t.reg .GPIO_PMCTL = s.reg .GPIO_PMCTL))) ∧
    (s.io.rtcAlarm ≠ 0 → s.rtc ≤ s.io.rtcAlarm → exec .rtcAlarm s = .next
      (({ s with rtc := s.io.rtcAlarm } : State).modIo (fun x => { x with alarmF := true }))) ∧
    (s.cstate = ckRun →
      (∀ k : Fin 4, let x := s.timer k
        (x.ctl.getLsbD 0 = false → exec (.timerCompare k) s = .next s) ∧
        (x.ctl.getLsbD 0 = true → exec (.timerCompare k) s = .next (s.modTimer k (fun y => { y with
          cmpF := true, count := if y.ctl.getLsbD 1 then 0 else y.cmp, since := s.now,
          tout := if y.ctl.extractLsb' 2 2 = 0 then y.tout else if y.ctl.extractLsb' 2 2 = 1 then true
            else if y.ctl.extractLsb' 2 2 = 2 then false else !y.tout }))) ∧
        (countOnes (s.reg .PMX_TCAP 0 k) = 1 → exec (.timerCapture k) s = .next (s.modTimer k (fun y => { y with
          cap := if x.ctl.getLsbD 0 then x.count + BitVec.ofNat 64 (s.now / 16 - x.since / 16) else x.count,
          capOvf := y.capOvf || y.capF, capF := true }))) ∧
        (countOnes (s.reg .PMX_TCAP 0 k) ≠ 1 → exec (.timerCapture k) s = .next s)) ∧
      (∀ (m : Fin 2) (len : BitVec 16), let x := s.spim m
        (len = 0 → exec (.spiMasterTransfer m len) s = .next s) ∧
        (len ≠ 0 → x.busy = true → exec (.spiMasterTransfer m len) s = .next (s.modSpim m (fun y => { y with cfgErr := true }))) ∧
        (len ≠ 0 → x.busy = false → exec (.spiMasterTransfer m len) s = .next
          (s.modSpim m (fun y => { y with busy := true, len := len.toNat })))) ∧
      (∀ (m : Fin 2) (bytes : List Byte), (s.spim m).busy = true → exec (.spiMasterTransferDone m bytes) s = .next
        (s.modSpim m (fun y => { y with
          busy := false, len := 0, tx := y.tx.drop y.len, rx := (y.rx ++ bytes.take y.len).take 256 }))) ∧
      (∀ (i : Fin 4) (cmd : BitVec 25), let x := s.i2c i
        let works := cmd.getLsbD 24 = true ∧ ¬ (cmd.extractLsb' 8 8 = 0 ∧ cmd.extractLsb' 16 8 = 0)
        (¬ works → exec (.i2cTransaction i cmd) s = .next s) ∧
        (works → x.busy = true → exec (.i2cTransaction i cmd) s = .next (s.modI2c i (fun y => { y with cfgErr := true }))) ∧
        (works → x.busy = false → exec (.i2cTransaction i cmd) s = .next (s.modI2c i (fun y => { y with
          cmd := cmd, busy := true, nack := false, arbLost := false, tmo := false, pecErr := false })))) ∧
      (∀ (i : Fin 4) (nack arb tmo pec : Bool) (bytes : List Byte), (s.i2c i).busy = true →
        exec (.i2cTransactionDone i nack arb tmo pec bytes) s = .next (s.modI2c i (fun y => { y with
          busy := false, nack := nack, arbLost := arb, tmo := tmo && y.cfg.getLsbD 3, pecErr := pec && y.cfg.getLsbD 2,
          fifo := if y.cmd.getLsbD 7 = true ∧ nack = false then (bytes.take (y.cmd.extractLsb' 16 8).toNat).take 32
            else y.fifo.drop (y.cmd.extractLsb' 8 8).toNat }))) ∧
      (∀ i : Fin 4, (s.pinOwner (18 + 3 * i) = 2 + i.val → exec (.smbusAlert i) s = .next (s.modI2c i (fun y => { y with alert := true }))) ∧
        (s.pinOwner (18 + 3 * i) ≠ 2 + i.val → exec (.smbusAlert i) s = .next s)) ∧
      (∀ (u : Fin 2) (b : Byte), let x := s.uart u
        let c := if x.cfg.getLsbD 18 then b &&& 0x7F#8 else b
        (x.tx.length < 64 → exec (.uartTransmit u b) s = .next (s.modUart u (fun y => { y with tx := y.tx ++ [c] }))) ∧
        (64 ≤ x.tx.length → exec (.uartTransmit u b) s = .next s) ∧
        (∀ fe pe : Bool, x.cfg.extractLsb' 0 16 ≠ 0 → s.pinOwner (29 + 2 * u) = 6 + u.val → exec (.uartReceive u b fe pe) s = .next
          (s.modUart u (fun y => { y with
            frameErr := y.frameErr || fe, parErr := y.parErr || (pe && y.cfg.extractLsb' 16 2 != 0),
            rx := if y.rx.length < 64 then y.rx ++ [c] else y.rx, overrun := y.overrun || decide (64 ≤ y.rx.length) })))))

/-- R440, R459 to R466: host boot copies a good image and releases core 0; SYS_CORE_RUN releases and resets cores; the interrupt controller
claims the pending source of highest priority and lowest ID and completes it; a core's access outside DRAM is sent or traps; a failed
write-back, the timer, and the watchdogs with their two stages. -/
def Obligations.CoresInterruptsAndWatchdogsAct : Prop :=
  ∀ (s : State),
    let fresh (u : State) (k : Nat) : Hart :=
      { running := (u.fld F.SYS_CORE_RUN_RUN).testBit k && u.domOn (domCPU k) && !u.coresHeld, pc := u.reg .SYS_RVBAR 0 k }
    (let h := s.flashBytes hostBase 512
     let body := s.flashBytes (hostBase + 512) (hdrWord h 8).toNat
     let good := s.hostHeaderGood h = true ∧ sha512 body = BitVec.ofNat 512 (beNat ((h.drop 0x40).take 64))
     let copied := s.forAll (List.range ((body.length + 63) / 64)) (fun acc i =>
       acc.bootLine ((hdrWord h 0x10).toNat + 64 * i) ((body.drop (64 * i)).take 64))
     s.cstate = ckRun → s.userMode = true → s.mb.run = .firmware →
       (¬ good → exec .hostBoot s = .next (s.setFld F.SYS_CORE_RUN_BOOTERR 1)) ∧
       (good → Answers .hostBoot s (fun t => t.dram = copied.dram ∧ t.reg .SYS_RVBAR 0 0 = hdrWord h 0x18 &&& 0x0000FFFFFFFFFFFF#64 ∧
         (t.fld F.SYS_CORE_RUN_RUN).testBit 0 = true ∧
         ((copied.fld F.SYS_CORE_RUN_RUN).testBit 0 = false → t.hart 0 = fresh t 0)))) ∧
    (∀ (mid : MasterId) (run : Byte), s.ReachesReg mid .SYS_CORE_RUN 0 true → Answers (.coreRun mid run) s (fun t =>
      t.fld F.SYS_CORE_RUN_RUN = run.toNat ∧ t.flag F.SYS_CORE_RUN_BOOTERR = s.flag F.SYS_CORE_RUN_BOOTERR ∧ ∀ k : Nat, k < 8 →
        t.hart k = (if (s.fld F.SYS_CORE_RUN_RUN).testBit k = run.getLsbD k then s.hart k else fresh t k))) ∧
    (∀ (mid : MasterId) (src : BitVec 10), s.ReachesReg mid .SYS_IRQPOST 0 true →
      (src.toNat < 768 → exec (.irqpost mid src) s = .next (s.noteRsp mid .ok [])) ∧
      (768 ≤ src.toNat → Answers (.irqpost mid src) s (fun t => t.plic.pend.get src.toNat false = true ∧
        ∀ n : Nat, n ≠ src.toNat → t.plic.pend.get n false = s.plic.pend.get n false))) ∧
    (∀ (mid : MasterId) (ctx : Fin 16), s.Reaches mid .plic false → s.inspects mid = false →
      let id := s.claimId ctx
      let hot (n : Nat) : Prop := s.plic.pend.get n false = true ∧ s.irqEnabled ctx n = true ∧ 0 < s.plic.prio.get n 0
      (s.plic.pend.wf false = true → (id ≠ 0 → hot id ∧ ∀ n : Nat, hot n → s.plic.prio.get n 0 < s.plic.prio.get id 0 ∨
          s.plic.prio.get n 0 = s.plic.prio.get id 0 ∧ id ≤ n) ∧
        (s.plic.pend.get 0 false = false → (∃ n, hot n) → id ≠ 0)) ∧
      Answers (.plicClaim mid ctx) s (fun t =>
        t.rsps.get mid.toNat none = some { status := .ok, words := [(BitVec.ofNat 64 (id * 2 ^ 32 + s.plic.thresh.get ctx 0), false)] } ∧
        (id = 0 → t.plic = s.plic) ∧
        (id ≠ 0 → t.plic.pend.get id false = false ∧ t.plic.claimed.get id false = true ∧
          ∀ n : Nat, n ≠ id → t.plic.pend.get n false = s.plic.pend.get n false))) ∧
    (∀ (mid : MasterId) (ctx : Fin 16) (v : Word), s.Reaches mid .plic true →
      let id := (v.extractLsb' 32 32).toNat
      let done := id ≠ 0 ∧ id < 1024 ∧ s.plic.claimed.get id false = true ∧ s.irqEnabled ctx id = true
      Answers (.plicComplete mid ctx v) s (fun t => t.plic.thresh.get ctx 0 = v.toNat % 8 ∧ t.plic.prio = s.plic.prio ∧
        (done → t.plic.claimed.get id false = false ∧
          t.plic.pend.get id false = (s.levelHolds id || s.plic.pend.get id false)) ∧
        (¬ done → t.plic.claimed = s.plic.claimed ∧ t.plic.pend = s.plic.pend))) ∧
    (∀ (k : Fin 8) (kind : CoreAccess) (a : Addr) (bytes : Fin 9) (rd : BitVec 5) (v : Word) (same : Bool),
      s.live (domCPU k) = true → s.hartRuns k = true → (s.hart k).wait = none → regionAt a.toNat ≠ some .dram →
      let c : Instr := .coreUncacheableAccess k kind a bytes rd v same
      let sends := bytes.val = 8 ∧ a.toNat % 8 = 0 ∧ regionAt a.toNat ≠ none ∧ kind ≠ .other ∧ kind ≠ .fetch
      let cause := if kind = .load then 5 else if kind = .fetch then 1 else 7
      (sends → exec c s = .next ((s.modHart k (fun h => { h with wait := some (s.xnext, rd.toNat) })).issue
        { mid := BitVec.ofNat 10 (320 + k), tag := rd.toNat, addr := a.toNat, len := 1, same := same,
          kind := if kind = .load then .read else if kind = .store then .write else if kind = .amoAdd then .atomic .add64
            else .atomic .swap64,
          wpar := if kind = .load then [] else [(v, false)] })) ∧
      (¬ sends → Answers c s (fun t => t = { s with harts := t.harts } ∧ (∀ m : Nat, m ≠ k.val → t.hart m = s.hart m) ∧
        (t.hart k).gpr = (s.hart k).gpr ∧
        ((s.hart k).priv = 3 ∨ ((s.hart k).c csrMedeleg).getLsbD cause = false → (t.hart k).c csrMcause = BitVec.ofNat 64 cause ∧
          (t.hart k).c csrMepc = (s.hart k).pc ∧ (t.hart k).c csrMtval = BitVec.ofNat 64 a.toNat ∧ (t.hart k).priv = 3 ∧
          (t.hart k).pc = (s.hart k).c csrMtvec &&& ~~~ 3#64) ∧
        ((s.hart k).priv < 3 → ((s.hart k).c csrMedeleg).getLsbD cause = true → (t.hart k).c csrScause = BitVec.ofNat 64 cause ∧
          (t.hart k).c csrSepc = (s.hart k).pc ∧ (t.hart k).c csrStval = BitVec.ofNat 64 a.toNat ∧ (t.hart k).priv = 1 ∧
          (t.hart k).pc = (s.hart k).c csrStvec &&& ~~~ 3#64)))) ∧
    (∀ (k : Fin 8) (a : Addr) (st : Fin 16), s.live (domCPU k) = true → Answers (.writebackError k a st) s (fun t =>
      (∀ (n : Nat) (l : CacheLine), (t.caches.l1i.get n none = some l ∨ t.caches.l1d.get n none = some l ∨ t.caches.l2.get n none = some l ∨
        t.caches.l3.get n none = some l) → l.line ≠ a.toNat / 64) ∧ t.reg .SYS_WBERR 0 k = BitVec.ofNat 64 (2 ^ 63 + st.val * 2 ^ 48 + a.toNat / 64 * 64) |||
        (s.reg .SYS_WBERR 0 k &&& 0x7FF0000000000000#64) ∧
      t.plic.pend.get (262 + k) false = true ∧ t.dram = s.dram)) ∧
    (∀ k : Fin 8, s.live (domCPU k) = true → Answers (.machineTimer k) s (fun t => t.timerPending k = true ∧
      t = { s with time := t.time } ∧ t.now = max s.now (s.reg .TB_MTIMECMP 0 k).toNat)) ∧
    (∀ (mid : MasterId) (k : Fin 9) (key : Word), s.ReachesReg mid .WDT_KICK k true →
      (key = 0xA5C3 → Answers (.wdtKick mid k key) s (fun t => t.fld F.WDT_STATUS_STAGE k = 0 ∧ t.dbg.wdtAt.get k 0 = s.now ∧
        t.reg .WDT_CTRL k = s.reg .WDT_CTRL k)) ∧
      (key ≠ 0xA5C3 → exec (.wdtKick mid k key) s = .next ((s.setFld F.WDT_STATUS_BADKEY 1 k).noteRsp mid .ok []))) ∧
    (∀ k : Fin 9,
      let counts := s.flag F.WDT_CTRL_EN k = true ∧ s.fld F.WDT_PERIOD_PERIOD k ≠ 0 ∧ s.wdtFrozen k = false
      (¬ counts → exec (.wdtExpiry k) s = .next s) ∧
      (counts → s.fld F.WDT_STATUS_STAGE k = 0 → Answers (.wdtExpiry k) s (fun t => t.fld F.WDT_STATUS_STAGE k = 1 ∧
        t.flag F.WDT_STATUS_EARLY k = true ∧ t.dbg.wdtAt.get k 0 = t.now ∧ t.harts = s.harts ∧ t.mb = s.mb ∧
        (k.val < 8 → t.plic.pend.get (253 + k) false = true))) ∧
      (counts → s.fld F.WDT_STATUS_STAGE k ≠ 0 → Answers (.wdtExpiry k) s (fun t => t.fld F.WDT_STATUS_STAGE k = 0 ∧
        t.fld F.WDT_STATUS_RESETS k = satAdd (fldMax F.WDT_STATUS_RESETS) (s.fld F.WDT_STATUS_RESETS k) 1 ∧
        t.flag F.WDT_CTRL_EN k = true ∧ (k.val < 8 → t.hart k = fresh t k) ∧
        (k.val = 8 → s.mb.run ≠ .off → s.mb.run ≠ .safe → t.mb.run = .booting ∧ t.mb.cause = 2))))

/-- R183, R206, R467 to R475: the TAP instructions select their registers; the debug module halts, resumes, steps and resets the
harts that the level grants, runs abstract commands and bus accesses, the meter core with a seal step; triggers, engine watches and
their actions; the virtual terminal. What stands in a hart's registers after it has executed is free (log entry 42). -/
def Obligations.DebugActsAtItsLevel : Prop :=
  ∀ (s : State),
    let fresh (u : State) (k : Nat) : Hart :=
      { running := (u.fld F.SYS_CORE_RUN_RUN).testBit k && u.domOn (domCPU k) && !u.coresHeld, pc := u.reg .SYS_RVBAR 0 k }
    let level := s.dbgLevel
    let selects (c : Instr) (ir : Nat) (reg : TapReg) (shift : Word) : Prop := exec c s = .next
      (s.modTap (fun t => { t with ir := ir, reg := reg, shift := shift, drive := false, highz := false }))
    selects .idcode 1 .idcode s.idcode ∧ selects .bypass 0x3F .bypass 0 ∧
    (s.boardTest = false → (∀ w : Word, selects (.extest w) 0 .bypass 0 ∧ selects (.samplePreload w) 2 .bypass 0) ∧
      selects .clamp 3 .bypass 0 ∧ selects .highz 4 .bypass 0) ∧
    (s.boardTest = true →
      (∀ w : Word, exec (.extest w) s = .next (s.modTap (fun t => { t with
          ir := 0, reg := .boundary, shift := s.padValue s.io.pads, boundary := w, drive := true, highz := false })) ∧
        exec (.samplePreload w) s = .next (s.modTap (fun t => { t with
          ir := 2, reg := .boundary, shift := s.padValue s.io.pads, boundary := w, drive := false, highz := false }))) ∧
      exec .clamp s = .next (s.modTap (fun t => { t with ir := 3, reg := .bypass, shift := 0, drive := true, highz := false })) ∧
      exec .highz s = .next (s.modTap (fun t => { t with ir := 4, reg := .bypass, shift := 0, drive := false, highz := true }))) ∧
    (∀ v : BitVec 32, exec (.dtmcs v) s = .next (s.modTap (fun t => { t with
      ir := 0x10, reg := .dtmcs, drive := false, highz := false,
      shift := BitVec.ofNat 64 (0x91 + t.dmiErr * 1024), dmiErr := if v.getLsbD 16 then 0 else t.dmiErr }))) ∧
    (∀ (op : Fin 4) (a : BitVec 9) (v : BitVec 32),
      let r := if s.dbg.tap.dmiErr ≠ 0 then (s.dbg.tap.dmiErr, (0#32, s)) else s.dmiAccess op a.toNat v
      exec (.dmi op a v) s = .next (r.2.2.modTap (fun t => { t with
        ir := 0x11, reg := .dmi, dmiErr := r.1, drive := false, highz := false,
        shift := BitVec.ofNat 64 (r.1 + r.2.1.toNat * 4 + a.toNat * 2 ^ 34) })) ∧
      (op.val ≠ 0 → level = 0 → s.dmiAccess op a.toNat v = (2, 0, s)) ∧
      (level ≠ 0 → a ≠ 0x3C → s.dmiAccess 1 a.toNat v = (0, s.dmRead a.toNat, s)) ∧
      (level = 1 → (a = 0x04 ∨ a = 0x10 ∨ a = 0x17 ∨ a = 0x20) → s.dmiAccess 2 a.toNat v = (2, 0, s)) ∧
      (2 ≤ level → (s.dmiAccess 2 4 v).1 = 0 ∧ (s.dmiAccess 2 4 v).2.2.dmRead 4 = v ∧ (s.dmiAccess 2 0x21 v).2.2.dmRead 0x21 = v)) ∧
    (∀ h : Fin 10, let x := s.hart h
      let may := h.val < 8 ∧ 2 ≤ level ∨ h.val = 8 ∧ level = 3 ∨ h.val = 9 ∧ level = 3 ∧ s.fuses.lc = 3
      let others (t : State) : Prop := ∀ k : Nat, k ≠ h.val → t.hart k = s.hart k
      let steps := h.val = 9 ∧ s.dbg.meterSeal = false
      let sealed (t : State) : Prop := steps → t.dbg.meterSeal = true ∧ (s.fuses.sealNo < 4096 → t.fuses.sealNo = s.fuses.sealNo + 1)
      (¬ may → exec (.hartHalt h) s = .next s ∧ exec (.hartResume h) s = .next s ∧ exec (.singleStep h) s = .next s ∧
        exec (.hartreset h) s = .next s) ∧
      (may → s.hartRuns h = true → x.halted = false → x.priv < 4 → Answers (.hartHalt h) s (fun t => (t.hart h).halted = true ∧
        (t.hart h).resv = none ∧ (t.hart h).c csrDpc = x.pc ∧ ((t.hart h).c csrDcsr).extractLsb' 6 3 = 3 ∧
        (((t.hart h).c csrDcsr).extractLsb' 0 2).toNat = x.priv ∧ (t.hart h).gpr = x.gpr ∧ others t ∧ sealed t ∧
        (¬ steps → t = { s with harts := t.harts }))) ∧
      (may → x.halted = true → Answers (.hartResume h) s (fun t => (t.hart h).halted = false ∧ (t.hart h).pc = x.c csrDpc ∧
        (t.hart h).priv = (x.c csrDcsr).toNat % 4 ∧ (t.hart h).gpr = x.gpr ∧ others t ∧
        (h.val < 8 → t.fld F.WDT_STATUS_STAGE h = 0 ∧ t.dbg.wdtAt.get h 0 = s.now))) ∧
      (may → x.halted = true → Answers (.singleStep h) s (fun t => (t.hart h).halted = true ∧
        ((t.hart h).c csrDcsr).extractLsb' 6 3 = 4 ∧ others t ∧ sealed t ∧
        ∃ n, (¬ steps → n = s.free) ∧ (t.hart h).c csrDpc = Config.freeValue 64 n ∧ t.free = n + 65)) ∧
      (may → h.val < 8 → Answers (.hartreset h) s (fun t => t.hart h = fresh s h ∧ others t ∧ t.regs = s.regs)) ∧
      (may → h.val = 8 → s.mb.run ≠ .off → s.mb.run ≠ .safe → Answers (.hartreset h) s (fun t => t.hart 8 = {} ∧ t.mb.run = .booting ∧
        others t)) ∧
      (may → h.val = 9 → Answers (.hartreset h) s (fun t => t.hart 9 = {} ∧ others t ∧ sealed t ∧ (¬ steps → t = { s with harts := t.harts }) ∧
        t.fld F.SMP_STATUS_RESETS = s.fld F.SMP_STATUS_RESETS)) ∧
      (∀ n : Fin 9, let g := x.trigs.get n {}
        let typ := (g.tdata1.extractLsb' 60 4).toNat
        let action := if typ = 6 then (g.tdata1.extractLsb' 12 4).toNat else (g.tdata1.extractLsb' 0 6).toNat
        let works := s.hartRuns h = true ∧ x.halted = false ∧ (typ = 6 ∧ n.val < 8 ∨ typ = 3 ∧ n.val = 8)
        (works → action = 0 → exec (.triggerFire h n) s = .next (s.modHart h (fun y => y.trap 3 y.pc))) ∧
        (works → action = 1 → g.tdata1.getLsbD 59 = true → x.priv < 4 → Answers (.triggerFire h n) s (fun t => (t.hart h).halted = true ∧
          (t.hart h).resv = none ∧ (t.hart h).c csrDpc = x.pc ∧ ((t.hart h).c csrDcsr).extractLsb' 6 3 = 2 ∧ others t)) ∧
        ((¬ works ∨ action = 1 ∧ g.tdata1.getLsbD 59 = false) → exec (.triggerFire h n) s = .next s))) ∧
    (level < 2 → exec .ndmreset s = .next s) ∧
    (2 ≤ level → Answers .ndmreset s (fun t => (∀ k : Nat, k < 8 → t.hart k = fresh s k) ∧ t.hart 8 = s.hart 8 ∧ t.hart 9 = s.hart 9 ∧
      t.engines = s.engines ∧ t.regs = s.regs)) ∧
    (∀ cmd : BitVec 32, let h := s.dbg.dm.hartSel
      let x := s.hart h
      let r := (cmd.extractLsb' 0 16).toNat
      let fails (e : Nat) : Prop := exec (.abstractCommand cmd) s = .next (s.modDm (fun d => { d with cmdErr := e }))
      let arg : Word := s.dbg.dm.data1 ++ s.dbg.dm.data0
      let access := s.dbg.dm.cmdErr = 0 ∧ s.hartAllowed h = true ∧ cmd.extractLsb' 24 8 = 0 ∧ x.halted = true ∧ cmd.getLsbD 17 = true ∧
        cmd.getLsbD 18 = false ∧ cmd.extractLsb' 20 3 = 3 ∧ (h = 9 → s.dbg.meterSeal = true)
      (s.dbg.dm.cmdErr ≠ 0 → exec (.abstractCommand cmd) s = .next s) ∧
      (s.dbg.dm.cmdErr = 0 → (s.hartAllowed h = false ∨ cmd.extractLsb' 24 8 ≠ 0) → fails 2) ∧
      (s.dbg.dm.cmdErr = 0 → s.hartAllowed h = true → cmd.extractLsb' 24 8 = 0 → x.halted = false → fails 4) ∧
      (s.dbg.dm.cmdErr = 0 → s.hartAllowed h = true → cmd.extractLsb' 24 8 = 0 → x.halted = true → cmd.getLsbD 17 = false → h = 9 →
        s.dbg.meterSeal = false → Answers (.abstractCommand cmd) s (fun t => t.dbg.meterSeal = true ∧
          (s.fuses.sealNo < 4096 → t.fuses.sealNo = s.fuses.sealNo + 1))) ∧
      (access → 0x1040 ≤ r → fails 3) ∧
      (access → cmd.getLsbD 16 = false → ∀ v, s.absRead h r = some v → exec (.abstractCommand cmd) s = .next
        (s.modDm (fun d => { d with data0 := v.setWidth 32, data1 := v.extractLsb' 32 32 }))) ∧
      (access → cmd.getLsbD 16 = true → 0x1001 ≤ r → r < 0x1020 → Answers (.abstractCommand cmd) s (fun t =>
        (t.hart h).gpr.get (r - 0x1000) 0 = arg ∧ t.absRead h r = some arg ∧ t = { s with harts := t.harts })) ∧
      (access → cmd.getLsbD 16 = true → 0x1020 ≤ r → r < 0x1040 → Answers (.abstractCommand cmd) s (fun t =>
        t.absRead h r = some arg ∧ t = { s with harts := t.harts })) ∧
      (access → cmd.getLsbD 16 = true → r < 0x1000 → r ≠ csrTselect → r ≠ csrTdata1 → r ≠ csrTdata2 →
        Answers (.abstractCommand cmd) s (fun t => (t.hart h).c r = arg ∧ t = { s with harts := t.harts }))) ∧
    (∀ same : Bool, s.cstate = ckRun → let d := s.dbg.dm
      let fails (e : Nat) : Prop := exec (.systemBusAccess same) s = .next ((s.modDbg (fun x => { x with sbPend := none })).modDm (fun y =>
        { y with sbError := e }))
      (s.dbg.sbPend = none → exec (.systemBusAccess same) s = .next s) ∧
      (∀ w, s.dbg.sbPend = some w →
        let beyond := level = 0 ∨ level = 1 ∧ isVtAddr (d.sbAddr.toNat % 2 ^ 48) = false ∧ (w = true ∨ s.flag F.DBG_CTRL_INSPECT = false)
        (d.sbAccess ≠ 3 → fails 4) ∧ (d.sbAccess = 3 → d.sbAddr.toNat % 8 ≠ 0 → fails 3) ∧
        (d.sbAccess = 3 → d.sbAddr.toNat % 8 = 0 → beyond → fails 7) ∧
        (d.sbAccess = 3 → d.sbAddr.toNat % 8 = 0 → ¬ beyond → exec (.systemBusAccess same) s = .next
          ((s.modDbg (fun x => { x with sbPend := none, sbWait := some s.xnext })).issue
            { mid := 329, kind := if w then .write else .read, addr := d.sbAddr.toNat % 2 ^ 48, len := 1, same := same,
              wpar := if w then [(d.sbData, false)] else [] })))) ∧
    (s.cstate = ckRun → ∀ (u : Fin 16) (fails : BitVec 4) (idx : Word48),
      let e := s.fld F.DBG_EWCFG_ENG 0 u
      let x := s.eng e
      let src := s.fld F.DBG_EWCFG_SRC 0 u
      let v : Word := if src = 0 then x.ao.setWidth 64 else if src = 1 then x.dout else if src = 2 then x.flags.setWidth 64
        else fails.setWidth 64
      let m := s.reg .DBG_EWMASK 0 u
      let matched := s.flag F.DBG_EWCFG_EN 0 u = true ∧ v &&& m = s.reg .DBG_EWVAL 0 u &&& m
      let act := s.fld F.DBG_EWCFG_ACT 0 u
      let c : Instr := .watchMatch u fails idx
      let counted (t : State) : Prop :=
        t.fld F.DBG_EWCNT_COUNT 0 u = satAdd (fldMax F.DBG_EWCNT_COUNT) (s.fld F.DBG_EWCNT_COUNT 0 u) 1 ∧
        t.reg .DBG_EWHIT 0 u = (if s.flag F.DBG_EWHIT_VALID 0 u then s.reg .DBG_EWHIT 0 u
          else BitVec.ofNat 64 (2 ^ 63 + (if x.mode = .stream then 0 else 2 ^ 48) + idx.toNat))
      (¬ matched → exec c s = .next s) ∧
      (matched → act = 0 → Answers c s (fun t => counted t ∧ t.engines = s.engines ∧ t.dbg = s.dbg)) ∧
      (matched → act = 1 → x.mode = .stream → Answers c s (fun t => counted t ∧
        t.dbg.pauses = s.dbg.pauses ++ [(s.leader e, s.now + 32)] ∧ t.engines = s.engines)) ∧
      (matched → act = 3 → Answers c s (fun t => counted t ∧ t.dbg.freezes = s.dbg.freezes ++ [(s.now + 71) / 8 * 8] ∧
        t.engines = s.engines)) ∧
      (matched → act = 2 → (x.mode = .analysis ∨ x.mode = .sync) → x.alone = true → x.gangFault = none → Answers c s (fun t =>
        counted t ∧ (t.eng e).mode = .fault ∧ ∀ k : Nat, k ≠ e → t.eng k = s.eng k))) ∧
    (∀ (e : Fin 256) (p : Nat × Nat), s.live (domCL (e / 4)) = true → s.dbg.pauses.find? (fun q => q.1 == e.val) = some p →
      let dropped := s.dbg.pauses.filter (fun q => q.1 != e.val)
      ((s.eng e).mode ≠ .stream → exec (.watchPause e) s = .next (s.modDbg (fun d => { d with pauses := dropped }))) ∧
      ((s.eng e).mode = .stream → s.leader e = e.val → (s.eng e).alone = false → (s.eng e).s6.isSome = true →
        s.faulting (s.members e) = false → exec (.watchPause e) s = .next
          (((s.atTime p.2).modDbg (fun d => { d with pauses := dropped })).stepParts (s.members e) .forced))) ∧
    (∀ at' rest, s.cstate = ckRun → s.dbg.freezes = at' :: rest → Answers .watchFreeze s (fun t => t.dbg.freezes = rest ∧
      (∀ i : Nat, i < 412 → s.pmonOn i = true → t.flag F.PMON_STATUS_FROZEN i = true) ∧ t.engines = s.engines)) ∧
    (∀ (mid : MasterId) (k : Fin 8) (v : Word), s.ReachesReg mid .DBG_VT_TX 0 true → s.ReachesReg mid .DBG_VT_TX 0 false →
      let core := mid.toNat = 320 + k.val
      let probe := mid = 329 ∧ 1 ≤ level
      let word := v &&& 0x07FFFFFFFFFFFFFF#64
      let data (t : State) : Option Word := (t.rsps.get mid.toNat none).bind (fun r => (r.words.head?).map (·.1))
      let denied (c : Instr) : Prop := Answers c s (fun t => (t.rsps.get mid.toNat none).map (·.status) = some .edeny ∧ t.regs = s.regs)
      (¬ core → denied (.vtTxWrite mid k v)) ∧
      (core → fldOf F.DBG_VT_TX_N v = 0 → exec (.vtTxWrite mid k v) s = .next (s.noteRsp mid .ok [])) ∧
      (core → fldOf F.DBG_VT_TX_N v ≠ 0 → s.flag F.DBG_VT_STAT_TXFULL 0 k = true →
        exec (.vtTxWrite mid k v) s = .next ((s.setFld F.DBG_VT_STAT_TXOVF 1 0 k).noteRsp mid .ok [])) ∧
      (core → fldOf F.DBG_VT_TX_N v ≠ 0 → s.flag F.DBG_VT_STAT_TXFULL 0 k = false →
        exec (.vtTxWrite mid k v) s = .next (((s.setReg .DBG_VT_TX word 0 k).setFld F.DBG_VT_STAT_TXFULL 1 0 k).noteRsp mid .ok [])) ∧
      (core → Answers (.vtTxRead mid k) s (fun t => data t = some (s.reg .DBG_VT_TX 0 k) ∧ t.regs = s.regs)) ∧
      (probe → Answers (.vtTxRead mid k) s (fun t => data t = some (s.reg .DBG_VT_TX 0 k) ∧
        (s.inspects mid = false → t.flag F.DBG_VT_STAT_TXFULL 0 k = false ∧ t.reg .DBG_VT_TX 0 k = 0) ∧
        (s.inspects mid = true → t.regs = s.regs))) ∧
      (¬ core → ¬ probe → denied (.vtTxRead mid k) ∧ denied (.vtRxRead mid k)) ∧
      (¬ probe → denied (.vtRxWrite mid k v)) ∧
      (probe → fldOf F.DBG_VT_RX_N v = 0 → exec (.vtRxWrite mid k v) s = .next (s.noteRsp mid .ok [])) ∧
      (probe → fldOf F.DBG_VT_RX_N v ≠ 0 → s.flag F.DBG_VT_STAT_RXFULL 0 k = true →
        exec (.vtRxWrite mid k v) s = .next ((s.setFld F.DBG_VT_STAT_RXOVF 1 0 k).noteRsp mid .ok [])) ∧
      (probe → fldOf F.DBG_VT_RX_N v ≠ 0 → s.flag F.DBG_VT_STAT_RXFULL 0 k = false → Answers (.vtRxWrite mid k v) s (fun t =>
        t.reg .DBG_VT_RX 0 k = word ∧ t.flag F.DBG_VT_STAT_RXFULL 0 k = true ∧
        (s.flag F.DBG_VT_STAT_IEN 0 k = true → t.plic.pend.get (270 + k) false = true))) ∧
      (probe → Answers (.vtRxRead mid k) s (fun t => data t = some (s.reg .DBG_VT_RX 0 k) ∧ t.regs = s.regs)) ∧
      (core → Answers (.vtRxRead mid k) s (fun t => data t = some (s.reg .DBG_VT_RX 0 k) ∧
        (s.inspects mid = false → t.flag F.DBG_VT_STAT_RXFULL 0 k = false ∧ t.reg .DBG_VT_RX 0 k = 0) ∧
        (s.inspects mid = true → t.regs = s.regs))))
end

