-- ==== Sys2Proof/Laws/Tab.lean ====
section
/-!
SUPPORT. What the operations of sparse tables do: reading after writing, and the canonical form, which every operation keeps.
-/
namespace Sys2Proof.Machine

variable {α : Type}

/-! ### Reading after writing -/

theorem lookupCell_erase_same (d : α) (k : Nat) (l : List (Nat × α)) : lookupCell d k (eraseCell k l) = d := by
  induction l with
  | nil => rfl
  | cons c t ih =>
    obtain ⟨k', v⟩ := c
    simp only [eraseCell]
    split
    · exact ih
    · rename_i h; simp only [lookupCell, h, if_false]; exact ih

theorem lookupCell_erase_other (d : α) {k j : Nat} (h : j ≠ k) (l : List (Nat × α)) :
    lookupCell d j (eraseCell k l) = lookupCell d j l := by
  induction l with
  | nil => rfl
  | cons c t ih =>
    obtain ⟨k', v⟩ := c
    simp only [eraseCell]
    split
    · rename_i hk; subst hk; rw [ih]; simp only [lookupCell, if_neg (Ne.symm h)]
    · simp only [lookupCell, ih]

theorem lookupCell_insert_same (d v : α) (k : Nat) (l : List (Nat × α)) : lookupCell d k (insertCell k v l) = v := by
  induction l with
  | nil => simp [insertCell, lookupCell]
  | cons c t ih =>
    obtain ⟨k', w⟩ := c
    simp only [insertCell]
    split
    · simp [lookupCell]
    · split
      · simp [lookupCell]
      · rename_i _ h; simp only [lookupCell, h, if_false]; exact ih

theorem lookupCell_insert_other (d v : α) {k j : Nat} (h : j ≠ k) (l : List (Nat × α)) :
    lookupCell d j (insertCell k v l) = lookupCell d j l := by
  induction l with
  | nil => simp [insertCell, lookupCell, Ne.symm h]
  | cons c t ih =>
    obtain ⟨k', w⟩ := c
    simp only [insertCell]
    split
    · simp [lookupCell, Ne.symm h]
    · split
      · rename_i _ hk; subst hk; simp [lookupCell, Ne.symm h]
      · simp only [lookupCell, ih]

/-- A key reads as the value last written. -/
@[simp] theorem Tab.get_set_same [DecidableEq α] (t : Tab α) (k : Nat) (v d : α) : (t.set k v d).get k d = v := by
  unfold Tab.set Tab.get
  split
  · rename_i h; rw [h]; exact lookupCell_erase_same d k t.cells
  · exact lookupCell_insert_same d v k t.cells

/-- A write leaves every other key as it was, whatever an unlisted key reads as. -/
theorem Tab.get_set_other [DecidableEq α] (t : Tab α) {k j : Nat} (h : j ≠ k) (v d d' : α) :
    (t.set k v d).get j d' = t.get j d' := by
  unfold Tab.set Tab.get
  split
  · exact lookupCell_erase_other d' h t.cells
  · exact lookupCell_insert_other d' v h t.cells

theorem Tab.get_set [DecidableEq α] (t : Tab α) (k j : Nat) (v d : α) :
    (t.set k v d).get j d = if j = k then v else t.get j d := by
  by_cases h : j = k
  · subst h; simp
  · simp [h, Tab.get_set_other t h]

@[simp] theorem Tab.get_empty (k : Nat) (d : α) : (({} : Tab α)).get k d = d := rfl

theorem lookupCell_append (d : α) (k : Nat) (l r : List (Nat × α)) : lookupCell d k (l ++ r) = lookupCell (lookupCell d k r) k l := by
  induction l with
  | nil => rfl
  | cons c t ih => obtain ⟨k', v⟩ := c; simp only [List.cons_append, lookupCell, ih]

theorem lookupCell_filter (d : α) (k : Nat) (p : Nat × α → Bool) (q : Bool) (h : ∀ v, p (k, v) = q) (l : List (Nat × α)) :
    lookupCell d k (l.filter p) = if q then lookupCell d k l else d := by
  induction l with
  | nil => cases q <;> rfl
  | cons c t ih =>
    obtain ⟨k', v⟩ := c
    rw [List.filter_cons]
    by_cases hk : k' = k
    · subst hk; rw [h]; cases q <;> simp_all [lookupCell]
    · split <;> cases q <;> simp_all [lookupCell]

theorem lookupCell_self (d : α) (k : Nat) (l : List (Nat × α)) : lookupCell (lookupCell d k l) k l = lookupCell d k l := by
  have key : ∀ (m : List (Nat × α)) (x : α), lookupCell (lookupCell d k l) k m = lookupCell d k m ∨ lookupCell x k m = x := by
    intro m
    induction m with
    | nil => intro x; exact .inr rfl
    | cons c t ih =>
      intro x; obtain ⟨k', v⟩ := c
      simp only [lookupCell]; split
      · exact .inl rfl
      · exact ih x
  rcases key l (lookupCell d k l) with h | h
  · exact h
  · exact h

/-- A merge takes the keys of lo to hi - 1 from its source, and leaves the others. -/
theorem Tab.get_merge (t src : Tab α) (lo hi k : Nat) (d : α) :
    (t.merge src lo hi).get k d = if lo ≤ k ∧ k < hi then src.get k d else t.get k d := by
  unfold Tab.merge Tab.get
  dsimp only
  rw [lookupCell_append, lookupCell_append, lookupCell_filter _ k _ (decide (k < lo)) (fun _ => rfl),
    lookupCell_filter _ k _ (decide (lo ≤ k) && decide (k < hi)) (fun _ => rfl),
    lookupCell_filter _ k _ (decide (hi ≤ k)) (fun _ => rfl)]
  rcases Nat.lt_or_ge k lo with h1 | h1
  · by_cases h2 : hi ≤ k
    · have h3 : ¬ lo ≤ k := by omega
      simp [h1, h2, h3]
      exact lookupCell_self d k t.cells
    · have h3 : ¬ lo ≤ k := by omega
      simp [h1, h2, h3]
  · have h2 : ¬ k < lo := by omega
    rcases Nat.lt_or_ge k hi with h3 | h3
    · have h4 : ¬ hi ≤ k := by omega
      simp [h1, h2, h3, h4]
    · have h4 : ¬ k < hi := by omega
      simp [h1, h2, h3, h4]

/-- A cleared key reads as the default, and every other key as before. -/
theorem Tab.get_clear (t : Tab α) (p : Nat → Bool) (k : Nat) (d : α) :
    (t.clear p).get k d = if p k then d else t.get k d := by
  unfold Tab.clear Tab.get
  generalize t.cells = l
  induction l with
  | nil => simp [lookupCell]
  | cons c r ih =>
    obtain ⟨k', v⟩ := c
    simp only [List.filter_cons]
    by_cases hp : p k' = true
    · simp only [hp, Bool.not_true, Bool.false_eq_true, if_false, ih]
      by_cases hk : k' = k
      · subst hk; simp [hp]
      · simp only [lookupCell, hk, if_false]
    · simp only [hp, Bool.not_false, if_true, lookupCell, ih]
      by_cases hk : k' = k
      · subst hk; simp [hp]
      · simp only [hk, if_false]

/-! ### The canonical form -/

/-- Keys strictly rising, as a proposition. -/
def Rising (l : List (Nat × α)) : Prop := l.Pairwise (fun a b => a.1 < b.1)

theorem cellsRising_iff (l : List (Nat × α)) : cellsRising l = true ↔ Rising l := by
  unfold Rising
  induction l with
  | nil => simp [cellsRising]
  | cons c t ih =>
    obtain ⟨a, v⟩ := c
    cases t with
    | nil => simp [cellsRising]
    | cons e r =>
      obtain ⟨b, w⟩ := e
      simp only [cellsRising, Bool.and_eq_true, decide_eq_true_eq, ih, List.pairwise_cons, List.mem_cons]
      constructor
      · rintro ⟨h, h2⟩
        refine ⟨?_, h2⟩
        rintro x (rfl | hx)
        · exact h
        · exact Nat.lt_trans h (h2.1 x hx)
      · rintro ⟨h, h2⟩
        exact ⟨h (b, w) (Or.inl rfl), h2⟩

theorem Tab.wf_iff [DecidableEq α] (d : α) (t : Tab α) :
    t.wf d = true ↔ Rising t.cells ∧ ∀ c ∈ t.cells, c.2 ≠ d := by
  simp [Tab.wf, cellsRising_iff]

theorem eraseCell_sublist (k : Nat) (l : List (Nat × α)) : (eraseCell k l).Sublist l := by
  induction l with
  | nil => exact List.Sublist.slnil
  | cons c t ih =>
    obtain ⟨k', v⟩ := c
    simp only [eraseCell]
    split
    · exact ih.cons _
    · exact ih.cons_cons _

theorem mem_insertCell {k : Nat} {v : α} {l : List (Nat × α)} {x : Nat × α} (h : x ∈ insertCell k v l) :
    x = (k, v) ∨ x ∈ l := by
  induction l with
  | nil => simpa [insertCell] using h
  | cons c t ih =>
    obtain ⟨k', w⟩ := c
    simp only [insertCell] at h
    split at h
    · simpa using h
    · split at h
      · simp at h; rcases h with h | h
        · exact Or.inl h
        · exact Or.inr (List.mem_cons_of_mem _ h)
      · simp only [List.mem_cons] at h ⊢
        rcases h with h | h
        · exact Or.inr (Or.inl h)
        · rcases ih h with h | h
          · exact Or.inl h
          · exact Or.inr (Or.inr h)

theorem rising_insertCell (k : Nat) (v : α) (l : List (Nat × α)) (h : Rising l) : Rising (insertCell k v l) := by
  unfold Rising at *
  induction l with
  | nil => simp [insertCell]
  | cons c t ih =>
    obtain ⟨k', w⟩ := c
    rw [List.pairwise_cons] at h
    simp only [insertCell]
    split
    · rename_i hk
      rw [List.pairwise_cons, List.pairwise_cons]
      refine ⟨?_, h.1, h.2⟩
      intro x hx
      rcases List.mem_cons.1 hx with rfl | hx
      · exact hk
      · exact Nat.lt_trans hk (h.1 x hx)
    · split
      · rename_i _ hk
        subst hk
        rw [List.pairwise_cons]
        exact ⟨h.1, h.2⟩
      · rename_i h1 h2
        rw [List.pairwise_cons]
        refine ⟨?_, ih h.2⟩
        intro x hx
        rcases mem_insertCell hx with rfl | hx
        · show k' < k; omega
        · exact h.1 x hx

/-- A write keeps the canonical form. -/
theorem Tab.wf_set [DecidableEq α] {d : α} {t : Tab α} (h : t.wf d = true) (k : Nat) (v : α) : (t.set k v d).wf d = true := by
  rw [Tab.wf_iff] at *
  unfold Tab.set
  split
  · exact ⟨h.1.sublist (eraseCell_sublist k t.cells), fun c hc => h.2 c ((eraseCell_sublist k t.cells).subset hc)⟩
  · rename_i hv
    refine ⟨rising_insertCell k v t.cells h.1, ?_⟩
    intro c hc
    rcases mem_insertCell hc with rfl | hc
    · exact hv
    · exact h.2 c hc

/-- Clearing keys keeps the canonical form. -/
theorem Tab.wf_clear [DecidableEq α] {d : α} {t : Tab α} (h : t.wf d = true) (p : Nat → Bool) : (t.clear p).wf d = true := by
  rw [Tab.wf_iff] at *
  unfold Tab.clear
  exact ⟨h.1.sublist List.filter_sublist, fun c hc => h.2 c (List.mem_filter.1 hc).1⟩

/-- Taking a range of keys from another canonical table keeps the canonical form. -/
theorem Tab.wf_merge [DecidableEq α] {d : α} {t src : Tab α} (h : t.wf d = true) (h2 : src.wf d = true) {lo hi : Nat}
    (hl : lo ≤ hi) : (t.merge src lo hi).wf d = true := by
  rw [Tab.wf_iff] at *
  unfold Tab.merge
  refine ⟨?_, ?_⟩
  · unfold Rising
    rw [List.pairwise_append, List.pairwise_append]
    refine ⟨⟨h.1.sublist List.filter_sublist, h2.1.sublist List.filter_sublist, ?_⟩, h.1.sublist List.filter_sublist, ?_⟩
    · intro a ha b hb
      simp only [List.mem_filter, decide_eq_true_eq, Bool.and_eq_true] at ha hb
      omega
    · intro a ha b hb
      simp only [List.mem_append, List.mem_filter, decide_eq_true_eq, Bool.and_eq_true] at ha hb
      rcases ha with ha | ha <;> omega
  · intro c hc
    simp only [List.mem_append, List.mem_filter] at hc
    rcases hc with (hc | hc) | hc
    · exact h.2 c hc.1
    · exact h2.2 c hc.1
    · exact h.2 c hc.1

@[simp] theorem Tab.wf_empty [DecidableEq α] (d : α) : (({} : Tab α)).wf d = true := rfl

end Sys2Proof.Machine
end

