-- ==== Sys2Proof/Laws/State.lean ====
section
/-!
SUPPORT. What each update of the state leaves as it was: one lemma per field and update, and per reading of a unit or register.
-/
namespace Sys2Proof.Machine

open Sys2Proof

variable (s : State)

/-! ### setReg -/

@[simp] theorem setReg_pending (r : RegId) (v : Word) (i j k : Nat) : (s.setReg r v i j k).pending = s.pending := rfl
@[simp] theorem setReg_free (r : RegId) (v : Word) (i j k : Nat) : (s.setReg r v i j k).free = s.free := rfl
@[simp] theorem setReg_time (r : RegId) (v : Word) (i j k : Nat) : (s.setReg r v i j k).time = s.time := rfl
@[simp] theorem setReg_shadow (r : RegId) (v : Word) (i j k : Nat) : (s.setReg r v i j k).shadow = s.shadow := rfl
@[simp] theorem setReg_engines (r : RegId) (v : Word) (i j k : Nat) : (s.setReg r v i j k).engines = s.engines := rfl
@[simp] theorem setReg_chans (r : RegId) (v : Word) (i j k : Nat) : (s.setReg r v i j k).chans = s.chans := rfl
@[simp] theorem setReg_offs (r : RegId) (v : Word) (i j k : Nat) : (s.setReg r v i j k).offs = s.offs := rfl
@[simp] theorem setReg_fcus (r : RegId) (v : Word) (i j k : Nat) : (s.setReg r v i j k).fcus = s.fcus := rfl
@[simp] theorem setReg_slices (r : RegId) (v : Word) (i j k : Nat) : (s.setReg r v i j k).slices = s.slices := rfl
@[simp] theorem setReg_slcs (r : RegId) (v : Word) (i j k : Nat) : (s.setReg r v i j k).slcs = s.slcs := rfl
@[simp] theorem setReg_sbk (r : RegId) (v : Word) (i j k : Nat) : (s.setReg r v i j k).sbk = s.sbk := rfl
@[simp] theorem setReg_flash (r : RegId) (v : Word) (i j k : Nat) : (s.setReg r v i j k).flash = s.flash := rfl
@[simp] theorem setReg_smp (r : RegId) (v : Word) (i j k : Nat) : (s.setReg r v i j k).smp = s.smp := rfl
@[simp] theorem setReg_log (r : RegId) (v : Word) (i j k : Nat) : (s.setReg r v i j k).log = s.log := rfl
@[simp] theorem setReg_fuses (r : RegId) (v : Word) (i j k : Nat) : (s.setReg r v i j k).fuses = s.fuses := rfl
@[simp] theorem setReg_frames (r : RegId) (v : Word) (i j k : Nat) : (s.setReg r v i j k).frames = s.frames := rfl
@[simp] theorem setReg_ffs (r : RegId) (v : Word) (i j k : Nat) : (s.setReg r v i j k).ffs = s.ffs := rfl
@[simp] theorem setReg_bm (r : RegId) (v : Word) (i j k : Nat) : (s.setReg r v i j k).bm = s.bm := rfl
@[simp] theorem setReg_bmLast (r : RegId) (v : Word) (i j k : Nat) : (s.setReg r v i j k).bmLast = s.bmLast := rfl
@[simp] theorem setReg_bmOut (r : RegId) (v : Word) (i j k : Nat) : (s.setReg r v i j k).bmOut = s.bmOut := rfl
@[simp] theorem setReg_bmRet (r : RegId) (v : Word) (i j k : Nat) : (s.setReg r v i j k).bmRet = s.bmRet := rfl
@[simp] theorem setReg_arith (r : RegId) (v : Word) (i j k : Nat) : (s.setReg r v i j k).arith = s.arith := rfl
@[simp] theorem setReg_lineStop (r : RegId) (v : Word) (i j k : Nat) : (s.setReg r v i j k).lineStop = s.lineStop := rfl
@[simp] theorem setReg_sectors (r : RegId) (v : Word) (i j k : Nat) : (s.setReg r v i j k).sectors = s.sectors := rfl
@[simp] theorem setReg_loader (r : RegId) (v : Word) (i j k : Nat) : (s.setReg r v i j k).loader = s.loader := rfl
@[simp] theorem setReg_xacts (r : RegId) (v : Word) (i j k : Nat) : (s.setReg r v i j k).xacts = s.xacts := rfl
@[simp] theorem setReg_rsps (r : RegId) (v : Word) (i j k : Nat) : (s.setReg r v i j k).rsps = s.rsps := rfl
@[simp] theorem setReg_xnext (r : RegId) (v : Word) (i j k : Nat) : (s.setReg r v i j k).xnext = s.xnext := rfl
@[simp] theorem setReg_dram (r : RegId) (v : Word) (i j k : Nat) : (s.setReg r v i j k).dram = s.dram := rfl
@[simp] theorem setReg_dmcs (r : RegId) (v : Word) (i j k : Nat) : (s.setReg r v i j k).dmcs = s.dmcs := rfl
@[simp] theorem setReg_ilvLocked (r : RegId) (v : Word) (i j k : Nat) : (s.setReg r v i j k).ilvLocked = s.ilvLocked := rfl
@[simp] theorem setReg_ice (r : RegId) (v : Word) (i j k : Nat) : (s.setReg r v i j k).ice = s.ice := rfl
@[simp] theorem setReg_lanes (r : RegId) (v : Word) (i j k : Nat) : (s.setReg r v i j k).lanes = s.lanes := rfl
@[simp] theorem setReg_bridges (r : RegId) (v : Word) (i j k : Nat) : (s.setReg r v i j k).bridges = s.bridges := rfl
@[simp] theorem setReg_tb (r : RegId) (v : Word) (i j k : Nat) : (s.setReg r v i j k).tb = s.tb := rfl
@[simp] theorem setReg_flights (r : RegId) (v : Word) (i j k : Nat) : (s.setReg r v i j k).flights = s.flights := rfl
@[simp] theorem setReg_fnext (r : RegId) (v : Word) (i j k : Nat) : (s.setReg r v i j k).fnext = s.fnext := rfl
@[simp] theorem setReg_nis (r : RegId) (v : Word) (i j k : Nat) : (s.setReg r v i j k).nis = s.nis := rfl
@[simp] theorem setReg_arbs (r : RegId) (v : Word) (i j k : Nat) : (s.setReg r v i j k).arbs = s.arbs := rfl
@[simp] theorem setReg_rtc (r : RegId) (v : Word) (i j k : Nat) : (s.setReg r v i j k).rtc = s.rtc := rfl
@[simp] theorem setReg_temps (r : RegId) (v : Word) (i j k : Nat) : (s.setReg r v i j k).temps = s.temps := rfl
@[simp] theorem setReg_mb (r : RegId) (v : Word) (i j k : Nat) : (s.setReg r v i j k).mb = s.mb := rfl
@[simp] theorem setReg_pwr (r : RegId) (v : Word) (i j k : Nat) : (s.setReg r v i j k).pwr = s.pwr := rfl
@[simp] theorem setReg_io (r : RegId) (v : Word) (i j k : Nat) : (s.setReg r v i j k).io = s.io := rfl
@[simp] theorem setReg_harts (r : RegId) (v : Word) (i j k : Nat) : (s.setReg r v i j k).harts = s.harts := rfl
@[simp] theorem setReg_caches (r : RegId) (v : Word) (i j k : Nat) : (s.setReg r v i j k).caches = s.caches := rfl
@[simp] theorem setReg_dbg (r : RegId) (v : Word) (i j k : Nat) : (s.setReg r v i j k).dbg = s.dbg := rfl
@[simp] theorem setReg_err (r : RegId) (v : Word) (i j k : Nat) : (s.setReg r v i j k).err = s.err := rfl
@[simp] theorem setReg_plic (r : RegId) (v : Word) (i j k : Nat) : (s.setReg r v i j k).plic = s.plic := rfl
@[simp] theorem setReg_eng (r : RegId) (v : Word) (i j k : Nat) (e0 : Nat) : (s.setReg r v i j k).eng e0 = s.eng e0 := rfl
@[simp] theorem setReg_chan (r : RegId) (v : Word) (i j k : Nat) (p0 : Nat) : (s.setReg r v i j k).chan p0 = s.chan p0 := rfl
@[simp] theorem setReg_fcu (r : RegId) (v : Word) (i j k : Nat) (c0 : Nat) : (s.setReg r v i j k).fcu c0 = s.fcu c0 := rfl
@[simp] theorem setReg_slc (r : RegId) (v : Word) (i j k : Nat) (n0 : Nat) : (s.setReg r v i j k).slc n0 = s.slc n0 := rfl
@[simp] theorem setReg_shadowReg (r : RegId) (v : Word) (i j k : Nat) (r0 : RegId) (i0 j0 k0 : Nat) : (s.setReg r v i j k).shadowReg r0 i0 j0 k0 = s.shadowReg r0 i0 j0 k0 := rfl
@[simp] theorem setReg_sfld (r : RegId) (v : Word) (i j k : Nat) (f0 : Fld) (i0 j0 k0 : Nat) : (s.setReg r v i j k).sfld f0 i0 j0 k0 = s.sfld f0 i0 j0 k0 := rfl
@[simp] theorem setReg_cell (r : RegId) (v : Word) (i j k : Nat) (n0 j0 : Nat) : (s.setReg r v i j k).cell n0 j0 = s.cell n0 j0 := rfl
@[simp] theorem setReg_now (r : RegId) (v : Word) (i j k : Nat) : (s.setReg r v i j k).now = s.now := rfl

/-! ### setShadow -/

@[simp] theorem setShadow_pending (r : RegId) (v : Word) (i j k : Nat) : (s.setShadow r v i j k).pending = s.pending := rfl
@[simp] theorem setShadow_free (r : RegId) (v : Word) (i j k : Nat) : (s.setShadow r v i j k).free = s.free := rfl
@[simp] theorem setShadow_time (r : RegId) (v : Word) (i j k : Nat) : (s.setShadow r v i j k).time = s.time := rfl
@[simp] theorem setShadow_regs (r : RegId) (v : Word) (i j k : Nat) : (s.setShadow r v i j k).regs = s.regs := rfl
@[simp] theorem setShadow_work (r : RegId) (v : Word) (i j k : Nat) : (s.setShadow r v i j k).work = s.work := rfl
@[simp] theorem setShadow_engines (r : RegId) (v : Word) (i j k : Nat) : (s.setShadow r v i j k).engines = s.engines := rfl
@[simp] theorem setShadow_chans (r : RegId) (v : Word) (i j k : Nat) : (s.setShadow r v i j k).chans = s.chans := rfl
@[simp] theorem setShadow_offs (r : RegId) (v : Word) (i j k : Nat) : (s.setShadow r v i j k).offs = s.offs := rfl
@[simp] theorem setShadow_fcus (r : RegId) (v : Word) (i j k : Nat) : (s.setShadow r v i j k).fcus = s.fcus := rfl
@[simp] theorem setShadow_slices (r : RegId) (v : Word) (i j k : Nat) : (s.setShadow r v i j k).slices = s.slices := rfl
@[simp] theorem setShadow_slcs (r : RegId) (v : Word) (i j k : Nat) : (s.setShadow r v i j k).slcs = s.slcs := rfl
@[simp] theorem setShadow_sbk (r : RegId) (v : Word) (i j k : Nat) : (s.setShadow r v i j k).sbk = s.sbk := rfl
@[simp] theorem setShadow_flash (r : RegId) (v : Word) (i j k : Nat) : (s.setShadow r v i j k).flash = s.flash := rfl
@[simp] theorem setShadow_smp (r : RegId) (v : Word) (i j k : Nat) : (s.setShadow r v i j k).smp = s.smp := rfl
@[simp] theorem setShadow_log (r : RegId) (v : Word) (i j k : Nat) : (s.setShadow r v i j k).log = s.log := rfl
@[simp] theorem setShadow_fuses (r : RegId) (v : Word) (i j k : Nat) : (s.setShadow r v i j k).fuses = s.fuses := rfl
@[simp] theorem setShadow_frames (r : RegId) (v : Word) (i j k : Nat) : (s.setShadow r v i j k).frames = s.frames := rfl
@[simp] theorem setShadow_ffs (r : RegId) (v : Word) (i j k : Nat) : (s.setShadow r v i j k).ffs = s.ffs := rfl
@[simp] theorem setShadow_bm (r : RegId) (v : Word) (i j k : Nat) : (s.setShadow r v i j k).bm = s.bm := rfl
@[simp] theorem setShadow_bmLast (r : RegId) (v : Word) (i j k : Nat) : (s.setShadow r v i j k).bmLast = s.bmLast := rfl
@[simp] theorem setShadow_bmOut (r : RegId) (v : Word) (i j k : Nat) : (s.setShadow r v i j k).bmOut = s.bmOut := rfl
@[simp] theorem setShadow_bmRet (r : RegId) (v : Word) (i j k : Nat) : (s.setShadow r v i j k).bmRet = s.bmRet := rfl
@[simp] theorem setShadow_arith (r : RegId) (v : Word) (i j k : Nat) : (s.setShadow r v i j k).arith = s.arith := rfl
@[simp] theorem setShadow_lineStop (r : RegId) (v : Word) (i j k : Nat) : (s.setShadow r v i j k).lineStop = s.lineStop := rfl
@[simp] theorem setShadow_sectors (r : RegId) (v : Word) (i j k : Nat) : (s.setShadow r v i j k).sectors = s.sectors := rfl
@[simp] theorem setShadow_loader (r : RegId) (v : Word) (i j k : Nat) : (s.setShadow r v i j k).loader = s.loader := rfl
@[simp] theorem setShadow_xacts (r : RegId) (v : Word) (i j k : Nat) : (s.setShadow r v i j k).xacts = s.xacts := rfl
@[simp] theorem setShadow_rsps (r : RegId) (v : Word) (i j k : Nat) : (s.setShadow r v i j k).rsps = s.rsps := rfl
@[simp] theorem setShadow_xnext (r : RegId) (v : Word) (i j k : Nat) : (s.setShadow r v i j k).xnext = s.xnext := rfl
@[simp] theorem setShadow_dram (r : RegId) (v : Word) (i j k : Nat) : (s.setShadow r v i j k).dram = s.dram := rfl
@[simp] theorem setShadow_dmcs (r : RegId) (v : Word) (i j k : Nat) : (s.setShadow r v i j k).dmcs = s.dmcs := rfl
@[simp] theorem setShadow_ilvLocked (r : RegId) (v : Word) (i j k : Nat) : (s.setShadow r v i j k).ilvLocked = s.ilvLocked := rfl
@[simp] theorem setShadow_ice (r : RegId) (v : Word) (i j k : Nat) : (s.setShadow r v i j k).ice = s.ice := rfl
@[simp] theorem setShadow_lanes (r : RegId) (v : Word) (i j k : Nat) : (s.setShadow r v i j k).lanes = s.lanes := rfl
@[simp] theorem setShadow_bridges (r : RegId) (v : Word) (i j k : Nat) : (s.setShadow r v i j k).bridges = s.bridges := rfl
@[simp] theorem setShadow_tb (r : RegId) (v : Word) (i j k : Nat) : (s.setShadow r v i j k).tb = s.tb := rfl
@[simp] theorem setShadow_flights (r : RegId) (v : Word) (i j k : Nat) : (s.setShadow r v i j k).flights = s.flights := rfl
@[simp] theorem setShadow_fnext (r : RegId) (v : Word) (i j k : Nat) : (s.setShadow r v i j k).fnext = s.fnext := rfl
@[simp] theorem setShadow_nis (r : RegId) (v : Word) (i j k : Nat) : (s.setShadow r v i j k).nis = s.nis := rfl
@[simp] theorem setShadow_arbs (r : RegId) (v : Word) (i j k : Nat) : (s.setShadow r v i j k).arbs = s.arbs := rfl
@[simp] theorem setShadow_rtc (r : RegId) (v : Word) (i j k : Nat) : (s.setShadow r v i j k).rtc = s.rtc := rfl
@[simp] theorem setShadow_temps (r : RegId) (v : Word) (i j k : Nat) : (s.setShadow r v i j k).temps = s.temps := rfl
@[simp] theorem setShadow_mb (r : RegId) (v : Word) (i j k : Nat) : (s.setShadow r v i j k).mb = s.mb := rfl
@[simp] theorem setShadow_pwr (r : RegId) (v : Word) (i j k : Nat) : (s.setShadow r v i j k).pwr = s.pwr := rfl
@[simp] theorem setShadow_io (r : RegId) (v : Word) (i j k : Nat) : (s.setShadow r v i j k).io = s.io := rfl
@[simp] theorem setShadow_harts (r : RegId) (v : Word) (i j k : Nat) : (s.setShadow r v i j k).harts = s.harts := rfl
@[simp] theorem setShadow_caches (r : RegId) (v : Word) (i j k : Nat) : (s.setShadow r v i j k).caches = s.caches := rfl
@[simp] theorem setShadow_dbg (r : RegId) (v : Word) (i j k : Nat) : (s.setShadow r v i j k).dbg = s.dbg := rfl
@[simp] theorem setShadow_err (r : RegId) (v : Word) (i j k : Nat) : (s.setShadow r v i j k).err = s.err := rfl
@[simp] theorem setShadow_plic (r : RegId) (v : Word) (i j k : Nat) : (s.setShadow r v i j k).plic = s.plic := rfl
@[simp] theorem setShadow_eng (r : RegId) (v : Word) (i j k : Nat) (e0 : Nat) : (s.setShadow r v i j k).eng e0 = s.eng e0 := rfl
@[simp] theorem setShadow_chan (r : RegId) (v : Word) (i j k : Nat) (p0 : Nat) : (s.setShadow r v i j k).chan p0 = s.chan p0 := rfl
@[simp] theorem setShadow_fcu (r : RegId) (v : Word) (i j k : Nat) (c0 : Nat) : (s.setShadow r v i j k).fcu c0 = s.fcu c0 := rfl
@[simp] theorem setShadow_slc (r : RegId) (v : Word) (i j k : Nat) (n0 : Nat) : (s.setShadow r v i j k).slc n0 = s.slc n0 := rfl
@[simp] theorem setShadow_reg (r : RegId) (v : Word) (i j k : Nat) (r0 : RegId) (i0 j0 k0 : Nat) : (s.setShadow r v i j k).reg r0 i0 j0 k0 = s.reg r0 i0 j0 k0 := rfl
@[simp] theorem setShadow_fld (r : RegId) (v : Word) (i j k : Nat) (f0 : Fld) (i0 j0 k0 : Nat) : (s.setShadow r v i j k).fld f0 i0 j0 k0 = s.fld f0 i0 j0 k0 := rfl
@[simp] theorem setShadow_flag (r : RegId) (v : Word) (i j k : Nat) (f0 : Fld) (i0 j0 k0 : Nat) : (s.setShadow r v i j k).flag f0 i0 j0 k0 = s.flag f0 i0 j0 k0 := rfl
@[simp] theorem setShadow_cell (r : RegId) (v : Word) (i j k : Nat) (n0 j0 : Nat) : (s.setShadow r v i j k).cell n0 j0 = s.cell n0 j0 := rfl
@[simp] theorem setShadow_now (r : RegId) (v : Word) (i j k : Nat) : (s.setShadow r v i j k).now = s.now := rfl
@[simp] theorem setShadow_gangSize (r : RegId) (v : Word) (i j k : Nat) (e0 : Nat) : (s.setShadow r v i j k).gangSize e0 = s.gangSize e0 := rfl
@[simp] theorem setShadow_leader (r : RegId) (v : Word) (i j k : Nat) (e0 : Nat) : (s.setShadow r v i j k).leader e0 = s.leader e0 := rfl
@[simp] theorem setShadow_members (r : RegId) (v : Word) (i j k : Nat) (e0 : Nat) : (s.setShadow r v i j k).members e0 = s.members e0 := rfl
@[simp] theorem setShadow_domOn (r : RegId) (v : Word) (i j k : Nat) (d0 : Nat) : (s.setShadow r v i j k).domOn d0 = s.domOn d0 := rfl
@[simp] theorem setShadow_live (r : RegId) (v : Word) (i j k : Nat) (d0 : Nat) : (s.setShadow r v i j k).live d0 = s.live d0 := rfl

/-! ### setFld -/

@[simp] theorem setFld_pending (f : Fld) (v i j k : Nat) : (s.setFld f v i j k).pending = s.pending := rfl
@[simp] theorem setFld_free (f : Fld) (v i j k : Nat) : (s.setFld f v i j k).free = s.free := rfl
@[simp] theorem setFld_time (f : Fld) (v i j k : Nat) : (s.setFld f v i j k).time = s.time := rfl
@[simp] theorem setFld_shadow (f : Fld) (v i j k : Nat) : (s.setFld f v i j k).shadow = s.shadow := rfl
@[simp] theorem setFld_engines (f : Fld) (v i j k : Nat) : (s.setFld f v i j k).engines = s.engines := rfl
@[simp] theorem setFld_chans (f : Fld) (v i j k : Nat) : (s.setFld f v i j k).chans = s.chans := rfl
@[simp] theorem setFld_offs (f : Fld) (v i j k : Nat) : (s.setFld f v i j k).offs = s.offs := rfl
@[simp] theorem setFld_fcus (f : Fld) (v i j k : Nat) : (s.setFld f v i j k).fcus = s.fcus := rfl
@[simp] theorem setFld_slices (f : Fld) (v i j k : Nat) : (s.setFld f v i j k).slices = s.slices := rfl
@[simp] theorem setFld_slcs (f : Fld) (v i j k : Nat) : (s.setFld f v i j k).slcs = s.slcs := rfl
@[simp] theorem setFld_sbk (f : Fld) (v i j k : Nat) : (s.setFld f v i j k).sbk = s.sbk := rfl
@[simp] theorem setFld_flash (f : Fld) (v i j k : Nat) : (s.setFld f v i j k).flash = s.flash := rfl
@[simp] theorem setFld_smp (f : Fld) (v i j k : Nat) : (s.setFld f v i j k).smp = s.smp := rfl
@[simp] theorem setFld_log (f : Fld) (v i j k : Nat) : (s.setFld f v i j k).log = s.log := rfl
@[simp] theorem setFld_fuses (f : Fld) (v i j k : Nat) : (s.setFld f v i j k).fuses = s.fuses := rfl
@[simp] theorem setFld_frames (f : Fld) (v i j k : Nat) : (s.setFld f v i j k).frames = s.frames := rfl
@[simp] theorem setFld_ffs (f : Fld) (v i j k : Nat) : (s.setFld f v i j k).ffs = s.ffs := rfl
@[simp] theorem setFld_bm (f : Fld) (v i j k : Nat) : (s.setFld f v i j k).bm = s.bm := rfl
@[simp] theorem setFld_bmLast (f : Fld) (v i j k : Nat) : (s.setFld f v i j k).bmLast = s.bmLast := rfl
@[simp] theorem setFld_bmOut (f : Fld) (v i j k : Nat) : (s.setFld f v i j k).bmOut = s.bmOut := rfl
@[simp] theorem setFld_bmRet (f : Fld) (v i j k : Nat) : (s.setFld f v i j k).bmRet = s.bmRet := rfl
@[simp] theorem setFld_arith (f : Fld) (v i j k : Nat) : (s.setFld f v i j k).arith = s.arith := rfl
@[simp] theorem setFld_lineStop (f : Fld) (v i j k : Nat) : (s.setFld f v i j k).lineStop = s.lineStop := rfl
@[simp] theorem setFld_sectors (f : Fld) (v i j k : Nat) : (s.setFld f v i j k).sectors = s.sectors := rfl
@[simp] theorem setFld_loader (f : Fld) (v i j k : Nat) : (s.setFld f v i j k).loader = s.loader := rfl
@[simp] theorem setFld_xacts (f : Fld) (v i j k : Nat) : (s.setFld f v i j k).xacts = s.xacts := rfl
@[simp] theorem setFld_rsps (f : Fld) (v i j k : Nat) : (s.setFld f v i j k).rsps = s.rsps := rfl
@[simp] theorem setFld_xnext (f : Fld) (v i j k : Nat) : (s.setFld f v i j k).xnext = s.xnext := rfl
@[simp] theorem setFld_dram (f : Fld) (v i j k : Nat) : (s.setFld f v i j k).dram = s.dram := rfl
@[simp] theorem setFld_dmcs (f : Fld) (v i j k : Nat) : (s.setFld f v i j k).dmcs = s.dmcs := rfl
@[simp] theorem setFld_ilvLocked (f : Fld) (v i j k : Nat) : (s.setFld f v i j k).ilvLocked = s.ilvLocked := rfl
@[simp] theorem setFld_ice (f : Fld) (v i j k : Nat) : (s.setFld f v i j k).ice = s.ice := rfl
@[simp] theorem setFld_lanes (f : Fld) (v i j k : Nat) : (s.setFld f v i j k).lanes = s.lanes := rfl
@[simp] theorem setFld_bridges (f : Fld) (v i j k : Nat) : (s.setFld f v i j k).bridges = s.bridges := rfl
@[simp] theorem setFld_tb (f : Fld) (v i j k : Nat) : (s.setFld f v i j k).tb = s.tb := rfl
@[simp] theorem setFld_flights (f : Fld) (v i j k : Nat) : (s.setFld f v i j k).flights = s.flights := rfl
@[simp] theorem setFld_fnext (f : Fld) (v i j k : Nat) : (s.setFld f v i j k).fnext = s.fnext := rfl
@[simp] theorem setFld_nis (f : Fld) (v i j k : Nat) : (s.setFld f v i j k).nis = s.nis := rfl
@[simp] theorem setFld_arbs (f : Fld) (v i j k : Nat) : (s.setFld f v i j k).arbs = s.arbs := rfl
@[simp] theorem setFld_rtc (f : Fld) (v i j k : Nat) : (s.setFld f v i j k).rtc = s.rtc := rfl
@[simp] theorem setFld_temps (f : Fld) (v i j k : Nat) : (s.setFld f v i j k).temps = s.temps := rfl
@[simp] theorem setFld_mb (f : Fld) (v i j k : Nat) : (s.setFld f v i j k).mb = s.mb := rfl
@[simp] theorem setFld_pwr (f : Fld) (v i j k : Nat) : (s.setFld f v i j k).pwr = s.pwr := rfl
@[simp] theorem setFld_io (f : Fld) (v i j k : Nat) : (s.setFld f v i j k).io = s.io := rfl
@[simp] theorem setFld_harts (f : Fld) (v i j k : Nat) : (s.setFld f v i j k).harts = s.harts := rfl
@[simp] theorem setFld_caches (f : Fld) (v i j k : Nat) : (s.setFld f v i j k).caches = s.caches := rfl
@[simp] theorem setFld_dbg (f : Fld) (v i j k : Nat) : (s.setFld f v i j k).dbg = s.dbg := rfl
@[simp] theorem setFld_err (f : Fld) (v i j k : Nat) : (s.setFld f v i j k).err = s.err := rfl
@[simp] theorem setFld_plic (f : Fld) (v i j k : Nat) : (s.setFld f v i j k).plic = s.plic := rfl
@[simp] theorem setFld_eng (f : Fld) (v i j k : Nat) (e0 : Nat) : (s.setFld f v i j k).eng e0 = s.eng e0 := rfl
@[simp] theorem setFld_chan (f : Fld) (v i j k : Nat) (p0 : Nat) : (s.setFld f v i j k).chan p0 = s.chan p0 := rfl
@[simp] theorem setFld_fcu (f : Fld) (v i j k : Nat) (c0 : Nat) : (s.setFld f v i j k).fcu c0 = s.fcu c0 := rfl
@[simp] theorem setFld_slc (f : Fld) (v i j k : Nat) (n0 : Nat) : (s.setFld f v i j k).slc n0 = s.slc n0 := rfl
@[simp] theorem setFld_shadowReg (f : Fld) (v i j k : Nat) (r0 : RegId) (i0 j0 k0 : Nat) : (s.setFld f v i j k).shadowReg r0 i0 j0 k0 = s.shadowReg r0 i0 j0 k0 := rfl
@[simp] theorem setFld_sfld (f : Fld) (v i j k : Nat) (f0 : Fld) (i0 j0 k0 : Nat) : (s.setFld f v i j k).sfld f0 i0 j0 k0 = s.sfld f0 i0 j0 k0 := rfl
@[simp] theorem setFld_cell (f : Fld) (v i j k : Nat) (n0 j0 : Nat) : (s.setFld f v i j k).cell n0 j0 = s.cell n0 j0 := rfl
@[simp] theorem setFld_now (f : Fld) (v i j k : Nat) : (s.setFld f v i j k).now = s.now := rfl

/-! ### raise -/

@[simp] theorem raise_pending (f : Fld) (i j k : Nat) : (s.raise f i j k).pending = s.pending := rfl
@[simp] theorem raise_free (f : Fld) (i j k : Nat) : (s.raise f i j k).free = s.free := rfl
@[simp] theorem raise_time (f : Fld) (i j k : Nat) : (s.raise f i j k).time = s.time := rfl
@[simp] theorem raise_shadow (f : Fld) (i j k : Nat) : (s.raise f i j k).shadow = s.shadow := rfl
@[simp] theorem raise_engines (f : Fld) (i j k : Nat) : (s.raise f i j k).engines = s.engines := rfl
@[simp] theorem raise_chans (f : Fld) (i j k : Nat) : (s.raise f i j k).chans = s.chans := rfl
@[simp] theorem raise_offs (f : Fld) (i j k : Nat) : (s.raise f i j k).offs = s.offs := rfl
@[simp] theorem raise_fcus (f : Fld) (i j k : Nat) : (s.raise f i j k).fcus = s.fcus := rfl
@[simp] theorem raise_slices (f : Fld) (i j k : Nat) : (s.raise f i j k).slices = s.slices := rfl
@[simp] theorem raise_slcs (f : Fld) (i j k : Nat) : (s.raise f i j k).slcs = s.slcs := rfl
@[simp] theorem raise_sbk (f : Fld) (i j k : Nat) : (s.raise f i j k).sbk = s.sbk := rfl
@[simp] theorem raise_flash (f : Fld) (i j k : Nat) : (s.raise f i j k).flash = s.flash := rfl
@[simp] theorem raise_smp (f : Fld) (i j k : Nat) : (s.raise f i j k).smp = s.smp := rfl
@[simp] theorem raise_log (f : Fld) (i j k : Nat) : (s.raise f i j k).log = s.log := rfl
@[simp] theorem raise_fuses (f : Fld) (i j k : Nat) : (s.raise f i j k).fuses = s.fuses := rfl
@[simp] theorem raise_frames (f : Fld) (i j k : Nat) : (s.raise f i j k).frames = s.frames := rfl
@[simp] theorem raise_ffs (f : Fld) (i j k : Nat) : (s.raise f i j k).ffs = s.ffs := rfl
@[simp] theorem raise_bm (f : Fld) (i j k : Nat) : (s.raise f i j k).bm = s.bm := rfl
@[simp] theorem raise_bmLast (f : Fld) (i j k : Nat) : (s.raise f i j k).bmLast = s.bmLast := rfl
@[simp] theorem raise_bmOut (f : Fld) (i j k : Nat) : (s.raise f i j k).bmOut = s.bmOut := rfl
@[simp] theorem raise_bmRet (f : Fld) (i j k : Nat) : (s.raise f i j k).bmRet = s.bmRet := rfl
@[simp] theorem raise_arith (f : Fld) (i j k : Nat) : (s.raise f i j k).arith = s.arith := rfl
@[simp] theorem raise_lineStop (f : Fld) (i j k : Nat) : (s.raise f i j k).lineStop = s.lineStop := rfl
@[simp] theorem raise_sectors (f : Fld) (i j k : Nat) : (s.raise f i j k).sectors = s.sectors := rfl
@[simp] theorem raise_loader (f : Fld) (i j k : Nat) : (s.raise f i j k).loader = s.loader := rfl
@[simp] theorem raise_xacts (f : Fld) (i j k : Nat) : (s.raise f i j k).xacts = s.xacts := rfl
@[simp] theorem raise_rsps (f : Fld) (i j k : Nat) : (s.raise f i j k).rsps = s.rsps := rfl
@[simp] theorem raise_xnext (f : Fld) (i j k : Nat) : (s.raise f i j k).xnext = s.xnext := rfl
@[simp] theorem raise_dram (f : Fld) (i j k : Nat) : (s.raise f i j k).dram = s.dram := rfl
@[simp] theorem raise_dmcs (f : Fld) (i j k : Nat) : (s.raise f i j k).dmcs = s.dmcs := rfl
@[simp] theorem raise_ilvLocked (f : Fld) (i j k : Nat) : (s.raise f i j k).ilvLocked = s.ilvLocked := rfl
@[simp] theorem raise_ice (f : Fld) (i j k : Nat) : (s.raise f i j k).ice = s.ice := rfl
@[simp] theorem raise_lanes (f : Fld) (i j k : Nat) : (s.raise f i j k).lanes = s.lanes := rfl
@[simp] theorem raise_bridges (f : Fld) (i j k : Nat) : (s.raise f i j k).bridges = s.bridges := rfl
@[simp] theorem raise_tb (f : Fld) (i j k : Nat) : (s.raise f i j k).tb = s.tb := rfl
@[simp] theorem raise_flights (f : Fld) (i j k : Nat) : (s.raise f i j k).flights = s.flights := rfl
@[simp] theorem raise_fnext (f : Fld) (i j k : Nat) : (s.raise f i j k).fnext = s.fnext := rfl
@[simp] theorem raise_nis (f : Fld) (i j k : Nat) : (s.raise f i j k).nis = s.nis := rfl
@[simp] theorem raise_arbs (f : Fld) (i j k : Nat) : (s.raise f i j k).arbs = s.arbs := rfl
@[simp] theorem raise_rtc (f : Fld) (i j k : Nat) : (s.raise f i j k).rtc = s.rtc := rfl
@[simp] theorem raise_temps (f : Fld) (i j k : Nat) : (s.raise f i j k).temps = s.temps := rfl
@[simp] theorem raise_mb (f : Fld) (i j k : Nat) : (s.raise f i j k).mb = s.mb := rfl
@[simp] theorem raise_pwr (f : Fld) (i j k : Nat) : (s.raise f i j k).pwr = s.pwr := rfl
@[simp] theorem raise_io (f : Fld) (i j k : Nat) : (s.raise f i j k).io = s.io := rfl
@[simp] theorem raise_harts (f : Fld) (i j k : Nat) : (s.raise f i j k).harts = s.harts := rfl
@[simp] theorem raise_caches (f : Fld) (i j k : Nat) : (s.raise f i j k).caches = s.caches := rfl
@[simp] theorem raise_dbg (f : Fld) (i j k : Nat) : (s.raise f i j k).dbg = s.dbg := rfl
@[simp] theorem raise_err (f : Fld) (i j k : Nat) : (s.raise f i j k).err = s.err := rfl
@[simp] theorem raise_plic (f : Fld) (i j k : Nat) : (s.raise f i j k).plic = s.plic := rfl
@[simp] theorem raise_eng (f : Fld) (i j k : Nat) (e0 : Nat) : (s.raise f i j k).eng e0 = s.eng e0 := rfl
@[simp] theorem raise_chan (f : Fld) (i j k : Nat) (p0 : Nat) : (s.raise f i j k).chan p0 = s.chan p0 := rfl
@[simp] theorem raise_fcu (f : Fld) (i j k : Nat) (c0 : Nat) : (s.raise f i j k).fcu c0 = s.fcu c0 := rfl
@[simp] theorem raise_slc (f : Fld) (i j k : Nat) (n0 : Nat) : (s.raise f i j k).slc n0 = s.slc n0 := rfl
@[simp] theorem raise_shadowReg (f : Fld) (i j k : Nat) (r0 : RegId) (i0 j0 k0 : Nat) : (s.raise f i j k).shadowReg r0 i0 j0 k0 = s.shadowReg r0 i0 j0 k0 := rfl
@[simp] theorem raise_sfld (f : Fld) (i j k : Nat) (f0 : Fld) (i0 j0 k0 : Nat) : (s.raise f i j k).sfld f0 i0 j0 k0 = s.sfld f0 i0 j0 k0 := rfl
@[simp] theorem raise_cell (f : Fld) (i j k : Nat) (n0 j0 : Nat) : (s.raise f i j k).cell n0 j0 = s.cell n0 j0 := rfl
@[simp] theorem raise_now (f : Fld) (i j k : Nat) : (s.raise f i j k).now = s.now := rfl

/-! ### count -/

@[simp] theorem count_pending (f : Fld) (i j k n : Nat) : (s.count f i j k n).pending = s.pending := rfl
@[simp] theorem count_free (f : Fld) (i j k n : Nat) : (s.count f i j k n).free = s.free := rfl
@[simp] theorem count_time (f : Fld) (i j k n : Nat) : (s.count f i j k n).time = s.time := rfl
@[simp] theorem count_shadow (f : Fld) (i j k n : Nat) : (s.count f i j k n).shadow = s.shadow := rfl
@[simp] theorem count_engines (f : Fld) (i j k n : Nat) : (s.count f i j k n).engines = s.engines := rfl
@[simp] theorem count_chans (f : Fld) (i j k n : Nat) : (s.count f i j k n).chans = s.chans := rfl
@[simp] theorem count_offs (f : Fld) (i j k n : Nat) : (s.count f i j k n).offs = s.offs := rfl
@[simp] theorem count_fcus (f : Fld) (i j k n : Nat) : (s.count f i j k n).fcus = s.fcus := rfl
@[simp] theorem count_slices (f : Fld) (i j k n : Nat) : (s.count f i j k n).slices = s.slices := rfl
@[simp] theorem count_slcs (f : Fld) (i j k n : Nat) : (s.count f i j k n).slcs = s.slcs := rfl
@[simp] theorem count_sbk (f : Fld) (i j k n : Nat) : (s.count f i j k n).sbk = s.sbk := rfl
@[simp] theorem count_flash (f : Fld) (i j k n : Nat) : (s.count f i j k n).flash = s.flash := rfl
@[simp] theorem count_smp (f : Fld) (i j k n : Nat) : (s.count f i j k n).smp = s.smp := rfl
@[simp] theorem count_log (f : Fld) (i j k n : Nat) : (s.count f i j k n).log = s.log := rfl
@[simp] theorem count_fuses (f : Fld) (i j k n : Nat) : (s.count f i j k n).fuses = s.fuses := rfl
@[simp] theorem count_frames (f : Fld) (i j k n : Nat) : (s.count f i j k n).frames = s.frames := rfl
@[simp] theorem count_ffs (f : Fld) (i j k n : Nat) : (s.count f i j k n).ffs = s.ffs := rfl
@[simp] theorem count_bm (f : Fld) (i j k n : Nat) : (s.count f i j k n).bm = s.bm := rfl
@[simp] theorem count_bmLast (f : Fld) (i j k n : Nat) : (s.count f i j k n).bmLast = s.bmLast := rfl
@[simp] theorem count_bmOut (f : Fld) (i j k n : Nat) : (s.count f i j k n).bmOut = s.bmOut := rfl
@[simp] theorem count_bmRet (f : Fld) (i j k n : Nat) : (s.count f i j k n).bmRet = s.bmRet := rfl
@[simp] theorem count_arith (f : Fld) (i j k n : Nat) : (s.count f i j k n).arith = s.arith := rfl
@[simp] theorem count_lineStop (f : Fld) (i j k n : Nat) : (s.count f i j k n).lineStop = s.lineStop := rfl
@[simp] theorem count_sectors (f : Fld) (i j k n : Nat) : (s.count f i j k n).sectors = s.sectors := rfl
@[simp] theorem count_loader (f : Fld) (i j k n : Nat) : (s.count f i j k n).loader = s.loader := rfl
@[simp] theorem count_xacts (f : Fld) (i j k n : Nat) : (s.count f i j k n).xacts = s.xacts := rfl
@[simp] theorem count_rsps (f : Fld) (i j k n : Nat) : (s.count f i j k n).rsps = s.rsps := rfl
@[simp] theorem count_xnext (f : Fld) (i j k n : Nat) : (s.count f i j k n).xnext = s.xnext := rfl
@[simp] theorem count_dram (f : Fld) (i j k n : Nat) : (s.count f i j k n).dram = s.dram := rfl
@[simp] theorem count_dmcs (f : Fld) (i j k n : Nat) : (s.count f i j k n).dmcs = s.dmcs := rfl
@[simp] theorem count_ilvLocked (f : Fld) (i j k n : Nat) : (s.count f i j k n).ilvLocked = s.ilvLocked := rfl
@[simp] theorem count_ice (f : Fld) (i j k n : Nat) : (s.count f i j k n).ice = s.ice := rfl
@[simp] theorem count_lanes (f : Fld) (i j k n : Nat) : (s.count f i j k n).lanes = s.lanes := rfl
@[simp] theorem count_bridges (f : Fld) (i j k n : Nat) : (s.count f i j k n).bridges = s.bridges := rfl
@[simp] theorem count_tb (f : Fld) (i j k n : Nat) : (s.count f i j k n).tb = s.tb := rfl
@[simp] theorem count_flights (f : Fld) (i j k n : Nat) : (s.count f i j k n).flights = s.flights := rfl
@[simp] theorem count_fnext (f : Fld) (i j k n : Nat) : (s.count f i j k n).fnext = s.fnext := rfl
@[simp] theorem count_nis (f : Fld) (i j k n : Nat) : (s.count f i j k n).nis = s.nis := rfl
@[simp] theorem count_arbs (f : Fld) (i j k n : Nat) : (s.count f i j k n).arbs = s.arbs := rfl
@[simp] theorem count_rtc (f : Fld) (i j k n : Nat) : (s.count f i j k n).rtc = s.rtc := rfl
@[simp] theorem count_temps (f : Fld) (i j k n : Nat) : (s.count f i j k n).temps = s.temps := rfl
@[simp] theorem count_mb (f : Fld) (i j k n : Nat) : (s.count f i j k n).mb = s.mb := rfl
@[simp] theorem count_pwr (f : Fld) (i j k n : Nat) : (s.count f i j k n).pwr = s.pwr := rfl
@[simp] theorem count_io (f : Fld) (i j k n : Nat) : (s.count f i j k n).io = s.io := rfl
@[simp] theorem count_harts (f : Fld) (i j k n : Nat) : (s.count f i j k n).harts = s.harts := rfl
@[simp] theorem count_caches (f : Fld) (i j k n : Nat) : (s.count f i j k n).caches = s.caches := rfl
@[simp] theorem count_dbg (f : Fld) (i j k n : Nat) : (s.count f i j k n).dbg = s.dbg := rfl
@[simp] theorem count_err (f : Fld) (i j k n : Nat) : (s.count f i j k n).err = s.err := rfl
@[simp] theorem count_plic (f : Fld) (i j k n : Nat) : (s.count f i j k n).plic = s.plic := rfl
@[simp] theorem count_eng (f : Fld) (i j k n : Nat) (e0 : Nat) : (s.count f i j k n).eng e0 = s.eng e0 := rfl
@[simp] theorem count_chan (f : Fld) (i j k n : Nat) (p0 : Nat) : (s.count f i j k n).chan p0 = s.chan p0 := rfl
@[simp] theorem count_fcu (f : Fld) (i j k n : Nat) (c0 : Nat) : (s.count f i j k n).fcu c0 = s.fcu c0 := rfl
@[simp] theorem count_slc (f : Fld) (i j k n : Nat) (n0 : Nat) : (s.count f i j k n).slc n0 = s.slc n0 := rfl
@[simp] theorem count_shadowReg (f : Fld) (i j k n : Nat) (r0 : RegId) (i0 j0 k0 : Nat) : (s.count f i j k n).shadowReg r0 i0 j0 k0 = s.shadowReg r0 i0 j0 k0 := rfl
@[simp] theorem count_sfld (f : Fld) (i j k n : Nat) (f0 : Fld) (i0 j0 k0 : Nat) : (s.count f i j k n).sfld f0 i0 j0 k0 = s.sfld f0 i0 j0 k0 := rfl
@[simp] theorem count_cell (f : Fld) (i j k n : Nat) (n0 j0 : Nat) : (s.count f i j k n).cell n0 j0 = s.cell n0 j0 := rfl
@[simp] theorem count_now (f : Fld) (i j k n : Nat) : (s.count f i j k n).now = s.now := rfl

/-! ### commitBlock -/

@[simp] theorem commitBlock_pending (b : Block) (i : Nat) : (s.commitBlock b i).pending = s.pending := rfl
@[simp] theorem commitBlock_free (b : Block) (i : Nat) : (s.commitBlock b i).free = s.free := rfl
@[simp] theorem commitBlock_time (b : Block) (i : Nat) : (s.commitBlock b i).time = s.time := rfl
@[simp] theorem commitBlock_regs (b : Block) (i : Nat) : (s.commitBlock b i).regs = s.regs := rfl
@[simp] theorem commitBlock_shadow (b : Block) (i : Nat) : (s.commitBlock b i).shadow = s.shadow := rfl
@[simp] theorem commitBlock_engines (b : Block) (i : Nat) : (s.commitBlock b i).engines = s.engines := rfl
@[simp] theorem commitBlock_chans (b : Block) (i : Nat) : (s.commitBlock b i).chans = s.chans := rfl
@[simp] theorem commitBlock_offs (b : Block) (i : Nat) : (s.commitBlock b i).offs = s.offs := rfl
@[simp] theorem commitBlock_fcus (b : Block) (i : Nat) : (s.commitBlock b i).fcus = s.fcus := rfl
@[simp] theorem commitBlock_slices (b : Block) (i : Nat) : (s.commitBlock b i).slices = s.slices := rfl
@[simp] theorem commitBlock_slcs (b : Block) (i : Nat) : (s.commitBlock b i).slcs = s.slcs := rfl
@[simp] theorem commitBlock_sbk (b : Block) (i : Nat) : (s.commitBlock b i).sbk = s.sbk := rfl
@[simp] theorem commitBlock_flash (b : Block) (i : Nat) : (s.commitBlock b i).flash = s.flash := rfl
@[simp] theorem commitBlock_smp (b : Block) (i : Nat) : (s.commitBlock b i).smp = s.smp := rfl
@[simp] theorem commitBlock_log (b : Block) (i : Nat) : (s.commitBlock b i).log = s.log := rfl
@[simp] theorem commitBlock_fuses (b : Block) (i : Nat) : (s.commitBlock b i).fuses = s.fuses := rfl
@[simp] theorem commitBlock_frames (b : Block) (i : Nat) : (s.commitBlock b i).frames = s.frames := rfl
@[simp] theorem commitBlock_ffs (b : Block) (i : Nat) : (s.commitBlock b i).ffs = s.ffs := rfl
@[simp] theorem commitBlock_bm (b : Block) (i : Nat) : (s.commitBlock b i).bm = s.bm := rfl
@[simp] theorem commitBlock_bmLast (b : Block) (i : Nat) : (s.commitBlock b i).bmLast = s.bmLast := rfl
@[simp] theorem commitBlock_bmOut (b : Block) (i : Nat) : (s.commitBlock b i).bmOut = s.bmOut := rfl
@[simp] theorem commitBlock_bmRet (b : Block) (i : Nat) : (s.commitBlock b i).bmRet = s.bmRet := rfl
@[simp] theorem commitBlock_arith (b : Block) (i : Nat) : (s.commitBlock b i).arith = s.arith := rfl
@[simp] theorem commitBlock_lineStop (b : Block) (i : Nat) : (s.commitBlock b i).lineStop = s.lineStop := rfl
@[simp] theorem commitBlock_sectors (b : Block) (i : Nat) : (s.commitBlock b i).sectors = s.sectors := rfl
@[simp] theorem commitBlock_loader (b : Block) (i : Nat) : (s.commitBlock b i).loader = s.loader := rfl
@[simp] theorem commitBlock_xacts (b : Block) (i : Nat) : (s.commitBlock b i).xacts = s.xacts := rfl
@[simp] theorem commitBlock_rsps (b : Block) (i : Nat) : (s.commitBlock b i).rsps = s.rsps := rfl
@[simp] theorem commitBlock_xnext (b : Block) (i : Nat) : (s.commitBlock b i).xnext = s.xnext := rfl
@[simp] theorem commitBlock_dram (b : Block) (i : Nat) : (s.commitBlock b i).dram = s.dram := rfl
@[simp] theorem commitBlock_dmcs (b : Block) (i : Nat) : (s.commitBlock b i).dmcs = s.dmcs := rfl
@[simp] theorem commitBlock_ilvLocked (b : Block) (i : Nat) : (s.commitBlock b i).ilvLocked = s.ilvLocked := rfl
@[simp] theorem commitBlock_ice (b : Block) (i : Nat) : (s.commitBlock b i).ice = s.ice := rfl
@[simp] theorem commitBlock_lanes (b : Block) (i : Nat) : (s.commitBlock b i).lanes = s.lanes := rfl
@[simp] theorem commitBlock_bridges (b : Block) (i : Nat) : (s.commitBlock b i).bridges = s.bridges := rfl
@[simp] theorem commitBlock_tb (b : Block) (i : Nat) : (s.commitBlock b i).tb = s.tb := rfl
@[simp] theorem commitBlock_flights (b : Block) (i : Nat) : (s.commitBlock b i).flights = s.flights := rfl
@[simp] theorem commitBlock_fnext (b : Block) (i : Nat) : (s.commitBlock b i).fnext = s.fnext := rfl
@[simp] theorem commitBlock_nis (b : Block) (i : Nat) : (s.commitBlock b i).nis = s.nis := rfl
@[simp] theorem commitBlock_arbs (b : Block) (i : Nat) : (s.commitBlock b i).arbs = s.arbs := rfl
@[simp] theorem commitBlock_rtc (b : Block) (i : Nat) : (s.commitBlock b i).rtc = s.rtc := rfl
@[simp] theorem commitBlock_temps (b : Block) (i : Nat) : (s.commitBlock b i).temps = s.temps := rfl
@[simp] theorem commitBlock_mb (b : Block) (i : Nat) : (s.commitBlock b i).mb = s.mb := rfl
@[simp] theorem commitBlock_pwr (b : Block) (i : Nat) : (s.commitBlock b i).pwr = s.pwr := rfl
@[simp] theorem commitBlock_io (b : Block) (i : Nat) : (s.commitBlock b i).io = s.io := rfl
@[simp] theorem commitBlock_harts (b : Block) (i : Nat) : (s.commitBlock b i).harts = s.harts := rfl
@[simp] theorem commitBlock_caches (b : Block) (i : Nat) : (s.commitBlock b i).caches = s.caches := rfl
@[simp] theorem commitBlock_dbg (b : Block) (i : Nat) : (s.commitBlock b i).dbg = s.dbg := rfl
@[simp] theorem commitBlock_err (b : Block) (i : Nat) : (s.commitBlock b i).err = s.err := rfl
@[simp] theorem commitBlock_plic (b : Block) (i : Nat) : (s.commitBlock b i).plic = s.plic := rfl
@[simp] theorem commitBlock_eng (b : Block) (i : Nat) (e0 : Nat) : (s.commitBlock b i).eng e0 = s.eng e0 := rfl
@[simp] theorem commitBlock_chan (b : Block) (i : Nat) (p0 : Nat) : (s.commitBlock b i).chan p0 = s.chan p0 := rfl
@[simp] theorem commitBlock_fcu (b : Block) (i : Nat) (c0 : Nat) : (s.commitBlock b i).fcu c0 = s.fcu c0 := rfl
@[simp] theorem commitBlock_slc (b : Block) (i : Nat) (n0 : Nat) : (s.commitBlock b i).slc n0 = s.slc n0 := rfl
@[simp] theorem commitBlock_shadowReg (b : Block) (i : Nat) (r0 : RegId) (i0 j0 k0 : Nat) : (s.commitBlock b i).shadowReg r0 i0 j0 k0 = s.shadowReg r0 i0 j0 k0 := rfl
@[simp] theorem commitBlock_sfld (b : Block) (i : Nat) (f0 : Fld) (i0 j0 k0 : Nat) : (s.commitBlock b i).sfld f0 i0 j0 k0 = s.sfld f0 i0 j0 k0 := rfl
@[simp] theorem commitBlock_cell (b : Block) (i : Nat) (n0 j0 : Nat) : (s.commitBlock b i).cell n0 j0 = s.cell n0 j0 := rfl
@[simp] theorem commitBlock_now (b : Block) (i : Nat) : (s.commitBlock b i).now = s.now := rfl

/-! ### resetRange -/

@[simp] theorem resetRange_pending (lo hi : Nat) : (s.resetRange lo hi).pending = s.pending := rfl
@[simp] theorem resetRange_free (lo hi : Nat) : (s.resetRange lo hi).free = s.free := rfl
@[simp] theorem resetRange_time (lo hi : Nat) : (s.resetRange lo hi).time = s.time := rfl
@[simp] theorem resetRange_engines (lo hi : Nat) : (s.resetRange lo hi).engines = s.engines := rfl
@[simp] theorem resetRange_chans (lo hi : Nat) : (s.resetRange lo hi).chans = s.chans := rfl
@[simp] theorem resetRange_offs (lo hi : Nat) : (s.resetRange lo hi).offs = s.offs := rfl
@[simp] theorem resetRange_fcus (lo hi : Nat) : (s.resetRange lo hi).fcus = s.fcus := rfl
@[simp] theorem resetRange_slices (lo hi : Nat) : (s.resetRange lo hi).slices = s.slices := rfl
@[simp] theorem resetRange_slcs (lo hi : Nat) : (s.resetRange lo hi).slcs = s.slcs := rfl
@[simp] theorem resetRange_sbk (lo hi : Nat) : (s.resetRange lo hi).sbk = s.sbk := rfl
@[simp] theorem resetRange_flash (lo hi : Nat) : (s.resetRange lo hi).flash = s.flash := rfl
@[simp] theorem resetRange_smp (lo hi : Nat) : (s.resetRange lo hi).smp = s.smp := rfl
@[simp] theorem resetRange_log (lo hi : Nat) : (s.resetRange lo hi).log = s.log := rfl
@[simp] theorem resetRange_fuses (lo hi : Nat) : (s.resetRange lo hi).fuses = s.fuses := rfl
@[simp] theorem resetRange_frames (lo hi : Nat) : (s.resetRange lo hi).frames = s.frames := rfl
@[simp] theorem resetRange_ffs (lo hi : Nat) : (s.resetRange lo hi).ffs = s.ffs := rfl
@[simp] theorem resetRange_bm (lo hi : Nat) : (s.resetRange lo hi).bm = s.bm := rfl
@[simp] theorem resetRange_bmLast (lo hi : Nat) : (s.resetRange lo hi).bmLast = s.bmLast := rfl
@[simp] theorem resetRange_bmOut (lo hi : Nat) : (s.resetRange lo hi).bmOut = s.bmOut := rfl
@[simp] theorem resetRange_bmRet (lo hi : Nat) : (s.resetRange lo hi).bmRet = s.bmRet := rfl
@[simp] theorem resetRange_arith (lo hi : Nat) : (s.resetRange lo hi).arith = s.arith := rfl
@[simp] theorem resetRange_lineStop (lo hi : Nat) : (s.resetRange lo hi).lineStop = s.lineStop := rfl
@[simp] theorem resetRange_sectors (lo hi : Nat) : (s.resetRange lo hi).sectors = s.sectors := rfl
@[simp] theorem resetRange_loader (lo hi : Nat) : (s.resetRange lo hi).loader = s.loader := rfl
@[simp] theorem resetRange_xacts (lo hi : Nat) : (s.resetRange lo hi).xacts = s.xacts := rfl
@[simp] theorem resetRange_rsps (lo hi : Nat) : (s.resetRange lo hi).rsps = s.rsps := rfl
@[simp] theorem resetRange_xnext (lo hi : Nat) : (s.resetRange lo hi).xnext = s.xnext := rfl
@[simp] theorem resetRange_dram (lo hi : Nat) : (s.resetRange lo hi).dram = s.dram := rfl
@[simp] theorem resetRange_dmcs (lo hi : Nat) : (s.resetRange lo hi).dmcs = s.dmcs := rfl
@[simp] theorem resetRange_ilvLocked (lo hi : Nat) : (s.resetRange lo hi).ilvLocked = s.ilvLocked := rfl
@[simp] theorem resetRange_ice (lo hi : Nat) : (s.resetRange lo hi).ice = s.ice := rfl
@[simp] theorem resetRange_lanes (lo hi : Nat) : (s.resetRange lo hi).lanes = s.lanes := rfl
@[simp] theorem resetRange_bridges (lo hi : Nat) : (s.resetRange lo hi).bridges = s.bridges := rfl
@[simp] theorem resetRange_tb (lo hi : Nat) : (s.resetRange lo hi).tb = s.tb := rfl
@[simp] theorem resetRange_flights (lo hi : Nat) : (s.resetRange lo hi).flights = s.flights := rfl
@[simp] theorem resetRange_fnext (lo hi : Nat) : (s.resetRange lo hi).fnext = s.fnext := rfl
@[simp] theorem resetRange_nis (lo hi : Nat) : (s.resetRange lo hi).nis = s.nis := rfl
@[simp] theorem resetRange_arbs (lo hi : Nat) : (s.resetRange lo hi).arbs = s.arbs := rfl
@[simp] theorem resetRange_rtc (lo hi : Nat) : (s.resetRange lo hi).rtc = s.rtc := rfl
@[simp] theorem resetRange_temps (lo hi : Nat) : (s.resetRange lo hi).temps = s.temps := rfl
@[simp] theorem resetRange_mb (lo hi : Nat) : (s.resetRange lo hi).mb = s.mb := rfl
@[simp] theorem resetRange_pwr (lo hi : Nat) : (s.resetRange lo hi).pwr = s.pwr := rfl
@[simp] theorem resetRange_io (lo hi : Nat) : (s.resetRange lo hi).io = s.io := rfl
@[simp] theorem resetRange_harts (lo hi : Nat) : (s.resetRange lo hi).harts = s.harts := rfl
@[simp] theorem resetRange_caches (lo hi : Nat) : (s.resetRange lo hi).caches = s.caches := rfl
@[simp] theorem resetRange_dbg (lo hi : Nat) : (s.resetRange lo hi).dbg = s.dbg := rfl
@[simp] theorem resetRange_err (lo hi : Nat) : (s.resetRange lo hi).err = s.err := rfl
@[simp] theorem resetRange_plic (lo hi : Nat) : (s.resetRange lo hi).plic = s.plic := rfl
@[simp] theorem resetRange_eng (lo hi : Nat) (e0 : Nat) : (s.resetRange lo hi).eng e0 = s.eng e0 := rfl
@[simp] theorem resetRange_chan (lo hi : Nat) (p0 : Nat) : (s.resetRange lo hi).chan p0 = s.chan p0 := rfl
@[simp] theorem resetRange_fcu (lo hi : Nat) (c0 : Nat) : (s.resetRange lo hi).fcu c0 = s.fcu c0 := rfl
@[simp] theorem resetRange_slc (lo hi : Nat) (n0 : Nat) : (s.resetRange lo hi).slc n0 = s.slc n0 := rfl
@[simp] theorem resetRange_cell (lo hi : Nat) (n0 j0 : Nat) : (s.resetRange lo hi).cell n0 j0 = s.cell n0 j0 := rfl
@[simp] theorem resetRange_now (lo hi : Nat) : (s.resetRange lo hi).now = s.now := rfl

/-! ### pendIrq -/

@[simp] theorem pendIrq_pending (n : Nat) : (s.pendIrq n).pending = s.pending := rfl
@[simp] theorem pendIrq_free (n : Nat) : (s.pendIrq n).free = s.free := rfl
@[simp] theorem pendIrq_time (n : Nat) : (s.pendIrq n).time = s.time := rfl
@[simp] theorem pendIrq_regs (n : Nat) : (s.pendIrq n).regs = s.regs := rfl
@[simp] theorem pendIrq_work (n : Nat) : (s.pendIrq n).work = s.work := rfl
@[simp] theorem pendIrq_shadow (n : Nat) : (s.pendIrq n).shadow = s.shadow := rfl
@[simp] theorem pendIrq_engines (n : Nat) : (s.pendIrq n).engines = s.engines := rfl
@[simp] theorem pendIrq_chans (n : Nat) : (s.pendIrq n).chans = s.chans := rfl
@[simp] theorem pendIrq_offs (n : Nat) : (s.pendIrq n).offs = s.offs := rfl
@[simp] theorem pendIrq_fcus (n : Nat) : (s.pendIrq n).fcus = s.fcus := rfl
@[simp] theorem pendIrq_slices (n : Nat) : (s.pendIrq n).slices = s.slices := rfl
@[simp] theorem pendIrq_slcs (n : Nat) : (s.pendIrq n).slcs = s.slcs := rfl
@[simp] theorem pendIrq_sbk (n : Nat) : (s.pendIrq n).sbk = s.sbk := rfl
@[simp] theorem pendIrq_flash (n : Nat) : (s.pendIrq n).flash = s.flash := rfl
@[simp] theorem pendIrq_smp (n : Nat) : (s.pendIrq n).smp = s.smp := rfl
@[simp] theorem pendIrq_log (n : Nat) : (s.pendIrq n).log = s.log := rfl
@[simp] theorem pendIrq_fuses (n : Nat) : (s.pendIrq n).fuses = s.fuses := rfl
@[simp] theorem pendIrq_frames (n : Nat) : (s.pendIrq n).frames = s.frames := rfl
@[simp] theorem pendIrq_ffs (n : Nat) : (s.pendIrq n).ffs = s.ffs := rfl
@[simp] theorem pendIrq_bm (n : Nat) : (s.pendIrq n).bm = s.bm := rfl
@[simp] theorem pendIrq_bmLast (n : Nat) : (s.pendIrq n).bmLast = s.bmLast := rfl
@[simp] theorem pendIrq_bmOut (n : Nat) : (s.pendIrq n).bmOut = s.bmOut := rfl
@[simp] theorem pendIrq_bmRet (n : Nat) : (s.pendIrq n).bmRet = s.bmRet := rfl
@[simp] theorem pendIrq_arith (n : Nat) : (s.pendIrq n).arith = s.arith := rfl
@[simp] theorem pendIrq_lineStop (n : Nat) : (s.pendIrq n).lineStop = s.lineStop := rfl
@[simp] theorem pendIrq_sectors (n : Nat) : (s.pendIrq n).sectors = s.sectors := rfl
@[simp] theorem pendIrq_loader (n : Nat) : (s.pendIrq n).loader = s.loader := rfl
@[simp] theorem pendIrq_xacts (n : Nat) : (s.pendIrq n).xacts = s.xacts := rfl
@[simp] theorem pendIrq_rsps (n : Nat) : (s.pendIrq n).rsps = s.rsps := rfl
@[simp] theorem pendIrq_xnext (n : Nat) : (s.pendIrq n).xnext = s.xnext := rfl
@[simp] theorem pendIrq_dram (n : Nat) : (s.pendIrq n).dram = s.dram := rfl
@[simp] theorem pendIrq_dmcs (n : Nat) : (s.pendIrq n).dmcs = s.dmcs := rfl
@[simp] theorem pendIrq_ilvLocked (n : Nat) : (s.pendIrq n).ilvLocked = s.ilvLocked := rfl
@[simp] theorem pendIrq_ice (n : Nat) : (s.pendIrq n).ice = s.ice := rfl
@[simp] theorem pendIrq_lanes (n : Nat) : (s.pendIrq n).lanes = s.lanes := rfl
@[simp] theorem pendIrq_bridges (n : Nat) : (s.pendIrq n).bridges = s.bridges := rfl
@[simp] theorem pendIrq_tb (n : Nat) : (s.pendIrq n).tb = s.tb := rfl
@[simp] theorem pendIrq_flights (n : Nat) : (s.pendIrq n).flights = s.flights := rfl
@[simp] theorem pendIrq_fnext (n : Nat) : (s.pendIrq n).fnext = s.fnext := rfl
@[simp] theorem pendIrq_nis (n : Nat) : (s.pendIrq n).nis = s.nis := rfl
@[simp] theorem pendIrq_arbs (n : Nat) : (s.pendIrq n).arbs = s.arbs := rfl
@[simp] theorem pendIrq_rtc (n : Nat) : (s.pendIrq n).rtc = s.rtc := rfl
@[simp] theorem pendIrq_temps (n : Nat) : (s.pendIrq n).temps = s.temps := rfl
@[simp] theorem pendIrq_mb (n : Nat) : (s.pendIrq n).mb = s.mb := rfl
@[simp] theorem pendIrq_pwr (n : Nat) : (s.pendIrq n).pwr = s.pwr := rfl
@[simp] theorem pendIrq_io (n : Nat) : (s.pendIrq n).io = s.io := rfl
@[simp] theorem pendIrq_harts (n : Nat) : (s.pendIrq n).harts = s.harts := rfl
@[simp] theorem pendIrq_caches (n : Nat) : (s.pendIrq n).caches = s.caches := rfl
@[simp] theorem pendIrq_dbg (n : Nat) : (s.pendIrq n).dbg = s.dbg := rfl
@[simp] theorem pendIrq_err (n : Nat) : (s.pendIrq n).err = s.err := rfl
@[simp] theorem pendIrq_eng (n : Nat) (e0 : Nat) : (s.pendIrq n).eng e0 = s.eng e0 := rfl
@[simp] theorem pendIrq_chan (n : Nat) (p0 : Nat) : (s.pendIrq n).chan p0 = s.chan p0 := rfl
@[simp] theorem pendIrq_fcu (n : Nat) (c0 : Nat) : (s.pendIrq n).fcu c0 = s.fcu c0 := rfl
@[simp] theorem pendIrq_slc (n : Nat) (n0 : Nat) : (s.pendIrq n).slc n0 = s.slc n0 := rfl
@[simp] theorem pendIrq_reg (n : Nat) (r0 : RegId) (i0 j0 k0 : Nat) : (s.pendIrq n).reg r0 i0 j0 k0 = s.reg r0 i0 j0 k0 := rfl
@[simp] theorem pendIrq_shadowReg (n : Nat) (r0 : RegId) (i0 j0 k0 : Nat) : (s.pendIrq n).shadowReg r0 i0 j0 k0 = s.shadowReg r0 i0 j0 k0 := rfl
@[simp] theorem pendIrq_fld (n : Nat) (f0 : Fld) (i0 j0 k0 : Nat) : (s.pendIrq n).fld f0 i0 j0 k0 = s.fld f0 i0 j0 k0 := rfl
@[simp] theorem pendIrq_flag (n : Nat) (f0 : Fld) (i0 j0 k0 : Nat) : (s.pendIrq n).flag f0 i0 j0 k0 = s.flag f0 i0 j0 k0 := rfl
@[simp] theorem pendIrq_sfld (n : Nat) (f0 : Fld) (i0 j0 k0 : Nat) : (s.pendIrq n).sfld f0 i0 j0 k0 = s.sfld f0 i0 j0 k0 := rfl
@[simp] theorem pendIrq_cell (n : Nat) (n0 j0 : Nat) : (s.pendIrq n).cell n0 j0 = s.cell n0 j0 := rfl
@[simp] theorem pendIrq_now (n : Nat) : (s.pendIrq n).now = s.now := rfl
@[simp] theorem pendIrq_gangSize (n : Nat) (e0 : Nat) : (s.pendIrq n).gangSize e0 = s.gangSize e0 := rfl
@[simp] theorem pendIrq_leader (n : Nat) (e0 : Nat) : (s.pendIrq n).leader e0 = s.leader e0 := rfl
@[simp] theorem pendIrq_members (n : Nat) (e0 : Nat) : (s.pendIrq n).members e0 = s.members e0 := rfl
@[simp] theorem pendIrq_domOn (n : Nat) (d0 : Nat) : (s.pendIrq n).domOn d0 = s.domOn d0 := rfl
@[simp] theorem pendIrq_live (n : Nat) (d0 : Nat) : (s.pendIrq n).live d0 = s.live d0 := rfl

/-! ### logErr -/

@[simp] theorem logErr_pending (r : ErrRec) : (s.logErr r).pending = s.pending := rfl
@[simp] theorem logErr_free (r : ErrRec) : (s.logErr r).free = s.free := rfl
@[simp] theorem logErr_time (r : ErrRec) : (s.logErr r).time = s.time := rfl
@[simp] theorem logErr_regs (r : ErrRec) : (s.logErr r).regs = s.regs := rfl
@[simp] theorem logErr_work (r : ErrRec) : (s.logErr r).work = s.work := rfl
@[simp] theorem logErr_shadow (r : ErrRec) : (s.logErr r).shadow = s.shadow := rfl
@[simp] theorem logErr_engines (r : ErrRec) : (s.logErr r).engines = s.engines := rfl
@[simp] theorem logErr_chans (r : ErrRec) : (s.logErr r).chans = s.chans := rfl
@[simp] theorem logErr_offs (r : ErrRec) : (s.logErr r).offs = s.offs := rfl
@[simp] theorem logErr_fcus (r : ErrRec) : (s.logErr r).fcus = s.fcus := rfl
@[simp] theorem logErr_slices (r : ErrRec) : (s.logErr r).slices = s.slices := rfl
@[simp] theorem logErr_slcs (r : ErrRec) : (s.logErr r).slcs = s.slcs := rfl
@[simp] theorem logErr_sbk (r : ErrRec) : (s.logErr r).sbk = s.sbk := rfl
@[simp] theorem logErr_flash (r : ErrRec) : (s.logErr r).flash = s.flash := rfl
@[simp] theorem logErr_smp (r : ErrRec) : (s.logErr r).smp = s.smp := rfl
@[simp] theorem logErr_log (r : ErrRec) : (s.logErr r).log = s.log := rfl
@[simp] theorem logErr_fuses (r : ErrRec) : (s.logErr r).fuses = s.fuses := rfl
@[simp] theorem logErr_frames (r : ErrRec) : (s.logErr r).frames = s.frames := rfl
@[simp] theorem logErr_ffs (r : ErrRec) : (s.logErr r).ffs = s.ffs := rfl
@[simp] theorem logErr_bm (r : ErrRec) : (s.logErr r).bm = s.bm := rfl
@[simp] theorem logErr_bmLast (r : ErrRec) : (s.logErr r).bmLast = s.bmLast := rfl
@[simp] theorem logErr_bmOut (r : ErrRec) : (s.logErr r).bmOut = s.bmOut := rfl
@[simp] theorem logErr_bmRet (r : ErrRec) : (s.logErr r).bmRet = s.bmRet := rfl
@[simp] theorem logErr_arith (r : ErrRec) : (s.logErr r).arith = s.arith := rfl
@[simp] theorem logErr_lineStop (r : ErrRec) : (s.logErr r).lineStop = s.lineStop := rfl
@[simp] theorem logErr_sectors (r : ErrRec) : (s.logErr r).sectors = s.sectors := rfl
@[simp] theorem logErr_loader (r : ErrRec) : (s.logErr r).loader = s.loader := rfl
@[simp] theorem logErr_xacts (r : ErrRec) : (s.logErr r).xacts = s.xacts := rfl
@[simp] theorem logErr_rsps (r : ErrRec) : (s.logErr r).rsps = s.rsps := rfl
@[simp] theorem logErr_xnext (r : ErrRec) : (s.logErr r).xnext = s.xnext := rfl
@[simp] theorem logErr_dram (r : ErrRec) : (s.logErr r).dram = s.dram := rfl
@[simp] theorem logErr_dmcs (r : ErrRec) : (s.logErr r).dmcs = s.dmcs := rfl
@[simp] theorem logErr_ilvLocked (r : ErrRec) : (s.logErr r).ilvLocked = s.ilvLocked := rfl
@[simp] theorem logErr_ice (r : ErrRec) : (s.logErr r).ice = s.ice := rfl
@[simp] theorem logErr_lanes (r : ErrRec) : (s.logErr r).lanes = s.lanes := rfl
@[simp] theorem logErr_bridges (r : ErrRec) : (s.logErr r).bridges = s.bridges := rfl
@[simp] theorem logErr_tb (r : ErrRec) : (s.logErr r).tb = s.tb := rfl
@[simp] theorem logErr_flights (r : ErrRec) : (s.logErr r).flights = s.flights := rfl
@[simp] theorem logErr_fnext (r : ErrRec) : (s.logErr r).fnext = s.fnext := rfl
@[simp] theorem logErr_nis (r : ErrRec) : (s.logErr r).nis = s.nis := rfl
@[simp] theorem logErr_arbs (r : ErrRec) : (s.logErr r).arbs = s.arbs := rfl
@[simp] theorem logErr_rtc (r : ErrRec) : (s.logErr r).rtc = s.rtc := rfl
@[simp] theorem logErr_temps (r : ErrRec) : (s.logErr r).temps = s.temps := rfl
@[simp] theorem logErr_mb (r : ErrRec) : (s.logErr r).mb = s.mb := rfl
@[simp] theorem logErr_pwr (r : ErrRec) : (s.logErr r).pwr = s.pwr := rfl
@[simp] theorem logErr_io (r : ErrRec) : (s.logErr r).io = s.io := rfl
@[simp] theorem logErr_harts (r : ErrRec) : (s.logErr r).harts = s.harts := rfl
@[simp] theorem logErr_caches (r : ErrRec) : (s.logErr r).caches = s.caches := rfl
@[simp] theorem logErr_dbg (r : ErrRec) : (s.logErr r).dbg = s.dbg := rfl
@[simp] theorem logErr_plic (r : ErrRec) : (s.logErr r).plic = s.plic := rfl
@[simp] theorem logErr_eng (r : ErrRec) (e0 : Nat) : (s.logErr r).eng e0 = s.eng e0 := rfl
@[simp] theorem logErr_chan (r : ErrRec) (p0 : Nat) : (s.logErr r).chan p0 = s.chan p0 := rfl
@[simp] theorem logErr_fcu (r : ErrRec) (c0 : Nat) : (s.logErr r).fcu c0 = s.fcu c0 := rfl
@[simp] theorem logErr_slc (r : ErrRec) (n0 : Nat) : (s.logErr r).slc n0 = s.slc n0 := rfl
@[simp] theorem logErr_reg (r : ErrRec) (r0 : RegId) (i0 j0 k0 : Nat) : (s.logErr r).reg r0 i0 j0 k0 = s.reg r0 i0 j0 k0 := rfl
@[simp] theorem logErr_shadowReg (r : ErrRec) (r0 : RegId) (i0 j0 k0 : Nat) : (s.logErr r).shadowReg r0 i0 j0 k0 = s.shadowReg r0 i0 j0 k0 := rfl
@[simp] theorem logErr_fld (r : ErrRec) (f0 : Fld) (i0 j0 k0 : Nat) : (s.logErr r).fld f0 i0 j0 k0 = s.fld f0 i0 j0 k0 := rfl
@[simp] theorem logErr_flag (r : ErrRec) (f0 : Fld) (i0 j0 k0 : Nat) : (s.logErr r).flag f0 i0 j0 k0 = s.flag f0 i0 j0 k0 := rfl
@[simp] theorem logErr_sfld (r : ErrRec) (f0 : Fld) (i0 j0 k0 : Nat) : (s.logErr r).sfld f0 i0 j0 k0 = s.sfld f0 i0 j0 k0 := rfl
@[simp] theorem logErr_cell (r : ErrRec) (n0 j0 : Nat) : (s.logErr r).cell n0 j0 = s.cell n0 j0 := rfl
@[simp] theorem logErr_now (r : ErrRec) : (s.logErr r).now = s.now := rfl
@[simp] theorem logErr_gangSize (r : ErrRec) (e0 : Nat) : (s.logErr r).gangSize e0 = s.gangSize e0 := rfl
@[simp] theorem logErr_leader (r : ErrRec) (e0 : Nat) : (s.logErr r).leader e0 = s.leader e0 := rfl
@[simp] theorem logErr_members (r : ErrRec) (e0 : Nat) : (s.logErr r).members e0 = s.members e0 := rfl
@[simp] theorem logErr_domOn (r : ErrRec) (d0 : Nat) : (s.logErr r).domOn d0 = s.domOn d0 := rfl
@[simp] theorem logErr_live (r : ErrRec) (d0 : Nat) : (s.logErr r).live d0 = s.live d0 := rfl

/-! ### atTime -/

@[simp] theorem atTime_pending (t : Nat) : (s.atTime t).pending = s.pending := rfl
@[simp] theorem atTime_free (t : Nat) : (s.atTime t).free = s.free := rfl
@[simp] theorem atTime_regs (t : Nat) : (s.atTime t).regs = s.regs := rfl
@[simp] theorem atTime_work (t : Nat) : (s.atTime t).work = s.work := rfl
@[simp] theorem atTime_shadow (t : Nat) : (s.atTime t).shadow = s.shadow := rfl
@[simp] theorem atTime_engines (t : Nat) : (s.atTime t).engines = s.engines := rfl
@[simp] theorem atTime_chans (t : Nat) : (s.atTime t).chans = s.chans := rfl
@[simp] theorem atTime_offs (t : Nat) : (s.atTime t).offs = s.offs := rfl
@[simp] theorem atTime_fcus (t : Nat) : (s.atTime t).fcus = s.fcus := rfl
@[simp] theorem atTime_slices (t : Nat) : (s.atTime t).slices = s.slices := rfl
@[simp] theorem atTime_slcs (t : Nat) : (s.atTime t).slcs = s.slcs := rfl
@[simp] theorem atTime_sbk (t : Nat) : (s.atTime t).sbk = s.sbk := rfl
@[simp] theorem atTime_flash (t : Nat) : (s.atTime t).flash = s.flash := rfl
@[simp] theorem atTime_smp (t : Nat) : (s.atTime t).smp = s.smp := rfl
@[simp] theorem atTime_log (t : Nat) : (s.atTime t).log = s.log := rfl
@[simp] theorem atTime_fuses (t : Nat) : (s.atTime t).fuses = s.fuses := rfl
@[simp] theorem atTime_frames (t : Nat) : (s.atTime t).frames = s.frames := rfl
@[simp] theorem atTime_ffs (t : Nat) : (s.atTime t).ffs = s.ffs := rfl
@[simp] theorem atTime_bm (t : Nat) : (s.atTime t).bm = s.bm := rfl
@[simp] theorem atTime_bmLast (t : Nat) : (s.atTime t).bmLast = s.bmLast := rfl
@[simp] theorem atTime_bmOut (t : Nat) : (s.atTime t).bmOut = s.bmOut := rfl
@[simp] theorem atTime_bmRet (t : Nat) : (s.atTime t).bmRet = s.bmRet := rfl
@[simp] theorem atTime_arith (t : Nat) : (s.atTime t).arith = s.arith := rfl
@[simp] theorem atTime_lineStop (t : Nat) : (s.atTime t).lineStop = s.lineStop := rfl
@[simp] theorem atTime_sectors (t : Nat) : (s.atTime t).sectors = s.sectors := rfl
@[simp] theorem atTime_loader (t : Nat) : (s.atTime t).loader = s.loader := rfl
@[simp] theorem atTime_xacts (t : Nat) : (s.atTime t).xacts = s.xacts := rfl
@[simp] theorem atTime_rsps (t : Nat) : (s.atTime t).rsps = s.rsps := rfl
@[simp] theorem atTime_xnext (t : Nat) : (s.atTime t).xnext = s.xnext := rfl
@[simp] theorem atTime_dram (t : Nat) : (s.atTime t).dram = s.dram := rfl
@[simp] theorem atTime_dmcs (t : Nat) : (s.atTime t).dmcs = s.dmcs := rfl
@[simp] theorem atTime_ilvLocked (t : Nat) : (s.atTime t).ilvLocked = s.ilvLocked := rfl
@[simp] theorem atTime_ice (t : Nat) : (s.atTime t).ice = s.ice := rfl
@[simp] theorem atTime_lanes (t : Nat) : (s.atTime t).lanes = s.lanes := rfl
@[simp] theorem atTime_bridges (t : Nat) : (s.atTime t).bridges = s.bridges := rfl
@[simp] theorem atTime_tb (t : Nat) : (s.atTime t).tb = s.tb := rfl
@[simp] theorem atTime_flights (t : Nat) : (s.atTime t).flights = s.flights := rfl
@[simp] theorem atTime_fnext (t : Nat) : (s.atTime t).fnext = s.fnext := rfl
@[simp] theorem atTime_nis (t : Nat) : (s.atTime t).nis = s.nis := rfl
@[simp] theorem atTime_arbs (t : Nat) : (s.atTime t).arbs = s.arbs := rfl
@[simp] theorem atTime_rtc (t : Nat) : (s.atTime t).rtc = s.rtc := rfl
@[simp] theorem atTime_temps (t : Nat) : (s.atTime t).temps = s.temps := rfl
@[simp] theorem atTime_mb (t : Nat) : (s.atTime t).mb = s.mb := rfl
@[simp] theorem atTime_pwr (t : Nat) : (s.atTime t).pwr = s.pwr := rfl
@[simp] theorem atTime_io (t : Nat) : (s.atTime t).io = s.io := rfl
@[simp] theorem atTime_harts (t : Nat) : (s.atTime t).harts = s.harts := rfl
@[simp] theorem atTime_caches (t : Nat) : (s.atTime t).caches = s.caches := rfl
@[simp] theorem atTime_dbg (t : Nat) : (s.atTime t).dbg = s.dbg := rfl
@[simp] theorem atTime_err (t : Nat) : (s.atTime t).err = s.err := rfl
@[simp] theorem atTime_plic (t : Nat) : (s.atTime t).plic = s.plic := rfl
@[simp] theorem atTime_eng (t : Nat) (e0 : Nat) : (s.atTime t).eng e0 = s.eng e0 := rfl
@[simp] theorem atTime_chan (t : Nat) (p0 : Nat) : (s.atTime t).chan p0 = s.chan p0 := rfl
@[simp] theorem atTime_fcu (t : Nat) (c0 : Nat) : (s.atTime t).fcu c0 = s.fcu c0 := rfl
@[simp] theorem atTime_slc (t : Nat) (n0 : Nat) : (s.atTime t).slc n0 = s.slc n0 := rfl
@[simp] theorem atTime_reg (t : Nat) (r0 : RegId) (i0 j0 k0 : Nat) : (s.atTime t).reg r0 i0 j0 k0 = s.reg r0 i0 j0 k0 := rfl
@[simp] theorem atTime_shadowReg (t : Nat) (r0 : RegId) (i0 j0 k0 : Nat) : (s.atTime t).shadowReg r0 i0 j0 k0 = s.shadowReg r0 i0 j0 k0 := rfl
@[simp] theorem atTime_fld (t : Nat) (f0 : Fld) (i0 j0 k0 : Nat) : (s.atTime t).fld f0 i0 j0 k0 = s.fld f0 i0 j0 k0 := rfl
@[simp] theorem atTime_flag (t : Nat) (f0 : Fld) (i0 j0 k0 : Nat) : (s.atTime t).flag f0 i0 j0 k0 = s.flag f0 i0 j0 k0 := rfl
@[simp] theorem atTime_sfld (t : Nat) (f0 : Fld) (i0 j0 k0 : Nat) : (s.atTime t).sfld f0 i0 j0 k0 = s.sfld f0 i0 j0 k0 := rfl
@[simp] theorem atTime_cell (t : Nat) (n0 j0 : Nat) : (s.atTime t).cell n0 j0 = s.cell n0 j0 := rfl
@[simp] theorem atTime_gangSize (t : Nat) (e0 : Nat) : (s.atTime t).gangSize e0 = s.gangSize e0 := rfl
@[simp] theorem atTime_leader (t : Nat) (e0 : Nat) : (s.atTime t).leader e0 = s.leader e0 := rfl
@[simp] theorem atTime_members (t : Nat) (e0 : Nat) : (s.atTime t).members e0 = s.members e0 := rfl
@[simp] theorem atTime_domOn (t : Nat) (d0 : Nat) : (s.atTime t).domOn d0 = s.domOn d0 := rfl
@[simp] theorem atTime_live (t : Nat) (d0 : Nat) : (s.atTime t).live d0 = s.live d0 := rfl

/-! ### setEng -/

@[simp] theorem setEng_pending (e : Nat) (x : Engine) : (s.setEng e x).pending = s.pending := rfl
@[simp] theorem setEng_free (e : Nat) (x : Engine) : (s.setEng e x).free = s.free := rfl
@[simp] theorem setEng_time (e : Nat) (x : Engine) : (s.setEng e x).time = s.time := rfl
@[simp] theorem setEng_regs (e : Nat) (x : Engine) : (s.setEng e x).regs = s.regs := rfl
@[simp] theorem setEng_work (e : Nat) (x : Engine) : (s.setEng e x).work = s.work := rfl
@[simp] theorem setEng_shadow (e : Nat) (x : Engine) : (s.setEng e x).shadow = s.shadow := rfl
@[simp] theorem setEng_chans (e : Nat) (x : Engine) : (s.setEng e x).chans = s.chans := rfl
@[simp] theorem setEng_offs (e : Nat) (x : Engine) : (s.setEng e x).offs = s.offs := rfl
@[simp] theorem setEng_fcus (e : Nat) (x : Engine) : (s.setEng e x).fcus = s.fcus := rfl
@[simp] theorem setEng_slices (e : Nat) (x : Engine) : (s.setEng e x).slices = s.slices := rfl
@[simp] theorem setEng_slcs (e : Nat) (x : Engine) : (s.setEng e x).slcs = s.slcs := rfl
@[simp] theorem setEng_sbk (e : Nat) (x : Engine) : (s.setEng e x).sbk = s.sbk := rfl
@[simp] theorem setEng_flash (e : Nat) (x : Engine) : (s.setEng e x).flash = s.flash := rfl
@[simp] theorem setEng_smp (e : Nat) (x : Engine) : (s.setEng e x).smp = s.smp := rfl
@[simp] theorem setEng_log (e : Nat) (x : Engine) : (s.setEng e x).log = s.log := rfl
@[simp] theorem setEng_fuses (e : Nat) (x : Engine) : (s.setEng e x).fuses = s.fuses := rfl
@[simp] theorem setEng_frames (e : Nat) (x : Engine) : (s.setEng e x).frames = s.frames := rfl
@[simp] theorem setEng_ffs (e : Nat) (x : Engine) : (s.setEng e x).ffs = s.ffs := rfl
@[simp] theorem setEng_bm (e : Nat) (x : Engine) : (s.setEng e x).bm = s.bm := rfl
@[simp] theorem setEng_bmLast (e : Nat) (x : Engine) : (s.setEng e x).bmLast = s.bmLast := rfl
@[simp] theorem setEng_bmOut (e : Nat) (x : Engine) : (s.setEng e x).bmOut = s.bmOut := rfl
@[simp] theorem setEng_bmRet (e : Nat) (x : Engine) : (s.setEng e x).bmRet = s.bmRet := rfl
@[simp] theorem setEng_arith (e : Nat) (x : Engine) : (s.setEng e x).arith = s.arith := rfl
@[simp] theorem setEng_lineStop (e : Nat) (x : Engine) : (s.setEng e x).lineStop = s.lineStop := rfl
@[simp] theorem setEng_sectors (e : Nat) (x : Engine) : (s.setEng e x).sectors = s.sectors := rfl
@[simp] theorem setEng_loader (e : Nat) (x : Engine) : (s.setEng e x).loader = s.loader := rfl
@[simp] theorem setEng_xacts (e : Nat) (x : Engine) : (s.setEng e x).xacts = s.xacts := rfl
@[simp] theorem setEng_rsps (e : Nat) (x : Engine) : (s.setEng e x).rsps = s.rsps := rfl
@[simp] theorem setEng_xnext (e : Nat) (x : Engine) : (s.setEng e x).xnext = s.xnext := rfl
@[simp] theorem setEng_dram (e : Nat) (x : Engine) : (s.setEng e x).dram = s.dram := rfl
@[simp] theorem setEng_dmcs (e : Nat) (x : Engine) : (s.setEng e x).dmcs = s.dmcs := rfl
@[simp] theorem setEng_ilvLocked (e : Nat) (x : Engine) : (s.setEng e x).ilvLocked = s.ilvLocked := rfl
@[simp] theorem setEng_ice (e : Nat) (x : Engine) : (s.setEng e x).ice = s.ice := rfl
@[simp] theorem setEng_lanes (e : Nat) (x : Engine) : (s.setEng e x).lanes = s.lanes := rfl
@[simp] theorem setEng_bridges (e : Nat) (x : Engine) : (s.setEng e x).bridges = s.bridges := rfl
@[simp] theorem setEng_tb (e : Nat) (x : Engine) : (s.setEng e x).tb = s.tb := rfl
@[simp] theorem setEng_flights (e : Nat) (x : Engine) : (s.setEng e x).flights = s.flights := rfl
@[simp] theorem setEng_fnext (e : Nat) (x : Engine) : (s.setEng e x).fnext = s.fnext := rfl
@[simp] theorem setEng_nis (e : Nat) (x : Engine) : (s.setEng e x).nis = s.nis := rfl
@[simp] theorem setEng_arbs (e : Nat) (x : Engine) : (s.setEng e x).arbs = s.arbs := rfl
@[simp] theorem setEng_rtc (e : Nat) (x : Engine) : (s.setEng e x).rtc = s.rtc := rfl
@[simp] theorem setEng_temps (e : Nat) (x : Engine) : (s.setEng e x).temps = s.temps := rfl
@[simp] theorem setEng_mb (e : Nat) (x : Engine) : (s.setEng e x).mb = s.mb := rfl
@[simp] theorem setEng_pwr (e : Nat) (x : Engine) : (s.setEng e x).pwr = s.pwr := rfl
@[simp] theorem setEng_io (e : Nat) (x : Engine) : (s.setEng e x).io = s.io := rfl
@[simp] theorem setEng_harts (e : Nat) (x : Engine) : (s.setEng e x).harts = s.harts := rfl
@[simp] theorem setEng_caches (e : Nat) (x : Engine) : (s.setEng e x).caches = s.caches := rfl
@[simp] theorem setEng_dbg (e : Nat) (x : Engine) : (s.setEng e x).dbg = s.dbg := rfl
@[simp] theorem setEng_err (e : Nat) (x : Engine) : (s.setEng e x).err = s.err := rfl
@[simp] theorem setEng_plic (e : Nat) (x : Engine) : (s.setEng e x).plic = s.plic := rfl
@[simp] theorem setEng_chan (e : Nat) (x : Engine) (p0 : Nat) : (s.setEng e x).chan p0 = s.chan p0 := rfl
@[simp] theorem setEng_fcu (e : Nat) (x : Engine) (c0 : Nat) : (s.setEng e x).fcu c0 = s.fcu c0 := rfl
@[simp] theorem setEng_slc (e : Nat) (x : Engine) (n0 : Nat) : (s.setEng e x).slc n0 = s.slc n0 := rfl
@[simp] theorem setEng_reg (e : Nat) (x : Engine) (r0 : RegId) (i0 j0 k0 : Nat) : (s.setEng e x).reg r0 i0 j0 k0 = s.reg r0 i0 j0 k0 := rfl
@[simp] theorem setEng_shadowReg (e : Nat) (x : Engine) (r0 : RegId) (i0 j0 k0 : Nat) : (s.setEng e x).shadowReg r0 i0 j0 k0 = s.shadowReg r0 i0 j0 k0 := rfl
@[simp] theorem setEng_fld (e : Nat) (x : Engine) (f0 : Fld) (i0 j0 k0 : Nat) : (s.setEng e x).fld f0 i0 j0 k0 = s.fld f0 i0 j0 k0 := rfl
@[simp] theorem setEng_flag (e : Nat) (x : Engine) (f0 : Fld) (i0 j0 k0 : Nat) : (s.setEng e x).flag f0 i0 j0 k0 = s.flag f0 i0 j0 k0 := rfl
@[simp] theorem setEng_sfld (e : Nat) (x : Engine) (f0 : Fld) (i0 j0 k0 : Nat) : (s.setEng e x).sfld f0 i0 j0 k0 = s.sfld f0 i0 j0 k0 := rfl
@[simp] theorem setEng_cell (e : Nat) (x : Engine) (n0 j0 : Nat) : (s.setEng e x).cell n0 j0 = s.cell n0 j0 := rfl
@[simp] theorem setEng_now (e : Nat) (x : Engine) : (s.setEng e x).now = s.now := rfl
@[simp] theorem setEng_gangSize (e : Nat) (x : Engine) (e0 : Nat) : (s.setEng e x).gangSize e0 = s.gangSize e0 := rfl
@[simp] theorem setEng_leader (e : Nat) (x : Engine) (e0 : Nat) : (s.setEng e x).leader e0 = s.leader e0 := rfl
@[simp] theorem setEng_members (e : Nat) (x : Engine) (e0 : Nat) : (s.setEng e x).members e0 = s.members e0 := rfl
@[simp] theorem setEng_domOn (e : Nat) (x : Engine) (d0 : Nat) : (s.setEng e x).domOn d0 = s.domOn d0 := rfl
@[simp] theorem setEng_live (e : Nat) (x : Engine) (d0 : Nat) : (s.setEng e x).live d0 = s.live d0 := rfl

/-! ### modEng -/

@[simp] theorem modEng_pending (e : Nat) (f : Engine → Engine) : (s.modEng e f).pending = s.pending := rfl
@[simp] theorem modEng_free (e : Nat) (f : Engine → Engine) : (s.modEng e f).free = s.free := rfl
@[simp] theorem modEng_time (e : Nat) (f : Engine → Engine) : (s.modEng e f).time = s.time := rfl
@[simp] theorem modEng_regs (e : Nat) (f : Engine → Engine) : (s.modEng e f).regs = s.regs := rfl
@[simp] theorem modEng_work (e : Nat) (f : Engine → Engine) : (s.modEng e f).work = s.work := rfl
@[simp] theorem modEng_shadow (e : Nat) (f : Engine → Engine) : (s.modEng e f).shadow = s.shadow := rfl
@[simp] theorem modEng_chans (e : Nat) (f : Engine → Engine) : (s.modEng e f).chans = s.chans := rfl
@[simp] theorem modEng_offs (e : Nat) (f : Engine → Engine) : (s.modEng e f).offs = s.offs := rfl
@[simp] theorem modEng_fcus (e : Nat) (f : Engine → Engine) : (s.modEng e f).fcus = s.fcus := rfl
@[simp] theorem modEng_slices (e : Nat) (f : Engine → Engine) : (s.modEng e f).slices = s.slices := rfl
@[simp] theorem modEng_slcs (e : Nat) (f : Engine → Engine) : (s.modEng e f).slcs = s.slcs := rfl
@[simp] theorem modEng_sbk (e : Nat) (f : Engine → Engine) : (s.modEng e f).sbk = s.sbk := rfl
@[simp] theorem modEng_flash (e : Nat) (f : Engine → Engine) : (s.modEng e f).flash = s.flash := rfl
@[simp] theorem modEng_smp (e : Nat) (f : Engine → Engine) : (s.modEng e f).smp = s.smp := rfl
@[simp] theorem modEng_log (e : Nat) (f : Engine → Engine) : (s.modEng e f).log = s.log := rfl
@[simp] theorem modEng_fuses (e : Nat) (f : Engine → Engine) : (s.modEng e f).fuses = s.fuses := rfl
@[simp] theorem modEng_frames (e : Nat) (f : Engine → Engine) : (s.modEng e f).frames = s.frames := rfl
@[simp] theorem modEng_ffs (e : Nat) (f : Engine → Engine) : (s.modEng e f).ffs = s.ffs := rfl
@[simp] theorem modEng_bm (e : Nat) (f : Engine → Engine) : (s.modEng e f).bm = s.bm := rfl
@[simp] theorem modEng_bmLast (e : Nat) (f : Engine → Engine) : (s.modEng e f).bmLast = s.bmLast := rfl
@[simp] theorem modEng_bmOut (e : Nat) (f : Engine → Engine) : (s.modEng e f).bmOut = s.bmOut := rfl
@[simp] theorem modEng_bmRet (e : Nat) (f : Engine → Engine) : (s.modEng e f).bmRet = s.bmRet := rfl
@[simp] theorem modEng_arith (e : Nat) (f : Engine → Engine) : (s.modEng e f).arith = s.arith := rfl
@[simp] theorem modEng_lineStop (e : Nat) (f : Engine → Engine) : (s.modEng e f).lineStop = s.lineStop := rfl
@[simp] theorem modEng_sectors (e : Nat) (f : Engine → Engine) : (s.modEng e f).sectors = s.sectors := rfl
@[simp] theorem modEng_loader (e : Nat) (f : Engine → Engine) : (s.modEng e f).loader = s.loader := rfl
@[simp] theorem modEng_xacts (e : Nat) (f : Engine → Engine) : (s.modEng e f).xacts = s.xacts := rfl
@[simp] theorem modEng_rsps (e : Nat) (f : Engine → Engine) : (s.modEng e f).rsps = s.rsps := rfl
@[simp] theorem modEng_xnext (e : Nat) (f : Engine → Engine) : (s.modEng e f).xnext = s.xnext := rfl
@[simp] theorem modEng_dram (e : Nat) (f : Engine → Engine) : (s.modEng e f).dram = s.dram := rfl
@[simp] theorem modEng_dmcs (e : Nat) (f : Engine → Engine) : (s.modEng e f).dmcs = s.dmcs := rfl
@[simp] theorem modEng_ilvLocked (e : Nat) (f : Engine → Engine) : (s.modEng e f).ilvLocked = s.ilvLocked := rfl
@[simp] theorem modEng_ice (e : Nat) (f : Engine → Engine) : (s.modEng e f).ice = s.ice := rfl
@[simp] theorem modEng_lanes (e : Nat) (f : Engine → Engine) : (s.modEng e f).lanes = s.lanes := rfl
@[simp] theorem modEng_bridges (e : Nat) (f : Engine → Engine) : (s.modEng e f).bridges = s.bridges := rfl
@[simp] theorem modEng_tb (e : Nat) (f : Engine → Engine) : (s.modEng e f).tb = s.tb := rfl
@[simp] theorem modEng_flights (e : Nat) (f : Engine → Engine) : (s.modEng e f).flights = s.flights := rfl
@[simp] theorem modEng_fnext (e : Nat) (f : Engine → Engine) : (s.modEng e f).fnext = s.fnext := rfl
@[simp] theorem modEng_nis (e : Nat) (f : Engine → Engine) : (s.modEng e f).nis = s.nis := rfl
@[simp] theorem modEng_arbs (e : Nat) (f : Engine → Engine) : (s.modEng e f).arbs = s.arbs := rfl
@[simp] theorem modEng_rtc (e : Nat) (f : Engine → Engine) : (s.modEng e f).rtc = s.rtc := rfl
@[simp] theorem modEng_temps (e : Nat) (f : Engine → Engine) : (s.modEng e f).temps = s.temps := rfl
@[simp] theorem modEng_mb (e : Nat) (f : Engine → Engine) : (s.modEng e f).mb = s.mb := rfl
@[simp] theorem modEng_pwr (e : Nat) (f : Engine → Engine) : (s.modEng e f).pwr = s.pwr := rfl
@[simp] theorem modEng_io (e : Nat) (f : Engine → Engine) : (s.modEng e f).io = s.io := rfl
@[simp] theorem modEng_harts (e : Nat) (f : Engine → Engine) : (s.modEng e f).harts = s.harts := rfl
@[simp] theorem modEng_caches (e : Nat) (f : Engine → Engine) : (s.modEng e f).caches = s.caches := rfl
@[simp] theorem modEng_dbg (e : Nat) (f : Engine → Engine) : (s.modEng e f).dbg = s.dbg := rfl
@[simp] theorem modEng_err (e : Nat) (f : Engine → Engine) : (s.modEng e f).err = s.err := rfl
@[simp] theorem modEng_plic (e : Nat) (f : Engine → Engine) : (s.modEng e f).plic = s.plic := rfl
@[simp] theorem modEng_chan (e : Nat) (f : Engine → Engine) (p0 : Nat) : (s.modEng e f).chan p0 = s.chan p0 := rfl
@[simp] theorem modEng_fcu (e : Nat) (f : Engine → Engine) (c0 : Nat) : (s.modEng e f).fcu c0 = s.fcu c0 := rfl
@[simp] theorem modEng_slc (e : Nat) (f : Engine → Engine) (n0 : Nat) : (s.modEng e f).slc n0 = s.slc n0 := rfl
@[simp] theorem modEng_reg (e : Nat) (f : Engine → Engine) (r0 : RegId) (i0 j0 k0 : Nat) : (s.modEng e f).reg r0 i0 j0 k0 = s.reg r0 i0 j0 k0 := rfl
@[simp] theorem modEng_shadowReg (e : Nat) (f : Engine → Engine) (r0 : RegId) (i0 j0 k0 : Nat) : (s.modEng e f).shadowReg r0 i0 j0 k0 = s.shadowReg r0 i0 j0 k0 := rfl
@[simp] theorem modEng_fld (e : Nat) (f : Engine → Engine) (f0 : Fld) (i0 j0 k0 : Nat) : (s.modEng e f).fld f0 i0 j0 k0 = s.fld f0 i0 j0 k0 := rfl
@[simp] theorem modEng_flag (e : Nat) (f : Engine → Engine) (f0 : Fld) (i0 j0 k0 : Nat) : (s.modEng e f).flag f0 i0 j0 k0 = s.flag f0 i0 j0 k0 := rfl
@[simp] theorem modEng_sfld (e : Nat) (f : Engine → Engine) (f0 : Fld) (i0 j0 k0 : Nat) : (s.modEng e f).sfld f0 i0 j0 k0 = s.sfld f0 i0 j0 k0 := rfl
@[simp] theorem modEng_cell (e : Nat) (f : Engine → Engine) (n0 j0 : Nat) : (s.modEng e f).cell n0 j0 = s.cell n0 j0 := rfl
@[simp] theorem modEng_now (e : Nat) (f : Engine → Engine) : (s.modEng e f).now = s.now := rfl
@[simp] theorem modEng_gangSize (e : Nat) (f : Engine → Engine) (e0 : Nat) : (s.modEng e f).gangSize e0 = s.gangSize e0 := rfl
@[simp] theorem modEng_leader (e : Nat) (f : Engine → Engine) (e0 : Nat) : (s.modEng e f).leader e0 = s.leader e0 := rfl
@[simp] theorem modEng_members (e : Nat) (f : Engine → Engine) (e0 : Nat) : (s.modEng e f).members e0 = s.members e0 := rfl
@[simp] theorem modEng_domOn (e : Nat) (f : Engine → Engine) (d0 : Nat) : (s.modEng e f).domOn d0 = s.domOn d0 := rfl
@[simp] theorem modEng_live (e : Nat) (f : Engine → Engine) (d0 : Nat) : (s.modEng e f).live d0 = s.live d0 := rfl

/-! ### setChan -/

@[simp] theorem setChan_pending (p : Nat) (x : Channel) : (s.setChan p x).pending = s.pending := rfl
@[simp] theorem setChan_free (p : Nat) (x : Channel) : (s.setChan p x).free = s.free := rfl
@[simp] theorem setChan_time (p : Nat) (x : Channel) : (s.setChan p x).time = s.time := rfl
@[simp] theorem setChan_regs (p : Nat) (x : Channel) : (s.setChan p x).regs = s.regs := rfl
@[simp] theorem setChan_work (p : Nat) (x : Channel) : (s.setChan p x).work = s.work := rfl
@[simp] theorem setChan_shadow (p : Nat) (x : Channel) : (s.setChan p x).shadow = s.shadow := rfl
@[simp] theorem setChan_engines (p : Nat) (x : Channel) : (s.setChan p x).engines = s.engines := rfl
@[simp] theorem setChan_offs (p : Nat) (x : Channel) : (s.setChan p x).offs = s.offs := rfl
@[simp] theorem setChan_fcus (p : Nat) (x : Channel) : (s.setChan p x).fcus = s.fcus := rfl
@[simp] theorem setChan_slices (p : Nat) (x : Channel) : (s.setChan p x).slices = s.slices := rfl
@[simp] theorem setChan_slcs (p : Nat) (x : Channel) : (s.setChan p x).slcs = s.slcs := rfl
@[simp] theorem setChan_sbk (p : Nat) (x : Channel) : (s.setChan p x).sbk = s.sbk := rfl
@[simp] theorem setChan_flash (p : Nat) (x : Channel) : (s.setChan p x).flash = s.flash := rfl
@[simp] theorem setChan_smp (p : Nat) (x : Channel) : (s.setChan p x).smp = s.smp := rfl
@[simp] theorem setChan_log (p : Nat) (x : Channel) : (s.setChan p x).log = s.log := rfl
@[simp] theorem setChan_fuses (p : Nat) (x : Channel) : (s.setChan p x).fuses = s.fuses := rfl
@[simp] theorem setChan_frames (p : Nat) (x : Channel) : (s.setChan p x).frames = s.frames := rfl
@[simp] theorem setChan_ffs (p : Nat) (x : Channel) : (s.setChan p x).ffs = s.ffs := rfl
@[simp] theorem setChan_bm (p : Nat) (x : Channel) : (s.setChan p x).bm = s.bm := rfl
@[simp] theorem setChan_bmLast (p : Nat) (x : Channel) : (s.setChan p x).bmLast = s.bmLast := rfl
@[simp] theorem setChan_bmOut (p : Nat) (x : Channel) : (s.setChan p x).bmOut = s.bmOut := rfl
@[simp] theorem setChan_bmRet (p : Nat) (x : Channel) : (s.setChan p x).bmRet = s.bmRet := rfl
@[simp] theorem setChan_arith (p : Nat) (x : Channel) : (s.setChan p x).arith = s.arith := rfl
@[simp] theorem setChan_lineStop (p : Nat) (x : Channel) : (s.setChan p x).lineStop = s.lineStop := rfl
@[simp] theorem setChan_sectors (p : Nat) (x : Channel) : (s.setChan p x).sectors = s.sectors := rfl
@[simp] theorem setChan_loader (p : Nat) (x : Channel) : (s.setChan p x).loader = s.loader := rfl
@[simp] theorem setChan_xacts (p : Nat) (x : Channel) : (s.setChan p x).xacts = s.xacts := rfl
@[simp] theorem setChan_rsps (p : Nat) (x : Channel) : (s.setChan p x).rsps = s.rsps := rfl
@[simp] theorem setChan_xnext (p : Nat) (x : Channel) : (s.setChan p x).xnext = s.xnext := rfl
@[simp] theorem setChan_dram (p : Nat) (x : Channel) : (s.setChan p x).dram = s.dram := rfl
@[simp] theorem setChan_dmcs (p : Nat) (x : Channel) : (s.setChan p x).dmcs = s.dmcs := rfl
@[simp] theorem setChan_ilvLocked (p : Nat) (x : Channel) : (s.setChan p x).ilvLocked = s.ilvLocked := rfl
@[simp] theorem setChan_ice (p : Nat) (x : Channel) : (s.setChan p x).ice = s.ice := rfl
@[simp] theorem setChan_lanes (p : Nat) (x : Channel) : (s.setChan p x).lanes = s.lanes := rfl
@[simp] theorem setChan_bridges (p : Nat) (x : Channel) : (s.setChan p x).bridges = s.bridges := rfl
@[simp] theorem setChan_tb (p : Nat) (x : Channel) : (s.setChan p x).tb = s.tb := rfl
@[simp] theorem setChan_flights (p : Nat) (x : Channel) : (s.setChan p x).flights = s.flights := rfl
@[simp] theorem setChan_fnext (p : Nat) (x : Channel) : (s.setChan p x).fnext = s.fnext := rfl
@[simp] theorem setChan_nis (p : Nat) (x : Channel) : (s.setChan p x).nis = s.nis := rfl
@[simp] theorem setChan_arbs (p : Nat) (x : Channel) : (s.setChan p x).arbs = s.arbs := rfl
@[simp] theorem setChan_rtc (p : Nat) (x : Channel) : (s.setChan p x).rtc = s.rtc := rfl
@[simp] theorem setChan_temps (p : Nat) (x : Channel) : (s.setChan p x).temps = s.temps := rfl
@[simp] theorem setChan_mb (p : Nat) (x : Channel) : (s.setChan p x).mb = s.mb := rfl
@[simp] theorem setChan_pwr (p : Nat) (x : Channel) : (s.setChan p x).pwr = s.pwr := rfl
@[simp] theorem setChan_io (p : Nat) (x : Channel) : (s.setChan p x).io = s.io := rfl
@[simp] theorem setChan_harts (p : Nat) (x : Channel) : (s.setChan p x).harts = s.harts := rfl
@[simp] theorem setChan_caches (p : Nat) (x : Channel) : (s.setChan p x).caches = s.caches := rfl
@[simp] theorem setChan_dbg (p : Nat) (x : Channel) : (s.setChan p x).dbg = s.dbg := rfl
@[simp] theorem setChan_err (p : Nat) (x : Channel) : (s.setChan p x).err = s.err := rfl
@[simp] theorem setChan_plic (p : Nat) (x : Channel) : (s.setChan p x).plic = s.plic := rfl
@[simp] theorem setChan_eng (p : Nat) (x : Channel) (e0 : Nat) : (s.setChan p x).eng e0 = s.eng e0 := rfl
@[simp] theorem setChan_fcu (p : Nat) (x : Channel) (c0 : Nat) : (s.setChan p x).fcu c0 = s.fcu c0 := rfl
@[simp] theorem setChan_slc (p : Nat) (x : Channel) (n0 : Nat) : (s.setChan p x).slc n0 = s.slc n0 := rfl
@[simp] theorem setChan_reg (p : Nat) (x : Channel) (r0 : RegId) (i0 j0 k0 : Nat) : (s.setChan p x).reg r0 i0 j0 k0 = s.reg r0 i0 j0 k0 := rfl
@[simp] theorem setChan_shadowReg (p : Nat) (x : Channel) (r0 : RegId) (i0 j0 k0 : Nat) : (s.setChan p x).shadowReg r0 i0 j0 k0 = s.shadowReg r0 i0 j0 k0 := rfl
@[simp] theorem setChan_fld (p : Nat) (x : Channel) (f0 : Fld) (i0 j0 k0 : Nat) : (s.setChan p x).fld f0 i0 j0 k0 = s.fld f0 i0 j0 k0 := rfl
@[simp] theorem setChan_flag (p : Nat) (x : Channel) (f0 : Fld) (i0 j0 k0 : Nat) : (s.setChan p x).flag f0 i0 j0 k0 = s.flag f0 i0 j0 k0 := rfl
@[simp] theorem setChan_sfld (p : Nat) (x : Channel) (f0 : Fld) (i0 j0 k0 : Nat) : (s.setChan p x).sfld f0 i0 j0 k0 = s.sfld f0 i0 j0 k0 := rfl
@[simp] theorem setChan_cell (p : Nat) (x : Channel) (n0 j0 : Nat) : (s.setChan p x).cell n0 j0 = s.cell n0 j0 := rfl
@[simp] theorem setChan_now (p : Nat) (x : Channel) : (s.setChan p x).now = s.now := rfl
@[simp] theorem setChan_gangSize (p : Nat) (x : Channel) (e0 : Nat) : (s.setChan p x).gangSize e0 = s.gangSize e0 := rfl
@[simp] theorem setChan_leader (p : Nat) (x : Channel) (e0 : Nat) : (s.setChan p x).leader e0 = s.leader e0 := rfl
@[simp] theorem setChan_members (p : Nat) (x : Channel) (e0 : Nat) : (s.setChan p x).members e0 = s.members e0 := rfl
@[simp] theorem setChan_domOn (p : Nat) (x : Channel) (d0 : Nat) : (s.setChan p x).domOn d0 = s.domOn d0 := rfl
@[simp] theorem setChan_live (p : Nat) (x : Channel) (d0 : Nat) : (s.setChan p x).live d0 = s.live d0 := rfl

/-! ### modChan -/

@[simp] theorem modChan_pending (p : Nat) (f : Channel → Channel) : (s.modChan p f).pending = s.pending := rfl
@[simp] theorem modChan_free (p : Nat) (f : Channel → Channel) : (s.modChan p f).free = s.free := rfl
@[simp] theorem modChan_time (p : Nat) (f : Channel → Channel) : (s.modChan p f).time = s.time := rfl
@[simp] theorem modChan_regs (p : Nat) (f : Channel → Channel) : (s.modChan p f).regs = s.regs := rfl
@[simp] theorem modChan_work (p : Nat) (f : Channel → Channel) : (s.modChan p f).work = s.work := rfl
@[simp] theorem modChan_shadow (p : Nat) (f : Channel → Channel) : (s.modChan p f).shadow = s.shadow := rfl
@[simp] theorem modChan_engines (p : Nat) (f : Channel → Channel) : (s.modChan p f).engines = s.engines := rfl
@[simp] theorem modChan_offs (p : Nat) (f : Channel → Channel) : (s.modChan p f).offs = s.offs := rfl
@[simp] theorem modChan_fcus (p : Nat) (f : Channel → Channel) : (s.modChan p f).fcus = s.fcus := rfl
@[simp] theorem modChan_slices (p : Nat) (f : Channel → Channel) : (s.modChan p f).slices = s.slices := rfl
@[simp] theorem modChan_slcs (p : Nat) (f : Channel → Channel) : (s.modChan p f).slcs = s.slcs := rfl
@[simp] theorem modChan_sbk (p : Nat) (f : Channel → Channel) : (s.modChan p f).sbk = s.sbk := rfl
@[simp] theorem modChan_flash (p : Nat) (f : Channel → Channel) : (s.modChan p f).flash = s.flash := rfl
@[simp] theorem modChan_smp (p : Nat) (f : Channel → Channel) : (s.modChan p f).smp = s.smp := rfl
@[simp] theorem modChan_log (p : Nat) (f : Channel → Channel) : (s.modChan p f).log = s.log := rfl
@[simp] theorem modChan_fuses (p : Nat) (f : Channel → Channel) : (s.modChan p f).fuses = s.fuses := rfl
@[simp] theorem modChan_frames (p : Nat) (f : Channel → Channel) : (s.modChan p f).frames = s.frames := rfl
@[simp] theorem modChan_ffs (p : Nat) (f : Channel → Channel) : (s.modChan p f).ffs = s.ffs := rfl
@[simp] theorem modChan_bm (p : Nat) (f : Channel → Channel) : (s.modChan p f).bm = s.bm := rfl
@[simp] theorem modChan_bmLast (p : Nat) (f : Channel → Channel) : (s.modChan p f).bmLast = s.bmLast := rfl
@[simp] theorem modChan_bmOut (p : Nat) (f : Channel → Channel) : (s.modChan p f).bmOut = s.bmOut := rfl
@[simp] theorem modChan_bmRet (p : Nat) (f : Channel → Channel) : (s.modChan p f).bmRet = s.bmRet := rfl
@[simp] theorem modChan_arith (p : Nat) (f : Channel → Channel) : (s.modChan p f).arith = s.arith := rfl
@[simp] theorem modChan_lineStop (p : Nat) (f : Channel → Channel) : (s.modChan p f).lineStop = s.lineStop := rfl
@[simp] theorem modChan_sectors (p : Nat) (f : Channel → Channel) : (s.modChan p f).sectors = s.sectors := rfl
@[simp] theorem modChan_loader (p : Nat) (f : Channel → Channel) : (s.modChan p f).loader = s.loader := rfl
@[simp] theorem modChan_xacts (p : Nat) (f : Channel → Channel) : (s.modChan p f).xacts = s.xacts := rfl
@[simp] theorem modChan_rsps (p : Nat) (f : Channel → Channel) : (s.modChan p f).rsps = s.rsps := rfl
@[simp] theorem modChan_xnext (p : Nat) (f : Channel → Channel) : (s.modChan p f).xnext = s.xnext := rfl
@[simp] theorem modChan_dram (p : Nat) (f : Channel → Channel) : (s.modChan p f).dram = s.dram := rfl
@[simp] theorem modChan_dmcs (p : Nat) (f : Channel → Channel) : (s.modChan p f).dmcs = s.dmcs := rfl
@[simp] theorem modChan_ilvLocked (p : Nat) (f : Channel → Channel) : (s.modChan p f).ilvLocked = s.ilvLocked := rfl
@[simp] theorem modChan_ice (p : Nat) (f : Channel → Channel) : (s.modChan p f).ice = s.ice := rfl
@[simp] theorem modChan_lanes (p : Nat) (f : Channel → Channel) : (s.modChan p f).lanes = s.lanes := rfl
@[simp] theorem modChan_bridges (p : Nat) (f : Channel → Channel) : (s.modChan p f).bridges = s.bridges := rfl
@[simp] theorem modChan_tb (p : Nat) (f : Channel → Channel) : (s.modChan p f).tb = s.tb := rfl
@[simp] theorem modChan_flights (p : Nat) (f : Channel → Channel) : (s.modChan p f).flights = s.flights := rfl
@[simp] theorem modChan_fnext (p : Nat) (f : Channel → Channel) : (s.modChan p f).fnext = s.fnext := rfl
@[simp] theorem modChan_nis (p : Nat) (f : Channel → Channel) : (s.modChan p f).nis = s.nis := rfl
@[simp] theorem modChan_arbs (p : Nat) (f : Channel → Channel) : (s.modChan p f).arbs = s.arbs := rfl
@[simp] theorem modChan_rtc (p : Nat) (f : Channel → Channel) : (s.modChan p f).rtc = s.rtc := rfl
@[simp] theorem modChan_temps (p : Nat) (f : Channel → Channel) : (s.modChan p f).temps = s.temps := rfl
@[simp] theorem modChan_mb (p : Nat) (f : Channel → Channel) : (s.modChan p f).mb = s.mb := rfl
@[simp] theorem modChan_pwr (p : Nat) (f : Channel → Channel) : (s.modChan p f).pwr = s.pwr := rfl
@[simp] theorem modChan_io (p : Nat) (f : Channel → Channel) : (s.modChan p f).io = s.io := rfl
@[simp] theorem modChan_harts (p : Nat) (f : Channel → Channel) : (s.modChan p f).harts = s.harts := rfl
@[simp] theorem modChan_caches (p : Nat) (f : Channel → Channel) : (s.modChan p f).caches = s.caches := rfl
@[simp] theorem modChan_dbg (p : Nat) (f : Channel → Channel) : (s.modChan p f).dbg = s.dbg := rfl
@[simp] theorem modChan_err (p : Nat) (f : Channel → Channel) : (s.modChan p f).err = s.err := rfl
@[simp] theorem modChan_plic (p : Nat) (f : Channel → Channel) : (s.modChan p f).plic = s.plic := rfl
@[simp] theorem modChan_eng (p : Nat) (f : Channel → Channel) (e0 : Nat) : (s.modChan p f).eng e0 = s.eng e0 := rfl
@[simp] theorem modChan_fcu (p : Nat) (f : Channel → Channel) (c0 : Nat) : (s.modChan p f).fcu c0 = s.fcu c0 := rfl
@[simp] theorem modChan_slc (p : Nat) (f : Channel → Channel) (n0 : Nat) : (s.modChan p f).slc n0 = s.slc n0 := rfl
@[simp] theorem modChan_reg (p : Nat) (f : Channel → Channel) (r0 : RegId) (i0 j0 k0 : Nat) : (s.modChan p f).reg r0 i0 j0 k0 = s.reg r0 i0 j0 k0 := rfl
@[simp] theorem modChan_shadowReg (p : Nat) (f : Channel → Channel) (r0 : RegId) (i0 j0 k0 : Nat) : (s.modChan p f).shadowReg r0 i0 j0 k0 = s.shadowReg r0 i0 j0 k0 := rfl
@[simp] theorem modChan_fld (p : Nat) (f : Channel → Channel) (f0 : Fld) (i0 j0 k0 : Nat) : (s.modChan p f).fld f0 i0 j0 k0 = s.fld f0 i0 j0 k0 := rfl
@[simp] theorem modChan_flag (p : Nat) (f : Channel → Channel) (f0 : Fld) (i0 j0 k0 : Nat) : (s.modChan p f).flag f0 i0 j0 k0 = s.flag f0 i0 j0 k0 := rfl
@[simp] theorem modChan_sfld (p : Nat) (f : Channel → Channel) (f0 : Fld) (i0 j0 k0 : Nat) : (s.modChan p f).sfld f0 i0 j0 k0 = s.sfld f0 i0 j0 k0 := rfl
@[simp] theorem modChan_cell (p : Nat) (f : Channel → Channel) (n0 j0 : Nat) : (s.modChan p f).cell n0 j0 = s.cell n0 j0 := rfl
@[simp] theorem modChan_now (p : Nat) (f : Channel → Channel) : (s.modChan p f).now = s.now := rfl
@[simp] theorem modChan_gangSize (p : Nat) (f : Channel → Channel) (e0 : Nat) : (s.modChan p f).gangSize e0 = s.gangSize e0 := rfl
@[simp] theorem modChan_leader (p : Nat) (f : Channel → Channel) (e0 : Nat) : (s.modChan p f).leader e0 = s.leader e0 := rfl
@[simp] theorem modChan_members (p : Nat) (f : Channel → Channel) (e0 : Nat) : (s.modChan p f).members e0 = s.members e0 := rfl
@[simp] theorem modChan_domOn (p : Nat) (f : Channel → Channel) (d0 : Nat) : (s.modChan p f).domOn d0 = s.domOn d0 := rfl
@[simp] theorem modChan_live (p : Nat) (f : Channel → Channel) (d0 : Nat) : (s.modChan p f).live d0 = s.live d0 := rfl

/-! ### setFcu -/

@[simp] theorem setFcu_pending (c : Nat) (x : Fcu) : (s.setFcu c x).pending = s.pending := rfl
@[simp] theorem setFcu_free (c : Nat) (x : Fcu) : (s.setFcu c x).free = s.free := rfl
@[simp] theorem setFcu_time (c : Nat) (x : Fcu) : (s.setFcu c x).time = s.time := rfl
@[simp] theorem setFcu_regs (c : Nat) (x : Fcu) : (s.setFcu c x).regs = s.regs := rfl
@[simp] theorem setFcu_work (c : Nat) (x : Fcu) : (s.setFcu c x).work = s.work := rfl
@[simp] theorem setFcu_shadow (c : Nat) (x : Fcu) : (s.setFcu c x).shadow = s.shadow := rfl
@[simp] theorem setFcu_engines (c : Nat) (x : Fcu) : (s.setFcu c x).engines = s.engines := rfl
@[simp] theorem setFcu_chans (c : Nat) (x : Fcu) : (s.setFcu c x).chans = s.chans := rfl
@[simp] theorem setFcu_offs (c : Nat) (x : Fcu) : (s.setFcu c x).offs = s.offs := rfl
@[simp] theorem setFcu_slices (c : Nat) (x : Fcu) : (s.setFcu c x).slices = s.slices := rfl
@[simp] theorem setFcu_slcs (c : Nat) (x : Fcu) : (s.setFcu c x).slcs = s.slcs := rfl
@[simp] theorem setFcu_sbk (c : Nat) (x : Fcu) : (s.setFcu c x).sbk = s.sbk := rfl
@[simp] theorem setFcu_flash (c : Nat) (x : Fcu) : (s.setFcu c x).flash = s.flash := rfl
@[simp] theorem setFcu_smp (c : Nat) (x : Fcu) : (s.setFcu c x).smp = s.smp := rfl
@[simp] theorem setFcu_log (c : Nat) (x : Fcu) : (s.setFcu c x).log = s.log := rfl
@[simp] theorem setFcu_fuses (c : Nat) (x : Fcu) : (s.setFcu c x).fuses = s.fuses := rfl
@[simp] theorem setFcu_frames (c : Nat) (x : Fcu) : (s.setFcu c x).frames = s.frames := rfl
@[simp] theorem setFcu_ffs (c : Nat) (x : Fcu) : (s.setFcu c x).ffs = s.ffs := rfl
@[simp] theorem setFcu_bm (c : Nat) (x : Fcu) : (s.setFcu c x).bm = s.bm := rfl
@[simp] theorem setFcu_bmLast (c : Nat) (x : Fcu) : (s.setFcu c x).bmLast = s.bmLast := rfl
@[simp] theorem setFcu_bmOut (c : Nat) (x : Fcu) : (s.setFcu c x).bmOut = s.bmOut := rfl
@[simp] theorem setFcu_bmRet (c : Nat) (x : Fcu) : (s.setFcu c x).bmRet = s.bmRet := rfl
@[simp] theorem setFcu_arith (c : Nat) (x : Fcu) : (s.setFcu c x).arith = s.arith := rfl
@[simp] theorem setFcu_lineStop (c : Nat) (x : Fcu) : (s.setFcu c x).lineStop = s.lineStop := rfl
@[simp] theorem setFcu_sectors (c : Nat) (x : Fcu) : (s.setFcu c x).sectors = s.sectors := rfl
@[simp] theorem setFcu_loader (c : Nat) (x : Fcu) : (s.setFcu c x).loader = s.loader := rfl
@[simp] theorem setFcu_xacts (c : Nat) (x : Fcu) : (s.setFcu c x).xacts = s.xacts := rfl
@[simp] theorem setFcu_rsps (c : Nat) (x : Fcu) : (s.setFcu c x).rsps = s.rsps := rfl
@[simp] theorem setFcu_xnext (c : Nat) (x : Fcu) : (s.setFcu c x).xnext = s.xnext := rfl
@[simp] theorem setFcu_dram (c : Nat) (x : Fcu) : (s.setFcu c x).dram = s.dram := rfl
@[simp] theorem setFcu_dmcs (c : Nat) (x : Fcu) : (s.setFcu c x).dmcs = s.dmcs := rfl
@[simp] theorem setFcu_ilvLocked (c : Nat) (x : Fcu) : (s.setFcu c x).ilvLocked = s.ilvLocked := rfl
@[simp] theorem setFcu_ice (c : Nat) (x : Fcu) : (s.setFcu c x).ice = s.ice := rfl
@[simp] theorem setFcu_lanes (c : Nat) (x : Fcu) : (s.setFcu c x).lanes = s.lanes := rfl
@[simp] theorem setFcu_bridges (c : Nat) (x : Fcu) : (s.setFcu c x).bridges = s.bridges := rfl
@[simp] theorem setFcu_tb (c : Nat) (x : Fcu) : (s.setFcu c x).tb = s.tb := rfl
@[simp] theorem setFcu_flights (c : Nat) (x : Fcu) : (s.setFcu c x).flights = s.flights := rfl
@[simp] theorem setFcu_fnext (c : Nat) (x : Fcu) : (s.setFcu c x).fnext = s.fnext := rfl
@[simp] theorem setFcu_nis (c : Nat) (x : Fcu) : (s.setFcu c x).nis = s.nis := rfl
@[simp] theorem setFcu_arbs (c : Nat) (x : Fcu) : (s.setFcu c x).arbs = s.arbs := rfl
@[simp] theorem setFcu_rtc (c : Nat) (x : Fcu) : (s.setFcu c x).rtc = s.rtc := rfl
@[simp] theorem setFcu_temps (c : Nat) (x : Fcu) : (s.setFcu c x).temps = s.temps := rfl
@[simp] theorem setFcu_mb (c : Nat) (x : Fcu) : (s.setFcu c x).mb = s.mb := rfl
@[simp] theorem setFcu_pwr (c : Nat) (x : Fcu) : (s.setFcu c x).pwr = s.pwr := rfl
@[simp] theorem setFcu_io (c : Nat) (x : Fcu) : (s.setFcu c x).io = s.io := rfl
@[simp] theorem setFcu_harts (c : Nat) (x : Fcu) : (s.setFcu c x).harts = s.harts := rfl
@[simp] theorem setFcu_caches (c : Nat) (x : Fcu) : (s.setFcu c x).caches = s.caches := rfl
@[simp] theorem setFcu_dbg (c : Nat) (x : Fcu) : (s.setFcu c x).dbg = s.dbg := rfl
@[simp] theorem setFcu_err (c : Nat) (x : Fcu) : (s.setFcu c x).err = s.err := rfl
@[simp] theorem setFcu_plic (c : Nat) (x : Fcu) : (s.setFcu c x).plic = s.plic := rfl
@[simp] theorem setFcu_eng (c : Nat) (x : Fcu) (e0 : Nat) : (s.setFcu c x).eng e0 = s.eng e0 := rfl
@[simp] theorem setFcu_chan (c : Nat) (x : Fcu) (p0 : Nat) : (s.setFcu c x).chan p0 = s.chan p0 := rfl
@[simp] theorem setFcu_slc (c : Nat) (x : Fcu) (n0 : Nat) : (s.setFcu c x).slc n0 = s.slc n0 := rfl
@[simp] theorem setFcu_reg (c : Nat) (x : Fcu) (r0 : RegId) (i0 j0 k0 : Nat) : (s.setFcu c x).reg r0 i0 j0 k0 = s.reg r0 i0 j0 k0 := rfl
@[simp] theorem setFcu_shadowReg (c : Nat) (x : Fcu) (r0 : RegId) (i0 j0 k0 : Nat) : (s.setFcu c x).shadowReg r0 i0 j0 k0 = s.shadowReg r0 i0 j0 k0 := rfl
@[simp] theorem setFcu_fld (c : Nat) (x : Fcu) (f0 : Fld) (i0 j0 k0 : Nat) : (s.setFcu c x).fld f0 i0 j0 k0 = s.fld f0 i0 j0 k0 := rfl
@[simp] theorem setFcu_flag (c : Nat) (x : Fcu) (f0 : Fld) (i0 j0 k0 : Nat) : (s.setFcu c x).flag f0 i0 j0 k0 = s.flag f0 i0 j0 k0 := rfl
@[simp] theorem setFcu_sfld (c : Nat) (x : Fcu) (f0 : Fld) (i0 j0 k0 : Nat) : (s.setFcu c x).sfld f0 i0 j0 k0 = s.sfld f0 i0 j0 k0 := rfl
@[simp] theorem setFcu_cell (c : Nat) (x : Fcu) (n0 j0 : Nat) : (s.setFcu c x).cell n0 j0 = s.cell n0 j0 := rfl
@[simp] theorem setFcu_now (c : Nat) (x : Fcu) : (s.setFcu c x).now = s.now := rfl
@[simp] theorem setFcu_gangSize (c : Nat) (x : Fcu) (e0 : Nat) : (s.setFcu c x).gangSize e0 = s.gangSize e0 := rfl
@[simp] theorem setFcu_leader (c : Nat) (x : Fcu) (e0 : Nat) : (s.setFcu c x).leader e0 = s.leader e0 := rfl
@[simp] theorem setFcu_members (c : Nat) (x : Fcu) (e0 : Nat) : (s.setFcu c x).members e0 = s.members e0 := rfl
@[simp] theorem setFcu_domOn (c : Nat) (x : Fcu) (d0 : Nat) : (s.setFcu c x).domOn d0 = s.domOn d0 := rfl
@[simp] theorem setFcu_live (c : Nat) (x : Fcu) (d0 : Nat) : (s.setFcu c x).live d0 = s.live d0 := rfl

/-! ### modFcu -/

@[simp] theorem modFcu_pending (c : Nat) (f : Fcu → Fcu) : (s.modFcu c f).pending = s.pending := rfl
@[simp] theorem modFcu_free (c : Nat) (f : Fcu → Fcu) : (s.modFcu c f).free = s.free := rfl
@[simp] theorem modFcu_time (c : Nat) (f : Fcu → Fcu) : (s.modFcu c f).time = s.time := rfl
@[simp] theorem modFcu_regs (c : Nat) (f : Fcu → Fcu) : (s.modFcu c f).regs = s.regs := rfl
@[simp] theorem modFcu_work (c : Nat) (f : Fcu → Fcu) : (s.modFcu c f).work = s.work := rfl
@[simp] theorem modFcu_shadow (c : Nat) (f : Fcu → Fcu) : (s.modFcu c f).shadow = s.shadow := rfl
@[simp] theorem modFcu_engines (c : Nat) (f : Fcu → Fcu) : (s.modFcu c f).engines = s.engines := rfl
@[simp] theorem modFcu_chans (c : Nat) (f : Fcu → Fcu) : (s.modFcu c f).chans = s.chans := rfl
@[simp] theorem modFcu_offs (c : Nat) (f : Fcu → Fcu) : (s.modFcu c f).offs = s.offs := rfl
@[simp] theorem modFcu_slices (c : Nat) (f : Fcu → Fcu) : (s.modFcu c f).slices = s.slices := rfl
@[simp] theorem modFcu_slcs (c : Nat) (f : Fcu → Fcu) : (s.modFcu c f).slcs = s.slcs := rfl
@[simp] theorem modFcu_sbk (c : Nat) (f : Fcu → Fcu) : (s.modFcu c f).sbk = s.sbk := rfl
@[simp] theorem modFcu_flash (c : Nat) (f : Fcu → Fcu) : (s.modFcu c f).flash = s.flash := rfl
@[simp] theorem modFcu_smp (c : Nat) (f : Fcu → Fcu) : (s.modFcu c f).smp = s.smp := rfl
@[simp] theorem modFcu_log (c : Nat) (f : Fcu → Fcu) : (s.modFcu c f).log = s.log := rfl
@[simp] theorem modFcu_fuses (c : Nat) (f : Fcu → Fcu) : (s.modFcu c f).fuses = s.fuses := rfl
@[simp] theorem modFcu_frames (c : Nat) (f : Fcu → Fcu) : (s.modFcu c f).frames = s.frames := rfl
@[simp] theorem modFcu_ffs (c : Nat) (f : Fcu → Fcu) : (s.modFcu c f).ffs = s.ffs := rfl
@[simp] theorem modFcu_bm (c : Nat) (f : Fcu → Fcu) : (s.modFcu c f).bm = s.bm := rfl
@[simp] theorem modFcu_bmLast (c : Nat) (f : Fcu → Fcu) : (s.modFcu c f).bmLast = s.bmLast := rfl
@[simp] theorem modFcu_bmOut (c : Nat) (f : Fcu → Fcu) : (s.modFcu c f).bmOut = s.bmOut := rfl
@[simp] theorem modFcu_bmRet (c : Nat) (f : Fcu → Fcu) : (s.modFcu c f).bmRet = s.bmRet := rfl
@[simp] theorem modFcu_arith (c : Nat) (f : Fcu → Fcu) : (s.modFcu c f).arith = s.arith := rfl
@[simp] theorem modFcu_lineStop (c : Nat) (f : Fcu → Fcu) : (s.modFcu c f).lineStop = s.lineStop := rfl
@[simp] theorem modFcu_sectors (c : Nat) (f : Fcu → Fcu) : (s.modFcu c f).sectors = s.sectors := rfl
@[simp] theorem modFcu_loader (c : Nat) (f : Fcu → Fcu) : (s.modFcu c f).loader = s.loader := rfl
@[simp] theorem modFcu_xacts (c : Nat) (f : Fcu → Fcu) : (s.modFcu c f).xacts = s.xacts := rfl
@[simp] theorem modFcu_rsps (c : Nat) (f : Fcu → Fcu) : (s.modFcu c f).rsps = s.rsps := rfl
@[simp] theorem modFcu_xnext (c : Nat) (f : Fcu → Fcu) : (s.modFcu c f).xnext = s.xnext := rfl
@[simp] theorem modFcu_dram (c : Nat) (f : Fcu → Fcu) : (s.modFcu c f).dram = s.dram := rfl
@[simp] theorem modFcu_dmcs (c : Nat) (f : Fcu → Fcu) : (s.modFcu c f).dmcs = s.dmcs := rfl
@[simp] theorem modFcu_ilvLocked (c : Nat) (f : Fcu → Fcu) : (s.modFcu c f).ilvLocked = s.ilvLocked := rfl
@[simp] theorem modFcu_ice (c : Nat) (f : Fcu → Fcu) : (s.modFcu c f).ice = s.ice := rfl
@[simp] theorem modFcu_lanes (c : Nat) (f : Fcu → Fcu) : (s.modFcu c f).lanes = s.lanes := rfl
@[simp] theorem modFcu_bridges (c : Nat) (f : Fcu → Fcu) : (s.modFcu c f).bridges = s.bridges := rfl
@[simp] theorem modFcu_tb (c : Nat) (f : Fcu → Fcu) : (s.modFcu c f).tb = s.tb := rfl
@[simp] theorem modFcu_flights (c : Nat) (f : Fcu → Fcu) : (s.modFcu c f).flights = s.flights := rfl
@[simp] theorem modFcu_fnext (c : Nat) (f : Fcu → Fcu) : (s.modFcu c f).fnext = s.fnext := rfl
@[simp] theorem modFcu_nis (c : Nat) (f : Fcu → Fcu) : (s.modFcu c f).nis = s.nis := rfl
@[simp] theorem modFcu_arbs (c : Nat) (f : Fcu → Fcu) : (s.modFcu c f).arbs = s.arbs := rfl
@[simp] theorem modFcu_rtc (c : Nat) (f : Fcu → Fcu) : (s.modFcu c f).rtc = s.rtc := rfl
@[simp] theorem modFcu_temps (c : Nat) (f : Fcu → Fcu) : (s.modFcu c f).temps = s.temps := rfl
@[simp] theorem modFcu_mb (c : Nat) (f : Fcu → Fcu) : (s.modFcu c f).mb = s.mb := rfl
@[simp] theorem modFcu_pwr (c : Nat) (f : Fcu → Fcu) : (s.modFcu c f).pwr = s.pwr := rfl
@[simp] theorem modFcu_io (c : Nat) (f : Fcu → Fcu) : (s.modFcu c f).io = s.io := rfl
@[simp] theorem modFcu_harts (c : Nat) (f : Fcu → Fcu) : (s.modFcu c f).harts = s.harts := rfl
@[simp] theorem modFcu_caches (c : Nat) (f : Fcu → Fcu) : (s.modFcu c f).caches = s.caches := rfl
@[simp] theorem modFcu_dbg (c : Nat) (f : Fcu → Fcu) : (s.modFcu c f).dbg = s.dbg := rfl
@[simp] theorem modFcu_err (c : Nat) (f : Fcu → Fcu) : (s.modFcu c f).err = s.err := rfl
@[simp] theorem modFcu_plic (c : Nat) (f : Fcu → Fcu) : (s.modFcu c f).plic = s.plic := rfl
@[simp] theorem modFcu_eng (c : Nat) (f : Fcu → Fcu) (e0 : Nat) : (s.modFcu c f).eng e0 = s.eng e0 := rfl
@[simp] theorem modFcu_chan (c : Nat) (f : Fcu → Fcu) (p0 : Nat) : (s.modFcu c f).chan p0 = s.chan p0 := rfl
@[simp] theorem modFcu_slc (c : Nat) (f : Fcu → Fcu) (n0 : Nat) : (s.modFcu c f).slc n0 = s.slc n0 := rfl
@[simp] theorem modFcu_reg (c : Nat) (f : Fcu → Fcu) (r0 : RegId) (i0 j0 k0 : Nat) : (s.modFcu c f).reg r0 i0 j0 k0 = s.reg r0 i0 j0 k0 := rfl
@[simp] theorem modFcu_shadowReg (c : Nat) (f : Fcu → Fcu) (r0 : RegId) (i0 j0 k0 : Nat) : (s.modFcu c f).shadowReg r0 i0 j0 k0 = s.shadowReg r0 i0 j0 k0 := rfl
@[simp] theorem modFcu_fld (c : Nat) (f : Fcu → Fcu) (f0 : Fld) (i0 j0 k0 : Nat) : (s.modFcu c f).fld f0 i0 j0 k0 = s.fld f0 i0 j0 k0 := rfl
@[simp] theorem modFcu_flag (c : Nat) (f : Fcu → Fcu) (f0 : Fld) (i0 j0 k0 : Nat) : (s.modFcu c f).flag f0 i0 j0 k0 = s.flag f0 i0 j0 k0 := rfl
@[simp] theorem modFcu_sfld (c : Nat) (f : Fcu → Fcu) (f0 : Fld) (i0 j0 k0 : Nat) : (s.modFcu c f).sfld f0 i0 j0 k0 = s.sfld f0 i0 j0 k0 := rfl
@[simp] theorem modFcu_cell (c : Nat) (f : Fcu → Fcu) (n0 j0 : Nat) : (s.modFcu c f).cell n0 j0 = s.cell n0 j0 := rfl
@[simp] theorem modFcu_now (c : Nat) (f : Fcu → Fcu) : (s.modFcu c f).now = s.now := rfl
@[simp] theorem modFcu_gangSize (c : Nat) (f : Fcu → Fcu) (e0 : Nat) : (s.modFcu c f).gangSize e0 = s.gangSize e0 := rfl
@[simp] theorem modFcu_leader (c : Nat) (f : Fcu → Fcu) (e0 : Nat) : (s.modFcu c f).leader e0 = s.leader e0 := rfl
@[simp] theorem modFcu_members (c : Nat) (f : Fcu → Fcu) (e0 : Nat) : (s.modFcu c f).members e0 = s.members e0 := rfl
@[simp] theorem modFcu_domOn (c : Nat) (f : Fcu → Fcu) (d0 : Nat) : (s.modFcu c f).domOn d0 = s.domOn d0 := rfl
@[simp] theorem modFcu_live (c : Nat) (f : Fcu → Fcu) (d0 : Nat) : (s.modFcu c f).live d0 = s.live d0 := rfl

/-! ### modSlc -/

@[simp] theorem modSlc_pending (n : Nat) (f : Slc → Slc) : (s.modSlc n f).pending = s.pending := rfl
@[simp] theorem modSlc_free (n : Nat) (f : Slc → Slc) : (s.modSlc n f).free = s.free := rfl
@[simp] theorem modSlc_time (n : Nat) (f : Slc → Slc) : (s.modSlc n f).time = s.time := rfl
@[simp] theorem modSlc_regs (n : Nat) (f : Slc → Slc) : (s.modSlc n f).regs = s.regs := rfl
@[simp] theorem modSlc_work (n : Nat) (f : Slc → Slc) : (s.modSlc n f).work = s.work := rfl
@[simp] theorem modSlc_shadow (n : Nat) (f : Slc → Slc) : (s.modSlc n f).shadow = s.shadow := rfl
@[simp] theorem modSlc_engines (n : Nat) (f : Slc → Slc) : (s.modSlc n f).engines = s.engines := rfl
@[simp] theorem modSlc_chans (n : Nat) (f : Slc → Slc) : (s.modSlc n f).chans = s.chans := rfl
@[simp] theorem modSlc_offs (n : Nat) (f : Slc → Slc) : (s.modSlc n f).offs = s.offs := rfl
@[simp] theorem modSlc_fcus (n : Nat) (f : Slc → Slc) : (s.modSlc n f).fcus = s.fcus := rfl
@[simp] theorem modSlc_slices (n : Nat) (f : Slc → Slc) : (s.modSlc n f).slices = s.slices := rfl
@[simp] theorem modSlc_sbk (n : Nat) (f : Slc → Slc) : (s.modSlc n f).sbk = s.sbk := rfl
@[simp] theorem modSlc_flash (n : Nat) (f : Slc → Slc) : (s.modSlc n f).flash = s.flash := rfl
@[simp] theorem modSlc_smp (n : Nat) (f : Slc → Slc) : (s.modSlc n f).smp = s.smp := rfl
@[simp] theorem modSlc_log (n : Nat) (f : Slc → Slc) : (s.modSlc n f).log = s.log := rfl
@[simp] theorem modSlc_fuses (n : Nat) (f : Slc → Slc) : (s.modSlc n f).fuses = s.fuses := rfl
@[simp] theorem modSlc_frames (n : Nat) (f : Slc → Slc) : (s.modSlc n f).frames = s.frames := rfl
@[simp] theorem modSlc_ffs (n : Nat) (f : Slc → Slc) : (s.modSlc n f).ffs = s.ffs := rfl
@[simp] theorem modSlc_bm (n : Nat) (f : Slc → Slc) : (s.modSlc n f).bm = s.bm := rfl
@[simp] theorem modSlc_bmLast (n : Nat) (f : Slc → Slc) : (s.modSlc n f).bmLast = s.bmLast := rfl
@[simp] theorem modSlc_bmOut (n : Nat) (f : Slc → Slc) : (s.modSlc n f).bmOut = s.bmOut := rfl
@[simp] theorem modSlc_bmRet (n : Nat) (f : Slc → Slc) : (s.modSlc n f).bmRet = s.bmRet := rfl
@[simp] theorem modSlc_arith (n : Nat) (f : Slc → Slc) : (s.modSlc n f).arith = s.arith := rfl
@[simp] theorem modSlc_lineStop (n : Nat) (f : Slc → Slc) : (s.modSlc n f).lineStop = s.lineStop := rfl
@[simp] theorem modSlc_sectors (n : Nat) (f : Slc → Slc) : (s.modSlc n f).sectors = s.sectors := rfl
@[simp] theorem modSlc_loader (n : Nat) (f : Slc → Slc) : (s.modSlc n f).loader = s.loader := rfl
@[simp] theorem modSlc_xacts (n : Nat) (f : Slc → Slc) : (s.modSlc n f).xacts = s.xacts := rfl
@[simp] theorem modSlc_rsps (n : Nat) (f : Slc → Slc) : (s.modSlc n f).rsps = s.rsps := rfl
@[simp] theorem modSlc_xnext (n : Nat) (f : Slc → Slc) : (s.modSlc n f).xnext = s.xnext := rfl
@[simp] theorem modSlc_dram (n : Nat) (f : Slc → Slc) : (s.modSlc n f).dram = s.dram := rfl
@[simp] theorem modSlc_dmcs (n : Nat) (f : Slc → Slc) : (s.modSlc n f).dmcs = s.dmcs := rfl
@[simp] theorem modSlc_ilvLocked (n : Nat) (f : Slc → Slc) : (s.modSlc n f).ilvLocked = s.ilvLocked := rfl
@[simp] theorem modSlc_ice (n : Nat) (f : Slc → Slc) : (s.modSlc n f).ice = s.ice := rfl
@[simp] theorem modSlc_lanes (n : Nat) (f : Slc → Slc) : (s.modSlc n f).lanes = s.lanes := rfl
@[simp] theorem modSlc_bridges (n : Nat) (f : Slc → Slc) : (s.modSlc n f).bridges = s.bridges := rfl
@[simp] theorem modSlc_tb (n : Nat) (f : Slc → Slc) : (s.modSlc n f).tb = s.tb := rfl
@[simp] theorem modSlc_flights (n : Nat) (f : Slc → Slc) : (s.modSlc n f).flights = s.flights := rfl
@[simp] theorem modSlc_fnext (n : Nat) (f : Slc → Slc) : (s.modSlc n f).fnext = s.fnext := rfl
@[simp] theorem modSlc_nis (n : Nat) (f : Slc → Slc) : (s.modSlc n f).nis = s.nis := rfl
@[simp] theorem modSlc_arbs (n : Nat) (f : Slc → Slc) : (s.modSlc n f).arbs = s.arbs := rfl
@[simp] theorem modSlc_rtc (n : Nat) (f : Slc → Slc) : (s.modSlc n f).rtc = s.rtc := rfl
@[simp] theorem modSlc_temps (n : Nat) (f : Slc → Slc) : (s.modSlc n f).temps = s.temps := rfl
@[simp] theorem modSlc_mb (n : Nat) (f : Slc → Slc) : (s.modSlc n f).mb = s.mb := rfl
@[simp] theorem modSlc_pwr (n : Nat) (f : Slc → Slc) : (s.modSlc n f).pwr = s.pwr := rfl
@[simp] theorem modSlc_io (n : Nat) (f : Slc → Slc) : (s.modSlc n f).io = s.io := rfl
@[simp] theorem modSlc_harts (n : Nat) (f : Slc → Slc) : (s.modSlc n f).harts = s.harts := rfl
@[simp] theorem modSlc_caches (n : Nat) (f : Slc → Slc) : (s.modSlc n f).caches = s.caches := rfl
@[simp] theorem modSlc_dbg (n : Nat) (f : Slc → Slc) : (s.modSlc n f).dbg = s.dbg := rfl
@[simp] theorem modSlc_err (n : Nat) (f : Slc → Slc) : (s.modSlc n f).err = s.err := rfl
@[simp] theorem modSlc_plic (n : Nat) (f : Slc → Slc) : (s.modSlc n f).plic = s.plic := rfl
@[simp] theorem modSlc_eng (n : Nat) (f : Slc → Slc) (e0 : Nat) : (s.modSlc n f).eng e0 = s.eng e0 := rfl
@[simp] theorem modSlc_chan (n : Nat) (f : Slc → Slc) (p0 : Nat) : (s.modSlc n f).chan p0 = s.chan p0 := rfl
@[simp] theorem modSlc_fcu (n : Nat) (f : Slc → Slc) (c0 : Nat) : (s.modSlc n f).fcu c0 = s.fcu c0 := rfl
@[simp] theorem modSlc_reg (n : Nat) (f : Slc → Slc) (r0 : RegId) (i0 j0 k0 : Nat) : (s.modSlc n f).reg r0 i0 j0 k0 = s.reg r0 i0 j0 k0 := rfl
@[simp] theorem modSlc_shadowReg (n : Nat) (f : Slc → Slc) (r0 : RegId) (i0 j0 k0 : Nat) : (s.modSlc n f).shadowReg r0 i0 j0 k0 = s.shadowReg r0 i0 j0 k0 := rfl
@[simp] theorem modSlc_fld (n : Nat) (f : Slc → Slc) (f0 : Fld) (i0 j0 k0 : Nat) : (s.modSlc n f).fld f0 i0 j0 k0 = s.fld f0 i0 j0 k0 := rfl
@[simp] theorem modSlc_flag (n : Nat) (f : Slc → Slc) (f0 : Fld) (i0 j0 k0 : Nat) : (s.modSlc n f).flag f0 i0 j0 k0 = s.flag f0 i0 j0 k0 := rfl
@[simp] theorem modSlc_sfld (n : Nat) (f : Slc → Slc) (f0 : Fld) (i0 j0 k0 : Nat) : (s.modSlc n f).sfld f0 i0 j0 k0 = s.sfld f0 i0 j0 k0 := rfl
@[simp] theorem modSlc_cell (n : Nat) (f : Slc → Slc) (n0 j0 : Nat) : (s.modSlc n f).cell n0 j0 = s.cell n0 j0 := rfl
@[simp] theorem modSlc_now (n : Nat) (f : Slc → Slc) : (s.modSlc n f).now = s.now := rfl
@[simp] theorem modSlc_gangSize (n : Nat) (f : Slc → Slc) (e0 : Nat) : (s.modSlc n f).gangSize e0 = s.gangSize e0 := rfl
@[simp] theorem modSlc_leader (n : Nat) (f : Slc → Slc) (e0 : Nat) : (s.modSlc n f).leader e0 = s.leader e0 := rfl
@[simp] theorem modSlc_members (n : Nat) (f : Slc → Slc) (e0 : Nat) : (s.modSlc n f).members e0 = s.members e0 := rfl
@[simp] theorem modSlc_domOn (n : Nat) (f : Slc → Slc) (d0 : Nat) : (s.modSlc n f).domOn d0 = s.domOn d0 := rfl
@[simp] theorem modSlc_live (n : Nat) (f : Slc → Slc) (d0 : Nat) : (s.modSlc n f).live d0 = s.live d0 := rfl

/-! ### setCell -/

@[simp] theorem setCell_pending (n j : Nat) (c : Code64) : (s.setCell n j c).pending = s.pending := rfl
@[simp] theorem setCell_free (n j : Nat) (c : Code64) : (s.setCell n j c).free = s.free := rfl
@[simp] theorem setCell_time (n j : Nat) (c : Code64) : (s.setCell n j c).time = s.time := rfl
@[simp] theorem setCell_regs (n j : Nat) (c : Code64) : (s.setCell n j c).regs = s.regs := rfl
@[simp] theorem setCell_work (n j : Nat) (c : Code64) : (s.setCell n j c).work = s.work := rfl
@[simp] theorem setCell_shadow (n j : Nat) (c : Code64) : (s.setCell n j c).shadow = s.shadow := rfl
@[simp] theorem setCell_engines (n j : Nat) (c : Code64) : (s.setCell n j c).engines = s.engines := rfl
@[simp] theorem setCell_chans (n j : Nat) (c : Code64) : (s.setCell n j c).chans = s.chans := rfl
@[simp] theorem setCell_offs (n j : Nat) (c : Code64) : (s.setCell n j c).offs = s.offs := rfl
@[simp] theorem setCell_fcus (n j : Nat) (c : Code64) : (s.setCell n j c).fcus = s.fcus := rfl
@[simp] theorem setCell_slcs (n j : Nat) (c : Code64) : (s.setCell n j c).slcs = s.slcs := rfl
@[simp] theorem setCell_sbk (n j : Nat) (c : Code64) : (s.setCell n j c).sbk = s.sbk := rfl
@[simp] theorem setCell_flash (n j : Nat) (c : Code64) : (s.setCell n j c).flash = s.flash := rfl
@[simp] theorem setCell_smp (n j : Nat) (c : Code64) : (s.setCell n j c).smp = s.smp := rfl
@[simp] theorem setCell_log (n j : Nat) (c : Code64) : (s.setCell n j c).log = s.log := rfl
@[simp] theorem setCell_fuses (n j : Nat) (c : Code64) : (s.setCell n j c).fuses = s.fuses := rfl
@[simp] theorem setCell_frames (n j : Nat) (c : Code64) : (s.setCell n j c).frames = s.frames := rfl
@[simp] theorem setCell_ffs (n j : Nat) (c : Code64) : (s.setCell n j c).ffs = s.ffs := rfl
@[simp] theorem setCell_bm (n j : Nat) (c : Code64) : (s.setCell n j c).bm = s.bm := rfl
@[simp] theorem setCell_bmLast (n j : Nat) (c : Code64) : (s.setCell n j c).bmLast = s.bmLast := rfl
@[simp] theorem setCell_bmOut (n j : Nat) (c : Code64) : (s.setCell n j c).bmOut = s.bmOut := rfl
@[simp] theorem setCell_bmRet (n j : Nat) (c : Code64) : (s.setCell n j c).bmRet = s.bmRet := rfl
@[simp] theorem setCell_arith (n j : Nat) (c : Code64) : (s.setCell n j c).arith = s.arith := rfl
@[simp] theorem setCell_lineStop (n j : Nat) (c : Code64) : (s.setCell n j c).lineStop = s.lineStop := rfl
@[simp] theorem setCell_sectors (n j : Nat) (c : Code64) : (s.setCell n j c).sectors = s.sectors := rfl
@[simp] theorem setCell_loader (n j : Nat) (c : Code64) : (s.setCell n j c).loader = s.loader := rfl
@[simp] theorem setCell_xacts (n j : Nat) (c : Code64) : (s.setCell n j c).xacts = s.xacts := rfl
@[simp] theorem setCell_rsps (n j : Nat) (c : Code64) : (s.setCell n j c).rsps = s.rsps := rfl
@[simp] theorem setCell_xnext (n j : Nat) (c : Code64) : (s.setCell n j c).xnext = s.xnext := rfl
@[simp] theorem setCell_dram (n j : Nat) (c : Code64) : (s.setCell n j c).dram = s.dram := rfl
@[simp] theorem setCell_dmcs (n j : Nat) (c : Code64) : (s.setCell n j c).dmcs = s.dmcs := rfl
@[simp] theorem setCell_ilvLocked (n j : Nat) (c : Code64) : (s.setCell n j c).ilvLocked = s.ilvLocked := rfl
@[simp] theorem setCell_ice (n j : Nat) (c : Code64) : (s.setCell n j c).ice = s.ice := rfl
@[simp] theorem setCell_lanes (n j : Nat) (c : Code64) : (s.setCell n j c).lanes = s.lanes := rfl
@[simp] theorem setCell_bridges (n j : Nat) (c : Code64) : (s.setCell n j c).bridges = s.bridges := rfl
@[simp] theorem setCell_tb (n j : Nat) (c : Code64) : (s.setCell n j c).tb = s.tb := rfl
@[simp] theorem setCell_flights (n j : Nat) (c : Code64) : (s.setCell n j c).flights = s.flights := rfl
@[simp] theorem setCell_fnext (n j : Nat) (c : Code64) : (s.setCell n j c).fnext = s.fnext := rfl
@[simp] theorem setCell_nis (n j : Nat) (c : Code64) : (s.setCell n j c).nis = s.nis := rfl
@[simp] theorem setCell_arbs (n j : Nat) (c : Code64) : (s.setCell n j c).arbs = s.arbs := rfl
@[simp] theorem setCell_rtc (n j : Nat) (c : Code64) : (s.setCell n j c).rtc = s.rtc := rfl
@[simp] theorem setCell_temps (n j : Nat) (c : Code64) : (s.setCell n j c).temps = s.temps := rfl
@[simp] theorem setCell_mb (n j : Nat) (c : Code64) : (s.setCell n j c).mb = s.mb := rfl
@[simp] theorem setCell_pwr (n j : Nat) (c : Code64) : (s.setCell n j c).pwr = s.pwr := rfl
@[simp] theorem setCell_io (n j : Nat) (c : Code64) : (s.setCell n j c).io = s.io := rfl
@[simp] theorem setCell_harts (n j : Nat) (c : Code64) : (s.setCell n j c).harts = s.harts := rfl
@[simp] theorem setCell_caches (n j : Nat) (c : Code64) : (s.setCell n j c).caches = s.caches := rfl
@[simp] theorem setCell_dbg (n j : Nat) (c : Code64) : (s.setCell n j c).dbg = s.dbg := rfl
@[simp] theorem setCell_err (n j : Nat) (c : Code64) : (s.setCell n j c).err = s.err := rfl
@[simp] theorem setCell_plic (n j : Nat) (c : Code64) : (s.setCell n j c).plic = s.plic := rfl
@[simp] theorem setCell_eng (n j : Nat) (c : Code64) (e0 : Nat) : (s.setCell n j c).eng e0 = s.eng e0 := rfl
@[simp] theorem setCell_chan (n j : Nat) (c : Code64) (p0 : Nat) : (s.setCell n j c).chan p0 = s.chan p0 := rfl
@[simp] theorem setCell_fcu (n j : Nat) (c : Code64) (c0 : Nat) : (s.setCell n j c).fcu c0 = s.fcu c0 := rfl
@[simp] theorem setCell_slc (n j : Nat) (c : Code64) (n0 : Nat) : (s.setCell n j c).slc n0 = s.slc n0 := rfl
@[simp] theorem setCell_reg (n j : Nat) (c : Code64) (r0 : RegId) (i0 j0 k0 : Nat) : (s.setCell n j c).reg r0 i0 j0 k0 = s.reg r0 i0 j0 k0 := rfl
@[simp] theorem setCell_shadowReg (n j : Nat) (c : Code64) (r0 : RegId) (i0 j0 k0 : Nat) : (s.setCell n j c).shadowReg r0 i0 j0 k0 = s.shadowReg r0 i0 j0 k0 := rfl
@[simp] theorem setCell_fld (n j : Nat) (c : Code64) (f0 : Fld) (i0 j0 k0 : Nat) : (s.setCell n j c).fld f0 i0 j0 k0 = s.fld f0 i0 j0 k0 := rfl
@[simp] theorem setCell_flag (n j : Nat) (c : Code64) (f0 : Fld) (i0 j0 k0 : Nat) : (s.setCell n j c).flag f0 i0 j0 k0 = s.flag f0 i0 j0 k0 := rfl
@[simp] theorem setCell_sfld (n j : Nat) (c : Code64) (f0 : Fld) (i0 j0 k0 : Nat) : (s.setCell n j c).sfld f0 i0 j0 k0 = s.sfld f0 i0 j0 k0 := rfl
@[simp] theorem setCell_now (n j : Nat) (c : Code64) : (s.setCell n j c).now = s.now := rfl
@[simp] theorem setCell_gangSize (n j : Nat) (c : Code64) (e0 : Nat) : (s.setCell n j c).gangSize e0 = s.gangSize e0 := rfl
@[simp] theorem setCell_leader (n j : Nat) (c : Code64) (e0 : Nat) : (s.setCell n j c).leader e0 = s.leader e0 := rfl
@[simp] theorem setCell_members (n j : Nat) (c : Code64) (e0 : Nat) : (s.setCell n j c).members e0 = s.members e0 := rfl
@[simp] theorem setCell_domOn (n j : Nat) (c : Code64) (d0 : Nat) : (s.setCell n j c).domOn d0 = s.domOn d0 := rfl
@[simp] theorem setCell_live (n j : Nat) (c : Code64) (d0 : Nat) : (s.setCell n j c).live d0 = s.live d0 := rfl

/-! ### setBankCell -/

@[simp] theorem setBankCell_pending (j : Nat) (c : Code64) : (s.setBankCell j c).pending = s.pending := rfl
@[simp] theorem setBankCell_free (j : Nat) (c : Code64) : (s.setBankCell j c).free = s.free := rfl
@[simp] theorem setBankCell_time (j : Nat) (c : Code64) : (s.setBankCell j c).time = s.time := rfl
@[simp] theorem setBankCell_regs (j : Nat) (c : Code64) : (s.setBankCell j c).regs = s.regs := rfl
@[simp] theorem setBankCell_work (j : Nat) (c : Code64) : (s.setBankCell j c).work = s.work := rfl
@[simp] theorem setBankCell_shadow (j : Nat) (c : Code64) : (s.setBankCell j c).shadow = s.shadow := rfl
@[simp] theorem setBankCell_engines (j : Nat) (c : Code64) : (s.setBankCell j c).engines = s.engines := rfl
@[simp] theorem setBankCell_chans (j : Nat) (c : Code64) : (s.setBankCell j c).chans = s.chans := rfl
@[simp] theorem setBankCell_offs (j : Nat) (c : Code64) : (s.setBankCell j c).offs = s.offs := rfl
@[simp] theorem setBankCell_fcus (j : Nat) (c : Code64) : (s.setBankCell j c).fcus = s.fcus := rfl
@[simp] theorem setBankCell_slices (j : Nat) (c : Code64) : (s.setBankCell j c).slices = s.slices := rfl
@[simp] theorem setBankCell_slcs (j : Nat) (c : Code64) : (s.setBankCell j c).slcs = s.slcs := rfl
@[simp] theorem setBankCell_flash (j : Nat) (c : Code64) : (s.setBankCell j c).flash = s.flash := rfl
@[simp] theorem setBankCell_smp (j : Nat) (c : Code64) : (s.setBankCell j c).smp = s.smp := rfl
@[simp] theorem setBankCell_log (j : Nat) (c : Code64) : (s.setBankCell j c).log = s.log := rfl
@[simp] theorem setBankCell_fuses (j : Nat) (c : Code64) : (s.setBankCell j c).fuses = s.fuses := rfl
@[simp] theorem setBankCell_frames (j : Nat) (c : Code64) : (s.setBankCell j c).frames = s.frames := rfl
@[simp] theorem setBankCell_ffs (j : Nat) (c : Code64) : (s.setBankCell j c).ffs = s.ffs := rfl
@[simp] theorem setBankCell_bm (j : Nat) (c : Code64) : (s.setBankCell j c).bm = s.bm := rfl
@[simp] theorem setBankCell_bmLast (j : Nat) (c : Code64) : (s.setBankCell j c).bmLast = s.bmLast := rfl
@[simp] theorem setBankCell_bmOut (j : Nat) (c : Code64) : (s.setBankCell j c).bmOut = s.bmOut := rfl
@[simp] theorem setBankCell_bmRet (j : Nat) (c : Code64) : (s.setBankCell j c).bmRet = s.bmRet := rfl
@[simp] theorem setBankCell_arith (j : Nat) (c : Code64) : (s.setBankCell j c).arith = s.arith := rfl
@[simp] theorem setBankCell_lineStop (j : Nat) (c : Code64) : (s.setBankCell j c).lineStop = s.lineStop := rfl
@[simp] theorem setBankCell_sectors (j : Nat) (c : Code64) : (s.setBankCell j c).sectors = s.sectors := rfl
@[simp] theorem setBankCell_loader (j : Nat) (c : Code64) : (s.setBankCell j c).loader = s.loader := rfl
@[simp] theorem setBankCell_xacts (j : Nat) (c : Code64) : (s.setBankCell j c).xacts = s.xacts := rfl
@[simp] theorem setBankCell_rsps (j : Nat) (c : Code64) : (s.setBankCell j c).rsps = s.rsps := rfl
@[simp] theorem setBankCell_xnext (j : Nat) (c : Code64) : (s.setBankCell j c).xnext = s.xnext := rfl
@[simp] theorem setBankCell_dram (j : Nat) (c : Code64) : (s.setBankCell j c).dram = s.dram := rfl
@[simp] theorem setBankCell_dmcs (j : Nat) (c : Code64) : (s.setBankCell j c).dmcs = s.dmcs := rfl
@[simp] theorem setBankCell_ilvLocked (j : Nat) (c : Code64) : (s.setBankCell j c).ilvLocked = s.ilvLocked := rfl
@[simp] theorem setBankCell_ice (j : Nat) (c : Code64) : (s.setBankCell j c).ice = s.ice := rfl
@[simp] theorem setBankCell_lanes (j : Nat) (c : Code64) : (s.setBankCell j c).lanes = s.lanes := rfl
@[simp] theorem setBankCell_bridges (j : Nat) (c : Code64) : (s.setBankCell j c).bridges = s.bridges := rfl
@[simp] theorem setBankCell_tb (j : Nat) (c : Code64) : (s.setBankCell j c).tb = s.tb := rfl
@[simp] theorem setBankCell_flights (j : Nat) (c : Code64) : (s.setBankCell j c).flights = s.flights := rfl
@[simp] theorem setBankCell_fnext (j : Nat) (c : Code64) : (s.setBankCell j c).fnext = s.fnext := rfl
@[simp] theorem setBankCell_nis (j : Nat) (c : Code64) : (s.setBankCell j c).nis = s.nis := rfl
@[simp] theorem setBankCell_arbs (j : Nat) (c : Code64) : (s.setBankCell j c).arbs = s.arbs := rfl
@[simp] theorem setBankCell_rtc (j : Nat) (c : Code64) : (s.setBankCell j c).rtc = s.rtc := rfl
@[simp] theorem setBankCell_temps (j : Nat) (c : Code64) : (s.setBankCell j c).temps = s.temps := rfl
@[simp] theorem setBankCell_mb (j : Nat) (c : Code64) : (s.setBankCell j c).mb = s.mb := rfl
@[simp] theorem setBankCell_pwr (j : Nat) (c : Code64) : (s.setBankCell j c).pwr = s.pwr := rfl
@[simp] theorem setBankCell_io (j : Nat) (c : Code64) : (s.setBankCell j c).io = s.io := rfl
@[simp] theorem setBankCell_harts (j : Nat) (c : Code64) : (s.setBankCell j c).harts = s.harts := rfl
@[simp] theorem setBankCell_caches (j : Nat) (c : Code64) : (s.setBankCell j c).caches = s.caches := rfl
@[simp] theorem setBankCell_dbg (j : Nat) (c : Code64) : (s.setBankCell j c).dbg = s.dbg := rfl
@[simp] theorem setBankCell_err (j : Nat) (c : Code64) : (s.setBankCell j c).err = s.err := rfl
@[simp] theorem setBankCell_plic (j : Nat) (c : Code64) : (s.setBankCell j c).plic = s.plic := rfl
@[simp] theorem setBankCell_eng (j : Nat) (c : Code64) (e0 : Nat) : (s.setBankCell j c).eng e0 = s.eng e0 := rfl
@[simp] theorem setBankCell_chan (j : Nat) (c : Code64) (p0 : Nat) : (s.setBankCell j c).chan p0 = s.chan p0 := rfl
@[simp] theorem setBankCell_fcu (j : Nat) (c : Code64) (c0 : Nat) : (s.setBankCell j c).fcu c0 = s.fcu c0 := rfl
@[simp] theorem setBankCell_slc (j : Nat) (c : Code64) (n0 : Nat) : (s.setBankCell j c).slc n0 = s.slc n0 := rfl
@[simp] theorem setBankCell_reg (j : Nat) (c : Code64) (r0 : RegId) (i0 j0 k0 : Nat) : (s.setBankCell j c).reg r0 i0 j0 k0 = s.reg r0 i0 j0 k0 := rfl
@[simp] theorem setBankCell_shadowReg (j : Nat) (c : Code64) (r0 : RegId) (i0 j0 k0 : Nat) : (s.setBankCell j c).shadowReg r0 i0 j0 k0 = s.shadowReg r0 i0 j0 k0 := rfl
@[simp] theorem setBankCell_fld (j : Nat) (c : Code64) (f0 : Fld) (i0 j0 k0 : Nat) : (s.setBankCell j c).fld f0 i0 j0 k0 = s.fld f0 i0 j0 k0 := rfl
@[simp] theorem setBankCell_flag (j : Nat) (c : Code64) (f0 : Fld) (i0 j0 k0 : Nat) : (s.setBankCell j c).flag f0 i0 j0 k0 = s.flag f0 i0 j0 k0 := rfl
@[simp] theorem setBankCell_sfld (j : Nat) (c : Code64) (f0 : Fld) (i0 j0 k0 : Nat) : (s.setBankCell j c).sfld f0 i0 j0 k0 = s.sfld f0 i0 j0 k0 := rfl
@[simp] theorem setBankCell_cell (j : Nat) (c : Code64) (n0 j0 : Nat) : (s.setBankCell j c).cell n0 j0 = s.cell n0 j0 := rfl
@[simp] theorem setBankCell_now (j : Nat) (c : Code64) : (s.setBankCell j c).now = s.now := rfl
@[simp] theorem setBankCell_gangSize (j : Nat) (c : Code64) (e0 : Nat) : (s.setBankCell j c).gangSize e0 = s.gangSize e0 := rfl
@[simp] theorem setBankCell_leader (j : Nat) (c : Code64) (e0 : Nat) : (s.setBankCell j c).leader e0 = s.leader e0 := rfl
@[simp] theorem setBankCell_members (j : Nat) (c : Code64) (e0 : Nat) : (s.setBankCell j c).members e0 = s.members e0 := rfl
@[simp] theorem setBankCell_domOn (j : Nat) (c : Code64) (d0 : Nat) : (s.setBankCell j c).domOn d0 = s.domOn d0 := rfl
@[simp] theorem setBankCell_live (j : Nat) (c : Code64) (d0 : Nat) : (s.setBankCell j c).live d0 = s.live d0 := rfl

/-! ### setLine -/

@[simp] theorem setLine_pending (k lam : Nat) (l : Line) : (s.setLine k lam l).pending = s.pending := rfl
@[simp] theorem setLine_free (k lam : Nat) (l : Line) : (s.setLine k lam l).free = s.free := rfl
@[simp] theorem setLine_time (k lam : Nat) (l : Line) : (s.setLine k lam l).time = s.time := rfl
@[simp] theorem setLine_regs (k lam : Nat) (l : Line) : (s.setLine k lam l).regs = s.regs := rfl
@[simp] theorem setLine_work (k lam : Nat) (l : Line) : (s.setLine k lam l).work = s.work := rfl
@[simp] theorem setLine_shadow (k lam : Nat) (l : Line) : (s.setLine k lam l).shadow = s.shadow := rfl
@[simp] theorem setLine_engines (k lam : Nat) (l : Line) : (s.setLine k lam l).engines = s.engines := rfl
@[simp] theorem setLine_chans (k lam : Nat) (l : Line) : (s.setLine k lam l).chans = s.chans := rfl
@[simp] theorem setLine_offs (k lam : Nat) (l : Line) : (s.setLine k lam l).offs = s.offs := rfl
@[simp] theorem setLine_fcus (k lam : Nat) (l : Line) : (s.setLine k lam l).fcus = s.fcus := rfl
@[simp] theorem setLine_slices (k lam : Nat) (l : Line) : (s.setLine k lam l).slices = s.slices := rfl
@[simp] theorem setLine_slcs (k lam : Nat) (l : Line) : (s.setLine k lam l).slcs = s.slcs := rfl
@[simp] theorem setLine_sbk (k lam : Nat) (l : Line) : (s.setLine k lam l).sbk = s.sbk := rfl
@[simp] theorem setLine_flash (k lam : Nat) (l : Line) : (s.setLine k lam l).flash = s.flash := rfl
@[simp] theorem setLine_smp (k lam : Nat) (l : Line) : (s.setLine k lam l).smp = s.smp := rfl
@[simp] theorem setLine_log (k lam : Nat) (l : Line) : (s.setLine k lam l).log = s.log := rfl
@[simp] theorem setLine_fuses (k lam : Nat) (l : Line) : (s.setLine k lam l).fuses = s.fuses := rfl
@[simp] theorem setLine_frames (k lam : Nat) (l : Line) : (s.setLine k lam l).frames = s.frames := rfl
@[simp] theorem setLine_ffs (k lam : Nat) (l : Line) : (s.setLine k lam l).ffs = s.ffs := rfl
@[simp] theorem setLine_bm (k lam : Nat) (l : Line) : (s.setLine k lam l).bm = s.bm := rfl
@[simp] theorem setLine_bmLast (k lam : Nat) (l : Line) : (s.setLine k lam l).bmLast = s.bmLast := rfl
@[simp] theorem setLine_bmOut (k lam : Nat) (l : Line) : (s.setLine k lam l).bmOut = s.bmOut := rfl
@[simp] theorem setLine_bmRet (k lam : Nat) (l : Line) : (s.setLine k lam l).bmRet = s.bmRet := rfl
@[simp] theorem setLine_arith (k lam : Nat) (l : Line) : (s.setLine k lam l).arith = s.arith := rfl
@[simp] theorem setLine_lineStop (k lam : Nat) (l : Line) : (s.setLine k lam l).lineStop = s.lineStop := rfl
@[simp] theorem setLine_sectors (k lam : Nat) (l : Line) : (s.setLine k lam l).sectors = s.sectors := rfl
@[simp] theorem setLine_loader (k lam : Nat) (l : Line) : (s.setLine k lam l).loader = s.loader := rfl
@[simp] theorem setLine_xacts (k lam : Nat) (l : Line) : (s.setLine k lam l).xacts = s.xacts := rfl
@[simp] theorem setLine_rsps (k lam : Nat) (l : Line) : (s.setLine k lam l).rsps = s.rsps := rfl
@[simp] theorem setLine_xnext (k lam : Nat) (l : Line) : (s.setLine k lam l).xnext = s.xnext := rfl
@[simp] theorem setLine_dmcs (k lam : Nat) (l : Line) : (s.setLine k lam l).dmcs = s.dmcs := rfl
@[simp] theorem setLine_ilvLocked (k lam : Nat) (l : Line) : (s.setLine k lam l).ilvLocked = s.ilvLocked := rfl
@[simp] theorem setLine_ice (k lam : Nat) (l : Line) : (s.setLine k lam l).ice = s.ice := rfl
@[simp] theorem setLine_lanes (k lam : Nat) (l : Line) : (s.setLine k lam l).lanes = s.lanes := rfl
@[simp] theorem setLine_bridges (k lam : Nat) (l : Line) : (s.setLine k lam l).bridges = s.bridges := rfl
@[simp] theorem setLine_tb (k lam : Nat) (l : Line) : (s.setLine k lam l).tb = s.tb := rfl
@[simp] theorem setLine_flights (k lam : Nat) (l : Line) : (s.setLine k lam l).flights = s.flights := rfl
@[simp] theorem setLine_fnext (k lam : Nat) (l : Line) : (s.setLine k lam l).fnext = s.fnext := rfl
@[simp] theorem setLine_nis (k lam : Nat) (l : Line) : (s.setLine k lam l).nis = s.nis := rfl
@[simp] theorem setLine_arbs (k lam : Nat) (l : Line) : (s.setLine k lam l).arbs = s.arbs := rfl
@[simp] theorem setLine_rtc (k lam : Nat) (l : Line) : (s.setLine k lam l).rtc = s.rtc := rfl
@[simp] theorem setLine_temps (k lam : Nat) (l : Line) : (s.setLine k lam l).temps = s.temps := rfl
@[simp] theorem setLine_mb (k lam : Nat) (l : Line) : (s.setLine k lam l).mb = s.mb := rfl
@[simp] theorem setLine_pwr (k lam : Nat) (l : Line) : (s.setLine k lam l).pwr = s.pwr := rfl
@[simp] theorem setLine_io (k lam : Nat) (l : Line) : (s.setLine k lam l).io = s.io := rfl
@[simp] theorem setLine_harts (k lam : Nat) (l : Line) : (s.setLine k lam l).harts = s.harts := rfl
@[simp] theorem setLine_caches (k lam : Nat) (l : Line) : (s.setLine k lam l).caches = s.caches := rfl
@[simp] theorem setLine_dbg (k lam : Nat) (l : Line) : (s.setLine k lam l).dbg = s.dbg := rfl
@[simp] theorem setLine_err (k lam : Nat) (l : Line) : (s.setLine k lam l).err = s.err := rfl
@[simp] theorem setLine_plic (k lam : Nat) (l : Line) : (s.setLine k lam l).plic = s.plic := rfl
@[simp] theorem setLine_eng (k lam : Nat) (l : Line) (e0 : Nat) : (s.setLine k lam l).eng e0 = s.eng e0 := rfl
@[simp] theorem setLine_chan (k lam : Nat) (l : Line) (p0 : Nat) : (s.setLine k lam l).chan p0 = s.chan p0 := rfl
@[simp] theorem setLine_fcu (k lam : Nat) (l : Line) (c0 : Nat) : (s.setLine k lam l).fcu c0 = s.fcu c0 := rfl
@[simp] theorem setLine_slc (k lam : Nat) (l : Line) (n0 : Nat) : (s.setLine k lam l).slc n0 = s.slc n0 := rfl
@[simp] theorem setLine_reg (k lam : Nat) (l : Line) (r0 : RegId) (i0 j0 k0 : Nat) : (s.setLine k lam l).reg r0 i0 j0 k0 = s.reg r0 i0 j0 k0 := rfl
@[simp] theorem setLine_shadowReg (k lam : Nat) (l : Line) (r0 : RegId) (i0 j0 k0 : Nat) : (s.setLine k lam l).shadowReg r0 i0 j0 k0 = s.shadowReg r0 i0 j0 k0 := rfl
@[simp] theorem setLine_fld (k lam : Nat) (l : Line) (f0 : Fld) (i0 j0 k0 : Nat) : (s.setLine k lam l).fld f0 i0 j0 k0 = s.fld f0 i0 j0 k0 := rfl
@[simp] theorem setLine_flag (k lam : Nat) (l : Line) (f0 : Fld) (i0 j0 k0 : Nat) : (s.setLine k lam l).flag f0 i0 j0 k0 = s.flag f0 i0 j0 k0 := rfl
@[simp] theorem setLine_sfld (k lam : Nat) (l : Line) (f0 : Fld) (i0 j0 k0 : Nat) : (s.setLine k lam l).sfld f0 i0 j0 k0 = s.sfld f0 i0 j0 k0 := rfl
@[simp] theorem setLine_cell (k lam : Nat) (l : Line) (n0 j0 : Nat) : (s.setLine k lam l).cell n0 j0 = s.cell n0 j0 := rfl
@[simp] theorem setLine_now (k lam : Nat) (l : Line) : (s.setLine k lam l).now = s.now := rfl
@[simp] theorem setLine_gangSize (k lam : Nat) (l : Line) (e0 : Nat) : (s.setLine k lam l).gangSize e0 = s.gangSize e0 := rfl
@[simp] theorem setLine_leader (k lam : Nat) (l : Line) (e0 : Nat) : (s.setLine k lam l).leader e0 = s.leader e0 := rfl
@[simp] theorem setLine_members (k lam : Nat) (l : Line) (e0 : Nat) : (s.setLine k lam l).members e0 = s.members e0 := rfl
@[simp] theorem setLine_domOn (k lam : Nat) (l : Line) (d0 : Nat) : (s.setLine k lam l).domOn d0 = s.domOn d0 := rfl
@[simp] theorem setLine_live (k lam : Nat) (l : Line) (d0 : Nat) : (s.setLine k lam l).live d0 = s.live d0 := rfl

/-! ### modDmc -/

@[simp] theorem modDmc_pending (k : Nat) (f : Dmc → Dmc) : (s.modDmc k f).pending = s.pending := rfl
@[simp] theorem modDmc_free (k : Nat) (f : Dmc → Dmc) : (s.modDmc k f).free = s.free := rfl
@[simp] theorem modDmc_time (k : Nat) (f : Dmc → Dmc) : (s.modDmc k f).time = s.time := rfl
@[simp] theorem modDmc_regs (k : Nat) (f : Dmc → Dmc) : (s.modDmc k f).regs = s.regs := rfl
@[simp] theorem modDmc_work (k : Nat) (f : Dmc → Dmc) : (s.modDmc k f).work = s.work := rfl
@[simp] theorem modDmc_shadow (k : Nat) (f : Dmc → Dmc) : (s.modDmc k f).shadow = s.shadow := rfl
@[simp] theorem modDmc_engines (k : Nat) (f : Dmc → Dmc) : (s.modDmc k f).engines = s.engines := rfl
@[simp] theorem modDmc_chans (k : Nat) (f : Dmc → Dmc) : (s.modDmc k f).chans = s.chans := rfl
@[simp] theorem modDmc_offs (k : Nat) (f : Dmc → Dmc) : (s.modDmc k f).offs = s.offs := rfl
@[simp] theorem modDmc_fcus (k : Nat) (f : Dmc → Dmc) : (s.modDmc k f).fcus = s.fcus := rfl
@[simp] theorem modDmc_slices (k : Nat) (f : Dmc → Dmc) : (s.modDmc k f).slices = s.slices := rfl
@[simp] theorem modDmc_slcs (k : Nat) (f : Dmc → Dmc) : (s.modDmc k f).slcs = s.slcs := rfl
@[simp] theorem modDmc_sbk (k : Nat) (f : Dmc → Dmc) : (s.modDmc k f).sbk = s.sbk := rfl
@[simp] theorem modDmc_flash (k : Nat) (f : Dmc → Dmc) : (s.modDmc k f).flash = s.flash := rfl
@[simp] theorem modDmc_smp (k : Nat) (f : Dmc → Dmc) : (s.modDmc k f).smp = s.smp := rfl
@[simp] theorem modDmc_log (k : Nat) (f : Dmc → Dmc) : (s.modDmc k f).log = s.log := rfl
@[simp] theorem modDmc_fuses (k : Nat) (f : Dmc → Dmc) : (s.modDmc k f).fuses = s.fuses := rfl
@[simp] theorem modDmc_frames (k : Nat) (f : Dmc → Dmc) : (s.modDmc k f).frames = s.frames := rfl
@[simp] theorem modDmc_ffs (k : Nat) (f : Dmc → Dmc) : (s.modDmc k f).ffs = s.ffs := rfl
@[simp] theorem modDmc_bm (k : Nat) (f : Dmc → Dmc) : (s.modDmc k f).bm = s.bm := rfl
@[simp] theorem modDmc_bmLast (k : Nat) (f : Dmc → Dmc) : (s.modDmc k f).bmLast = s.bmLast := rfl
@[simp] theorem modDmc_bmOut (k : Nat) (f : Dmc → Dmc) : (s.modDmc k f).bmOut = s.bmOut := rfl
@[simp] theorem modDmc_bmRet (k : Nat) (f : Dmc → Dmc) : (s.modDmc k f).bmRet = s.bmRet := rfl
@[simp] theorem modDmc_arith (k : Nat) (f : Dmc → Dmc) : (s.modDmc k f).arith = s.arith := rfl
@[simp] theorem modDmc_lineStop (k : Nat) (f : Dmc → Dmc) : (s.modDmc k f).lineStop = s.lineStop := rfl
@[simp] theorem modDmc_sectors (k : Nat) (f : Dmc → Dmc) : (s.modDmc k f).sectors = s.sectors := rfl
@[simp] theorem modDmc_loader (k : Nat) (f : Dmc → Dmc) : (s.modDmc k f).loader = s.loader := rfl
@[simp] theorem modDmc_xacts (k : Nat) (f : Dmc → Dmc) : (s.modDmc k f).xacts = s.xacts := rfl
@[simp] theorem modDmc_rsps (k : Nat) (f : Dmc → Dmc) : (s.modDmc k f).rsps = s.rsps := rfl
@[simp] theorem modDmc_xnext (k : Nat) (f : Dmc → Dmc) : (s.modDmc k f).xnext = s.xnext := rfl
@[simp] theorem modDmc_dram (k : Nat) (f : Dmc → Dmc) : (s.modDmc k f).dram = s.dram := rfl
@[simp] theorem modDmc_ilvLocked (k : Nat) (f : Dmc → Dmc) : (s.modDmc k f).ilvLocked = s.ilvLocked := rfl
@[simp] theorem modDmc_ice (k : Nat) (f : Dmc → Dmc) : (s.modDmc k f).ice = s.ice := rfl
@[simp] theorem modDmc_lanes (k : Nat) (f : Dmc → Dmc) : (s.modDmc k f).lanes = s.lanes := rfl
@[simp] theorem modDmc_bridges (k : Nat) (f : Dmc → Dmc) : (s.modDmc k f).bridges = s.bridges := rfl
@[simp] theorem modDmc_tb (k : Nat) (f : Dmc → Dmc) : (s.modDmc k f).tb = s.tb := rfl
@[simp] theorem modDmc_flights (k : Nat) (f : Dmc → Dmc) : (s.modDmc k f).flights = s.flights := rfl
@[simp] theorem modDmc_fnext (k : Nat) (f : Dmc → Dmc) : (s.modDmc k f).fnext = s.fnext := rfl
@[simp] theorem modDmc_nis (k : Nat) (f : Dmc → Dmc) : (s.modDmc k f).nis = s.nis := rfl
@[simp] theorem modDmc_arbs (k : Nat) (f : Dmc → Dmc) : (s.modDmc k f).arbs = s.arbs := rfl
@[simp] theorem modDmc_rtc (k : Nat) (f : Dmc → Dmc) : (s.modDmc k f).rtc = s.rtc := rfl
@[simp] theorem modDmc_temps (k : Nat) (f : Dmc → Dmc) : (s.modDmc k f).temps = s.temps := rfl
@[simp] theorem modDmc_mb (k : Nat) (f : Dmc → Dmc) : (s.modDmc k f).mb = s.mb := rfl
@[simp] theorem modDmc_pwr (k : Nat) (f : Dmc → Dmc) : (s.modDmc k f).pwr = s.pwr := rfl
@[simp] theorem modDmc_io (k : Nat) (f : Dmc → Dmc) : (s.modDmc k f).io = s.io := rfl
@[simp] theorem modDmc_harts (k : Nat) (f : Dmc → Dmc) : (s.modDmc k f).harts = s.harts := rfl
@[simp] theorem modDmc_caches (k : Nat) (f : Dmc → Dmc) : (s.modDmc k f).caches = s.caches := rfl
@[simp] theorem modDmc_dbg (k : Nat) (f : Dmc → Dmc) : (s.modDmc k f).dbg = s.dbg := rfl
@[simp] theorem modDmc_err (k : Nat) (f : Dmc → Dmc) : (s.modDmc k f).err = s.err := rfl
@[simp] theorem modDmc_plic (k : Nat) (f : Dmc → Dmc) : (s.modDmc k f).plic = s.plic := rfl
@[simp] theorem modDmc_eng (k : Nat) (f : Dmc → Dmc) (e0 : Nat) : (s.modDmc k f).eng e0 = s.eng e0 := rfl
@[simp] theorem modDmc_chan (k : Nat) (f : Dmc → Dmc) (p0 : Nat) : (s.modDmc k f).chan p0 = s.chan p0 := rfl
@[simp] theorem modDmc_fcu (k : Nat) (f : Dmc → Dmc) (c0 : Nat) : (s.modDmc k f).fcu c0 = s.fcu c0 := rfl
@[simp] theorem modDmc_slc (k : Nat) (f : Dmc → Dmc) (n0 : Nat) : (s.modDmc k f).slc n0 = s.slc n0 := rfl
@[simp] theorem modDmc_reg (k : Nat) (f : Dmc → Dmc) (r0 : RegId) (i0 j0 k0 : Nat) : (s.modDmc k f).reg r0 i0 j0 k0 = s.reg r0 i0 j0 k0 := rfl
@[simp] theorem modDmc_shadowReg (k : Nat) (f : Dmc → Dmc) (r0 : RegId) (i0 j0 k0 : Nat) : (s.modDmc k f).shadowReg r0 i0 j0 k0 = s.shadowReg r0 i0 j0 k0 := rfl
@[simp] theorem modDmc_fld (k : Nat) (f : Dmc → Dmc) (f0 : Fld) (i0 j0 k0 : Nat) : (s.modDmc k f).fld f0 i0 j0 k0 = s.fld f0 i0 j0 k0 := rfl
@[simp] theorem modDmc_flag (k : Nat) (f : Dmc → Dmc) (f0 : Fld) (i0 j0 k0 : Nat) : (s.modDmc k f).flag f0 i0 j0 k0 = s.flag f0 i0 j0 k0 := rfl
@[simp] theorem modDmc_sfld (k : Nat) (f : Dmc → Dmc) (f0 : Fld) (i0 j0 k0 : Nat) : (s.modDmc k f).sfld f0 i0 j0 k0 = s.sfld f0 i0 j0 k0 := rfl
@[simp] theorem modDmc_cell (k : Nat) (f : Dmc → Dmc) (n0 j0 : Nat) : (s.modDmc k f).cell n0 j0 = s.cell n0 j0 := rfl
@[simp] theorem modDmc_now (k : Nat) (f : Dmc → Dmc) : (s.modDmc k f).now = s.now := rfl
@[simp] theorem modDmc_gangSize (k : Nat) (f : Dmc → Dmc) (e0 : Nat) : (s.modDmc k f).gangSize e0 = s.gangSize e0 := rfl
@[simp] theorem modDmc_leader (k : Nat) (f : Dmc → Dmc) (e0 : Nat) : (s.modDmc k f).leader e0 = s.leader e0 := rfl
@[simp] theorem modDmc_members (k : Nat) (f : Dmc → Dmc) (e0 : Nat) : (s.modDmc k f).members e0 = s.members e0 := rfl
@[simp] theorem modDmc_domOn (k : Nat) (f : Dmc → Dmc) (d0 : Nat) : (s.modDmc k f).domOn d0 = s.domOn d0 := rfl
@[simp] theorem modDmc_live (k : Nat) (f : Dmc → Dmc) (d0 : Nat) : (s.modDmc k f).live d0 = s.live d0 := rfl

/-! ### modHart -/

@[simp] theorem modHart_pending (h : Nat) (f : Hart → Hart) : (s.modHart h f).pending = s.pending := rfl
@[simp] theorem modHart_free (h : Nat) (f : Hart → Hart) : (s.modHart h f).free = s.free := rfl
@[simp] theorem modHart_time (h : Nat) (f : Hart → Hart) : (s.modHart h f).time = s.time := rfl
@[simp] theorem modHart_regs (h : Nat) (f : Hart → Hart) : (s.modHart h f).regs = s.regs := rfl
@[simp] theorem modHart_work (h : Nat) (f : Hart → Hart) : (s.modHart h f).work = s.work := rfl
@[simp] theorem modHart_shadow (h : Nat) (f : Hart → Hart) : (s.modHart h f).shadow = s.shadow := rfl
@[simp] theorem modHart_engines (h : Nat) (f : Hart → Hart) : (s.modHart h f).engines = s.engines := rfl
@[simp] theorem modHart_chans (h : Nat) (f : Hart → Hart) : (s.modHart h f).chans = s.chans := rfl
@[simp] theorem modHart_offs (h : Nat) (f : Hart → Hart) : (s.modHart h f).offs = s.offs := rfl
@[simp] theorem modHart_fcus (h : Nat) (f : Hart → Hart) : (s.modHart h f).fcus = s.fcus := rfl
@[simp] theorem modHart_slices (h : Nat) (f : Hart → Hart) : (s.modHart h f).slices = s.slices := rfl
@[simp] theorem modHart_slcs (h : Nat) (f : Hart → Hart) : (s.modHart h f).slcs = s.slcs := rfl
@[simp] theorem modHart_sbk (h : Nat) (f : Hart → Hart) : (s.modHart h f).sbk = s.sbk := rfl
@[simp] theorem modHart_flash (h : Nat) (f : Hart → Hart) : (s.modHart h f).flash = s.flash := rfl
@[simp] theorem modHart_smp (h : Nat) (f : Hart → Hart) : (s.modHart h f).smp = s.smp := rfl
@[simp] theorem modHart_log (h : Nat) (f : Hart → Hart) : (s.modHart h f).log = s.log := rfl
@[simp] theorem modHart_fuses (h : Nat) (f : Hart → Hart) : (s.modHart h f).fuses = s.fuses := rfl
@[simp] theorem modHart_frames (h : Nat) (f : Hart → Hart) : (s.modHart h f).frames = s.frames := rfl
@[simp] theorem modHart_ffs (h : Nat) (f : Hart → Hart) : (s.modHart h f).ffs = s.ffs := rfl
@[simp] theorem modHart_bm (h : Nat) (f : Hart → Hart) : (s.modHart h f).bm = s.bm := rfl
@[simp] theorem modHart_bmLast (h : Nat) (f : Hart → Hart) : (s.modHart h f).bmLast = s.bmLast := rfl
@[simp] theorem modHart_bmOut (h : Nat) (f : Hart → Hart) : (s.modHart h f).bmOut = s.bmOut := rfl
@[simp] theorem modHart_bmRet (h : Nat) (f : Hart → Hart) : (s.modHart h f).bmRet = s.bmRet := rfl
@[simp] theorem modHart_arith (h : Nat) (f : Hart → Hart) : (s.modHart h f).arith = s.arith := rfl
@[simp] theorem modHart_lineStop (h : Nat) (f : Hart → Hart) : (s.modHart h f).lineStop = s.lineStop := rfl
@[simp] theorem modHart_sectors (h : Nat) (f : Hart → Hart) : (s.modHart h f).sectors = s.sectors := rfl
@[simp] theorem modHart_loader (h : Nat) (f : Hart → Hart) : (s.modHart h f).loader = s.loader := rfl
@[simp] theorem modHart_xacts (h : Nat) (f : Hart → Hart) : (s.modHart h f).xacts = s.xacts := rfl
@[simp] theorem modHart_rsps (h : Nat) (f : Hart → Hart) : (s.modHart h f).rsps = s.rsps := rfl
@[simp] theorem modHart_xnext (h : Nat) (f : Hart → Hart) : (s.modHart h f).xnext = s.xnext := rfl
@[simp] theorem modHart_dram (h : Nat) (f : Hart → Hart) : (s.modHart h f).dram = s.dram := rfl
@[simp] theorem modHart_dmcs (h : Nat) (f : Hart → Hart) : (s.modHart h f).dmcs = s.dmcs := rfl
@[simp] theorem modHart_ilvLocked (h : Nat) (f : Hart → Hart) : (s.modHart h f).ilvLocked = s.ilvLocked := rfl
@[simp] theorem modHart_ice (h : Nat) (f : Hart → Hart) : (s.modHart h f).ice = s.ice := rfl
@[simp] theorem modHart_lanes (h : Nat) (f : Hart → Hart) : (s.modHart h f).lanes = s.lanes := rfl
@[simp] theorem modHart_bridges (h : Nat) (f : Hart → Hart) : (s.modHart h f).bridges = s.bridges := rfl
@[simp] theorem modHart_tb (h : Nat) (f : Hart → Hart) : (s.modHart h f).tb = s.tb := rfl
@[simp] theorem modHart_flights (h : Nat) (f : Hart → Hart) : (s.modHart h f).flights = s.flights := rfl
@[simp] theorem modHart_fnext (h : Nat) (f : Hart → Hart) : (s.modHart h f).fnext = s.fnext := rfl
@[simp] theorem modHart_nis (h : Nat) (f : Hart → Hart) : (s.modHart h f).nis = s.nis := rfl
@[simp] theorem modHart_arbs (h : Nat) (f : Hart → Hart) : (s.modHart h f).arbs = s.arbs := rfl
@[simp] theorem modHart_rtc (h : Nat) (f : Hart → Hart) : (s.modHart h f).rtc = s.rtc := rfl
@[simp] theorem modHart_temps (h : Nat) (f : Hart → Hart) : (s.modHart h f).temps = s.temps := rfl
@[simp] theorem modHart_mb (h : Nat) (f : Hart → Hart) : (s.modHart h f).mb = s.mb := rfl
@[simp] theorem modHart_pwr (h : Nat) (f : Hart → Hart) : (s.modHart h f).pwr = s.pwr := rfl
@[simp] theorem modHart_io (h : Nat) (f : Hart → Hart) : (s.modHart h f).io = s.io := rfl
@[simp] theorem modHart_caches (h : Nat) (f : Hart → Hart) : (s.modHart h f).caches = s.caches := rfl
@[simp] theorem modHart_dbg (h : Nat) (f : Hart → Hart) : (s.modHart h f).dbg = s.dbg := rfl
@[simp] theorem modHart_err (h : Nat) (f : Hart → Hart) : (s.modHart h f).err = s.err := rfl
@[simp] theorem modHart_plic (h : Nat) (f : Hart → Hart) : (s.modHart h f).plic = s.plic := rfl
@[simp] theorem modHart_eng (h : Nat) (f : Hart → Hart) (e0 : Nat) : (s.modHart h f).eng e0 = s.eng e0 := rfl
@[simp] theorem modHart_chan (h : Nat) (f : Hart → Hart) (p0 : Nat) : (s.modHart h f).chan p0 = s.chan p0 := rfl
@[simp] theorem modHart_fcu (h : Nat) (f : Hart → Hart) (c0 : Nat) : (s.modHart h f).fcu c0 = s.fcu c0 := rfl
@[simp] theorem modHart_slc (h : Nat) (f : Hart → Hart) (n0 : Nat) : (s.modHart h f).slc n0 = s.slc n0 := rfl
@[simp] theorem modHart_reg (h : Nat) (f : Hart → Hart) (r0 : RegId) (i0 j0 k0 : Nat) : (s.modHart h f).reg r0 i0 j0 k0 = s.reg r0 i0 j0 k0 := rfl
@[simp] theorem modHart_shadowReg (h : Nat) (f : Hart → Hart) (r0 : RegId) (i0 j0 k0 : Nat) : (s.modHart h f).shadowReg r0 i0 j0 k0 = s.shadowReg r0 i0 j0 k0 := rfl
@[simp] theorem modHart_fld (h : Nat) (f : Hart → Hart) (f0 : Fld) (i0 j0 k0 : Nat) : (s.modHart h f).fld f0 i0 j0 k0 = s.fld f0 i0 j0 k0 := rfl
@[simp] theorem modHart_flag (h : Nat) (f : Hart → Hart) (f0 : Fld) (i0 j0 k0 : Nat) : (s.modHart h f).flag f0 i0 j0 k0 = s.flag f0 i0 j0 k0 := rfl
@[simp] theorem modHart_sfld (h : Nat) (f : Hart → Hart) (f0 : Fld) (i0 j0 k0 : Nat) : (s.modHart h f).sfld f0 i0 j0 k0 = s.sfld f0 i0 j0 k0 := rfl
@[simp] theorem modHart_cell (h : Nat) (f : Hart → Hart) (n0 j0 : Nat) : (s.modHart h f).cell n0 j0 = s.cell n0 j0 := rfl
@[simp] theorem modHart_now (h : Nat) (f : Hart → Hart) : (s.modHart h f).now = s.now := rfl
@[simp] theorem modHart_gangSize (h : Nat) (f : Hart → Hart) (e0 : Nat) : (s.modHart h f).gangSize e0 = s.gangSize e0 := rfl
@[simp] theorem modHart_leader (h : Nat) (f : Hart → Hart) (e0 : Nat) : (s.modHart h f).leader e0 = s.leader e0 := rfl
@[simp] theorem modHart_members (h : Nat) (f : Hart → Hart) (e0 : Nat) : (s.modHart h f).members e0 = s.members e0 := rfl
@[simp] theorem modHart_domOn (h : Nat) (f : Hart → Hart) (d0 : Nat) : (s.modHart h f).domOn d0 = s.domOn d0 := rfl
@[simp] theorem modHart_live (h : Nat) (f : Hart → Hart) (d0 : Nat) : (s.modHart h f).live d0 = s.live d0 := rfl

/-! ### modDbg -/

@[simp] theorem modDbg_pending (f : Debug → Debug) : (s.modDbg f).pending = s.pending := rfl
@[simp] theorem modDbg_free (f : Debug → Debug) : (s.modDbg f).free = s.free := rfl
@[simp] theorem modDbg_time (f : Debug → Debug) : (s.modDbg f).time = s.time := rfl
@[simp] theorem modDbg_regs (f : Debug → Debug) : (s.modDbg f).regs = s.regs := rfl
@[simp] theorem modDbg_work (f : Debug → Debug) : (s.modDbg f).work = s.work := rfl
@[simp] theorem modDbg_shadow (f : Debug → Debug) : (s.modDbg f).shadow = s.shadow := rfl
@[simp] theorem modDbg_engines (f : Debug → Debug) : (s.modDbg f).engines = s.engines := rfl
@[simp] theorem modDbg_chans (f : Debug → Debug) : (s.modDbg f).chans = s.chans := rfl
@[simp] theorem modDbg_offs (f : Debug → Debug) : (s.modDbg f).offs = s.offs := rfl
@[simp] theorem modDbg_fcus (f : Debug → Debug) : (s.modDbg f).fcus = s.fcus := rfl
@[simp] theorem modDbg_slices (f : Debug → Debug) : (s.modDbg f).slices = s.slices := rfl
@[simp] theorem modDbg_slcs (f : Debug → Debug) : (s.modDbg f).slcs = s.slcs := rfl
@[simp] theorem modDbg_sbk (f : Debug → Debug) : (s.modDbg f).sbk = s.sbk := rfl
@[simp] theorem modDbg_flash (f : Debug → Debug) : (s.modDbg f).flash = s.flash := rfl
@[simp] theorem modDbg_smp (f : Debug → Debug) : (s.modDbg f).smp = s.smp := rfl
@[simp] theorem modDbg_log (f : Debug → Debug) : (s.modDbg f).log = s.log := rfl
@[simp] theorem modDbg_fuses (f : Debug → Debug) : (s.modDbg f).fuses = s.fuses := rfl
@[simp] theorem modDbg_frames (f : Debug → Debug) : (s.modDbg f).frames = s.frames := rfl
@[simp] theorem modDbg_ffs (f : Debug → Debug) : (s.modDbg f).ffs = s.ffs := rfl
@[simp] theorem modDbg_bm (f : Debug → Debug) : (s.modDbg f).bm = s.bm := rfl
@[simp] theorem modDbg_bmLast (f : Debug → Debug) : (s.modDbg f).bmLast = s.bmLast := rfl
@[simp] theorem modDbg_bmOut (f : Debug → Debug) : (s.modDbg f).bmOut = s.bmOut := rfl
@[simp] theorem modDbg_bmRet (f : Debug → Debug) : (s.modDbg f).bmRet = s.bmRet := rfl
@[simp] theorem modDbg_arith (f : Debug → Debug) : (s.modDbg f).arith = s.arith := rfl
@[simp] theorem modDbg_lineStop (f : Debug → Debug) : (s.modDbg f).lineStop = s.lineStop := rfl
@[simp] theorem modDbg_sectors (f : Debug → Debug) : (s.modDbg f).sectors = s.sectors := rfl
@[simp] theorem modDbg_loader (f : Debug → Debug) : (s.modDbg f).loader = s.loader := rfl
@[simp] theorem modDbg_xacts (f : Debug → Debug) : (s.modDbg f).xacts = s.xacts := rfl
@[simp] theorem modDbg_rsps (f : Debug → Debug) : (s.modDbg f).rsps = s.rsps := rfl
@[simp] theorem modDbg_xnext (f : Debug → Debug) : (s.modDbg f).xnext = s.xnext := rfl
@[simp] theorem modDbg_dram (f : Debug → Debug) : (s.modDbg f).dram = s.dram := rfl
@[simp] theorem modDbg_dmcs (f : Debug → Debug) : (s.modDbg f).dmcs = s.dmcs := rfl
@[simp] theorem modDbg_ilvLocked (f : Debug → Debug) : (s.modDbg f).ilvLocked = s.ilvLocked := rfl
@[simp] theorem modDbg_ice (f : Debug → Debug) : (s.modDbg f).ice = s.ice := rfl
@[simp] theorem modDbg_lanes (f : Debug → Debug) : (s.modDbg f).lanes = s.lanes := rfl
@[simp] theorem modDbg_bridges (f : Debug → Debug) : (s.modDbg f).bridges = s.bridges := rfl
@[simp] theorem modDbg_tb (f : Debug → Debug) : (s.modDbg f).tb = s.tb := rfl
@[simp] theorem modDbg_flights (f : Debug → Debug) : (s.modDbg f).flights = s.flights := rfl
@[simp] theorem modDbg_fnext (f : Debug → Debug) : (s.modDbg f).fnext = s.fnext := rfl
@[simp] theorem modDbg_nis (f : Debug → Debug) : (s.modDbg f).nis = s.nis := rfl
@[simp] theorem modDbg_arbs (f : Debug → Debug) : (s.modDbg f).arbs = s.arbs := rfl
@[simp] theorem modDbg_rtc (f : Debug → Debug) : (s.modDbg f).rtc = s.rtc := rfl
@[simp] theorem modDbg_temps (f : Debug → Debug) : (s.modDbg f).temps = s.temps := rfl
@[simp] theorem modDbg_mb (f : Debug → Debug) : (s.modDbg f).mb = s.mb := rfl
@[simp] theorem modDbg_pwr (f : Debug → Debug) : (s.modDbg f).pwr = s.pwr := rfl
@[simp] theorem modDbg_io (f : Debug → Debug) : (s.modDbg f).io = s.io := rfl
@[simp] theorem modDbg_harts (f : Debug → Debug) : (s.modDbg f).harts = s.harts := rfl
@[simp] theorem modDbg_caches (f : Debug → Debug) : (s.modDbg f).caches = s.caches := rfl
@[simp] theorem modDbg_err (f : Debug → Debug) : (s.modDbg f).err = s.err := rfl
@[simp] theorem modDbg_plic (f : Debug → Debug) : (s.modDbg f).plic = s.plic := rfl
@[simp] theorem modDbg_eng (f : Debug → Debug) (e0 : Nat) : (s.modDbg f).eng e0 = s.eng e0 := rfl
@[simp] theorem modDbg_chan (f : Debug → Debug) (p0 : Nat) : (s.modDbg f).chan p0 = s.chan p0 := rfl
@[simp] theorem modDbg_fcu (f : Debug → Debug) (c0 : Nat) : (s.modDbg f).fcu c0 = s.fcu c0 := rfl
@[simp] theorem modDbg_slc (f : Debug → Debug) (n0 : Nat) : (s.modDbg f).slc n0 = s.slc n0 := rfl
@[simp] theorem modDbg_reg (f : Debug → Debug) (r0 : RegId) (i0 j0 k0 : Nat) : (s.modDbg f).reg r0 i0 j0 k0 = s.reg r0 i0 j0 k0 := rfl
@[simp] theorem modDbg_shadowReg (f : Debug → Debug) (r0 : RegId) (i0 j0 k0 : Nat) : (s.modDbg f).shadowReg r0 i0 j0 k0 = s.shadowReg r0 i0 j0 k0 := rfl
@[simp] theorem modDbg_fld (f : Debug → Debug) (f0 : Fld) (i0 j0 k0 : Nat) : (s.modDbg f).fld f0 i0 j0 k0 = s.fld f0 i0 j0 k0 := rfl
@[simp] theorem modDbg_flag (f : Debug → Debug) (f0 : Fld) (i0 j0 k0 : Nat) : (s.modDbg f).flag f0 i0 j0 k0 = s.flag f0 i0 j0 k0 := rfl
@[simp] theorem modDbg_sfld (f : Debug → Debug) (f0 : Fld) (i0 j0 k0 : Nat) : (s.modDbg f).sfld f0 i0 j0 k0 = s.sfld f0 i0 j0 k0 := rfl
@[simp] theorem modDbg_cell (f : Debug → Debug) (n0 j0 : Nat) : (s.modDbg f).cell n0 j0 = s.cell n0 j0 := rfl
@[simp] theorem modDbg_now (f : Debug → Debug) : (s.modDbg f).now = s.now := rfl
@[simp] theorem modDbg_gangSize (f : Debug → Debug) (e0 : Nat) : (s.modDbg f).gangSize e0 = s.gangSize e0 := rfl
@[simp] theorem modDbg_leader (f : Debug → Debug) (e0 : Nat) : (s.modDbg f).leader e0 = s.leader e0 := rfl
@[simp] theorem modDbg_members (f : Debug → Debug) (e0 : Nat) : (s.modDbg f).members e0 = s.members e0 := rfl
@[simp] theorem modDbg_domOn (f : Debug → Debug) (d0 : Nat) : (s.modDbg f).domOn d0 = s.domOn d0 := rfl
@[simp] theorem modDbg_live (f : Debug → Debug) (d0 : Nat) : (s.modDbg f).live d0 = s.live d0 := rfl

/-! ### modLane -/

@[simp] theorem modLane_pending (l : Nat) (f : Lane → Lane) : (s.modLane l f).pending = s.pending := rfl
@[simp] theorem modLane_free (l : Nat) (f : Lane → Lane) : (s.modLane l f).free = s.free := rfl
@[simp] theorem modLane_time (l : Nat) (f : Lane → Lane) : (s.modLane l f).time = s.time := rfl
@[simp] theorem modLane_regs (l : Nat) (f : Lane → Lane) : (s.modLane l f).regs = s.regs := rfl
@[simp] theorem modLane_work (l : Nat) (f : Lane → Lane) : (s.modLane l f).work = s.work := rfl
@[simp] theorem modLane_shadow (l : Nat) (f : Lane → Lane) : (s.modLane l f).shadow = s.shadow := rfl
@[simp] theorem modLane_engines (l : Nat) (f : Lane → Lane) : (s.modLane l f).engines = s.engines := rfl
@[simp] theorem modLane_chans (l : Nat) (f : Lane → Lane) : (s.modLane l f).chans = s.chans := rfl
@[simp] theorem modLane_offs (l : Nat) (f : Lane → Lane) : (s.modLane l f).offs = s.offs := rfl
@[simp] theorem modLane_fcus (l : Nat) (f : Lane → Lane) : (s.modLane l f).fcus = s.fcus := rfl
@[simp] theorem modLane_slices (l : Nat) (f : Lane → Lane) : (s.modLane l f).slices = s.slices := rfl
@[simp] theorem modLane_slcs (l : Nat) (f : Lane → Lane) : (s.modLane l f).slcs = s.slcs := rfl
@[simp] theorem modLane_sbk (l : Nat) (f : Lane → Lane) : (s.modLane l f).sbk = s.sbk := rfl
@[simp] theorem modLane_flash (l : Nat) (f : Lane → Lane) : (s.modLane l f).flash = s.flash := rfl
@[simp] theorem modLane_smp (l : Nat) (f : Lane → Lane) : (s.modLane l f).smp = s.smp := rfl
@[simp] theorem modLane_log (l : Nat) (f : Lane → Lane) : (s.modLane l f).log = s.log := rfl
@[simp] theorem modLane_fuses (l : Nat) (f : Lane → Lane) : (s.modLane l f).fuses = s.fuses := rfl
@[simp] theorem modLane_frames (l : Nat) (f : Lane → Lane) : (s.modLane l f).frames = s.frames := rfl
@[simp] theorem modLane_ffs (l : Nat) (f : Lane → Lane) : (s.modLane l f).ffs = s.ffs := rfl
@[simp] theorem modLane_bm (l : Nat) (f : Lane → Lane) : (s.modLane l f).bm = s.bm := rfl
@[simp] theorem modLane_bmLast (l : Nat) (f : Lane → Lane) : (s.modLane l f).bmLast = s.bmLast := rfl
@[simp] theorem modLane_bmOut (l : Nat) (f : Lane → Lane) : (s.modLane l f).bmOut = s.bmOut := rfl
@[simp] theorem modLane_bmRet (l : Nat) (f : Lane → Lane) : (s.modLane l f).bmRet = s.bmRet := rfl
@[simp] theorem modLane_arith (l : Nat) (f : Lane → Lane) : (s.modLane l f).arith = s.arith := rfl
@[simp] theorem modLane_lineStop (l : Nat) (f : Lane → Lane) : (s.modLane l f).lineStop = s.lineStop := rfl
@[simp] theorem modLane_sectors (l : Nat) (f : Lane → Lane) : (s.modLane l f).sectors = s.sectors := rfl
@[simp] theorem modLane_loader (l : Nat) (f : Lane → Lane) : (s.modLane l f).loader = s.loader := rfl
@[simp] theorem modLane_xacts (l : Nat) (f : Lane → Lane) : (s.modLane l f).xacts = s.xacts := rfl
@[simp] theorem modLane_rsps (l : Nat) (f : Lane → Lane) : (s.modLane l f).rsps = s.rsps := rfl
@[simp] theorem modLane_xnext (l : Nat) (f : Lane → Lane) : (s.modLane l f).xnext = s.xnext := rfl
@[simp] theorem modLane_dram (l : Nat) (f : Lane → Lane) : (s.modLane l f).dram = s.dram := rfl
@[simp] theorem modLane_dmcs (l : Nat) (f : Lane → Lane) : (s.modLane l f).dmcs = s.dmcs := rfl
@[simp] theorem modLane_ilvLocked (l : Nat) (f : Lane → Lane) : (s.modLane l f).ilvLocked = s.ilvLocked := rfl
@[simp] theorem modLane_ice (l : Nat) (f : Lane → Lane) : (s.modLane l f).ice = s.ice := rfl
@[simp] theorem modLane_bridges (l : Nat) (f : Lane → Lane) : (s.modLane l f).bridges = s.bridges := rfl
@[simp] theorem modLane_tb (l : Nat) (f : Lane → Lane) : (s.modLane l f).tb = s.tb := rfl
@[simp] theorem modLane_flights (l : Nat) (f : Lane → Lane) : (s.modLane l f).flights = s.flights := rfl
@[simp] theorem modLane_fnext (l : Nat) (f : Lane → Lane) : (s.modLane l f).fnext = s.fnext := rfl
@[simp] theorem modLane_nis (l : Nat) (f : Lane → Lane) : (s.modLane l f).nis = s.nis := rfl
@[simp] theorem modLane_arbs (l : Nat) (f : Lane → Lane) : (s.modLane l f).arbs = s.arbs := rfl
@[simp] theorem modLane_rtc (l : Nat) (f : Lane → Lane) : (s.modLane l f).rtc = s.rtc := rfl
@[simp] theorem modLane_temps (l : Nat) (f : Lane → Lane) : (s.modLane l f).temps = s.temps := rfl
@[simp] theorem modLane_mb (l : Nat) (f : Lane → Lane) : (s.modLane l f).mb = s.mb := rfl
@[simp] theorem modLane_pwr (l : Nat) (f : Lane → Lane) : (s.modLane l f).pwr = s.pwr := rfl
@[simp] theorem modLane_io (l : Nat) (f : Lane → Lane) : (s.modLane l f).io = s.io := rfl
@[simp] theorem modLane_harts (l : Nat) (f : Lane → Lane) : (s.modLane l f).harts = s.harts := rfl
@[simp] theorem modLane_caches (l : Nat) (f : Lane → Lane) : (s.modLane l f).caches = s.caches := rfl
@[simp] theorem modLane_dbg (l : Nat) (f : Lane → Lane) : (s.modLane l f).dbg = s.dbg := rfl
@[simp] theorem modLane_err (l : Nat) (f : Lane → Lane) : (s.modLane l f).err = s.err := rfl
@[simp] theorem modLane_plic (l : Nat) (f : Lane → Lane) : (s.modLane l f).plic = s.plic := rfl
@[simp] theorem modLane_eng (l : Nat) (f : Lane → Lane) (e0 : Nat) : (s.modLane l f).eng e0 = s.eng e0 := rfl
@[simp] theorem modLane_chan (l : Nat) (f : Lane → Lane) (p0 : Nat) : (s.modLane l f).chan p0 = s.chan p0 := rfl
@[simp] theorem modLane_fcu (l : Nat) (f : Lane → Lane) (c0 : Nat) : (s.modLane l f).fcu c0 = s.fcu c0 := rfl
@[simp] theorem modLane_slc (l : Nat) (f : Lane → Lane) (n0 : Nat) : (s.modLane l f).slc n0 = s.slc n0 := rfl
@[simp] theorem modLane_reg (l : Nat) (f : Lane → Lane) (r0 : RegId) (i0 j0 k0 : Nat) : (s.modLane l f).reg r0 i0 j0 k0 = s.reg r0 i0 j0 k0 := rfl
@[simp] theorem modLane_shadowReg (l : Nat) (f : Lane → Lane) (r0 : RegId) (i0 j0 k0 : Nat) : (s.modLane l f).shadowReg r0 i0 j0 k0 = s.shadowReg r0 i0 j0 k0 := rfl
@[simp] theorem modLane_fld (l : Nat) (f : Lane → Lane) (f0 : Fld) (i0 j0 k0 : Nat) : (s.modLane l f).fld f0 i0 j0 k0 = s.fld f0 i0 j0 k0 := rfl
@[simp] theorem modLane_flag (l : Nat) (f : Lane → Lane) (f0 : Fld) (i0 j0 k0 : Nat) : (s.modLane l f).flag f0 i0 j0 k0 = s.flag f0 i0 j0 k0 := rfl
@[simp] theorem modLane_sfld (l : Nat) (f : Lane → Lane) (f0 : Fld) (i0 j0 k0 : Nat) : (s.modLane l f).sfld f0 i0 j0 k0 = s.sfld f0 i0 j0 k0 := rfl
@[simp] theorem modLane_cell (l : Nat) (f : Lane → Lane) (n0 j0 : Nat) : (s.modLane l f).cell n0 j0 = s.cell n0 j0 := rfl
@[simp] theorem modLane_now (l : Nat) (f : Lane → Lane) : (s.modLane l f).now = s.now := rfl
@[simp] theorem modLane_gangSize (l : Nat) (f : Lane → Lane) (e0 : Nat) : (s.modLane l f).gangSize e0 = s.gangSize e0 := rfl
@[simp] theorem modLane_leader (l : Nat) (f : Lane → Lane) (e0 : Nat) : (s.modLane l f).leader e0 = s.leader e0 := rfl
@[simp] theorem modLane_members (l : Nat) (f : Lane → Lane) (e0 : Nat) : (s.modLane l f).members e0 = s.members e0 := rfl
@[simp] theorem modLane_domOn (l : Nat) (f : Lane → Lane) (d0 : Nat) : (s.modLane l f).domOn d0 = s.domOn d0 := rfl
@[simp] theorem modLane_live (l : Nat) (f : Lane → Lane) (d0 : Nat) : (s.modLane l f).live d0 = s.live d0 := rfl

/-! ### modLoader -/

@[simp] theorem modLoader_pending (f : Loader → Loader) : (s.modLoader f).pending = s.pending := rfl
@[simp] theorem modLoader_free (f : Loader → Loader) : (s.modLoader f).free = s.free := rfl
@[simp] theorem modLoader_time (f : Loader → Loader) : (s.modLoader f).time = s.time := rfl
@[simp] theorem modLoader_regs (f : Loader → Loader) : (s.modLoader f).regs = s.regs := rfl
@[simp] theorem modLoader_work (f : Loader → Loader) : (s.modLoader f).work = s.work := rfl
@[simp] theorem modLoader_shadow (f : Loader → Loader) : (s.modLoader f).shadow = s.shadow := rfl
@[simp] theorem modLoader_engines (f : Loader → Loader) : (s.modLoader f).engines = s.engines := rfl
@[simp] theorem modLoader_chans (f : Loader → Loader) : (s.modLoader f).chans = s.chans := rfl
@[simp] theorem modLoader_offs (f : Loader → Loader) : (s.modLoader f).offs = s.offs := rfl
@[simp] theorem modLoader_fcus (f : Loader → Loader) : (s.modLoader f).fcus = s.fcus := rfl
@[simp] theorem modLoader_slices (f : Loader → Loader) : (s.modLoader f).slices = s.slices := rfl
@[simp] theorem modLoader_slcs (f : Loader → Loader) : (s.modLoader f).slcs = s.slcs := rfl
@[simp] theorem modLoader_sbk (f : Loader → Loader) : (s.modLoader f).sbk = s.sbk := rfl
@[simp] theorem modLoader_flash (f : Loader → Loader) : (s.modLoader f).flash = s.flash := rfl
@[simp] theorem modLoader_smp (f : Loader → Loader) : (s.modLoader f).smp = s.smp := rfl
@[simp] theorem modLoader_log (f : Loader → Loader) : (s.modLoader f).log = s.log := rfl
@[simp] theorem modLoader_fuses (f : Loader → Loader) : (s.modLoader f).fuses = s.fuses := rfl
@[simp] theorem modLoader_frames (f : Loader → Loader) : (s.modLoader f).frames = s.frames := rfl
@[simp] theorem modLoader_ffs (f : Loader → Loader) : (s.modLoader f).ffs = s.ffs := rfl
@[simp] theorem modLoader_bm (f : Loader → Loader) : (s.modLoader f).bm = s.bm := rfl
@[simp] theorem modLoader_bmLast (f : Loader → Loader) : (s.modLoader f).bmLast = s.bmLast := rfl
@[simp] theorem modLoader_bmOut (f : Loader → Loader) : (s.modLoader f).bmOut = s.bmOut := rfl
@[simp] theorem modLoader_bmRet (f : Loader → Loader) : (s.modLoader f).bmRet = s.bmRet := rfl
@[simp] theorem modLoader_arith (f : Loader → Loader) : (s.modLoader f).arith = s.arith := rfl
@[simp] theorem modLoader_lineStop (f : Loader → Loader) : (s.modLoader f).lineStop = s.lineStop := rfl
@[simp] theorem modLoader_sectors (f : Loader → Loader) : (s.modLoader f).sectors = s.sectors := rfl
@[simp] theorem modLoader_xacts (f : Loader → Loader) : (s.modLoader f).xacts = s.xacts := rfl
@[simp] theorem modLoader_rsps (f : Loader → Loader) : (s.modLoader f).rsps = s.rsps := rfl
@[simp] theorem modLoader_xnext (f : Loader → Loader) : (s.modLoader f).xnext = s.xnext := rfl
@[simp] theorem modLoader_dram (f : Loader → Loader) : (s.modLoader f).dram = s.dram := rfl
@[simp] theorem modLoader_dmcs (f : Loader → Loader) : (s.modLoader f).dmcs = s.dmcs := rfl
@[simp] theorem modLoader_ilvLocked (f : Loader → Loader) : (s.modLoader f).ilvLocked = s.ilvLocked := rfl
@[simp] theorem modLoader_ice (f : Loader → Loader) : (s.modLoader f).ice = s.ice := rfl
@[simp] theorem modLoader_lanes (f : Loader → Loader) : (s.modLoader f).lanes = s.lanes := rfl
@[simp] theorem modLoader_bridges (f : Loader → Loader) : (s.modLoader f).bridges = s.bridges := rfl
@[simp] theorem modLoader_tb (f : Loader → Loader) : (s.modLoader f).tb = s.tb := rfl
@[simp] theorem modLoader_flights (f : Loader → Loader) : (s.modLoader f).flights = s.flights := rfl
@[simp] theorem modLoader_fnext (f : Loader → Loader) : (s.modLoader f).fnext = s.fnext := rfl
@[simp] theorem modLoader_nis (f : Loader → Loader) : (s.modLoader f).nis = s.nis := rfl
@[simp] theorem modLoader_arbs (f : Loader → Loader) : (s.modLoader f).arbs = s.arbs := rfl
@[simp] theorem modLoader_rtc (f : Loader → Loader) : (s.modLoader f).rtc = s.rtc := rfl
@[simp] theorem modLoader_temps (f : Loader → Loader) : (s.modLoader f).temps = s.temps := rfl
@[simp] theorem modLoader_mb (f : Loader → Loader) : (s.modLoader f).mb = s.mb := rfl
@[simp] theorem modLoader_pwr (f : Loader → Loader) : (s.modLoader f).pwr = s.pwr := rfl
@[simp] theorem modLoader_io (f : Loader → Loader) : (s.modLoader f).io = s.io := rfl
@[simp] theorem modLoader_harts (f : Loader → Loader) : (s.modLoader f).harts = s.harts := rfl
@[simp] theorem modLoader_caches (f : Loader → Loader) : (s.modLoader f).caches = s.caches := rfl
@[simp] theorem modLoader_dbg (f : Loader → Loader) : (s.modLoader f).dbg = s.dbg := rfl
@[simp] theorem modLoader_err (f : Loader → Loader) : (s.modLoader f).err = s.err := rfl
@[simp] theorem modLoader_plic (f : Loader → Loader) : (s.modLoader f).plic = s.plic := rfl
@[simp] theorem modLoader_eng (f : Loader → Loader) (e0 : Nat) : (s.modLoader f).eng e0 = s.eng e0 := rfl
@[simp] theorem modLoader_chan (f : Loader → Loader) (p0 : Nat) : (s.modLoader f).chan p0 = s.chan p0 := rfl
@[simp] theorem modLoader_fcu (f : Loader → Loader) (c0 : Nat) : (s.modLoader f).fcu c0 = s.fcu c0 := rfl
@[simp] theorem modLoader_slc (f : Loader → Loader) (n0 : Nat) : (s.modLoader f).slc n0 = s.slc n0 := rfl
@[simp] theorem modLoader_reg (f : Loader → Loader) (r0 : RegId) (i0 j0 k0 : Nat) : (s.modLoader f).reg r0 i0 j0 k0 = s.reg r0 i0 j0 k0 := rfl
@[simp] theorem modLoader_shadowReg (f : Loader → Loader) (r0 : RegId) (i0 j0 k0 : Nat) : (s.modLoader f).shadowReg r0 i0 j0 k0 = s.shadowReg r0 i0 j0 k0 := rfl
@[simp] theorem modLoader_fld (f : Loader → Loader) (f0 : Fld) (i0 j0 k0 : Nat) : (s.modLoader f).fld f0 i0 j0 k0 = s.fld f0 i0 j0 k0 := rfl
@[simp] theorem modLoader_flag (f : Loader → Loader) (f0 : Fld) (i0 j0 k0 : Nat) : (s.modLoader f).flag f0 i0 j0 k0 = s.flag f0 i0 j0 k0 := rfl
@[simp] theorem modLoader_sfld (f : Loader → Loader) (f0 : Fld) (i0 j0 k0 : Nat) : (s.modLoader f).sfld f0 i0 j0 k0 = s.sfld f0 i0 j0 k0 := rfl
@[simp] theorem modLoader_cell (f : Loader → Loader) (n0 j0 : Nat) : (s.modLoader f).cell n0 j0 = s.cell n0 j0 := rfl
@[simp] theorem modLoader_now (f : Loader → Loader) : (s.modLoader f).now = s.now := rfl
@[simp] theorem modLoader_gangSize (f : Loader → Loader) (e0 : Nat) : (s.modLoader f).gangSize e0 = s.gangSize e0 := rfl
@[simp] theorem modLoader_leader (f : Loader → Loader) (e0 : Nat) : (s.modLoader f).leader e0 = s.leader e0 := rfl
@[simp] theorem modLoader_members (f : Loader → Loader) (e0 : Nat) : (s.modLoader f).members e0 = s.members e0 := rfl
@[simp] theorem modLoader_domOn (f : Loader → Loader) (d0 : Nat) : (s.modLoader f).domOn d0 = s.domOn d0 := rfl
@[simp] theorem modLoader_live (f : Loader → Loader) (d0 : Nat) : (s.modLoader f).live d0 = s.live d0 := rfl

/-! ### modSector -/

@[simp] theorem modSector_pending (x : Nat) (f : Sector → Sector) : (s.modSector x f).pending = s.pending := rfl
@[simp] theorem modSector_free (x : Nat) (f : Sector → Sector) : (s.modSector x f).free = s.free := rfl
@[simp] theorem modSector_time (x : Nat) (f : Sector → Sector) : (s.modSector x f).time = s.time := rfl
@[simp] theorem modSector_regs (x : Nat) (f : Sector → Sector) : (s.modSector x f).regs = s.regs := rfl
@[simp] theorem modSector_work (x : Nat) (f : Sector → Sector) : (s.modSector x f).work = s.work := rfl
@[simp] theorem modSector_shadow (x : Nat) (f : Sector → Sector) : (s.modSector x f).shadow = s.shadow := rfl
@[simp] theorem modSector_engines (x : Nat) (f : Sector → Sector) : (s.modSector x f).engines = s.engines := rfl
@[simp] theorem modSector_chans (x : Nat) (f : Sector → Sector) : (s.modSector x f).chans = s.chans := rfl
@[simp] theorem modSector_offs (x : Nat) (f : Sector → Sector) : (s.modSector x f).offs = s.offs := rfl
@[simp] theorem modSector_fcus (x : Nat) (f : Sector → Sector) : (s.modSector x f).fcus = s.fcus := rfl
@[simp] theorem modSector_slices (x : Nat) (f : Sector → Sector) : (s.modSector x f).slices = s.slices := rfl
@[simp] theorem modSector_slcs (x : Nat) (f : Sector → Sector) : (s.modSector x f).slcs = s.slcs := rfl
@[simp] theorem modSector_sbk (x : Nat) (f : Sector → Sector) : (s.modSector x f).sbk = s.sbk := rfl
@[simp] theorem modSector_flash (x : Nat) (f : Sector → Sector) : (s.modSector x f).flash = s.flash := rfl
@[simp] theorem modSector_smp (x : Nat) (f : Sector → Sector) : (s.modSector x f).smp = s.smp := rfl
@[simp] theorem modSector_log (x : Nat) (f : Sector → Sector) : (s.modSector x f).log = s.log := rfl
@[simp] theorem modSector_fuses (x : Nat) (f : Sector → Sector) : (s.modSector x f).fuses = s.fuses := rfl
@[simp] theorem modSector_frames (x : Nat) (f : Sector → Sector) : (s.modSector x f).frames = s.frames := rfl
@[simp] theorem modSector_ffs (x : Nat) (f : Sector → Sector) : (s.modSector x f).ffs = s.ffs := rfl
@[simp] theorem modSector_bm (x : Nat) (f : Sector → Sector) : (s.modSector x f).bm = s.bm := rfl
@[simp] theorem modSector_bmLast (x : Nat) (f : Sector → Sector) : (s.modSector x f).bmLast = s.bmLast := rfl
@[simp] theorem modSector_bmOut (x : Nat) (f : Sector → Sector) : (s.modSector x f).bmOut = s.bmOut := rfl
@[simp] theorem modSector_bmRet (x : Nat) (f : Sector → Sector) : (s.modSector x f).bmRet = s.bmRet := rfl
@[simp] theorem modSector_arith (x : Nat) (f : Sector → Sector) : (s.modSector x f).arith = s.arith := rfl
@[simp] theorem modSector_lineStop (x : Nat) (f : Sector → Sector) : (s.modSector x f).lineStop = s.lineStop := rfl
@[simp] theorem modSector_loader (x : Nat) (f : Sector → Sector) : (s.modSector x f).loader = s.loader := rfl
@[simp] theorem modSector_xacts (x : Nat) (f : Sector → Sector) : (s.modSector x f).xacts = s.xacts := rfl
@[simp] theorem modSector_rsps (x : Nat) (f : Sector → Sector) : (s.modSector x f).rsps = s.rsps := rfl
@[simp] theorem modSector_xnext (x : Nat) (f : Sector → Sector) : (s.modSector x f).xnext = s.xnext := rfl
@[simp] theorem modSector_dram (x : Nat) (f : Sector → Sector) : (s.modSector x f).dram = s.dram := rfl
@[simp] theorem modSector_dmcs (x : Nat) (f : Sector → Sector) : (s.modSector x f).dmcs = s.dmcs := rfl
@[simp] theorem modSector_ilvLocked (x : Nat) (f : Sector → Sector) : (s.modSector x f).ilvLocked = s.ilvLocked := rfl
@[simp] theorem modSector_ice (x : Nat) (f : Sector → Sector) : (s.modSector x f).ice = s.ice := rfl
@[simp] theorem modSector_lanes (x : Nat) (f : Sector → Sector) : (s.modSector x f).lanes = s.lanes := rfl
@[simp] theorem modSector_bridges (x : Nat) (f : Sector → Sector) : (s.modSector x f).bridges = s.bridges := rfl
@[simp] theorem modSector_tb (x : Nat) (f : Sector → Sector) : (s.modSector x f).tb = s.tb := rfl
@[simp] theorem modSector_flights (x : Nat) (f : Sector → Sector) : (s.modSector x f).flights = s.flights := rfl
@[simp] theorem modSector_fnext (x : Nat) (f : Sector → Sector) : (s.modSector x f).fnext = s.fnext := rfl
@[simp] theorem modSector_nis (x : Nat) (f : Sector → Sector) : (s.modSector x f).nis = s.nis := rfl
@[simp] theorem modSector_arbs (x : Nat) (f : Sector → Sector) : (s.modSector x f).arbs = s.arbs := rfl
@[simp] theorem modSector_rtc (x : Nat) (f : Sector → Sector) : (s.modSector x f).rtc = s.rtc := rfl
@[simp] theorem modSector_temps (x : Nat) (f : Sector → Sector) : (s.modSector x f).temps = s.temps := rfl
@[simp] theorem modSector_mb (x : Nat) (f : Sector → Sector) : (s.modSector x f).mb = s.mb := rfl
@[simp] theorem modSector_pwr (x : Nat) (f : Sector → Sector) : (s.modSector x f).pwr = s.pwr := rfl
@[simp] theorem modSector_io (x : Nat) (f : Sector → Sector) : (s.modSector x f).io = s.io := rfl
@[simp] theorem modSector_harts (x : Nat) (f : Sector → Sector) : (s.modSector x f).harts = s.harts := rfl
@[simp] theorem modSector_caches (x : Nat) (f : Sector → Sector) : (s.modSector x f).caches = s.caches := rfl
@[simp] theorem modSector_dbg (x : Nat) (f : Sector → Sector) : (s.modSector x f).dbg = s.dbg := rfl
@[simp] theorem modSector_err (x : Nat) (f : Sector → Sector) : (s.modSector x f).err = s.err := rfl
@[simp] theorem modSector_plic (x : Nat) (f : Sector → Sector) : (s.modSector x f).plic = s.plic := rfl
@[simp] theorem modSector_eng (x : Nat) (f : Sector → Sector) (e0 : Nat) : (s.modSector x f).eng e0 = s.eng e0 := rfl
@[simp] theorem modSector_chan (x : Nat) (f : Sector → Sector) (p0 : Nat) : (s.modSector x f).chan p0 = s.chan p0 := rfl
@[simp] theorem modSector_fcu (x : Nat) (f : Sector → Sector) (c0 : Nat) : (s.modSector x f).fcu c0 = s.fcu c0 := rfl
@[simp] theorem modSector_slc (x : Nat) (f : Sector → Sector) (n0 : Nat) : (s.modSector x f).slc n0 = s.slc n0 := rfl
@[simp] theorem modSector_reg (x : Nat) (f : Sector → Sector) (r0 : RegId) (i0 j0 k0 : Nat) : (s.modSector x f).reg r0 i0 j0 k0 = s.reg r0 i0 j0 k0 := rfl
@[simp] theorem modSector_shadowReg (x : Nat) (f : Sector → Sector) (r0 : RegId) (i0 j0 k0 : Nat) : (s.modSector x f).shadowReg r0 i0 j0 k0 = s.shadowReg r0 i0 j0 k0 := rfl
@[simp] theorem modSector_fld (x : Nat) (f : Sector → Sector) (f0 : Fld) (i0 j0 k0 : Nat) : (s.modSector x f).fld f0 i0 j0 k0 = s.fld f0 i0 j0 k0 := rfl
@[simp] theorem modSector_flag (x : Nat) (f : Sector → Sector) (f0 : Fld) (i0 j0 k0 : Nat) : (s.modSector x f).flag f0 i0 j0 k0 = s.flag f0 i0 j0 k0 := rfl
@[simp] theorem modSector_sfld (x : Nat) (f : Sector → Sector) (f0 : Fld) (i0 j0 k0 : Nat) : (s.modSector x f).sfld f0 i0 j0 k0 = s.sfld f0 i0 j0 k0 := rfl
@[simp] theorem modSector_cell (x : Nat) (f : Sector → Sector) (n0 j0 : Nat) : (s.modSector x f).cell n0 j0 = s.cell n0 j0 := rfl
@[simp] theorem modSector_now (x : Nat) (f : Sector → Sector) : (s.modSector x f).now = s.now := rfl
@[simp] theorem modSector_gangSize (x : Nat) (f : Sector → Sector) (e0 : Nat) : (s.modSector x f).gangSize e0 = s.gangSize e0 := rfl
@[simp] theorem modSector_leader (x : Nat) (f : Sector → Sector) (e0 : Nat) : (s.modSector x f).leader e0 = s.leader e0 := rfl
@[simp] theorem modSector_members (x : Nat) (f : Sector → Sector) (e0 : Nat) : (s.modSector x f).members e0 = s.members e0 := rfl
@[simp] theorem modSector_domOn (x : Nat) (f : Sector → Sector) (d0 : Nat) : (s.modSector x f).domOn d0 = s.domOn d0 := rfl
@[simp] theorem modSector_live (x : Nat) (f : Sector → Sector) (d0 : Nat) : (s.modSector x f).live d0 = s.live d0 := rfl

/-! ### modNi -/

@[simp] theorem modNi_pending (n : Nat) (f : Ni → Ni) : (s.modNi n f).pending = s.pending := rfl
@[simp] theorem modNi_free (n : Nat) (f : Ni → Ni) : (s.modNi n f).free = s.free := rfl
@[simp] theorem modNi_time (n : Nat) (f : Ni → Ni) : (s.modNi n f).time = s.time := rfl
@[simp] theorem modNi_regs (n : Nat) (f : Ni → Ni) : (s.modNi n f).regs = s.regs := rfl
@[simp] theorem modNi_work (n : Nat) (f : Ni → Ni) : (s.modNi n f).work = s.work := rfl
@[simp] theorem modNi_shadow (n : Nat) (f : Ni → Ni) : (s.modNi n f).shadow = s.shadow := rfl
@[simp] theorem modNi_engines (n : Nat) (f : Ni → Ni) : (s.modNi n f).engines = s.engines := rfl
@[simp] theorem modNi_chans (n : Nat) (f : Ni → Ni) : (s.modNi n f).chans = s.chans := rfl
@[simp] theorem modNi_offs (n : Nat) (f : Ni → Ni) : (s.modNi n f).offs = s.offs := rfl
@[simp] theorem modNi_fcus (n : Nat) (f : Ni → Ni) : (s.modNi n f).fcus = s.fcus := rfl
@[simp] theorem modNi_slices (n : Nat) (f : Ni → Ni) : (s.modNi n f).slices = s.slices := rfl
@[simp] theorem modNi_slcs (n : Nat) (f : Ni → Ni) : (s.modNi n f).slcs = s.slcs := rfl
@[simp] theorem modNi_sbk (n : Nat) (f : Ni → Ni) : (s.modNi n f).sbk = s.sbk := rfl
@[simp] theorem modNi_flash (n : Nat) (f : Ni → Ni) : (s.modNi n f).flash = s.flash := rfl
@[simp] theorem modNi_smp (n : Nat) (f : Ni → Ni) : (s.modNi n f).smp = s.smp := rfl
@[simp] theorem modNi_log (n : Nat) (f : Ni → Ni) : (s.modNi n f).log = s.log := rfl
@[simp] theorem modNi_fuses (n : Nat) (f : Ni → Ni) : (s.modNi n f).fuses = s.fuses := rfl
@[simp] theorem modNi_frames (n : Nat) (f : Ni → Ni) : (s.modNi n f).frames = s.frames := rfl
@[simp] theorem modNi_ffs (n : Nat) (f : Ni → Ni) : (s.modNi n f).ffs = s.ffs := rfl
@[simp] theorem modNi_bm (n : Nat) (f : Ni → Ni) : (s.modNi n f).bm = s.bm := rfl
@[simp] theorem modNi_bmLast (n : Nat) (f : Ni → Ni) : (s.modNi n f).bmLast = s.bmLast := rfl
@[simp] theorem modNi_bmOut (n : Nat) (f : Ni → Ni) : (s.modNi n f).bmOut = s.bmOut := rfl
@[simp] theorem modNi_bmRet (n : Nat) (f : Ni → Ni) : (s.modNi n f).bmRet = s.bmRet := rfl
@[simp] theorem modNi_arith (n : Nat) (f : Ni → Ni) : (s.modNi n f).arith = s.arith := rfl
@[simp] theorem modNi_lineStop (n : Nat) (f : Ni → Ni) : (s.modNi n f).lineStop = s.lineStop := rfl
@[simp] theorem modNi_sectors (n : Nat) (f : Ni → Ni) : (s.modNi n f).sectors = s.sectors := rfl
@[simp] theorem modNi_loader (n : Nat) (f : Ni → Ni) : (s.modNi n f).loader = s.loader := rfl
@[simp] theorem modNi_xacts (n : Nat) (f : Ni → Ni) : (s.modNi n f).xacts = s.xacts := rfl
@[simp] theorem modNi_rsps (n : Nat) (f : Ni → Ni) : (s.modNi n f).rsps = s.rsps := rfl
@[simp] theorem modNi_xnext (n : Nat) (f : Ni → Ni) : (s.modNi n f).xnext = s.xnext := rfl
@[simp] theorem modNi_dram (n : Nat) (f : Ni → Ni) : (s.modNi n f).dram = s.dram := rfl
@[simp] theorem modNi_dmcs (n : Nat) (f : Ni → Ni) : (s.modNi n f).dmcs = s.dmcs := rfl
@[simp] theorem modNi_ilvLocked (n : Nat) (f : Ni → Ni) : (s.modNi n f).ilvLocked = s.ilvLocked := rfl
@[simp] theorem modNi_ice (n : Nat) (f : Ni → Ni) : (s.modNi n f).ice = s.ice := rfl
@[simp] theorem modNi_lanes (n : Nat) (f : Ni → Ni) : (s.modNi n f).lanes = s.lanes := rfl
@[simp] theorem modNi_bridges (n : Nat) (f : Ni → Ni) : (s.modNi n f).bridges = s.bridges := rfl
@[simp] theorem modNi_tb (n : Nat) (f : Ni → Ni) : (s.modNi n f).tb = s.tb := rfl
@[simp] theorem modNi_flights (n : Nat) (f : Ni → Ni) : (s.modNi n f).flights = s.flights := rfl
@[simp] theorem modNi_fnext (n : Nat) (f : Ni → Ni) : (s.modNi n f).fnext = s.fnext := rfl
@[simp] theorem modNi_arbs (n : Nat) (f : Ni → Ni) : (s.modNi n f).arbs = s.arbs := rfl
@[simp] theorem modNi_rtc (n : Nat) (f : Ni → Ni) : (s.modNi n f).rtc = s.rtc := rfl
@[simp] theorem modNi_temps (n : Nat) (f : Ni → Ni) : (s.modNi n f).temps = s.temps := rfl
@[simp] theorem modNi_mb (n : Nat) (f : Ni → Ni) : (s.modNi n f).mb = s.mb := rfl
@[simp] theorem modNi_pwr (n : Nat) (f : Ni → Ni) : (s.modNi n f).pwr = s.pwr := rfl
@[simp] theorem modNi_io (n : Nat) (f : Ni → Ni) : (s.modNi n f).io = s.io := rfl
@[simp] theorem modNi_harts (n : Nat) (f : Ni → Ni) : (s.modNi n f).harts = s.harts := rfl
@[simp] theorem modNi_caches (n : Nat) (f : Ni → Ni) : (s.modNi n f).caches = s.caches := rfl
@[simp] theorem modNi_dbg (n : Nat) (f : Ni → Ni) : (s.modNi n f).dbg = s.dbg := rfl
@[simp] theorem modNi_err (n : Nat) (f : Ni → Ni) : (s.modNi n f).err = s.err := rfl
@[simp] theorem modNi_plic (n : Nat) (f : Ni → Ni) : (s.modNi n f).plic = s.plic := rfl
@[simp] theorem modNi_eng (n : Nat) (f : Ni → Ni) (e0 : Nat) : (s.modNi n f).eng e0 = s.eng e0 := rfl
@[simp] theorem modNi_chan (n : Nat) (f : Ni → Ni) (p0 : Nat) : (s.modNi n f).chan p0 = s.chan p0 := rfl
@[simp] theorem modNi_fcu (n : Nat) (f : Ni → Ni) (c0 : Nat) : (s.modNi n f).fcu c0 = s.fcu c0 := rfl
@[simp] theorem modNi_slc (n : Nat) (f : Ni → Ni) (n0 : Nat) : (s.modNi n f).slc n0 = s.slc n0 := rfl
@[simp] theorem modNi_reg (n : Nat) (f : Ni → Ni) (r0 : RegId) (i0 j0 k0 : Nat) : (s.modNi n f).reg r0 i0 j0 k0 = s.reg r0 i0 j0 k0 := rfl
@[simp] theorem modNi_shadowReg (n : Nat) (f : Ni → Ni) (r0 : RegId) (i0 j0 k0 : Nat) : (s.modNi n f).shadowReg r0 i0 j0 k0 = s.shadowReg r0 i0 j0 k0 := rfl
@[simp] theorem modNi_fld (n : Nat) (f : Ni → Ni) (f0 : Fld) (i0 j0 k0 : Nat) : (s.modNi n f).fld f0 i0 j0 k0 = s.fld f0 i0 j0 k0 := rfl
@[simp] theorem modNi_flag (n : Nat) (f : Ni → Ni) (f0 : Fld) (i0 j0 k0 : Nat) : (s.modNi n f).flag f0 i0 j0 k0 = s.flag f0 i0 j0 k0 := rfl
@[simp] theorem modNi_sfld (n : Nat) (f : Ni → Ni) (f0 : Fld) (i0 j0 k0 : Nat) : (s.modNi n f).sfld f0 i0 j0 k0 = s.sfld f0 i0 j0 k0 := rfl
@[simp] theorem modNi_cell (n : Nat) (f : Ni → Ni) (n0 j0 : Nat) : (s.modNi n f).cell n0 j0 = s.cell n0 j0 := rfl
@[simp] theorem modNi_now (n : Nat) (f : Ni → Ni) : (s.modNi n f).now = s.now := rfl
@[simp] theorem modNi_gangSize (n : Nat) (f : Ni → Ni) (e0 : Nat) : (s.modNi n f).gangSize e0 = s.gangSize e0 := rfl
@[simp] theorem modNi_leader (n : Nat) (f : Ni → Ni) (e0 : Nat) : (s.modNi n f).leader e0 = s.leader e0 := rfl
@[simp] theorem modNi_members (n : Nat) (f : Ni → Ni) (e0 : Nat) : (s.modNi n f).members e0 = s.members e0 := rfl
@[simp] theorem modNi_domOn (n : Nat) (f : Ni → Ni) (d0 : Nat) : (s.modNi n f).domOn d0 = s.domOn d0 := rfl
@[simp] theorem modNi_live (n : Nat) (f : Ni → Ni) (d0 : Nat) : (s.modNi n f).live d0 = s.live d0 := rfl

/-! ### modArb -/

@[simp] theorem modArb_pending (n : Nat) (f : Arb → Arb) : (s.modArb n f).pending = s.pending := rfl
@[simp] theorem modArb_free (n : Nat) (f : Arb → Arb) : (s.modArb n f).free = s.free := rfl
@[simp] theorem modArb_time (n : Nat) (f : Arb → Arb) : (s.modArb n f).time = s.time := rfl
@[simp] theorem modArb_regs (n : Nat) (f : Arb → Arb) : (s.modArb n f).regs = s.regs := rfl
@[simp] theorem modArb_work (n : Nat) (f : Arb → Arb) : (s.modArb n f).work = s.work := rfl
@[simp] theorem modArb_shadow (n : Nat) (f : Arb → Arb) : (s.modArb n f).shadow = s.shadow := rfl
@[simp] theorem modArb_engines (n : Nat) (f : Arb → Arb) : (s.modArb n f).engines = s.engines := rfl
@[simp] theorem modArb_chans (n : Nat) (f : Arb → Arb) : (s.modArb n f).chans = s.chans := rfl
@[simp] theorem modArb_offs (n : Nat) (f : Arb → Arb) : (s.modArb n f).offs = s.offs := rfl
@[simp] theorem modArb_fcus (n : Nat) (f : Arb → Arb) : (s.modArb n f).fcus = s.fcus := rfl
@[simp] theorem modArb_slices (n : Nat) (f : Arb → Arb) : (s.modArb n f).slices = s.slices := rfl
@[simp] theorem modArb_slcs (n : Nat) (f : Arb → Arb) : (s.modArb n f).slcs = s.slcs := rfl
@[simp] theorem modArb_sbk (n : Nat) (f : Arb → Arb) : (s.modArb n f).sbk = s.sbk := rfl
@[simp] theorem modArb_flash (n : Nat) (f : Arb → Arb) : (s.modArb n f).flash = s.flash := rfl
@[simp] theorem modArb_smp (n : Nat) (f : Arb → Arb) : (s.modArb n f).smp = s.smp := rfl
@[simp] theorem modArb_log (n : Nat) (f : Arb → Arb) : (s.modArb n f).log = s.log := rfl
@[simp] theorem modArb_fuses (n : Nat) (f : Arb → Arb) : (s.modArb n f).fuses = s.fuses := rfl
@[simp] theorem modArb_frames (n : Nat) (f : Arb → Arb) : (s.modArb n f).frames = s.frames := rfl
@[simp] theorem modArb_ffs (n : Nat) (f : Arb → Arb) : (s.modArb n f).ffs = s.ffs := rfl
@[simp] theorem modArb_bm (n : Nat) (f : Arb → Arb) : (s.modArb n f).bm = s.bm := rfl
@[simp] theorem modArb_bmLast (n : Nat) (f : Arb → Arb) : (s.modArb n f).bmLast = s.bmLast := rfl
@[simp] theorem modArb_bmOut (n : Nat) (f : Arb → Arb) : (s.modArb n f).bmOut = s.bmOut := rfl
@[simp] theorem modArb_bmRet (n : Nat) (f : Arb → Arb) : (s.modArb n f).bmRet = s.bmRet := rfl
@[simp] theorem modArb_arith (n : Nat) (f : Arb → Arb) : (s.modArb n f).arith = s.arith := rfl
@[simp] theorem modArb_lineStop (n : Nat) (f : Arb → Arb) : (s.modArb n f).lineStop = s.lineStop := rfl
@[simp] theorem modArb_sectors (n : Nat) (f : Arb → Arb) : (s.modArb n f).sectors = s.sectors := rfl
@[simp] theorem modArb_loader (n : Nat) (f : Arb → Arb) : (s.modArb n f).loader = s.loader := rfl
@[simp] theorem modArb_xacts (n : Nat) (f : Arb → Arb) : (s.modArb n f).xacts = s.xacts := rfl
@[simp] theorem modArb_rsps (n : Nat) (f : Arb → Arb) : (s.modArb n f).rsps = s.rsps := rfl
@[simp] theorem modArb_xnext (n : Nat) (f : Arb → Arb) : (s.modArb n f).xnext = s.xnext := rfl
@[simp] theorem modArb_dram (n : Nat) (f : Arb → Arb) : (s.modArb n f).dram = s.dram := rfl
@[simp] theorem modArb_dmcs (n : Nat) (f : Arb → Arb) : (s.modArb n f).dmcs = s.dmcs := rfl
@[simp] theorem modArb_ilvLocked (n : Nat) (f : Arb → Arb) : (s.modArb n f).ilvLocked = s.ilvLocked := rfl
@[simp] theorem modArb_ice (n : Nat) (f : Arb → Arb) : (s.modArb n f).ice = s.ice := rfl
@[simp] theorem modArb_lanes (n : Nat) (f : Arb → Arb) : (s.modArb n f).lanes = s.lanes := rfl
@[simp] theorem modArb_bridges (n : Nat) (f : Arb → Arb) : (s.modArb n f).bridges = s.bridges := rfl
@[simp] theorem modArb_tb (n : Nat) (f : Arb → Arb) : (s.modArb n f).tb = s.tb := rfl
@[simp] theorem modArb_flights (n : Nat) (f : Arb → Arb) : (s.modArb n f).flights = s.flights := rfl
@[simp] theorem modArb_fnext (n : Nat) (f : Arb → Arb) : (s.modArb n f).fnext = s.fnext := rfl
@[simp] theorem modArb_nis (n : Nat) (f : Arb → Arb) : (s.modArb n f).nis = s.nis := rfl
@[simp] theorem modArb_rtc (n : Nat) (f : Arb → Arb) : (s.modArb n f).rtc = s.rtc := rfl
@[simp] theorem modArb_temps (n : Nat) (f : Arb → Arb) : (s.modArb n f).temps = s.temps := rfl
@[simp] theorem modArb_mb (n : Nat) (f : Arb → Arb) : (s.modArb n f).mb = s.mb := rfl
@[simp] theorem modArb_pwr (n : Nat) (f : Arb → Arb) : (s.modArb n f).pwr = s.pwr := rfl
@[simp] theorem modArb_io (n : Nat) (f : Arb → Arb) : (s.modArb n f).io = s.io := rfl
@[simp] theorem modArb_harts (n : Nat) (f : Arb → Arb) : (s.modArb n f).harts = s.harts := rfl
@[simp] theorem modArb_caches (n : Nat) (f : Arb → Arb) : (s.modArb n f).caches = s.caches := rfl
@[simp] theorem modArb_dbg (n : Nat) (f : Arb → Arb) : (s.modArb n f).dbg = s.dbg := rfl
@[simp] theorem modArb_err (n : Nat) (f : Arb → Arb) : (s.modArb n f).err = s.err := rfl
@[simp] theorem modArb_plic (n : Nat) (f : Arb → Arb) : (s.modArb n f).plic = s.plic := rfl
@[simp] theorem modArb_eng (n : Nat) (f : Arb → Arb) (e0 : Nat) : (s.modArb n f).eng e0 = s.eng e0 := rfl
@[simp] theorem modArb_chan (n : Nat) (f : Arb → Arb) (p0 : Nat) : (s.modArb n f).chan p0 = s.chan p0 := rfl
@[simp] theorem modArb_fcu (n : Nat) (f : Arb → Arb) (c0 : Nat) : (s.modArb n f).fcu c0 = s.fcu c0 := rfl
@[simp] theorem modArb_slc (n : Nat) (f : Arb → Arb) (n0 : Nat) : (s.modArb n f).slc n0 = s.slc n0 := rfl
@[simp] theorem modArb_reg (n : Nat) (f : Arb → Arb) (r0 : RegId) (i0 j0 k0 : Nat) : (s.modArb n f).reg r0 i0 j0 k0 = s.reg r0 i0 j0 k0 := rfl
@[simp] theorem modArb_shadowReg (n : Nat) (f : Arb → Arb) (r0 : RegId) (i0 j0 k0 : Nat) : (s.modArb n f).shadowReg r0 i0 j0 k0 = s.shadowReg r0 i0 j0 k0 := rfl
@[simp] theorem modArb_fld (n : Nat) (f : Arb → Arb) (f0 : Fld) (i0 j0 k0 : Nat) : (s.modArb n f).fld f0 i0 j0 k0 = s.fld f0 i0 j0 k0 := rfl
@[simp] theorem modArb_flag (n : Nat) (f : Arb → Arb) (f0 : Fld) (i0 j0 k0 : Nat) : (s.modArb n f).flag f0 i0 j0 k0 = s.flag f0 i0 j0 k0 := rfl
@[simp] theorem modArb_sfld (n : Nat) (f : Arb → Arb) (f0 : Fld) (i0 j0 k0 : Nat) : (s.modArb n f).sfld f0 i0 j0 k0 = s.sfld f0 i0 j0 k0 := rfl
@[simp] theorem modArb_cell (n : Nat) (f : Arb → Arb) (n0 j0 : Nat) : (s.modArb n f).cell n0 j0 = s.cell n0 j0 := rfl
@[simp] theorem modArb_now (n : Nat) (f : Arb → Arb) : (s.modArb n f).now = s.now := rfl
@[simp] theorem modArb_gangSize (n : Nat) (f : Arb → Arb) (e0 : Nat) : (s.modArb n f).gangSize e0 = s.gangSize e0 := rfl
@[simp] theorem modArb_leader (n : Nat) (f : Arb → Arb) (e0 : Nat) : (s.modArb n f).leader e0 = s.leader e0 := rfl
@[simp] theorem modArb_members (n : Nat) (f : Arb → Arb) (e0 : Nat) : (s.modArb n f).members e0 = s.members e0 := rfl
@[simp] theorem modArb_domOn (n : Nat) (f : Arb → Arb) (d0 : Nat) : (s.modArb n f).domOn d0 = s.domOn d0 := rfl
@[simp] theorem modArb_live (n : Nat) (f : Arb → Arb) (d0 : Nat) : (s.modArb n f).live d0 = s.live d0 := rfl

/-! ### modPwr -/

@[simp] theorem modPwr_pending (f : Power → Power) : (s.modPwr f).pending = s.pending := rfl
@[simp] theorem modPwr_free (f : Power → Power) : (s.modPwr f).free = s.free := rfl
@[simp] theorem modPwr_time (f : Power → Power) : (s.modPwr f).time = s.time := rfl
@[simp] theorem modPwr_regs (f : Power → Power) : (s.modPwr f).regs = s.regs := rfl
@[simp] theorem modPwr_work (f : Power → Power) : (s.modPwr f).work = s.work := rfl
@[simp] theorem modPwr_shadow (f : Power → Power) : (s.modPwr f).shadow = s.shadow := rfl
@[simp] theorem modPwr_engines (f : Power → Power) : (s.modPwr f).engines = s.engines := rfl
@[simp] theorem modPwr_chans (f : Power → Power) : (s.modPwr f).chans = s.chans := rfl
@[simp] theorem modPwr_offs (f : Power → Power) : (s.modPwr f).offs = s.offs := rfl
@[simp] theorem modPwr_fcus (f : Power → Power) : (s.modPwr f).fcus = s.fcus := rfl
@[simp] theorem modPwr_slices (f : Power → Power) : (s.modPwr f).slices = s.slices := rfl
@[simp] theorem modPwr_slcs (f : Power → Power) : (s.modPwr f).slcs = s.slcs := rfl
@[simp] theorem modPwr_sbk (f : Power → Power) : (s.modPwr f).sbk = s.sbk := rfl
@[simp] theorem modPwr_flash (f : Power → Power) : (s.modPwr f).flash = s.flash := rfl
@[simp] theorem modPwr_smp (f : Power → Power) : (s.modPwr f).smp = s.smp := rfl
@[simp] theorem modPwr_log (f : Power → Power) : (s.modPwr f).log = s.log := rfl
@[simp] theorem modPwr_fuses (f : Power → Power) : (s.modPwr f).fuses = s.fuses := rfl
@[simp] theorem modPwr_frames (f : Power → Power) : (s.modPwr f).frames = s.frames := rfl
@[simp] theorem modPwr_ffs (f : Power → Power) : (s.modPwr f).ffs = s.ffs := rfl
@[simp] theorem modPwr_bm (f : Power → Power) : (s.modPwr f).bm = s.bm := rfl
@[simp] theorem modPwr_bmLast (f : Power → Power) : (s.modPwr f).bmLast = s.bmLast := rfl
@[simp] theorem modPwr_bmOut (f : Power → Power) : (s.modPwr f).bmOut = s.bmOut := rfl
@[simp] theorem modPwr_bmRet (f : Power → Power) : (s.modPwr f).bmRet = s.bmRet := rfl
@[simp] theorem modPwr_arith (f : Power → Power) : (s.modPwr f).arith = s.arith := rfl
@[simp] theorem modPwr_lineStop (f : Power → Power) : (s.modPwr f).lineStop = s.lineStop := rfl
@[simp] theorem modPwr_sectors (f : Power → Power) : (s.modPwr f).sectors = s.sectors := rfl
@[simp] theorem modPwr_loader (f : Power → Power) : (s.modPwr f).loader = s.loader := rfl
@[simp] theorem modPwr_xacts (f : Power → Power) : (s.modPwr f).xacts = s.xacts := rfl
@[simp] theorem modPwr_rsps (f : Power → Power) : (s.modPwr f).rsps = s.rsps := rfl
@[simp] theorem modPwr_xnext (f : Power → Power) : (s.modPwr f).xnext = s.xnext := rfl
@[simp] theorem modPwr_dram (f : Power → Power) : (s.modPwr f).dram = s.dram := rfl
@[simp] theorem modPwr_dmcs (f : Power → Power) : (s.modPwr f).dmcs = s.dmcs := rfl
@[simp] theorem modPwr_ilvLocked (f : Power → Power) : (s.modPwr f).ilvLocked = s.ilvLocked := rfl
@[simp] theorem modPwr_ice (f : Power → Power) : (s.modPwr f).ice = s.ice := rfl
@[simp] theorem modPwr_lanes (f : Power → Power) : (s.modPwr f).lanes = s.lanes := rfl
@[simp] theorem modPwr_bridges (f : Power → Power) : (s.modPwr f).bridges = s.bridges := rfl
@[simp] theorem modPwr_tb (f : Power → Power) : (s.modPwr f).tb = s.tb := rfl
@[simp] theorem modPwr_flights (f : Power → Power) : (s.modPwr f).flights = s.flights := rfl
@[simp] theorem modPwr_fnext (f : Power → Power) : (s.modPwr f).fnext = s.fnext := rfl
@[simp] theorem modPwr_nis (f : Power → Power) : (s.modPwr f).nis = s.nis := rfl
@[simp] theorem modPwr_arbs (f : Power → Power) : (s.modPwr f).arbs = s.arbs := rfl
@[simp] theorem modPwr_rtc (f : Power → Power) : (s.modPwr f).rtc = s.rtc := rfl
@[simp] theorem modPwr_temps (f : Power → Power) : (s.modPwr f).temps = s.temps := rfl
@[simp] theorem modPwr_mb (f : Power → Power) : (s.modPwr f).mb = s.mb := rfl
@[simp] theorem modPwr_io (f : Power → Power) : (s.modPwr f).io = s.io := rfl
@[simp] theorem modPwr_harts (f : Power → Power) : (s.modPwr f).harts = s.harts := rfl
@[simp] theorem modPwr_caches (f : Power → Power) : (s.modPwr f).caches = s.caches := rfl
@[simp] theorem modPwr_dbg (f : Power → Power) : (s.modPwr f).dbg = s.dbg := rfl
@[simp] theorem modPwr_err (f : Power → Power) : (s.modPwr f).err = s.err := rfl
@[simp] theorem modPwr_plic (f : Power → Power) : (s.modPwr f).plic = s.plic := rfl
@[simp] theorem modPwr_eng (f : Power → Power) (e0 : Nat) : (s.modPwr f).eng e0 = s.eng e0 := rfl
@[simp] theorem modPwr_chan (f : Power → Power) (p0 : Nat) : (s.modPwr f).chan p0 = s.chan p0 := rfl
@[simp] theorem modPwr_fcu (f : Power → Power) (c0 : Nat) : (s.modPwr f).fcu c0 = s.fcu c0 := rfl
@[simp] theorem modPwr_slc (f : Power → Power) (n0 : Nat) : (s.modPwr f).slc n0 = s.slc n0 := rfl
@[simp] theorem modPwr_reg (f : Power → Power) (r0 : RegId) (i0 j0 k0 : Nat) : (s.modPwr f).reg r0 i0 j0 k0 = s.reg r0 i0 j0 k0 := rfl
@[simp] theorem modPwr_shadowReg (f : Power → Power) (r0 : RegId) (i0 j0 k0 : Nat) : (s.modPwr f).shadowReg r0 i0 j0 k0 = s.shadowReg r0 i0 j0 k0 := rfl
@[simp] theorem modPwr_fld (f : Power → Power) (f0 : Fld) (i0 j0 k0 : Nat) : (s.modPwr f).fld f0 i0 j0 k0 = s.fld f0 i0 j0 k0 := rfl
@[simp] theorem modPwr_flag (f : Power → Power) (f0 : Fld) (i0 j0 k0 : Nat) : (s.modPwr f).flag f0 i0 j0 k0 = s.flag f0 i0 j0 k0 := rfl
@[simp] theorem modPwr_sfld (f : Power → Power) (f0 : Fld) (i0 j0 k0 : Nat) : (s.modPwr f).sfld f0 i0 j0 k0 = s.sfld f0 i0 j0 k0 := rfl
@[simp] theorem modPwr_cell (f : Power → Power) (n0 j0 : Nat) : (s.modPwr f).cell n0 j0 = s.cell n0 j0 := rfl
@[simp] theorem modPwr_now (f : Power → Power) : (s.modPwr f).now = s.now := rfl
@[simp] theorem modPwr_gangSize (f : Power → Power) (e0 : Nat) : (s.modPwr f).gangSize e0 = s.gangSize e0 := rfl
@[simp] theorem modPwr_leader (f : Power → Power) (e0 : Nat) : (s.modPwr f).leader e0 = s.leader e0 := rfl
@[simp] theorem modPwr_members (f : Power → Power) (e0 : Nat) : (s.modPwr f).members e0 = s.members e0 := rfl
@[simp] theorem modPwr_domOn (f : Power → Power) (d0 : Nat) : (s.modPwr f).domOn d0 = s.domOn d0 := rfl
@[simp] theorem modPwr_live (f : Power → Power) (d0 : Nat) : (s.modPwr f).live d0 = s.live d0 := rfl

/-! ### modMb -/

@[simp] theorem modMb_pending (f : Mbana → Mbana) : (s.modMb f).pending = s.pending := rfl
@[simp] theorem modMb_free (f : Mbana → Mbana) : (s.modMb f).free = s.free := rfl
@[simp] theorem modMb_time (f : Mbana → Mbana) : (s.modMb f).time = s.time := rfl
@[simp] theorem modMb_regs (f : Mbana → Mbana) : (s.modMb f).regs = s.regs := rfl
@[simp] theorem modMb_work (f : Mbana → Mbana) : (s.modMb f).work = s.work := rfl
@[simp] theorem modMb_shadow (f : Mbana → Mbana) : (s.modMb f).shadow = s.shadow := rfl
@[simp] theorem modMb_engines (f : Mbana → Mbana) : (s.modMb f).engines = s.engines := rfl
@[simp] theorem modMb_chans (f : Mbana → Mbana) : (s.modMb f).chans = s.chans := rfl
@[simp] theorem modMb_offs (f : Mbana → Mbana) : (s.modMb f).offs = s.offs := rfl
@[simp] theorem modMb_fcus (f : Mbana → Mbana) : (s.modMb f).fcus = s.fcus := rfl
@[simp] theorem modMb_slices (f : Mbana → Mbana) : (s.modMb f).slices = s.slices := rfl
@[simp] theorem modMb_slcs (f : Mbana → Mbana) : (s.modMb f).slcs = s.slcs := rfl
@[simp] theorem modMb_sbk (f : Mbana → Mbana) : (s.modMb f).sbk = s.sbk := rfl
@[simp] theorem modMb_flash (f : Mbana → Mbana) : (s.modMb f).flash = s.flash := rfl
@[simp] theorem modMb_smp (f : Mbana → Mbana) : (s.modMb f).smp = s.smp := rfl
@[simp] theorem modMb_log (f : Mbana → Mbana) : (s.modMb f).log = s.log := rfl
@[simp] theorem modMb_fuses (f : Mbana → Mbana) : (s.modMb f).fuses = s.fuses := rfl
@[simp] theorem modMb_frames (f : Mbana → Mbana) : (s.modMb f).frames = s.frames := rfl
@[simp] theorem modMb_ffs (f : Mbana → Mbana) : (s.modMb f).ffs = s.ffs := rfl
@[simp] theorem modMb_bm (f : Mbana → Mbana) : (s.modMb f).bm = s.bm := rfl
@[simp] theorem modMb_bmLast (f : Mbana → Mbana) : (s.modMb f).bmLast = s.bmLast := rfl
@[simp] theorem modMb_bmOut (f : Mbana → Mbana) : (s.modMb f).bmOut = s.bmOut := rfl
@[simp] theorem modMb_bmRet (f : Mbana → Mbana) : (s.modMb f).bmRet = s.bmRet := rfl
@[simp] theorem modMb_arith (f : Mbana → Mbana) : (s.modMb f).arith = s.arith := rfl
@[simp] theorem modMb_lineStop (f : Mbana → Mbana) : (s.modMb f).lineStop = s.lineStop := rfl
@[simp] theorem modMb_sectors (f : Mbana → Mbana) : (s.modMb f).sectors = s.sectors := rfl
@[simp] theorem modMb_loader (f : Mbana → Mbana) : (s.modMb f).loader = s.loader := rfl
@[simp] theorem modMb_xacts (f : Mbana → Mbana) : (s.modMb f).xacts = s.xacts := rfl
@[simp] theorem modMb_rsps (f : Mbana → Mbana) : (s.modMb f).rsps = s.rsps := rfl
@[simp] theorem modMb_xnext (f : Mbana → Mbana) : (s.modMb f).xnext = s.xnext := rfl
@[simp] theorem modMb_dram (f : Mbana → Mbana) : (s.modMb f).dram = s.dram := rfl
@[simp] theorem modMb_dmcs (f : Mbana → Mbana) : (s.modMb f).dmcs = s.dmcs := rfl
@[simp] theorem modMb_ilvLocked (f : Mbana → Mbana) : (s.modMb f).ilvLocked = s.ilvLocked := rfl
@[simp] theorem modMb_ice (f : Mbana → Mbana) : (s.modMb f).ice = s.ice := rfl
@[simp] theorem modMb_lanes (f : Mbana → Mbana) : (s.modMb f).lanes = s.lanes := rfl
@[simp] theorem modMb_bridges (f : Mbana → Mbana) : (s.modMb f).bridges = s.bridges := rfl
@[simp] theorem modMb_tb (f : Mbana → Mbana) : (s.modMb f).tb = s.tb := rfl
@[simp] theorem modMb_flights (f : Mbana → Mbana) : (s.modMb f).flights = s.flights := rfl
@[simp] theorem modMb_fnext (f : Mbana → Mbana) : (s.modMb f).fnext = s.fnext := rfl
@[simp] theorem modMb_nis (f : Mbana → Mbana) : (s.modMb f).nis = s.nis := rfl
@[simp] theorem modMb_arbs (f : Mbana → Mbana) : (s.modMb f).arbs = s.arbs := rfl
@[simp] theorem modMb_rtc (f : Mbana → Mbana) : (s.modMb f).rtc = s.rtc := rfl
@[simp] theorem modMb_temps (f : Mbana → Mbana) : (s.modMb f).temps = s.temps := rfl
@[simp] theorem modMb_pwr (f : Mbana → Mbana) : (s.modMb f).pwr = s.pwr := rfl
@[simp] theorem modMb_io (f : Mbana → Mbana) : (s.modMb f).io = s.io := rfl
@[simp] theorem modMb_harts (f : Mbana → Mbana) : (s.modMb f).harts = s.harts := rfl
@[simp] theorem modMb_caches (f : Mbana → Mbana) : (s.modMb f).caches = s.caches := rfl
@[simp] theorem modMb_dbg (f : Mbana → Mbana) : (s.modMb f).dbg = s.dbg := rfl
@[simp] theorem modMb_err (f : Mbana → Mbana) : (s.modMb f).err = s.err := rfl
@[simp] theorem modMb_plic (f : Mbana → Mbana) : (s.modMb f).plic = s.plic := rfl
@[simp] theorem modMb_eng (f : Mbana → Mbana) (e0 : Nat) : (s.modMb f).eng e0 = s.eng e0 := rfl
@[simp] theorem modMb_chan (f : Mbana → Mbana) (p0 : Nat) : (s.modMb f).chan p0 = s.chan p0 := rfl
@[simp] theorem modMb_fcu (f : Mbana → Mbana) (c0 : Nat) : (s.modMb f).fcu c0 = s.fcu c0 := rfl
@[simp] theorem modMb_slc (f : Mbana → Mbana) (n0 : Nat) : (s.modMb f).slc n0 = s.slc n0 := rfl
@[simp] theorem modMb_reg (f : Mbana → Mbana) (r0 : RegId) (i0 j0 k0 : Nat) : (s.modMb f).reg r0 i0 j0 k0 = s.reg r0 i0 j0 k0 := rfl
@[simp] theorem modMb_shadowReg (f : Mbana → Mbana) (r0 : RegId) (i0 j0 k0 : Nat) : (s.modMb f).shadowReg r0 i0 j0 k0 = s.shadowReg r0 i0 j0 k0 := rfl
@[simp] theorem modMb_fld (f : Mbana → Mbana) (f0 : Fld) (i0 j0 k0 : Nat) : (s.modMb f).fld f0 i0 j0 k0 = s.fld f0 i0 j0 k0 := rfl
@[simp] theorem modMb_flag (f : Mbana → Mbana) (f0 : Fld) (i0 j0 k0 : Nat) : (s.modMb f).flag f0 i0 j0 k0 = s.flag f0 i0 j0 k0 := rfl
@[simp] theorem modMb_sfld (f : Mbana → Mbana) (f0 : Fld) (i0 j0 k0 : Nat) : (s.modMb f).sfld f0 i0 j0 k0 = s.sfld f0 i0 j0 k0 := rfl
@[simp] theorem modMb_cell (f : Mbana → Mbana) (n0 j0 : Nat) : (s.modMb f).cell n0 j0 = s.cell n0 j0 := rfl
@[simp] theorem modMb_now (f : Mbana → Mbana) : (s.modMb f).now = s.now := rfl
@[simp] theorem modMb_gangSize (f : Mbana → Mbana) (e0 : Nat) : (s.modMb f).gangSize e0 = s.gangSize e0 := rfl
@[simp] theorem modMb_leader (f : Mbana → Mbana) (e0 : Nat) : (s.modMb f).leader e0 = s.leader e0 := rfl
@[simp] theorem modMb_members (f : Mbana → Mbana) (e0 : Nat) : (s.modMb f).members e0 = s.members e0 := rfl
@[simp] theorem modMb_domOn (f : Mbana → Mbana) (d0 : Nat) : (s.modMb f).domOn d0 = s.domOn d0 := rfl
@[simp] theorem modMb_live (f : Mbana → Mbana) (d0 : Nat) : (s.modMb f).live d0 = s.live d0 := rfl

/-! ### modSmp -/

@[simp] theorem modSmp_pending (f : Smp → Smp) : (s.modSmp f).pending = s.pending := rfl
@[simp] theorem modSmp_free (f : Smp → Smp) : (s.modSmp f).free = s.free := rfl
@[simp] theorem modSmp_time (f : Smp → Smp) : (s.modSmp f).time = s.time := rfl
@[simp] theorem modSmp_regs (f : Smp → Smp) : (s.modSmp f).regs = s.regs := rfl
@[simp] theorem modSmp_work (f : Smp → Smp) : (s.modSmp f).work = s.work := rfl
@[simp] theorem modSmp_shadow (f : Smp → Smp) : (s.modSmp f).shadow = s.shadow := rfl
@[simp] theorem modSmp_engines (f : Smp → Smp) : (s.modSmp f).engines = s.engines := rfl
@[simp] theorem modSmp_chans (f : Smp → Smp) : (s.modSmp f).chans = s.chans := rfl
@[simp] theorem modSmp_offs (f : Smp → Smp) : (s.modSmp f).offs = s.offs := rfl
@[simp] theorem modSmp_fcus (f : Smp → Smp) : (s.modSmp f).fcus = s.fcus := rfl
@[simp] theorem modSmp_slices (f : Smp → Smp) : (s.modSmp f).slices = s.slices := rfl
@[simp] theorem modSmp_slcs (f : Smp → Smp) : (s.modSmp f).slcs = s.slcs := rfl
@[simp] theorem modSmp_sbk (f : Smp → Smp) : (s.modSmp f).sbk = s.sbk := rfl
@[simp] theorem modSmp_flash (f : Smp → Smp) : (s.modSmp f).flash = s.flash := rfl
@[simp] theorem modSmp_log (f : Smp → Smp) : (s.modSmp f).log = s.log := rfl
@[simp] theorem modSmp_fuses (f : Smp → Smp) : (s.modSmp f).fuses = s.fuses := rfl
@[simp] theorem modSmp_frames (f : Smp → Smp) : (s.modSmp f).frames = s.frames := rfl
@[simp] theorem modSmp_ffs (f : Smp → Smp) : (s.modSmp f).ffs = s.ffs := rfl
@[simp] theorem modSmp_bm (f : Smp → Smp) : (s.modSmp f).bm = s.bm := rfl
@[simp] theorem modSmp_bmLast (f : Smp → Smp) : (s.modSmp f).bmLast = s.bmLast := rfl
@[simp] theorem modSmp_bmOut (f : Smp → Smp) : (s.modSmp f).bmOut = s.bmOut := rfl
@[simp] theorem modSmp_bmRet (f : Smp → Smp) : (s.modSmp f).bmRet = s.bmRet := rfl
@[simp] theorem modSmp_arith (f : Smp → Smp) : (s.modSmp f).arith = s.arith := rfl
@[simp] theorem modSmp_lineStop (f : Smp → Smp) : (s.modSmp f).lineStop = s.lineStop := rfl
@[simp] theorem modSmp_sectors (f : Smp → Smp) : (s.modSmp f).sectors = s.sectors := rfl
@[simp] theorem modSmp_loader (f : Smp → Smp) : (s.modSmp f).loader = s.loader := rfl
@[simp] theorem modSmp_xacts (f : Smp → Smp) : (s.modSmp f).xacts = s.xacts := rfl
@[simp] theorem modSmp_rsps (f : Smp → Smp) : (s.modSmp f).rsps = s.rsps := rfl
@[simp] theorem modSmp_xnext (f : Smp → Smp) : (s.modSmp f).xnext = s.xnext := rfl
@[simp] theorem modSmp_dram (f : Smp → Smp) : (s.modSmp f).dram = s.dram := rfl
@[simp] theorem modSmp_dmcs (f : Smp → Smp) : (s.modSmp f).dmcs = s.dmcs := rfl
@[simp] theorem modSmp_ilvLocked (f : Smp → Smp) : (s.modSmp f).ilvLocked = s.ilvLocked := rfl
@[simp] theorem modSmp_ice (f : Smp → Smp) : (s.modSmp f).ice = s.ice := rfl
@[simp] theorem modSmp_lanes (f : Smp → Smp) : (s.modSmp f).lanes = s.lanes := rfl
@[simp] theorem modSmp_bridges (f : Smp → Smp) : (s.modSmp f).bridges = s.bridges := rfl
@[simp] theorem modSmp_tb (f : Smp → Smp) : (s.modSmp f).tb = s.tb := rfl
@[simp] theorem modSmp_flights (f : Smp → Smp) : (s.modSmp f).flights = s.flights := rfl
@[simp] theorem modSmp_fnext (f : Smp → Smp) : (s.modSmp f).fnext = s.fnext := rfl
@[simp] theorem modSmp_nis (f : Smp → Smp) : (s.modSmp f).nis = s.nis := rfl
@[simp] theorem modSmp_arbs (f : Smp → Smp) : (s.modSmp f).arbs = s.arbs := rfl
@[simp] theorem modSmp_rtc (f : Smp → Smp) : (s.modSmp f).rtc = s.rtc := rfl
@[simp] theorem modSmp_temps (f : Smp → Smp) : (s.modSmp f).temps = s.temps := rfl
@[simp] theorem modSmp_mb (f : Smp → Smp) : (s.modSmp f).mb = s.mb := rfl
@[simp] theorem modSmp_pwr (f : Smp → Smp) : (s.modSmp f).pwr = s.pwr := rfl
@[simp] theorem modSmp_io (f : Smp → Smp) : (s.modSmp f).io = s.io := rfl
@[simp] theorem modSmp_harts (f : Smp → Smp) : (s.modSmp f).harts = s.harts := rfl
@[simp] theorem modSmp_caches (f : Smp → Smp) : (s.modSmp f).caches = s.caches := rfl
@[simp] theorem modSmp_dbg (f : Smp → Smp) : (s.modSmp f).dbg = s.dbg := rfl
@[simp] theorem modSmp_err (f : Smp → Smp) : (s.modSmp f).err = s.err := rfl
@[simp] theorem modSmp_plic (f : Smp → Smp) : (s.modSmp f).plic = s.plic := rfl
@[simp] theorem modSmp_eng (f : Smp → Smp) (e0 : Nat) : (s.modSmp f).eng e0 = s.eng e0 := rfl
@[simp] theorem modSmp_chan (f : Smp → Smp) (p0 : Nat) : (s.modSmp f).chan p0 = s.chan p0 := rfl
@[simp] theorem modSmp_fcu (f : Smp → Smp) (c0 : Nat) : (s.modSmp f).fcu c0 = s.fcu c0 := rfl
@[simp] theorem modSmp_slc (f : Smp → Smp) (n0 : Nat) : (s.modSmp f).slc n0 = s.slc n0 := rfl
@[simp] theorem modSmp_reg (f : Smp → Smp) (r0 : RegId) (i0 j0 k0 : Nat) : (s.modSmp f).reg r0 i0 j0 k0 = s.reg r0 i0 j0 k0 := rfl
@[simp] theorem modSmp_shadowReg (f : Smp → Smp) (r0 : RegId) (i0 j0 k0 : Nat) : (s.modSmp f).shadowReg r0 i0 j0 k0 = s.shadowReg r0 i0 j0 k0 := rfl
@[simp] theorem modSmp_fld (f : Smp → Smp) (f0 : Fld) (i0 j0 k0 : Nat) : (s.modSmp f).fld f0 i0 j0 k0 = s.fld f0 i0 j0 k0 := rfl
@[simp] theorem modSmp_flag (f : Smp → Smp) (f0 : Fld) (i0 j0 k0 : Nat) : (s.modSmp f).flag f0 i0 j0 k0 = s.flag f0 i0 j0 k0 := rfl
@[simp] theorem modSmp_sfld (f : Smp → Smp) (f0 : Fld) (i0 j0 k0 : Nat) : (s.modSmp f).sfld f0 i0 j0 k0 = s.sfld f0 i0 j0 k0 := rfl
@[simp] theorem modSmp_cell (f : Smp → Smp) (n0 j0 : Nat) : (s.modSmp f).cell n0 j0 = s.cell n0 j0 := rfl
@[simp] theorem modSmp_now (f : Smp → Smp) : (s.modSmp f).now = s.now := rfl
@[simp] theorem modSmp_gangSize (f : Smp → Smp) (e0 : Nat) : (s.modSmp f).gangSize e0 = s.gangSize e0 := rfl
@[simp] theorem modSmp_leader (f : Smp → Smp) (e0 : Nat) : (s.modSmp f).leader e0 = s.leader e0 := rfl
@[simp] theorem modSmp_members (f : Smp → Smp) (e0 : Nat) : (s.modSmp f).members e0 = s.members e0 := rfl
@[simp] theorem modSmp_domOn (f : Smp → Smp) (d0 : Nat) : (s.modSmp f).domOn d0 = s.domOn d0 := rfl
@[simp] theorem modSmp_live (f : Smp → Smp) (d0 : Nat) : (s.modSmp f).live d0 = s.live d0 := rfl

/-! ### modBridge -/

@[simp] theorem modBridge_pending (b : Nat) (f : Bridge → Bridge) : (s.modBridge b f).pending = s.pending := rfl
@[simp] theorem modBridge_free (b : Nat) (f : Bridge → Bridge) : (s.modBridge b f).free = s.free := rfl
@[simp] theorem modBridge_time (b : Nat) (f : Bridge → Bridge) : (s.modBridge b f).time = s.time := rfl
@[simp] theorem modBridge_regs (b : Nat) (f : Bridge → Bridge) : (s.modBridge b f).regs = s.regs := rfl
@[simp] theorem modBridge_work (b : Nat) (f : Bridge → Bridge) : (s.modBridge b f).work = s.work := rfl
@[simp] theorem modBridge_shadow (b : Nat) (f : Bridge → Bridge) : (s.modBridge b f).shadow = s.shadow := rfl
@[simp] theorem modBridge_engines (b : Nat) (f : Bridge → Bridge) : (s.modBridge b f).engines = s.engines := rfl
@[simp] theorem modBridge_chans (b : Nat) (f : Bridge → Bridge) : (s.modBridge b f).chans = s.chans := rfl
@[simp] theorem modBridge_offs (b : Nat) (f : Bridge → Bridge) : (s.modBridge b f).offs = s.offs := rfl
@[simp] theorem modBridge_fcus (b : Nat) (f : Bridge → Bridge) : (s.modBridge b f).fcus = s.fcus := rfl
@[simp] theorem modBridge_slices (b : Nat) (f : Bridge → Bridge) : (s.modBridge b f).slices = s.slices := rfl
@[simp] theorem modBridge_slcs (b : Nat) (f : Bridge → Bridge) : (s.modBridge b f).slcs = s.slcs := rfl
@[simp] theorem modBridge_sbk (b : Nat) (f : Bridge → Bridge) : (s.modBridge b f).sbk = s.sbk := rfl
@[simp] theorem modBridge_flash (b : Nat) (f : Bridge → Bridge) : (s.modBridge b f).flash = s.flash := rfl
@[simp] theorem modBridge_smp (b : Nat) (f : Bridge → Bridge) : (s.modBridge b f).smp = s.smp := rfl
@[simp] theorem modBridge_log (b : Nat) (f : Bridge → Bridge) : (s.modBridge b f).log = s.log := rfl
@[simp] theorem modBridge_fuses (b : Nat) (f : Bridge → Bridge) : (s.modBridge b f).fuses = s.fuses := rfl
@[simp] theorem modBridge_frames (b : Nat) (f : Bridge → Bridge) : (s.modBridge b f).frames = s.frames := rfl
@[simp] theorem modBridge_ffs (b : Nat) (f : Bridge → Bridge) : (s.modBridge b f).ffs = s.ffs := rfl
@[simp] theorem modBridge_bm (b : Nat) (f : Bridge → Bridge) : (s.modBridge b f).bm = s.bm := rfl
@[simp] theorem modBridge_bmLast (b : Nat) (f : Bridge → Bridge) : (s.modBridge b f).bmLast = s.bmLast := rfl
@[simp] theorem modBridge_bmOut (b : Nat) (f : Bridge → Bridge) : (s.modBridge b f).bmOut = s.bmOut := rfl
@[simp] theorem modBridge_bmRet (b : Nat) (f : Bridge → Bridge) : (s.modBridge b f).bmRet = s.bmRet := rfl
@[simp] theorem modBridge_arith (b : Nat) (f : Bridge → Bridge) : (s.modBridge b f).arith = s.arith := rfl
@[simp] theorem modBridge_lineStop (b : Nat) (f : Bridge → Bridge) : (s.modBridge b f).lineStop = s.lineStop := rfl
@[simp] theorem modBridge_sectors (b : Nat) (f : Bridge → Bridge) : (s.modBridge b f).sectors = s.sectors := rfl
@[simp] theorem modBridge_loader (b : Nat) (f : Bridge → Bridge) : (s.modBridge b f).loader = s.loader := rfl
@[simp] theorem modBridge_xacts (b : Nat) (f : Bridge → Bridge) : (s.modBridge b f).xacts = s.xacts := rfl
@[simp] theorem modBridge_rsps (b : Nat) (f : Bridge → Bridge) : (s.modBridge b f).rsps = s.rsps := rfl
@[simp] theorem modBridge_xnext (b : Nat) (f : Bridge → Bridge) : (s.modBridge b f).xnext = s.xnext := rfl
@[simp] theorem modBridge_dram (b : Nat) (f : Bridge → Bridge) : (s.modBridge b f).dram = s.dram := rfl
@[simp] theorem modBridge_dmcs (b : Nat) (f : Bridge → Bridge) : (s.modBridge b f).dmcs = s.dmcs := rfl
@[simp] theorem modBridge_ilvLocked (b : Nat) (f : Bridge → Bridge) : (s.modBridge b f).ilvLocked = s.ilvLocked := rfl
@[simp] theorem modBridge_ice (b : Nat) (f : Bridge → Bridge) : (s.modBridge b f).ice = s.ice := rfl
@[simp] theorem modBridge_lanes (b : Nat) (f : Bridge → Bridge) : (s.modBridge b f).lanes = s.lanes := rfl
@[simp] theorem modBridge_tb (b : Nat) (f : Bridge → Bridge) : (s.modBridge b f).tb = s.tb := rfl
@[simp] theorem modBridge_flights (b : Nat) (f : Bridge → Bridge) : (s.modBridge b f).flights = s.flights := rfl
@[simp] theorem modBridge_fnext (b : Nat) (f : Bridge → Bridge) : (s.modBridge b f).fnext = s.fnext := rfl
@[simp] theorem modBridge_nis (b : Nat) (f : Bridge → Bridge) : (s.modBridge b f).nis = s.nis := rfl
@[simp] theorem modBridge_arbs (b : Nat) (f : Bridge → Bridge) : (s.modBridge b f).arbs = s.arbs := rfl
@[simp] theorem modBridge_rtc (b : Nat) (f : Bridge → Bridge) : (s.modBridge b f).rtc = s.rtc := rfl
@[simp] theorem modBridge_temps (b : Nat) (f : Bridge → Bridge) : (s.modBridge b f).temps = s.temps := rfl
@[simp] theorem modBridge_mb (b : Nat) (f : Bridge → Bridge) : (s.modBridge b f).mb = s.mb := rfl
@[simp] theorem modBridge_pwr (b : Nat) (f : Bridge → Bridge) : (s.modBridge b f).pwr = s.pwr := rfl
@[simp] theorem modBridge_io (b : Nat) (f : Bridge → Bridge) : (s.modBridge b f).io = s.io := rfl
@[simp] theorem modBridge_harts (b : Nat) (f : Bridge → Bridge) : (s.modBridge b f).harts = s.harts := rfl
@[simp] theorem modBridge_caches (b : Nat) (f : Bridge → Bridge) : (s.modBridge b f).caches = s.caches := rfl
@[simp] theorem modBridge_dbg (b : Nat) (f : Bridge → Bridge) : (s.modBridge b f).dbg = s.dbg := rfl
@[simp] theorem modBridge_err (b : Nat) (f : Bridge → Bridge) : (s.modBridge b f).err = s.err := rfl
@[simp] theorem modBridge_plic (b : Nat) (f : Bridge → Bridge) : (s.modBridge b f).plic = s.plic := rfl
@[simp] theorem modBridge_eng (b : Nat) (f : Bridge → Bridge) (e0 : Nat) : (s.modBridge b f).eng e0 = s.eng e0 := rfl
@[simp] theorem modBridge_chan (b : Nat) (f : Bridge → Bridge) (p0 : Nat) : (s.modBridge b f).chan p0 = s.chan p0 := rfl
@[simp] theorem modBridge_fcu (b : Nat) (f : Bridge → Bridge) (c0 : Nat) : (s.modBridge b f).fcu c0 = s.fcu c0 := rfl
@[simp] theorem modBridge_slc (b : Nat) (f : Bridge → Bridge) (n0 : Nat) : (s.modBridge b f).slc n0 = s.slc n0 := rfl
@[simp] theorem modBridge_reg (b : Nat) (f : Bridge → Bridge) (r0 : RegId) (i0 j0 k0 : Nat) : (s.modBridge b f).reg r0 i0 j0 k0 = s.reg r0 i0 j0 k0 := rfl
@[simp] theorem modBridge_shadowReg (b : Nat) (f : Bridge → Bridge) (r0 : RegId) (i0 j0 k0 : Nat) : (s.modBridge b f).shadowReg r0 i0 j0 k0 = s.shadowReg r0 i0 j0 k0 := rfl
@[simp] theorem modBridge_fld (b : Nat) (f : Bridge → Bridge) (f0 : Fld) (i0 j0 k0 : Nat) : (s.modBridge b f).fld f0 i0 j0 k0 = s.fld f0 i0 j0 k0 := rfl
@[simp] theorem modBridge_flag (b : Nat) (f : Bridge → Bridge) (f0 : Fld) (i0 j0 k0 : Nat) : (s.modBridge b f).flag f0 i0 j0 k0 = s.flag f0 i0 j0 k0 := rfl
@[simp] theorem modBridge_sfld (b : Nat) (f : Bridge → Bridge) (f0 : Fld) (i0 j0 k0 : Nat) : (s.modBridge b f).sfld f0 i0 j0 k0 = s.sfld f0 i0 j0 k0 := rfl
@[simp] theorem modBridge_cell (b : Nat) (f : Bridge → Bridge) (n0 j0 : Nat) : (s.modBridge b f).cell n0 j0 = s.cell n0 j0 := rfl
@[simp] theorem modBridge_now (b : Nat) (f : Bridge → Bridge) : (s.modBridge b f).now = s.now := rfl
@[simp] theorem modBridge_gangSize (b : Nat) (f : Bridge → Bridge) (e0 : Nat) : (s.modBridge b f).gangSize e0 = s.gangSize e0 := rfl
@[simp] theorem modBridge_leader (b : Nat) (f : Bridge → Bridge) (e0 : Nat) : (s.modBridge b f).leader e0 = s.leader e0 := rfl
@[simp] theorem modBridge_members (b : Nat) (f : Bridge → Bridge) (e0 : Nat) : (s.modBridge b f).members e0 = s.members e0 := rfl
@[simp] theorem modBridge_domOn (b : Nat) (f : Bridge → Bridge) (d0 : Nat) : (s.modBridge b f).domOn d0 = s.domOn d0 := rfl
@[simp] theorem modBridge_live (b : Nat) (f : Bridge → Bridge) (d0 : Nat) : (s.modBridge b f).live d0 = s.live d0 := rfl

/-! ### modIo -/

@[simp] theorem modIo_pending (f : Periph → Periph) : (s.modIo f).pending = s.pending := rfl
@[simp] theorem modIo_free (f : Periph → Periph) : (s.modIo f).free = s.free := rfl
@[simp] theorem modIo_time (f : Periph → Periph) : (s.modIo f).time = s.time := rfl
@[simp] theorem modIo_regs (f : Periph → Periph) : (s.modIo f).regs = s.regs := rfl
@[simp] theorem modIo_work (f : Periph → Periph) : (s.modIo f).work = s.work := rfl
@[simp] theorem modIo_shadow (f : Periph → Periph) : (s.modIo f).shadow = s.shadow := rfl
@[simp] theorem modIo_engines (f : Periph → Periph) : (s.modIo f).engines = s.engines := rfl
@[simp] theorem modIo_chans (f : Periph → Periph) : (s.modIo f).chans = s.chans := rfl
@[simp] theorem modIo_offs (f : Periph → Periph) : (s.modIo f).offs = s.offs := rfl
@[simp] theorem modIo_fcus (f : Periph → Periph) : (s.modIo f).fcus = s.fcus := rfl
@[simp] theorem modIo_slices (f : Periph → Periph) : (s.modIo f).slices = s.slices := rfl
@[simp] theorem modIo_slcs (f : Periph → Periph) : (s.modIo f).slcs = s.slcs := rfl
@[simp] theorem modIo_sbk (f : Periph → Periph) : (s.modIo f).sbk = s.sbk := rfl
@[simp] theorem modIo_flash (f : Periph → Periph) : (s.modIo f).flash = s.flash := rfl
@[simp] theorem modIo_smp (f : Periph → Periph) : (s.modIo f).smp = s.smp := rfl
@[simp] theorem modIo_log (f : Periph → Periph) : (s.modIo f).log = s.log := rfl
@[simp] theorem modIo_fuses (f : Periph → Periph) : (s.modIo f).fuses = s.fuses := rfl
@[simp] theorem modIo_frames (f : Periph → Periph) : (s.modIo f).frames = s.frames := rfl
@[simp] theorem modIo_ffs (f : Periph → Periph) : (s.modIo f).ffs = s.ffs := rfl
@[simp] theorem modIo_bm (f : Periph → Periph) : (s.modIo f).bm = s.bm := rfl
@[simp] theorem modIo_bmLast (f : Periph → Periph) : (s.modIo f).bmLast = s.bmLast := rfl
@[simp] theorem modIo_bmOut (f : Periph → Periph) : (s.modIo f).bmOut = s.bmOut := rfl
@[simp] theorem modIo_bmRet (f : Periph → Periph) : (s.modIo f).bmRet = s.bmRet := rfl
@[simp] theorem modIo_arith (f : Periph → Periph) : (s.modIo f).arith = s.arith := rfl
@[simp] theorem modIo_lineStop (f : Periph → Periph) : (s.modIo f).lineStop = s.lineStop := rfl
@[simp] theorem modIo_sectors (f : Periph → Periph) : (s.modIo f).sectors = s.sectors := rfl
@[simp] theorem modIo_loader (f : Periph → Periph) : (s.modIo f).loader = s.loader := rfl
@[simp] theorem modIo_xacts (f : Periph → Periph) : (s.modIo f).xacts = s.xacts := rfl
@[simp] theorem modIo_rsps (f : Periph → Periph) : (s.modIo f).rsps = s.rsps := rfl
@[simp] theorem modIo_xnext (f : Periph → Periph) : (s.modIo f).xnext = s.xnext := rfl
@[simp] theorem modIo_dram (f : Periph → Periph) : (s.modIo f).dram = s.dram := rfl
@[simp] theorem modIo_dmcs (f : Periph → Periph) : (s.modIo f).dmcs = s.dmcs := rfl
@[simp] theorem modIo_ilvLocked (f : Periph → Periph) : (s.modIo f).ilvLocked = s.ilvLocked := rfl
@[simp] theorem modIo_ice (f : Periph → Periph) : (s.modIo f).ice = s.ice := rfl
@[simp] theorem modIo_lanes (f : Periph → Periph) : (s.modIo f).lanes = s.lanes := rfl
@[simp] theorem modIo_bridges (f : Periph → Periph) : (s.modIo f).bridges = s.bridges := rfl
@[simp] theorem modIo_tb (f : Periph → Periph) : (s.modIo f).tb = s.tb := rfl
@[simp] theorem modIo_flights (f : Periph → Periph) : (s.modIo f).flights = s.flights := rfl
@[simp] theorem modIo_fnext (f : Periph → Periph) : (s.modIo f).fnext = s.fnext := rfl
@[simp] theorem modIo_nis (f : Periph → Periph) : (s.modIo f).nis = s.nis := rfl
@[simp] theorem modIo_arbs (f : Periph → Periph) : (s.modIo f).arbs = s.arbs := rfl
@[simp] theorem modIo_rtc (f : Periph → Periph) : (s.modIo f).rtc = s.rtc := rfl
@[simp] theorem modIo_temps (f : Periph → Periph) : (s.modIo f).temps = s.temps := rfl
@[simp] theorem modIo_mb (f : Periph → Periph) : (s.modIo f).mb = s.mb := rfl
@[simp] theorem modIo_pwr (f : Periph → Periph) : (s.modIo f).pwr = s.pwr := rfl
@[simp] theorem modIo_harts (f : Periph → Periph) : (s.modIo f).harts = s.harts := rfl
@[simp] theorem modIo_caches (f : Periph → Periph) : (s.modIo f).caches = s.caches := rfl
@[simp] theorem modIo_dbg (f : Periph → Periph) : (s.modIo f).dbg = s.dbg := rfl
@[simp] theorem modIo_err (f : Periph → Periph) : (s.modIo f).err = s.err := rfl
@[simp] theorem modIo_plic (f : Periph → Periph) : (s.modIo f).plic = s.plic := rfl
@[simp] theorem modIo_eng (f : Periph → Periph) (e0 : Nat) : (s.modIo f).eng e0 = s.eng e0 := rfl
@[simp] theorem modIo_chan (f : Periph → Periph) (p0 : Nat) : (s.modIo f).chan p0 = s.chan p0 := rfl
@[simp] theorem modIo_fcu (f : Periph → Periph) (c0 : Nat) : (s.modIo f).fcu c0 = s.fcu c0 := rfl
@[simp] theorem modIo_slc (f : Periph → Periph) (n0 : Nat) : (s.modIo f).slc n0 = s.slc n0 := rfl
@[simp] theorem modIo_reg (f : Periph → Periph) (r0 : RegId) (i0 j0 k0 : Nat) : (s.modIo f).reg r0 i0 j0 k0 = s.reg r0 i0 j0 k0 := rfl
@[simp] theorem modIo_shadowReg (f : Periph → Periph) (r0 : RegId) (i0 j0 k0 : Nat) : (s.modIo f).shadowReg r0 i0 j0 k0 = s.shadowReg r0 i0 j0 k0 := rfl
@[simp] theorem modIo_fld (f : Periph → Periph) (f0 : Fld) (i0 j0 k0 : Nat) : (s.modIo f).fld f0 i0 j0 k0 = s.fld f0 i0 j0 k0 := rfl
@[simp] theorem modIo_flag (f : Periph → Periph) (f0 : Fld) (i0 j0 k0 : Nat) : (s.modIo f).flag f0 i0 j0 k0 = s.flag f0 i0 j0 k0 := rfl
@[simp] theorem modIo_sfld (f : Periph → Periph) (f0 : Fld) (i0 j0 k0 : Nat) : (s.modIo f).sfld f0 i0 j0 k0 = s.sfld f0 i0 j0 k0 := rfl
@[simp] theorem modIo_cell (f : Periph → Periph) (n0 j0 : Nat) : (s.modIo f).cell n0 j0 = s.cell n0 j0 := rfl
@[simp] theorem modIo_now (f : Periph → Periph) : (s.modIo f).now = s.now := rfl
@[simp] theorem modIo_gangSize (f : Periph → Periph) (e0 : Nat) : (s.modIo f).gangSize e0 = s.gangSize e0 := rfl
@[simp] theorem modIo_leader (f : Periph → Periph) (e0 : Nat) : (s.modIo f).leader e0 = s.leader e0 := rfl
@[simp] theorem modIo_members (f : Periph → Periph) (e0 : Nat) : (s.modIo f).members e0 = s.members e0 := rfl
@[simp] theorem modIo_domOn (f : Periph → Periph) (d0 : Nat) : (s.modIo f).domOn d0 = s.domOn d0 := rfl
@[simp] theorem modIo_live (f : Periph → Periph) (d0 : Nat) : (s.modIo f).live d0 = s.live d0 := rfl

/-! ### endXact -/

@[simp] theorem endXact_pending (n : Nat) : (s.endXact n).pending = s.pending := rfl
@[simp] theorem endXact_free (n : Nat) : (s.endXact n).free = s.free := rfl
@[simp] theorem endXact_time (n : Nat) : (s.endXact n).time = s.time := rfl
@[simp] theorem endXact_regs (n : Nat) : (s.endXact n).regs = s.regs := rfl
@[simp] theorem endXact_work (n : Nat) : (s.endXact n).work = s.work := rfl
@[simp] theorem endXact_shadow (n : Nat) : (s.endXact n).shadow = s.shadow := rfl
@[simp] theorem endXact_engines (n : Nat) : (s.endXact n).engines = s.engines := rfl
@[simp] theorem endXact_chans (n : Nat) : (s.endXact n).chans = s.chans := rfl
@[simp] theorem endXact_offs (n : Nat) : (s.endXact n).offs = s.offs := rfl
@[simp] theorem endXact_fcus (n : Nat) : (s.endXact n).fcus = s.fcus := rfl
@[simp] theorem endXact_slices (n : Nat) : (s.endXact n).slices = s.slices := rfl
@[simp] theorem endXact_slcs (n : Nat) : (s.endXact n).slcs = s.slcs := rfl
@[simp] theorem endXact_sbk (n : Nat) : (s.endXact n).sbk = s.sbk := rfl
@[simp] theorem endXact_flash (n : Nat) : (s.endXact n).flash = s.flash := rfl
@[simp] theorem endXact_smp (n : Nat) : (s.endXact n).smp = s.smp := rfl
@[simp] theorem endXact_log (n : Nat) : (s.endXact n).log = s.log := rfl
@[simp] theorem endXact_fuses (n : Nat) : (s.endXact n).fuses = s.fuses := rfl
@[simp] theorem endXact_frames (n : Nat) : (s.endXact n).frames = s.frames := rfl
@[simp] theorem endXact_ffs (n : Nat) : (s.endXact n).ffs = s.ffs := rfl
@[simp] theorem endXact_bm (n : Nat) : (s.endXact n).bm = s.bm := rfl
@[simp] theorem endXact_bmLast (n : Nat) : (s.endXact n).bmLast = s.bmLast := rfl
@[simp] theorem endXact_bmOut (n : Nat) : (s.endXact n).bmOut = s.bmOut := rfl
@[simp] theorem endXact_bmRet (n : Nat) : (s.endXact n).bmRet = s.bmRet := rfl
@[simp] theorem endXact_arith (n : Nat) : (s.endXact n).arith = s.arith := rfl
@[simp] theorem endXact_lineStop (n : Nat) : (s.endXact n).lineStop = s.lineStop := rfl
@[simp] theorem endXact_sectors (n : Nat) : (s.endXact n).sectors = s.sectors := rfl
@[simp] theorem endXact_loader (n : Nat) : (s.endXact n).loader = s.loader := rfl
@[simp] theorem endXact_rsps (n : Nat) : (s.endXact n).rsps = s.rsps := rfl
@[simp] theorem endXact_xnext (n : Nat) : (s.endXact n).xnext = s.xnext := rfl
@[simp] theorem endXact_dram (n : Nat) : (s.endXact n).dram = s.dram := rfl
@[simp] theorem endXact_dmcs (n : Nat) : (s.endXact n).dmcs = s.dmcs := rfl
@[simp] theorem endXact_ilvLocked (n : Nat) : (s.endXact n).ilvLocked = s.ilvLocked := rfl
@[simp] theorem endXact_ice (n : Nat) : (s.endXact n).ice = s.ice := rfl
@[simp] theorem endXact_lanes (n : Nat) : (s.endXact n).lanes = s.lanes := rfl
@[simp] theorem endXact_bridges (n : Nat) : (s.endXact n).bridges = s.bridges := rfl
@[simp] theorem endXact_tb (n : Nat) : (s.endXact n).tb = s.tb := rfl
@[simp] theorem endXact_flights (n : Nat) : (s.endXact n).flights = s.flights := rfl
@[simp] theorem endXact_fnext (n : Nat) : (s.endXact n).fnext = s.fnext := rfl
@[simp] theorem endXact_nis (n : Nat) : (s.endXact n).nis = s.nis := rfl
@[simp] theorem endXact_arbs (n : Nat) : (s.endXact n).arbs = s.arbs := rfl
@[simp] theorem endXact_rtc (n : Nat) : (s.endXact n).rtc = s.rtc := rfl
@[simp] theorem endXact_temps (n : Nat) : (s.endXact n).temps = s.temps := rfl
@[simp] theorem endXact_mb (n : Nat) : (s.endXact n).mb = s.mb := rfl
@[simp] theorem endXact_pwr (n : Nat) : (s.endXact n).pwr = s.pwr := rfl
@[simp] theorem endXact_io (n : Nat) : (s.endXact n).io = s.io := rfl
@[simp] theorem endXact_harts (n : Nat) : (s.endXact n).harts = s.harts := rfl
@[simp] theorem endXact_caches (n : Nat) : (s.endXact n).caches = s.caches := rfl
@[simp] theorem endXact_dbg (n : Nat) : (s.endXact n).dbg = s.dbg := rfl
@[simp] theorem endXact_err (n : Nat) : (s.endXact n).err = s.err := rfl
@[simp] theorem endXact_plic (n : Nat) : (s.endXact n).plic = s.plic := rfl
@[simp] theorem endXact_eng (n : Nat) (e0 : Nat) : (s.endXact n).eng e0 = s.eng e0 := rfl
@[simp] theorem endXact_chan (n : Nat) (p0 : Nat) : (s.endXact n).chan p0 = s.chan p0 := rfl
@[simp] theorem endXact_fcu (n : Nat) (c0 : Nat) : (s.endXact n).fcu c0 = s.fcu c0 := rfl
@[simp] theorem endXact_slc (n : Nat) (n0 : Nat) : (s.endXact n).slc n0 = s.slc n0 := rfl
@[simp] theorem endXact_reg (n : Nat) (r0 : RegId) (i0 j0 k0 : Nat) : (s.endXact n).reg r0 i0 j0 k0 = s.reg r0 i0 j0 k0 := rfl
@[simp] theorem endXact_shadowReg (n : Nat) (r0 : RegId) (i0 j0 k0 : Nat) : (s.endXact n).shadowReg r0 i0 j0 k0 = s.shadowReg r0 i0 j0 k0 := rfl
@[simp] theorem endXact_fld (n : Nat) (f0 : Fld) (i0 j0 k0 : Nat) : (s.endXact n).fld f0 i0 j0 k0 = s.fld f0 i0 j0 k0 := rfl
@[simp] theorem endXact_flag (n : Nat) (f0 : Fld) (i0 j0 k0 : Nat) : (s.endXact n).flag f0 i0 j0 k0 = s.flag f0 i0 j0 k0 := rfl
@[simp] theorem endXact_sfld (n : Nat) (f0 : Fld) (i0 j0 k0 : Nat) : (s.endXact n).sfld f0 i0 j0 k0 = s.sfld f0 i0 j0 k0 := rfl
@[simp] theorem endXact_cell (n : Nat) (n0 j0 : Nat) : (s.endXact n).cell n0 j0 = s.cell n0 j0 := rfl
@[simp] theorem endXact_now (n : Nat) : (s.endXact n).now = s.now := rfl
@[simp] theorem endXact_gangSize (n : Nat) (e0 : Nat) : (s.endXact n).gangSize e0 = s.gangSize e0 := rfl
@[simp] theorem endXact_leader (n : Nat) (e0 : Nat) : (s.endXact n).leader e0 = s.leader e0 := rfl
@[simp] theorem endXact_members (n : Nat) (e0 : Nat) : (s.endXact n).members e0 = s.members e0 := rfl
@[simp] theorem endXact_domOn (n : Nat) (d0 : Nat) : (s.endXact n).domOn d0 = s.domOn d0 := rfl
@[simp] theorem endXact_live (n : Nat) (d0 : Nat) : (s.endXact n).live d0 = s.live d0 := rfl

/-! ### setBmWord -/

@[simp] theorem setBmWord_pending (n w : Nat) (v : BitVec 80) : (s.setBmWord n w v).pending = s.pending := rfl
@[simp] theorem setBmWord_free (n w : Nat) (v : BitVec 80) : (s.setBmWord n w v).free = s.free := rfl
@[simp] theorem setBmWord_time (n w : Nat) (v : BitVec 80) : (s.setBmWord n w v).time = s.time := rfl
@[simp] theorem setBmWord_regs (n w : Nat) (v : BitVec 80) : (s.setBmWord n w v).regs = s.regs := rfl
@[simp] theorem setBmWord_work (n w : Nat) (v : BitVec 80) : (s.setBmWord n w v).work = s.work := rfl
@[simp] theorem setBmWord_shadow (n w : Nat) (v : BitVec 80) : (s.setBmWord n w v).shadow = s.shadow := rfl
@[simp] theorem setBmWord_engines (n w : Nat) (v : BitVec 80) : (s.setBmWord n w v).engines = s.engines := rfl
@[simp] theorem setBmWord_chans (n w : Nat) (v : BitVec 80) : (s.setBmWord n w v).chans = s.chans := rfl
@[simp] theorem setBmWord_offs (n w : Nat) (v : BitVec 80) : (s.setBmWord n w v).offs = s.offs := rfl
@[simp] theorem setBmWord_fcus (n w : Nat) (v : BitVec 80) : (s.setBmWord n w v).fcus = s.fcus := rfl
@[simp] theorem setBmWord_slices (n w : Nat) (v : BitVec 80) : (s.setBmWord n w v).slices = s.slices := rfl
@[simp] theorem setBmWord_slcs (n w : Nat) (v : BitVec 80) : (s.setBmWord n w v).slcs = s.slcs := rfl
@[simp] theorem setBmWord_sbk (n w : Nat) (v : BitVec 80) : (s.setBmWord n w v).sbk = s.sbk := rfl
@[simp] theorem setBmWord_flash (n w : Nat) (v : BitVec 80) : (s.setBmWord n w v).flash = s.flash := rfl
@[simp] theorem setBmWord_smp (n w : Nat) (v : BitVec 80) : (s.setBmWord n w v).smp = s.smp := rfl
@[simp] theorem setBmWord_log (n w : Nat) (v : BitVec 80) : (s.setBmWord n w v).log = s.log := rfl
@[simp] theorem setBmWord_fuses (n w : Nat) (v : BitVec 80) : (s.setBmWord n w v).fuses = s.fuses := rfl
@[simp] theorem setBmWord_frames (n w : Nat) (v : BitVec 80) : (s.setBmWord n w v).frames = s.frames := rfl
@[simp] theorem setBmWord_ffs (n w : Nat) (v : BitVec 80) : (s.setBmWord n w v).ffs = s.ffs := rfl
@[simp] theorem setBmWord_bmLast (n w : Nat) (v : BitVec 80) : (s.setBmWord n w v).bmLast = s.bmLast := rfl
@[simp] theorem setBmWord_bmOut (n w : Nat) (v : BitVec 80) : (s.setBmWord n w v).bmOut = s.bmOut := rfl
@[simp] theorem setBmWord_bmRet (n w : Nat) (v : BitVec 80) : (s.setBmWord n w v).bmRet = s.bmRet := rfl
@[simp] theorem setBmWord_arith (n w : Nat) (v : BitVec 80) : (s.setBmWord n w v).arith = s.arith := rfl
@[simp] theorem setBmWord_lineStop (n w : Nat) (v : BitVec 80) : (s.setBmWord n w v).lineStop = s.lineStop := rfl
@[simp] theorem setBmWord_sectors (n w : Nat) (v : BitVec 80) : (s.setBmWord n w v).sectors = s.sectors := rfl
@[simp] theorem setBmWord_loader (n w : Nat) (v : BitVec 80) : (s.setBmWord n w v).loader = s.loader := rfl
@[simp] theorem setBmWord_xacts (n w : Nat) (v : BitVec 80) : (s.setBmWord n w v).xacts = s.xacts := rfl
@[simp] theorem setBmWord_rsps (n w : Nat) (v : BitVec 80) : (s.setBmWord n w v).rsps = s.rsps := rfl
@[simp] theorem setBmWord_xnext (n w : Nat) (v : BitVec 80) : (s.setBmWord n w v).xnext = s.xnext := rfl
@[simp] theorem setBmWord_dram (n w : Nat) (v : BitVec 80) : (s.setBmWord n w v).dram = s.dram := rfl
@[simp] theorem setBmWord_dmcs (n w : Nat) (v : BitVec 80) : (s.setBmWord n w v).dmcs = s.dmcs := rfl
@[simp] theorem setBmWord_ilvLocked (n w : Nat) (v : BitVec 80) : (s.setBmWord n w v).ilvLocked = s.ilvLocked := rfl
@[simp] theorem setBmWord_ice (n w : Nat) (v : BitVec 80) : (s.setBmWord n w v).ice = s.ice := rfl
@[simp] theorem setBmWord_lanes (n w : Nat) (v : BitVec 80) : (s.setBmWord n w v).lanes = s.lanes := rfl
@[simp] theorem setBmWord_bridges (n w : Nat) (v : BitVec 80) : (s.setBmWord n w v).bridges = s.bridges := rfl
@[simp] theorem setBmWord_tb (n w : Nat) (v : BitVec 80) : (s.setBmWord n w v).tb = s.tb := rfl
@[simp] theorem setBmWord_flights (n w : Nat) (v : BitVec 80) : (s.setBmWord n w v).flights = s.flights := rfl
@[simp] theorem setBmWord_fnext (n w : Nat) (v : BitVec 80) : (s.setBmWord n w v).fnext = s.fnext := rfl
@[simp] theorem setBmWord_nis (n w : Nat) (v : BitVec 80) : (s.setBmWord n w v).nis = s.nis := rfl
@[simp] theorem setBmWord_arbs (n w : Nat) (v : BitVec 80) : (s.setBmWord n w v).arbs = s.arbs := rfl
@[simp] theorem setBmWord_rtc (n w : Nat) (v : BitVec 80) : (s.setBmWord n w v).rtc = s.rtc := rfl
@[simp] theorem setBmWord_temps (n w : Nat) (v : BitVec 80) : (s.setBmWord n w v).temps = s.temps := rfl
@[simp] theorem setBmWord_mb (n w : Nat) (v : BitVec 80) : (s.setBmWord n w v).mb = s.mb := rfl
@[simp] theorem setBmWord_pwr (n w : Nat) (v : BitVec 80) : (s.setBmWord n w v).pwr = s.pwr := rfl
@[simp] theorem setBmWord_io (n w : Nat) (v : BitVec 80) : (s.setBmWord n w v).io = s.io := rfl
@[simp] theorem setBmWord_harts (n w : Nat) (v : BitVec 80) : (s.setBmWord n w v).harts = s.harts := rfl
@[simp] theorem setBmWord_caches (n w : Nat) (v : BitVec 80) : (s.setBmWord n w v).caches = s.caches := rfl
@[simp] theorem setBmWord_dbg (n w : Nat) (v : BitVec 80) : (s.setBmWord n w v).dbg = s.dbg := rfl
@[simp] theorem setBmWord_err (n w : Nat) (v : BitVec 80) : (s.setBmWord n w v).err = s.err := rfl
@[simp] theorem setBmWord_plic (n w : Nat) (v : BitVec 80) : (s.setBmWord n w v).plic = s.plic := rfl
@[simp] theorem setBmWord_eng (n w : Nat) (v : BitVec 80) (e0 : Nat) : (s.setBmWord n w v).eng e0 = s.eng e0 := rfl
@[simp] theorem setBmWord_chan (n w : Nat) (v : BitVec 80) (p0 : Nat) : (s.setBmWord n w v).chan p0 = s.chan p0 := rfl
@[simp] theorem setBmWord_fcu (n w : Nat) (v : BitVec 80) (c0 : Nat) : (s.setBmWord n w v).fcu c0 = s.fcu c0 := rfl
@[simp] theorem setBmWord_slc (n w : Nat) (v : BitVec 80) (n0 : Nat) : (s.setBmWord n w v).slc n0 = s.slc n0 := rfl
@[simp] theorem setBmWord_reg (n w : Nat) (v : BitVec 80) (r0 : RegId) (i0 j0 k0 : Nat) : (s.setBmWord n w v).reg r0 i0 j0 k0 = s.reg r0 i0 j0 k0 := rfl
@[simp] theorem setBmWord_shadowReg (n w : Nat) (v : BitVec 80) (r0 : RegId) (i0 j0 k0 : Nat) : (s.setBmWord n w v).shadowReg r0 i0 j0 k0 = s.shadowReg r0 i0 j0 k0 := rfl
@[simp] theorem setBmWord_fld (n w : Nat) (v : BitVec 80) (f0 : Fld) (i0 j0 k0 : Nat) : (s.setBmWord n w v).fld f0 i0 j0 k0 = s.fld f0 i0 j0 k0 := rfl
@[simp] theorem setBmWord_flag (n w : Nat) (v : BitVec 80) (f0 : Fld) (i0 j0 k0 : Nat) : (s.setBmWord n w v).flag f0 i0 j0 k0 = s.flag f0 i0 j0 k0 := rfl
@[simp] theorem setBmWord_sfld (n w : Nat) (v : BitVec 80) (f0 : Fld) (i0 j0 k0 : Nat) : (s.setBmWord n w v).sfld f0 i0 j0 k0 = s.sfld f0 i0 j0 k0 := rfl
@[simp] theorem setBmWord_cell (n w : Nat) (v : BitVec 80) (n0 j0 : Nat) : (s.setBmWord n w v).cell n0 j0 = s.cell n0 j0 := rfl
@[simp] theorem setBmWord_now (n w : Nat) (v : BitVec 80) : (s.setBmWord n w v).now = s.now := rfl
@[simp] theorem setBmWord_gangSize (n w : Nat) (v : BitVec 80) (e0 : Nat) : (s.setBmWord n w v).gangSize e0 = s.gangSize e0 := rfl
@[simp] theorem setBmWord_leader (n w : Nat) (v : BitVec 80) (e0 : Nat) : (s.setBmWord n w v).leader e0 = s.leader e0 := rfl
@[simp] theorem setBmWord_members (n w : Nat) (v : BitVec 80) (e0 : Nat) : (s.setBmWord n w v).members e0 = s.members e0 := rfl
@[simp] theorem setBmWord_domOn (n w : Nat) (v : BitVec 80) (d0 : Nat) : (s.setBmWord n w v).domOn d0 = s.domOn d0 := rfl
@[simp] theorem setBmWord_live (n w : Nat) (v : BitVec 80) (d0 : Nat) : (s.setBmWord n w v).live d0 = s.live d0 := rfl

/-! ### noteRsp -/

@[simp] theorem noteRsp_pending (mid : MasterId) (st : Status) (ws : List (Word × Bool)) : (s.noteRsp mid st ws).pending = s.pending := rfl
@[simp] theorem noteRsp_free (mid : MasterId) (st : Status) (ws : List (Word × Bool)) : (s.noteRsp mid st ws).free = s.free := rfl
@[simp] theorem noteRsp_time (mid : MasterId) (st : Status) (ws : List (Word × Bool)) : (s.noteRsp mid st ws).time = s.time := rfl
@[simp] theorem noteRsp_regs (mid : MasterId) (st : Status) (ws : List (Word × Bool)) : (s.noteRsp mid st ws).regs = s.regs := rfl
@[simp] theorem noteRsp_work (mid : MasterId) (st : Status) (ws : List (Word × Bool)) : (s.noteRsp mid st ws).work = s.work := rfl
@[simp] theorem noteRsp_shadow (mid : MasterId) (st : Status) (ws : List (Word × Bool)) : (s.noteRsp mid st ws).shadow = s.shadow := rfl
@[simp] theorem noteRsp_engines (mid : MasterId) (st : Status) (ws : List (Word × Bool)) : (s.noteRsp mid st ws).engines = s.engines := rfl
@[simp] theorem noteRsp_chans (mid : MasterId) (st : Status) (ws : List (Word × Bool)) : (s.noteRsp mid st ws).chans = s.chans := rfl
@[simp] theorem noteRsp_offs (mid : MasterId) (st : Status) (ws : List (Word × Bool)) : (s.noteRsp mid st ws).offs = s.offs := rfl
@[simp] theorem noteRsp_fcus (mid : MasterId) (st : Status) (ws : List (Word × Bool)) : (s.noteRsp mid st ws).fcus = s.fcus := rfl
@[simp] theorem noteRsp_slices (mid : MasterId) (st : Status) (ws : List (Word × Bool)) : (s.noteRsp mid st ws).slices = s.slices := rfl
@[simp] theorem noteRsp_slcs (mid : MasterId) (st : Status) (ws : List (Word × Bool)) : (s.noteRsp mid st ws).slcs = s.slcs := rfl
@[simp] theorem noteRsp_sbk (mid : MasterId) (st : Status) (ws : List (Word × Bool)) : (s.noteRsp mid st ws).sbk = s.sbk := rfl
@[simp] theorem noteRsp_flash (mid : MasterId) (st : Status) (ws : List (Word × Bool)) : (s.noteRsp mid st ws).flash = s.flash := rfl
@[simp] theorem noteRsp_smp (mid : MasterId) (st : Status) (ws : List (Word × Bool)) : (s.noteRsp mid st ws).smp = s.smp := rfl
@[simp] theorem noteRsp_log (mid : MasterId) (st : Status) (ws : List (Word × Bool)) : (s.noteRsp mid st ws).log = s.log := rfl
@[simp] theorem noteRsp_fuses (mid : MasterId) (st : Status) (ws : List (Word × Bool)) : (s.noteRsp mid st ws).fuses = s.fuses := rfl
@[simp] theorem noteRsp_frames (mid : MasterId) (st : Status) (ws : List (Word × Bool)) : (s.noteRsp mid st ws).frames = s.frames := rfl
@[simp] theorem noteRsp_ffs (mid : MasterId) (st : Status) (ws : List (Word × Bool)) : (s.noteRsp mid st ws).ffs = s.ffs := rfl
@[simp] theorem noteRsp_bm (mid : MasterId) (st : Status) (ws : List (Word × Bool)) : (s.noteRsp mid st ws).bm = s.bm := rfl
@[simp] theorem noteRsp_bmLast (mid : MasterId) (st : Status) (ws : List (Word × Bool)) : (s.noteRsp mid st ws).bmLast = s.bmLast := rfl
@[simp] theorem noteRsp_bmOut (mid : MasterId) (st : Status) (ws : List (Word × Bool)) : (s.noteRsp mid st ws).bmOut = s.bmOut := rfl
@[simp] theorem noteRsp_bmRet (mid : MasterId) (st : Status) (ws : List (Word × Bool)) : (s.noteRsp mid st ws).bmRet = s.bmRet := rfl
@[simp] theorem noteRsp_arith (mid : MasterId) (st : Status) (ws : List (Word × Bool)) : (s.noteRsp mid st ws).arith = s.arith := rfl
@[simp] theorem noteRsp_lineStop (mid : MasterId) (st : Status) (ws : List (Word × Bool)) : (s.noteRsp mid st ws).lineStop = s.lineStop := rfl
@[simp] theorem noteRsp_sectors (mid : MasterId) (st : Status) (ws : List (Word × Bool)) : (s.noteRsp mid st ws).sectors = s.sectors := rfl
@[simp] theorem noteRsp_loader (mid : MasterId) (st : Status) (ws : List (Word × Bool)) : (s.noteRsp mid st ws).loader = s.loader := rfl
@[simp] theorem noteRsp_xacts (mid : MasterId) (st : Status) (ws : List (Word × Bool)) : (s.noteRsp mid st ws).xacts = s.xacts := rfl
@[simp] theorem noteRsp_xnext (mid : MasterId) (st : Status) (ws : List (Word × Bool)) : (s.noteRsp mid st ws).xnext = s.xnext := rfl
@[simp] theorem noteRsp_dram (mid : MasterId) (st : Status) (ws : List (Word × Bool)) : (s.noteRsp mid st ws).dram = s.dram := rfl
@[simp] theorem noteRsp_dmcs (mid : MasterId) (st : Status) (ws : List (Word × Bool)) : (s.noteRsp mid st ws).dmcs = s.dmcs := rfl
@[simp] theorem noteRsp_ilvLocked (mid : MasterId) (st : Status) (ws : List (Word × Bool)) : (s.noteRsp mid st ws).ilvLocked = s.ilvLocked := rfl
@[simp] theorem noteRsp_ice (mid : MasterId) (st : Status) (ws : List (Word × Bool)) : (s.noteRsp mid st ws).ice = s.ice := rfl
@[simp] theorem noteRsp_lanes (mid : MasterId) (st : Status) (ws : List (Word × Bool)) : (s.noteRsp mid st ws).lanes = s.lanes := rfl
@[simp] theorem noteRsp_bridges (mid : MasterId) (st : Status) (ws : List (Word × Bool)) : (s.noteRsp mid st ws).bridges = s.bridges := rfl
@[simp] theorem noteRsp_tb (mid : MasterId) (st : Status) (ws : List (Word × Bool)) : (s.noteRsp mid st ws).tb = s.tb := rfl
@[simp] theorem noteRsp_flights (mid : MasterId) (st : Status) (ws : List (Word × Bool)) : (s.noteRsp mid st ws).flights = s.flights := rfl
@[simp] theorem noteRsp_fnext (mid : MasterId) (st : Status) (ws : List (Word × Bool)) : (s.noteRsp mid st ws).fnext = s.fnext := rfl
@[simp] theorem noteRsp_nis (mid : MasterId) (st : Status) (ws : List (Word × Bool)) : (s.noteRsp mid st ws).nis = s.nis := rfl
@[simp] theorem noteRsp_arbs (mid : MasterId) (st : Status) (ws : List (Word × Bool)) : (s.noteRsp mid st ws).arbs = s.arbs := rfl
@[simp] theorem noteRsp_rtc (mid : MasterId) (st : Status) (ws : List (Word × Bool)) : (s.noteRsp mid st ws).rtc = s.rtc := rfl
@[simp] theorem noteRsp_temps (mid : MasterId) (st : Status) (ws : List (Word × Bool)) : (s.noteRsp mid st ws).temps = s.temps := rfl
@[simp] theorem noteRsp_mb (mid : MasterId) (st : Status) (ws : List (Word × Bool)) : (s.noteRsp mid st ws).mb = s.mb := rfl
@[simp] theorem noteRsp_pwr (mid : MasterId) (st : Status) (ws : List (Word × Bool)) : (s.noteRsp mid st ws).pwr = s.pwr := rfl
@[simp] theorem noteRsp_io (mid : MasterId) (st : Status) (ws : List (Word × Bool)) : (s.noteRsp mid st ws).io = s.io := rfl
@[simp] theorem noteRsp_harts (mid : MasterId) (st : Status) (ws : List (Word × Bool)) : (s.noteRsp mid st ws).harts = s.harts := rfl
@[simp] theorem noteRsp_caches (mid : MasterId) (st : Status) (ws : List (Word × Bool)) : (s.noteRsp mid st ws).caches = s.caches := rfl
@[simp] theorem noteRsp_dbg (mid : MasterId) (st : Status) (ws : List (Word × Bool)) : (s.noteRsp mid st ws).dbg = s.dbg := rfl
@[simp] theorem noteRsp_err (mid : MasterId) (st : Status) (ws : List (Word × Bool)) : (s.noteRsp mid st ws).err = s.err := rfl
@[simp] theorem noteRsp_plic (mid : MasterId) (st : Status) (ws : List (Word × Bool)) : (s.noteRsp mid st ws).plic = s.plic := rfl
@[simp] theorem noteRsp_eng (mid : MasterId) (st : Status) (ws : List (Word × Bool)) (e0 : Nat) : (s.noteRsp mid st ws).eng e0 = s.eng e0 := rfl
@[simp] theorem noteRsp_chan (mid : MasterId) (st : Status) (ws : List (Word × Bool)) (p0 : Nat) : (s.noteRsp mid st ws).chan p0 = s.chan p0 := rfl
@[simp] theorem noteRsp_fcu (mid : MasterId) (st : Status) (ws : List (Word × Bool)) (c0 : Nat) : (s.noteRsp mid st ws).fcu c0 = s.fcu c0 := rfl
@[simp] theorem noteRsp_slc (mid : MasterId) (st : Status) (ws : List (Word × Bool)) (n0 : Nat) : (s.noteRsp mid st ws).slc n0 = s.slc n0 := rfl
@[simp] theorem noteRsp_reg (mid : MasterId) (st : Status) (ws : List (Word × Bool)) (r0 : RegId) (i0 j0 k0 : Nat) : (s.noteRsp mid st ws).reg r0 i0 j0 k0 = s.reg r0 i0 j0 k0 := rfl
@[simp] theorem noteRsp_shadowReg (mid : MasterId) (st : Status) (ws : List (Word × Bool)) (r0 : RegId) (i0 j0 k0 : Nat) : (s.noteRsp mid st ws).shadowReg r0 i0 j0 k0 = s.shadowReg r0 i0 j0 k0 := rfl
@[simp] theorem noteRsp_fld (mid : MasterId) (st : Status) (ws : List (Word × Bool)) (f0 : Fld) (i0 j0 k0 : Nat) : (s.noteRsp mid st ws).fld f0 i0 j0 k0 = s.fld f0 i0 j0 k0 := rfl
@[simp] theorem noteRsp_flag (mid : MasterId) (st : Status) (ws : List (Word × Bool)) (f0 : Fld) (i0 j0 k0 : Nat) : (s.noteRsp mid st ws).flag f0 i0 j0 k0 = s.flag f0 i0 j0 k0 := rfl
@[simp] theorem noteRsp_sfld (mid : MasterId) (st : Status) (ws : List (Word × Bool)) (f0 : Fld) (i0 j0 k0 : Nat) : (s.noteRsp mid st ws).sfld f0 i0 j0 k0 = s.sfld f0 i0 j0 k0 := rfl
@[simp] theorem noteRsp_cell (mid : MasterId) (st : Status) (ws : List (Word × Bool)) (n0 j0 : Nat) : (s.noteRsp mid st ws).cell n0 j0 = s.cell n0 j0 := rfl
@[simp] theorem noteRsp_now (mid : MasterId) (st : Status) (ws : List (Word × Bool)) : (s.noteRsp mid st ws).now = s.now := rfl
@[simp] theorem noteRsp_gangSize (mid : MasterId) (st : Status) (ws : List (Word × Bool)) (e0 : Nat) : (s.noteRsp mid st ws).gangSize e0 = s.gangSize e0 := rfl
@[simp] theorem noteRsp_leader (mid : MasterId) (st : Status) (ws : List (Word × Bool)) (e0 : Nat) : (s.noteRsp mid st ws).leader e0 = s.leader e0 := rfl
@[simp] theorem noteRsp_members (mid : MasterId) (st : Status) (ws : List (Word × Bool)) (e0 : Nat) : (s.noteRsp mid st ws).members e0 = s.members e0 := rfl
@[simp] theorem noteRsp_domOn (mid : MasterId) (st : Status) (ws : List (Word × Bool)) (d0 : Nat) : (s.noteRsp mid st ws).domOn d0 = s.domOn d0 := rfl
@[simp] theorem noteRsp_live (mid : MasterId) (st : Status) (ws : List (Word × Bool)) (d0 : Nat) : (s.noteRsp mid st ws).live d0 = s.live d0 := rfl

/-! ### keep -/

@[simp] theorem keep_pending (t : State) : (s.keep t).pending = s.pending := rfl
@[simp] theorem keep_free (t : State) : (s.keep t).free = t.free := rfl
@[simp] theorem keep_time (t : State) : (s.keep t).time = t.time := rfl
@[simp] theorem keep_regs (t : State) : (s.keep t).regs = t.regs := rfl
@[simp] theorem keep_work (t : State) : (s.keep t).work = t.work := rfl
@[simp] theorem keep_shadow (t : State) : (s.keep t).shadow = t.shadow := rfl
@[simp] theorem keep_engines (t : State) : (s.keep t).engines = t.engines := rfl
@[simp] theorem keep_chans (t : State) : (s.keep t).chans = t.chans := rfl
@[simp] theorem keep_offs (t : State) : (s.keep t).offs = t.offs := rfl
@[simp] theorem keep_fcus (t : State) : (s.keep t).fcus = t.fcus := rfl
@[simp] theorem keep_slices (t : State) : (s.keep t).slices = t.slices := rfl
@[simp] theorem keep_slcs (t : State) : (s.keep t).slcs = t.slcs := rfl
@[simp] theorem keep_sbk (t : State) : (s.keep t).sbk = t.sbk := rfl
@[simp] theorem keep_flash (t : State) : (s.keep t).flash = t.flash := rfl
@[simp] theorem keep_smp (t : State) : (s.keep t).smp = t.smp := rfl
@[simp] theorem keep_log (t : State) : (s.keep t).log = t.log := rfl
@[simp] theorem keep_fuses (t : State) : (s.keep t).fuses = t.fuses := rfl
@[simp] theorem keep_frames (t : State) : (s.keep t).frames = t.frames := rfl
@[simp] theorem keep_ffs (t : State) : (s.keep t).ffs = t.ffs := rfl
@[simp] theorem keep_bm (t : State) : (s.keep t).bm = t.bm := rfl
@[simp] theorem keep_bmLast (t : State) : (s.keep t).bmLast = t.bmLast := rfl
@[simp] theorem keep_bmOut (t : State) : (s.keep t).bmOut = t.bmOut := rfl
@[simp] theorem keep_bmRet (t : State) : (s.keep t).bmRet = t.bmRet := rfl
@[simp] theorem keep_arith (t : State) : (s.keep t).arith = t.arith := rfl
@[simp] theorem keep_lineStop (t : State) : (s.keep t).lineStop = t.lineStop := rfl
@[simp] theorem keep_sectors (t : State) : (s.keep t).sectors = t.sectors := rfl
@[simp] theorem keep_loader (t : State) : (s.keep t).loader = t.loader := rfl
@[simp] theorem keep_xacts (t : State) : (s.keep t).xacts = t.xacts := rfl
@[simp] theorem keep_rsps (t : State) : (s.keep t).rsps = t.rsps := rfl
@[simp] theorem keep_xnext (t : State) : (s.keep t).xnext = t.xnext := rfl
@[simp] theorem keep_dram (t : State) : (s.keep t).dram = t.dram := rfl
@[simp] theorem keep_dmcs (t : State) : (s.keep t).dmcs = t.dmcs := rfl
@[simp] theorem keep_ilvLocked (t : State) : (s.keep t).ilvLocked = t.ilvLocked := rfl
@[simp] theorem keep_ice (t : State) : (s.keep t).ice = t.ice := rfl
@[simp] theorem keep_lanes (t : State) : (s.keep t).lanes = t.lanes := rfl
@[simp] theorem keep_bridges (t : State) : (s.keep t).bridges = t.bridges := rfl
@[simp] theorem keep_tb (t : State) : (s.keep t).tb = t.tb := rfl
@[simp] theorem keep_flights (t : State) : (s.keep t).flights = t.flights := rfl
@[simp] theorem keep_fnext (t : State) : (s.keep t).fnext = t.fnext := rfl
@[simp] theorem keep_nis (t : State) : (s.keep t).nis = t.nis := rfl
@[simp] theorem keep_arbs (t : State) : (s.keep t).arbs = t.arbs := rfl
@[simp] theorem keep_rtc (t : State) : (s.keep t).rtc = t.rtc := rfl
@[simp] theorem keep_temps (t : State) : (s.keep t).temps = t.temps := rfl
@[simp] theorem keep_mb (t : State) : (s.keep t).mb = t.mb := rfl
@[simp] theorem keep_pwr (t : State) : (s.keep t).pwr = t.pwr := rfl
@[simp] theorem keep_io (t : State) : (s.keep t).io = t.io := rfl
@[simp] theorem keep_harts (t : State) : (s.keep t).harts = t.harts := rfl
@[simp] theorem keep_caches (t : State) : (s.keep t).caches = t.caches := rfl
@[simp] theorem keep_dbg (t : State) : (s.keep t).dbg = t.dbg := rfl
@[simp] theorem keep_err (t : State) : (s.keep t).err = t.err := rfl
@[simp] theorem keep_plic (t : State) : (s.keep t).plic = t.plic := rfl
@[simp] theorem keep_eng (t : State) (e0 : Nat) : (s.keep t).eng e0 = t.eng e0 := rfl
@[simp] theorem keep_chan (t : State) (p0 : Nat) : (s.keep t).chan p0 = t.chan p0 := rfl
@[simp] theorem keep_fcu (t : State) (c0 : Nat) : (s.keep t).fcu c0 = t.fcu c0 := rfl
@[simp] theorem keep_slc (t : State) (n0 : Nat) : (s.keep t).slc n0 = t.slc n0 := rfl
@[simp] theorem keep_reg (t : State) (r0 : RegId) (i0 j0 k0 : Nat) : (s.keep t).reg r0 i0 j0 k0 = t.reg r0 i0 j0 k0 := rfl
@[simp] theorem keep_shadowReg (t : State) (r0 : RegId) (i0 j0 k0 : Nat) : (s.keep t).shadowReg r0 i0 j0 k0 = t.shadowReg r0 i0 j0 k0 := rfl
@[simp] theorem keep_fld (t : State) (f0 : Fld) (i0 j0 k0 : Nat) : (s.keep t).fld f0 i0 j0 k0 = t.fld f0 i0 j0 k0 := rfl
@[simp] theorem keep_flag (t : State) (f0 : Fld) (i0 j0 k0 : Nat) : (s.keep t).flag f0 i0 j0 k0 = t.flag f0 i0 j0 k0 := rfl
@[simp] theorem keep_sfld (t : State) (f0 : Fld) (i0 j0 k0 : Nat) : (s.keep t).sfld f0 i0 j0 k0 = t.sfld f0 i0 j0 k0 := rfl
@[simp] theorem keep_cell (t : State) (n0 j0 : Nat) : (s.keep t).cell n0 j0 = t.cell n0 j0 := rfl
@[simp] theorem keep_now (t : State) : (s.keep t).now = t.now := rfl
@[simp] theorem keep_gangSize (t : State) (e0 : Nat) : (s.keep t).gangSize e0 = t.gangSize e0 := rfl
@[simp] theorem keep_leader (t : State) (e0 : Nat) : (s.keep t).leader e0 = t.leader e0 := rfl
@[simp] theorem keep_members (t : State) (e0 : Nat) : (s.keep t).members e0 = t.members e0 := rfl
@[simp] theorem keep_domOn (t : State) (d0 : Nat) : (s.keep t).domOn d0 = t.domOn d0 := rfl
@[simp] theorem keep_live (t : State) (d0 : Nat) : (s.keep t).live d0 = t.live d0 := rfl

end Sys2Proof.Machine
end

