-- ==== Sys2Proof/Laws/Access.lean ====
section
/-!
SUPPORT. What the shared gates of the commands do: the queue is kept, an event of a unit happens in a live domain, an access
that reaches its block has its effect, and one that does not is answered without any.
-/
namespace Sys2Proof.Machine

open Sys2Proof

variable {s t : State} {mid : MasterId}

/-- A body that leaves the queue as it was is the command's effect. -/
theorem keep_eq (h : t.pending = s.pending) : s.keep t = t := by
  cases t; simp_all [State.keep]

/-- An event of a unit in a domain that is on and clocked happens. -/
theorem inDom_of_live {d : Nat} (h : s.live d = true) (f : State → State) : s.inDom d f = f s := by
  simp [State.inDom, h]

/-- An event of a unit in a domain that is off or without a clock changes nothing. -/
theorem inDom_of_not_live {d : Nat} (h : s.live d = false) (f : State → State) : s.inDom d f = s := by
  simp [State.inDom, h]

/-- An event of a unit in SYS or NET happens while the root clock runs. -/
theorem inRun_of_run (h : s.cstate = ckRun) (f : State → State) : s.inRun f = f s := by
  simp [State.inRun, h]

/-- A command of a unit in a live domain answers what its body makes of the state. -/
theorem keep_inDom {d : Nat} {f : State → State} (h : s.live d = true) (hp : (f s).pending = s.pending) :
    s.keep (s.inDom d f) = f s := by
  rw [inDom_of_live h, keep_eq hp]

/-- The same for a unit in SYS or NET. -/
theorem keep_inRun {f : State → State} (h : s.cstate = ckRun) (hp : (f s).pending = s.pending) :
    s.keep (s.inRun f) = f s := by
  rw [inRun_of_run h, keep_eq hp]

/-- An access that reaches its block has its effect, and the master its response. -/
theorem guarded_of_reaches {g : Region} {w : Bool} (h : s.Reaches mid g w) (f : State → WordReply × State) :
    s.guarded mid g w f =
      (f s).2.noteRsp mid (f s).1.status (if w then [] else [((f s).1.data, (f s).1.poison)]) := by
  obtain ⟨h1, h2, h3⟩ := h
  unfold State.guarded
  rw [if_neg (by simp [h1]), if_neg (by split <;> simp_all), if_neg (by simp [h3])]

/-- A master's write that reaches a register. -/
theorem writeAs_of_reaches {r : RegId} {i : Nat} (h : s.ReachesReg mid r i true) (j : Nat) (v : Word) :
    s.writeAs mid r i j v = (s.regWrite mid r i j 0 v).2.noteRsp mid (s.regWrite mid r i j 0 v).1 [] := by
  simp [State.writeAs, guarded_of_reaches h]

/-- A master's read that reaches a register. -/
theorem readAs_of_reaches {r : RegId} {i : Nat} (h : s.ReachesReg mid r i false) (j : Nat) :
    s.readAs mid r i j =
      (s.regRead mid r i j 0 (s.inspects mid)).2.2.noteRsp mid (s.regRead mid r i j 0 (s.inspects mid)).1
        [((s.regRead mid r i j 0 (s.inspects mid)).2.1, false)] := by
  simp [State.readAs, guarded_of_reaches h]

/-- A master's write of a word of an engine's local space that reaches it. -/
theorem localAs_of_reaches {e : Nat} (h : s.Reaches mid (.engine e) true) (off : Nat) (v : Word) (p same : Bool) :
    s.localAs mid e off v p same =
      (s.localWrite mid.toNat e off v p same).2.noteRsp mid (s.localWrite mid.toNat e off v p same).1 [] := by
  simp [State.localAs, guarded_of_reaches h]

/-- A master without the right is answered EDENY, and nothing else changes (R32, R278). -/
theorem guarded_of_no_right {g : Region} {w : Bool} (h1 : s.masterLive mid = true)
    (h2 : ∀ d, g.domain = some d → s.domOn d = true ∧ s.fenced d = false) (h3 : s.right mid.toNat g w = false)
    (f : State → WordReply × State) : s.guarded mid g w f = s.noteRsp mid .edeny [] := by
  unfold State.guarded
  rw [if_neg (by simp [h1]), if_neg (by split <;> simp_all), if_pos (by simp [h3])]

end Sys2Proof.Machine
end

