-- ==== Sys2Proof/Laws/Effects.lean ====
section
/-!
SUPPORT. What the shared operations over registers, counters and slices can change, said once: each answers the state it is
given with named fields replaced.
-/
namespace Sys2Proof.Machine

open Sys2Proof

variable {s : State}

/-- What every element keeps, a fold over a list keeps. -/
theorem foldl_keeps {α β : Type} (g : State → β) {f : State → α → State} (h : ∀ a n, g (f a n) = g a) (xs : List α)
    (s : State) : g (xs.foldl f s) = g s := by
  induction xs generalizing s with
  | nil => rfl
  | cons x xs ih => simp [ih, h]

/-- A property that every element keeps holds after a fold over a list. -/
theorem foldl_ind {α : Type} {P : State → Prop} {f : State → α → State} (h : ∀ a n, P a → P (f a n)) (xs : List α)
    (s : State) (h0 : P s) : P (xs.foldl f s) := by
  induction xs generalizing s with
  | nil => exact h0
  | cons x xs ih => exact ih _ (h _ _ h0)

/-- A register without a shadow is written among the registers alone. -/
theorem setReg_regs {r : RegId} (h : isShadowed r = false) (v : Word) (i j k : Nat) :
    s.setReg r v i j k = { s with regs := s.regs.set (regAddr r i j k) v (regReset r i j k) } := by
  simp [State.setReg, h]

/-- A shadowed register's working value is written among the working values alone. -/
theorem setReg_work {r : RegId} (h : isShadowed r = true) (v : Word) (i j k : Nat) :
    s.setReg r v i j k = { s with work := s.work.set (regAddr r i j k) v (regReset r i j k) } := by
  simp [State.setReg, h]

/-- A field of a register without a shadow. -/
theorem setFld_regs {f : Fld} (h : isShadowed f.reg = false) (v i j k : Nat) :
    s.setFld f v i j k = { s with regs := (s.setFld f v i j k).regs } := by
  unfold State.setFld; rw [setReg_regs h]

/-- A register reads what was last written to it. -/
@[simp] theorem reg_setReg (r : RegId) (v : Word) (i j k : Nat) : (s.setReg r v i j k).reg r i j k = v := by
  unfold State.reg State.setReg
  cases isShadowed r <;> simp

/-- A register at another address reads as before. -/
theorem reg_setReg_other {r q : RegId} {i j k i' j' k' : Nat} (h : regAddr q i' j' k' ≠ regAddr r i j k) (v : Word) :
    (s.setReg r v i j k).reg q i' j' k' = s.reg q i' j' k' := by
  unfold State.reg State.setReg
  cases isShadowed r <;> cases isShadowed q <;> simp [Tab.get_set_other _ h]

/-- An engine reads as it was last written. -/
@[simp] theorem eng_setEng_same (e : Nat) (x : Engine) : (s.setEng e x).eng e = x := by
  simp [State.eng, State.setEng]

/-- Another engine reads as before. -/
theorem eng_setEng_other {e f : Nat} (h : f ≠ e) (x : Engine) : (s.setEng e x).eng f = s.eng f := by
  simp [State.eng, State.setEng, Tab.get_set_other _ h]

/-! ### Fields of a register -/

/-- The mask of a field has the field's bits. -/
theorem fldMask_bit (f : Fld) {i : Nat} (hi : i < 64) :
    (fldMask f).getLsbD i = decide (f.lo ≤ i ∧ i < f.lo + (f.hi - f.lo + 1)) := by
  simp only [fldMask, BitVec.getLsbD_ofNat, ← Nat.shiftLeft_eq, Nat.testBit_shiftLeft, Nat.testBit_two_pow_sub_one, hi]
  by_cases h : f.lo ≤ i
  · simp [h]; omega
  · simp [h]

/-- A bit of a word with a field replaced. -/
theorem putFld_bit (f : Fld) (v : Nat) (w : Word) {i : Nat} (hi : i < 64) :
    (putFld f v w).getLsbD i =
      if f.lo ≤ i ∧ i < f.lo + (f.hi - f.lo + 1) then v.testBit (i - f.lo) else w.getLsbD i := by
  simp only [putFld, BitVec.getLsbD_or, BitVec.getLsbD_and, BitVec.getLsbD_not, BitVec.getLsbD_shiftLeft, fldMask_bit f hi,
    BitVec.getLsbD_ofNat, hi]
  by_cases h : f.lo ≤ i ∧ i < f.lo + (f.hi - f.lo + 1)
  · have h1 : ¬ i < f.lo := by omega
    have h2 : i - f.lo < 64 := by omega
    simp [h, h1, h2]
  · simp [h]

/-- A bit of a field's value. -/
theorem fldOf_testBit (f : Fld) (w : Word) (i : Nat) :
    (fldOf f w).testBit i = (decide (i < f.hi - f.lo + 1) && w.getLsbD (f.lo + i)) := by
  simp [fldOf, ← BitVec.getLsbD.eq_1]

/-- A field reads what was put into it, cut to its width. -/
theorem fldOf_putFld (f : Fld) (v : Nat) (w : Word) (h : f.lo ≤ f.hi) (h2 : f.hi < 64) :
    fldOf f (putFld f v w) = v % 2 ^ (f.hi - f.lo + 1) := by
  apply Nat.eq_of_testBit_eq
  intro i
  rw [fldOf_testBit, Nat.testBit_mod_two_pow]
  by_cases hi : i < f.hi - f.lo + 1
  · rw [putFld_bit _ _ _ (by omega), if_pos (by omega)]; simp
  · simp [hi]

/-- A field that shares no bit with the field put reads as before. -/
theorem fldOf_putFld_other (f g : Fld) (v : Nat) (w : Word) (hg : g.hi < 64) (h : g.hi < f.lo ∨ f.hi < g.lo) (hf : f.lo ≤ f.hi)
    (hg2 : g.lo ≤ g.hi) : fldOf g (putFld f v w) = fldOf g w := by
  apply Nat.eq_of_testBit_eq
  intro i
  rw [fldOf_testBit, fldOf_testBit]
  by_cases hi : i < g.hi - g.lo + 1
  · rw [putFld_bit _ _ _ (by omega), if_neg (by omega)]
  · simp [hi]

/-- A field of a register reads what was written to it, cut to its width. -/
theorem fld_setFld (f : Fld) (v i j k : Nat) (h : f.lo ≤ f.hi) (h2 : f.hi < 64) :
    (s.setFld f v i j k).fld f i j k = v % 2 ^ (f.hi - f.lo + 1) := by
  unfold State.fld State.setFld
  rw [reg_setReg, fldOf_putFld _ _ _ h h2]

/-- A field of a register at another address reads as before. -/
theorem fld_setFld_reg {f g : Fld} {i j k i' j' k' : Nat} (h : regAddr g.reg i' j' k' ≠ regAddr f.reg i j k) (v : Nat) :
    (s.setFld f v i j k).fld g i' j' k' = s.fld g i' j' k' := by
  unfold State.fld State.setFld
  rw [reg_setReg_other h]

/-- Another field of the same register reads as before. -/
theorem fld_setFld_other {f g : Fld} (hr : g.reg = f.reg) (v i j k : Nat) (hg : g.hi < 64) (h : g.hi < f.lo ∨ f.hi < g.lo)
    (hf : f.lo ≤ f.hi) (hg2 : g.lo ≤ g.hi) : (s.setFld f v i j k).fld g i j k = s.fld g i j k := by
  unfold State.fld State.setFld
  rw [hr, reg_setReg, fldOf_putFld_other _ _ _ _ hg h hf hg2]

/-- R475, R476: counting an event changes the monitors' registers and may pend their interrupt, and nothing else. -/
theorem pmonEvent_changes (i evt port n : Nat) (p : Bool) :
    ∃ r q, s.pmonEvent i evt port n p = { s with regs := r, plic := q } := by
  have hc : isShadowed F.PMON_CNT_COUNT.reg = false := by decide
  have hs : isShadowed F.PMON_STATUS_OVF.reg = false := by decide
  unfold State.pmonEvent
  split
  · exact ⟨s.regs, s.plic, rfl⟩
  · unfold State.forAll
    refine foldl_ind (P := fun a => ∃ r q, a = { s with regs := r, plic := q }) ?_ _ _ ⟨s.regs, s.plic, rfl⟩
    rintro a j ⟨r, q, rfl⟩
    dsimp only
    split
    · split
      · exact ⟨_, _, setFld_regs hc _ _ _ _⟩
      · split
        · rw [setFld_regs hs, setFld_regs hc]; exact ⟨_, _, rfl⟩
        · rw [setFld_regs hs, setFld_regs hc]; exact ⟨_, _, rfl⟩
    · exact ⟨_, _, rfl⟩

/-- A region of a slice is written among the slices' cells alone. -/
theorem setRegion_changes (n w : Nat) (r : BitVec 320) : ∃ c, s.setRegion n w r = { s with slices := c } := by
  unfold State.setRegion
  refine foldl_ind (P := fun a => ∃ c, a = { s with slices := c }) ?_ _ _ ⟨s.slices, rfl⟩
  rintro a j ⟨c, rfl⟩
  exact ⟨_, rfl⟩

/-- What port A's access may change of the state beside the slice's cells: registers (the background test's and the monitors'),
the interrupt controller, the error log's queue and what the slice holds of the access. -/
def SliceChange (s t : State) : Prop := ∃ c r q l e, t = { s with slices := c, regs := r, plic := q, slcs := l, err := e }

theorem SliceChange.refl (s : State) : SliceChange s s := ⟨_, _, _, _, _, rfl⟩

theorem SliceChange.trans {a b c : State} (h : SliceChange a b) (g : SliceChange b c) : SliceChange a c := by
  obtain ⟨_, _, _, _, _, rfl⟩ := h
  obtain ⟨_, _, _, _, _, rfl⟩ := g
  exact ⟨_, _, _, _, _, rfl⟩

theorem SliceChange.setFld {f : Fld} (h : isShadowed f.reg = false) (s : State) (v i j k : Nat) :
    SliceChange s (s.setFld f v i j k) := by
  rw [setFld_regs h]; exact ⟨_, _, _, _, _, rfl⟩

theorem SliceChange.count {f : Fld} (h : isShadowed f.reg = false) (s : State) (i j k n : Nat) :
    SliceChange s (s.count f i j k n) := .setFld h s _ i j k

theorem SliceChange.setRegion (s : State) (n w : Nat) (r : BitVec 320) : SliceChange s (s.setRegion n w r) := by
  obtain ⟨_, h⟩ := setRegion_changes (s := s) n w r
  rw [h]; exact ⟨_, _, _, _, _, rfl⟩

theorem SliceChange.pmonEvent (s : State) (i evt port n : Nat) (p : Bool) : SliceChange s (s.pmonEvent i evt port n p) := by
  obtain ⟨_, _, h⟩ := pmonEvent_changes (s := s) i evt port n p
  rw [h]; exact ⟨_, _, _, _, _, rfl⟩

theorem SliceChange.bgtRestore (s : State) (n : Nat) : SliceChange s (s.bgtRestore n) := by
  unfold State.bgtRestore
  dsimp only
  split
  · exact .setRegion ..
  · exact .refl _

theorem SliceChange.setBgtCode (s : State) (n c : Nat) : SliceChange s (s.setBgtCode n c) :=
  .setFld (by decide) ..

theorem SliceChange.bgtAdvance (s : State) (n : Nat) : SliceChange s (s.bgtAdvance n) := by
  unfold State.bgtAdvance
  dsimp only
  refine SliceChange.trans ?_ (SliceChange.setBgtCode _ n _)
  split
  · exact .trans (.setFld (by decide) s _ n 0 0) (.count (by decide) _ n 0 0 1)
  · exact .setFld (by decide) s _ n 0 0

theorem SliceChange.bgtCompare (s : State) (n w step : Nat) (x y : BitVec 320) :
    SliceChange s (s.bgtCompare n w step x y) := by
  unfold State.bgtCompare
  dsimp only
  split
  · exact .refl _
  · unfold State.cellFault
    dsimp only
    refine .trans (.count (f := F.SLC_CNT_CELL) (by decide) s n 0 0 1) ?_
    refine .trans (.setFld (f := F.SLC_STATUS_CELL) (by decide) _ 1 n 0 0) ?_
    rw [setReg_regs (r := .SLC_CELL) (by decide)]
    exact ⟨_, _, _, _, _, rfl⟩

theorem SliceChange.bgtFinish (s : State) (n : Nat) : SliceChange s (s.bgtFinish n) := by
  unfold State.bgtFinish
  dsimp only
  split <;> first | exact .bgtCompare .. | exact .refl _

theorem SliceChange.bgtYieldWords (s : State) (n first count : Nat) (a w : Bool) :
    SliceChange s (s.bgtYieldWords n first count a w) := by
  unfold State.bgtYieldWords State.bgtYield
  dsimp only
  split
  · split
    · exact .trans (.bgtFinish ..) (.trans (.setRegion ..) (.trans (.setBgtCode ..) (.pmonEvent ..)))
    · exact .refl _
  · split
    · split
      · refine .trans (.bgtRestore s n) ?_
        split
        · exact .bgtAdvance ..
        · exact .setBgtCode ..
      · exact .refl _
    · split
      · rename_i h
        have : s.bgtCode n = 12 := h.1
        simp only [State.bgtStep, this]
        exact .trans (.bgtCompare ..) (.bgtAdvance ..)
      · exact .refl _

/-- R43, R58, R169: what a port A read changes. -/
theorem SliceChange.portARead (s : State) (n first count : Nat) : SliceChange s (s.portARead n first count).2 := by
  unfold State.portARead
  split
  · exact .refl _
  · refine .trans (.bgtYieldWords s n first count true false) (.trans (.pmonEvent _ (76 + n) 0x30 0 1 true) ?_)
    exact ⟨_, _, _, _, _, rfl⟩

/-- R58, R169: what a port A write changes. -/
theorem SliceChange.portAWrite (s : State) (n j : Nat) (v : Word) (p : Bool) : SliceChange s (s.portAWrite n j v p).2 := by
  unfold State.portAWrite
  split
  · exact .refl _
  · refine .trans (.bgtYieldWords s n j 1 true true) (.trans (.pmonEvent _ (76 + n) 0x30 0 1 true) ?_)
    exact ⟨_, _, _, _, _, rfl⟩

/-- No port A access reaches the queue or the engines. -/
theorem SliceChange.pending {s t : State} (h : SliceChange s t) : t.pending = s.pending := by
  obtain ⟨_, _, _, _, _, rfl⟩ := h; rfl
theorem SliceChange.engines {s t : State} (h : SliceChange s t) : t.engines = s.engines := by
  obtain ⟨_, _, _, _, _, rfl⟩ := h; rfl
theorem SliceChange.eng {s t : State} (h : SliceChange s t) (e : Nat) : t.eng e = s.eng e := by
  unfold State.eng; rw [h.engines]

end Sys2Proof.Machine
end

