-- ==== Sys2Proof/Laws/Flash.lean ====
section
/-!
SUPPORT. The flash space: bytes that are written read back, and every other byte keeps its content.
-/
namespace Sys2Proof.Machine

/-- Values set at n keys from a: each reads at its key, and every other key keeps its own. -/
theorem Tab.get_setRange {α : Type} [DecidableEq α] (t : Tab α) (a n k : Nat) (f : Nat → α) (d : α) :
    ((List.range n).foldl (fun acc i => acc.set (a + i) (f i) d) t).get k d =
      if a ≤ k ∧ k < a + n then f (k - a) else t.get k d := by
  induction n with
  | zero => simp
  | succ n ih =>
    rw [List.range_succ, List.foldl_append, List.foldl_cons, List.foldl_nil, Tab.get_set, ih]
    by_cases h : k = a + n
    · subst h; simp
    · rw [if_neg h]
      congr 1
      simp only [eq_iff_iff]
      omega

/-- A byte of the combined space reads as its entry (R230). -/
theorem State.flashByte_eq (s : State) (k : Nat) : s.flashByte k = s.flash.get k flashBlank := by
  unfold State.flashByte State.chipByte
  congr 1
  omega

/-- What setFlash does: the bytes read back, and every other byte is as it was. -/
theorem State.flashByte_setFlash (s : State) (a k : Nat) (bs : List Byte) :
    (s.setFlash a bs).flashByte k = if a ≤ k ∧ k < a + bs.length then bs.getD (k - a) 0 else s.flashByte k := by
  rw [State.flashByte_eq, State.flashByte_eq]
  exact Tab.get_setRange s.flash a bs.length k (fun i => bs.getD i 0) flashBlank

theorem State.flashBytes_setFlash (s : State) (a : Nat) (bs : List Byte) : (s.setFlash a bs).flashBytes a bs.length = bs := by
  unfold State.flashBytes
  apply List.ext_getElem
  · simp
  · intro i h1 h2
    have h3 : i < bs.length := h2
    simp [State.flashByte_setFlash, h3]

end Sys2Proof.Machine
end

