-- ==== Sys2Proof/Laws/Pins.lean ====
section
/-!
SUPPORT. What the placing of events changes: channels and the pins' status registers; and what the acceptance of a vector
does to its gang.
-/
namespace Sys2Proof.Machine

open Sys2Proof

/-- What placing events may change: channels and registers without a shadow. -/
def PinChange (s t : State) : Prop := ∃ c r, t = { s with chans := c, regs := r }

theorem PinChange.refl (s : State) : PinChange s s := ⟨_, _, rfl⟩

theorem PinChange.trans {a b c : State} (h : PinChange a b) (g : PinChange b c) : PinChange a c := by
  obtain ⟨_, _, rfl⟩ := h
  obtain ⟨_, _, rfl⟩ := g
  exact ⟨_, _, rfl⟩

theorem PinChange.engines {s t : State} (h : PinChange s t) : t.engines = s.engines := by obtain ⟨_, _, rfl⟩ := h; rfl

theorem PinChange.eng {s t : State} (h : PinChange s t) (e : Nat) : t.eng e = s.eng e := by unfold State.eng; rw [h.engines]

theorem PinChange.setFld {f : Fld} (h : isShadowed f.reg = false) (s : State) (v i j k : Nat) :
    PinChange s (s.setFld f v i j k) := by
  rw [setFld_regs h]; exact ⟨_, _, rfl⟩

theorem PinChange.raise {f : Fld} (h : isShadowed f.reg = false) (s : State) (i j k : Nat) :
    PinChange s (s.raise f i j k) := .setFld h s 1 i j k

theorem PinChange.count {f : Fld} (h : isShadowed f.reg = false) (s : State) (i j k n : Nat) :
    PinChange s (s.count f i j k n) := .setFld h s _ i j k

theorem PinChange.modChan (s : State) (p : Nat) (f : Channel → Channel) : PinChange s (s.modChan p f) := ⟨_, _, rfl⟩

theorem PinChange.fold {α : Type} {f : State → α → State} (h : ∀ a n, PinChange a (f a n)) (xs : List α) (s : State) :
    PinChange s (xs.foldl f s) :=
  foldl_ind (P := PinChange s) (fun a n ha => ha.trans (h a n)) xs s (.refl s)

theorem PinChange.noteConflicts (s : State) (p n : Nat) : PinChange s (s.noteConflicts p n) := by
  unfold State.noteConflicts
  split
  · exact .refl _
  · exact .trans (.raise (f := F.PIN_STATUS_EDGECONF) (by decide) s p 0 0) (.count (by decide) _ p 0 0 n)

theorem PinChange.placeDrive (s : State) (p : Nat) (ev : PinEvent) : PinChange s (s.placeDrive p ev) :=
  .trans (.modChan s p _) (.noteConflicts _ p _)

theorem PinChange.placeEnable (s : State) (p v off : Nat) (b : Bool) : PinChange s (s.placeEnable p v off b) :=
  .trans (.modChan s p _) (.noteConflicts _ p _)

theorem PinChange.placeStrobe (s : State) (p v off vec j : Nat) (c : BitVec 4) (b : Bool) :
    PinChange s (s.placeStrobe p v off vec j c b) := by
  unfold State.placeStrobe
  exact .modChan s p _

theorem PinChange.placeWindow (s : State) (p v vec : Nat) (q : PinSet) : PinChange s (s.placeWindow p v vec q) := by
  unfold State.placeWindow
  dsimp only
  split
  · exact .modChan s p _
  · exact .trans (.modChan s p _) (.raise (by decide) _ p 0 0)

theorem PinChange.placeEc (s : State) (p v : Nat) (vec : Word48) (q : PinSet) : PinChange s (s.placeEc p v vec q) := by
  have hk : ∀ (c : Prop) [Decidable c] (a : State), PinChange a (if c then a.raise F.PIN_STATUS_EDGECONF p else a) := by
    intro c _ a
    split
    · exact .raise (by decide) a p 0 0
    · exact .refl _
  unfold State.placeEc
  exact .trans (.modChan s p _) (hk _ _)

theorem PinChange.placePin (s : State) (m : MemberSrc) (k : Nat) (code : BitVec 4) (ts : BitVec 6) (v key : Nat)
    (vec : Word48) : PinChange s (s.placePin m k code ts v key vec) := by
  unfold State.placePin
  dsimp only
  split
  · exact .refl _
  · split
    · exact .trans (.fold (fun a ev => .placeDrive a _ ev) _ s) (.placeEnable _ _ v _ true)
    · split
      · exact .trans (.placeEnable s _ v _ false) (.fold (fun a n => .placeStrobe a _ v _ _ n _ _) _ _)
      · split
        · exact .trans (.placeEnable s _ v _ false) (.placeWindow _ _ v _ _)
        · split
          · exact .trans (.placeEnable s _ v _ false) (.placeEc _ _ v _ _)
          · exact .placeEnable s _ v _ false

end Sys2Proof.Machine
end

