-- ==== Sys2Proof/Laws/Slots.lean ====
section
/-!
SUPPORT. What one operation of a slot does to an engine that executes bundles (R87, R91, R94, R97), said once for each slot:
the operation acts on its engine alone where no fault of R69 meets it.
-/
namespace Sys2Proof.Machine

open Sys2Proof

variable {s : State}

/-- A change of one engine leaves everything else as it was. -/
theorem onlyEngine_modEng (s : State) (e : Nat) (f : Engine → Engine) : OnlyEngine s e (f (s.eng e)) (s.modEng e f) :=
  ⟨rfl, eng_setEng_same e _, fun _ h => eng_setEng_other h _⟩

/-- The same for an engine that is replaced. -/
theorem onlyEngine_setEng (s : State) (e : Nat) (x : Engine) : OnlyEngine s e x (s.setEng e x) :=
  ⟨rfl, eng_setEng_same e _, fun _ h => eng_setEng_other h _⟩

/-- Nothing at all changes. -/
theorem onlyEngine_refl (s : State) (e : Nat) : OnlyEngine s e (s.eng e) s := ⟨rfl, rfl, fun _ _ => rfl⟩

/-- A change of one engine does not reach the queue. -/
theorem OnlyEngine.pending {s t : State} {e : Nat} {x : Engine} (h : OnlyEngine s e x t) : t.pending = s.pending := by
  rw [h.1]

/-- A command of a unit in a live domain answers its body's state, where the body leaves the queue alone. -/
theorem answers_inDom {c : Instr} {d : Nat} {f : State → State} {P : State → Prop}
    (hc : exec c s = .next (s.keep (s.inDom d f))) (hl : s.live d = true) (hp : (f s).pending = s.pending) (h : P (f s)) :
    Answers c s P :=
  ⟨f s, by rw [hc, keep_inDom hl hp], h⟩

/-- The same for a command that changes one engine only. -/
theorem answers_onlyEngine {c : Instr} {d e : Nat} {f : State → State} {x : Engine}
    (hc : exec c s = .next (s.keep (s.inDom d f))) (hl : s.live d = true) (h : OnlyEngine s e x (f s)) :
    Answers c s (OnlyEngine s e x) :=
  answers_inDom hc hl h.pending h

/-- R91: an AGEN operation that neither loads nor stores writes its registers and its flag. -/
theorem opAgen_plain {e : Nat} {i : BAddr} {op : AgenOp} (hr : s.running e = true) (hok : op.ok = true)
    (hl : (s.agenEff e (s.eng e) op).load = none) (hs : (s.agenEff e (s.eng e) op).store = none)
    (hp : op.consumes.any (s.eng e).rp = false) :
    s.opAgen e i op = s.modEng e (fun y =>
      { y.applyAgen (s.agenEff e (s.eng e) op) with
        flags := setFlags (y.applyAgen (s.agenEff e (s.eng e) op)).flags (s.agenEff e (s.eng e) op).cmps }) := by
  simp [State.opAgen, hr, hok, hl, hs, hp]

/-- R58, R91: an AGEN operation that stores in analysis mode writes its registers and then the word through port A. -/
theorem opAgen_store {e : Nat} {i : BAddr} {op : AgenOp} {a : Word32} {n : BitVec 4} (hr : s.running e = true)
    (hok : op.ok = true) (hst : s.streaming e = false) (hp : op.consumes.any (s.eng e).rp = false)
    (hl : (s.agenEff e (s.eng e) op).load = none) (hs : (s.agenEff e (s.eng e) op).store = some (a, n))
    (hm : s.memBad e a = false) :
    s.opAgen e i op = ((s.modEng e (fun y =>
      { y.applyAgen (s.agenEff e (s.eng e) op) with
        flags := setFlags (y.applyAgen (s.agenEff e (s.eng e) op)).flags (s.agenEff e (s.eng e) op).cmps })).portAWrite
      e a.toNat ((s.eng e).rd n.toNat) ((s.eng e).rp n.toNat)).2 := by
  simp [State.opAgen, hr, hok, hl, hs, hp, hst, hm]

/-- R58, R91: an AGEN operation that loads in analysis mode writes its registers and issues the load to port A. -/
theorem opAgen_load {e : Nat} {i : BAddr} {op : AgenOp} {a : Word32} {n : BitVec 4} (hr : s.running e = true)
    (hok : op.ok = true) (hst : s.streaming e = false) (hp : op.consumes.any (s.eng e).rp = false)
    (hl : (s.agenEff e (s.eng e) op).load = some (n, a)) (hm : s.memBad e a = false) :
    s.opAgen e i op = (s.modEng e (fun y =>
      { y.applyAgen (s.agenEff e (s.eng e) op) with
        flags := setFlags (y.applyAgen (s.agenEff e (s.eng e) op)).flags (s.agenEff e (s.eng e) op).cmps })).issueLoad
      e (some (n, a)) 7 := by
  simp [State.opAgen, hr, hok, hl, hp, hst, hm]

/-- R94: a DGEN operation writes its register, DO, its generator and its flag. -/
theorem opDgen_plain {e : Nat} {i : BAddr} {op : DgenOp} (hr : s.running e = true) (hok : op.ok = true)
    (hp : op.consumes.any (s.eng e).rp = false) :
    s.opDgen e i op = s.modEng e (fun y =>
      { y.applyDgen (dgenEff (s.eng e) (s.eng e).ao op).1 with
        flags := setFlags (y.applyDgen (dgenEff (s.eng e) (s.eng e).ao op).1).flags (dgenEff (s.eng e) (s.eng e).ao op).2 }) := by
  simp [State.opDgen, hr, hok, hp]

/-- R97: a MAC operation writes its accumulators, its register and its flag, and a clamp sets CE_STATUS.MACSAT. -/
theorem opMac_plain {e : Nat} {i : BAddr} {op : MacOp} (hr : s.running e = true) (hok : op.ok = true)
    (hp : op.consumes.any (s.eng e).rp = false) :
    s.opMac e i op =
      (let t := s.modEng e (fun y =>
        { y.applyMac (macEff (s.eng e) op).1 with
          flags := setFlags (y.applyMac (macEff (s.eng e) op).1).flags (macEff (s.eng e) op).2 })
       if (macEff (s.eng e) op).1.sat then t.raise F.CE_STATUS_MACSAT e else t) := by
  simp [State.opMac, hr, hok, hp]

end Sys2Proof.Machine
end

