-- ==== Sys2Proof/Laws/Slices.lean ====
section
/-!
SUPPORT. What the operations of a pattern slice leave in its code words: a write puts its own word, and the background test, where
it gives its region back (R169), writes that region alone.
-/
namespace Sys2Proof.Machine

open Sys2Proof

variable {s : State}

/-- Code words within their slices have keys of their own. -/
theorem sliceKey_inj {n j m w : Nat} (hj : j < 131072) (hw : w < 131072) : sliceKey n j = sliceKey m w ↔ n = m ∧ j = w := by
  unfold sliceKey; omega

@[simp] theorem cell_setCell_same (n j : Nat) (c : Code64) : (s.setCell n j c).cell n j = c := by
  simp [State.cell, State.setCell]

/-- Another code word reads as before. -/
theorem cell_setCell_other {n j m w : Nat} (hj : j < 131072) (hw : w < 131072) (h : ¬ (m = n ∧ w = j)) (c : Code64) :
    (s.setCell n j c).cell m w = s.cell m w := by
  unfold State.cell State.setCell
  exact Tab.get_set_other _ (fun hk => h ((sliceKey_inj hw hj).1 hk)) _ _ _

/-- A region's write leaves every other region as it was. -/
theorem cell_setRegion_other {n r m w : Nat} (hr : r < 32768) (hw : w < 131072) (h : ¬ (m = n ∧ w / 4 = r)) (v : BitVec 320) :
    (s.setRegion n r v).cell m w = s.cell m w := by
  unfold State.setRegion
  have : ∀ (xs : List Nat) (a : State), (∀ i ∈ xs, i < 4) → (xs.foldl (fun acc i => acc.setCell n (4 * r + i) (regionWord v i)) a).cell m w = a.cell m w := by
    intro xs
    induction xs with
    | nil => intro a _; rfl
    | cons x xs ih =>
      intro a hx
      have h4 : x < 4 := hx x (by simp)
      rw [List.foldl_cons, ih _ (fun i hi => hx i (by simp [hi])),
        cell_setCell_other (by omega) hw (by rintro ⟨rfl, rfl⟩; exact h ⟨rfl, by omega⟩)]
  exact this _ _ (by simp)

/-- Registers are not code words. -/
@[simp] theorem cell_setFld (f : Fld) (v i j k m w : Nat) : (s.setFld f v i j k).cell m w = s.cell m w := rfl
@[simp] theorem cell_count (f : Fld) (i j k n m w : Nat) : (s.count f i j k n).cell m w = s.cell m w := rfl
@[simp] theorem cell_setBgtCode (n c m w : Nat) : (s.setBgtCode n c).cell m w = s.cell m w := rfl
@[simp] theorem cell_pmonEvent (i evt port n : Nat) (p : Bool) (m w : Nat) :
    (s.pmonEvent i evt port n p).cell m w = s.cell m w := by
  obtain ⟨_, _, h⟩ := pmonEvent_changes (s := s) i evt port n p; rw [h]; rfl
@[simp] theorem cell_modSlc (n : Nat) (f : Slc → Slc) (m w : Nat) : (s.modSlc n f).cell m w = s.cell m w := rfl
@[simp] theorem cell_modEng (e : Nat) (f : Engine → Engine) (m w : Nat) : (s.modEng e f).cell m w = s.cell m w := rfl
@[simp] theorem cell_bgtAdvance (n m w : Nat) : (s.bgtAdvance n).cell m w = s.cell m w := by
  unfold State.bgtAdvance; dsimp only; split <;> simp
@[simp] theorem cell_setReg (r : RegId) (v : Word) (i j k m w : Nat) : (s.setReg r v i j k).cell m w = s.cell m w := rfl
@[simp] theorem cell_raise (f : Fld) (i j k m w : Nat) : (s.raise f i j k).cell m w = s.cell m w := rfl
@[simp] theorem cell_logErr (r : ErrRec) (m w : Nat) : (s.logErr r).cell m w = s.cell m w := rfl
@[simp] theorem cell_bgtCompare (n r st m w : Nat) (x y : BitVec 320) : (s.bgtCompare n r st x y).cell m w = s.cell m w := by
  unfold State.bgtCompare State.cellFault
  dsimp only
  split
  · rfl
  · rw [cell_logErr, cell_setReg, cell_raise, cell_count]

/-- The cursor of the background test names a region of its slice. -/
theorem cursor_lt (n : Nat) : s.fld F.SLC_BGT_CURSOR n < 32768 := by
  unfold State.fld fldOf
  exact lt_of_lt_of_eq (BitVec.isLt _) (by decide)

/-- R169: giving the region back writes that region alone. -/
theorem cell_bgtRestore {n m w : Nat} (hw : w < 131072) (h : ¬ (m = n ∧ 3 ≤ s.bgtCode n ∧ w / 4 = s.fld F.SLC_BGT_CURSOR n)) :
    (s.bgtRestore n).cell m w = s.cell m w := by
  unfold State.bgtRestore
  dsimp only
  split
  · rename_i hc
    exact cell_setRegion_other (cursor_lt n) hw (fun hk => h ⟨hk.1, hc.1, hk.2⟩) _
  · rfl

/-- R169: completing the step in progress changes no code word. -/
@[simp] theorem cell_bgtFinish (n m w : Nat) : (s.bgtFinish n).cell m w = s.cell m w := by
  unfold State.bgtFinish
  dsimp only
  split <;> simp

/-- R169: an access that meets the background test changes no code word outside the region under test. -/
theorem cell_bgtYieldWords {n m w : Nat} (hw : w < 131072)
    (h : ¬ (m = n ∧ 3 ≤ s.bgtCode n ∧ w / 4 = s.fld F.SLC_BGT_CURSOR n)) (first count : Nat) (a wr : Bool) :
    (s.bgtYieldWords n first count a wr).cell m w = s.cell m w := by
  unfold State.bgtYieldWords State.bgtYield
  dsimp only
  split
  · rename_i hc
    split
    · simp [cell_setRegion_other (cursor_lt n) hw (fun hk => h ⟨hk.1, hc.1, hk.2⟩)]
    · rfl
  · split
    · split
      · split <;> simp [cell_bgtRestore hw h]
      · rfl
    · split
      · rename_i hc
        have : s.bgtCode n = 12 := hc.1
        simp [State.bgtStep, this]
      · rfl

/-- R58: a port A write that is no port A error leaves its word in its code word. -/
theorem cell_portAWrite_same {n : Nat} (h : s.portAError n = false) (j : Nat) (v : Word) (p : Bool) :
    ((s.portAWrite n j v p).2).cell n j = store64 v p := by
  unfold State.portAWrite
  simp [h]

/-- R58: a port A write changes no other code word outside the region under test. -/
theorem cell_portAWrite_other {n m j w : Nat} (hj : j < 131072) (hw : w < 131072)
    (h : ¬ (m = n ∧ (w = j ∨ (3 ≤ s.bgtCode n ∧ w / 4 = s.fld F.SLC_BGT_CURSOR n)))) (v : Word) (p : Bool) :
    ((s.portAWrite n j v p).2).cell m w = s.cell m w := by
  unfold State.portAWrite
  split
  · rfl
  · simp only [cell_modSlc]
    rw [cell_setCell_other hj hw (fun hk => h ⟨hk.1, .inl hk.2⟩), cell_pmonEvent,
      cell_bgtYieldWords hw (fun hk => h ⟨hk.1, .inr hk.2⟩)]

/-- R58: what a port A read of one word that is no port A error answers. -/
theorem portARead_one {n : Nat} (h : s.portAError n = false) (j : Nat) :
    (s.portARead n j 1).1 = some [((decode64 ((s.portARead n j 1).2.cell n j)).data, (decode64 ((s.portARead n j 1).2.cell n j)).poison)] := by
  unfold State.portARead
  simp [h, List.range_succ]

/-- A port A read changes no code word outside the region under test. -/
theorem cell_portARead {n m w : Nat} (hw : w < 131072)
    (h : ¬ (m = n ∧ 3 ≤ s.bgtCode n ∧ w / 4 = s.fld F.SLC_BGT_CURSOR n)) (first count : Nat) :
    ((s.portARead n first count).2).cell m w = s.cell m w := by
  unfold State.portARead
  split
  · rfl
  · simp only [cell_modSlc, cell_pmonEvent]; exact cell_bgtYieldWords hw h ..

end Sys2Proof.Machine
end

