-- ==== Sys2Proof/WellFormed.lean ====
section
/-!
DEFINITION. Well-formed commands: what the operands' types cannot say. A meaning is total: on a command that is not well-formed
it does what its operands lead to, which no unit of the part would ask for.
-/
namespace Sys2Proof

open Sys2Proof.Machine

/-- R30: a master ID that some packet carries. -/
def masterOk (m : MasterId) : Bool := decide (m.toNat < 349)

/-- The command's operands name what the part has. -/
def WellFormed : Instr → Bool
  | .registerWrite mid _ _ _ => masterOk mid
  | .rcRead mid _ _ => masterOk mid
  | .rd mid _ _ _ _ _ _ => masterOk mid
  | .wr mid _ _ ws _ _ _ => masterOk mid && decide (ws.length < 128)
  | .add64 mid _ _ _ _ _ _ _ _ => masterOk mid
  | .add16s mid _ _ _ _ _ _ _ _ => masterOk mid
  | .add8s mid _ _ _ _ _ _ _ _ => masterOk mid
  | .swap64 mid _ _ _ _ _ _ _ _ => masterOk mid
  | .cas64 mid _ _ _ _ _ _ _ _ _ _ => masterOk mid
  | .rtInject r p => niExists r.val p.val
  | .tokenRefill r p => niExists r.val p.val
  | .arbGrant ix _ _ _ _ _ => arbExists ix.val
  | .arbHoldCut ix _ _ => arbExists ix.val
  | .arbCommit mid ix => masterOk mid && arbExists ix.val
  | .nocCommit mid _ => masterOk mid
  | .wakeRelease r p => niExists r.val p.val
  | .bbinv mid _ => masterOk mid
  | .clear mid _ => masterOk mid
  | .abort mid _ => masterOk mid
  | .analyze mid _ => masterOk mid
  | .disarm mid _ => masterOk mid
  | .arm mid _ => masterOk mid
  | .ceCommit mid _ => masterOk mid
  | .startDoorbell mid _ _ _ => masterOk mid
  | .irqDoorbell mid _ _ => masterOk mid
  | .engineStateWrite mid _ _ _ _ => masterOk mid
  | .tsetCommit mid _ => masterOk mid
  | .pinCfgWrite mid _ _ => masterOk mid
  | .fcuCommit mid _ => masterOk mid
  | .fcuClrSlot mid _ _ => masterOk mid
  | .fcuClrPin mid _ _ => masterOk mid
  | .fcuRrpWrite mid _ _ _ => masterOk mid
  | .sliceFill mid _ => masterOk mid
  | .sliceRetire mid _ _ => masterOk mid
  | .sbkWipe mid => masterOk mid
  | .smpClaim mid => masterOk mid
  | .smpRequestGo mid _ _ => masterOk mid
  | .smpSlotRelease mid _ => masterOk mid
  | .selfcalComplete _ deskew lin base => deskew.length == 96 && lin.length == 1040 && base.length == 96
  | .driftcalComplete rs => rs.all (fun x => x.length == 96)
  | .fabCommit mid _ => masterOk mid
  | .cfgCtrlLoad mid => masterOk mid
  | .cfgCtrlDonerel mid => masterOk mid
  | .throttleEnd _ mid _ => masterOk mid
  | .ilvGo mid _ _ _ => masterOk mid
  | .fill mid _ => masterOk mid
  | .setrate mid _ _ => masterOk mid
  | .retrain mid _ => masterOk mid
  | .iceCommit mid => masterOk mid
  | .keyready mid _ => masterOk mid
  | .resume mid _ => masterOk mid
  | .unlock mid _ => masterOk mid
  | .rekey mid _ => masterOk mid
  | .lnQcommit mid _ => masterOk mid
  | .lnCommit mid _ => masterOk mid
  | .pgen mid _ _ => masterOk mid
  | .pchk mid _ _ => masterOk mid
  | .eyeScan mid _ _ => masterOk mid
  | .swpCommit mid _ => masterOk mid
  | .frameReceive _ f _ => decide (f.cls < 3) && decide (1 ≤ f.blocks.length) && decide (f.blocks.length ≤ 16)
  | .qhead mid _ _ => masterOk mid
  | .rthead mid _ _ => masterOk mid
  | .swpKeyNext mid _ => masterOk mid
  | .tbStep mid _ => masterOk mid
  | .tbTimeRead mid => masterOk mid
  | .errPtrWrite mid _ => masterOk mid
  | .spiCommandFrame bs _ => decide (bs.length ≤ 1056)
  | .mailboxGo mid _ _ => masterOk mid
  | .driftCalibrationPolicy idle => idle.all (fun c => decide (c < 64))
  | .rstCtrlGo mid _ _ => masterOk mid
  | .pwrReqGo mid _ _ => masterOk mid
  | .domainPowerUp d => domExists d.toNat
  | .domainPowerDown d => domExists d.toNat
  | .drainTimeout d => domExists d.toNat
  | .clkCommit mid => masterOk mid
  | .pmxEnWrite mid _ => masterOk mid
  | .gpioLock mid _ => masterOk mid
  | .coreRun mid _ => masterOk mid
  | .irqpost mid _ => masterOk mid
  | .plicClaim mid _ => masterOk mid
  | .plicComplete mid _ _ => masterOk mid
  | .coreUncacheableAccess _ _ _ bytes _ _ _ => [1, 2, 4, 8].contains bytes.val
  | .wdtKick mid _ _ => masterOk mid
  | .vtTxWrite mid _ _ => masterOk mid
  | .vtTxRead mid _ => masterOk mid
  | .vtRxWrite mid _ _ => masterOk mid
  | .vtRxRead mid _ => masterOk mid
  | .pmonCommit mid _ => masterOk mid
  | .pmonClr mid _ => masterOk mid
  | .pmonWindowClose _ bytes => decide (bytes.length ≤ 8)
  | .freeze mid => masterOk mid
  | .run mid => masterOk mid
  | .snap mid => masterOk mid
  | .clearCounters mid => masterOk mid
  | .dbgEwcommit mid => masterOk mid
  | .arithmeticSliceEdge _ _ ins => ins.all (fun x => decide (x.1 < 32))
  | .rdrsp .. | .wrrsp .. | .atrsp .. | .packetHop .. | .responseTimeout .. | .quietSlot | .gangWake .. | .gangStart ..
  | .pipelineStep .. | .prefetchReturn .. | .loadReturn .. | .gangFault .. | .safeState .. | .programEnd ..
  | .endOfPatternState .. | .syncRelease .. | .interruptEntry .. | .restlComplete .. | .fcuPause .. | .nop .. | .jmp ..
  | .br .. | .call .. | .ret .. | .halt .. | .enta .. | .loopi .. | .loopl .. | .popl .. | .setl .. | .clrf .. | .sync ..
  | .savel .. | .restl .. | .reti .. | .anop .. | .aout .. | .seta .. | .seto .. | .setm .. | .movd .. | .adva .. | .cmpa ..
  | .adda .. | .dnop .. | .mov .. | .not .. | .and .. | .or .. | .xor .. | .add .. | .sub .. | .shl .. | .shr .. | .rol ..
  | .ldi .. | .cat .. | .topo .. | .movao .. | .padv .. | .pxor .. | .pseed .. | .unpk .. | .cmpd .. | .mnop .. | .macc ..
  | .msub .. | .maci .. | .msbi .. | .mclr .. | .mlda .. | .mmov .. | .mcmp .. | .normalVector .. | .pauseVector ..
  | .markVector .. | .ballEvent .. | .strobe .. | .windowClose .. | .edgeCapture .. | .compareClose .. | .failFlagSet ..
  | .recordWrite .. | .recordWriteDone .. | .accumulationUpdate .. | .accumulationUpdateDone .. | .bgtStep ..
  | .bgtWaitEnd .. | .sliceFillComplete .. | .sbkWipeComplete | .flush .. | .bufferRelease .. | .setclose .. | .selfcal ..
  | .driftcal .. | .calstat .. | .calinBegin .. | .calinData .. | .calinEnd .. | .calout .. | .smpAttest .. | .imagehash ..
  | .keyrot .. | .offsetLoad .. | .captureAccept .. | .setcloseTimeout | .blockSigned | .truFault | .truRecovery
  | .smpPowerOn | .smpSegmentArrival | .smpWatchdogExpiry | .sector65Scrub .. | .bmRead .. | .bmWrite .. | .bmScrub ..
  | .regionalLineRestart .. | .sectorPortTarget .. | .sectorPortTimeout .. | .engTrig .. | .engIrq .. | .holdRelease
  | .settingsRead .. | .headerCheck .. | .signatureCheck | .frameArrival .. | .sectorFence .. | .hashCheck | .loadTimeout
  | .smpSegmentDelivery | .deviceReady | .userModeEntry | .scrubPassStart .. | .scrubFrame .. | .frameReload ..
  | .scrubPassEnd .. | .lineAccess .. | .cewbWriteBack .. | .patrolRead .. | .refresh .. | .rowIdleClose ..
  | .dramTraining .. | .trainingComplete .. | .dramFillComplete .. | .transitionQuiesced .. | .transitionComplete ..
  | .regionInitComplete .. | .rekeyStep .. | .linkKeyTransfer .. | .quadPllLock .. | .reflos .. | .acquireDone ..
  | .trainingEnd .. | .coefficientRequest .. | .losEvent .. | .lolEvent .. | .losClear .. | .lolClear .. | .receiveWord ..
  | .transmitWord .. | .txUnderrun .. | .eyeScanDone .. | .linkTrain .. | .linkAlign .. | .linkInit .. | .initSend ..
  | .init .. | .linkTimeout .. | .linkRetry .. | .frameSend .. | .ack .. | .ackSend .. | .nak .. | .replayTimeout ..
  | .linkRequest .. | .contextWaitTimeout .. | .bridgeResponse .. | .descriptorIssue .. | .descriptorComplete ..
  | .epochSwitch .. | .timeSyncSend .. | .timeSync .. | .timeReply .. | .stepApply | .servoTrim | .errorRecord
  | .lockstepMismatch | .mbanaRebootComplete | .udpDatagram .. | .arpRequest .. | .icmpEcho .. | .neighborDiscovery ..
  | .spiReplyFrame | .spiStatusFrame | .ping | .getid | .claim | .release | .reset | .set | .get | .attest | .icekey
  | .iceunlock | .linkkey | .cfgstat | .load | .streamBegin | .streamData | .streamEnd | .donerel | .imgwriteBegin
  | .imgwriteData | .imgwriteEnd | .setslot | .sensors | .thresh | .logread | .fwBegin | .fwData | .fwEnd | .fwActivate
  | .fwConfirm | .fwStat | .trialTimeout | .smpPower | .smpReset | .smpRelay | .smpstat | .dbgChal | .dbgResp | .dbgPass
  | .dbgRevoke | .dbgTunnel | .pwrDomain | .pwrStat | .clkGlobal | .dramRate | .vtrim .. | .sleep | .lcStat | .lcNonce
  | .lcProvision | .lcCert | .lcDeploy | .lcRma | .lcScrap | .tamperClear | .leaseExpiry .. | .sensorReading ..
  | .thermalCrit .. | .thermalTrip | .logFlush | .tamper .. | .linkEpoch .. | .dramRetrainingPolicy .. | .scrubRatePolicy
  | .supplyTrimPolicy .. | .patrolPolicy .. | .retirementPolicy .. | .lockdownPolicy .. | .secureBankWipePolicy ..
  | .powerOnReset .. | .oscillatorReady | .rootPllLock | .pllLockRetry .. | .clockMonitorTrip .. | .wakeEvent ..
  | .wakeRestore | .tapReset | .lockSequenceTimeout | .patternMatch .. | .timerCompare .. | .timerCapture ..
  | .spiMasterTransfer .. | .i2cTransaction .. | .uartReceive .. | .uartTransmit .. | .rtcAlarm | .hostBoot
  | .writebackError .. | .machineTimer .. | .wdtExpiry .. | .extest .. | .idcode | .samplePreload .. | .clamp | .highz
  | .dtmcs .. | .dmi .. | .bypass | .hartHalt .. | .hartResume .. | .singleStep .. | .hartreset .. | .ndmreset
  | .abstractCommand .. | .systemBusAccess .. | .triggerFire .. | .watchMatch .. | .watchPause .. | .watchFreeze
  | .globalCommandAct .. | .flipFlopEdge .. | .throttledRequestAdmit .. | .referenceReturn .. | .slotEraseComplete ..
  | .managementPortLink .. | .managementPllLock | .crystalReady | .dbgPassLockoutEnd | .i2cTransactionDone ..
  | .spiMasterTransferDone .. | .smbusAlert .. => true

end Sys2Proof
end

