-- ==== Sys2Proof/Tests/Slice0.lean ====
section
/-!
SUPPORT. Tests. Ill-formed commands are refused; a few worked values of the spec; and for the statements with hypotheses, states
and operands that meet them (test_witness_…). Hypotheses on an opaque value of Config have no witness: no value of it can be shown.
-/
namespace Sys2Proof.Tests

set_option Elab.async false

open Sys2Proof Sys2Proof.Machine

/-- The part with every domain on and its clocks running: CLK_STATUS.CSTATE is RUN, and every bit of PWR_ON is 1. -/
def base : State :=
  { regs := ⟨(103079280640, 1) :: (List.range 8).map (fun k => (103079346432 + 8 * k, BitVec.allOnes 64))⟩ }

/-- That is what these writes make of the reset state. -/
theorem test_base : base =
    (State.reset.forAll (List.range 8) (fun s k => s.setReg .PWR_ON (BitVec.allOnes 64) 0 k)).setFld F.CLK_STATUS_CSTATE ckRun := by
  decide +kernel

/-- The part with engine 0 as given. -/
def withEng (x : Engine) : State := base.setEng 0 x

/-- Engine 0 in ANALYSIS, alone. -/
def analysing : Engine := { mode := .analysis, alone := true }

/-- The conditions of an access, as one decidable test. -/
theorem reaches_of {s : State} {mid : MasterId} {g : Region} {w : Bool}
    (h : (s.masterLive mid && (match g.domain with | some d => s.domOn d && !(s.fenced d) | none => true) &&
      s.right mid.toNat g w) = true) : s.Reaches mid g w := by
  simp only [Bool.and_eq_true] at h
  refine ⟨h.1.1, ?_, h.2⟩
  intro d hd
  simpa [hd] using h.1.2

/-! ### Ill-formed commands -/

/-- Every command of a master refuses a master ID that no packet carries (R30). -/
theorem test_master_beyond_348_is_ill_formed :
    ([.registerWrite 349 none 0 0, .rcRead 349 none 0, .bbinv 349 0, .clear 349 0, .abort 349 0, .analyze 349 0, .disarm 349 0,
      .arm 349 0, .ceCommit 349 0, .startDoorbell 349 0 0 false, .irqDoorbell 349 0 0, .engineStateWrite 349 0 0 0 false,
      .tsetCommit 349 0, .pinCfgWrite 349 0 0, .fcuCommit 349 0, .fcuClrSlot 349 0 0, .fcuClrPin 349 0 0,
      .fcuRrpWrite 349 0 0 0, .sliceFill 349 0, .sliceRetire 349 0 0, .sbkWipe 349, .smpClaim 349, .smpRequestGo 349 0 0,
      .smpSlotRelease 349 0, .fabCommit 349 0, .cfgCtrlLoad 349, .cfgCtrlDonerel 349, .fill 349 0, .setrate 349 0 0,
      .retrain 349 0, .iceCommit 349, .keyready 349 0, .resume 349 0, .unlock 349 0, .rekey 349 0, .lnQcommit 349 0,
      .lnCommit 349 0, .swpCommit 349 0, .swpKeyNext 349 0, .tbStep 349 0, .tbTimeRead 349, .errPtrWrite 349 0,
      .clkCommit 349, .pmxEnWrite 349 0, .gpioLock 349 0, .coreRun 349 0, .irqpost 349 0, .plicClaim 349 0,
      .plicComplete 349 0 0, .vtTxRead 349 0, .vtRxRead 349 0, .pmonCommit 349 0, .pmonClr 349 0, .freeze 349, .run 349,
      .snap 349, .clearCounters 349, .dbgEwcommit 349, .nocCommit 349 0] : List Instr).all (fun c => !(WellFormed c)) = true := by
  decide +kernel

/-- The same for the commands with more operands. -/
theorem test_master_beyond_348_is_ill_formed_more :
    ([.rd 349 0 0 0 false false false, .wr 349 0 0 [] false false false, .add64 349 0 0 0 false 0 false false false,
      .add16s 349 0 0 0 false 0 false false false, .add8s 349 0 0 0 false 0 false false false,
      .swap64 349 0 0 0 false 0 false false false, .cas64 349 0 0 0 0 false false 0 false false false, .arbCommit 349 0,
      .throttleEnd 0 349 0, .ilvGo 349 0 0 0, .pgen 349 0 0, .pchk 349 0 0, .eyeScan 349 0 0, .qhead 349 0 0, .rthead 349 0 0,
      .mailboxGo 349 0 false, .rstCtrlGo 349 0 0, .pwrReqGo 349 0 false, .wdtKick 349 0 0, .vtTxWrite 349 0 0,
      .vtRxWrite 349 0 0] : List Instr).all (fun c => !(WellFormed c)) = true := by
  decide +kernel

/-- Units that the part does not have, and operands out of their range, are refused one by one. -/
theorem test_operands_out_of_range_are_ill_formed :
    ([.wr 0 0 0 (List.replicate 128 (0, false)) false false false, .rtInject 0 3, .tokenRefill 0 3, .wakeRelease 0 3,
      .arbGrant 0 0 0 0 0 false, .arbHoldCut 0 0 0, .arbCommit 0 0,
      .selfcalComplete 0 [] (List.replicate 1040 0) (List.replicate 96 0),
      .selfcalComplete 0 (List.replicate 96 0) [] (List.replicate 96 0),
      .selfcalComplete 0 (List.replicate 96 0) (List.replicate 1040 0) [], .driftcalComplete [[]],
      .spiCommandFrame (List.replicate 1057 0) false, .driftCalibrationPolicy [64], .domainPowerUp 0x140, .domainPowerDown 0x140,
      .drainTimeout 0x140, .coreUncacheableAccess 0 .load 0 3 0 0 false, .pmonWindowClose 0 (List.replicate 9 0),
      .arithmeticSliceEdge 0 0 [(32, {})]] : List Instr).map WellFormed = List.replicate 19 false := by
  decide +kernel

/-- R357: a frame has a class of three and 1 to 16 blocks. -/
theorem test_frames_out_of_range_are_ill_formed :
    ([.frameReceive 0 { cls := 3, blocks := [0] } false, .frameReceive 0 { cls := 0, blocks := [] } false,
      .frameReceive 0 { cls := 0, blocks := List.replicate 17 0 } false] : List Instr).all (fun c => !(WellFormed c)) = true := by
  decide +kernel

/-- The same commands with operands in range are well-formed. -/
theorem test_operands_in_range_are_well_formed :
    ([.registerWrite 348 none 0 0, .rtInject 0 0, .arbGrant 1 0 0 0 0 false, .wr 0 0 0 (List.replicate 127 (0, false)) false false false,
      .domainPowerUp 0x13F, .coreUncacheableAccess 0 .load 0 8 0 0 false, .pmonWindowClose 0 (List.replicate 8 0)] : List Instr).all
      WellFormed = true := by
  decide +kernel

/-! ### Witnesses: the slots of a bundle (AgenOperations…, LoadsAndStores…, PostModification…) -/

theorem test_witness_executes : (withEng analysing).Executes 0 ∧ ((withEng analysing).eng 0).rp 3 = false ∧ (5 : BitVec 3).toNat < 6 := by
  unfold State.Executes
  decide +kernel

theorem test_witness_loads_and_stores :
    (withEng { analysing with a := Tab.set {} 0 131071 0 }).Analyses 0 ∧
    ((withEng { analysing with a := Tab.set {} 0 131071 0 }).scrambleAt 0 0
      (((withEng { analysing with a := Tab.set {} 0 131071 0 }).eng 0).ra 0)).toNat < 131072 ∧
    (withEng { analysing with a := Tab.set {} 0 131071 0 }).portAError 0 = false := by
  unfold State.Analyses
  decide +kernel

/-- The limit of the spec's example after R57: a0 = 0x3FF, o0 = 1, m0 = 0x400. -/
def atLimit : State := withEng { analysing with a := Tab.set {} 0 0x3FF 0, o := Tab.set {} 0 1 0, m := Tab.set {} 0 0x400 0 }

theorem test_witness_post_modification : atLimit.Executes 0 ∧
    (atLimit.eng 0).rm 0 ≠ 0 ∧ ((atLimit.eng 0).ra 0).toNat < ((atLimit.eng 0).rm 0).toNat ∧
    ((atLimit.eng 0).ro 0).toInt ≤ ((atLimit.eng 0).rm 0).toNat ∧ -(((atLimit.eng 0).rm 0).toNat : Int) ≤ ((atLimit.eng 0).ro 0).toInt := by
  unfold State.Executes
  decide +kernel

/-- R55, R56: 0x3FF + 1 reaches the limit 0x400 and wraps to 0; 0 - 1 wraps to 0x3FF; without a limit 0 - 1 wraps modulo 2^32. -/
theorem test_post_modification_wraps :
    postModify 0x3FF 1 0x400 = 0 ∧ postModify 0 0xFFFFFFFF 0x400 = 0x3FF ∧ postModify 0 0xFFFFFFFF 0 = 0xFFFFFFFF := by
  decide +kernel

/-! ### Witnesses: the codec -/

theorem test_witness_slot_values : (AgenOp.aout 0 0 false 0 0).ok = true ∧ (DgenOp.padv ⟨true, true, 1⟩ 3 64).ok = true ∧
    (MacOp.maci 0xF 3 7 0xFFF).ok = true ∧ (PinOp.mk 0 0 0).ok = true := by
  decide +kernel

theorem test_witness_slots_decode : (decodeFlow 0).isSome ∧ (decodeAgen 0).isSome ∧ (decodeDgen 0).isSome ∧ (decodeMac 0).isSome ∧
    (decodePin 0).isSome := by
  decide +kernel

/-! ### Witnesses: register access -/

/-- The global address of a register. -/
def addrOf (r : RegId) (i : Nat := 0) (j : Nat := 0) (k : Nat := 0) : Addr := BitVec.ofNat 48 (regAddr r i j k)

theorem test_witness_shadowed_write : base.ReachesReg 328 .CE_GANG 5 true ∧
    regionAt (addrOf .CE_GANG 5).toNat = some (regRegion .CE_GANG 5) ∧ (addrOf .CE_GANG 5).toNat % 8 = 0 ∧
    ctlItem (addrOf .CE_GANG 5).toNat = some (.reg .CE_GANG 5 0 0) ∧ isShadowed .CE_GANG = true ∧ RegId.CE_GANG ≠ .NOC_CFG :=
  ⟨reaches_of (by decide +kernel), by decide +kernel⟩

/-- The part with every cluster's domain off. -/
def clustersOff : State := base.setReg .PWR_ON 0 0 1

theorem test_witness_access_checks :
    base.masterLive 328 = true ∧ regionAt 0xFFFFFFFFFFF8 = none ∧
    (regionAt ((addrOf .CE_GANG).toNat + 1)).isSome ∧ ((addrOf .CE_GANG).toNat + 1) % 8 ≠ 0 ∧
    (clustersOff.masterLive 328 = true ∧ clustersOff.domOn (domCL 0) = false ∧
      (regionAt (addrOf .CE_GANG).toNat).bind Region.domain = some (domCL 0)) ∧
    (base.masterLive 0 = true ∧ base.domOn (domCL 0) = true ∧ base.fenced (domCL 0) = false ∧
      base.right 0 (rightsRegion (.block .CE 0) (addrOf .CE_GANG).toNat 1) true = false ∧
      base.right 0 (rightsRegion (.block .CE 0) (addrOf .CE_GANG).toNat 1) false = false) := by
  decide +kernel

theorem test_witness_access_types :
    (base.Reaches 328 (.block .TB 0) true ∧ ctlItem (addrOf .TB_MTIMECMP 0 7).toNat = some (.reg .TB_MTIMECMP 0 7 0) ∧
      (addrOf .TB_MTIMECMP 0 7).toNat % 8 = 0 ∧ regionAt (addrOf .TB_MTIMECMP 0 7).toNat = some (.block .TB 0)) ∧
    (base.Reaches 328 (.block .CE 255) true ∧ ctlItem (addrOf .CE_STATUS 255).toNat = some (.reg .CE_STATUS 255 0 0) ∧
      (addrOf .CE_STATUS 255).toNat % 8 = 0 ∧ regionAt (addrOf .CE_STATUS 255).toNat = some (.block .CE 255)) ∧
    (∀ x ∈ [(RegId.SLC_CNT, 255), (.DBG_STATUS, 0)],
      ctlItem (addrOf x.1 x.2).toNat = some (.reg x.1 x.2 0 0) ∧ (addrOf x.1 x.2).toNat % 8 = 0 ∧
      regionAt (addrOf x.1 x.2).toNat = some (regRegion x.1 x.2) ∧
      (match (regRegion x.1 x.2).domain with | some d => base.domOn d && !(base.fenced d) | none => true) = true ∧
      base.right 328 (rightsRegion (regRegion x.1 x.2) (addrOf x.1 x.2).toNat 1) false = true) :=
  ⟨⟨reaches_of (by decide +kernel), by decide +kernel⟩, ⟨reaches_of (by decide +kernel), by decide +kernel⟩, by decide +kernel⟩

theorem test_witness_no_right :
    (clustersOff.masterLive 328 = true ∧ clustersOff.domOn (domCL 0) = false) ∧
    (base.masterLive 0 = true ∧ base.domOn (domCL 0) = true ∧ base.fenced (domCL 0) = false ∧
      isEngineMid (0 : MasterId).toNat = true) := by
  decide +kernel

/-! ### Witnesses: engines -/

/-- Engines 0 and 1 as one gang, engine 1 as given. -/
def pair (y : Engine) : State := ((base.setFld F.CE_GANG_SIZE 1 0).setFld F.CE_GANG_SIZE 1 1).setEng 1 y

theorem test_witness_engine_control :
    (base.ReachesReg 328 .CE_CTRL 0 true ∧ (base.eng 0).mode = .idle ∧ base.gangHeld 0 = false ∧ base.leader 0 = 0 ∧
      (base.eng 0).gang.armed = false ∧ (base.eng 0).gang.woke = false ∧
      ∀ m ∈ base.members 0, (base.eng m).mode = .idle ∧ base.fld F.CE_GANG_SIZE m = base.fld F.CE_GANG_SIZE 0) ∧
    ((withEng { mode := .fault }).ReachesReg 328 .CE_CTRL 0 true ∧ ((withEng { mode := .fault }).eng 0).mode = .fault ∧
      ((withEng { mode := .fault }).eng 0).draining = false) ∧
    ((withEng { mode := .fault, draining := true }).ReachesReg 328 .CE_CTRL 0 true ∧
      ((withEng { mode := .fault, draining := true }).eng 0).mode = .fault ∧
      ((withEng { mode := .fault, draining := true }).eng 0).draining = true) ∧
    ((pair analysing).ReachesReg 328 .CE_CTRL 1 true ∧ (pair analysing).leader 1 ≠ 1 ∧ ((pair analysing).eng 1).mode ≠ .idle) ∧
    ((pair analysing).ReachesReg 328 .CE_CTRL 0 true ∧ (pair analysing).leader 0 = 0 ∧
      ((pair analysing).eng 0).gang.armed = false ∧
      ∃ m ∈ (pair analysing).members 0, ((pair analysing).eng m).mode ≠ .idle ∨
        (pair analysing).fld F.CE_GANG_SIZE m ≠ (pair analysing).fld F.CE_GANG_SIZE 0) :=
  ⟨⟨reaches_of (by decide +kernel), by decide +kernel⟩, ⟨reaches_of (by decide +kernel), by decide +kernel⟩,
    ⟨reaches_of (by decide +kernel), by decide +kernel⟩, ⟨reaches_of (by decide +kernel), by decide +kernel⟩,
    reaches_of (by decide +kernel), by decide +kernel⟩

theorem test_witness_abort :
    (withEng analysing).ReachesReg 328 .CE_CTRL 0 true ∧ ((withEng analysing).eng 0).mode = .analysis ∧
      ((withEng analysing).eng 0).alone = true ∧ ((withEng analysing).eng 0).gangFault = none :=
  ⟨reaches_of (by decide +kernel), by decide +kernel⟩

theorem test_witness_engine_commit :
    (base.ReachesReg 328 .CE_COMMIT 0 true ∧ (base.engineQuiet 0 && !(base.gangHeld 0) && !(base.ceInconsistent 0)) = true) ∧
    ((withEng analysing).ReachesReg 328 .CE_COMMIT 0 true ∧
      ((withEng analysing).engineQuiet 0 && !((withEng analysing).gangHeld 0) && !((withEng analysing).ceInconsistent 0)) = false) :=
  ⟨⟨reaches_of (by decide +kernel), by decide +kernel⟩, reaches_of (by decide +kernel), by decide +kernel⟩

/-- Engine 0 armed. -/
def armed : Engine := { gang := { armed := true } }

theorem test_witness_start_doorbell :
    ((pair {}).Reaches 328 (.engine 1) true ∧ ((pair {}).eng 1).gang.cmdMid = none ∧ (pair {}).leader 1 ≠ 1) ∧
    ((withEng armed).Reaches 328 (.engine 0) true ∧ ((withEng armed).eng 0).gang.cmdMid = none ∧ (withEng armed).leader 0 = 0 ∧
      ((withEng armed).eng 0).mode ≠ .paused ∧ ((withEng armed).eng 0).gang.armed = true ∧
      ((withEng armed).eng 0).gang.startAt = none ∧
      ¬ ((withEng armed).now + 128 > roundUp 4 128) ∧ (withEng armed).now + 128 > roundUp 4 124) ∧
    ((withEng { mode := .paused }).Reaches 328 (.engine 0) true ∧ (withEng { mode := .paused }).leader 0 = 0 ∧
      ((withEng { mode := .paused }).eng 0).mode = .paused ∧ ((withEng { mode := .paused }).eng 0).gang.resumeAt = none ∧
      ((withEng { mode := .paused }).eng 0).gang.pausedEnd ≤ 512 * roundUp 4 128 + vecLatency) ∧
    (base.Reaches 328 (.engine 0) true ∧ base.leader 0 = 0 ∧ (base.eng 0).mode ≠ .paused ∧ (base.eng 0).gang.armed = false) :=
  ⟨⟨reaches_of (by decide +kernel), by decide +kernel⟩, ⟨reaches_of (by decide +kernel), by decide +kernel⟩,
    ⟨reaches_of (by decide +kernel), by decide +kernel⟩, reaches_of (by decide +kernel), by decide +kernel⟩

theorem test_witness_state_window :
    (base.Reaches 328 (.engine 0) true ∧ base.engineQuiet 0 = true ∧ badDepth 0 = none ∧ badDepth 9 ≠ none ∧
      holdsPoison 0x3000 = false) ∧
    ((withEng analysing).Reaches 328 (.engine 0) true ∧ (withEng analysing).engineQuiet 0 = false) :=
  ⟨⟨reaches_of (by decide +kernel), by decide +kernel⟩, reaches_of (by decide +kernel), by decide +kernel⟩

/-- Engine 0 leads an armed gang of one whose start time has been accepted; a load and a fault signal are on their way. -/
def waking : State := withEng
  { gang := { armed := true, startAt := some 1000 }, loads := [{ reg := 3, word := 0, data := 7, poison := false, age := 9 }], gangFault := some (1, 2) }

theorem test_witness_engine_events :
    (waking.live (domCL 0) = true ∧ (waking.eng 0).gang.startAt = some 1000 ∧ (waking.eng 0).gang.armed = true ∧
      (waking.eng 0).gang.woke = false ∧ waking.leader 0 = 0 ∧ (waking.eng 0).loads = [{ reg := 3, word := 0, data := 7, poison := false, age := 9 }] ∧
      (waking.eng 0).loadDue = true ∧ (waking.eng 0).ending ≠ .reti ∧ (waking.eng 0).gangFault = some (1, 2)) ∧
    ((pair { mode := .sync, arrived := true }).live (domCL 0) = true ∧
      ((pair { mode := .sync, arrived := true }).gangOf 0).filter
        (fun m => ((pair { mode := .sync, arrived := true }).eng m).mode == .analysis ||
          ((pair { mode := .sync, arrived := true }).eng m).mode == .sync) = [1] ∧
      ((pair { mode := .sync, arrived := true }).eng 1).arrived = true) := by
  decide +kernel

/-- A bundle with SYNC in its FLOW slot. -/
def syncAt (i : BAddr) : Stage := { addr := i, bits := (0x0C : BitVec 128) <<< (96 + 27) }

/-- Engine 1 of a gang of two waits in SYNC with requests 2 and 5 pending and interrupts enabled. -/
def interrupted : State :=
  (((pair { mode := .sync, alone := true, s1 := some { addr := 9 }, s2 := some (syncAt 8) }).setFld F.CE_INT_PEND
    0x24 1).setFld F.CE_INT_IE 1 1)

theorem test_witness_interrupt_entry : interrupted.live (domCL 0) = true ∧ interrupted.lowestIrq 1 = some 2 ∧
    interrupted.flag F.CE_INT_IE 1 = true ∧ (interrupted.eng 1).mode = .sync ∧ (interrupted.eng 1).ending = .none ∧
    (interrupted.eng 1).loads = [] ∧ (interrupted.eng 1).restl = none ∧ (interrupted.eng 1).s3 = none ∧ (interrupted.eng 1).s6 = none ∧
    (interrupted.eng 1).s2 = some (syncAt 8) ∧ (syncAt 8).flow = .sync ∧ (syncAt 8).agen = .nop ∧ (syncAt 8).dgenOp = .nop ∧
    (syncAt 8).macOp = .nop ∧ interrupted.gangSize 1 ≠ 1 ∧ (interrupted.eng 1).syncDone = false ∧
    interrupted.s2Fault 1 (interrupted.eng 1) false true (syncAt 8) none = none := by
  decide +kernel

/-- Engine 0 in ANALYSIS with a bundle in S1 and request 2 pending. -/
def interruptedAlone : State :=
  ((withEng { analysing with s1 := some { addr := 9 } }).setFld F.CE_INT_PEND 4 0).setFld F.CE_INT_IE 1 0

theorem test_witness_interrupt_entry_in_analysis : interruptedAlone.live (domCL 0) = true ∧ interruptedAlone.lowestIrq 0 = some 2 ∧
    interruptedAlone.flag F.CE_INT_IE 0 = true ∧ (interruptedAlone.eng 0).ending = .none ∧ (interruptedAlone.eng 0).loads = [] ∧
    (interruptedAlone.eng 0).restl = none ∧ (interruptedAlone.eng 0).s3 = none ∧ (interruptedAlone.eng 0).s6 = none ∧
    (interruptedAlone.eng 0).mode = .analysis ∧ (interruptedAlone.eng 0).s1.isSome = true ∧ (interruptedAlone.eng 0).s2 = none := by
  decide +kernel

theorem test_witness_abort_in_a_gang : (pair { mode := .stream }).ReachesReg 328 .CE_CTRL 1 true ∧
    ((pair { mode := .stream }).eng 1).mode = .stream ∧ ((pair { mode := .stream }).eng 1).alone = false ∧
    1 ∈ (pair { mode := .stream }).members ((pair { mode := .stream }).leader 1) ∧
    (pair { mode := .stream }).faulting ((pair { mode := .stream }).members ((pair { mode := .stream }).leader 1)) = false :=
  ⟨reaches_of (by decide +kernel), by decide +kernel⟩

/-- A bundle of no operations at address i. -/
def nopAt (i : BAddr) : Stage := { addr := i }

/-- Engine 0 alone in ANALYSIS with bundles in S1 and S2 and a prefetch to come. -/
def piped : State :=
  withEng { analysing with s1 := some (nopAt 5), s2 := some (nopAt 4), pqNext := some 6, fetching := true,
                           restl := some ⟨5, 100, some (List.replicate 10 (0, false))⟩ }

theorem test_witness_pipeline : piped.live (domCL 0) = true ∧ (piped.eng 0).alone = true ∧ (piped.eng 0).mode = .analysis ∧
    (piped.eng 0).ending ≠ .reti ∧ (piped.eng 0).s1 = some (nopAt 5) ∧ (nopAt 4).flow = .nop ∧ (piped.eng 0).loadWait = false ∧
    piped.stepFault 0 [0] false = none := by
  decide +kernel

theorem test_witness_prefetch_and_restl : (piped.eng 0).pqNext = some 6 ∧ (piped.eng 0).fetching = true ∧
    (piped.eng 0).mode ≠ .paused ∧ (piped.eng 0).pq.length + 2 ≤ 16 ∧
    (piped.eng 0).restl = some ⟨5, 100, some (List.replicate 10 (0, false))⟩ ∧ (piped.eng 0).loadWait = false ∧
    piped.stageFault 0 0 false 6 = none ∧ piped.stageFault 0 0 false 3 = none ∧
    (List.replicate 10 ((0 : Word), false)).any (·.2) = false ∧
    badDepth ((List.replicate 10 ((0 : Word), false)).getD 9 (0, false)).1 = none := by
  decide +kernel

theorem test_witness_followers : (pair {}).live (domCL 0) = true ∧ ((pair {}).eng 1).alone = false ∧ (pair {}).leader 1 ≠ 1 := by
  decide +kernel

/-- Engine 0 at the end of a program; its end-of-pattern state is due at tick 9. -/
def ending (x : Engine) : State := withEng { x with ending := .halt, gang := { eopAt := some 9 } }

theorem test_witness_program_end :
    ((ending analysing).live (domCL 0) = true ∧ ((ending analysing).eng 0).alone = true ∧
      ((ending analysing).eng 0).ending = .halt ∧ ((ending analysing).eng 0).pipeEmpty = true ∧
      ((ending analysing).eng 0).mode = .analysis ∧ ((ending analysing).eng 0).gang.eopAt = some 9 ∧
      ∀ p ∈ (ending analysing).gangPins 0, ((ending analysing).chan p).nothingBefore 9 = true) ∧
    ((ending { mode := .stream }).live (domCL 0) = true ∧ ((ending { mode := .stream }).eng 0).alone = false ∧
      (ending { mode := .stream }).leader 0 = 0 ∧ ((ending { mode := .stream }).eng 0).mode = .stream ∧
      ((ending { mode := .stream }).eng 0).pipeEmpty = true ∧
      (ending { mode := .stream }).faulting ((ending { mode := .stream }).members 0) = false ∧
      ((ending { mode := .stream }).eng 0).ending = .halt) := by
  decide +kernel

/-- Engine 0 alone in FAULT, draining. -/
def draining : State := withEng { mode := .fault, alone := true, draining := true }

theorem test_witness_safe_state : draining.live (domCL 0) = true ∧ (draining.eng 0).alone = true ∧ (draining.eng 0).mode = .fault ∧
    (draining.eng 0).draining = true ∧ (draining.eng 0).pipeEmpty = true ∧ (draining.eng 0).clearPend = false ∧
    (∀ p ∈ enginePins 0, (draining.chan p).quiet = true) ∧ draining.partsOf 0 = [0] := by
  decide +kernel

/-- Engine 0 as given, with a period of 4,096 ticks in timing set 0. -/
def timed (x : Engine) : State := (withEng x).setFld F.TSET_PER_PERIOD 4096 0 0

/-- A gang of one that has filled its pipeline to S6. -/
def filled (x : Engine) : State := timed { x with s1 := some (nopAt 1), s6 := some (nopAt 0) }

theorem test_witness_gang_start :
    (filled { gang := { armed := true, woke := true, startAt := some 1000 } }).live (domCL 0) = true ∧
    (filled { gang := { armed := true, woke := true, startAt := some 1000 } }).leader 0 = 0 ∧
    (filled { gang := { armed := true, woke := true, startAt := some 1000 } }).members 0 = [0] ∧
    ((filled { gang := { armed := true, woke := true, startAt := some 1000 } }).eng 0).s6 = some (nopAt 0) ∧
    ((filled { gang := { armed := true, woke := true, startAt := some 1000 } }).eng 0).s1.isSome = true ∧
    (filled { gang := { armed := true, woke := true, startAt := some 1000 } }).stepFault 0 [0] true = none := by
  decide +kernel

/-- A paused gang of one with an accepted resume time. -/
def resuming : State := withEng { mode := .paused, s1 := some (nopAt 1), gang := { resumeAt := some 2000 } }

theorem test_witness_gang_resume : resuming.live (domCL 0) = true ∧ resuming.leader 0 = 0 ∧ resuming.members 0 = [0] ∧
    (resuming.eng 0).gang.startAt = none ∧ (resuming.eng 0).gang.resumeAt = some 2000 ∧ (resuming.eng 0).mode = .paused ∧
    (resuming.eng 0).s1.isSome = true ∧ (resuming.eng 0).s6 = none ∧
    ((resuming.fcu (fcuOf 0).1).slot (fcuOf 0).2).held = [] ∧ resuming.stepFault 0 [0] true = none := by
  decide +kernel

/-- A stream of one engine whose FCU asks for a pause. -/
def pausing : State := (filled { mode := .stream }).modSlot 0 0 (fun f => { f with reqs := [1] })

theorem test_witness_fcu_pause : pausing.live (domCL 0) = true ∧ pausing.leader 0 = 0 ∧ pausing.members 0 = [0] ∧
    (pausing.eng 0).mode = .stream ∧ (pausing.eng 0).alone = false ∧ (pausing.eng 0).ending = .none ∧
    (pausing.eng 0).s1.isSome = true ∧ (pausing.eng 0).s6 = some (nopAt 0) ∧
    pausing.faulting [0] = false ∧ pausing.stepFault 0 [0] true = none ∧
    ((pausing.fcu (fcuOf 0).1).slot (fcuOf 0).2).reqs ≠ [] ∧ ((base.fcu (fcuOf 0).1).slot (fcuOf 0).2).reqs = [] := by
  decide +kernel

/-- The same with its last vector in S6. -/
def pausingLast : State :=
  (timed { mode := .stream, ending := .halt, s6 := some (nopAt 0) }).modSlot 0 0 (fun f => { f with reqs := [1] })

theorem test_witness_fcu_pause_at_the_last_vector : pausingLast.live (domCL 0) = true ∧ pausingLast.members 0 = [0] ∧
    (pausingLast.eng 0).mode = .stream ∧ (pausingLast.eng 0).ending = .halt ∧ (pausingLast.eng 0).fetching = false ∧
    (pausingLast.eng 0).s1 = none ∧ (pausingLast.eng 0).s5 = none ∧ pausingLast.faulting [0] = false ∧
    pausingLast.stepFault 0 [0] true = none ∧ ((pausingLast.fcu (fcuOf 0).1).slot (fcuOf 0).2).reqs ≠ [] := by
  decide +kernel

/-! ### Witnesses: data, MAC and FLOW operations -/

/-- Engine 0 in ANALYSIS with d0 and d8 poisoned, one loop and one call open. -/
def poisoned : State := withEng { analysing with dp := (Tab.set {} 0 true false).set 8 true false, ld := 1, cd := 1, flags := 1 }

theorem test_witness_operands : poisoned.Executes 0 ∧ (poisoned.eng 0).rp 1 = false ∧ (poisoned.eng 0).rp 0 = true ∧
    (MacOp.macc 0xF 0 1 2 false 0 0).ok = true ∧ ((MacOp.macc 0xF 0 1 2 false 0 0).consumes.any (poisoned.eng 0).rp) = false ∧
    (MacOp.macc 0xF 0 1 2 true 5 1).ok = true ∧ ((MacOp.macc 0xF 0 1 2 true 5 1).consumes.any (poisoned.eng 0).rp) = false ∧
    ((macPair 0xF 1).any (poisoned.eng 0).rp) = false ∧ ((poisoned.eng 0).rd 1).toNat % 2 ^ 31 = 0 := by
  unfold State.Executes
  decide +kernel

theorem test_witness_poison_faults : poisoned.Analyses 0 ∧ (poisoned.eng 0).alone = true ∧ (poisoned.eng 0).gangFault = none := by
  unfold State.Analyses
  decide +kernel

theorem test_witness_state_window_zero : base.Reaches 328 (.engine 0) true ∧ base.engineQuiet 0 = true ∧
    (0x80000000 : Word).toNat % 2 ^ 31 = 0 :=
  ⟨reaches_of (by decide +kernel), by decide +kernel⟩

theorem test_witness_flow : poisoned.Fetches 0 ∧ (poisoned.eng 0).ending ≠ .reti ∧ poisoned.streaming 0 = false ∧
    0 < (poisoned.eng 0).cd ∧ (poisoned.eng 0).cd < 4 ∧ 0 < (poisoned.eng 0).ld ∧ (poisoned.eng 0).ld < 8 ∧
    (7 : BAddr).toNat + 2 ≤ (9 : BAddr).toNat ∧ (poisoned.eng 0).matchesEnd 8 = false ∧
    poisoned.flag F.CE_INT_IE 0 = false ∧ (poisoned.eng 0).pipeEmpty = true ∧ (poisoned.eng 0).loads = [] ∧
    poisoned.gangSize 0 = 1 ∧ (piped.eng 0).pipeEmpty = false ∧ piped.Executes 0 ∧ piped.Fetches 0 := by
  unfold State.Fetches State.Executes
  decide +kernel

theorem test_witness_flow_stream : (timed { mode := .stream }).Executes 0 ∧ (timed { mode := .stream }).Fetches 0 ∧
    (timed { mode := .stream }).streaming 0 = true ∧ ((timed { mode := .stream }).eng 0).ending ≠ .reti := by
  unfold State.Fetches State.Executes
  decide +kernel

theorem test_witness_sync_in_a_gang : (pair analysing).Executes 1 ∧ (pair analysing).Fetches 1 ∧
    (pair analysing).streaming 1 = false ∧ (pair analysing).gangSize 1 ≠ 1 := by
  unfold State.Fetches State.Executes
  decide +kernel

theorem test_witness_savel : poisoned.Analyses 0 ∧ poisoned.portAError 0 = false ∧
    ((poisoned.eng 0).ra 0).toNat + 10 ≤ 131072 ∧ (poisoned.eng 0).ld ≤ 8 ∧ (poisoned.eng 0).cd ≤ 4 ∧
    poisoned.bgtCode 0 < 3 := by
  unfold State.Analyses
  decide +kernel

/-- Engine 0 in ANALYSIS with both stacks full, interrupts enabled, and a0 too high for ten words. -/
def full : State :=
  (withEng { analysing with ld := 8, cd := 4, a := Tab.set {} 0 131063 0 }).setFld F.CE_INT_IE 1 0

theorem test_witness_flow_faults : full.Analyses 0 ∧ (full.eng 0).alone = true ∧ (full.eng 0).gangFault = none ∧
    8 ≤ (full.eng 0).ld ∧ 4 ≤ (full.eng 0).cd ∧ (full.eng 0).matchesEnd 8 = false ∧ full.flag F.CE_INT_IE 0 = true ∧
    131072 < ((full.eng 0).ra 0).toNat + 10 ∧ ((withEng analysing).eng 0).ld = 0 ∧ ((withEng analysing).eng 0).cd = 0 := by
  unfold State.Analyses
  decide +kernel

/-- R60 and the worked X4 program: from 0x12_3456 G2 yields 1, 0, 1, 0, 1, 0, 0, 1, 0, 1, 1, 1, and from 0x1234_5678 G3 yields
0, 0, 0, 0, 0, 1, 1, 1, the first bit in bit 0 (the shift brings each bit up, and PW takes the bits of one advance as R60 says). -/
theorem test_prbs_yields_the_spec_bits :
    ((prbsAdvance 2 12 0x123456 0).2 = 0xE95 ∧ (prbsAdvance 3 8 0x12345678 0).2 = 0xE0) ∧ prbsSeed 0 0x80 = 0x7F := by
  decide +kernel

theorem test_witness_restl : (withEng analysing).Analyses 0 ∧ ((withEng analysing).eng 0).mode = .analysis ∧
    ((withEng analysing).eng 0).s3 = none ∧ ((withEng analysing).eng 0).s6 = none := by
  unfold State.Analyses
  decide +kernel

/-! ### Witnesses: pins -/

theorem test_witness_vectors : (timed { mode := .stream }).live (domCL 0) = true ∧ (timed { mode := .stream }).leader 0 = 0 ∧
    ((timed { mode := .stream }).eng 0).mode = .stream ∧ badPinCode { codes := 0, ts := 0, mode := 0 } = false ∧
    ∀ m ∈ (timed { mode := .stream }).members 0, ((timed { mode := .stream }).eng m).doutP = false ∧
      (timed { mode := .stream }).poisonedSource { eng := 0, aIn := List.replicate 8 0, ao := 0, dout := 0, doutP := false }
        { codes := 0, ts := 0, mode := 0 } = false ∧
      ∀ k : BitVec 2, (timed { mode := .stream }).vectorRefused 0 m { codes := 0, ts := 0, mode := k } = false := by
  decide +kernel

/-- Channel 0 with a drive and an enable event of one tick, a strobe, a window and an edge capture to come. -/
def pinned : State := base.setChan 0
  { drvQ := [⟨5, true⟩], denQ := [⟨5, true⟩], strobes := [{ tH := 5, tL := 5, vec := 0, j := 0, code := 4, expct := false }],
    wins := [{ tOpen := 1, tClose := 6, vec := 0, served := true }], ecs := [{ tOpen := 1, tClose := 9, vec := 0, v := 0, kind := .armed }] }

theorem test_witness_ball_events :
    (pinned.live (domCL 0) = true ∧ (pinned.chan 0).drvQ = [⟨5, true⟩] ∧
      (∀ n ∈ (pinned.chan 0).denQ.head?, 5 ≤ n.time)) ∧
    ((pinned.setChan 0 { denQ := [⟨4, true⟩], drvQ := [⟨5, true⟩] }).live (domCL 0) = true ∧
      ((pinned.setChan 0 { denQ := [⟨4, true⟩], drvQ := [⟨5, true⟩] }).chan 0).denQ = [⟨4, true⟩] ∧
      ∀ d ∈ ((pinned.setChan 0 { denQ := [⟨4, true⟩], drvQ := [⟨5, true⟩] }).chan 0).drvQ.head?, 4 < d.time) ∧
    ((base.chan 0).drvQ = [] ∧ (base.chan 0).denQ = []) := by
  decide +kernel

theorem test_witness_strobes_windows_captures :
    (pinned.live (domCL 0) = true ∧ (pinned.chan 0).strobes ≠ [] ∧
      (pinned.chan 0).wins = [{ tOpen := 1, tClose := 6, vec := 0, served := true }] ∧ (pinned.chan 0).ecs ≠ [] ∧
      (pinned.fcu 0).caps.length < 64 ∧ pinned.smpDrops = false) ∧
    ((pinned.setFld F.SMP_STATUS_STATE 1).live (domCL 0) = true ∧
      ((pinned.setFld F.SMP_STATUS_STATE 1).chan 0).ecs ≠ [] ∧ (pinned.setFld F.SMP_STATUS_STATE 1).smpDrops = true) := by
  decide +kernel

theorem test_witness_tset_commit :
    (base.ReachesReg 328 .TSET_COMMIT 0 true ∧ (base.eng 0).mode = .idle ∧ base.tsetFirstFail 0 = none) ∧
    ((base.setShadow .TSET_PER 2047 0 63).ReachesReg 328 .TSET_COMMIT 0 true ∧
      ((base.setShadow .TSET_PER 2047 0 63).eng 0).mode = .idle ∧
      (base.setShadow .TSET_PER 2047 0 63).tsetFirstFail 0 = some (63, 0, 1)) ∧
    ((withEng analysing).ReachesReg 328 .TSET_COMMIT 0 true ∧ ((withEng analysing).eng 0).mode ≠ .idle ∧
      ((withEng analysing).eng 0).mode ≠ .fault) :=
  ⟨⟨reaches_of (by decide +kernel), by decide +kernel⟩, ⟨reaches_of (by decide +kernel), by decide +kernel⟩,
    reaches_of (by decide +kernel), by decide +kernel⟩

theorem test_witness_pin_cfg :
    (base.ReachesReg 328 .PIN_CFG 1023 true ∧ base.chanStreaming 1023 = false ∧ fldOf F.PIN_CFG_OE 1 = 1 ∧
      base.fld F.PIN_CFG_OE 1023 = 0 ∧ (base.chan 1023).eopOn = false ∧ fldOf F.PIN_CFG_OE 0 = 0 ∧ fldOf F.PIN_CFG_ECSRC 0 < 6) ∧
    ((withEng { mode := .paused }).ReachesReg 328 .PIN_CFG 0 true ∧ (withEng { mode := .paused }).chanStreaming 0 = true) :=
  ⟨⟨reaches_of (by decide +kernel), by decide +kernel⟩, reaches_of (by decide +kernel), by decide +kernel⟩

/-! ### Witnesses: fail capture and slices -/

/-- The gang of engine 0 with one vector whose results are complete; pin 2 failed. -/
def closing : State :=
  (withEng { mode := .stream, gang := { vecs := [{ idx := 7, v := 0, period := 4096, ts := 0, aIn := [], ao := [] }] } }).setChan 2
    { results := [{ vec := vecKey 0 0 7, failed := true }] }

theorem test_witness_compare_close : closing.live (domCL 0) = true ∧
    (closing.eng 0).gang.vecs = [{ idx := 7, v := 0, period := 4096, ts := 0, aIn := [], ao := [] }] ∧
    (∀ p ∈ closing.gangPins 0, closing.pinClosed p (vecKey 0 0 7) = true) ∧ closing.pinFailed 2 (vecKey 0 0 7) = true ∧
    closing.flag F.FCU_PFIRST_VALID 0 2 = false ∧ (base.eng 0).gang.vecs = [] := by
  decide +kernel

/-- FCU 0 with a record and an update to send and a ring of four entries in slot 0. -/
def recording : State :=
  { base.setFld F.FCU_RSIZE_SIZE 4 0 0 with
    fcus := Tab.set {} 0 { fifo := [⟨0, 1, 2, 3, 4⟩], accq := [⟨0, 0, [⟨0, .add64, 1⟩]⟩] } {} }

theorem test_witness_records : recording.live (domCL 0) = true ∧ (recording.fcu 0).fifo = [⟨0, 1, 2, 3, 4⟩] ∧
    (recording.fcu 0).outs = [] ∧ recording.fld F.FCU_RSIZE_SIZE 0 0 ≠ 0 ∧
    (recording.fld F.FCU_RWP_WP 0 0 + 1) % recording.fld F.FCU_RSIZE_SIZE 0 0 ≠ recording.fld F.FCU_RRP_RP 0 0 ∧
    (recording.fcu 0).accq = [⟨0, 0, [⟨0, .add64, 1⟩]⟩] ∧
    (recording.setFld F.FCU_RSIZE_SIZE 0 0 0).live (domCL 0) = true ∧
    (recording.setFld F.FCU_RSIZE_SIZE 0 0 0).fld F.FCU_RSIZE_SIZE 0 0 = 0 := by
  decide +kernel

/-- The request of an outstanding record write, answered with a status. -/
def written (fails : List (Nat × Status)) : Xact := { mid := 0, kind := .write, addr := 0, len := 4, fails := fails }

/-- FCU 0 with one outstanding write and one outstanding update. -/
def outstanding (f : Fcu) (x : Xact) : State := { base with fcus := Tab.set {} 0 f {}, xacts := Tab.set {} 9 (some x) none }

theorem test_witness_record_done :
    (outstanding { outs := [{ slot := 0, xid := 9 }] } (written [])).live (domCL 0) = true ∧
    ((outstanding { outs := [{ slot := 0, xid := 9 }] } (written [])).fcu 0).outs = [{ slot := 0, xid := 9 }] ∧
    ((outstanding { outs := [{ slot := 0, xid := 9 }] } (written [])).fcu 0).accOuts = [] ∧
    (outstanding { outs := [{ slot := 0, xid := 9 }] } (written [])).xacts.get 9 none = some (written []) ∧
    (written []).mid = BitVec.ofNat 10 0 ∧ (written []).kind = .write ∧ (written []).left = 0 ∧ (written []).lost = [] ∧
    (written []).late = false ∧ (written []).sent = false ∧ (outstanding { outs := [{ slot := 0, xid := 9 }] } (written [])).answered 9 (written []) = true ∧
    (written []).status = .ok ∧ (written [(0, .edead)]).status ≠ .ok := by
  decide +kernel

/-- The request of an outstanding update whose reply makes a lane saturate. -/
def updated : Xact :=
  { mid := 0, kind := .atomic .add8s, addr := 0, len := 1, words := Tab.set {} 0 0xFF 0 }

theorem test_witness_update_done :
    (outstanding { accOuts := [⟨0, 0, .add8s, 1, 9⟩] } updated).live (domCL 0) = true ∧
    ((outstanding { accOuts := [⟨0, 0, .add8s, 1, 9⟩] } updated).fcu 0).accOuts = [⟨0, 0, .add8s, 1, 9⟩] ∧
    ((outstanding { accOuts := [⟨0, 0, .add8s, 1, 9⟩] } updated).fcu 0).outs = [] ∧
    (outstanding { accOuts := [⟨0, 0, .add8s, 1, 9⟩] } updated).xacts.get 9 none = some updated ∧
    updated.kind ≠ .write ∧ updated.left = 0 ∧ updated.lost = [] ∧ updated.late = false ∧ updated.sent = false ∧
    (outstanding { accOuts := [⟨0, 0, .add8s, 1, 9⟩] } updated).answered 9 updated = true ∧ updated.status = .ok ∧
    laneSaturated .add8s ((updated.reply.getD 0 (0, false)).1) 1 = true := by
  decide +kernel

theorem test_witness_fcu_registers :
    (base.ReachesReg 328 .FCU_COMMIT 0 true ∧
      ((List.range 4).any (fun k => (base.eng (4 * 0 + k)).mode == .stream || (base.eng (4 * 0 + k)).mode == .paused) ||
        (List.range 4).any (fun i => base.fcuSlotBad 0 i)) = false ∧
      ∀ i ∈ List.range 4, base.sfld F.FCU_RSIZE_SIZE 0 i = base.fld F.FCU_RSIZE_SIZE 0 i ∧
        base.sfld F.FCU_RBASE_BASE 0 i = base.fld F.FCU_RBASE_BASE 0 i) ∧
    (closing.ReachesReg 328 .FCU_COMMIT 0 true ∧ (closing.eng 0).mode = .stream) ∧
    base.ReachesReg 328 .FCU_CLR 0 true ∧
    (recording.ReachesReg 328 .FCU_RRP 0 true ∧ recording.fld F.FCU_RSIZE_SIZE 0 0 = 4) :=
  ⟨⟨reaches_of (by decide +kernel), by decide +kernel⟩, ⟨reaches_of (by decide +kernel), by decide +kernel⟩,
    reaches_of (by decide +kernel), reaches_of (by decide +kernel), by decide +kernel⟩

/-- Slice 0 in service with its background test on, at a step of a region. -/
def testing (code : Nat) : State :=
  ((base.setFld F.SLC_CTRL_BGTEN 1 0).setFld F.SLC_STATUS_FILLED 1 0).setBgtCode 0 code

theorem test_witness_background_test : ∀ code ∈ [1, 3, 4, 11], (testing code).live (domSL 0) = true ∧
    (testing code).bgtMayRun 0 = true ∧ (testing code).bgtCode 0 = code ∧ ((testing code).arbs.get 512 {}).wq = [] ∧
    (testing code).region 0 ((testing code).fld F.SLC_BGT_CURSOR 0) ^^^ 1 ≠ 0 := by
  decide +kernel

theorem test_witness_slice_fill :
    (base.ReachesReg 328 .SLC_CTRL 0 true ∧ base.engineQuiet 0 = true ∧ base.flag F.SLC_STATUS_FILLING 0 = false) ∧
    ((withEng analysing).ReachesReg 328 .SLC_CTRL 0 true ∧ (withEng analysing).engineQuiet 0 = false ∧
      (withEng analysing).flag F.SLC_CTRL_RETIRE 0 ≠ true) ∧
    ((base.setFld F.SLC_STATUS_FILLING 1 0).live (domSL 0) = true ∧
      (base.setFld F.SLC_STATUS_FILLING 1 0).flag F.SLC_STATUS_FILLING 0 = true) :=
  ⟨⟨reaches_of (by decide +kernel), by decide +kernel⟩, ⟨reaches_of (by decide +kernel), by decide +kernel⟩,
    by decide +kernel⟩

theorem test_witness_bank_wipe :
    (base.ReachesReg 328 .SBK_CTRL 0 true ∧ base.flag F.SBK_STATUS_WIPING = false) ∧
    ((base.setFld F.SBK_STATUS_WIPING 1).flag F.SBK_STATUS_WIPING = true ∧ (base.setFld F.SBK_STATUS_WIPING 1).smp.reload = false) :=
  ⟨⟨reaches_of (by decide +kernel), by decide +kernel⟩, by decide +kernel⟩

/-! ### Witnesses: the network -/

/-- Every path between master 0's NI and the first cluster's slices is open. -/
theorem test_witness_slice_request :
    base.masterLive 0 = true ∧ regionAt 0x001000100000 = some (.slice 1) ∧
    base.carriesInspect (readReq 0 0 0x001000100008 1 false false false) = false ∧
    fldOf F.NOC_ROUTE_V (base.routeTo (masterNi 0) (0, 4)) = 1 ∧
    (∀ p : PktInfo, ∃ q, (base.walkTo p (masterNi 0).1 (base.routeTo (masterNi 0) (0, 4)) 4).1 = .reach q) ∧
    base.flag F.NOC_NI_ACCEPT 0 4 = true ∧ (base.ni 4).held = [] ∧ base.domOn (domSL 0) = true ∧
    base.fenced (domSL 0) = false ∧ base.sliceBlock 1 = none ∧ base.bgtCode 1 < 3 ∧ base.ckSlice 1 = false ∧
    base.right 0 (.slice 1) false = true ∧ base.right 0 (.slice 1) true = true ∧
    (decode64 (base.cell 1 1)).poison = false ∧ isSectorMid (0 : MasterId).toNat = false ∧ (base.arb 513).wq = [] ∧
    (base.fld F.ARB_STATUS_CUT 513).testBit 1 = false := by
  refine ⟨by decide +kernel, by decide +kernel, by decide +kernel, by decide +kernel, fun p => ⟨0, by rfl⟩, ?_⟩
  decide +kernel

theorem test_witness_refused_requests :
    base.masterLive 0 = true ∧ base.rangeGood 0xFFFFFFFFFFF8 1 = none ∧ base.rangeGood 0x001000100000 1 ≠ none ∧
    (false || (0x001000100000 : Addr).toNat % 8 != 0) = false := by
  decide +kernel

/-- Engine 0's NI may send RT packets. -/
def rtPath : State :=
  (base.setFld F.NOC_NI_RTTX 1 0 4).setReg .NOC_ROUTE
    (putFld F.NOC_ROUTE_RT 1 (base.routeTo (masterNi 0) (0, 4))) 0 (tableOf 4) (8 * 0 + 4)

theorem test_witness_rt_request : rtPath.masterLive 0 = true ∧ rtPath.rangeGood 0x001000100000 1 = some (.slice 1) ∧
    rtPath.flag F.NOC_NI_RTTX (masterNi 0).1 (masterNi 0).2 = true ∧ regionAt 0x001000100000 = some (.slice 1) ∧
    fldOf F.NOC_ROUTE_V (rtPath.routeTo (masterNi 0) (Region.slice 1).place) = 1 ∧
    fldOf F.NOC_ROUTE_RT (rtPath.routeTo (masterNi 0) (Region.slice 1).place) = 1 := by
  decide +kernel

/-- A fabric master's request of a kind, answered by the slice NI of router 0. -/
def answered (k : XKind) (sent : Bool) : Xact :=
  { mid := 256, kind := k, addr := 0x001000100000, len := 1, sent := sent, src := 5, holders := [⟨4, true, 0⟩] }

/-- The part with that request as number 9. -/
def answering (x : Xact) : State := { base with xacts := Tab.set {} 9 (some x) none }

theorem test_witness_responses : ∀ k ∈ [XKind.read, .write, .atomic .add64], ∀ sent ∈ [false, true],
    (answering (answered k sent)).cstate = ckRun ∧ (answering (answered k sent)).xacts.get 9 none = some (answered k sent) ∧
    (answering (answered k sent)).answered 9 (answered k sent) = true ∧ (answered k sent).lost = [] ∧ (answered k sent).late = false ∧
    (answered k sent).dead = false ∧ (answered k sent).rt = false ∧ (answered k sent).far = none ∧
    (isEngineMid (answered k sent).mid.toNat && (answering (answered k sent)).fcuOwns ((answered k sent).mid.toNat / 4) 9) = false ∧
    (((answering (answered k sent)).unhold (answered k sent)).backAll (answered k sent) (answered k sent).holders).1 = [] := by
  decide +kernel

theorem test_witness_time_out :
    ((answering (answered .read true)).setFld F.NOC_NI_RTMO 5 0 5).fld F.NOC_NI_RTMO 0 5 ≠ 0 ∧
    ((answering (answered .read true)).setFld F.NOC_NI_RTMO 5 0 5).cstate = ckRun ∧
    regionAt (answered .read true).addr = some (.slice 1) ∧ base.partsOfReq (answered .read true) (.slice 1) = [(0, 1)] := by
  decide +kernel

/-- Request 9 waits in the NI of cluster 0 for a token, and another is held at the slices' NI. -/
def queued : State :=
  ({ answering { mid := 0, rt := true, kind := .write, addr := 0x001000100000, len := 1, src := 4 } with
    nis := Tab.set {} 4 { rtq := [9], held := [(10, 0, 1)] } {},
    xacts := (Tab.set {} 9 (some { mid := 0, rt := true, kind := .write, addr := 0x001000100000, len := 1, src := 4 }) none).set 10
      (some (answered .read true)) none } : State).forAll (List.range 4) (fun s i => s.setFld F.SLC_STATUS_FILLED 1 i)

theorem test_witness_tokens : (queued.setFld F.NOC_NISTAT_TOKENS 1 0 4).cstate = ckRun ∧
    ((queued.setFld F.NOC_NISTAT_TOKENS 1 0 4).ni (8 * 0 + 4)).rtq = [9] ∧
    queued.fld F.NOC_NISTAT_TOKENS 0 4 = 4 ∧ (queued.setFld F.NOC_NISTAT_TOKENS 0 0 4).fld F.NOC_NISTAT_TOKENS 0 4 = 0 ∧
    ((queued.setFld F.NOC_NISTAT_TOKENS 0 0 4).ni (8 * 0 + 4)).rtq = [9] ∧
    0 < (queued.setFld F.NOC_NISTAT_TOKENS 1 0 4).fld F.NOC_NISTAT_TOKENS 0 4 ∧
    regionAt 0x001000100000 = some (.slice 1) ∧ queued.domOn (domSL 0) = true ∧ queued.fenced (domSL 0) = false ∧
    niExists 0 4 = true ∧ (base.ni (8 * 0 + 4)).held = [] := by
  decide +kernel

theorem test_witness_wake_release : queued.cstate = ckRun ∧ (queued.ni (8 * 0 + 4)).held = [(10, 0, 1)] ∧
    queued.heldReady (10, 0, 1) = true ∧ queued.xacts.get 10 none = some (answered .read true) ∧
    (answered .read true).rt = false ∧ (answered .read true).far = none ∧ queued.flag F.NOC_NI_ACCEPT 0 4 = true ∧
    ((queued.setReg .PWR_ON 0 0 2).ni (8 * 0 + 4)).held = [(10, 0, 1)] ∧
    (queued.setReg .PWR_ON 0 0 2).heldReady (10, 0, 1) = false := by
  decide +kernel

/-- Arbiter 1 free, with no wait limits but requester 1's; its owner is requester 1, with a burst of 4, or one whose hold limit has passed. -/
def arbitrated : State := (base.setFld F.ARB_CFG_WAIT 0 1 0).setFld F.ARB_CFG_WAIT 9 1 1
def owned : State := (base.setFld F.ARB_CFG_BURST 4 1 1).modArb 1 (fun a => { a with owner := some 1, used := 3 })
def overheld : State := (base.setFld F.ARB_CFG_HOLD 4 1 1).modArb 1 (fun a => { a with owner := some 1, held := 4 })

theorem test_witness_arbiters :
    (arbitrated.cstate = ckRun ∧ arbExists 1 = true ∧ arbitrated.bulkHeld 0 = false ∧ (arbitrated.arb 1).owner = none ∧
      arbitrated.fld F.ARB_STATUS_CUT 1 = 0 ∧ (arbMask 1 7).contains 1 = true ∧
      (arbitrated.fld F.ARB_CFG_WAIT 1 1 ≠ 0 ∧ arbitrated.fld F.ARB_CFG_WAIT 1 1 ≤ (arbitrated.arb 1).wait.get 1 0 + 9) ∧
      (∀ r ∈ (arbMask 1 7).filter (· != 1), arbitrated.fld F.ARB_CFG_WAIT 1 r = 0) ∧
      (arbitrated.highestPrio 1 (arbitrated.arb 1).last (arbMask 1 7)).isSome) ∧
    ((owned.arb 1).owner = some 1 ∧ owned.fld F.ARB_CFG_HOLD 1 1 = 0 ∧ owned.bulkHeld 0 = false ∧
      (∀ r ∈ (arbMask 1 7), owned.fld F.ARB_CFG_WAIT 1 r = 0) ∧ owned.fld F.ARB_CFG_BURST 1 1 = 4 ∧ (owned.arb 1).used = 3 ∧
      (owned.highestPrio 1 (owned.arb 1).last (arbMask 1 7)).isSome) ∧
    (overheld.cstate = ckRun ∧ (overheld.arb 1).owner = some 1 ∧ overheld.fld F.ARB_CFG_HOLD 1 1 ≠ 0 ∧
      overheld.fld F.ARB_CFG_HOLD 1 1 < (overheld.arb 1).held + 1) := by
  decide +kernel

/-- An access waits at the arbiter of slice 0's port B, and one at DRAM channel 0. -/
def waiting : State :=
  (base.modArb 512 (fun a => { a with wq := [⟨1, 9, 0, 1⟩] })).modDmc 0 (fun c =>
    { c with inq := [{ xid := 9, first := 0, mid := 256, lam := 0, kind := .read, mask := 255 }] })

theorem test_witness_waiting_accesses :
    waiting.cstate = ckRun ∧ (waiting.arb 512).wq = [⟨1, 9, 0, 1⟩] ∧ (waiting.arb 512).owner = none ∧
    (waiting.fld F.ARB_STATUS_CUT 512).testBit 1 = false ∧ (waiting.arb 768).owner = none ∧ waiting.dramReq 0 = [2] ∧
    ((waiting.dmc 0).offer 2).isSome ∧ (waiting.fld F.ARB_STATUS_CUT 768).testBit 2 = false ∧
    (waiting.dmc 0).sched.length < 64 ∧ (waiting.setFld F.DMC_STATUS_STATE dmcReady 0).dmcState 0 = dmcReady ∧
    (waiting.setFld F.DMC_STATUS_STATE dmcTransition 0).dmcState 0 = dmcTransition := by
  decide +kernel

theorem test_witness_router_commits :
    (base.ReachesReg 328 .ARB_COMMIT 1 true ∧ base.fld F.NOC_CFG_MAINT 0 = 0) ∧ base.ReachesReg 328 .ARB_COMMIT 767 true ∧
    base.ReachesReg 328 .NOC_COMMIT 0 true ∧
    ((base.setFld F.NOC_CFG_MAINT 1 0).ReachesReg 328 .NOC_COMMIT 0 true ∧
      (base.setFld F.NOC_CFG_MAINT 1 0).flag F.NOC_CFG_MAINT 0 = true ∧ (base.setFld F.NOC_CFG_MAINT 1 0).badRoute 0 = none) ∧
    (((base.setFld F.NOC_CFG_MAINT 1 0).setShadow .NOC_ROUTE (BitVec.allOnes 64) 0 0 4).ReachesReg 328 .NOC_COMMIT 0 true ∧
      (((base.setFld F.NOC_CFG_MAINT 1 0).setShadow .NOC_ROUTE (BitVec.allOnes 64) 0 0 4).badRoute 0).isSome) :=
  ⟨⟨reaches_of (by decide +kernel), by decide +kernel⟩, reaches_of (by decide +kernel), reaches_of (by decide +kernel),
    ⟨reaches_of (by decide +kernel), by decide +kernel⟩, reaches_of (by decide +kernel), by decide +kernel⟩

/-! ### Witnesses: the sealed measurement partition -/

/-- The SMP's mailbox slot k as given. -/
def withSlot (k : Nat) (x : SmpSlot) : State := (base.setFld F.SMP_STATUS_STATE smpReady).modMbox k (fun _ => x)

theorem test_witness_mailbox_claim :
    (base.ReachesReg 328 .SMP_CLAIM 0 false ∧ base.inspects 328 = false ∧ (base.slot 0).owner = none) ∧
    (((List.range 16).foldl (fun s k => s.modMbox k (fun _ => { owner := some 5 })) base).ReachesReg 328 .SMP_CLAIM 0 false ∧
      ∀ k ∈ List.range 16,
        (((List.range 16).foldl (fun s k => s.modMbox k (fun _ => { owner := some 5 })) base).slot k).owner ≠ none) :=
  ⟨⟨reaches_of (by decide +kernel), by decide +kernel⟩, reaches_of (by decide +kernel), by decide +kernel⟩

/-- An SMP request word: opcode, and length in [47:32]. -/
def request (op len : Nat) : Word := BitVec.ofNat 64 (op + len * 2 ^ 32)

theorem test_witness_mailbox_use :
    ((withSlot 3 { owner := some 328 }).Reaches 328 (.block .SMP 0) true ∧ ((withSlot 3 { owner := some 328 }).slot 3).running = false ∧
      reqOp (request 3 4) ∈ smpOpcodes ∧ reqLen (request 3 4) ≤ 224 ∧
      (withSlot 3 { owner := some 328 }).slotOwned 3 328 = true ∧ (request 3 4).getLsbD 62 = false ∧
      (withSlot 3 { owner := some 328 }).smpState = smpReady ∧ reqOp (request 9 4) ∉ smpOpcodes ∧
      224 < reqLen (request 3 225) ∧ base.smpState ≠ smpReady ∧ base.smpState ≠ smpNoImage) ∧
    ((withSlot 3 { owner := some 328, running := true }).Reaches 328 (.block .SMP 0) true ∧
      ((withSlot 3 { owner := some 328, running := true }).slot 3).running = true) ∧
    ((withSlot 3 { owner := some 328 }).Reaches 320 (.block .SMP 0) true ∧
      ((withSlot 3 { owner := some 328 }).slot 3).owner ≠ some 320 ∧ (320 : MasterId) ≠ 328) :=
  ⟨⟨reaches_of (by decide +kernel), by decide +kernel⟩, ⟨reaches_of (by decide +kernel), by decide +kernel⟩,
    reaches_of (by decide +kernel), by decide +kernel⟩

/-- A request of an opcode with one 8-byte parameter at the front of the SMP's queue. -/
def meter (op par : Nat) (m : Smp := {}) : State :=
  let data : Tab Word := Tab.set {} 4 (BitVec.ofNat 64 par) 0
  let slot : SmpSlot := { owner := some 328, req := request op 8, running := true, data := data }
  { base with smp := { m with slots := Tab.set {} 0 slot {}, reqs := [0] } }

/-- A filling buffer with one entry, and a signed one. -/
def oneEntry : Tab ResBuf :=
  (Tab.set {} 0 { st := .filling, entries := [(1, 2)] } {}).set 1 { st := .signed, entries := [(1, 2)] } {}

theorem test_witness_meter_requests :
    ((meter 1 0 { bufs := oneEntry }).live domSMP = true ∧ (meter 1 0 { bufs := oneEntry }).smp.reqs = [0] ∧
      reqOp ((meter 1 0 { bufs := oneEntry }).slot 0).req = 1 ∧ (meter 1 0 { bufs := oneEntry }).filling = some 0 ∧
      ((meter 1 0 { bufs := oneEntry }).buf 0).entries ≠ [] ∧ (meter 1 0).filling = none) ∧
    (∀ op ∈ smpOpcodes, reqOp ((meter op 1).slot 0).req = op ∧ (meter op 1).slotParam 0 = 1) ∧
    ((meter 2 1 { bufs := oneEntry }).slotParam 0 = 1 ∧ ((meter 2 1 { bufs := oneEntry }).buf 1).st = .signed ∧
      ((meter 2 0 { bufs := oneEntry }).buf 0).st ≠ .signed) ∧
    (maskClusters 1 ≠ [] ∧ (maskClusters 1).any (meter 16 1).selfBlocked = false ∧
      (maskClusters 1).any (meter 16 1).calRunning = false ∧ (maskClusters 1).any (meter 17 1).clusterBusy = false ∧
      (maskClusters 1).any ((meter 16 1).setFld F.PIN_CFG_OE 1 0).selfBlocked = true) ∧
    ((meter 0x12 64).slotParam 0 = 64 ∧ (meter 0x20 149504).slotParam 0 = 149504 ∧ (meter 0x20 149504).smp.imp = false ∧
      (meter 0x21 0 { imp := true }).smp.imp = true ∧
      (meter 0x21 0 { imp := true }).param 0 0 4 +
        ((meter 0x21 0 { imp := true }).paramBytes 0 4 (reqLen ((meter 0x21 0 { imp := true }).slot 0).req - 4)).length ≤ 149504 ∧
      (meter 0x23 0x278FF).slotParam 0 ≥ 0x27800 + 132 ∧ (meter 0x23 0).slotParam 0 + 216 ≤ 0x27800 ∧ (meter 0x23 0).fuses.sealNo < 4096 ∧
      (meter 0x22 0 { imp := true }).live domSMP = true ∧
      ∀ e ∈ List.range 256, ((meter 0x22 0 { imp := true }).eng e).mode = .idle) := by
  decide +kernel

/-- The SMP in READY with a capture of cluster 0 to take, a segment delivered, offsets and a calibration of cluster 0 pending. -/
def measuring (m : Smp) : State :=
  { base.setFld F.SMP_STATUS_STATE smpReady with
    smp := m, fcus := Tab.set {} 0 { caps := [{ chan := 0, vec := 0, v := 0, kind := .empty, raw := none }] } {} }

theorem test_witness_measurement :
    ((measuring { bufs := oneEntry, pendOff := Tab.set {} 0 true false, setclose := 5 }).live domSMP = true ∧
      (measuring { bufs := oneEntry, pendOff := Tab.set {} 0 true false, setclose := 5 }).smp.pendOff.get 0 false = true ∧
      (measuring { bufs := oneEntry, pendOff := Tab.set {} 0 true false, setclose := 5 }).clusterBusy 0 = false ∧
      (measuring { bufs := oneEntry }).smpOn = true ∧ (measuring { bufs := oneEntry }).smpState = smpReady ∧
      (measuring { bufs := oneEntry }).smp.reload = false ∧ ((measuring { bufs := oneEntry }).fcu 0).caps ≠ [] ∧
      (measuring { bufs := oneEntry }).filling = some 0 ∧ ((measuring { bufs := oneEntry }).buf 0).entries.length + 1 < 4096 ∧
      (measuring {}).filling = none ∧ (measuring {}).live domSMP = true) ∧
    (((measuring { bufs := Tab.set {} 2 { st := .signing } {} }).buf 2).st = .signing ∧
      ∀ k ∈ List.range 4, k ≠ 2 → ((measuring { bufs := Tab.set {} 2 { st := .signing } {} }).buf k).st ≠ .signing) ∧
    ((measuring { cals := [{ self := true, left := [0] }] }).selfLost 0 = false ∧
      (measuring { cals := [{ self := true, left := [0] }] }).smp.cals = [{ self := true, left := [0] }] ∧
      ((measuring { cals := [{ self := true, left := [0] }] }).modChan 5 (fun x => { x with oeRose := true })).selfLost 0 = true ∧
      (measuring {}).bankReady = false ∧ ((measuring {}).setFld F.SBK_STATUS_READY 1).bankReady = true ∧
      ({ base with smp := { meter := { seg := some [] } } } : State).smp.meter.seg = some [] ∧
      (measuring { cals := [{ self := false, left := [0] }] }).smp.cals = [{ self := false, left := [0] }]) ∧
    (({ base with smp := { seg := some [] } } : State).smpOn = true ∧ ({ base with smp := { seg := some [] } } : State).smpState = smpBoot ∧
      ({ base with smp := { seg := some [] } } : State).segmentGood [] = false ∧
      ({ base with smp := { seg := some [] } } : State).fuses.exhausted = false ∧
      ∀ b ∈ List.range 4, (({ base with smp := { seg := some [] } } : State).buf b).st = .free) := by
  decide +kernel

theorem test_witness_smp_power_on :
    ({ base with pwr := { ops := [{ dom := domSMP, kind := .on }] } } : State).opOn domSMP = some { dom := domSMP, kind := .on } ∧
    ({ base with pwr := { ops := [{ dom := domSMP, kind := .on }] } } : State).switchTurn domSMP = true ∧
    (({ dom := domSMP, kind := .on } : PwrOp).ask = .own) ∧
    ({ base with pwr := { ops := [{ dom := domSMP, kind := .on }] } } : State).cstate = ckRun ∧
    (∀ c ∈ List.range 64, ((List.range 64).foldl (fun t c => Tab.set t c true false) ({} : Tab Bool)).get c false = true) := by
  decide +kernel

/-- A key rotation's new hash, and a key whose signature over that hash and SEAL 0 is (e, e) for the digest e. -/
def rotation : List Byte := 2#8 :: List.replicate 63 0
def rotationKey : BitVec 1056 := joinHalves
  0x1AC792184448A8458F9A824B0623FB2B0CE0E875813F07CED3BC72F4F3595625C070AFFDF5B7B406CE0E52968CD9ECA47535BD90B6580527E45E05AD06A528172CA
  0x1B21CD18C8A8B0CCB4DC5EDAC3748DB7BC7AE4C6206FBFACE098BD3FC09A1F7D8DCE1E12D0D4FC441A46B365C7A41362E3BEF86CC45BD64F13D8A90450D1D249C3D
def rotationSig : List Byte := let e := beBytes 66 (sha512 (rotation ++ [0, 0])); e ++ e

/-- KEYROT with those parameters, under that key. -/
def rotating : State :=
  { (meter 0x40 0).modMbox 0 (fun x => { x with data := setBytes {} (rotation ++ rotationSig) }) with
    fuses := { metKeys := Tab.set {} 0 (some (sha512 (beBytes 132 rotationKey))) none } }

theorem test_witness_key_rotation : rotating.smp.reqs = [0] ∧ reqOp (rotating.slot 0).req = 0x40 ∧
    rotating.metKey = sha512 (beBytes 132 rotationKey) ∧ rotating.fuses.metSlot < 7 ∧ rotating.fuses.sealNo < 4096 := by
  decide +kernel

theorem test_witness_key_rotation_signed : ecdsaVerify rotationKey
    (sha512 (rotating.paramBytes 0 0 64 ++ beBytes 2 (BitVec.ofNat 16 rotating.fuses.sealNo))) (sigOf (rotating.paramBytes 0 64 132))
      = true := by
  decide +kernel

/-! ### Witnesses: the fabric. The mode of a block memory and the settings of a cell come from opaque Config values. -/

/-- Sector 0 configured in user mode. -/
def userMode : State := (base.setFld F.FAB_STATUS_CONFIGURED 1 0).setFld F.CFG_STATUS_STATE 8

/-- The same with global line 0 running. -/
def lineOn : State := userMode.setFld F.CLK_GLOBAL_EN 1 0 0

theorem test_witness_block_memory : userMode.live (domFS (bmSector 0)) = true ∧ userMode.sectorRuns (bmSector 0) = true ∧
    userMode.bmRet.get 0 false = false ∧ (userMode.setFld F.SCR_CTRL_EN 1).flag F.SCR_CTRL_EN = true ∧
    (decode64 (encode64 5 ^^^ 1)).kind = .corrected 0 ∧ (decode64 (encode64 5 ^^^ 1)).data = 5 ∧
    (decode64 (encode64 5 ^^^ 3)).kind = .uncorrectable := by
  decide +kernel

theorem test_witness_port_collision :
    ({ userMode with bmLast := Tab.set {} 0 { portB := false, valid := true, word := 7, mask := 0xFF } {} } : State).bmMeets 0 7 true true
      = 0xFF := by
  decide +kernel

theorem test_witness_fab_commit :
    (base.ReachesReg 328 .FAB_COMMIT 0 true ∧ base.fabInconsistent 0 = false) ∧
    ((base.setShadow .FAB_RCLK (putFld F.FAB_RCLK_SRC 3 0) 0 15).ReachesReg 328 .FAB_COMMIT 0 true ∧
      (base.setShadow .FAB_RCLK (putFld F.FAB_RCLK_SRC 3 0) 0 15).fabInconsistent 0 = true) :=
  ⟨⟨reaches_of (by decide +kernel), by decide +kernel⟩, reaches_of (by decide +kernel), by decide +kernel⟩

/-- Request 9 stands at the port of sector 0. -/
def atPort (taken : Bool) : Xact :=
  { mid := 0, kind := .read, addr := 0x001100000000, len := 1, left := 1, sent := true, holders := [⟨5, true, 0⟩], atFabric := taken }

theorem test_witness_sector_port :
    (regionAt 0x001100000000 = some (.fabric 0) ∧ base.sectorRuns 0 = false ∧ userMode.sectorRuns 0 = true ∧
      userMode.flag F.FAB_PORT_TEN 0 = false ∧ (userMode.setFld F.FAB_PORT_TEN 1 0).flag F.FAB_PORT_TEN 0 = true ∧
      (atPort false).left ≠ 0 ∧ (∃ h ∈ (atPort false).holders, h.counted = true) ∧ (atPort false).fails = [] ∧
      userMode.portClock 0 = false ∧ lineOn.portClock 0 = true ∧ lineOn.columnClock 0 = true ∧ userMode.columnClock 0 = false ∧
      lineOn.sectorRuns 0 = true ∧
      ({ userMode with xacts := Tab.set {} 9 (some (atPort false)) none } : State).xacts.get 9 none = some (atPort false)) ∧
    ((userMode.setFld F.FAB_PORT_TMO 5 0).fld F.FAB_PORT_TMO 0 ≠ 0 ∧ (atPort true).atFabric = true ∧
      (withEng { trig := true }).live (domCL 0) = true ∧ ((withEng { trig := true }).eng 0).trig = true) := by
  decide +kernel

/-! ### Witnesses: configuration -/

/-- The loader in a state, with its record. -/
def loading (st : Nat) (l : Loader := {}) : State := { base.setLd st with loader := l }

theorem test_witness_loader :
    ((loading ldHold).cstate = ckRun ∧ (loading ldHold).loader.back < 16 ∧ (loading ldHold).ldState = ldHold) ∧
    ((loading ldSettings).ldState = ldSettings ∧ (loading ldSettings).goldenOnly = false ∧
      ((loading ldSettings).setFld F.CFG_STATUS_STRAP 1).goldenOnly = true) ∧
    ((loading ldHeader { src := { kind := 1 } }).ldState = ldHeader ∧ (loading ldHeader { src := { kind := 1 } }).loader.src.kind = 1 ∧
      (loading ldHeader { src := { kind := 1 } }).headerGood ((loading ldHeader).flashBytes 0 0x1000) false = false) ∧
    ((loading ldSigchk).ldState = ldSigchk ∧ ({ loading ldSigchk with fuses := { lc := 3 } } : State).signatureGood [] = false) ∧
    ((loading ldFrames { src := { kind := 3 } }).loader.streamEnd = false ∧ ldHeader ≤ (loading ldFrames).ldState ∧
      (loading ldFrames).ldState ≤ ldHashchk ∧ (loading ldFrames { src := { kind := 1 }, tmo := 5 }).loader.tmo ≠ 0) ∧
    ((loading ldDoneWait { ready := true }).ldState = ldDoneWait ∧ (loading ldDoneWait { ready := true }).loader.ready = true) := by
  decide +kernel

/-- Everything that CFG_DONE waits for, with the slices off. -/
def readyPart : State :=
  { ((((List.range 12).foldl (fun s k => s.setDmcState k dmcReady) ((loading ldDoneWait).setReg .PWR_ON 0 0 2)).setFld
      F.SBK_STATUS_READY 1).setFld F.SMP_STATUS_STATE smpReady) with mb := { run := .firmware } }

theorem test_witness_device_ready : readyPart.ldState = ldDoneWait ∧ readyPart.deviceIsReady = true := by
  decide +kernel

theorem test_witness_cfg_ctrl :
    ((loading ldUser).ReachesReg 328 .CFG_CTRL 0 true ∧ (loading ldUser).ldState = ldUser ∧
      (loading ldUser).flag F.CFG_STATUS_BUSY = false ∧ (loading ldUser).fld F.CFG_SRC_KIND ≠ 3 ∧
      (loading ldUser).fld F.CFG_SRC_ADDR % 16 = 0 ∧ (loading ldUser).ldState ≠ ldFailed ∧ (loading ldUser).ldState ≠ ldWaitImage) ∧
    ((loading ldFailed).ReachesReg 328 .CFG_CTRL 0 true ∧ (loading ldFailed).ldState = ldFailed) ∧
    (((loading ldUser).setFld F.CFG_STATUS_BUSY 1).ReachesReg 328 .CFG_CTRL 0 true ∧
      ((loading ldUser).setFld F.CFG_STATUS_BUSY 1).flag F.CFG_STATUS_BUSY = true) :=
  ⟨⟨reaches_of (by decide +kernel), by decide +kernel⟩, ⟨reaches_of (by decide +kernel), by decide +kernel⟩,
    reaches_of (by decide +kernel), by decide +kernel⟩

/-- The first 1,032 bytes of a frame record of sector 0, frame 0, with all configuration bits 0, and the record (R239, R240). -/
def record00Body : List Byte := wordBytes 0x0100000000000000 ++ List.replicate 1024 0
def record00 : List Byte :=
  record00Body ++ ((List.range 4).map (fun i => (crc32c record00Body).extractLsb' (8 * i) 8) ++ List.replicate 4 0)

theorem record00Body_length : record00Body.length = 1032 := by decide +kernel

theorem leNat_of_bytes (c : BitVec 32) : leNat ((List.range 4).map (fun i => c.extractLsb' (8 * i) 8)) = c.toNat := by
  have h := c.isLt
  simp [leNat, List.range_succ, BitVec.extractLsb'_toNat, Nat.shiftRight_eq_div_pow]
  omega

theorem test_witness_frame_record : record00.length = 1040 ∧ frameRecordGood record00 = true ∧ frameSector record00 = 0 ∧
    frameNumber record00 = 0 ∧ ({} : Loader).inOrder record00 = true := by
  have hl := record00Body_length
  have hw : hdrWord record00 0 = 0x0100000000000000 := by
    unfold hdrWord record00
    simp only [List.drop_zero]
    rw [List.take_append_of_le_length (by omega)]
    decide +kernel
  have ht : record00.take 1032 = record00Body := by unfold record00; rw [← hl]; exact List.take_left
  have hd : (record00.drop 1032).take 4 = (List.range 4).map (fun i => (crc32c record00Body).extractLsb' (8 * i) 8) := by
    unfold record00; rw [← hl, List.drop_left]; exact List.take_left' (by simp)
  have hz : record00.drop 1036 = List.replicate 4 0 := by
    unfold record00
    rw [← List.append_assoc]
    exact List.drop_left' (by simp [hl])
  refine ⟨?_, ?_, ?_, ?_, ?_⟩
  · unfold record00; simp [hl]
  · unfold frameRecordGood
    rw [hw, hd, ht, hz, leNat_of_bytes]
    simp [bitsOf]
  · unfold frameSector; rw [hw]; decide +kernel
  · unfold frameNumber; rw [hw]; decide +kernel
  · unfold Loader.inOrder frameNumber; rw [hw]; decide +kernel

theorem test_witness_bad_frame : (loading ldFrames { src := { kind := 1, base := 0 } }).ldState = ldFrames ∧ smpSeg [] = none ∧
    (loading ldFrames { src := { kind := 1, base := 0 } }).loader.src.kind = 1 ∧
    ({ frame := 3, sect := some 1 } : Loader).inOrder (List.replicate 1040 0) = false := by
  decide +kernel

/-- A load in user mode of a partial image. -/
def partialLoad (s : State) : State :=
  { s.setLd ldFrames with loader := { user := true, hdr := List.replicate 8 0 ++ [2] ++ List.replicate 4087 0 } }

theorem test_witness_sector_fence :
    ((partialLoad base).ldState = ldFrames ∧ 0 ∉ (partialLoad base).loader.fenced ∧ hdrPartial (partialLoad base).loader.hdr = true ∧
      (partialLoad base).fenceable 0 = true) ∧
    (partialLoad (base.setReg .PWR_ON 0 0 3)).fenceable 0 = false := by
  decide +kernel

/-- Sector 0 scrubbed, its pass as given. -/
def scrubbing (c : Sector) : State := (userMode.setFld F.SCR_CTRL_EN 1).modSector 0 (fun _ => c)

theorem test_witness_scrubbing :
    ((scrubbing {}).scrubs 0 = true ∧ ((scrubbing {}).sector 0).pass = none) ∧
    ((scrubbing { pass := some 3455 }).scrubs 0 = true ∧ ((scrubbing { pass := some 3455 }).sector 0).pass = some 3455 ∧
      ((scrubbing { pass := some 3455 }).sector 0).repair = none ∧ frameKind (withCheck 0) = .clean ∧
      frameKind (withCheck 0 ^^^ 1) = .corrected 0 ∧ frameKind (withCheck 0 ^^^ 3) = .uncorrectable) ∧
    (((scrubbing { repair := some 7, src := { kind := 1 } }).sector 0).repair = some 7 ∧
      ((scrubbing { repair := some 7, src := { kind := 1 } }).sector 0).src.kind = 1 ∧
      ((scrubbing { pass := some 3537 }).sector 0).pass = some 3537) := by
  decide +kernel

/-- The first 256 bytes of an image header for this part (R236): a SMP segment of 16 bytes and a FABRIC segment of one sector; HASH is
that of an empty body. -/
def headFields : List Byte := wordsBytes
  [0x43494D4700011000, 0xC5144FFFF00, 0, 0, 0x200000D80, 0x36D810, 2, 0, 2, 0x1000, 0x10, 0, 0xD8000000001, 0x1010, 0x36D800, 0,
   0, 0, 0, 0, 0, 0, 0, 0, 0xBDB8EF7E35E183CF, 0x7806DD6502854F1, 0xDC15570B05E420D6, 0xCEE96CD321A9F483,
   0xB0F2855D3CD1D047, 0x2FEC7E87D21883FF, 0x817A4147BD31B963, 0x3EDA27F97A3238A5]

/-- A key whose signature over the fields' SHA-512 e is (e, e): G and the key add up to a point of abscissa e. -/
def headKey : BitVec 1056 := joinHalves
  0x368F02C0C873BADCB1FF411CD05491A6FD1A35922A0270C8A9F2A5DFE0CEFEA37B59149F31EF8A60A3907E2F3E425F30669936BE5692BE18B34614D3188812379B
  0x1E7834F09DC0654023002B0EDAA8DC043CF5AE090C8135C9721EF4E6289F5B4FAD3AEEDDB8CE6D2C157AA59A4C8C7502AB894A6066A8E83069AE26E4E9A8C319D83

/-- The header, signed. -/
def head : List Byte :=
  headFields ++ (beBytes 132 headKey ++ (List.replicate 4 0 ++ (beBytes 66 (sha512 headFields) ++ (List.replicate 6 0 ++
    (beBytes 66 (sha512 headFields) ++ List.replicate 3566 0)))))

theorem test_witness_header : head.length = 4096 ∧ base.headerGood head false = true ∧ base.headerGood head true = true ∧
    smpSeg head = some ⟨2, 0, 0x1000, 16⟩ ∧ (fabricSeg head).frames = 3456 ∧ hdrHash head = sha512 [] := by
  decide +kernel

/-- R237: in life-cycle state 0 the header's own key counts. -/
theorem test_witness_signature : base.signatureGood head = true := by
  decide +kernel

/-- Flash with that header at an address. -/
def imaged (s : State) (a : Nat) : State := s.setFlash a head

theorem test_witness_image_in_flash (s : State) (a : Nat) : (imaged s a).flashBytes a 0x1000 = head := by
  have h := s.flashBytes_setFlash a head
  rwa [test_witness_header.1] at h

theorem test_witness_hash : (loading ldHashchk { hdr := head }).ldState = ldHashchk ∧
    sha512 (loading ldHashchk { hdr := head }).loader.body = hdrHash (loading ldHashchk { hdr := head }).loader.hdr ∧
    sha512 [0] ≠ hdrHash head ∧ (∀ x ∈ (loading ldHashchk { hdr := head, sectors := [0] }).loader.sectors, x < 64) := by
  decide +kernel

/-- The partial load at its first frame record, in flash. -/
def firstRecord : State := (({ partialLoad base with loader := { (partialLoad base).loader with src := { kind := 1 } } } : State)).setFlash
  0x1000 record00

theorem test_witness_due_sector : firstRecord.dueSector = some 0 ∧ firstRecord.loader.user = true ∧ 0 ∉ firstRecord.loader.fenced := by
  obtain ⟨hl, hg, hs, -, ho⟩ := test_witness_frame_record
  have hb : firstRecord.flashBytes 0x1000 1040 = record00 := by
    have h := State.flashBytes_setFlash
      ({ partialLoad base with loader := { (partialLoad base).loader with src := { kind := 1 } } } : State) 0x1000 record00
    rwa [hl] at h
  refine ⟨?_, rfl, by decide⟩
  have hst : firstRecord.ldState = ldFrames := by decide +kernel
  have hn : (firstRecord.nextBytes 0x1000 1040 2 false).1 = .bytes record00 := by
    show (SrcRead.bytes (firstRecord.flashBytes (0 + 0x1000) 1040)) = _
    rw [Nat.zero_add, hb]
  have ho2 : firstRecord.loader.inOrder record00 = true := ho
  unfold State.dueSector
  rw [if_neg (by simp [hst]; decide)]
  show (match (firstRecord.nextBytes 0x1000 1040 2 false).1 with
    | .bytes r => if frameRecordGood r ∧ firstRecord.loader.inOrder r then some (frameSector r) else none
    | _ => none) = _
  rw [hn]
  simp [hg, ho2, hs]

/-! ### Witnesses: DRAM and inline encryption -/

/-- Channel 0 in a state, with its record. -/
def channel (st : Nat) (c : Dmc := {}) : State := (base.setDmcState 0 st).modDmc 0 (fun _ => c)

/-- A line request of request 9 for line 5. -/
def lineReq (k : XKind) (mask : Byte) : LineReq :=
  { xid := 9, first := 0, mid := 0, lam := 5, kind := k, mask := mask, data := List.replicate 8 (1, false) }

/-- Channel 0 in READY with that request scheduled. -/
def scheduled (k : XKind) (mask : Byte) : State :=
  { channel dmcReady { sched := [lineReq k mask] } with xacts := Tab.set {} 9 (some { mid := 0, kind := k, addr := 0, len := 1, left := 1 }) none }

theorem test_witness_line_access : (scheduled .read 1).live (domDM 0) = true ∧ (scheduled .read 1).dmcState 0 = dmcReady ∧
    ((scheduled .read 1).dmc 0).sched[0]? = some (lineReq .read 1) ∧ ((scheduled .read 1).dmc 0).mayPerform 0 (lineReq .read 1) = true ∧
    (scheduled .read 1).pageRetired ((scheduled .read 1).lineAddr 0 5) = false ∧ (scheduled .read 1).ckDram 0 = false ∧
    (scheduled .read 1).regionOf 5 = none ∧ ((scheduled .read 1).xacts.get 9 none).isSome ∧
    ((scheduled .write 0xFF).dmc 0).sched[0]? = some (lineReq .write 0xFF) ∧
    ((scheduled .write 1).dmc 0).sched[0]? = some (lineReq .write 1) ∧
    (decodeLine ((scheduled .write 1).line 0 5)).poison = false ∧
    (decodeLine (((scheduled .write 1).setLine 0 5 (storeLine 0 0 true)).line 0 5)).poison = true ∧
    ((lineReq (.atomic .add64) 1).data.getD (firstWord (lineReq (.atomic .add64) 1)) (0, false)).2 = false ∧
    (atomicResult .add64 0 1 0).isSome := by
  decide +kernel

/-- Two additions to line 5 stand together in the queue, and bank 3 has postponed eight refreshes. -/
def paired : State := channel dmcReady
  { sched := [lineReq (.atomic .add64) 1, { lineReq (.atomic .add64) 1 with xid := 10 }], postponed := Tab.set {} 3 8 0 }

theorem test_witness_atomics_of_one_line : (paired.lineGroup 0 (lineReq (.atomic .add64) 1) ((paired.dmc 0).sched.drop 1)).length = 1 ∧
    (paired.dmc 0).mayPerform 0 (lineReq (.atomic .add64) 1) = true ∧ 8 ≤ (paired.dmc 0).postponed.get 3 0 ∧ (paired.dmc 0).queued 0 = true ∧
    ((channel dmcReady).dmc 0).queued 0 = false := by
  decide +kernel

/-- A line with one flipped cell waits to be written back, and stands where the patrol reads next. -/
def flipped : State :=
  ((channel dmcReady { cewb := [5], patrol := 5 }).setLine 0 5 (storeLine 7 0 false ^^^ 1)).setFld F.DMC_CTRL_PATROL 1 0

theorem test_witness_write_back : flipped.live (domDM 0) = true ∧ (flipped.dmc 0).cewb.contains 5 = true ∧ (flipped.dmc 0).sched = [] ∧
    flipped.dmcState 0 = dmcReady ∧ flipped.ckDram 0 = false ∧ flipped.regionOf 5 = none ∧
    (decodeLine (flipped.line 0 5)).kind = .corrected 0 ∧ flipped.fld F.DMC_CTRL_PATROL 0 ≠ 0 ∧ flipped.chanLines ≠ 0 ∧
    flipped.pageRetired (flipped.lineAddr 0 5) = false := by
  decide +kernel

theorem test_witness_channel_states :
    ((channel dmcTrain).live (domDM 0) = true ∧ (channel dmcTrain).dmcState 0 = dmcTrain ∧ ((channel dmcTrain).dmc 0).trained = false) ∧
    (({ channel dmcTrain { trained := true } with ilvLocked := true } : State).dmcState 0 = dmcTrain ∧
      (({ channel dmcTrain { trained := true } with ilvLocked := true } : State).dmc 0).trained = true) ∧
    (channel dmcFill).dmcState 0 = dmcFill ∧
    (((channel dmcTransition { trans := some { setrate := true, rate := 1 } }).dmc 0).trans = some { setrate := true, rate := 1 } ∧
      ((channel dmcTransition { trans := some { setrate := true, rate := 1, quiesced := true } }).dmc 0).trans =
        some { setrate := true, rate := 1, quiesced := true }) ∧
    (((channel dmcReady { thrBuf := [lineReq .read 1], throttled := [⟨0, [(3, 9)]⟩] }).dmc 0).thrBuf = [lineReq .read 1] ∧
      ((channel dmcReady { throttled := [⟨0, [(3, 9)]⟩] }).dmc 0).throttled.find? (fun t => t.mid == 0) = some ⟨0, [(3, 9)]⟩ ∧
      ((channel dmcReady).setFld F.DMC_CTRL_IDLE 1 0).fld F.DMC_CTRL_IDLE 0 ≠ 0) := by
  decide +kernel

theorem test_witness_dmc_registers :
    (base.ReachesReg 328 .DMC_ILV 0 true ∧ base.ilvLocked = false ∧ (2 : BitVec 4).toNat ≤ 2 ∧ 2 < (3 : BitVec 4).toNat ∧
      (4 : BitVec 3).toNat ≤ 4 ∧ 4 < (5 : BitVec 3).toNat) ∧
    (({ base with ilvLocked := true } : State).ReachesReg 328 .DMC_ILV 0 true ∧
      ¬ ((0 : BitVec 4).toNat = ({ base with ilvLocked := true } : State).fld F.DMC_ILV_CAP ∧
        (0 : BitVec 3).toNat = ({ base with ilvLocked := true } : State).fld F.DMC_ILV_ILV)) ∧
    ((channel dmcTrain).ReachesReg 328 .DMC_CMD 0 true ∧ (channel dmcTrain).dmcState 0 ≠ dmcReady) ∧
    ((channel dmcReady).ReachesReg 328 .DMC_CMD 0 true ∧ (channel dmcReady).dmcState 0 = dmcReady ∧
      timingGood ((channel dmcReady).shadowReg .DMC_TIM 0 0) = true ∧
      timingGood (((channel dmcReady).setShadow .DMC_TIM 0 0 0).shadowReg .DMC_TIM 0 0) = false) ∧
    ((((channel dmcReady).setFld F.CFG_STATUS_STATE 8).setFld F.NOC_NI_ACCEPT 0 (dramPort 0).1 (dramPort 0).2).channelQuiet 0 = true ∧
      (((channel dmcReady).setFld F.CFG_STATUS_STATE 8).setFld F.NOC_NI_ACCEPT 0 (dramPort 0).1 (dramPort 0).2).userMode = true) :=
  ⟨⟨reaches_of (by decide +kernel), by decide +kernel⟩, ⟨reaches_of (by decide +kernel), by decide +kernel⟩,
    ⟨reaches_of (by decide +kernel), by decide +kernel⟩, ⟨reaches_of (by decide +kernel), by decide +kernel⟩, by decide +kernel⟩

/-- Region 0 enabled over the first 2 MiB lines of each channel, in a state. -/
def encrypted (st : Nat) : State :=
  (((scheduled .read 1).setFld F.ICE_RCFG_EN 1 0 0).setFld F.ICE_RCFG_SIZE 1 0 0).setIceState 0 st

theorem test_witness_encrypted_access : ∀ st ∈ [iceReady, iceLocked, iceKeywait], (encrypted st).live (domDM 0) = true ∧
    (encrypted st).dmcState 0 = dmcReady ∧ (encrypted st).regionOf 5 = some (0, 5) ∧ (encrypted st).iceState 0 = st ∧
    (encrypted st).pageRetired ((encrypted st).lineAddr 0 5) = false ∧ (encrypted st).ckDram 0 = false ∧
    (decodeLine ((encrypted st).line 0 5)).poison = false := by
  decide +kernel

theorem test_witness_ice_commit :
    (base.ReachesReg 328 .ICE_COMMIT 0 true ∧ base.iceCommitGood = true ∧ base.sfld F.ICE_RCFG_EN 0 0 = 0 ∧
      (base.setShadow .ICE_RCFG (putFld F.ICE_RCFG_CBASE 100 (putFld F.ICE_RCFG_EN 1 (putFld F.ICE_RCFG_SIZE 1 0))) 0 0).iceCommitGood = true ∧
      (base.setShadow .ICE_RCFG (putFld F.ICE_RCFG_CBASE 100 (putFld F.ICE_RCFG_EN 1 (putFld F.ICE_RCFG_SIZE 1 0))) 0 0).sfld F.ICE_RCFG_EN 0 0 = 1) ∧
    ((base.setShadow .ICE_RCFG (putFld F.ICE_RCFG_EN 1 0) 0 0).ReachesReg 328 .ICE_COMMIT 0 true ∧
      (base.setShadow .ICE_RCFG (putFld F.ICE_RCFG_EN 1 0) 0 0).iceCommitGood = false) :=
  ⟨⟨reaches_of (by decide +kernel), by decide +kernel⟩, reaches_of (by decide +kernel), by decide +kernel⟩

theorem test_witness_ice_ctrl :
    ((encrypted iceReady).ReachesReg 328 .ICE_CTRL 0 true ∧ (encrypted iceReady).iceState 0 = iceReady ∧
      (encrypted iceReady).flag F.ICE_RSTAT_SPARE 0 0 = false ∧
      ((encrypted iceReady).setFld F.ICE_RSTAT_SPARE 1 0 0).flag F.ICE_RSTAT_SPARE 0 0 = true) ∧
    ((encrypted iceLocked).ReachesReg 328 .ICE_CTRL 0 true ∧ (encrypted iceLocked).iceState 0 = iceLocked ∧
      (encrypted iceLocked).ice.before.get 0 0 < 8) ∧
    ((encrypted iceKeywait).ReachesReg 328 .ICE_CTRL 0 true ∧ (encrypted iceKeywait).iceState 0 = iceKeywait) ∧
    (base.ReachesReg 320 .ICE_CTRL 0 true ∧ (320 : MasterId) ≠ 328) :=
  ⟨⟨reaches_of (by decide +kernel), by decide +kernel⟩, ⟨reaches_of (by decide +kernel), by decide +kernel⟩,
    ⟨reaches_of (by decide +kernel), by decide +kernel⟩, reaches_of (by decide +kernel), by decide +kernel⟩

theorem test_witness_rekey :
    ((encrypted iceInit).cstate = ckRun ∧ (encrypted iceInit).iceState 0 = iceInit) ∧
    ((encrypted iceRekey).live (domDM 0) = true ∧ (encrypted iceRekey).iceState 0 = iceRekey ∧ (encrypted iceRekey).iceSplit 0 = false ∧
      (encrypted iceRekey).fld F.ICE_BND_B 0 0 0 + 1 < (encrypted iceRekey).iceLines 0) ∧
    (((List.range 12).foldl (fun s k => s.setFld F.ICE_BND_B 16383 0 0 k) (encrypted iceRekey)).fld F.ICE_BND_B 0 0 0 <
        (encrypted iceRekey).iceLines 0 ∧ (encrypted iceRekey).iceLines 0 ≤ 16383 + 1 ∧
      ∀ m ∈ List.range 12, m ≠ 0 → (encrypted iceRekey).iceLines 0 ≤
        (((List.range 12).foldl (fun s k => s.setFld F.ICE_BND_B 16384 0 0 k) (encrypted iceRekey)).setFld F.ICE_BND_B 16383 0 0 0).fld
          F.ICE_BND_B 0 0 m) := by
  decide +kernel

theorem test_witness_link_key : ({ base with ice := { linkDue := Tab.set {} 3 true false } } : State).cstate = ckRun ∧
    ({ base with ice := { linkDue := Tab.set {} 3 true false } } : State).ice.linkDue.get 3 false = true := by
  decide +kernel

/-- The leaf block of lines 0 to 7 of region 0 stands in channel 0's counter cache, and line 5 is stored with its tag. -/
def verified (st : Nat) : State :=
  let s := (encrypted st).putCtr 0 0 0 0 0 false
  s.setLine 0 5 (storeLine 7 (lineTag (s.dataKey 0 0 5) 1 (s.lineAddr 0 5) 0 7) false)

theorem test_witness_verified_line : ∀ st ∈ [iceReady, iceRekey], (verified st).iceState 0 = st ∧
    (verified st).dmc 0 = { (encrypted st).dmc 0 with ctrs := ((verified st).dmc 0).ctrs } ∧
    ((verified st).iceWalk none 0 0 5).1.bad = none ∧ ((verified st).iceWalk none 0 0 5).1.c = 0 ∧
    (decodeLine ((verified st).line 0 5)).data = 7 ∧ (decodeLine ((verified st).line 0 5)).poison = false ∧
    (decodeLine ((verified st).line 0 5)).spare = lineTag ((verified st).dataKey 0 0 5) 1 ((verified st).lineAddr 0 5) 0 7 ∧
    (verified st).ctrLines 0 + ((verified st).iceLevels 0).length < 512 ∧ (verified st).iceSplit 0 = false := by
  decide +kernel

theorem test_witness_tampered_line : (decodeLine ((encrypted iceReady).line 0 5)).spare = 0 ∧
    (((encrypted iceReady).putCtr 0 0 0 0 0 false).iceWalk none 0 0 5).1.bad = none ∧
    lineTag ((encrypted iceReady).dataKey 0 0 5) 1 ((encrypted iceReady).lineAddr 0 5) 0 0 ≠ 0 := by
  decide +kernel

/-! ### Witnesses: lanes -/

/-- Lane 0 in a state with USE = 1, as given; the quad is locked. -/
def laned (st : Nat) (x : Lane := {}) : State :=
  (((base.setFld F.LN_STATUS_STATE st 0).setFld F.LN_CFG_USE 1 0).setFld F.LN_QSTATUS_LOCK 1 0).modLane 0 (fun _ => x)

theorem test_witness_quads :
    ((base.setShadow .LN_QPLL (putFld F.LN_QPLL_M 20480 (putFld F.LN_QPLL_REFKHZ 100000 0)) 0).ReachesReg 328 .LN_QCOMMIT 0 true ∧
      (∀ i ∈ quadLanes 0, (base.setShadow .LN_QPLL (putFld F.LN_QPLL_M 20480 (putFld F.LN_QPLL_REFKHZ 100000 0)) 0).fld F.LN_CFG_USE i = 0) ∧
      8000000 * 256 ≤ 100000 * 20480 ∧ 100000 * 20480 ≤ 16000000 * 256 ∧
      (base.setShadow .LN_QPLL (putFld F.LN_QPLL_M 20480 (putFld F.LN_QPLL_REFKHZ 100000 0)) 0).sfld F.LN_QPLL_M 0 = 20480 ∧
      (base.setShadow .LN_QPLL (putFld F.LN_QPLL_M 20480 (putFld F.LN_QPLL_REFKHZ 100000 0)) 0).sfld F.LN_QPLL_REFKHZ 0 = 100000) ∧
    ((laned lnReady).ReachesReg 328 .LN_QCOMMIT 0 true ∧ ¬ ∀ i ∈ quadLanes 0, (laned lnReady).fld F.LN_CFG_USE i = 0) ∧
    ((laned lnReady).live (domLQ 0) = true ∧ (laned lnReady).flag F.LN_QSTATUS_REFLOS 0 = false ∧
      ∀ b ∈ List.range 16, (laned lnReady).swState b = swDown) :=
  ⟨⟨reaches_of (by decide +kernel), by decide +kernel⟩, ⟨reaches_of (by decide +kernel), by decide +kernel⟩, by decide +kernel⟩

theorem test_witness_lane_commit :
    (base.ReachesReg 328 .LN_COMMIT 0 true ∧ base.lnCommitBad 0 = false ∧ base.sfld F.LN_CFG_USE 0 = 0) ∧
    ((base.setShadow .LN_TXEQ 0 0).ReachesReg 328 .LN_COMMIT 0 true ∧
      (base.setShadow .LN_CFG (putFld F.LN_CFG_USE 3 0) 0).lnCommitBad 0 = true) :=
  ⟨⟨reaches_of (by decide +kernel), by decide +kernel⟩, reaches_of (by decide +kernel), by decide +kernel⟩

theorem test_witness_lane_states : ∀ st ∈ [lnAcquire, lnTrain, lnReady, lnLost], (laned st).live (domLQ 0) = true ∧
    (laned st).lnState 0 = st ∧ (laned st).flag F.LN_STATUS_LOS 0 = false ∧ (laned st).flag F.LN_STATUS_LOL 0 = false ∧
    (laned st).flag F.LN_QSTATUS_LOCK 0 = true ∧ st ≠ lnOff ∧ tapsGood 0 63 0 = true ∧ tapsGood 0 64 0 = false := by
  decide +kernel

theorem test_witness_lane_words :
    ((laned lnReady).fld F.LN_TEST_PCHK 0 = 0 ∧ (laned lnReady).fld F.LN_CFG_USE 0 = 1 ∧ ((laned lnReady).lane 0).rx.length < 32 ∧
      32 ≤ ((laned lnReady { rx := List.replicate 32 0 }).lane 0).rx.length ∧
      ((laned lnReady).setFld F.LN_TEST_PCHK 1 0).fld F.LN_TEST_PCHK 0 ≠ 0 ∧ (laned lnReady).txReady 0 = true ∧
      (laned lnReady { tx := List.replicate 32 0 }).txReady 0 = false ∧ (laned lnReady).txOpen 0 = true ∧
      ((laned lnReady).lane 0).tx = [] ∧ (laned lnReady).laneClock 0 = false ∧
      (((laned lnReady).setFld F.CFG_STATUS_STATE 8).setFld F.CLK_GLOBAL_EN 1 0 0).laneClock 0 = true) ∧
    (((laned lnReady).setFld F.LN_ESRES_BUSY 1 0).flag F.LN_ESRES_BUSY 0 = true ∧ (laned lnReady).fld F.LN_ESCAN_DWELL 0 ≤ 40) := by
  decide +kernel

theorem test_witness_lane_tests :
    (((laned lnReady).setFld F.LN_TEST_SJPER 4 0).ReachesReg 328 .LN_TEST 0 true ∧
      ((laned lnReady).setFld F.LN_TEST_SJPER 4 0).fld F.LN_CFG_USE 0 = 1 ∧
      4 ≤ ((laned lnReady).setFld F.LN_TEST_SJPER 4 0).fld F.LN_TEST_SJPER 0 ∧
      ((laned lnReady).setFld F.LN_TEST_SJPER 4 0).fld F.LN_TEST_PCHK 0 ≤ 7 ∧
      ((laned lnReady).setFld F.LN_TEST_SJPER 4 0).fld F.LN_TEST_PGEN 0 ≤ 7) ∧
    (base.ReachesReg 328 .LN_TEST 0 true ∧ base.fld F.LN_CFG_USE 0 ≠ 1) ∧
    ((laned lnReady).ReachesReg 328 .LN_ESCAN 0 true ∧ (laned lnReady).flag F.LN_ESRES_BUSY 0 = false ∧
      10 ≤ fldOf F.LN_ESCAN_DWELL (putFld F.LN_ESCAN_DWELL 40 0) ∧ fldOf F.LN_ESCAN_DWELL (putFld F.LN_ESCAN_DWELL 40 0) ≤ 40 ∧
      (laned lnReady).flag F.LN_CFG_MOD 0 = false ∧ fldOf F.LN_ESCAN_EYE (putFld F.LN_ESCAN_DWELL 40 0) = 0) :=
  ⟨⟨reaches_of (by decide +kernel), by decide +kernel⟩, ⟨reaches_of (by decide +kernel), by decide +kernel⟩,
    reaches_of (by decide +kernel), by decide +kernel⟩

/-! ### Witnesses: links, bridges and the time base -/

/-- Bridge 0 in a state, as given. -/
def bridged (st : Nat) (x : Bridge := {}) : State := (base.setFld F.SWP_STATUS_STATE st 0).modBridge 0 (fun _ => x)

/-- A bond of one lane on bridge 0, enabled, with its lane in READY. -/
def bonded (st : Nat) (x : Bridge) : State :=
  (((((bridged st x).setFld F.SWP_CTRL_EN 1 0).setFld F.LN_CFG_USE 2 0).setFld F.LN_CFG_TRAIN 1 0).setFld F.LN_STATUS_STATE lnReady 0)

theorem test_witness_link_commit :
    (base.ReachesReg 328 .SWP_COMMIT 0 true ∧ base.swpCommitBad 0 = false ∧ base.sfld F.SWP_CTRL_EN 0 = base.fld F.SWP_CTRL_EN 0 ∧
      (base.setShadow .SWP_CTRL (putFld F.SWP_CTRL_EN 1 0) 0).swpCommitBad 0 = false ∧
      (base.setShadow .SWP_CTRL (putFld F.SWP_CTRL_EN 1 0) 0).sfld F.SWP_CTRL_EN 0 ≠ base.fld F.SWP_CTRL_EN 0) ∧
    ((base.setShadow .SWP_CTRL (putFld F.SWP_CTRL_FIRST 143 0) 0).ReachesReg 328 .SWP_COMMIT 0 true ∧
      (base.setShadow .SWP_CTRL (putFld F.SWP_CTRL_FIRST 143 0) 0).swpCommitBad 0 = true) ∧
    base.ReachesReg 328 .SWP_KEY 0 true :=
  ⟨⟨reaches_of (by decide +kernel), by decide +kernel⟩, ⟨reaches_of (by decide +kernel), by decide +kernel⟩,
    reaches_of (by decide +kernel)⟩

theorem test_witness_link_training :
    ((bonded swDown { retry := true }).live (domSB 0) = true ∧ (bonded swDown { retry := true }).swState 0 = swDown ∧
      (bonded swDown { retry := true }).flag F.SWP_CTRL_EN 0 = true ∧ ((bonded swDown { retry := true }).bridge 0).retry = true ∧
      (bonded swDown { retry := true }).bondGood 0 = true ∧
      ∀ l ∈ (bonded swDown { retry := true }).bond 0, (bonded swDown { retry := true }).lnState l = lnReady) ∧
    ((bonded swTrain {}).swState 0 = swTrain ∧ ∀ l ∈ (bonded swTrain {}).bond 0, (bonded swTrain {}).lnState l = lnReady) ∧
    ((bridged swAlign).swState 0 = swAlign ∧ (bonded swDown {}).swState 0 = swDown ∧ ((bonded swDown {}).bridge 0).retry = false) := by
  decide +kernel

theorem test_witness_link_init :
    ((bridged swInit).live (domSB 0) = true ∧ (bridged swInit).swState 0 = swInit ∧
      ¬ ((0 : Word).getLsbD 26 = true ∧ (bridged swInit).fld F.SWP_DEVID_VALID = 1)) ∧
    (((bridged swInit).setFld F.SWP_DEVID_VALID 1).swState 0 = swInit ∧ (0x4000000 : Word).getLsbD 26 = true ∧
      ((bridged swInit).setFld F.SWP_DEVID_VALID 1).fld F.SWP_DEVID_VALID = 1 ∧
      ((0x4000000 : Word).extractLsb' 31 3).toNat = ((bridged swInit).setFld F.SWP_DEVID_VALID 1).fld F.SWP_CTRL_NL 0 ∧
      ((0x4000000 : Word).extractLsb' 34 1).toNat = ((bridged swInit).setFld F.SWP_DEVID_VALID 1).fld F.SWP_CTRL_ENC 0 ∧
      ((0x84000000 : Word).extractLsb' 31 3).toNat ≠ ((bridged swInit).setFld F.SWP_DEVID_VALID 1).fld F.SWP_CTRL_NL 0) := by
  decide +kernel

/-- A frame of one block with its check, and a bridge with link blocks to send and credits. -/
def goodFrame : Frame := { ({ blocks := [0] } : Frame) with crc := ({ blocks := [0] } : Frame).crcOf }
def sending : Bridge := { stream := Tab.set {} 0 [{}, {}] [], credits := Tab.set {} 0 2 0 }

theorem test_witness_frames :
    ((bridged swUp sending).live (domSB 0) = true ∧ (bridged swUp sending).swState 0 = swUp ∧
      2 ≤ (((bridged swUp sending).bridge 0).stream.get 0 []).length ∧ 2 ≤ ((bridged swUp sending).bridge 0).credits.get 0 0 ∧
      ((bridged swUp sending).bridge 0).replay.length < 2048 ∧
      ((bridged swUp sending).bridge 0).replay.foldl (fun acc f => acc + 32 * f.blocks.length) 0 + 32 * 2 ≤ 65536) ∧
    (goodFrame.crc = goodFrame.crcOf ∧ goodFrame.cls ≤ 2 ∧ goodFrame.enc = false ∧ (bridged swUp).flag F.SWP_CTRL_ENC 0 = false ∧
      goodFrame.seq = ((bridged swUp).bridge 0).rxSeq ∧ goodFrame.seq ≠ ((bridged swUp { rxSeq := 1 }).bridge 0).rxSeq ∧
      ((bridged swUp { rxSeq := 1 }).bridge 0).nakSent = false) ∧
    (((bridged swUp { replay := [{ seq := 4095 }, { seq := 0 }], replays := 6 }).bridge 0).replays + 1 < 8 ∧
      ((0x100 : Word).extractLsb' 8 12 : BitVec 12) = 0 + BitVec.ofNat 12 1 ∧ (0 : BitVec 12) = 4095 + BitVec.ofNat 12 1 ∧
      8 ≤ ((bridged swUp { replay := [{}], replays := 7 }).bridge 0).replays + 1 ∧
      ((bridged swUp { keyNext := true, keyMoved := true }).bridge 0).keyMoved = true) := by
  decide +kernel

/-- A packet in flight at router 0 that goes one hop east, and one that leaves at bridge 0. -/
def hopping (p : Packet) : State := { bridged swUp with flights := Tab.set {} 3 (some { pkt := p, router := 0 }) none }

theorem test_witness_hops :
    ((hopping { nh := 1, turn := 1 }).cstate = ckRun ∧ (hopping { nh := 1, turn := 1 }).portOpen 0 1 = true ∧ meshNext 0 1 = some 1) ∧
    ((hopping { exit := 6 }).portOpen 0 6 = true ∧ bridgeAt 0 = some 0 ∧ ({ exit := 6 } : Packet).isResponse = false ∧
      (hopping {}).domOn (domSB 0) = true ∧ (hopping {}).fenced (domSB 0) = false ∧
      (hopping {}).flag F.NOC_NI_ACCEPT (bridgeRouter 0) 6 = true ∧ (hopping {}).swState 0 = swUp) ∧
    (hopping { exit := 0 }).portOpen 0 0 = false ∧
    ((hopping { nh := 1, turn := 1 }).bulkYields 3 { pkt := { nh := 1, turn := 1 }, router := 0 } = false ∧
      (hopping { nh := 1, turn := 1 }).vcFull 3 1 1 { nh := 1, turn := 1 } = false ∧
      (hopping { rt := true, nh := 1, turn := 1 }).laneFull 3 1 1 { rt := true, nh := 1, turn := 1 } = false) ∧
    (hopping { exit := 6 }).bulkYields 3 { pkt := { exit := 6 }, router := 0 } = false ∧
    ((hopping { exit := 6 }).ni (8 * bridgeRouter 0 + 6)).held = [] := by
  decide +kernel

/-- The same with a packet before it in the next router's buffer. -/
def blocked (p : Packet) : State :=
  { hopping p with flights := (hopping p).flights.set 4 (some { pkt := { rt := p.rt, cmd := 2, len := 32, words := List.replicate 32 (0, false) }, router := 1, inp := 3 }) none }

theorem test_witness_waiting_packets :
    (blocked { rt := true, nh := 1, turn := 1 }).flights.get 3 none = some { pkt := { rt := true, nh := 1, turn := 1 }, router := 0 } ∧
    (blocked { rt := true, nh := 1, turn := 1 }).laneFull 3 1 1 { rt := true, nh := 1, turn := 1 } = true ∧
    (blocked { nh := 1, turn := 1 }).vcFull 3 1 1 { nh := 1, turn := 1 } = true := by
  decide +kernel

/-- Bridge 0 UP with a request received over its link. -/
def asked (p : Packet) : State := bridged swUp { reqs := [(p, 0)] }

theorem test_witness_link_requests :
    ((asked { ddev := 5 }).live (domSB 0) = true ∧ ((asked { ddev := 5 }).bridge 0).reqs = [({ ddev := 5 }, 0)] ∧
      (asked { ddev := 5 }).swState 0 = swUp ∧ (5 : Nat) ≠ (asked { ddev := 5 }).fld F.SWP_DEVID_ID ∧
      (asked { ddev := 5 }).flag F.SWP_CTRL_RELAY 0 = false) ∧
    (({ cmd := 1, addr := 0x001000000000 } : Packet).ddev = (asked {}).fld F.SWP_DEVID_ID ∧ (asked {}).freeCtx 0 = some 0 ∧
      (kindOf 1).isSome ∧ regionAt 0x001000000000 = some (.slice 0)) ∧
    ((2 ≤ ({ dhops := 2, hop := 0 } : Packet).dhops) ∧ ({ dhops := 2, hop := 0 } : Packet).hop.toNat % 16 = 0 ∧
      ((asked {}).setFld F.NOC_NI_RTMO 1 (bridgeRouter 0) 6).fld F.NOC_NI_RTMO (bridgeRouter 0) 6 ≠ 0) ∧
    ((asked { dhops := 2, hop := 0, rt := true }).setFld F.NOC_NI_RTTX 1 (bridgeRouter 0) 6).flag F.NOC_NI_RTTX (bridgeRouter 0) 6 = true ∧
    ((bridged swUp { rsps := [(0, {})], ctxs := Tab.set {} 0 (some (.link 0 0 1 none)) none }).bridge 0).ctxs.get 0 none =
      some (.link 0 0 1 none) := by
  decide +kernel

/-- Bridge 0 UP with an RT descriptor to issue for device 0: an inline write of one word. -/
def described : State :=
  ((bridged swUp).setReg .SWP_RTQ (BitVec.ofNat 64 (2 * 2 ^ 32 + 2 ^ 24 + 2 ^ 38 + 2 ^ 39)) 0 0 0).setFld F.SWP_RTHEAD_HEAD 1 0

theorem test_witness_descriptors :
    described.freeCtx 0 = some 0 ∧ (described.bridge 0).rtIssue ≠ described.fld F.SWP_RTHEAD_HEAD 0 ∧ described.descOut 0 true < 16 ∧
    (described.bridge 0).rtIssue < 16 ∧ ((described.reg .SWP_RTQ 0 0 0).extractLsb' 32 5).toNat = 2 ∧
    ((described.reg .SWP_RTQ 0 0 0).extractLsb' 24 7).toNat = 1 ∧ (described.reg .SWP_RTQ 0 0 0).getLsbD 38 = true ∧
    (described.reg .SWP_RTQ 0 0 0).getLsbD 39 = true ∧ fldOf F.SWP_DRT_V (described.drtLookup 0 0) = 0 ∧
    ((described.modBridge 0 (fun x => { x with rsps := [(0, { words := [(7, false)] })], ctxs := Tab.set {} 0 (some (.desc true 0 0)) none })).bridge 0).rtDone = [] ∧
    described.fld F.SWP_RTTAIL_TAIL 0 = 0 := by
  decide +kernel

/-- The bridge's route of device 0 starts at bridge 0. -/
def routed : State := described.setReg .SWP_DRT (putFld F.SWP_DRT_V 1 (putFld F.SWP_DRT_DHOPS 1 0)) 0 1024

theorem test_witness_routed_descriptor : fldOf F.SWP_DRT_V (routed.drtLookup 0 0) = 1 ∧ fldOf F.SWP_DRT_FIRST (routed.drtLookup 0 0) = 0 ∧
    (routed.setFld F.NOC_NI_RTTX 1 (bridgeRouter 0) 6).flag F.NOC_NI_RTTX (bridgeRouter 0) 6 = true ∧
    (routed.setFld F.NOC_NI_RTTX 0 (bridgeRouter 0) 6).flag F.NOC_NI_RTTX (bridgeRouter 0) 6 = false ∧
    (routed.bridge 0).rtIssue ≠ routed.fld F.SWP_RTHEAD_HEAD 0 := by
  decide +kernel

/-- An RT request of bridge 0 that waits for a token. -/
def bridgeWaiting : State :=
  { (bridged swUp).modNi (8 * bridgeRouter 0 + 6) (fun n => { n with rtq := [9] }) with
    xacts := Tab.set {} 9 (some { mid := bridgeMid 0, kind := .write, rt := true, addr := 0, len := 1, src := 8 * bridgeRouter 0 + 6,
                                  far := some (0, { rt := true }) }) none }

theorem test_witness_bridge_token : bridgeWaiting.live (domSB 0) = true ∧ bridgeWaiting.cstate = ckRun ∧ bridgeWaiting.swState 0 = swUp ∧
    (bridgeWaiting.ni (8 * bridgeRouter 0 + 6)).rtq = [9] ∧ 0 < bridgeWaiting.fld F.NOC_NISTAT_TOKENS (bridgeRouter 0) 6 := by
  decide +kernel

theorem test_witness_time_sync : ((bridged swUp).setFld F.SWP_CTRL_TIMEEN 1 0).live (domSB 0) = true ∧
    ((bridged swUp).setFld F.SWP_CTRL_TIMEEN 1 0).swState 0 = swUp ∧
    ((bridged swUp).setFld F.SWP_CTRL_TIMEEN 1 0).flag F.SWP_CTRL_TIMEEN 0 = true ∧
    ((bridged swUp).bridge 0).exch = 256 % 256 ∧ ((bridged swUp).bridge 0).nExch + 1 < 2 ^ ((bridged swUp).setFld F.TB_CTRL_NAVG 1).fld F.TB_CTRL_NAVG ∧
    2 ^ (bridged swUp).fld F.TB_CTRL_NAVG ≤ ((bridged swUp { nExch := 4095 }).bridge 0).nExch + 1 := by
  decide +kernel

theorem test_witness_time_base :
    base.ReachesReg 328 .SWP_QHEAD 0 true ∧ base.ReachesReg 328 .SWP_RTHEAD 0 true ∧
    (base.ReachesReg 328 .TB_STEP 0 true ∧ base.fld F.TB_CTRL_MODE = 0) ∧
    ((base.setFld F.TB_CTRL_MODE 2).ReachesReg 328 .TB_STEP 0 true ∧ (base.setFld F.TB_CTRL_MODE 2).fld F.TB_CTRL_MODE = 2 ∧
      (base.setFld F.TB_CTRL_MODE 2).cstate = ckRun ∧ (base.setFld F.TB_CTRL_MODE 2).flag F.TB_STATUS_HOLD = false) ∧
    (base.ReachesReg 328 .TB_TIME 0 false ∧ base.inspects 328 = false) ∧
    ((base.setFld F.TB_STATUS_PEND 1).cstate = ckRun ∧ (base.setFld F.TB_STATUS_PEND 1).flag F.TB_STATUS_PEND = true ∧
      (base.setFld F.TB_STATUS_PEND 1).noStream = true) :=
  ⟨reaches_of (by decide +kernel), reaches_of (by decide +kernel), ⟨reaches_of (by decide +kernel), by decide +kernel⟩,
    ⟨reaches_of (by decide +kernel), by decide +kernel⟩, ⟨reaches_of (by decide +kernel), by decide +kernel⟩, by decide +kernel⟩

/-! ### Witnesses: the error log and performance monitors -/

/-- An error record of class 1, on its way to a log whose read pointer is rp. -/
def rec1 : ErrRec := { kind := 1, inst := 2, cls := 1 }
def logging (rp : Nat) (recs : Tab (Option LogRec) := {}) (r : ErrRec := rec1) : State :=
  { base.setFld F.ERR_PTR_RP rp with err := { onWay := [r], recs := recs } }

theorem test_witness_error_records :
    ((logging 0).cstate = ckRun ∧ (logging 0).err.onWay = [rec1] ∧ ((logging 0).fld F.ERR_PTR_WP + 512 - (logging 0).fld F.ERR_PTR_RP) % 512 = 0) ∧
    (((logging 511 (Tab.set {} 511 (some ⟨rec1, 1, 0, 0⟩) none)).fld F.ERR_PTR_WP + 512 -
        (logging 511 (Tab.set {} 511 (some ⟨rec1, 1, 0, 0⟩) none)).fld F.ERR_PTR_RP) % 512 ≠ 0 ∧
      (logging 511 (Tab.set {} 511 (some ⟨rec1, 1, 0, 0⟩) none)).errRec ((0 + 511) % 512) = some ⟨rec1, 1, 0, 0⟩) ∧
    (480 ≤ ((logging 32).fld F.ERR_PTR_WP + 512 - (logging 32).fld F.ERR_PTR_RP) % 512 ∧ (logging 32).errRec 511 = none ∧
      511 ≤ ((logging 1 {} { rec1 with cls := 2 }).fld F.ERR_PTR_WP + 512 - (logging 1 {} { rec1 with cls := 2 }).fld F.ERR_PTR_RP) % 512) := by
  decide +kernel

theorem test_witness_monitors :
    base.ReachesReg 328 .ERR_PTR 0 true ∧
    (base.ReachesReg 328 .PMON_COMMIT 411 true ∧ (∀ j ∈ List.range 8, pmonEventGood 411 (base.sfld F.PMON_EVT_EVT 411 j) = true ∧
        base.sfld F.PMON_EVT_PORT 411 j = 0) ∧ base.sfld F.PMON_FMID_PRIV 411 ≠ 3 ∧ base.sfld F.PMON_FMID_CLASS 411 ≠ 3 ∧
      base.sfld F.PMON_FLO_ADDR 411 ≤ base.sfld F.PMON_FHI_ADDR 411) ∧
    ((base.setShadow .PMON_EVT (putFld F.PMON_EVT_EVT 7 0) 0 0).ReachesReg 328 .PMON_COMMIT 0 true ∧
      pmonEventGood 0 ((base.setShadow .PMON_EVT (putFld F.PMON_EVT_EVT 7 0) 0 0).sfld F.PMON_EVT_EVT 0 0) = false) ∧
    base.ReachesReg 328 .PMON_CTL 0 true ∧
    (((base.setFld F.PMON_WIN_WIN 8 0).setFld F.PMON_CTL_RUN 1 0).fld F.PMON_WIN_WIN 0 ≠ 0 ∧
      ((base.setFld F.PMON_WIN_WIN 8 0).setFld F.PMON_CTL_RUN 1 0).pmonCounts 0 = true) :=
  ⟨reaches_of (by decide +kernel), ⟨reaches_of (by decide +kernel), by decide +kernel⟩,
    ⟨reaches_of (by decide +kernel), by decide +kernel⟩, reaches_of (by decide +kernel), by decide +kernel⟩

theorem test_witness_global_commands :
    (base.ReachesReg 328 .DBG_PMCMD 0 true ∧ (base.reg .DBG_PMTIME).toNat < base.now + 4800) ∧
    ((base.setReg .DBG_PMTIME 4800).ReachesReg 328 .DBG_PMCMD 0 true ∧
      base.now + 4800 ≤ ((base.setReg .DBG_PMTIME 4800).reg .DBG_PMTIME).toNat) ∧
    (({ base with dbg := { cmds := Tab.set {} 0 [⟨2, 8⟩] [] } } : State).dbg.cmds.get 0 [] = [⟨2, 8⟩] ∧
      ({ base with dbg := { cmds := Tab.set {} 0 [⟨2, 8⟩] [] } } : State).pmonOn 0 = true) ∧
    (base.ReachesReg 328 .DBG_EWCOMMIT 0 true ∧ ∀ u ∈ List.range 16, base.sfld F.DBG_EWCFG_SRC 0 u < 4) ∧
    ((base.setShadow .DBG_EWCFG (putFld F.DBG_EWCFG_SRC 4 0) 0 15).ReachesReg 328 .DBG_EWCOMMIT 0 true ∧
      4 ≤ (base.setShadow .DBG_EWCFG (putFld F.DBG_EWCFG_SRC 4 0) 0 15).sfld F.DBG_EWCFG_SRC 0 15) :=
  ⟨⟨reaches_of (by decide +kernel), by decide +kernel⟩, ⟨reaches_of (by decide +kernel), by decide +kernel⟩, by decide +kernel,
    ⟨reaches_of (by decide +kernel), by decide +kernel⟩, reaches_of (by decide +kernel), by decide +kernel⟩

/-! ### Witnesses: Mbana -/

/-- Mbana as given. -/
def managed (m : Mbana) : State := { base with mb := m }

/-- A PING packet of a version from a transport, as bytes (R399), and as Mbana holds it. -/
def pingBytes (ver : Byte) (op : Byte) : List Byte :=
  let h : List Byte := [0x4D, 0x42, ver, 0, op, 1, 7, 0, 0, 0, 0, 0, 5, 0, 0, 0]
  h ++ leBytes 4 (crc32c h)
def pingPkt (via op : Nat) (params : List Byte := []) : MbPkt := { via := via, op := op, seq := 7, token := 5, params := params }

theorem test_witness_mbana_runs :
    ((managed { run := .firmware }).mb.run ≠ .off ∧ (managed { run := .firmware }).mb.run ≠ .safe ∧
      (managed { run := .firmware, portUp := true }).portAnswers = true ∧
      (managed { run := .booting }).mb.run = .booting ∧ base.portAnswers = false) := by
  decide +kernel

/-- The port's own addresses: its link-local address, and the IPv4 address of key 0x01 (R397). -/
theorem test_witness_addresses (s : State) : s.ownIp6 linkLocal = true := by
  simp [State.ownIp6]
theorem test_witness_ip4 :
    (managed { run := .firmware, portUp := true, settings := Tab.set {} 1 (some 0x0A000001) none }).ownIp4 0x0A000001 = true := by
  decide +kernel

theorem test_witness_packets :
    parsePacket 0 9 (pingBytes 1 0) = some (1, { pingPkt 0 0x100 with peer := 9 }) ∧ (0x100 : Nat) ∈ mbOpcodes ∧
    parsePacket 0 9 (pingBytes 2 0) = some (2, { pingPkt 0 0x100 with peer := 9 }) ∧
    parsePacket 1 0 (pingBytes 1 0) = some (1, pingPkt 1 0x100) ∧ (0x1FF : Nat) ∉ mbOpcodes ∧
    parsePacket 0 9 [] = none ∧
    ((managed { run := .firmware }).mb.queue.filter (fun q => q.via == 0)).length < 4 ∧
    ¬ ((managed { run := .firmware, queue := List.replicate 4 (pingPkt 0 0x100) }).mb.queue.filter (fun q => q.via == 0)).length < 4 := by
  decide +kernel

theorem test_witness_spi_and_mailbox :
    (({ managed { run := .firmware } with io := { spis := { en := true } } } : State).io.spis.en = true ∧
      ({ managed { run := .firmware } with io := { spis := { en := true } } } : State).mbServes = true ∧
      ¬ ((managed { run := .firmware, queue := List.replicate 4 (pingPkt 1 0x100) }).mb.queue.filter (fun q => q.via == 1)).length < 4) ∧
    ((managed { run := .booting }).ReachesReg 328 .MGT_MBCTL 0 true ∧ (managed { run := .booting }).mbServes = false ∧
      ¬ ((managed { run := .booting }).flag F.MGT_MBSTAT_PEND 0 = true ∨ (managed { run := .booting }).flag F.MGT_MBSTAT_BUSY 0 = true)) ∧
    ((managed { run := .firmware }).ReachesReg 328 .MGT_MBCTL 0 true ∧ (managed { run := .firmware }).mbServes = true ∧
      parsePacket (2 + 0) 0 ((managed { run := .firmware }).mboxPacket 0) = none) ∧
    (((managed { run := .firmware }).setMboxBytes 0 0 (pingBytes 1 0)).ReachesReg 328 .MGT_MBCTL 0 true ∧
      parsePacket (2 + 0) 0 (((managed { run := .firmware }).setMboxBytes 0 0 (pingBytes 1 0)).mboxPacket 0) = some (1, pingPkt 2 0x100)) ∧
    (((managed {}).setFld F.MGT_MBSTAT_PEND 1 0).ReachesReg 328 .MGT_MBCTL 0 true ∧
      ((managed {}).setFld F.MGT_MBSTAT_PEND 1 0).flag F.MGT_MBSTAT_PEND 0 = true) :=
  ⟨by decide +kernel, ⟨reaches_of (by decide +kernel), by decide +kernel⟩, ⟨reaches_of (by decide +kernel), by decide +kernel⟩,
    ⟨reaches_of (by decide +kernel), by decide +kernel⟩, reaches_of (by decide +kernel), by decide +kernel⟩

/-- Mbana's firmware with a packet at the front of its queue. -/
def fronted (p : MbPkt) (m : Mbana := {}) : State := managed { m with run := .firmware, queue := [p] }

/-- Every read command passes its checks. -/
theorem test_witness_fronts : ∀ op ∈ [0x100, 0x101, 0x106, 0x107, 0x200, 0x300, 0x302, 0x405, 0x503, 0x600, 0x701, 0x800, 0x801],
    (fronted (pingPkt 0 op)).Fronts (pingPkt 0 op) [] op := by
  unfold State.Fronts
  decide +kernel

theorem test_witness_refusals :
    ((fronted (pingPkt 0 0x100) { last := Tab.set {} 0 (some { via := 0, op := 0x100, seq := 7, token := 5, status := 0 }) none }).storedReply
      (pingPkt 0 0x100)).isSome ∧
    (fronted (pingPkt 0 0x803)).opAllowed (pingPkt 0 0x803) = false ∧
    (fronted (pingPkt 0 0x104) { owners := Tab.set {} 0 (some { token := 9 }) none }).owned (pingPkt 0 0x104) = false ∧
    (pingPkt 0 0x106 [1, 0]).params.length = 2 ∧ keyKnown ((pingPkt 0 0x106 [1, 0]).num 0 2) = true ∧
    (pingPkt 0 0x300 [63, 1]).num 0 1 + (pingPkt 0 0x300 [63, 1]).num 1 1 ≤ 64 ∧
    (pingPkt 0 0x302 [0, 0, 0, 0, 0, 0, 0, 0, 15]).num 8 1 ≤ 15 ∧ (pingPkt 0 0x600 [3]).num 0 1 < 4 := by
  decide +kernel

/-! ### Witnesses: commands of SYSTEM, CONFIG, SENSORS and UPDATE. A valid image in flash is that of test_witness_image_in_flash and
test_witness_signature; a debug signature and a firmware image, which
opaque constants of Config decide, have no witness of the good case. -/

/-- Mbana's firmware serves in s, and one packet of the operation waits. -/
def asking (s : State) (op : Nat) (params : List Byte) (via : Nat := 0) : State :=
  s.modMb (fun m => { m with run := .firmware, queue := [pingPkt via op params] })

/-- The packet passes the checks of R400 and R403. -/
def Asks (s : State) (op : Nat) (params : List Byte) (via : Nat := 0) : Prop :=
  (asking s op params via).Fronts (pingPkt via op params) [] op

/-- Parameter bytes of zeros. -/
def zeros (n : Nat) : List Byte := List.replicate n 0

/-- Every command of these families passes the checks with a token that owns a free resource. -/
theorem test_witness_commands_pass : ∀ x ∈ [(0x102, 8), (0x103, 1), (0x104, 4), (0x105, 16), (0x108, 2), (0x109, 1), (0x201, 16),
    (0x202, 8), (0x203, 8), (0x204, 0), (0x205, 0), (0x206, 16), (0x207, 8), (0x208, 0), (0x209, 5), (0x301, 12), (0x400, 4), (0x401, 4),
    (0x402, 0), (0x403, 0), (0x404, 1)], Asks base x.1 (zeros x.2) := by
  unfold Asks State.Fronts
  decide +kernel

theorem test_witness_linkkey_passes : Asks (base.setFld F.SBK_STATUS_READY 1) 0x10A (zeros 686) 10 ∧
    (zeros 686).length = 686 ∧ (base.setFld F.SBK_STATUS_READY 1).bankReady = true := by
  unfold Asks State.Fronts
  decide +kernel

theorem test_witness_command_events :
    (base.mb.cert.length ≤ 420 ∧ base.mb.keyNext + 1024 < 2 ^ 64) ∧
    (managed { owners := Tab.set {} 3 (some { token := 5, endAt := some 9 }) none }).mb.owners.get 3 none =
      some { token := 5, endAt := some 9 } ∧
    (({ slot := 1, len := 64 } : SlotWrite).erasing = true ∧ (managed { img := some { slot := 1, len := 64 } }).mb.img =
      some { slot := 1, len := 64 } ∧ (managed { fw := some { slot := 1, len := 64 } }).mb.fw = some { slot := 1, len := 64 }) ∧
    ((managed { run := .firmware, confirmBy := some 600 }).mbServes = true ∧
      (managed { run := .firmware, confirmBy := some 600 }).mb.confirmBy = some 600) := by
  decide +kernel

theorem test_witness_reset_and_set :
    (scopeDomain 2 5 = some (domCL 5) ∧ Asks base 0x104 [2, 0, 5, 0] ∧ (asking base 0x104 [2, 0, 5, 0]).opOn (domCL 5) = none ∧
      ((asking base 0x104 [2, 0, 5, 0]).taken (pingPkt 0 0x104 [2, 0, 5, 0]) []).offDenied (domCL 5) = false) ∧
    (Asks (withEng armed) 0x104 [2, 0, 0, 0] ∧ (asking (withEng armed) 0x104 [2, 0, 0, 0]).opOn (domCL 0) = none ∧
      ((asking (withEng armed) 0x104 [2, 0, 0, 0]).taken (pingPkt 0 0x104 [2, 0, 0, 0]) []).offDenied (domCL 0) = true) ∧
    (Asks base 0x105 (0x50 :: zeros 7 ++ 8 :: zeros 7) ∧ (pingPkt 0 0x105 (0x50 :: zeros 7 ++ 8 :: zeros 7)).num 0 2 = 0x50 ∧
      base.keyInRange 0x50 8 = true) := by
  unfold Asks State.Fronts
  decide +kernel

/-- Region 0 of the ICE in a state, with the secure bank ready. -/
def region (st : Nat) : State := (base.setFld F.SBK_STATUS_READY 1).setIceState 0 st

theorem test_witness_icekey :
    (∀ st ∈ [iceOff, iceReady], ∀ k ∈ [0, 1], Asks (region st) 0x108 [0, k] ∧ (asking (region st) 0x108 [0, k]).bankReady = true ∧
      ((asking (region st) 0x108 [0, k]).taken (pingPkt 0 0x108 [0, k]) []).iceState 0 = st ∧
      ((asking (region st) 0x108 [0, k]).taken (pingPkt 0 0x108 [0, k]) []).flag F.ICE_RSTAT_SPARE 0 0 = false) ∧
    (∀ st ∈ [iceReady, iceLocked], Asks (region st) 0x109 [0] ∧
      ((asking (region st) 0x109 [0]).taken (pingPkt 0 0x109 [0]) []).iceState 0 = st ∧ (asking (region st) 0x109 [0]).ice.before.get 0 0 < 8) := by
  unfold Asks State.Fronts
  decide +kernel

theorem test_witness_load :
    (∀ st ∈ [ldUser, ldFrames], Asks (base.setLd st) 0x201 (zeros 16) ∧ (asking (base.setLd st) 0x201 (zeros 16)).flag F.CFG_STATUS_BUSY = false ∧
      ((asking (base.setLd st) 0x201 (zeros 16)).taken (pingPkt 0 0x201 (zeros 16)) []).loaderOpen = (st == ldUser)) ∧
    (∀ st ∈ [ldUser, ldFrames], ∀ n ∈ [(0 : Byte), 64], Asks (base.setLd st) 0x202 (n :: zeros 7) ∧
      (pingPkt 0 0x202 (n :: zeros 7)).num 0 8 = n.toNat ∧ (asking (base.setLd st) 0x202 (n :: zeros 7)).mb.streamOpen = false ∧
      ((asking (base.setLd st) 0x202 (n :: zeros 7)).taken (pingPkt 0 0x202 (n :: zeros 7)) []).loaderOpen = (st == ldUser)) ∧
    (∀ st ∈ [ldUser, ldFailed, ldWaitImage], Asks (base.setLd st) 0x205 [] ∧
      ((asking (base.setLd st) 0x205 []).taken (pingPkt 0 0x205 []) []).ldState = st) := by
  unfold Asks State.Fronts
  decide +kernel

/-- A stream of 64 bytes is open, and the loader takes it or not. -/
def streaming (busy : Nat) : State :=
  { (managed { streamOpen := true, streamLen := 64 }).setFld F.CFG_STATUS_BUSY busy with loader := { src := { kind := 3 } } }

theorem test_witness_stream : ∀ busy ∈ [0, 1],
    (Asks (streaming busy) 0x203 (zeros 24) ∧ (asking (streaming busy) 0x203 (zeros 24)).mb.streamOpen = true ∧
      (asking (streaming busy) 0x203 (zeros 24)).mb.streamPos = (pingPkt 0 0x203 (zeros 24)).num 0 8 ∧
      (asking (streaming busy) 0x203 (zeros 24)).mb.streamLen = 64) ∧
    (Asks (streaming busy) 0x204 [] ∧ (asking (streaming busy) 0x204 []).mb.streamOpen = true ∧
      (asking (streaming busy) 0x204 []).loader.src.kind = 3 ∧
      ((asking (streaming busy) 0x204 []).taken (pingPkt 0 0x204 []) []).flag F.CFG_STATUS_BUSY = (busy == 1)) := by
  unfold Asks State.Fronts
  decide +kernel

/-- A write of 64 bytes into slot 1 that is under way, its bytes checked or not. -/
def openWrite (checked : Bool := false) : SlotWrite := { slot := 1, len := 64, erasing := false, checked := checked }

theorem test_witness_image_begin :
    (∀ a ∈ [(0 : Byte), 1, 2], ∀ n ∈ [(0 : Byte), 64], Asks base 0x206 (a :: zeros 7 ++ n :: zeros 7) ∧
      (pingPkt 0 0x206 (a :: zeros 7 ++ n :: zeros 7)).num 8 8 = n.toNat) ∧ erasing base.mb.img = false := by
  unfold Asks State.Fronts
  decide +kernel

theorem test_witness_active_slot :
    base.activeSlot = 0 ∧ base.fuses.lc = 0 ∧ ({ base with fuses := { lc := 2 } } : State).fuses.lc = 2 := by
  decide +kernel

theorem test_witness_write_data :
    (Asks (managed { img := some (openWrite) }) 0x207 (zeros 24) ∧ (pingPkt 0 0x207 (zeros 24)).num 0 8 = openWrite.pos ∧
      openWrite.pos + 16 ≤ openWrite.len) ∧
    (Asks (managed { fw := some (openWrite) }) 0x401 (zeros 24) ∧ (pingPkt 0 0x401 (zeros 24)).num 0 4 = openWrite.pos ∧
      openWrite.pos + 20 ≤ openWrite.len) := by
  unfold Asks State.Fronts
  decide +kernel

theorem test_witness_firmware_end : Asks (managed { fw := some (openWrite) }) 0x402 [] ∧ base.fwValid 1 = false := by
  unfold Asks State.Fronts
  decide +kernel

theorem test_witness_firmware_activate :
    Asks (managed { fw := some (openWrite true) }) 0x403 [] ∧ (openWrite true).checked = true ∧ (openWrite true).slot < 2 ∧
      (asking base 0x403 []).mb.fw = none := by
  unfold Asks State.Fronts
  decide +kernel

theorem test_witness_firmware_confirm :
    Asks base 0x404 [1] ∧ base.trialState = 0 ∧
    Asks (managed { settings := Tab.set {} 0x91 (some 2) none }) 0x404 [1] := by
  unfold Asks State.Fronts
  decide +kernel

theorem test_witness_trial_state : (managed { settings := Tab.set {} 0x91 (some 2) none }).trialState = 2 := by
  decide +kernel

theorem test_witness_setslot_and_thresh :
    (Asks base 0x209 [1, 2, 0, 0, 31] ∧ (pingPkt 0 0x209 [1, 2, 0, 0, 31]).num 4 1 < 32) ∧
    (Asks base 0x301 (39 :: zeros 11) ∧ base.critAllowed 39 0 = true) ∧ erasing base.mb.fw = false := by
  unfold Asks State.Fronts
  decide +kernel

/-- The flash of a part that nothing has written holds no image: IMGWRITE_END refuses it for its header. -/
theorem test_witness_image_end : Asks (managed { img := some (openWrite) }) 0x208 [] ∧
    base.headerGood (base.flashBytes (imgBase 1) 0x1000) true = false := by
  unfold Asks State.Fronts
  decide +kernel

/-! ### Witnesses: commands of METROLOGY, DEBUG, POWER and LIFECYCLE -/

/-- The state in which the waiting packet has been taken from the queue. -/
def takenOf (s : State) (op : Nat) (params : List Byte) : State := (asking s op params).taken (pingPkt 0 op params) []

theorem test_witness_more_commands_pass : ∀ x ∈ [(0x500, 1), (0x501, 0), (0x502, 2), (0x601, 134), (0x602, 1), (0x603, 0), (0x604, 8),
    (0x700, 4), (0x702, 4), (0x703, 3), (0x704, 2), (0x705, 8), (0x802, 640), (0x806, 133), (0x806, 1), (0x807, 0)],
    Asks base x.1 (zeros x.2) := by
  unfold Asks State.Fronts
  decide +kernel

/-- The commands that a life-cycle state allows. -/
theorem test_witness_lifecycle_commands_pass : ∀ x ∈ [(1, 0x803, 420), (1, 0x804, 133), (2, 0x805, 133)],
    Asks { base with fuses := { lc := x.1 } } x.2.1 (zeros x.2.2) := by
  unfold Asks State.Fronts
  decide +kernel

/-- The SMP's domain is off. -/
def smpOff : State := base.setReg .PWR_ON 0 0 7

theorem test_witness_smp_power :
    (base.opOn domSMP = none ∧ (takenOf base 0x500 [1]).domOn domSMP = true ∧ (takenOf base 0x500 [0]).offDenied domSMP = false ∧
      (asking base 0x501 []).smpOn = true) ∧
    ((withEng armed).opOn domSMP = none ∧ Asks (withEng armed) 0x500 [0] ∧ (takenOf (withEng armed) 0x500 [0]).domOn domSMP = true ∧
      (takenOf (withEng armed) 0x500 [0]).offDenied domSMP = true) ∧
    (smpOff.opOn domSMP = none ∧ Asks smpOff 0x500 [1] ∧ (takenOf smpOff 0x500 [1]).domOn domSMP = false) := by
  unfold Asks State.Fronts
  decide +kernel

/-- A request that Mbana relays stands in slot 0 of the SMP. -/
def relaying (done : Bool) : State :=
  ((managed { relay := some 0 }).modMbox 0 (fun _ => { owner := some 328, done := done }))

theorem test_witness_relay :
    (base.mb.relay = none ∧ ((takenOf base 0x502 (zeros 2)).smpClaim 328).1.getLsbD 63 = true) ∧
    (let full := base.forAll (List.range 16) (fun t i => t.modMbox i (fun _ => { owner := some 320 }));
      Asks full 0x502 (zeros 2) ∧ full.mb.relay = none ∧ ((takenOf full 0x502 (zeros 2)).smpClaim 328).1.getLsbD 63 = false) ∧
    (∀ done ∈ [false, true], Asks (relaying done) 0x502 (zeros 2) ∧ (asking (relaying done) 0x502 (zeros 2)).mb.relay = some 0 ∧
      (asking (relaying done) 0x502 (zeros 2)).smpOn = true ∧ ((asking (relaying done) 0x502 (zeros 2)).slot 0).owner = some 328 ∧
      ((asking (relaying done) 0x502 (zeros 2)).slot 0).done = done) := by
  unfold Asks State.Fronts
  decide +kernel

theorem test_witness_debug_commands :
    (base.mb.dbgNonce = none ∧ (pingPkt 0 0x601 (3 :: 2 :: zeros 132)).num 0 1 = 3 ∧ (pingPkt 0 0x601 (3 :: 2 :: zeros 132)).num 1 1 = 2) ∧
    ((takenOf base 0x602 [0]).flag F.DBG_STATUS_LOCKOUT = false ∧ base.fuses.passHash = none ∧ base.mb.passFails = 0 ∧
      Asks (base.setFld F.DBG_STATUS_LOCKOUT 1) 0x602 [0] ∧
      (takenOf (base.setFld F.DBG_STATUS_LOCKOUT 1) 0x602 [0]).flag F.DBG_STATUS_LOCKOUT = true ∧
      Asks (managed { passFails := 2 }) 0x602 [0] ∧ (asking (managed { passFails := 2 }) 0x602 [0]).mb.passFails = 2) ∧
    ((takenOf base 0x604 (zeros 8)).dbgLevel ≠ 0 ∧ Asks { base with fuses := { lc := 1 } } 0x604 (zeros 8) ∧
      (takenOf { base with fuses := { lc := 1 } } 0x604 (zeros 8)).dbgLevel = 0) := by
  unfold Asks State.Fronts
  decide +kernel

theorem test_witness_power_commands :
    (domExists (domCL 0) = true ∧ base.opOn (domCL 0) = none ∧ (pingPkt 0 0x700 [0, 1, 1, 0]).num 0 2 = domCL 0 ∧
      (takenOf base 0x700 [0, 1, 1, 0]).domOn (domCL 0) = true ∧ (takenOf base 0x700 [0, 1, 0, 0]).offDenied (domCL 0) = false) ∧
    (Asks (withEng armed) 0x700 [0, 1, 0, 0] ∧ (takenOf (withEng armed) 0x700 [0, 1, 0, 0]).domOn (domCL 0) = true ∧
      (takenOf (withEng armed) 0x700 [0, 1, 0, 0]).offDenied (domCL 0) = true) ∧
    (Asks clustersOff 0x700 [0, 1, 1, 0] ∧ (takenOf clustersOff 0x700 [0, 1, 1, 0]).domOn (domCL 0) = false ∧
      clustersOff.opOn (domCL 0) = none) := by
  unfold Asks State.Fronts
  decide +kernel

theorem test_witness_clock_rate_and_trim :
    ((pingPkt 0 0x702 [0, 0, 8, 0]).num 2 2 = 8 ∧ ∀ g : Fin 32, 8 ≤ (asking base 0x702 [0, 0, 8, 0]).sfld F.CLK_GLOBAL_N 0 g ∧
      (asking base 0x702 [0, 0, 8, 0]).sfld F.CLK_GLOBAL_N 0 g ≤ 4096) ∧
    (∀ st ∈ [dmcFill, dmcTransition, dmcReady], Asks (base.setDmcState 0 st) 0x703 [1, 0, 2] ∧
      (asking (base.setDmcState 0 st) 0x703 [1, 0, 2]).dmcState 0 = st) ∧
    ((pingPkt 0 0x703 [1, 0, 2]).num 0 2 = 1 ∧ (pingPkt 0 0x704 [0x84, 3]).num 0 2 = 900) := by
  unfold Asks State.Fronts
  decide +kernel

theorem test_witness_sleep :
    (asking base 0x705 (zeros 8)).sleepDenied = false ∧ Asks (withEng armed) 0x705 (zeros 8) ∧
      (asking (withEng armed) 0x705 (zeros 8)).sleepDenied = true := by
  unfold Asks State.Fronts
  decide +kernel

/-- PROVISION burns what is not zero into blank fuses, and refuses a fuse that is burned. -/
theorem test_witness_provision :
    (∀ i : Fin 4, base.fuses.cfgKeys.get i none = none ∧ base.fuses.dbgKeys.get i none = none) ∧
    base.fuses.passHash = none ∧ base.fuses.fwKey = none ∧
    (let burned : State := { base with fuses := { passHash := some 7 } };
      Asks burned 0x802 (zeros 512 ++ 1 :: zeros 127) ∧ burned.fuses.passHash ≠ none ∧
      BitVec.ofNat 512 (beNat ((pingPkt 0 0x802 (zeros 512 ++ 1 :: zeros 127)).sub (64 * 8) 64)) ≠ 0) := by
  unfold Asks State.Fronts
  decide +kernel

theorem test_witness_lifecycle :
    (takenOf { base with fuses := { lc := 1 } } 0x803 (zeros 420)).certGood (zeros 420) = false ∧ base.mb.lcNonce = none ∧
    (asking base 0x807 []).tamperActive = 0 ∧
    (let s := managed { tamperOn := 1, settings := Tab.set {} 0x70 (some 1) none };
      Asks s 0x807 [] ∧ (asking s 0x807 []).tamperActive ≠ 0) := by
  unfold Asks State.Fronts
  decide +kernel

/-! ### Witnesses: sensors, tamper and the policies -/

/-- Mbana's firmware serves, with its other fields as given. -/
def serving (m : Mbana := {}) : State := managed { m with run := .firmware }

theorem test_witness_sensors :
    ((serving).mbServes = true ∧ (serving).beyond 3 1521 ((serving).threshold 3 false) = true ∧
      (serving).beyond 3 1520 ((serving).threshold 3 false) = false ∧
      ({ serving with temps := Tab.set {} 3 1601 0 } : State).beyond 3
        (({ serving with temps := Tab.set {} 3 1601 0 } : State).temps.get 3 0) ((serving).threshold 3 true) = true) ∧
    ((∃ n : Fin 40, 1760 ≤ ({ base with temps := Tab.set {} 3 1760 0 } : State).temps.get n 0) ∧ base.cstate = ckRun ∧
      (base.setFld F.CLK_STATUS_OSCRDY 1).flag F.CLK_STATUS_OSCRDY = true ∧ (base.setFld F.CLK_STATUS_OSCRDY 1).cstate = ckRun ∧
      base.flag F.CLK_STATUS_OSCRDY = false ∧ ∀ n : Fin 40, base.temps.get n 0 < 1760) := by
  decide +kernel

/-- A record has been logged while the secure bank is ready. -/
def logged : State := ((serving).setFld F.SBK_STATUS_READY 1).logEvent 0x03 1 2

theorem test_witness_log_flush : logged.mbServes = true ∧ (wordsBytes logged.cached.flatten).length ≤ ringSize ∧ logged.cached ≠ [] := by
  decide +kernel

theorem test_witness_tamper :
    let s := managed { settings := Tab.set {} 0x70 (some 1) none };
    ~~~ ((0 : BitVec 4) ^^^ BitVec.ofNat 4 (base.setting 0x71)) &&& BitVec.ofNat 4 (base.setting 0x70) = 0 ∧
    (~~~ ((0 : BitVec 4) ^^^ BitVec.ofNat 4 (s.setting 0x71)) &&& BitVec.ofNat 4 (s.setting 0x70)) &&& ~~~ s.mb.tamperOn ≠ 0 ∧
    s.cstate ≠ ckWait ∧ s.flag F.SBK_STATUS_WIPING = false ∧ (s.setFld F.CLK_STATUS_CSTATE ckWait).cstate = ckWait ∧
    (s.setFld F.CLK_STATUS_CSTATE ckWait).setting 0x70 = 1 := by
  decide +kernel

theorem test_witness_link_epoch :
    let s := ((serving).setFld F.SWP_STATUS_STATE swUp 0).setFld F.SBK_STATUS_READY 1;
    s.mbServes = true ∧ s.swState 0 = swUp ∧ s.bankReady = true ∧ s.halfGood [] = false := by
  decide +kernel

/-- Cluster 0 was calibrated 100 °C away from its present temperature. -/
def drifted : State := { (serving).setFld F.SMP_STATUS_STATE smpReady with smp := { tcal := Tab.set {} 0 (some 1600) none } }

theorem test_witness_drift_policy :
    drifted.mbServes = true ∧ drifted.smpOn = true ∧ drifted.smpState = smpReady ∧ drifted.smp.cals = [] ∧ drifted.mb.owners.get 4 none = none ∧
    ((List.range 64).filter (fun c => [0].contains c && drifted.domOn (domCL c) && !(drifted.clusterBusy c) &&
      (List.range 4).all (fun j => !(drifted.gangActive (4 * c + j))) && drifted.driftDue c)).take 8 ≠ [] ∧ (serving).smpState ≠ smpReady := by
  decide +kernel

/-- Channel 0 is ready, and 100 °C away from the temperature of its last training. -/
def warmed : State := { (serving).setDmcState 0 dmcReady with temps := Tab.set {} 16 1600 0 }

theorem test_witness_retraining_policy :
    (let s := (serving).setDmcState 0 dmcReady;
      s.mbServes = true ∧ s.dmcState 0 = dmcReady ∧ ¬ ((s.setting 0x20 : Int) ≤ ((s.temps.get 16 0 - s.mb.trainTemp.get 0 0).natAbs : Int)) ∧
      (s.setting 0x21 = 0 ∨ s.rtc < s.mb.trainedAt.get 0 0 + s.setting 0x21)) ∧
    (warmed.mbServes = true ∧ warmed.dmcState 0 = dmcReady ∧
      (warmed.setting 0x20 : Int) ≤ ((warmed.temps.get 16 0 - warmed.mb.trainTemp.get 0 0).natAbs : Int) ∧
      (∀ e : Fin 256, warmed.streaming e = false) ∧ (∀ j : Fin 12, warmed.dmcState j ≠ dmcTransition)) ∧
    ((warmed.setEng 5 { mode := .stream }).dmcState 0 = dmcReady ∧ (warmed.setEng 5 { mode := .stream }).streaming 5 = true ∧
      (warmed.setEng 5 { mode := .stream }).mb.deferAt.get 0 0 = 0 ∧ (warmed.setEng 5 { mode := .stream }).temps.get 16 0 = 1600) := by
  decide +kernel

theorem test_witness_scrub_rate_policy :
    ((serving).setFld F.CFG_STATUS_STATE 8).mbServes = true ∧ ((serving).setFld F.CFG_STATUS_STATE 8).userMode = true := by
  decide +kernel

/-- The core supply has been low for ten readings, and its trim is enabled. -/
def lowSupply : State :=
  { (serving { settings := Tab.set {} 0x40 (some 1) none, lowRuns := 10 }) with time := 70000000 }

theorem test_witness_supply_policy :
    lowSupply.mbServes = true ∧ lowSupply.setting 0x40 ≠ 0 ∧ lowSupply.mb.trimOff = false ∧ 10 ≤ lowSupply.mb.lowRuns ∧
    lowSupply.mb.trimAt + 64000000 ≤ lowSupply.now ∧ (∀ e : Fin 256, lowSupply.streaming e = false) ∧ 900 ≤ lowSupply.mb.vcore + 2 ∧
    lowSupply.mb.vcore + 2 ≤ 940 ∧ (serving).mb.lowRuns = 0 ∧ (serving).mb.highRuns = 0 := by
  decide +kernel

/-- Channel 0 with corrections in its patrol window, at an RTC second. -/
def patrolled (ce rtc : Nat) : State := { (serving).setFld F.DMC_CNT_CE ce 0 with rtc := rtc }

theorem test_witness_patrol_policy :
    (let s := patrolled 65535 3600;
      s.mbServes = true ∧ s.domOn (domDM 0) = true ∧ 0 < s.setting 0x51 ∧ s.setting 0x51 ≤ s.fld F.DMC_CNT_CE 0 - s.mb.patrolCe.get 0 0 ∧
      s.rtc - s.mb.patrolAt.get 0 0 ≤ 3600 ∧ s.mb.patrolChg.get 0 0 = 0) ∧
    (let s := patrolled 0 86400;
      s.domOn (domDM 0) = true ∧ s.fld F.DMC_CNT_CE 0 - s.mb.patrolCe.get 0 0 = 0 ∧ 86400 ≤ s.rtc - s.mb.patrolAt.get 0 0) ∧
    (∀ t ∈ [3599, 3600], let s := patrolled 1 t;
      s.domOn (domDM 0) = true ∧ s.fld F.DMC_CNT_CE 0 - s.mb.patrolCe.get 0 0 = 1 ∧ 1 < s.setting 0x51 ∧
      s.rtc - s.mb.patrolAt.get 0 0 = t) := by
  decide +kernel

theorem test_witness_retirement_policy :
    let r : LogRec := { body := { kind := 2, inst := 3, loc := 4, cls := 0x02 }, count := 200, time := 0, seq := 0 };
    let s : State := { serving with err := { recs := Tab.set {} 0 (some r) none } };
    (serving).mbServes = true ∧ (serving).eventsAt 2 3 4 true < (serving).setting 0x61 ∧ (serving).eventsAt 2 3 4 false < (serving).setting 0x62 ∧
    s.mbServes = true ∧ s.setting 0x61 ≤ s.eventsAt 2 3 4 true := by
  decide +kernel

theorem test_witness_lockdown_and_wipe_policies :
    (({ serving with ice := { lockIrq := Tab.set {} 0 true false } } : State).ice.lockIrq.get 0 false = true ∧
      ({ serving with ice := { lockIrq := Tab.set {} 0 true false } } : State).mbServes = true) ∧
    (let s := (((serving { wipeSeen := true }).setFld F.SBK_STATUS_READY 1).setFld F.ICE_RCFG_EN 1 0 0).setIceState 0 iceKeywait;
      s.mbServes = true ∧ s.mb.wipeSeen = true ∧ s.bankReady = true ∧ s.flag F.ICE_RCFG_EN 0 0 = true ∧ s.iceState 0 = iceKeywait ∧
      s.flag F.ICE_RCFG_EN 0 1 = false) := by
  decide +kernel

/-! ### Witnesses: clocks, domains and resets -/

/-- The clocks stand in a state, the power unit as given. -/
def clocked (st : Nat) (p : Power := {}) : State := { base.setFld F.CLK_STATUS_CSTATE st with pwr := p }

theorem test_witness_oscillator_and_lock :
    (base.cstate ≠ ckWait ∧ base.pwr.tamperLatch = 0) ∧ (clocked ckWait).cstate = ckWait ∧ (clocked ckWait { tamperLatch := 1 }).pwr.tamperLatch ≠ 0 ∧
    ((clocked ckBoot).cstate = ckBoot ∧ (clocked ckBoot).pwr.asleep = false ∧ (clocked ckBoot).flag F.SBK_STATUS_WIPING = false ∧
      (clocked ckBoot { asleep := true }).cstate = ckBoot ∧ (clocked ckBoot { asleep := true }).pwr.asleep = true) ∧
    ((clocked ckStopped).cstate = ckStopped ∧ (clocked ckStopped).pwr.thermal = false ∧ (clocked ckStopped).pwr.stopCause < 256) ∧
    ((clocked ckStopped { thermal := true }).cstate = ckStopped ∧ (clocked ckStopped { thermal := true }).pwr.thermal = true ∧
      (∀ n : Fin 40, (clocked ckStopped { thermal := true }).temps.get n 0 < 1440) ∧
      1440 ≤ ({ clocked ckStopped { thermal := true } with temps := Tab.set {} 39 1440 0 } : State).temps.get 39 0) ∧
    ¬ (base.cstate = ckStopped ∧ base.pwr.thermal = true) ∧
    (base.cstate = ckRun ∧ base.flag F.CLK_STATUS_OSCRDY = false ∧ (base.setFld F.CLK_STATUS_OSCRDY 1).cstate = ckRun ∧
      (base.setFld F.CLK_STATUS_OSCRDY 1).flag F.CLK_STATUS_OSCRDY = true) := by
  decide +kernel

theorem test_witness_reset_requests :
    (base.ReachesReg 328 .RST_CTRL 0 true ∧ base.flag F.RST_STATUS_BUSY = false ∧ scopeDomain 0 0 = none ∧ scopeDomain 9 0 = none ∧
      scopeDomain 2 0 = some (domCL 0) ∧ base.opOn (domCL 0) = none ∧ base.offDenied (domCL 0) = false) ∧
    ((withEng armed).ReachesReg 328 .RST_CTRL 0 true ∧ (withEng armed).flag F.RST_STATUS_BUSY = false ∧ (withEng armed).opOn (domCL 0) = none ∧
      (withEng armed).offDenied (domCL 0) = true) ∧
    ((base.setFld F.RST_STATUS_BUSY 1).ReachesReg 328 .RST_CTRL 0 true ∧ (base.setFld F.RST_STATUS_BUSY 1).flag F.RST_STATUS_BUSY = true) :=
  ⟨⟨reaches_of (by decide +kernel), by decide +kernel⟩, ⟨reaches_of (by decide +kernel), by decide +kernel⟩,
    reaches_of (by decide +kernel), by decide +kernel⟩

theorem test_witness_power_requests :
    (base.ReachesReg 328 .PWR_REQ 0 true ∧ base.flag F.PWR_STATUS_BUSY = false ∧ base.opOn (domCL 0) = none ∧ domExists 0x140 = false ∧
      base.opOn 0x140 = none ∧ domExists (domCL 0) = true ∧ (base.setFld F.PWR_STATUS_DOMAIN (domCL 0)).domOn (domCL 0) = true ∧
      (base.setFld F.PWR_STATUS_DOMAIN (domCL 0)).offDenied (domCL 0) = false) ∧
    ((withEng armed).ReachesReg 328 .PWR_REQ 0 true ∧ (withEng armed).flag F.PWR_STATUS_BUSY = false ∧ (withEng armed).opOn (domCL 0) = none ∧
      ((withEng armed).setFld F.PWR_STATUS_DOMAIN (domCL 0)).domOn (domCL 0) = true ∧
      ((withEng armed).setFld F.PWR_STATUS_DOMAIN (domCL 0)).offDenied (domCL 0) = true) ∧
    (clustersOff.ReachesReg 328 .PWR_REQ 0 true ∧ clustersOff.flag F.PWR_STATUS_BUSY = false ∧ clustersOff.opOn (domCL 0) = none ∧
      (clustersOff.setFld F.PWR_STATUS_DOMAIN (domCL 0)).domOn (domCL 0) = false) ∧
    ((base.setFld F.PWR_STATUS_BUSY 1).ReachesReg 328 .PWR_REQ 0 true ∧ (base.setFld F.PWR_STATUS_BUSY 1).flag F.PWR_STATUS_BUSY = true) :=
  ⟨⟨reaches_of (by decide +kernel), by decide +kernel⟩, ⟨reaches_of (by decide +kernel), by decide +kernel⟩,
    ⟨reaches_of (by decide +kernel), by decide +kernel⟩, reaches_of (by decide +kernel), by decide +kernel⟩

/-- An operation of cluster 0's domain runs. -/
def operating (k : PwrKind) (ask : PwrAsk := .own) : State := { base with pwr := { ops := [{ dom := domCL 0, kind := k, ask := ask }] } }

theorem test_witness_domain_operations :
    domExists (domCL 0) = true ∧ (∀ k ∈ [PwrKind.on, .off, .reset], (operating k).opOn (domCL 0) = some { dom := domCL 0, kind := k } ∧
      (operating k).cstate = ckRun ∧ (k ≠ .on → (operating k).drained (domCL 0) = true)) ∧
    (operating .on).switchTurn (domCL 0) = true ∧ (operating .on .reg).opOn (domCL 0) = some { dom := domCL 0, kind := .on, ask := .reg } ∧
    (operating .reset .rst).opOn (domCL 0) = some { dom := domCL 0, kind := .reset, ask := .rst } ∧
    (operating .off (.cmd { via := 0, op := 0x700, seq := 7, token := 5, status := 0 })).opOn (domCL 0) =
      some { dom := domCL 0, kind := .off, ask := .cmd { via := 0, op := 0x700, seq := 7, token := 5, status := 0 } } := by
  decide +kernel

/-- A transaction of the domain's network interface is outstanding: its domain does not drain. -/
theorem test_witness_not_drained :
    ({ operating .off with nis := Tab.set {} ((domNis (domCL 0)).headD 0) { outst := 1 } {} } : State).drained (domCL 0) = false := by
  decide +kernel

theorem test_witness_clk_commit :
    (base.ReachesReg 328 .CLK_COMMIT 0 true ∧ ∀ g : Fin 32, 8 ≤ base.sfld F.CLK_GLOBAL_N 0 g ∧ base.sfld F.CLK_GLOBAL_N 0 g ≤ 4096) ∧
    ((base.setShadow .CLK_GLOBAL 0 0 0).ReachesReg 328 .CLK_COMMIT 0 true ∧ (base.setShadow .CLK_GLOBAL 0 0 0).sfld F.CLK_GLOBAL_N 0 0 < 8) :=
  ⟨⟨reaches_of (by decide +kernel), by decide +kernel⟩, reaches_of (by decide +kernel), by decide +kernel⟩

theorem test_witness_wake :
    ((clocked ckSleep).cstate = ckSleep ∧ (clocked ckSleep).mb.wakeMask.getLsbD 0 = false ∧
      ({ clocked ckSleep with mb := { wakeMask := 1 }, io := { rtcAlarm := 5 } } : State).cstate = ckSleep ∧
      ({ clocked ckSleep with mb := { wakeMask := 1 }, io := { rtcAlarm := 5 } } : State).mb.wakeMask.getLsbD 0 = true ∧
      ({ clocked ckSleep with mb := { wakeMask := 1 }, io := { rtcAlarm := 5 } } : State).io.rtcAlarm ≠ 0 ∧
      ((clocked ckSleep).setFld F.LCS_STATUS_TAMPERED 1).flag F.LCS_STATUS_TAMPERED = true) := by
  decide +kernel

/-- Sleep is over and every channel is ready; sector 2 had its configuration from a place. -/
def woken (kind : Nat) : State :=
  (({ base with pwr := { asleep := true } } : State).forAll (List.range 12) (fun t k => t.setDmcState k dmcReady)).modSector 2
    (fun c => { c with src := { kind := kind } })

theorem test_witness_wake_restore :
    (∀ kind ∈ [0, 3], (woken kind).pwr.asleep = true ∧ (woken kind).cstate = ckRun ∧ (∀ k : Fin 12, (woken kind).dmcState k = dmcReady) ∧
      (woken kind).sectorOn 2 = true ∧ ((woken kind).sector 2).src.kind = kind) ∧
    (List.range 64).filter (fun x => ((woken 0).sector x).src.kind != 0) = [] ∧
    (List.range 64).filter (fun x => ((woken 3).sector x).src.kind != 0) = [2] ∧ base.pwr.asleep = false := by
  decide +kernel

/-! ### Witnesses: pins and peripherals -/

/-- A peripheral that alone is enabled has a pin, and none is enabled under 0. -/
theorem test_witness_pin_owners :
    (∃ j : Fin 12, ∃ p : Fin 64, p.val ∈ pmxPins j ∧ ∀ i : Fin 12, i.val < j.val → (2 ^ j.val).testBit i = false) ∧
    (∀ j : Fin 12, (0 : Nat).testBit j = false) := by
  decide +kernel

/-- A core may write the block of PMX_EN as far as the rights go. -/
theorem test_witness_pmx_en : base.ReachesReg 328 .PMX_EN 0 true ∧ ∃ mid : MasterId, mid ≠ 328 ∧ base.ReachesReg mid .PMX_EN 0 true :=
  ⟨reaches_of (by decide +kernel), 320, by decide +kernel, reaches_of (by decide +kernel)⟩

/-- The first write of the lock sequence was at a TIME. -/
def locking (t now : Nat) : State := { base with io := { lockAt := some t }, time := BitVec.ofNat 64 now }

theorem test_witness_gpio_lock :
    base.ReachesReg 328 .GPIO_LOCK 0 true ∧ base.io.lockAt = none ∧ (locking 5 1029).ReachesReg 328 .GPIO_LOCK 0 true ∧
      (locking 5 1029).io.lockAt = some 5 ∧ (locking 5 1029).now = 1029 ∧ (locking 5 1030).now = 1030 :=
  ⟨reaches_of (by decide +kernel), by decide +kernel, reaches_of (by decide +kernel), by decide +kernel⟩

/-- The pattern match looks at pin 0 for a level or an edge. -/
def matching (mode : Nat) : State :=
  ((base.setReg .GPIO_PMMASK 1).setReg .GPIO_PMVAL 1).setFld F.GPIO_PMCTL_EN 1 |>.setFld F.GPIO_PMCTL_MODE mode

theorem test_witness_pattern_match :
    ((matching 0).reg .GPIO_PMMASK ≠ 0 ∧ (matching 0).padValue 1 &&& (matching 0).reg .GPIO_PMMASK = (matching 0).reg .GPIO_PMVAL &&& (matching 0).reg .GPIO_PMMASK ∧
      (matching 0).flag F.GPIO_PMCTL_EN = true ∧ (matching 0).flag F.GPIO_PMCTL_MODE = false ∧ (matching 0).io.matched = false ∧
      (matching 1).flag F.GPIO_PMCTL_MODE = true) ∧
    ((matching 0).padValue 0 &&& 1 ≠ (matching 0).reg .GPIO_PMVAL &&& 1 ∧ base.flag F.GPIO_PMCTL_EN = false ∧
      ({ matching 0 with io := { matched := true } } : State).io.matched = true) := by
  decide +kernel

theorem test_witness_rtc_alarm :
    ({ base with io := { rtcAlarm := 9 } } : State).io.rtcAlarm ≠ 0 ∧ base.rtc ≤ ({ base with io := { rtcAlarm := 9 } } : State).io.rtcAlarm := by
  decide +kernel

theorem test_witness_peripherals :
    base.cstate = ckRun ∧ (base.timer 0).ctl.getLsbD 0 = false ∧ ((base.modTimer 0 (fun y => { y with ctl := 1 })).timer 0).ctl.getLsbD 0 = true ∧
    countOnes ((base.setReg .PMX_TCAP 4 0 0).reg .PMX_TCAP 0 0) = 1 ∧ countOnes (base.reg .PMX_TCAP 0 0) ≠ 1 ∧
    (base.spim 0).busy = false ∧ ((base.modSpim 0 (fun y => { y with busy := true })).spim 0).busy = true ∧
    (base.i2c 0).busy = false ∧ ((base.modI2c 0 (fun y => { y with busy := true })).i2c 0).busy = true ∧
    (let cmd : BitVec 25 := 0x1000100; cmd.getLsbD 24 = true ∧ ¬ (cmd.extractLsb' 8 8 = 0 ∧ cmd.extractLsb' 16 8 = 0)) ∧
    (base.uart 0).tx.length < 64 ∧ 64 ≤ ((base.modUart 0 (fun y => { y with tx := List.replicate 64 0 })).uart 0).tx.length := by
  decide +kernel

/-- Pins 18 and 29 belong to the first I2C controller and the first UART. -/
def pinsGiven : State :=
  ((base.setFld (ownField 18) 2 0 (18 / 16)).setFld (ownField 29) 6 0 (29 / 16)).modUart 0 (fun y => { y with cfg := 1 })

theorem test_witness_given_pins : pinsGiven.cstate = ckRun ∧ pinsGiven.pinOwner (18 + 3 * 0) = 2 + 0 ∧
    pinsGiven.pinOwner (29 + 2 * 0) = 6 + 0 ∧ (pinsGiven.uart 0).cfg.extractLsb' 0 16 ≠ 0 ∧ base.pinOwner 18 ≠ 2 := by
  decide +kernel

/-! ### Witnesses: cores, interrupts and watchdogs -/

/-- The device is in user mode, Mbana's firmware runs, and the flash is blank. -/
def hosting : State := { userMode with mb := { run := .firmware } }

theorem test_witness_host_boot : hosting.cstate = ckRun ∧ hosting.userMode = true ∧ hosting.mb.run = .firmware ∧
    hosting.hostHeaderGood (hosting.flashBytes hostBase 512) = false := by
  decide +kernel

/-- The first 128 bytes of a host boot header (R461): a body of four bytes for address 0; HASH is that of the body 13 00 00 00. -/
def hostFields : List Byte := wordsBytes
  [0x4348424F00010000, 4, 0, 0, 0, 1, 0, 0, 0xDD40EE5C68681988, 0x4F2B36A9C7A1AD3C, 0x92CC7515A968BCF3, 0xEE2CAB3AC2301751,
   0x4E9A8E15EED8CC03, 0x3FF4FF6198860DF3, 0x62A1DD5E4C7B25FA, 0x28B6CC03E4E58558]

/-- A key whose signature over the fields' SHA-512 e is (e, e), as headKey's. -/
def hostKey : BitVec 1056 := joinHalves
  0x13A40C905A9269361D0B158BC5ECBAF3A1E77E1C684286A36873468747FD62D692B21D4682C45FDCC2094D3DF2B82A71108799A587E89135AFBB42AB3CD662B81E7
  0x11E2C56350B46369105028F0B20BB41C2C02653B37CDCF3C83011B794DD28999BB09D8197A3C5D1AFC2A1295765F3715A7A4136090FA38F7E07833846B4B0CA54E4

def hostHead : List Byte :=
  hostFields ++ (beBytes 132 hostKey ++ (beBytes 66 (sha512 hostFields) ++ (beBytes 66 (sha512 hostFields) ++ List.replicate 120 0)))

theorem test_witness_host_header : hostHead.length = 512 ∧ (hosting.setFld F.DMC_ILV_CAP 1).hostHeaderGood hostHead = true ∧
    (hdrWord hostHead 8).toNat = 4 ∧
    sha512 [0x13, 0, 0, 0] = BitVec.ofNat 512 (beNat ((hostHead.drop 0x40).take 64)) := by
  decide +kernel

/-- The same part with that image in flash and DRAM of 12 GiB. -/
def imagedHost : State := ((hosting.setFld F.DMC_ILV_CAP 1).setFlash (hostBase + 512) [0x13, 0, 0, 0]).setFlash hostBase hostHead

/-- A good boot image: the premises of the copy. -/
theorem test_witness_host_image : imagedHost.cstate = ckRun ∧ imagedHost.userMode = true ∧ imagedHost.mb.run = .firmware ∧
    imagedHost.hostHeaderGood (imagedHost.flashBytes hostBase 512) = true ∧
    sha512 (imagedHost.flashBytes (hostBase + 512) (hdrWord (imagedHost.flashBytes hostBase 512) 8).toNat) =
      BitVec.ofNat 512 (beNat (((imagedHost.flashBytes hostBase 512).drop 0x40).take 64)) := by
  obtain ⟨hl, hg, hn, hs⟩ := test_witness_host_header
  have hh : imagedHost.flashBytes hostBase 512 = hostHead := by
    have h := ((hosting.setFld F.DMC_ILV_CAP 1).setFlash (hostBase + 512) [0x13, 0, 0, 0]).flashBytes_setFlash hostBase hostHead
    rwa [hl] at h
  have hb : imagedHost.flashBytes (hostBase + 512) 4 = [0x13, 0, 0, 0] := by
    have h := (hosting.setFld F.DMC_ILV_CAP 1).flashBytes_setFlash (hostBase + 512) [0x13, 0, 0, 0]
    rw [← h]
    refine List.map_congr_left (fun i hi => ?_)
    rw [imagedHost, State.flashByte_setFlash, hl, if_neg (by omega)]
  refine ⟨by decide +kernel, by decide +kernel, rfl, ?_, ?_⟩
  · have hk (u : State) (a : Nat) (bs h : List Byte) : (u.setFlash a bs).hostHeaderGood h = u.hostHeaderGood h := rfl
    rw [hh, imagedHost, hk, hk]
    exact hg
  · rw [hh, hn, hb]; exact hs

theorem test_witness_core_run : base.ReachesReg 328 .SYS_CORE_RUN 0 true ∧ base.ReachesReg 328 .SYS_IRQPOST 0 true ∧
    (0 : BitVec 10).toNat < 768 ∧ 768 ≤ (1023 : BitVec 10).toNat ∧ (base.fld F.SYS_CORE_RUN_RUN).testBit 0 = false :=
  ⟨reaches_of (by decide +kernel), reaches_of (by decide +kernel), by decide +kernel⟩

/-- Source 10 is pending and enabled for context 0, with a priority, or it has been claimed. -/
def raised : State := { base with plic :=
  { pend := Tab.set {} 10 true false, enable := Tab.set {} 0 1024 0, prio := Tab.set {} 10 3 0, claimed := Tab.set {} 10 true false } }

theorem test_witness_plic :
    (raised.Reaches 328 .plic false ∧ raised.inspects 328 = false ∧ raised.plic.pend.wf false = true ∧ raised.claimId 0 = 10 ∧
      raised.plic.pend.get 0 false = false ∧ raised.plic.pend.get 10 false = true ∧ raised.irqEnabled 0 10 = true ∧
      0 < raised.plic.prio.get 10 0) ∧
    (base.Reaches 328 .plic false ∧ base.inspects 328 = false ∧ base.claimId 0 = 0) ∧
    (raised.Reaches 328 .plic true ∧ ((0xA00000000 : Word).extractLsb' 32 32).toNat = 10 ∧ raised.plic.claimed.get 10 false = true ∧
      base.plic.claimed.get 10 false = false) :=
  ⟨⟨reaches_of (by decide +kernel), by decide +kernel⟩, ⟨reaches_of (by decide +kernel), by decide +kernel⟩,
    reaches_of (by decide +kernel), by decide +kernel⟩

/-- Core 0 runs, its hart as given. -/
def running (h : Hart := {}) : State := { base with harts := Tab.set {} 0 { h with running := true } {} }

theorem test_witness_core_access :
    ((running).live (domCPU 0) = true ∧ (running).hartRuns 0 = true ∧ ((running).hart 0).wait = none ∧
      regionAt 0x001100000000 ≠ some .dram ∧ regionAt 0x001100000000 ≠ none ∧ 0x001100000000 % 8 = 0) ∧
    (((running).hart 0).priv = 3 ∧ ((running { priv := 1, csr := Tab.set {} csrMedeleg 0xFFFF 0 }).hart 0).priv < 3 ∧
      (((running { priv := 1, csr := Tab.set {} csrMedeleg 0xFFFF 0 }).hart 0).c csrMedeleg).getLsbD 5 = true ∧
      (running { priv := 1, csr := Tab.set {} csrMedeleg 0xFFFF 0 }).hartRuns 0 = true) := by
  decide +kernel

/-- The watchdog of core 0 counts, in a stage. -/
def watched (stage : Nat) : State :=
  ((base.setFld F.WDT_CTRL_EN 1 0).setFld F.WDT_PERIOD_PERIOD 100 0).setFld F.WDT_STATUS_STAGE stage 0

theorem test_witness_watchdog :
    base.ReachesReg 328 .WDT_KICK 0 true ∧ base.flag F.WDT_CTRL_EN 0 = false ∧
    (∀ st ∈ [0, 1], (watched st).flag F.WDT_CTRL_EN 0 = true ∧ (watched st).fld F.WDT_PERIOD_PERIOD 0 ≠ 0 ∧ (watched st).wdtFrozen 0 = false ∧
      (watched st).fld F.WDT_STATUS_STAGE 0 = st) :=
  ⟨reaches_of (by decide +kernel), by decide +kernel⟩

/-! ### Witnesses: debug -/

/-- The part beyond MANUFACTURING, at a debug level. -/
def levelled (n : Nat) : State := { base.setFld F.DBG_STATUS_LEVEL n with fuses := { lc := 1 } }

theorem test_witness_debug_levels :
    base.dbgLevel = 3 ∧ (levelled 0).dbgLevel = 0 ∧ (levelled 1).dbgLevel = 1 ∧ (levelled 2).dbgLevel = 2 ∧ base.boardTest = false ∧
    ({ base with pwr := { strap := 3 } } : State).boardTest = true ∧ base.dbg.tap.dmiErr = 0 := by
  decide +kernel

/-- Core 0, Mbana and the meter core: what a debugger at level 3 in RMA may act on. -/
theorem test_witness_harts :
    ((running).dbgLevel = 3 ∧ (running).hartRuns 0 = true ∧ ((running).hart 0).halted = false ∧ ((running).hart 0).priv < 4 ∧
      ((running { halted := true }).hart 0).halted = true ∧ (levelled 1).dbgLevel < 2) ∧
    ((serving).dbgLevel = 3 ∧ (serving).mb.run ≠ .off ∧ (serving).mb.run ≠ .safe) ∧
    (let s : State := { base.setFld F.DBG_STATUS_LEVEL 3 with fuses := { lc := 3 } }; s.dbgLevel = 3 ∧ s.fuses.lc = 3 ∧ s.smpOn = true) ∧
    (let h : Hart := { trigs := Tab.set {} 0 { tdata1 := 6 * 2 ^ 60 + 2 ^ 59 + 4096 } {} };
      (running h).hartRuns 0 = true ∧ ((running h).hart 0).halted = false ∧ ((((running h).hart 0).trigs.get 0 {}).tdata1.extractLsb' 60 4).toNat = 6 ∧
      ((((running h).hart 0).trigs.get 0 {}).tdata1.extractLsb' 12 4).toNat = 1 ∧
      (((running h).hart 0).trigs.get 0 {}).tdata1.getLsbD 59 = true ∧ ((running h).hart 0).priv < 4) ∧
    (let h : Hart := { trigs := Tab.set {} 0 { tdata1 := 6 * 2 ^ 60 } {} };
      ((((running h).hart 0).trigs.get 0 {}).tdata1.extractLsb' 60 4).toNat = 6 ∧
      ((((running h).hart 0).trigs.get 0 {}).tdata1.extractLsb' 12 4).toNat = 0) := by
  decide +kernel

/-- Core 0 is halted under the debug module, whose error is as given: 64-bit transfers of general register 5, to and from. -/
def abstracting (err : Nat) : State := { running { halted := true } with dbg := { dm := { cmdErr := err } } }

/-- The meter core in RMA at level 3, halted and selected; whether the seal step of this authorisation has been taken. -/
def metering (done : Bool) : State := { base.setFld F.DBG_STATUS_LEVEL 3 with
  fuses := { lc := 3 }, harts := Tab.set {} 9 { halted := true } {}, dbg := { dm := { hartSel := 9 }, meterSeal := done } }

theorem test_witness_meter_core :
    (metering false).dbgLevel = 3 ∧ (metering false).fuses.lc = 3 ∧ (metering false).fuses.sealNo < 4096 ∧
    (metering false).hartAllowed 9 = true ∧ ((metering false).hart 9).halted = true ∧ (metering false).dbg.dm.cmdErr = 0 ∧
    (metering false).dbg.meterSeal = false ∧ (metering true).dbg.meterSeal = true ∧ (metering true).hartAllowed 9 = true ∧
    ((metering true).hart 9).halted = true ∧ (metering true).absRead 9 0x1005 = some 0 := by
  decide +kernel

theorem test_witness_abstract_command :
    ((abstracting 0).dbg.dm.cmdErr = 0 ∧ (abstracting 2).dbg.dm.cmdErr ≠ 0 ∧ (abstracting 0).hartAllowed 0 = true ∧
      ((abstracting 0).hart 0).halted = true ∧ (levelled 1).hartAllowed 0 = false ∧ ((running).hart 0).halted = false ∧
      (running).hartAllowed 0 = true) ∧
    (let c : BitVec 32 := 0x00321005; c.extractLsb' 24 8 = 0 ∧ c.getLsbD 17 = true ∧ c.getLsbD 18 = false ∧ c.extractLsb' 20 3 = 3 ∧
      c.getLsbD 16 = false ∧ (c.extractLsb' 0 16).toNat = 0x1005 ∧ (abstracting 0).absRead 0 0x1005 = some 0) ∧
    (let c : BitVec 32 := 0x00331005; c.extractLsb' 24 8 = 0 ∧ c.getLsbD 17 = true ∧ c.getLsbD 18 = false ∧ c.extractLsb' 20 3 = 3 ∧
      c.getLsbD 16 = true ∧ (c.extractLsb' 0 16).toNat = 0x1005) ∧
    (let c : BitVec 32 := 0x00331025; c.getLsbD 16 = true ∧ (c.extractLsb' 0 16).toNat = 0x1025) ∧
    (let c : BitVec 32 := 0x00330300; c.getLsbD 16 = true ∧ (c.extractLsb' 0 16).toNat = 0x300) ∧
    (let c : BitVec 32 := 0x00331040; c.extractLsb' 20 3 = 3 ∧ 0x1040 ≤ (c.extractLsb' 0 16).toNat) := by
  decide +kernel

/-- A system bus write of a size at an address waits in the debug module, in a state. -/
def busing (s : State) (size : Nat) (a : Word) : State := { s with dbg := { sbPend := some true, dm := { sbAccess := size, sbAddr := a } } }

theorem test_witness_system_bus :
    (base.dbg.sbPend = none ∧ (busing base 2 8).dbg.sbPend = some true ∧ (busing base 2 8).dbg.dm.sbAccess ≠ 3) ∧
    ((busing base 3 4).dbg.dm.sbAccess = 3 ∧ (busing base 3 4).dbg.dm.sbAddr.toNat % 8 ≠ 0) ∧
    ((busing (levelled 0) 3 8).dbgLevel = 0 ∧ (busing (levelled 0) 3 8).cstate = ckRun) ∧
    ((busing (levelled 1) 3 8).dbgLevel = 1 ∧ isVtAddr ((busing (levelled 1) 3 8).dbg.dm.sbAddr.toNat % 2 ^ 48) = false) ∧
    ((busing base 3 8).cstate = ckRun ∧ (busing base 3 8).dbgLevel = 3 ∧ (busing base 3 8).dbg.dm.sbAddr.toNat % 8 = 0) ∧
    (isVtAddr (regAddr .DBG_VT_RX 0 0 0) = true ∧ regAddr .DBG_VT_RX 0 0 0 % 8 = 0) := by
  decide +kernel

/-- Watch 0 matches everything of engine 0, with an action. -/
def watching (act : Nat) (x : Engine) : State := ((withEng x).setFld F.DBG_EWCFG_EN 1 0 0).setFld F.DBG_EWCFG_ACT act 0 0

theorem test_witness_engine_watch :
    (∀ act ∈ [0, 1, 2, 3], (watching act { mode := .stream }).cstate = ckRun ∧ (watching act { mode := .stream }).fld F.DBG_EWCFG_ENG 0 0 = 0 ∧
      (watching act { mode := .stream }).flag F.DBG_EWCFG_EN 0 0 = true ∧ (watching act { mode := .stream }).reg .DBG_EWMASK 0 0 = 0 ∧
      (watching act { mode := .stream }).reg .DBG_EWVAL 0 0 = 0 ∧ (watching act { mode := .stream }).fld F.DBG_EWCFG_ACT 0 0 = act ∧
      ((watching act { mode := .stream }).eng 0).mode = .stream) ∧
    (base.flag F.DBG_EWCFG_EN 0 0 = false ∧ (watching 2 analysing).flag F.DBG_EWCFG_EN 0 0 = true ∧
      (watching 2 analysing).reg .DBG_EWMASK 0 0 = 0 ∧ (watching 2 analysing).fld F.DBG_EWCFG_ACT 0 0 = 2 ∧
      ((watching 2 analysing).eng 0).mode = .analysis ∧ ((watching 2 analysing).eng 0).alone = true ∧
      ((watching 2 analysing).eng 0).gangFault = none) := by
  decide +kernel

/-- A watch pause of engine 0's gang, and a watch freeze, are due. -/
def dueAt (x : Engine) : State := { withEng x with dbg := { pauses := [(0, 900)], freezes := [904] } }

theorem test_witness_watch_actions :
    ((dueAt analysing).live (domCL 0) = true ∧ (dueAt analysing).dbg.pauses.find? (fun q => q.1 == 0) = some (0, 900) ∧
      ((dueAt analysing).eng 0).mode ≠ .stream ∧ (dueAt analysing).cstate = ckRun ∧ (dueAt analysing).dbg.freezes = [904]) ∧
    (let x : Engine := { mode := .stream, s6 := some (nopAt 0) };
      (dueAt x).live (domCL 0) = true ∧ ((dueAt x).eng 0).mode = .stream ∧ (dueAt x).leader 0 = 0 ∧ ((dueAt x).eng 0).alone = false ∧
      ((dueAt x).eng 0).s6.isSome = true ∧ (dueAt x).faulting ((dueAt x).members 0) = false) := by
  decide +kernel

/-- The terminal of core 0 holds characters both ways, or inspection is on. -/
def terminal (s : State) : State := (s.setFld F.DBG_VT_STAT_TXFULL 1 0 0).setFld F.DBG_VT_STAT_RXFULL 1 0 0

theorem test_witness_terminal_rights : ∀ mid ∈ ([320, 321, 328, 329] : List MasterId),
    base.ReachesReg mid .DBG_VT_TX 0 true ∧ base.ReachesReg mid .DBG_VT_TX 0 false := by
  intro mid h
  simp only [List.mem_cons, List.not_mem_nil, or_false] at h
  rcases h with rfl | rfl | rfl | rfl <;> exact ⟨reaches_of (by decide +kernel), reaches_of (by decide +kernel)⟩

theorem test_witness_terminal_level_one :
    (levelled 1).ReachesReg 329 .DBG_VT_TX 0 true ∧ (levelled 1).ReachesReg 329 .DBG_VT_TX 0 false ∧ 1 ≤ (levelled 1).dbgLevel :=
  ⟨reaches_of (by decide +kernel), reaches_of (by decide +kernel), by decide +kernel⟩

theorem test_witness_terminal :
    (terminal base).flag F.DBG_VT_STAT_TXFULL 0 0 = true ∧ (terminal base).flag F.DBG_VT_STAT_RXFULL 0 0 = true ∧
    base.flag F.DBG_VT_STAT_TXFULL 0 0 = false ∧ base.flag F.DBG_VT_STAT_RXFULL 0 0 = false ∧
    (base.setFld F.DBG_CTRL_INSPECT 0).inspects 329 = false ∧ base.inspects 329 = true ∧ fldOf F.DBG_VT_TX_N 0 = 0 ∧ fldOf F.DBG_VT_RX_N 0 = 0 ∧
    fldOf F.DBG_VT_TX_N (BitVec.allOnes 64) ≠ 0 ∧ fldOf F.DBG_VT_RX_N (BitVec.allOnes 64) ≠ 0 ∧
    ((base.setFld F.DBG_VT_STAT_IEN 1 0 0).flag F.DBG_VT_STAT_IEN 0 0 = true) := by
  decide +kernel

end Sys2Proof.Tests
end

section
/-!
SUPPORT. Control space: a word write that passes the gates of R7, R26, R32 and R278, what a register with shadows does with it,
and what the commit of a block makes of the working values (R10).
-/
namespace Sys2Proof.Machine

open Sys2Proof

variable {s : State} {mid : MasterId}

/-- Where the DBG block splits the virtual terminal off, the terminal's rights are the wider ones (R469). -/
theorem right_rightsRegion {m : Nat} {g : Region} {w : Bool} (h : s.right m g w = true) (a n : Nat) :
    s.right m (rightsRegion g a n) w = true := by
  unfold rightsRegion
  split
  case isFalse => exact h
  case isTrue hvt =>
    rw [hvt.1] at h
    by_cases hprobe : m = 329
    · subst hprobe
      have hlevel : (if w then 2 else 1) ≤ s.dbgLevel := by simpa [State.right, State.debugRight] using h
      have h1 : 1 ≤ s.dbgLevel := le_trans (by cases w <;> simp) hlevel
      simp [State.right, State.debugRight, h1]
    · simpa [State.right, hprobe] using h

/-- A register lies in control space, not in a memory. -/
theorem regRegion_ne_memory (r : RegId) (i : Nat) : ¬ (regRegion r i = .dram ∨ regRegion r i = .bank) := by
  unfold regRegion
  split <;> simp

/-- An aligned write of a word that passes the block's gates is a write of the control-space item at its address. -/
theorem registerWrite_of_reaches {g : Region} (h : s.Reaches mid g true) {a : Nat} (hg : regionAt a = some g)
    (ha : a % 8 = 0) (hm : ¬ (g = .dram ∨ g = .bank)) (v : Word) :
    s.registerWrite mid a v = s.ctlWrite mid a v false := by
  obtain ⟨-, hdom, hright⟩ := h
  unfold State.registerWrite
  simp only [hg]
  rw [if_neg (by simp [ha]), if_neg (by split <;> simp_all), if_neg (by simp [right_rightsRegion hright]), if_neg hm]

/-- A master's write of a word of control space that reaches the register at its address. -/
theorem anyWrite_of_reaches {r : RegId} {i j k : Nat} (h : s.ReachesReg mid r i true) {a : Nat}
    (hg : regionAt a = some (regRegion r i)) (ha : a % 8 = 0) (hc : ctlItem a = some (.reg r i j k)) (v : Word) :
    s.anyWrite mid none a v = (s.regWrite mid r i j k v).2.noteRsp mid (s.regWrite mid r i j k v).1 [] := by
  have hw : s.ctlWrite mid a v false = s.regWrite mid r i j k v := by simp [State.ctlWrite, hc]
  simp [State.anyWrite, h.1, registerWrite_of_reaches h hg ha (regRegion_ne_memory r i), hw]

/-- No register with shadows has a write rule of its own: of the registers, each is without shadows or falls to the last arm. -/
theorem regWrite_of_shadowed {r : RegId} (h : isShadowed r = true) (i j k : Nat) (v : Word) :
    s.regWrite mid r i j k v = (.ok, s.plainWrite r i j k v) := by
  cases r <;> simp [isShadowed, RegId.desc] at h
  all_goals rfl

/-- R7: a write of RWS fields replaces their shadow bits. -/
theorem plainWrite_of_shadowed {r : RegId} (h : isShadowed r = true) (hr : r ≠ .NOC_CFG) (i j k : Nat) (v : Word) :
    s.plainWrite r i j k v = s.setShadow r
      ((s.shadowReg r i j k &&& ~~~ (BitVec.ofNat 64 r.desc.rws)) ||| (v &&& BitVec.ofNat 64 r.desc.rws)) i j k := by
  simp only [State.plainWrite, h, hr, if_true, if_false, BitVec.and_allOnes]

/-! ### The commit of a block (R10) -/

/-- Address a lies in the i-th copy of a block. -/
def Block.Holds (b : Block) (i a : Nat) : Prop :=
  b.place.1 + i * b.place.2.2 ≤ a ∧ a < b.place.1 + (i + 1) * b.place.2.2

/-- A shadowed register of the block takes its shadow. -/
theorem reg_commitBlock {r : RegId} (h : isShadowed r = true) {b : Block} {i i' j k : Nat}
    (ha : b.Holds i (regAddr r i' j k)) : (s.commitBlock b i).reg r i' j k = s.shadowReg r i' j k := by
  unfold Block.Holds at ha
  rw [Nat.succ_mul] at ha
  simp only [State.reg, State.commitBlock, h, if_true, Tab.get_merge, State.shadowReg]
  exact if_pos (by omega)

/-- A register outside the block keeps its working value. -/
theorem reg_commitBlock_other {r : RegId} {b : Block} {i i' j k : Nat}
    (ha : ¬ b.Holds i (regAddr r i' j k)) : (s.commitBlock b i).reg r i' j k = s.reg r i' j k := by
  unfold Block.Holds at ha
  rw [Nat.succ_mul] at ha
  simp only [State.reg, State.commitBlock, Tab.get_merge]
  rw [if_neg (c := _ ∧ _) (by omega)]

/-- A write of 1 to GO acts. -/
@[simp] theorem ifGo_one (t : State) : ifGo 1 s t = t := rfl

end Sys2Proof.Machine
end

section
/-!
PROOF. O9: writes of shadowed registers. O14: the commit of an engine's block.
-/
namespace Sys2Proof.Machine

open Sys2Proof

/-- Settles O9: the write passes the gates, no register with shadows has a rule of its own, and its plain write goes to the
shadow. -/
theorem writesOfShadowedFieldsWaitForTheCommit : Obligations.WritesOfShadowedFieldsWaitForTheCommit := by
  intro s mid a v r i j k hreach hregion halign hitem hshadowed hr m
  show Host.Outcome.next (s.keep (s.anyWrite mid none a.toNat v)) = _
  rw [anyWrite_of_reaches hreach hregion halign hitem, regWrite_of_shadowed hshadowed, plainWrite_of_shadowed hshadowed hr,
    keep_eq (by simp)]

/-- What a write of GO to CE_COMMIT does where it reaches the engine's block. -/
theorem exec_ceCommit_of_reaches {s : State} {mid : MasterId} {e : Fin 256} (h : s.ReachesReg mid .CE_COMMIT e true) :
    exec (.ceCommit mid e) s = .next (s.keep ((s.ceCommit e).noteRsp mid .ok [])) := by
  show Host.Outcome.next (s.keep (s.writeAs mid .CE_COMMIT e.val 0 1)) = _
  rw [writeAs_of_reaches h]
  rfl

/-- R81: the commit is taken whole where its conditions hold, and refused with CFGERR where one fails. -/
theorem ceCommit_eq (s : State) (e : Nat) :
    s.ceCommit e = if s.engineQuiet e && !(s.gangHeld e) && !(s.ceInconsistent e) then s.commitBlock .CE e
      else s.raise F.CE_STATUS_CFGERR e := by
  have hneg : (!(s.engineQuiet e) || s.gangHeld e || s.ceInconsistent e) =
      !(s.engineQuiet e && !(s.gangHeld e) && !(s.ceInconsistent e)) := by simp
  rw [State.ceCommit, hneg]
  simp only [Bool.not_eq_true', ← Bool.not_eq_true, ite_not]

/-- R81: each register of the engine's block that has shadows lies in that block. -/
theorem ceShadowed_holds {r : RegId} (hr : r ∈ [RegId.CE_GANG, .CE_PC, .CE_SRC, .CE_SCRCFG, .CE_SCRX, .CE_SCRY])
    {e j : Nat} (hj : j < r.desc.n1) : isShadowed r = true ∧ Block.Holds .CE e (regAddr r e j 0) := by
  simp only [List.mem_cons, List.not_mem_nil, or_false] at hr
  have hshadowed : isShadowed r = true := by rcases hr with rfl | rfl | rfl | rfl | rfl | rfl <;> rfl
  refine ⟨hshadowed, ?_⟩
  simp only [Block.Holds, Block.place, regAddr]
  rcases hr with rfl | rfl | rfl | rfl | rfl | rfl
  all_goals
    simp only [RegId.desc] at hj
    simp only [regInst, RegId.desc]
    omega

/-- Settles O14: the conditions of the commit are those of State.ceCommit; where they hold, the block takes its shadows
together, and where they do not, CFGERR is all that changes. -/
theorem engineCommitTakesAllShadowsOrNone : Obligations.EngineCommitTakesAllShadowsOrNone := by
  intro s mid e hreach ok
  rw [Answers, exec_ceCommit_of_reaches hreach]
  constructor
  · intro hok
    rw [ceCommit_eq, if_pos hok, keep_eq (by simp)]
    refine ⟨_, rfl, ?_, ?_, rfl⟩
    · intro r hr j hj
      obtain ⟨hshadowed, hin⟩ := ceShadowed_holds hr (e := e) hj
      exact reg_commitBlock hshadowed hin
    · intro r i j k hout
      exact reg_commitBlock_other hout
  · intro hok
    rw [ceCommit_eq, if_neg (ne_true_of_eq_false hok), keep_eq (by simp)]

end Sys2Proof.Machine
end

section
/-!
PROOF. O38: the SMP's mailbox slots (R199).
-/
namespace Sys2Proof.Machine

open Sys2Proof

variable {s : State} {mid : MasterId}

/-! ### Slots -/

/-- A slot reads as it was last changed. -/
@[simp] theorem slot_modMbox_same (i : Nat) (f : SmpSlot → SmpSlot) : (s.modMbox i f).slot i = f (s.slot i) := by
  simp [State.slot, State.modMbox, State.modSmp]

@[simp] theorem modMbox_pending (i : Nat) (f : SmpSlot → SmpSlot) : (s.modMbox i f).pending = s.pending := rfl

/-! ### Claims -/

/-- A read of SMP_CLAIM that reaches the register claims a slot and answers with its word. -/
theorem exec_smpClaim_of_reaches (h : s.ReachesReg mid .SMP_CLAIM 0 false) (hi : s.inspects mid = false) :
    exec (.smpClaim mid) s = .next (s.keep ((s.smpClaim mid).2.noteRsp mid .ok [((s.smpClaim mid).1, false)])) := by
  show Host.Outcome.next (s.keep (s.readAs mid .SMP_CLAIM 0 0)) = _
  rw [readAs_of_reaches h, hi]
  rfl

/-- The lowest free slot is the one claimed. -/
theorem smpClaim_of_lowest_free {i : Nat} (h16 : i < 16) (hfree : (s.slot i).owner = none)
    (hlow : ∀ k, k < i → (s.slot k).owner ≠ none) :
    s.smpClaim mid = (BitVec.ofNat 64 (2 ^ 63 + i), s.modMbox i (fun _ => { owner := some mid })) := by
  have hfind : (List.range 16).find? (fun k => (s.slot k).owner.isNone) = some i := by
    rw [List.find?_range_eq_some]
    refine ⟨by simp [hfree], by simpa using h16, fun k hk => ?_⟩
    simpa [Option.ne_none_iff_isSome] using hlow k hk
  simp only [State.smpClaim, hfind]

/-- Where every slot is owned, a read claims none and answers 0. -/
theorem smpClaim_of_all_owned (h : ∀ k, k < 16 → (s.slot k).owner ≠ none) : s.smpClaim mid = (0, s) := by
  have hfind : (List.range 16).find? (fun k => (s.slot k).owner.isNone) = none := by
    rw [List.find?_range_eq_none]
    intro k hk
    simpa [Option.ne_none_iff_isSome] using h k hk
  simp only [State.smpClaim, hfind]

/-! ### Writes of a slot's word 0 -/

/-- A write of a slot that reaches the SMP. -/
theorem slotAs_of_reaches (h : s.Reaches mid (.block .SMP 0) true) (i : Nat) (v : Word) :
    s.slotAs mid i v = (s.slotWrite i 0 mid v).2.noteRsp mid (s.slotWrite i 0 mid v).1 [] := by
  simp [State.slotAs, guarded_of_reaches h]

/-- A write of REQ.GO whose slot write answers st and t answers the master st and leaves t. -/
theorem exec_smpRequestGo_of_slotWrite (h : s.Reaches mid (.block .SMP 0) true) {ix : Fin 16} {v : Word} {st : Status} {t : State}
    (hw : s.slotWrite ix 0 mid (v ||| 1#64 <<< 63) = (st, t)) (hp : t.pending = s.pending) :
    exec (.smpRequestGo mid ix v) s = .next (t.noteRsp mid st []) := by
  show Host.Outcome.next (s.keep (s.slotAs mid ix.val (v ||| 1#64 <<< 63))) = _
  rw [slotAs_of_reaches h, hw, keep_eq (by simpa using hp)]

/-- A write of REQ.REL whose slot write answers st and t answers the master st and leaves t. -/
theorem exec_smpSlotRelease_of_slotWrite (h : s.Reaches mid (.block .SMP 0) true) {ix : Fin 16} {st : Status} {t : State}
    (hw : s.slotWrite ix 0 mid (1#64 <<< 62) = (st, t)) (hp : t.pending = s.pending) :
    exec (.smpSlotRelease mid ix) s = .next (t.noteRsp mid st []) := by
  show Host.Outcome.next (s.keep (s.slotAs mid ix.val (1#64 <<< 62))) = _
  rw [slotAs_of_reaches h, hw, keep_eq (by simpa using hp)]

/-- A master that neither owns the slot nor is Mbana is refused. -/
theorem slotWrite_of_not_owned {i : Nat} (h : s.slotOwned i mid = false) (w : Nat) (v : Word) :
    s.slotWrite i w mid v = (.edeny, s) := by
  simp [State.slotWrite, h]

/-- While a request runs, its owner's writes of word 0 are refused. -/
theorem slotWrite_of_running {i : Nat} (h : (s.slot i).running = true) (v : Word) :
    s.slotWrite i 0 mid v = (.edeny, s) := by
  simp [State.slotWrite, h]

/-- A write of REL frees the slot. -/
theorem slotWrite_release {i : Nat} (ho : s.slotOwned i mid = true) (hr : (s.slot i).running = false) {v : Word}
    (hv : v.getLsbD 62 = true) : s.slotWrite i 0 mid v = (.ok, s.modMbox i (fun _ => {})) := by
  simp [State.slotWrite, State.smpRelease, ho, hr, hv]

/-- A write of GO goes to the request's checks. -/
theorem slotWrite_go {i : Nat} (ho : s.slotOwned i mid = true) (hr : (s.slot i).running = false) {v : Word}
    (hrel : v.getLsbD 62 = false) (hgo : v.getLsbD 63 = true) : s.slotWrite i 0 mid v = (.ok, s.smpGo i mid v) := by
  simp [-BitVec.getLsbD_eq_getElem, State.slotWrite, ho, hr, hrel, hgo]

/-- R204: the SMP takes requests of this opcode: it is READY, or has no image and the opcode is one of an import's. -/
def State.serves (s : State) (op : Nat) : Bool :=
  s.smpState == smpReady || (s.smpState == smpNoImage && (op == 0x30 || op == 0x31))

/-- The slot's request word is written with GO, and is yet to be answered. -/
def State.asked (s : State) (i : Nat) (v : Word) : State :=
  s.modMbox i (fun x => { x with req := v, tag := reqTag v, done := false })

/-- The request of slot i joins the SMP's queue. -/
def State.submitted (s : State) (i : Nat) : State :=
  (s.modMbox i (fun x => { x with running := true })).modSmp (fun m => { m with reqs := m.reqs ++ [i] })

/-- The checks of a request, in their order: the SMP's state, the opcode, the length. -/
theorem smpGo_of_owned {i : Nat} (ho : s.slotOwned i mid = true) (hr : (s.slot i).running = false) (v : Word) :
    s.smpGo i mid v =
      if s.serves (reqOp v) = false then (s.asked i v).smpReply i stNotReady []
      else if reqOp v ∉ smpOpcodes then (s.asked i v).smpReply i stBadOpcode []
      else if 224 < reqLen v then (s.asked i v).smpReply i stBadParam []
      else (s.asked i v).submitted i := by
  have hguard : s.serves (reqOp v) = false ↔
      s.smpState ≠ smpReady ∧ !(s.smpState = smpNoImage ∧ (reqOp v = 0x30 ∨ reqOp v = 0x31)) := by
    simp [State.serves, imp_iff_not_or]
  simp only [State.smpGo, ho, hr, hguard, State.asked, State.submitted, gt_iff_lt]
  rfl

/-- A request that is answered at once: its slot holds the status, is DONE and keeps its owner, and nothing joins the queue. -/
theorem asked_smpReply (s : State) (i : Nat) (v : Word) (st : Byte) :
    let t := (s.asked i v).smpReply i st []
    (t.slot i).status = st ∧ (t.slot i).done = true ∧ (t.slot i).running = false ∧ (t.slot i).owner = (s.slot i).owner ∧
      (t.slot i).tag = reqTag v ∧ t.smp.reqs = s.smp.reqs ∧ t = { s with smp := t.smp } := by
  refine ⟨?_, ?_, ?_, ?_, ?_, rfl, rfl⟩ <;> simp [State.smpReply, State.asked]

/-- A request that is submitted: its slot runs, and the queue ends with it. -/
theorem asked_submitted (s : State) (i : Nat) (v : Word) :
    let t := (s.asked i v).submitted i
    (t.slot i).running = true ∧ (t.slot i).done = false ∧ (t.slot i).req = v ∧ t.smp.reqs = s.smp.reqs ++ [i] ∧
      t = { s with smp := t.smp } := by
  refine ⟨?_, ?_, ?_, rfl, rfl⟩ <;> simp [State.slot, State.submitted, State.asked, State.modMbox, State.modSmp]

/-- A change of the SMP, answered to its master. -/
theorem noteRsp_of_smp_change {t : State} (h : t = { s with smp := t.smp }) (st : Status) (ws : List (Word × Bool)) :
    t.noteRsp mid st ws = { s with smp := (t.noteRsp mid st ws).smp, rsps := (t.noteRsp mid st ws).rsps } := by
  obtain ⟨m, rfl⟩ : ∃ m, t = { s with smp := m } := ⟨_, h⟩
  rfl

/-! ### The request word with GO set: REL and the request's fields as written -/

section
variable (v : Word)

theorem or_go_rel (h : v.getLsbD 62 = false) : (v ||| 1#64 <<< 63).getLsbD 62 = false := by simpa using h
theorem or_go_go : (v ||| 1#64 <<< 63).getLsbD 63 = true := by simp

@[simp] theorem reqOp_or_go : reqOp (v ||| 1#64 <<< 63) = reqOp v := by simp [reqOp, BitVec.extractLsb'_or]
@[simp] theorem reqTag_or_go : reqTag (v ||| 1#64 <<< 63) = reqTag v := by simp [reqTag, BitVec.extractLsb'_or]
@[simp] theorem reqLen_or_go : reqLen (v ||| 1#64 <<< 63) = reqLen v := by simp [reqLen, BitVec.extractLsb'_or]

end

/-- A write of GO by the slot's owner, while no request of it runs, is answered OK. -/
theorem exec_smpRequestGo_of_owned (h : s.Reaches mid (.block .SMP 0) true) {ix : Fin 16} {v : Word}
    (ho : s.slotOwned ix mid = true) (hr : (s.slot ix).running = false) (hrel : v.getLsbD 62 = false)
    {t : State} (ht : s.smpGo ix mid (v ||| 1#64 <<< 63) = t) (hp : t.pending = s.pending) :
    exec (.smpRequestGo mid ix v) s = .next (t.noteRsp mid .ok []) := by
  refine exec_smpRequestGo_of_slotWrite h ?_ hp
  rw [slotWrite_go ho hr (or_go_rel v hrel) (or_go_go v), ht]

/-- Settles O38: claims take the lowest free slot; a write of word 0 by another master, or while a request runs, is refused; REL
frees the slot, and GO passes the checks of the request in their order. -/
theorem mailboxSlotsAreClaimedUsedAndReleased : Obligations.MailboxSlotsAreClaimedUsedAndReleased := by
  intro s mid
  refine ⟨?_, ?_, ?_⟩
  · intro i hreach hinspect h16 hfree hlow
    rw [exec_smpClaim_of_reaches hreach hinspect, smpClaim_of_lowest_free h16 hfree hlow, keep_eq (by simp)]
  · intro hreach hinspect hfull
    rw [exec_smpClaim_of_reaches hreach hinspect, smpClaim_of_all_owned hfull, keep_eq (by simp)]
  intro hreach ix v
  refine ⟨?_, ?_, ?_, ?_⟩
  · intro hother hmid
    have hno : s.slotOwned ix mid = false := by simpa [State.slotOwned, hother] using hmid
    exact ⟨exec_smpRequestGo_of_slotWrite hreach (slotWrite_of_not_owned hno _ _) rfl,
      exec_smpSlotRelease_of_slotWrite hreach (slotWrite_of_not_owned hno _ _) rfl⟩
  · intro _ hrun
    exact ⟨exec_smpRequestGo_of_slotWrite hreach (slotWrite_of_running hrun _) rfl,
      exec_smpSlotRelease_of_slotWrite hreach (slotWrite_of_running hrun _) rfl⟩
  · intro hown hidle
    exact exec_smpSlotRelease_of_slotWrite hreach (slotWrite_release hown hidle (by decide)) rfl
  · intro hown hidle hrel r serves answered
    have hserves : s.serves (reqOp v) = true ↔ serves := by simp [State.serves, serves]
    have hgo := smpGo_of_owned hown hidle r
    rw [reqOp_or_go, reqLen_or_go] at hgo
    have hanswered (st : Byte) (h : s.smpGo ix mid r = (s.asked ix r).smpReply ix st []) : answered st := by
      refine ⟨_, exec_smpRequestGo_of_owned hreach hown hidle hrel h rfl, ?_⟩
      obtain ⟨hst, hdone, hrun, howner, htag, hreqs, hframe⟩ := asked_smpReply s ix r st
      rw [reqTag_or_go] at htag
      exact ⟨hst, hdone, hrun, howner, htag, hreqs, noteRsp_of_smp_change hframe _ _⟩
    refine ⟨fun hn => hanswered _ ?_, fun hs hop => hanswered _ ?_, fun hs hop hlen => hanswered _ ?_, fun hs hop hlen => ?_⟩
    · rw [hgo, if_pos (by simpa [← hserves] using hn)]
    · rw [hgo, if_neg (by simp [hserves.2 hs]), if_pos hop]
    · rw [hgo, if_neg (by simp [hserves.2 hs]), if_neg (by simp [hop]), if_pos hlen]
    · rw [if_neg (by simp [hserves.2 hs]), if_neg (by simp [hop]), if_neg (by omega)] at hgo
      refine ⟨_, exec_smpRequestGo_of_owned hreach hown hidle hrel hgo rfl, ?_⟩
      obtain ⟨hrun, hdone, hreq, hreqs, hframe⟩ := asked_submitted s ix r
      exact ⟨hrun, hdone, hreq, hreqs, noteRsp_of_smp_change hframe _ _⟩

end Sys2Proof.Machine
end

section
/-!
PROOF. O15: a master's writes of an engine's local space (R22, R76, R82): the two doorbells and the state window.
-/
namespace Sys2Proof.Machine

open Sys2Proof

variable {s : State} {mid : MasterId} {e : Fin 256}

/-- A write of a word of an engine's local space that reaches it has the effect and the status of State.localWrite. -/
theorem keep_localAs_of_reaches (h : s.Reaches mid (.engine e) true) {off : Nat} {v : Word} {p same : Bool} {st : Status} {t : State}
    (hw : s.localWrite mid.toNat e off v p same = (st, t)) (hp : t.pending = s.pending) :
    s.keep (s.localAs mid e off v p same) = t.noteRsp mid st [] := by
  rw [localAs_of_reaches h, hw, keep_eq (by simpa using hp)]

/-! ### The START doorbell (R22, R68, R71, R123) -/

/-- A START command to a leader that remembers no command of the same cycle is the start command itself (R25). -/
theorem exec_startDoorbell_of_startCommand (h : s.Reaches mid (.engine e) true) (hc : (s.eng e).gang.cmdMid = none) {v : Word}
    {t : State} (ht : s.startCommand mid.toNat e v = t) (hp : t.pending = s.pending) :
    exec (.startDoorbell mid e v false) s = .next (t.noteRsp mid .ok []) := by
  show Host.Outcome.next (s.keep (s.localAs mid e.val startOff v false false)) = _
  rw [keep_localAs_of_reaches h (st := .ok) (t := t) ?_ hp]
  simp [State.localWrite, startOff, State.startDoorbell, hc, ht]

/-- What a start command leaves in the gang of its leader: whose it was, whether it was taken, and CE_STATUS.LATE before it. -/
def Gang.noted (g : Gang) (mid : Nat) (taken late : Bool) : Gang := { g with cmdMid := some mid, cmdTaken := taken, cmdLate := late }

section
variable {m n : Nat} {v : Word}

theorem startCommand_of_follower (hl : s.leader n ≠ n) : s.startCommand m n v = s.raise F.CE_STATUS_UNARMED n := by
  simp [State.startCommand, hl]

/-- R22: an armed gang without a start time takes a time at least 128 root periods ahead. -/
theorem startCommand_of_armed (hl : s.leader n = n) (hm : (s.eng n).mode ≠ .paused) (ha : (s.eng n).gang.armed = true)
    (hs : (s.eng n).gang.startAt = none) (ht : ¬ s.now + 128 > roundUp 4 v.toNat) :
    s.startCommand m n v = s.modGang n (fun g =>
      { g.noted m true (s.flag F.CE_STATUS_LATE n) with startAt := some (roundUp 4 v.toNat) }) := by
  simp [State.startCommand, Gang.noted, hl, hm, ha, hs, ht]

/-- R23: an armed gang refuses a time that is too close with LATE. -/
theorem startCommand_of_armed_late (hl : s.leader n = n) (hm : (s.eng n).mode ≠ .paused) (ha : (s.eng n).gang.armed = true)
    (hs : (s.eng n).gang.startAt = none) (ht : s.now + 128 > roundUp 4 v.toNat) :
    s.startCommand m n v = (s.raise F.CE_STATUS_LATE n).modGang n (fun g => g.noted m false (s.flag F.CE_STATUS_LATE n)) := by
  simp [State.startCommand, Gang.noted, hl, hm, ha, hs, ht]

/-- R123: a paused gang takes a resume time that lies behind the vector it paused at. -/
theorem startCommand_of_paused (hl : s.leader n = n) (hm : (s.eng n).mode = .paused) (hr : (s.eng n).gang.resumeAt = none)
    (ht : ¬ s.now + 128 > roundUp 4 v.toNat) (hp : (s.eng n).gang.pausedEnd ≤ 512 * roundUp 4 v.toNat + vecLatency) :
    s.startCommand m n v = s.modGang n (fun g =>
      { g.noted m true (s.flag F.CE_STATUS_LATE n) with resumeAt := some (roundUp 4 v.toNat) }) := by
  simp [State.startCommand, Gang.noted, hl, hm, hr, ht, hp]

/-- R24: a gang that is neither armed without a start time nor paused refuses the command with UNARMED. -/
theorem startCommand_of_unarmed (hl : s.leader n = n) (hm : (s.eng n).mode ≠ .paused)
    (ha : (s.eng n).gang.armed = false ∨ (s.eng n).gang.startAt ≠ none) :
    s.startCommand m n v = (s.raise F.CE_STATUS_UNARMED n).modGang n (fun g => { g with cmdMid := none }) := by
  have hno : ¬ ((s.eng n).gang.armed = true ∧ (s.eng n).gang.startAt = none) := by
    rintro ⟨h1, h2⟩
    simp [h1, h2] at ha
  simp [State.startCommand, hl, hm, hno]

end

/-! ### The IRQ doorbell (R76) -/

theorem exec_irqDoorbell_of_reaches (h : s.Reaches mid (.engine e) true) (b : Byte) :
    exec (.irqDoorbell mid e b) s = .next ((s.irqDoorbell e b).noteRsp mid .ok []) := by
  show Host.Outcome.next (s.keep (s.localAs mid e.val irqOff (b.setWidth 64) false)) = _
  rw [keep_localAs_of_reaches h (st := .ok) (t := s.irqDoorbell e b) ?_ rfl]
  simp [State.localWrite, irqOff]

/-! ### The state window (R82) -/

/-- A write of the word of the state window at 0x3000 + 8j. -/
theorem exec_engineStateWrite_of_localWrite (h : s.Reaches mid (.engine e) true) {j : Fin 65} {v : Word} {p : Bool} {st : Status}
    {t : State} (hw : s.localWrite mid.toNat e (0x3000 + 8 * j.val) v p = (st, t)) (hp : t.pending = s.pending) :
    exec (.engineStateWrite mid e j v p) s = .next (t.noteRsp mid st []) :=
  congrArg _ (keep_localAs_of_reaches h hw hp)

section
variable {m n j : Nat} {v : Word} {p : Bool}

theorem localWrite_of_not_quiet (hj : j < 65) (hq : s.engineQuiet n = false) :
    s.localWrite m n (0x3000 + 8 * j) v p = (.edeny, s) := by
  unfold State.localWrite
  rw [if_neg (by omega), if_pos (by omega), if_pos (by simp [hq])]

theorem localWrite_of_poison (hj : j < 65) (hq : s.engineQuiet n = true) (hh : holdsPoison (0x3000 + 8 * j) = false) :
    s.localWrite m n (0x3000 + 8 * j) v true = (.epoison, s) := by
  unfold State.localWrite
  rw [if_neg (by omega), if_pos (by omega), if_neg (by simp [hq]), if_pos (by simp [hh])]

/-- R80: word 9 of the loop and call state refuses depths that the stacks do not have. -/
theorem localWrite_of_badDepth (hq : s.engineQuiet n = true) (hd : badDepth v ≠ none) :
    s.localWrite m n (0x3000 + 8 * 61) v false = (.ok, s.raise F.CE_STATUS_CTLERR n) := by
  have hd' : (badDepth v).isSome = true := Option.isSome_iff_ne_none.2 hd
  simp [State.localWrite, hq, hd']

/-- Every other write of a quiet engine's state window writes the engine's state. -/
theorem localWrite_of_quiet (hj : j < 65) (hq : s.engineQuiet n = true)
    (hp : p = true → holdsPoison (0x3000 + 8 * j) = true) (hd : j = 61 → badDepth v = none) :
    s.localWrite m n (0x3000 + 8 * j) v p = (.ok, s.setEng n ((s.eng n).writeLocal (0x3000 + 8 * j) v p)) := by
  have hdepth : ¬ (0x3000 + 8 * j = 0x31E8 ∧ (badDepth v).isSome = true) := by
    rintro ⟨h1, h2⟩
    simp [hd (by omega)] at h2
  unfold State.localWrite
  rw [if_neg (by omega), if_pos (by omega), if_neg (by simp [hq]), if_neg (by simpa using hp), if_neg hdepth]
  rfl

end

/-- A write of a quiet engine's state window that no rule refuses. -/
theorem exec_engineStateWrite_of_quiet (h : s.Reaches mid (.engine e) true) (hq : s.engineQuiet e = true) {j : Fin 65} {v : Word}
    {p : Bool} (hp : p = true → holdsPoison (0x3000 + 8 * j.val) = true) (hd : j.val = 61 → badDepth v = none) {x : Engine}
    (hx : (s.eng e).writeLocal (0x3000 + 8 * j.val) v p = x) :
    exec (.engineStateWrite mid e j v p) s = .next ((s.setEng e x).noteRsp mid .ok []) := by
  rw [exec_engineStateWrite_of_localWrite h (localWrite_of_quiet j.isLt hq hp hd) rfl, hx]

/-! ### Where the words of the state window stand (R82) -/

section
variable (x : Engine) (v : Word) (p : Bool) {k : Nat}

theorem writeLocal_a (hk : k < 8) : x.writeLocal (0x3000 + 8 * k) v p = x.setA k (v.setWidth 32) := by
  unfold Engine.writeLocal
  rw [if_pos (by omega), show (0x3000 + 8 * k - 0x3000) / 8 = k by omega]

theorem writeLocal_o (hk : k < 8) : x.writeLocal (0x3000 + 8 * (8 + k)) v p = x.setO k (v.setWidth 32) := by
  unfold Engine.writeLocal
  rw [if_neg (by omega), if_pos (by omega), show (0x3000 + 8 * (8 + k) - 0x3040) / 8 = k by omega]

theorem writeLocal_m (hk : k < 8) : x.writeLocal (0x3000 + 8 * (16 + k)) v p = x.setM k (v.setWidth 32) := by
  unfold Engine.writeLocal
  rw [if_neg (by omega), if_neg (by omega), if_pos (by omega), show (0x3000 + 8 * (16 + k) - 0x3080) / 8 = k by omega]

theorem writeLocal_d (hk : k < 16) : x.writeLocal (0x3000 + 8 * (24 + k)) v p = x.setD k v p := by
  unfold Engine.writeLocal
  iterate 3 rw [if_neg (by omega)]
  rw [if_pos (by omega), show (0x3000 + 8 * (24 + k) - 0x30C0) / 8 = k by omega]

theorem writeLocal_acc (hk : k < 4) : x.writeLocal (0x3000 + 8 * (40 + k)) v p = x.setAcc k (v.setWidth 48) := by
  unfold Engine.writeLocal
  iterate 4 rw [if_neg (by omega)]
  rw [if_pos (by omega), show (0x3000 + 8 * (40 + k) - 0x3140) / 8 = k by omega]

theorem writeLocal_g (hk : k < 4) : x.writeLocal (0x3000 + 8 * (44 + k)) v p = x.setG k v := by
  unfold Engine.writeLocal
  iterate 5 rw [if_neg (by omega)]
  rw [if_pos (by omega), show (0x3000 + 8 * (44 + k) - 0x3160) / 8 = k by omega]

theorem writeLocal_pw (hk : k < 4) : x.writeLocal (0x3000 + 8 * (48 + k)) v p = x.setPw k v := by
  unfold Engine.writeLocal
  iterate 6 rw [if_neg (by omega)]
  rw [if_pos (by omega), show (0x3000 + 8 * (48 + k) - 0x3180) / 8 = k by omega]

theorem writeLocal_loop (hk : k < 10) : x.writeLocal (0x3000 + 8 * (52 + k)) v p = x.setLoopWord k v := by
  unfold Engine.writeLocal
  iterate 7 rw [if_neg (by omega)]
  rw [if_pos (by omega), show (0x3000 + 8 * (52 + k) - 0x31A0) / 8 = k by omega]

end

/-- The words d0 to d15 hold a poison bit (R82). -/
theorem holdsPoison_d {k : Nat} (hk : k < 16) : holdsPoison (0x3000 + 8 * (24 + k)) = true := by
  have h1 : 0x30C0 ≤ 0x3000 + 8 * (24 + k) := by omega
  have h2 : 0x3000 + 8 * (24 + k) < 0x3140 := by omega
  simp [holdsPoison, h1, h2]

/-- Settles O15: a START command is State.startCommand in one of its cases, and each word of the state window is written at its
place. -/
theorem engineLocalWritesStartInterruptAndSetState : Obligations.EngineLocalWritesStartInterruptAndSetState := by
  intro s mid e hreach x done
  refine ⟨?_, exec_irqDoorbell_of_reaches hreach, ?_, ?_⟩
  · intro v hcmd rt late noted
    refine ⟨?_, ?_, ?_, ?_, ?_⟩
    · intro hl
      exact exec_startDoorbell_of_startCommand hreach hcmd (startCommand_of_follower hl) rfl
    · intro hl hm ha hs ht
      exact exec_startDoorbell_of_startCommand hreach hcmd (startCommand_of_armed hl hm ha hs ht) rfl
    · intro hl hm ha hs ht
      exact exec_startDoorbell_of_startCommand hreach hcmd (startCommand_of_armed_late hl hm ha hs ht) rfl
    · intro hl hm hr ht hp
      exact exec_startDoorbell_of_startCommand hreach hcmd (startCommand_of_paused hl hm hr ht hp) rfl
    · intro hl hm ha
      exact exec_startDoorbell_of_startCommand hreach hcmd (startCommand_of_unarmed hl hm ha) rfl
  · intro v p j hq
    exact exec_engineStateWrite_of_localWrite hreach (localWrite_of_not_quiet j.isLt hq) rfl
  intro hq v
  have clean {j : Fin 65} : false = true → holdsPoison (0x3000 + 8 * j.val) = true := by simp
  refine ⟨fun k => ⟨?_, ?_, ?_⟩, ?_, fun k => ⟨?_, ?_, ?_⟩, ?_, ?_, ?_, ?_, ?_, ?_, ?_⟩
  · exact exec_engineStateWrite_of_quiet hreach hq clean (by dsimp only; omega) (writeLocal_a x v false k.isLt)
  · exact exec_engineStateWrite_of_quiet hreach hq clean (by dsimp only; omega) (writeLocal_o x v false k.isLt)
  · exact exec_engineStateWrite_of_quiet hreach hq clean (by dsimp only; omega) (writeLocal_m x v false k.isLt)
  · intro k p
    exact exec_engineStateWrite_of_quiet hreach hq (fun _ => holdsPoison_d k.isLt) (by dsimp only; omega) (writeLocal_d x v p k.isLt)
  · exact exec_engineStateWrite_of_quiet hreach hq clean (by dsimp only; omega) (writeLocal_acc x v false k.isLt)
  · exact exec_engineStateWrite_of_quiet hreach hq clean (by dsimp only; omega) (writeLocal_g x v false k.isLt)
  · exact exec_engineStateWrite_of_quiet hreach hq clean (by dsimp only; omega) (writeLocal_pw x v false k.isLt)
  · intro k
    exact exec_engineStateWrite_of_quiet hreach hq clean (by dsimp only; omega) (writeLocal_loop x v false (by omega))
  · intro hd
    exact exec_engineStateWrite_of_localWrite hreach (j := 61) (localWrite_of_badDepth hq hd) rfl
  · intro hd
    exact exec_engineStateWrite_of_quiet hreach hq clean (fun _ => hd) (writeLocal_loop x v false (k := 9) (by omega))
  · exact exec_engineStateWrite_of_quiet hreach hq clean (absurd · (by decide)) rfl
  · exact exec_engineStateWrite_of_quiet hreach hq clean (absurd · (by decide)) rfl
  · intro p
    exact exec_engineStateWrite_of_quiet hreach hq (fun _ => rfl) (absurd · (by decide)) rfl
  · intro j hh
    exact exec_engineStateWrite_of_localWrite hreach (localWrite_of_poison j.isLt hq hh) rfl

end Sys2Proof.Machine
end

section
/-!
SUPPORT. Fields of registers of one block: what a field reads after another was written, and what a write of the registers of one
lane leaves as it was.
-/
namespace Sys2Proof.Machine

open Sys2Proof

variable {s : State}

/-- Every instance shows a register of its own (R308, R365 give the two exceptions). -/
def RegId.own (r : RegId) : Bool := r != .DMC_ILV && r != .SWP_DEVID

theorem regInst_of_own {r : RegId} (h : r.own = true) (i : Nat) : regInst r i = i := by
  unfold regInst
  split <;> simp_all [RegId.own]

/-- The bits of a field lie in its register. -/
def Fld.fits (f : Fld) : Bool := decide (f.lo ≤ f.hi) && decide (f.hi < 64)

/-- Two registers of one block stand at different offsets. -/
def RegId.apart (r q : RegId) : Bool :=
  r.own && q.own && decide (r.desc.blk = q.desc.blk) && decide (r.desc.off ≠ q.desc.off)

/-- Two fields of one block share no bit: they lie in two registers, or apart in one. -/
def Fld.apart (f g : Fld) : Bool :=
  f.fits && g.fits && (f.reg.apart g.reg || (decide (f.reg = g.reg) && (decide (g.hi < f.lo) || decide (f.hi < g.lo))))

theorem regAddr_ne_of_apart {r q : RegId} (h : r.apart q = true) (i : Nat) : regAddr q i ≠ regAddr r i := by
  simp only [RegId.apart, Bool.and_eq_true, decide_eq_true_eq] at h
  obtain ⟨⟨⟨hr, hq⟩, hb⟩, ho⟩ := h
  simp only [regAddr, regInst_of_own hr, regInst_of_own hq, hb]
  omega

theorem reg_setReg_apart {r q : RegId} (h : r.apart q = true) (v : Word) (i : Nat) : (s.setReg r v i).reg q i = s.reg q i :=
  reg_setReg_other (regAddr_ne_of_apart h i) v

theorem reg_setFld_apart {f : Fld} {q : RegId} (h : f.reg.apart q = true) (v i : Nat) : (s.setFld f v i).reg q i = s.reg q i :=
  reg_setReg_apart h _ i

theorem fld_setReg_apart {r : RegId} {g : Fld} (h : r.apart g.reg = true) (v : Word) (i : Nat) :
    (s.setReg r v i).fld g i = s.fld g i :=
  congrArg (fldOf g) (reg_setReg_apart h v i)

/-- A field of a register reads its bits of the word that was written. -/
theorem fld_setReg (f : Fld) (v : Word) (i j k : Nat) : (s.setReg f.reg v i j k).fld f i j k = fldOf f v := by
  rw [State.fld, reg_setReg]

theorem fld_setFld_apart {f g : Fld} (h : f.apart g = true) (v i : Nat) : (s.setFld f v i).fld g i = s.fld g i := by
  simp only [Fld.apart, Fld.fits, Bool.and_eq_true, Bool.or_eq_true, decide_eq_true_eq] at h
  obtain ⟨⟨hf, hg⟩, hreg | ⟨hr, hd⟩⟩ := h
  · exact fld_setFld_reg (regAddr_ne_of_apart hreg i) v
  · exact fld_setFld_other hr.symm v i 0 0 hg.2 hd hf.1 hg.1

theorem flag_setFld_apart {f g : Fld} (h : f.apart g = true) (v i : Nat) : (s.setFld f v i).flag g i = s.flag g i := by
  rw [State.flag, fld_setFld_apart h]; rfl

/-- A field reads the value that was put into it, where the value fits. -/
theorem fld_setFld_fits {f : Fld} (h : f.fits = true) {v : Nat} (hv : v ≤ fldMax f) (i j k : Nat) :
    (s.setFld f v i j k).fld f i j k = v := by
  simp only [Fld.fits, Bool.and_eq_true, decide_eq_true_eq] at h
  have : 0 < 2 ^ (f.hi - f.lo + 1) := Nat.two_pow_pos _
  rw [fld_setFld f v i j k h.1 h.2, Nat.mod_eq_of_lt (by unfold fldMax at hv; omega)]

theorem flag_setFld_zero {f : Fld} (h : f.fits = true) (i j k : Nat) : (s.setFld f 0 i j k).flag f i j k = false := by
  simp [State.flag, fld_setFld_fits h]

theorem flag_setFld_one {f : Fld} (h : f.fits = true) (i j k : Nat) : (s.setFld f 1 i j k).flag f i j k = true := by
  have hv : 1 ≤ fldMax f := by
    have : 2 ^ 1 ≤ 2 ^ (f.hi - f.lo + 1) := Nat.pow_le_pow_right (by omega) (by omega)
    unfold fldMax; omega
  simp [State.flag, fld_setFld_fits h hv]

/-- A counter reads one count more, or stays at its largest value. -/
theorem fld_count_fits {f : Fld} (h : f.fits = true) (i j k n : Nat) :
    (s.count f i j k n).fld f i j k = satAdd (fldMax f) (s.fld f i j k) n :=
  fld_setFld_fits h (by unfold satAdd; split <;> omega) i j k

/-- A mask that has all bits of a field keeps the field. -/
theorem fldOf_and_mask {g : Fld} {m : Word} (hg : g.fits = true) (hm : fldMask g &&& m = fldMask g) (v : Word) :
    fldOf g (v &&& m) = fldOf g v := by
  simp only [Fld.fits, Bool.and_eq_true, decide_eq_true_eq] at hg
  apply Nat.eq_of_testBit_eq
  intro i
  rw [fldOf_testBit, fldOf_testBit, BitVec.getLsbD_and]
  by_cases hi : i < g.hi - g.lo + 1
  · have hbit : (fldMask g &&& m).getLsbD (g.lo + i) = true := by
      rw [hm, fldMask_bit g (by omega)]; simpa using hi
    rw [BitVec.getLsbD_and, Bool.and_eq_true] at hbit
    simp [hbit.2]
  · simp [hi]

/-- A field of a word that another field was put into. -/
theorem fldOf_putFld_apart {f g : Fld} (h : f.apart g = true) (hr : f.reg = g.reg) (v : Nat) (w : Word) :
    fldOf g (putFld f v w) = fldOf g w := by
  simp only [Fld.apart, Fld.fits, RegId.apart, Bool.and_eq_true, Bool.or_eq_true, decide_eq_true_eq] at h
  obtain ⟨⟨hf, hg⟩, ⟨_, ho⟩ | ⟨_, hd⟩⟩ := h
  · exact absurd (by rw [hr]) ho
  · exact fldOf_putFld_other f g v w hg.2 hd hf.1 hg.1

/-- A field of a word reads the value put into it, where the value fits. -/
theorem fldOf_putFld_fits {f : Fld} (h : f.fits = true) {v : Nat} (hv : v ≤ fldMax f) (w : Word) :
    fldOf f (putFld f v w) = v := by
  simp only [Fld.fits, Bool.and_eq_true, decide_eq_true_eq] at h
  have : 0 < 2 ^ (f.hi - f.lo + 1) := Nat.two_pow_pos _
  rw [fldOf_putFld f v w h.1 h.2, Nat.mod_eq_of_lt (by unfold fldMax at hv; omega)]

end Sys2Proof.Machine
end

section
/-!
SUPPORT. Lanes: what each operation on a lane leaves in its registers (R337 to R350), and what reaches the other lanes.
-/
namespace Sys2Proof.Machine

open Sys2Proof

variable {s : State}

@[simp] theorem lane_modLane_same (l : Nat) (f : Lane → Lane) : (s.modLane l f).lane l = f (s.lane l) := by
  simp [State.lane, State.modLane]

theorem lane_modLane_other {k l : Nat} (h : k ≠ l) (f : Lane → Lane) : (s.modLane l f).lane k = s.lane k := by
  simp [State.lane, State.modLane, Tab.get_set_other _ h]

@[simp] theorem lane_setFld (f : Fld) (v i j k l : Nat) : (s.setFld f v i j k).lane l = s.lane l := rfl

/-! ### Entering a state (R338, R344, R350) -/

/-- The fields that entering a state writes: the state, what the checker shows, and the end of an eye scan. -/
def lnEntryFlds : List Fld := [F.LN_STATUS_STATE, F.LN_STATUS_PLOCK, F.LN_ESRES_BUSY, F.LN_ESRES_DONE, F.LN_ESRES_ABORT]

theorem setLn_ready (l : Nat) : s.setLn l lnReady = s.setFld F.LN_STATUS_STATE lnReady l := rfl

theorem fld_abortScan {g : Fld} (h : ∀ f ∈ lnEntryFlds, f.apart g = true) (l : Nat) : (s.abortScan l).fld g l = s.fld g l := by
  simp only [lnEntryFlds, List.forall_mem_cons] at h
  obtain ⟨-, -, hb, hd, ha, -⟩ := h
  unfold State.abortScan
  split
  · rw [fld_setFld_apart ha, fld_setFld_apart hd, fld_setFld_apart hb]
  · rfl

theorem fld_setLn {g : Fld} (h : ∀ f ∈ lnEntryFlds, f.apart g = true) (l v : Nat) : (s.setLn l v).fld g l = s.fld g l := by
  have hs := h F.LN_STATUS_STATE (by simp [lnEntryFlds])
  have hp := h F.LN_STATUS_PLOCK (by simp [lnEntryFlds])
  unfold State.setLn
  dsimp only
  split
  · exact fld_setFld_apart hs v l
  · rw [fld_setFld_apart hp, modLane_fld, fld_abortScan h, fld_setFld_apart hs]

theorem flag_setLn {g : Fld} (h : ∀ f ∈ lnEntryFlds, f.apart g = true) (l v : Nat) : (s.setLn l v).flag g l = s.flag g l := by
  rw [State.flag, fld_setLn h]; rfl

theorem lnState_abortScan (l : Nat) : (s.abortScan l).lnState l = s.lnState l := by
  unfold State.abortScan State.lnState
  split
  · iterate 3 rw [fld_setFld_apart (by decide)]
  · rfl

theorem lnState_setFld {f : Fld} (h : f.apart F.LN_STATUS_STATE = true) (v l : Nat) : (s.setFld f v l).lnState l = s.lnState l :=
  fld_setFld_apart h v l

theorem lnState_setLn (l : Nat) {v : Nat} (hv : v ≤ 7) : (s.setLn l v).lnState l = v := by
  have hset : (s.setFld F.LN_STATUS_STATE v l).lnState l = v := fld_setFld_fits (by decide) hv l 0 0
  unfold State.setLn
  dsimp only
  split
  · exact hset
  · rw [lnState_setFld (by decide)]
    exact (lnState_abortScan l).trans hset

theorem reg_setLn {r : RegId} (h : ∀ f ∈ lnEntryFlds, f.reg.apart r = true) (l v : Nat) : (s.setLn l v).reg r l = s.reg r l := by
  simp only [lnEntryFlds, List.forall_mem_cons] at h
  obtain ⟨hs, hp, hb, hd, ha, -⟩ := h
  unfold State.setLn State.abortScan
  dsimp only
  split
  · exact reg_setFld_apart hs v l
  · rw [reg_setFld_apart hp, modLane_reg]
    split
    · rw [reg_setFld_apart ha, reg_setFld_apart hd, reg_setFld_apart hb, reg_setFld_apart hs]
    · exact reg_setFld_apart hs v l

@[simp] theorem setLn_pending (l v : Nat) : (s.setLn l v).pending = s.pending := by
  unfold State.setLn State.abortScan
  dsimp only
  split
  · rfl
  · split <;> rfl

/-! ### Loss detection (R345, R346) -/

/-- R346: a detector that rises sets its flag and its event bit, is counted, and may move the lane to LOST. -/
def State.detectorRise (s : State) (flag event count : Fld) (l : Nat) : State :=
  (((s.setFld flag 1 l).raise event l).count count l).lnLoss l

theorem losRise_eq {l : Nat} (ho : s.lnState l ≠ lnOff) (hf : s.flag F.LN_STATUS_LOS l = false) (hd : s.laneOn l = true) :
    s.losRise l = s.detectorRise F.LN_STATUS_LOS F.LN_STATUS_LOSEV F.LN_CNT_LOS l :=
  if_neg (by simp [ho, hf, hd])

theorem lolRise_eq {l : Nat} (ho : s.lnState l ≠ lnOff) (hf : s.flag F.LN_STATUS_LOL l = false) (hd : s.laneOn l = true) :
    s.lolRise l = s.detectorRise F.LN_STATUS_LOL F.LN_STATUS_LOLEV F.LN_CNT_LOL l :=
  if_neg (by simp [ho, hf, hd])

/-- The state that a lane is in after a loss, or before it. -/
def lostFrom (st : Nat) : Nat := if st = lnReady ∨ st = lnTrain then lnLost else st

theorem lnState_lnLoss (l : Nat) : (s.lnLoss l).lnState l = lostFrom (s.lnState l) := by
  have hp (t : State) (n : Nat) : (if t.flag F.LN_CFG_IEN l then t.pendIrq n else t).lnState l = t.lnState l := by
    split <;> rfl
  unfold State.lnLoss lostFrom
  dsimp only
  rw [hp]
  split
  · exact lnState_setLn l (by decide)
  · rfl

theorem fld_lnLoss {g : Fld} (h : ∀ f ∈ lnEntryFlds, f.apart g = true) (l : Nat) : (s.lnLoss l).fld g l = s.fld g l := by
  have hp (t : State) (n : Nat) : (if t.flag F.LN_CFG_IEN l then t.pendIrq n else t).fld g l = t.fld g l := by
    split <;> rfl
  unfold State.lnLoss
  dsimp only
  rw [hp]
  split
  · exact fld_setLn h l _
  · rfl

/-- R346: with LN_CFG.IEN a loss pends the lane's interrupt. -/
theorem pend_lnLoss {l : Nat} (h : s.flag F.LN_CFG_IEN l = true) : (s.lnLoss l).plic.pend.get (45 + l) false = true := by
  have hi (t : State) (ht : t.flag F.LN_CFG_IEN l = true) :
      (if t.flag F.LN_CFG_IEN l then t.pendIrq (45 + l) else t).plic.pend.get (45 + l) false = true := by
    rw [if_pos ht]; simp [State.pendIrq]
  unfold State.lnLoss
  dsimp only
  apply hi
  split
  · rw [flag_setLn (by decide), h]
  · exact h

@[simp] theorem lnLoss_pending (l : Nat) : (s.lnLoss l).pending = s.pending := by
  have hp (t : State) (n : Nat) : (if t.flag F.LN_CFG_IEN l then t.pendIrq n else t).pending = t.pending := by
    split <;> rfl
  unfold State.lnLoss
  dsimp only
  rw [hp]
  split <;> simp

section
variable {fl ev ct : Fld} {l : Nat}

@[simp] theorem detectorRise_pending : (s.detectorRise fl ev ct l).pending = s.pending := by simp [State.detectorRise]

theorem lnState_detectorRise (hf : fl.apart F.LN_STATUS_STATE = true) (he : ev.apart F.LN_STATUS_STATE = true)
    (hc : ct.apart F.LN_STATUS_STATE = true) : (s.detectorRise fl ev ct l).lnState l = lostFrom (s.lnState l) := by
  rw [State.detectorRise, lnState_lnLoss, State.count, State.raise, lnState_setFld hc, lnState_setFld he, lnState_setFld hf]

theorem flag_detectorRise (h : ∀ f ∈ lnEntryFlds, f.apart fl = true) (hfl : fl.fits = true) (he : ev.apart fl = true)
    (hc : ct.apart fl = true) : (s.detectorRise fl ev ct l).flag fl l = true := by
  rw [State.detectorRise, State.flag, fld_lnLoss h, State.count, State.raise, fld_setFld_apart hc, fld_setFld_apart he]
  exact flag_setFld_one hfl l 0 0

theorem event_detectorRise (h : ∀ f ∈ lnEntryFlds, f.apart ev = true) (hev : ev.fits = true) (hc : ct.apart ev = true) :
    (s.detectorRise fl ev ct l).flag ev l = true := by
  rw [State.detectorRise, State.flag, fld_lnLoss h, State.count, fld_setFld_apart hc]
  exact flag_setFld_one hev l 0 0

theorem count_detectorRise (h : ∀ f ∈ lnEntryFlds, f.apart ct = true) (hct : ct.fits = true) (hf : fl.apart ct = true)
    (he : ev.apart ct = true) : (s.detectorRise fl ev ct l).fld ct l = satAdd (fldMax ct) (s.fld ct l) 1 := by
  rw [State.detectorRise, fld_lnLoss h, fld_count_fits hct, State.raise, fld_setFld_apart he, fld_setFld_apart hf]

theorem pend_detectorRise (hf : fl.apart F.LN_CFG_IEN = true) (he : ev.apart F.LN_CFG_IEN = true)
    (hc : ct.apart F.LN_CFG_IEN = true) (hi : s.flag F.LN_CFG_IEN l = true) :
    (s.detectorRise fl ev ct l).plic.pend.get (45 + l) false = true := by
  apply pend_lnLoss
  rw [State.count, State.raise, flag_setFld_apart hc, flag_setFld_apart he, flag_setFld_apart hf, hi]

end

/-- R346: with both detectors clear a lane in LOST goes on to ACQUIRE. -/
theorem lnState_lnRecover (l : Nat) : (s.lnRecover l).lnState l =
    if s.lnState l = lnLost ∧ s.flag F.LN_STATUS_LOS l = false ∧ s.flag F.LN_STATUS_LOL l = false then lnAcquire else s.lnState l := by
  unfold State.lnRecover
  simp only [Bool.not_eq_true']
  split
  · exact lnState_setLn l (by decide)
  · rfl

theorem flag_lnRecover {g : Fld} (h : ∀ f ∈ lnEntryFlds, f.apart g = true) (l : Nat) : (s.lnRecover l).flag g l = s.flag g l := by
  unfold State.lnRecover
  split
  · exact flag_setLn h l _
  · rfl

@[simp] theorem lnRecover_pending (l : Nat) : (s.lnRecover l).pending = s.pending := by
  unfold State.lnRecover; split <;> simp

/-! ### Taps (R340, R341) -/

theorem reg_takeTaps {r : RegId} (h : RegId.apart .LN_STATUS r = true) (l : Nat) : (s.takeTaps l).reg r l = s.reg r l := by
  unfold State.takeTaps
  iterate 3 rw [reg_setFld_apart h]

/-- The fields that the active taps stand in. -/
def tapFlds : List Fld := [F.LN_STATUS_APRE, F.LN_STATUS_AMAIN, F.LN_STATUS_APOST]

theorem fld_takeTaps {g : Fld} (h : ∀ f ∈ tapFlds, f.apart g = true) (l : Nat) : (s.takeTaps l).fld g l = s.fld g l := by
  simp only [tapFlds, List.forall_mem_cons] at h
  obtain ⟨hpre, hmain, hpost, -⟩ := h
  unfold State.takeTaps
  rw [fld_setFld_apart hpost, fld_setFld_apart hmain, fld_setFld_apart hpre]

/-- The value of a field is at most its largest value. -/
theorem fld_le_fldMax (f : Fld) (i j k : Nat) : s.fld f i j k ≤ fldMax f := by
  have : fldOf f (s.reg f.reg i j k) < 2 ^ (f.hi - f.lo + 1) := BitVec.isLt _
  unfold State.fld fldMax; omega

theorem amain_takeTaps (l : Nat) : (s.takeTaps l).fld F.LN_STATUS_AMAIN l = s.fld F.LN_TXEQ_MAIN l := by
  unfold State.takeTaps
  dsimp only
  rw [fld_setFld_apart (by decide), fld_setFld_fits (f := F.LN_STATUS_AMAIN) (by decide) (fld_le_fldMax F.LN_TXEQ_MAIN l 0 0), fld_setFld_apart (by decide)]

@[simp] theorem takeTaps_pending (l : Nat) : (s.takeTaps l).pending = s.pending := rfl

end Sys2Proof.Machine
end

section
/-!
SUPPORT. The links' look at their bonds after an event on lanes (R360): it leaves the queue alone, and with every link DOWN it
changes nothing.
-/
namespace Sys2Proof.Machine

open Sys2Proof

variable {s : State}

/-- A fold whose every element leaves its start as it is answers its start. -/
theorem forAll_eq_self {xs : List Nat} {f : State → Nat → State} (h : ∀ x ∈ xs, f s x = s) : s.forAll xs f = s := by
  unfold State.forAll
  induction xs with
  | nil => rfl
  | cons x xs ih =>
    rw [List.foldl_cons, h x (by simp)]
    exact ih (fun y hy => h y (by simp [hy]))

/-- What every element leaves alone, the queue among it, a fold over units leaves alone. -/
theorem forAll_pending {xs : List Nat} {f : State → Nat → State} (h : ∀ a n, (f a n).pending = a.pending) :
    (s.forAll xs f).pending = s.pending := foldl_keeps State.pending h xs s

@[simp] theorem ctxDead_pending (b k : Nat) : (s.ctxDead b k).pending = s.pending := by
  unfold State.ctxDead; split <;> rfl

@[simp] theorem failContexts_pending (b : Nat) : (s.failContexts b).pending = s.pending :=
  forAll_pending (fun _ _ => forAll_pending (by simp))

@[simp] theorem holdLanes_pending (b : Nat) : (s.holdLanes b).pending = s.pending := by
  unfold State.holdLanes
  refine forAll_pending (fun a l => ?_)
  split
  · exact setLn_pending l lnAcquire
  · rfl

@[simp] theorem sourceLost_pending (b : Nat) : (s.sourceLost b).pending = s.pending := by
  unfold State.sourceLost; split <;> rfl

@[simp] theorem linkDown_pending (b cause : Nat) : (s.linkDown b cause).pending = s.pending := by
  unfold State.linkDown
  split
  · rfl
  · dsimp only
    rw [holdLanes_pending, modBridge_pending, failContexts_pending, setFld_pending, setFld_pending]
    split
    · simp
    · rfl

@[simp] theorem bondWatch_pending : s.bondWatch.pending = s.pending := by
  unfold State.bondWatch
  refine forAll_pending (fun a b => ?_)
  split
  · rfl
  · split
    · simp
    · split <;> simp

/-- R360: links that are DOWN stay as they are. -/
theorem bondWatch_of_down (h : ∀ b : Nat, b < 16 → s.swState b = swDown) : s.bondWatch = s :=
  forAll_eq_self (fun b hb => if_pos (h b (List.mem_range.1 hb)))

/-- Command c answers what P holds of, behind which the links look at their bonds. -/
def Watched (c : Instr) (s : State) (P : State → Prop) : Prop := Answers c s (fun t => ∃ u, P u ∧ t = u.bondWatch)

theorem watched_of_next {c : Instr} {u : State} {P : State → Prop} (hc : exec c s = .next (s.keep u.bondWatch))
    (hp : u.pending = s.pending) (h : P u) : Watched c s P :=
  ⟨u.bondWatch, by rw [hc, keep_eq (by simp [hp])], u, h, rfl⟩

/-- An event of a lane or quad in a live domain. -/
theorem watched_inDom {c : Instr} {d : Nat} {f : State → State} {P : State → Prop}
    (hc : exec c s = .next (s.keep (s.inDom d (fun a => (f a).bondWatch)))) (hl : s.live d = true)
    (hp : (f s).pending = s.pending) (h : P (f s)) : Watched c s P :=
  watched_of_next (by rw [hc, inDom_of_live hl]) hp h

/-- A write of a commit register that reaches it. -/
theorem watched_writeAs {c : Instr} {mid : MasterId} {r : RegId} {i : Nat} {v : Word} {t : State} {P : State → Prop}
    (hc : exec c s = .next (s.keep (s.writeAs mid r i 0 v).bondWatch)) (hr : s.ReachesReg mid r i true)
    (hw : s.regWrite mid r i 0 0 v = (.ok, t)) (hp : t.pending = s.pending) (h : P (t.noteRsp mid .ok [])) : Watched c s P := by
  refine watched_of_next hc ?_ (u := s.writeAs mid r i 0 v) ?_
  · rw [writeAs_of_reaches hr, hw, noteRsp_pending, hp]
  · rwa [writeAs_of_reaches hr, hw]

end Sys2Proof.Machine
end

section
/-!
PROOF. O48: quads and lanes (R335 to R350): commits, acquisition, training, loss detection, words, patterns and eye scans.
-/
namespace Sys2Proof.Machine

open Sys2Proof

variable {s : State}

theorem domOn_of_live {d : Nat} (h : s.live d = true) : s.domOn d = true := by
  simp only [State.live, Bool.and_eq_true] at h
  exact h.1

/-! ### Quads (R335, R336) -/

/-- R336: the conditions of a quad's commit. -/
def State.quadCommitGood (s : State) (q : Nat) : Prop :=
  (∀ i ∈ quadLanes q, s.fld F.LN_CFG_USE i = 0) ∧ 100000 ≤ s.sfld F.LN_QPLL_REFKHZ q ∧ s.sfld F.LN_QPLL_REFKHZ q ≤ 312500 ∧
    8000000 * 256 ≤ s.sfld F.LN_QPLL_REFKHZ q * s.sfld F.LN_QPLL_M q ∧
    s.sfld F.LN_QPLL_REFKHZ q * s.sfld F.LN_QPLL_M q ≤ 16000000 * 256

theorem lnqCommit_refusal_iff (q : Nat) :
    ((quadLanes q).any (fun l => s.fld F.LN_CFG_USE l != 0) ∨ s.sfld F.LN_QPLL_REFKHZ q < 100000 ∨ 312500 < s.sfld F.LN_QPLL_REFKHZ q ∨
      s.sfld F.LN_QPLL_REFKHZ q * s.sfld F.LN_QPLL_M q < 8000000 * 256 ∨
      16000000 * 256 < s.sfld F.LN_QPLL_REFKHZ q * s.sfld F.LN_QPLL_M q) ↔ ¬ s.quadCommitGood q := by
  have hany : (quadLanes q).any (fun l => s.fld F.LN_CFG_USE l != 0) = true ↔ ¬ ∀ i ∈ quadLanes q, s.fld F.LN_CFG_USE i = 0 := by
    simp
  rw [hany, State.quadCommitGood]
  simp only [← not_le, ← not_and_or]

theorem lnqCommit_good {q : Nat} (hd : s.domOn (domLQ q) = true) (h : s.quadCommitGood q) :
    s.lnqCommit q = (s.commitBlock .LNQ q).setFld F.LN_QSTATUS_LOCK 0 q := by
  unfold State.lnqCommit
  dsimp only
  rw [if_neg (by simp [hd]), if_neg (fun hb => (lnqCommit_refusal_iff q).1 hb h)]

theorem lnqCommit_refused {q : Nat} (hd : s.domOn (domLQ q) = true) (h : ¬ s.quadCommitGood q) :
    s.lnqCommit q = s.raise F.LN_QSTATUS_CFGERR q := by
  unfold State.lnqCommit
  dsimp only
  rw [if_neg (by simp [hd]), if_pos ((lnqCommit_refusal_iff q).2 h)]

/-- LN_QPLL stands in its quad's block. -/
theorem qpll_holds (q : Nat) : Block.Holds .LNQ q (regAddr .LN_QPLL q) := by
  simp only [Block.Holds, Block.place, regAddr, regInst, RegId.desc]
  omega

/-! ### What reaches only one lane -/

/-- t has the registers of s outside the block of lane l. -/
def LaneFrame (l : Nat) (s t : State) : Prop := ∀ r i j k, ¬ Block.Holds .LN l (regAddr r i j k) → t.reg r i j k = s.reg r i j k

theorem LaneFrame.refl (l : Nat) (s : State) : LaneFrame l s s := fun _ _ _ _ _ => rfl

theorem LaneFrame.trans {l : Nat} {a b c : State} (h : LaneFrame l a b) (g : LaneFrame l b c) : LaneFrame l a c :=
  fun r i j k hk => (g r i j k hk).trans (h r i j k hk)

/-- A register of a lane stands in the lane's block. -/
def RegId.inLane (r : RegId) : Bool := r.own && decide (r.desc.blk = .LN) && decide (r.desc.off < 0x1000)

theorem regAddr_inLane {r : RegId} (h : r.inLane = true) (l : Nat) : Block.Holds .LN l (regAddr r l) := by
  simp only [RegId.inLane, Bool.and_eq_true, decide_eq_true_eq] at h
  obtain ⟨⟨hown, hblk⟩, hoff⟩ := h
  simp only [Block.Holds, regAddr, regInst_of_own hown, hblk, Block.place]
  omega

/-- Two lanes' blocks have no address in common. -/
theorem regAddr_other_lane {r : RegId} (h : r.inLane = true) {k l : Nat} (hk : k ≠ l) : ¬ Block.Holds .LN l (regAddr r k) := by
  have hr := regAddr_inLane h k
  simp only [Block.Holds, Block.place] at hr ⊢
  omega

theorem LaneFrame.setFld {f : Fld} (h : f.reg.inLane = true) (s : State) (v l : Nat) : LaneFrame l s (s.setFld f v l) := by
  intro r i j k hr
  refine reg_setReg_other (fun he => hr ?_) _
  rw [he]
  exact regAddr_inLane h l

theorem LaneFrame.modLane (s : State) (l : Nat) (f : Lane → Lane) (n : Nat) : LaneFrame n s (s.modLane l f) := fun _ _ _ _ _ => rfl

theorem LaneFrame.setLn (s : State) (l v : Nat) : LaneFrame l s (s.setLn l v) := by
  have hscan (a : State) : LaneFrame l a (a.abortScan l) := by
    unfold State.abortScan
    split
    · exact .trans (.setFld (by decide) a _ l) (.trans (.setFld (by decide) _ _ l) (.setFld (by decide) _ _ l))
    · exact .refl l a
  unfold State.setLn
  dsimp only
  split
  · exact .setFld (by decide) s v l
  · exact .trans (.setFld (by decide) s v l) (.trans (hscan _) (.trans (.modLane _ l _ l) (.setFld (by decide) _ _ l)))

theorem LaneFrame.lnLoss (s : State) (l : Nat) : LaneFrame l s (s.lnLoss l) := by
  have hp (t : State) (n : Nat) : LaneFrame l t (if t.flag F.LN_CFG_IEN l then t.pendIrq n else t) := by
    split
    · exact fun _ _ _ _ _ => rfl
    · exact .refl l t
  unfold State.lnLoss
  dsimp only
  refine .trans ?_ (hp _ _)
  split
  · exact .setLn s l _
  · exact .refl l s

theorem LaneFrame.lolRise (s : State) (l : Nat) : LaneFrame l s (s.lolRise l) := by
  unfold State.lolRise
  split
  · exact .refl l s
  · exact .trans (.setFld (by decide) s _ l) (.trans (.setFld (by decide) _ _ l) (.trans (.setFld (by decide) _ _ l) (.lnLoss _ l)))

/-- A field of another lane reads as before. -/
theorem LaneFrame.fld {l : Nat} {s t : State} (h : LaneFrame l s t) {f : Fld} (hf : f.reg.inLane = true) {k : Nat} (hk : k ≠ l) :
    t.fld f k = s.fld f k := by
  rw [State.fld, h _ _ _ _ (regAddr_other_lane hf hk)]; rfl

theorem LaneFrame.flag {l : Nat} {s t : State} (h : LaneFrame l s t) {f : Fld} (hf : f.reg.inLane = true) {k : Nat} (hk : k ≠ l) :
    t.flag f k = s.flag f k := by
  rw [State.flag, h.fld hf hk]; rfl

theorem LaneFrame.lnState {l : Nat} {s t : State} (h : LaneFrame l s t) {k : Nat} (hk : k ≠ l) : t.lnState k = s.lnState k :=
  h.fld (by decide) hk

/-- The power of a lane's quad is no register of a lane. -/
theorem LaneFrame.laneOn {l : Nat} {s t : State} (h : LaneFrame l s t) {k : Nat} (hk : k < 1024) : t.laneOn k = s.laneOn k := by
  unfold State.laneOn State.domOn
  rw [h]
  have : domLQ (k / 4) / 256 = 5 := by unfold domLQ; omega
  rw [this]
  simp only [Block.Holds, Block.place, regAddr, regInst, RegId.desc]
  omega

/-- The quads' block is no lane's. -/
theorem LaneFrame.quadFlag {l : Nat} (hl : l < 144) {s t : State} (h : LaneFrame l s t) {f : Fld} (hf : f.reg = .LN_QSTATUS) (q : Nat) :
    t.flag f q = s.flag f q := by
  unfold State.flag State.fld
  rw [h]
  rw [hf]
  simp only [Block.Holds, Block.place, regAddr, regInst, RegId.desc]
  omega

/-- A write of a quad's status leaves the lanes' registers as they were. -/
theorem fld_setFld_quad {f g : Fld} (hf : f.reg = .LN_QSTATUS) (hg : g.reg.inLane = true) (v q : Nat) {i : Nat} (hi : i < 144) :
    (s.setFld f v q).fld g i = s.fld g i := by
  have hin := regAddr_inLane hg i
  refine fld_setFld_reg (fun he => ?_) v
  rw [he, hf] at hin
  simp only [Block.Holds, Block.place, regAddr, regInst, RegId.desc] at hin
  omega

/-- A write of a quad's status leaves the domains' power as it was. -/
theorem domOn_setFld_quad {f : Fld} (hf : f.reg = .LN_QSTATUS) (v : Nat) (q : Fin 36) (p : Fin 36) :
    (s.setFld f v q).domOn (domLQ p) = s.domOn (domLQ p) := by
  have hword : domLQ p / 256 = 5 := by unfold domLQ; omega
  have haddr : regAddr .PWR_ON 0 5 ≠ regAddr .LN_QSTATUS q := by
    simp only [regAddr, regInst, RegId.desc, Block.place]
    omega
  rw [State.domOn, hword, State.setFld, hf, reg_setReg_other haddr, ← hword]
  rfl

/-! ### The loss of a quad's reference (R335) -/

@[simp] theorem lolRise_pending (l : Nat) : (s.lolRise l).pending = s.pending := by
  unfold State.lolRise; split <;> simp

theorem fld_lolRises_other {g : Fld} (hg : g.reg.inLane = true) {i : Nat} {xs : List Nat} (hi : i ∉ xs) (s : State) :
    (s.forAll xs State.lolRise).fld g i = s.fld g i := by
  induction xs generalizing s with
  | nil => rfl
  | cons x xs ih =>
    rw [List.mem_cons, not_or] at hi
    exact (ih hi.2 _).trans ((LaneFrame.lolRise s x).fld hg hi.1)

theorem quadFlag_lolRises {f : Fld} (hf : f.reg = .LN_QSTATUS) (q : Nat) {xs : List Nat} (hx : ∀ i ∈ xs, i < 144) (s : State) :
    (s.forAll xs State.lolRise).flag f q = s.flag f q := by
  induction xs generalizing s with
  | nil => rfl
  | cons x xs ih =>
    exact (ih (fun i hi => hx i (by simp [hi])) _).trans ((LaneFrame.lolRise s x).quadFlag (hx x (by simp)) hf q)

/-- A lane that is not OFF has LOL set behind the rise, and is in LOST where it was READY without it. -/
theorem lolRise_lol {l : Nat} (hd : s.laneOn l = true) (ho : s.lnState l ≠ lnOff) :
    (s.lolRise l).flag F.LN_STATUS_LOL l = true ∧
      (s.lnState l = lnReady → s.flag F.LN_STATUS_LOL l = false → (s.lolRise l).lnState l = lnLost) := by
  cases hl : s.flag F.LN_STATUS_LOL l with
  | true => simp [State.lolRise, hl]
  | false =>
    rw [lolRise_eq ho hl hd]
    refine ⟨flag_detectorRise (by decide) (by decide) (by decide) (by decide), fun hr _ => ?_⟩
    rw [lnState_detectorRise (by decide) (by decide) (by decide), hr]
    rfl

/-- The same for each of several lanes. -/
theorem lolRises_lol {xs : List Nat} (hn : xs.Nodup) (hx : ∀ i ∈ xs, i < 144 ∧ s.laneOn i = true) {i : Nat} (hi : i ∈ xs)
    (ho : s.lnState i ≠ lnOff) : (s.forAll xs State.lolRise).flag F.LN_STATUS_LOL i = true ∧
      (s.lnState i = lnReady → s.flag F.LN_STATUS_LOL i = false → (s.forAll xs State.lolRise).lnState i = lnLost) := by
  induction xs generalizing s with
  | nil => simp at hi
  | cons x xs ih =>
    have hframe := LaneFrame.lolRise s x
    obtain ⟨hxn, hn⟩ := List.nodup_cons.1 hn
    show ((s.lolRise x).forAll xs State.lolRise).flag F.LN_STATUS_LOL i = true ∧
      (_ → _ → ((s.lolRise x).forAll xs State.lolRise).lnState i = lnLost)
    by_cases hix : i = x
    · subst hix
      have hhead := lolRise_lol (hx i (by simp)).2 ho
      simp only [State.flag, State.lnState] at hhead ⊢
      rwa [fld_lolRises_other (g := F.LN_STATUS_LOL) (by decide) hxn, fld_lolRises_other (g := F.LN_STATUS_STATE) (by decide) hxn]
    · have hmem : i ∈ xs := (List.mem_cons.1 hi).resolve_left hix
      have htail := ih hn (s := s.lolRise x) (fun j hj => ⟨(hx j (by simp [hj])).1, by
        have h144 := (hx j (by simp [hj])).1
        rw [hframe.laneOn (by omega)]; exact (hx j (by simp [hj])).2⟩) hmem (by rwa [hframe.lnState hix])
      rwa [hframe.lnState hix, hframe.flag (by decide) hix] at htail

theorem mem_quadLanes {q i : Nat} (h : i ∈ quadLanes q) : i / 4 = q := by
  simp only [quadLanes, List.mem_map, List.mem_range] at h
  omega

/-- R335: what the loss of the reference does to the quad and to its lanes. -/
theorem refLoss_effect {q : Fin 36} (hd : s.domOn (domLQ q) = true) :
    (s.refLoss q).flag F.LN_QSTATUS_REFLOS q = true ∧ (s.refLoss q).flag F.LN_QSTATUS_LOCK q = false ∧
    ∀ i ∈ quadLanes q, s.lnState i ≠ lnOff → (s.refLoss q).flag F.LN_STATUS_LOL i = true ∧
      (s.lnState i = lnReady → s.flag F.LN_STATUS_LOL i = false → (s.refLoss q).lnState i = lnLost) := by
  have hlt : ∀ i ∈ quadLanes q, i < 144 := fun i hi => by have := mem_quadLanes hi; omega
  have hstatus (g : Fld) (hg : g.reg.inLane = true) (i : Nat) (hi : i ∈ quadLanes q) :
      ((s.setFld F.LN_QSTATUS_REFLOS 1 q).setFld F.LN_QSTATUS_LOCK 0 q).fld g i = s.fld g i := by
    rw [fld_setFld_quad rfl hg _ _ (hlt i hi), fld_setFld_quad rfl hg _ _ (hlt i hi)]
  have hpower : ∀ i ∈ quadLanes q, ((s.setFld F.LN_QSTATUS_REFLOS 1 q).setFld F.LN_QSTATUS_LOCK 0 q).laneOn i = true := by
    intro i hi
    rw [State.laneOn, mem_quadLanes hi, domOn_setFld_quad rfl, domOn_setFld_quad rfl, hd]
  have hnodup : (quadLanes q).Nodup := (List.nodup_map_iff (fun _ _ => Nat.add_left_cancel)).2 List.nodup_range
  rw [State.refLoss, if_pos hd]
  refine ⟨?_, ?_, ?_⟩
  · rw [quadFlag_lolRises rfl _ hlt, flag_setFld_apart (by decide)]
    exact flag_setFld_one (by decide) q 0 0
  · rw [quadFlag_lolRises rfl _ hlt]
    exact flag_setFld_zero (by decide) q 0 0
  · intro i hi ho
    have hlol := hstatus F.LN_STATUS_LOL (by decide) i hi
    have hstate := hstatus F.LN_STATUS_STATE (by decide) i hi
    have hlanes := lolRises_lol hnodup (fun j hj => ⟨hlt j hj, hpower j hj⟩) hi (by rwa [State.lnState, hstate])
    simp only [State.flag, State.lnState] at hlanes ⊢
    rwa [hlol, hstate] at hlanes

theorem refLoss_pending (q : Nat) : (s.refLoss q).pending = s.pending := by
  unfold State.refLoss
  split
  · exact forAll_pending (fun a l => lolRise_pending l)
  · rfl

/-! ### A lane's commit (R337, R338, R341) -/

/-- R337, R338: where a lane stands behind a commit: OFF with its flags clear, in ACQUIRE where it must start again, or as it was. -/
def State.lnEnter (s : State) (l : Nat) (restart : Prop) [Decidable restart] : State :=
  if s.fld F.LN_CFG_USE l = 0 then ((s.setLn l lnOff).setFld F.LN_STATUS_LOS 0 l).setFld F.LN_STATUS_LOL 0 l
  else if restart then s.setLn l lnAcquire else s

/-- R351: a lane that loops at its border loses the words of its transmit FIFO. -/
def State.lnLoop (s : State) (l : Nat) : State :=
  if s.fld F.LN_CFG_LOOP l = 2 then s.modLane l (fun x => { x with tx := [] }) else s

/-- R341: what a commit does to the active taps: they are taken now, or, where eq, when the next training begins. -/
def State.lnTaps (s : State) (l : Nat) (eq : Bool) : State :=
  if s.fld F.LN_CFG_TRAIN l = 0 then s.takeTaps l
  else if eq then s.modLane l (fun x => { x with tapsDue := true }) else s

/-- Field f of lane l differs from its shadow. -/
def State.lnChanges (s : State) (l : Nat) (f : Fld) : Bool := s.fld f l != s.sfld f l

/-- The fields whose change starts the lane again (R338). -/
def State.lnMoved (s : State) (l : Nat) : Bool :=
  s.lnChanges l F.LN_CFG_USE || s.lnChanges l F.LN_CFG_MOD || s.lnChanges l F.LN_CFG_DIV || s.lnChanges l F.LN_CFG_WIDTH ||
    s.lnChanges l F.LN_CFG_TRAIN || s.lnChanges l F.LN_CFG_BRIDGE || s.lnChanges l F.LN_CFG_PRECODE || s.lnChanges l F.LN_CFG_LCLK

theorem lnCommit_bad {l : Nat} (hd : s.laneOn l = true) (h : s.lnCommitBad l = true) : s.lnCommit l = s.raise F.LN_STATUS_CFGERR l := by
  simp [State.lnCommit, hd, h]

theorem lnCommit_good {l : Nat} (hd : s.laneOn l = true) (h : s.lnCommitBad l = false) :
    s.lnCommit l = (((s.commitBlock .LN l).lnEnter l (s.lnMoved l ∨ (s.lnState l == lnOff) = true)).lnLoop l).lnTaps l
      (s.lnChanges l F.LN_TXEQ_PRE || s.lnChanges l F.LN_TXEQ_MAIN || s.lnChanges l F.LN_TXEQ_POST) := by
  unfold State.lnCommit
  rw [if_neg (by simp [hd]), if_neg (by simp [h])]
  rfl

section
variable {l : Nat} {restart : Prop} [Decidable restart] {eq : Bool}

@[simp] theorem reg_lnLoop (r : RegId) (i j k : Nat) : (s.lnLoop l).reg r i j k = s.reg r i j k := by
  unfold State.lnLoop; split <;> rfl

@[simp] theorem fld_lnLoop (g : Fld) (i j k : Nat) : (s.lnLoop l).fld g i j k = s.fld g i j k :=
  congrArg (fldOf g) (reg_lnLoop g.reg i j k)

@[simp] theorem lnLoop_pending : (s.lnLoop l).pending = s.pending := by
  unfold State.lnLoop; split <;> rfl

/-- Only the active taps are written. -/
theorem reg_lnTaps {r : RegId} (h : RegId.apart .LN_STATUS r = true) : (s.lnTaps l eq).reg r l = s.reg r l := by
  unfold State.lnTaps
  split
  · exact reg_takeTaps h l
  · split <;> rfl

theorem fld_lnTaps {g : Fld} (h : ∀ f ∈ tapFlds, f.apart g = true) : (s.lnTaps l eq).fld g l = s.fld g l := by
  unfold State.lnTaps
  split
  · exact fld_takeTaps h l
  · split <;> rfl

theorem amain_lnTaps (h : s.fld F.LN_CFG_TRAIN l = 0) : (s.lnTaps l eq).fld F.LN_STATUS_AMAIN l = s.fld F.LN_TXEQ_MAIN l := by
  rw [State.lnTaps, if_pos h, amain_takeTaps]

@[simp] theorem lnTaps_pending : (s.lnTaps l eq).pending = s.pending := by
  unfold State.lnTaps
  split
  · rfl
  · split <;> rfl

theorem reg_lnEnter {r : RegId} (h : ∀ f ∈ lnEntryFlds, f.reg.apart r = true) : (s.lnEnter l restart).reg r l = s.reg r l := by
  have hs : RegId.apart .LN_STATUS r = true := h F.LN_STATUS_STATE (by simp [lnEntryFlds])
  unfold State.lnEnter
  split
  · rw [reg_setFld_apart hs, reg_setFld_apart hs, reg_setLn h]
  · split
    · exact reg_setLn h l _
    · rfl

theorem lnEnter_off (h : s.fld F.LN_CFG_USE l = 0) : (s.lnEnter l restart).lnState l = lnOff ∧
    (s.lnEnter l restart).flag F.LN_STATUS_LOS l = false ∧ (s.lnEnter l restart).flag F.LN_STATUS_LOL l = false := by
  rw [State.lnEnter, if_pos h]
  refine ⟨?_, ?_, flag_setFld_zero (by decide) l 0 0⟩
  · rw [lnState_setFld (by decide), lnState_setFld (by decide), lnState_setLn l (by decide)]
  · rw [flag_setFld_apart (by decide)]
    exact flag_setFld_zero (by decide) l 0 0

theorem lnEnter_restart (h : s.fld F.LN_CFG_USE l ≠ 0) (hr : restart) : (s.lnEnter l restart).lnState l = lnAcquire := by
  rw [State.lnEnter, if_neg h, if_pos hr, lnState_setLn l (by decide)]

theorem lnEnter_keeps (h : s.fld F.LN_CFG_USE l ≠ 0) (hr : ¬ restart) : s.lnEnter l restart = s := by
  rw [State.lnEnter, if_neg h, if_neg hr]

@[simp] theorem lnEnter_pending : (s.lnEnter l restart).pending = s.pending := by
  unfold State.lnEnter
  split
  · simp
  · split <;> simp

end

/-- A shadowed field of the lane reads its shadow behind the commit. -/
theorem reg_commitLane {r : RegId} (hs : isShadowed r = true) (h : r.inLane = true) (l : Nat) :
    (s.commitBlock .LN l).reg r l = s.shadowReg r l :=
  reg_commitBlock hs (regAddr_inLane h l)

/-- A field reads as its shadow where its register does. -/
theorem fld_of_shadow {t : State} {f : Fld} {i : Nat} (h : t.reg f.reg i = s.shadowReg f.reg i) : t.fld f i = s.sfld f i :=
  congrArg (fldOf f) h

/-- With the same LN_CFG no field asks for a new start. -/
theorem lnMoved_of_same {l : Nat} (h : s.shadowReg .LN_CFG l = s.reg .LN_CFG l) : s.lnMoved l = false := by
  have hsame (f : Fld) (hf : f.reg = .LN_CFG) : s.lnChanges l f = false := by
    simp [State.lnChanges, State.fld, State.sfld, hf, h]
  unfold State.lnMoved
  simp [hsame F.LN_CFG_USE rfl, hsame F.LN_CFG_MOD rfl, hsame F.LN_CFG_DIV rfl, hsame F.LN_CFG_WIDTH rfl,
    hsame F.LN_CFG_TRAIN rfl, hsame F.LN_CFG_BRIDGE rfl, hsame F.LN_CFG_PRECODE rfl, hsame F.LN_CFG_LCLK rfl]

/-- R337, R338, R341: what a commit that is taken does. -/
theorem lnCommit_effect {l : Nat} (hd : s.laneOn l = true) (h : s.lnCommitBad l = false) :
    (s.lnCommit l).reg .LN_CFG l = s.shadowReg .LN_CFG l ∧ (s.lnCommit l).reg .LN_TXEQ l = s.shadowReg .LN_TXEQ l ∧
    (s.sfld F.LN_CFG_USE l = 0 → (s.lnCommit l).lnState l = lnOff ∧ (s.lnCommit l).flag F.LN_STATUS_LOS l = false ∧
      (s.lnCommit l).flag F.LN_STATUS_LOL l = false) ∧
    (s.sfld F.LN_CFG_USE l ≠ 0 → s.lnState l = lnOff → (s.lnCommit l).lnState l = lnAcquire) ∧
    (s.sfld F.LN_CFG_USE l ≠ 0 → s.lnState l ≠ lnOff → s.shadowReg .LN_CFG l = s.reg .LN_CFG l → (s.lnCommit l).lnState l = s.lnState l) ∧
    (s.sfld F.LN_CFG_TRAIN l = 0 → (s.lnCommit l).fld F.LN_STATUS_AMAIN l = s.sfld F.LN_TXEQ_MAIN l) := by
  have hcfg := reg_commitLane (s := s) (r := .LN_CFG) (by decide) (by decide) l
  have htx := reg_commitLane (s := s) (r := .LN_TXEQ) (by decide) (by decide) l
  have huse : (s.commitBlock .LN l).fld F.LN_CFG_USE l = s.sfld F.LN_CFG_USE l := fld_of_shadow hcfg
  have hcfg' := fun (restart : Prop) [Decidable restart] =>
    (reg_lnEnter (restart := restart) (s := s.commitBlock .LN l) (r := .LN_CFG) (l := l) (by decide)).trans hcfg
  have htx' := fun (restart : Prop) [Decidable restart] =>
    (reg_lnEnter (restart := restart) (s := s.commitBlock .LN l) (r := .LN_TXEQ) (l := l) (by decide)).trans htx
  rw [lnCommit_good hd h]
  refine ⟨?_, ?_, ?_, ?_, ?_, ?_⟩
  · rw [reg_lnTaps (by decide), reg_lnLoop, hcfg']
  · rw [reg_lnTaps (by decide), reg_lnLoop, htx']
  · intro h0
    simp only [State.lnState, State.flag, fld_lnTaps (g := F.LN_STATUS_STATE) (by decide),
      fld_lnTaps (g := F.LN_STATUS_LOS) (by decide), fld_lnTaps (g := F.LN_STATUS_LOL) (by decide), fld_lnLoop]
    exact lnEnter_off (huse.trans h0)
  · intro h0 hoff
    rw [State.lnState, fld_lnTaps (by decide), fld_lnLoop]
    exact lnEnter_restart (by rwa [huse]) (.inr (by simp [hoff]))
  · intro h0 hoff hsame
    have hstay : ¬ (s.lnMoved l ∨ (s.lnState l == lnOff) = true) := by simp [lnMoved_of_same hsame, hoff]
    rw [State.lnState, fld_lnTaps (by decide), fld_lnLoop, lnEnter_keeps (by rwa [huse]) hstay]
    rfl
  · intro h0
    rw [amain_lnTaps, fld_lnLoop]
    · exact fld_of_shadow (htx' _)
    · rw [fld_lnLoop, fld_of_shadow (f := F.LN_CFG_TRAIN) (hcfg' _), h0]

theorem lnCommit_pending (l : Nat) : (s.lnCommit l).pending = s.pending := by
  cases hd : s.laneOn l with
  | false => simp [State.lnCommit, hd]
  | true =>
    cases hb : s.lnCommitBad l with
    | true => rw [lnCommit_bad hd hb, raise_pending]
    | false => rw [lnCommit_good hd hb]; simp

end Sys2Proof.Machine
end

section
/-!
PROOF. O48, continued: acquisition and training, words, patterns and eye scans of a lane, and the statement.
-/
namespace Sys2Proof.Machine

open Sys2Proof

variable {s : State} {l : Nat}

/-! ### Acquisition and training (R338 to R341) -/

theorem lnState_acquireDone (hst : s.lnState l = lnAcquire) (hlos : s.flag F.LN_STATUS_LOS l = false)
    (hlol : s.flag F.LN_STATUS_LOL l = false) (hlock : s.flag F.LN_QSTATUS_LOCK (l / 4) = true) :
    (s.acquireDone l).lnState l = if s.fld F.LN_CFG_TRAIN l = 0 then lnReady else lnTrain := by
  unfold State.acquireDone
  rw [if_pos (by simp [hst, hlos, hlol, hlock])]
  split <;> exact lnState_setLn l (by decide)

@[simp] theorem acquireDone_pending : (s.acquireDone l).pending = s.pending := by
  unfold State.acquireDone
  dsimp only
  split
  · split
    · simp
    · rw [setLn_pending]; split <;> rfl
  · rfl

theorem trainingEnd_ok (hst : s.lnState l = lnTrain) : s.trainingEnd l true = s.setLn l lnReady := by
  simp [State.trainingEnd, hst]

theorem trainingEnd_failed (hst : s.lnState l = lnTrain) :
    s.trainingEnd l false = ((s.raise F.LN_STATUS_TRAINFAIL l).count F.LN_CNT_TRFAIL l).setLn l lnAcquire := by
  simp [State.trainingEnd, hst]

/-- The field of LN_STATUS that shows a tap. -/
def Tap.fld : Tap → Fld
  | .pre => F.LN_STATUS_APRE
  | .main => F.LN_STATUS_AMAIN
  | .post => F.LN_STATUS_APOST

/-- The taps after a request of one step of one of them. -/
def State.tapAfter (s : State) (l : Nat) (tap : Tap) (up : Bool) (x : Tap) : Nat :=
  if x = tap then (if up then s.fld x.fld l + 1 else s.fld x.fld l - 1) else s.fld x.fld l

/-- Whether the taps after the request obey R340. -/
def State.tapsAfterGood (s : State) (l : Nat) (tap : Tap) (up : Bool) : Bool :=
  tapsGood (s.tapAfter l tap up .pre) (s.tapAfter l tap up .main) (s.tapAfter l tap up .post)

theorem coefficientRequest_eq (tap : Tap) (up : Bool) : s.coefficientRequest l tap up =
    if s.lnState l = lnTrain ∧ s.tapsAfterGood l tap up ∧ (up ∨ s.fld tap.fld l ≠ 0) then
      s.setFld tap.fld (s.tapAfter l tap up tap) l else s := by
  cases tap <;> rfl

/-- A tap that obeys R340 fits its field. -/
theorem tapAfter_fits {tap : Tap} {up : Bool} (h : s.tapsAfterGood l tap up = true) (x : Tap) :
    s.tapAfter l tap up x ≤ fldMax x.fld := by
  simp only [State.tapsAfterGood, tapsGood, Bool.and_eq_true, decide_eq_true_eq] at h
  obtain ⟨⟨⟨hpre, hmain⟩, hpost⟩, -⟩ := h
  cases x
  · exact hpre
  · exact hmain.2
  · exact hpost

theorem tap_apart {x y : Tap} (h : x ≠ y) : x.fld.apart y.fld = true := by
  revert h
  cases x <;> cases y <;> decide

theorem fld_setFld_tap {tap : Tap} {up : Bool} (h : s.tapsAfterGood l tap up = true) (x : Tap) :
    (s.setFld tap.fld (s.tapAfter l tap up tap) l).fld x.fld l = s.tapAfter l tap up x := by
  by_cases hx : x = tap
  · subst hx
    exact fld_setFld_fits (by cases x <;> decide) (tapAfter_fits h x) l 0 0
  · rw [fld_setFld_apart (tap_apart (Ne.symm hx)), State.tapAfter, if_neg hx]

/-! ### Words (R343, R344) and the checker (R348) -/

theorem checkWord_off (h : s.fld F.LN_TEST_PCHK l = 0) (w : BitVec 128) : s.checkWord l w = s := by
  simp [State.checkWord, h]

/-- What the checker makes of a word, with the errors and the bits that it counts in it. -/
def State.checked (s : State) (l : Nat) (w : BitVec 128) : Checker × Nat × Nat :=
  (List.range (s.lnWidth l)).foldl
    (fun acc i => checkBit (s.fld F.LN_TEST_PCHK l) (s.reg .LN_UPAT l) acc (xor (s.flag F.LN_TEST_PINV l) (w.getLsbD i)))
    ((s.lane l).chk, 0, 0)

theorem checkWord_effect (h : s.fld F.LN_TEST_PCHK l ≠ 0) (w : BitVec 128) :
    ((s.checkWord l w).lane l).chk = (s.checked l w).1 ∧
    (s.checkWord l w).fld F.LN_PCNT_ERRS l = satAdd (fldMax F.LN_PCNT_ERRS) (s.fld F.LN_PCNT_ERRS l) (s.checked l w).2.1 ∧
    (s.checkWord l w).fld F.LN_PBITS_BITS l = satAdd (fldMax F.LN_PBITS_BITS) (s.fld F.LN_PBITS_BITS l) (s.checked l w).2.2 := by
  have heq : s.checkWord l w = (((s.modLane l (fun x => { x with chk := (s.checked l w).1 })).count F.LN_PCNT_ERRS l 0 0
      (s.checked l w).2.1).count F.LN_PBITS_BITS l 0 0 (s.checked l w).2.2).setFld F.LN_STATUS_PLOCK
        (bit (64 ≤ (s.checked l w).1.good)) l := if_neg h
  rw [heq]
  refine ⟨?_, ?_, ?_⟩
  · rw [lane_setFld, State.count, lane_setFld, State.count, lane_setFld, lane_modLane_same]
  · rw [fld_setFld_apart (by decide), State.count, fld_setFld_apart (by decide), fld_count_fits (by decide)]
    rfl
  · rw [fld_setFld_apart (by decide), fld_count_fits (by decide), State.count, fld_setFld_apart (by decide)]
    rfl

@[simp] theorem checkWord_pending (w : BitVec 128) : (s.checkWord l w).pending = s.pending := by
  unfold State.checkWord
  dsimp only
  split <;> rfl

/-- What the FIFO does with the word that the checker has seen. -/
theorem receiveWord_ready (hst : s.lnState l = lnReady) (w : BitVec 128) : s.receiveWord l w =
    (let t := s.checkWord l w
     if t.fld F.LN_CFG_USE l ≠ 1 then t
     else if 32 ≤ (t.lane l).rx.length then (t.count F.LN_CNT_OVF l).raise F.LN_STATUS_OVF l
     else t.modLane l (fun x => { x with rx := x.rx ++ [w] })) :=
  if_neg (by simp [hst])

@[simp] theorem receiveWord_pending (w : BitVec 128) : (s.receiveWord l w).pending = s.pending := by
  unfold State.receiveWord
  dsimp only
  split
  · rfl
  · split
    · simp
    · split <;> simp

/-- The FIFO does not touch the checker. -/
theorem receiveWord_checker (hst : s.lnState l = lnReady) (w : BitVec 128) {g : Fld} (ho : F.LN_CNT_OVF.apart g = true)
    (hv : F.LN_STATUS_OVF.apart g = true) : ((s.receiveWord l w).lane l).chk = ((s.checkWord l w).lane l).chk ∧
      (s.receiveWord l w).fld g l = (s.checkWord l w).fld g l := by
  rw [receiveWord_ready hst]
  dsimp only
  split
  · exact ⟨rfl, rfl⟩
  · split
    · exact ⟨rfl, by rw [State.raise, fld_setFld_apart hv, State.count, fld_setFld_apart ho]⟩
    · exact ⟨by rw [lane_modLane_same], rfl⟩

theorem lane_takeTx_same (v : BitVec 129) : ((s.takeTx l v).lane l).tx =
    if v.getLsbD 128 = true ∧ s.txReady l = true then (s.lane l).tx ++ [v.setWidth 128] else (s.lane l).tx := by
  unfold State.takeTx
  split
  · exact congrArg Lane.tx (lane_modLane_same l _)
  · rfl

theorem lane_takeTx_other {k : Nat} (h : k ≠ l) (v : BitVec 129) : (s.takeTx l v).lane k = s.lane k := by
  unfold State.takeTx
  split
  · exact lane_modLane_other h _
  · rfl

/-- A transmit word reaches the lane's FIFO alone. -/
theorem takeTx_changes (v : BitVec 129) : s.takeTx l v = { s with lanes := (s.takeTx l v).lanes } := by
  unfold State.takeTx
  split <;> rfl

@[simp] theorem sector_modSector_same (x : Nat) (f : Sector → Sector) : (s.modSector x f).sector x = f (s.sector x) := by
  simp [State.sector, State.modSector]

/-- The word at the border of a lane (R228, R253): what the sector that faces it drives, or what its border cells hold. -/
def State.borderTx (s : State) (l : Nat) (txv : Bool) (w : BitVec 128) : BitVec 129 :=
  if s.sectorRuns (quadSector (l / 4)) then bitv txv ++ w else (s.sector (quadSector (l / 4))).tx.get l 0

/-- The state in which the lane takes the word: a sector that runs has driven it. -/
def State.borderDriven (s : State) (l : Nat) (v : BitVec 129) : State :=
  if s.sectorRuns (quadSector (l / 4)) then s.modSector (quadSector (l / 4)) (fun c => { c with tx := c.tx.set l v 0 }) else s

theorem transmitWord_eq (hc : s.laneClock l = true) (txv : Bool) (w : BitVec 128) :
    s.transmitWord l txv w = (s.borderDriven l (s.borderTx l txv w)).takeTx l (s.borderTx l txv w) := by
  unfold State.transmitWord State.borderDriven State.borderTx
  dsimp only
  rw [if_neg (by simp [hc])]
  split <;> rfl

theorem borderDriven_changes (v : BitVec 129) : s.borderDriven l v = { s with sectors := (s.borderDriven l v).sectors } := by
  unfold State.borderDriven
  split <;> rfl

theorem transmitWord_effect (hc : s.laneClock l = true) (txv : Bool) (w : BitVec 128) :
    let v := s.borderTx l txv w
    let t := s.transmitWord l txv w
    (t.lane l).tx = (if v.getLsbD 128 = true ∧ s.txReady l = true then (s.lane l).tx ++ [v.setWidth 128] else (s.lane l).tx) ∧
    (s.sectorRuns (quadSector (l / 4)) = true → (t.sector (quadSector (l / 4))).tx.get l 0 = v) ∧
    (∀ k : Nat, k ≠ l → t.lane k = s.lane k) ∧ t = { s with lanes := t.lanes, sectors := t.sectors } := by
  intro v t
  have hdriven := borderDriven_changes (s := s) (l := l) v
  have hready : (s.borderDriven l v).txReady l = s.txReady l := by rw [hdriven]; rfl
  have hlane (k : Nat) : (s.borderDriven l v).lane k = s.lane k := by rw [hdriven]; rfl
  have htake := takeTx_changes (s := s.borderDriven l v) (l := l) v
  have ht : t = (s.borderDriven l v).takeTx l v := transmitWord_eq hc txv w
  refine ⟨?_, fun hr => ?_, fun k hk => ?_, ?_⟩
  · rw [ht, lane_takeTx_same, hready, hlane]
  · rw [ht, htake]
    show ((s.borderDriven l v).sector _).tx.get l 0 = v
    rw [State.borderDriven, if_pos hr, sector_modSector_same, Tab.get_set_same]
  · rw [ht, lane_takeTx_other hk, hlane]
  · rw [ht, htake, hdriven]

theorem txUnderrun_eq (ho : s.txOpen l = true) (he : (s.lane l).tx = []) :
    s.txUnderrun l = (s.count F.LN_CNT_UNDER l).raise F.LN_STATUS_UNDER l := by
  simp [State.txUnderrun, ho, he]

/-! ### Test patterns (R347 to R349) -/

/-- What a write of LN_TEST refuses. -/
def State.lnTestBad (s : State) (l : Nat) (v : Word) : Prop :=
  7 < fldOf F.LN_TEST_PGEN v ∨ 7 < fldOf F.LN_TEST_PCHK v ∨ (fldOf F.LN_TEST_PGEN v ≠ 0 ∧ s.fld F.LN_CFG_USE l ≠ 1) ∨
    fldOf F.LN_TEST_SJPER v < 4

theorem writeLnTest_bad {v : Word} (h : s.lnTestBad l v) : s.writeLnTest l v = s.setFld F.LN_STATUS_CFGERR 1 l := if_pos h

/-- A write that is taken sets the register's writable bits and starts the checker and its counts again. -/
theorem writeLnTest_good {v : Word} (h : ¬ s.lnTestBad l v) : s.writeLnTest l v =
    (((((s.setReg .LN_TEST (v &&& 0xFFFF007F000003FF#64) l).setFld F.LN_PCNT_ERRS 0 l).setFld F.LN_PBITS_BITS 0 l).setFld
      F.LN_STATUS_PLOCK 0 l).modLane l (fun x => { x with chk := {}, tx := if fldOf F.LN_TEST_PGEN v = 0 then x.tx else [] })) :=
  if_neg h

theorem writeLnTest_effect {v : Word} (h : ¬ s.lnTestBad l v) :
    let t := s.writeLnTest l v
    t.fld F.LN_TEST_PGEN l = fldOf F.LN_TEST_PGEN v ∧ t.fld F.LN_TEST_PCHK l = fldOf F.LN_TEST_PCHK v ∧
    t.fld F.LN_PCNT_ERRS l = 0 ∧ t.fld F.LN_PBITS_BITS l = 0 ∧ t.flag F.LN_STATUS_PLOCK l = false ∧ (t.lane l).chk = {} ∧
    (fldOf F.LN_TEST_PGEN v ≠ 0 → (t.lane l).tx = []) := by
  intro t
  have ht : t = _ := writeLnTest_good h
  rw [ht]
  refine ⟨?_, ?_, ?_, ?_, ?_, ?_, fun hg => ?_⟩
  · rw [modLane_fld, fld_setFld_apart (by decide), fld_setFld_apart (by decide), fld_setFld_apart (by decide)]
    exact (fld_setReg F.LN_TEST_PGEN _ l 0 0).trans (fldOf_and_mask (by decide) (by decide) v)
  · rw [modLane_fld, fld_setFld_apart (by decide), fld_setFld_apart (by decide), fld_setFld_apart (by decide)]
    exact (fld_setReg F.LN_TEST_PCHK _ l 0 0).trans (fldOf_and_mask (by decide) (by decide) v)
  · rw [modLane_fld, fld_setFld_apart (by decide), fld_setFld_apart (by decide), fld_setFld_fits (by decide) (Nat.zero_le _)]
  · rw [modLane_fld, fld_setFld_apart (by decide), fld_setFld_fits (by decide) (Nat.zero_le _)]
  · rw [modLane_flag, flag_setFld_zero (by decide)]
  · rw [lane_modLane_same]
  · rw [lane_modLane_same]; exact if_neg hg

@[simp] theorem writeLnTest_pending (v : Word) : (s.writeLnTest l v).pending = s.pending := by
  unfold State.writeLnTest
  dsimp only
  split <;> rfl

/-- A write of one field of a register carries its value, and the register's other fields as they stand. -/
theorem fldOf_withFld {f : Fld} (hfits : f.fits = true) {v : Nat} (hv : v ≤ fldMax f) : fldOf f (s.withFld f v l) = v :=
  fldOf_putFld_fits hfits hv _

theorem fldOf_withFld_apart {f g : Fld} (hr : g.reg = f.reg) (hs : isShadowed f.reg = false) (h : f.apart g = true) (v : Nat) :
    fldOf g (s.withFld f v l) = s.fld g l := by
  rw [State.withFld, fldOf_putFld_apart h hr.symm, hs, if_neg (by decide), State.fld, hr]

/-! ### Eye scans (R350) -/

/-- The conditions of an eye scan. -/
def State.escanGood (s : State) (l : Nat) (v : Word) : Prop :=
  s.lnState l = lnReady ∧ s.flag F.LN_ESRES_BUSY l = false ∧ 10 ≤ fldOf F.LN_ESCAN_DWELL v ∧ fldOf F.LN_ESCAN_DWELL v ≤ 40 ∧
    (if s.flag F.LN_CFG_MOD l = true then fldOf F.LN_ESCAN_EYE v ≠ 3 else fldOf F.LN_ESCAN_EYE v = 0)

theorem escan_refusal_iff (v : Word) :
    (s.lnState l != lnReady || s.flag F.LN_ESRES_BUSY l || decide (fldOf F.LN_ESCAN_DWELL v < 10) ||
      decide (40 < fldOf F.LN_ESCAN_DWELL v) ||
      (if s.flag F.LN_CFG_MOD l then fldOf F.LN_ESCAN_EYE v == 3 else fldOf F.LN_ESCAN_EYE v != 0)) = true ↔ ¬ s.escanGood l v := by
  unfold State.escanGood
  cases s.flag F.LN_CFG_MOD l <;> cases s.flag F.LN_ESRES_BUSY l <;> simp <;> omega

theorem writeEscan_bad {v : Word} (hg : fldOf F.LN_ESCAN_GO v = 1) (h : ¬ s.escanGood l v) :
    s.writeEscan l v = s.setFld F.LN_STATUS_CFGERR 1 l :=
  if_pos ⟨hg, (escan_refusal_iff v).2 h⟩

theorem writeEscan_good {v : Word} (hg : fldOf F.LN_ESCAN_GO v = 1) (h : s.escanGood l v) :
    s.writeEscan l v = ((s.setReg .LN_ESCAN (v &&& 0x3FFF3F06#64) l).setReg .LN_ESRES 0 l).setFld F.LN_ESRES_BUSY 1 l := by
  have hno : ¬ (fldOf F.LN_ESCAN_GO v = 1 ∧ _) := fun hb => (escan_refusal_iff v).1 hb.2 h
  unfold State.writeEscan
  dsimp only
  rw [if_neg hno, if_pos hg]

theorem writeEscan_effect {v : Word} (hg : fldOf F.LN_ESCAN_GO v = 1) (h : s.escanGood l v) :
    let t := s.writeEscan l v
    t.flag F.LN_ESRES_BUSY l = true ∧ t.flag F.LN_ESRES_DONE l = false ∧ t.fld F.LN_ESCAN_DWELL l = fldOf F.LN_ESCAN_DWELL v ∧
    t.fld F.LN_ESCAN_PHASE l = fldOf F.LN_ESCAN_PHASE v := by
  intro t
  have ht : t = _ := writeEscan_good hg h
  rw [ht]
  refine ⟨flag_setFld_one (by decide) l 0 0, ?_, ?_, ?_⟩
  · rw [flag_setFld_apart (by decide), State.flag]
    exact congrArg (· != 0) (fld_setReg F.LN_ESRES_DONE 0 l 0 0)
  · rw [fld_setFld_apart (by decide), fld_setReg_apart (by decide)]
    exact (fld_setReg F.LN_ESCAN_DWELL _ l 0 0).trans (fldOf_and_mask (by decide) (by decide) v)
  · rw [fld_setFld_apart (by decide), fld_setReg_apart (by decide)]
    exact (fld_setReg F.LN_ESCAN_PHASE _ l 0 0).trans (fldOf_and_mask (by decide) (by decide) v)

theorem writeEscan_pending {v : Word} (hg : fldOf F.LN_ESCAN_GO v = 1) : (s.writeEscan l v).pending = s.pending := by
  by_cases h : s.escanGood l v
  · rw [writeEscan_good hg h]; rfl
  · rw [writeEscan_bad hg h]; rfl

/-- R350: where an eye scan runs, its end writes the disagreements up to one per bit. -/
theorem escanDone_effect (hb : s.flag F.LN_ESRES_BUSY l = true) (hd : s.fld F.LN_ESCAN_DWELL l ≤ 40) (errs : Nat) :
    let t := s.escanDone l errs
    t.fld F.LN_ESRES_ERRS l = min errs (2 ^ s.fld F.LN_ESCAN_DWELL l) ∧ t.flag F.LN_ESRES_DONE l = true ∧
    t.flag F.LN_ESRES_BUSY l = false := by
  intro t
  have ht : t = _ := if_pos hb
  have hfit : min errs (2 ^ s.fld F.LN_ESCAN_DWELL l) ≤ fldMax F.LN_ESRES_ERRS :=
    calc min errs (2 ^ s.fld F.LN_ESCAN_DWELL l) ≤ 2 ^ s.fld F.LN_ESCAN_DWELL l := Nat.min_le_right _ _
      _ ≤ 2 ^ 40 := Nat.pow_le_pow_right (by omega) hd
      _ ≤ fldMax F.LN_ESRES_ERRS := by decide
  rw [ht]
  refine ⟨?_, flag_setFld_one (by decide) l 0 0, ?_⟩
  · rw [fld_setFld_apart (by decide), fld_setFld_apart (by decide), fld_setFld_fits (by decide) hfit]
  · rw [flag_setFld_apart (by decide), flag_setFld_zero (by decide)]

/-- A master's write of a register that is answered OK. -/
theorem exec_of_regWrite {c : Instr} {mid : MasterId} {r : RegId} {i : Nat} {v : Word} {t : State}
    (hc : exec c s = .next (s.keep (s.writeAs mid r i 0 v))) (h : s.ReachesReg mid r i true)
    (hw : s.regWrite mid r i 0 0 v = (.ok, t)) (hp : t.pending = s.pending) : exec c s = .next (t.noteRsp mid .ok []) := by
  rw [hc, writeAs_of_reaches h, hw, keep_eq (by simpa using hp)]

/-! ### The commands of test patterns and eye scans -/

section
variable {k : Fin 144} {mid : MasterId} {pat : BitVec 4} {v : Word}

theorem exec_pgen (h : s.ReachesReg mid .LN_TEST k true) : exec (.pgen mid k pat) s =
    .next ((s.writeLnTest k (s.withFld F.LN_TEST_PGEN pat.toNat k)).noteRsp mid .ok []) :=
  exec_of_regWrite rfl h rfl (writeLnTest_pending _)

theorem exec_pchk (h : s.ReachesReg mid .LN_TEST k true) : exec (.pchk mid k pat) s =
    .next ((s.writeLnTest k (s.withFld F.LN_TEST_PCHK pat.toNat k)).noteRsp mid .ok []) :=
  exec_of_regWrite rfl h rfl (writeLnTest_pending _)

theorem patFits : pat.toNat ≤ 15 := Nat.le_of_lt_succ pat.isLt

theorem exec_pgen_refused (h : s.ReachesReg mid .LN_TEST k true)
    (hb : 7 < pat.toNat ∨ (pat.toNat ≠ 0 ∧ s.fld F.LN_CFG_USE k ≠ 1)) :
    exec (.pgen mid k pat) s = .next ((s.setFld F.LN_STATUS_CFGERR 1 k).noteRsp mid .ok []) := by
  have hgen : fldOf F.LN_TEST_PGEN (s.withFld F.LN_TEST_PGEN pat.toNat k) = pat.toNat := fldOf_withFld (by decide) patFits
  rw [exec_pgen h, writeLnTest_bad]
  rw [State.lnTestBad, hgen]
  exact hb.imp_right (fun hu => .inr (.inl hu))

theorem exec_pchk_refused (h : s.ReachesReg mid .LN_TEST k true) (hb : 7 < pat.toNat) :
    exec (.pchk mid k pat) s = .next ((s.setFld F.LN_STATUS_CFGERR 1 k).noteRsp mid .ok []) := by
  have hchk : fldOf F.LN_TEST_PCHK (s.withFld F.LN_TEST_PCHK pat.toNat k) = pat.toNat := fldOf_withFld (by decide) patFits
  rw [exec_pchk h, writeLnTest_bad]
  rw [State.lnTestBad, hchk]
  exact .inr (.inl hb)

/-- R347: a pattern that is taken stands in PGEN, and the transmit FIFO loses its words to it. -/
theorem pgen_effect (huse : s.fld F.LN_CFG_USE l = 1) (hper : 4 ≤ s.fld F.LN_TEST_SJPER l) (hchk : s.fld F.LN_TEST_PCHK l ≤ 7)
    (h7 : pat.toNat ≤ 7) :
    let t := s.writeLnTest l (s.withFld F.LN_TEST_PGEN pat.toNat l)
    t.fld F.LN_TEST_PGEN l = pat.toNat ∧ t.fld F.LN_TEST_PCHK l = s.fld F.LN_TEST_PCHK l ∧ (pat.toNat ≠ 0 → (t.lane l).tx = []) := by
  have hgen : fldOf F.LN_TEST_PGEN (s.withFld F.LN_TEST_PGEN pat.toNat l) = pat.toNat := fldOf_withFld (by decide) patFits
  have hgenChk : fldOf F.LN_TEST_PCHK (s.withFld F.LN_TEST_PGEN pat.toNat l) = s.fld F.LN_TEST_PCHK l :=
    fldOf_withFld_apart (f := F.LN_TEST_PGEN) (g := F.LN_TEST_PCHK) rfl (by decide) (by decide) _
  have hgenPer : fldOf F.LN_TEST_SJPER (s.withFld F.LN_TEST_PGEN pat.toNat l) = s.fld F.LN_TEST_SJPER l :=
    fldOf_withFld_apart (f := F.LN_TEST_PGEN) (g := F.LN_TEST_SJPER) rfl (by decide) (by decide) _
  have hgood : ¬ s.lnTestBad l (s.withFld F.LN_TEST_PGEN pat.toNat l) := by
    rw [State.lnTestBad, hgen, hgenChk, hgenPer, huse]; omega
  obtain ⟨hg, hc, -, -, -, -, htx⟩ := writeLnTest_effect hgood
  exact ⟨hg.trans hgen, hc.trans hgenChk, fun h0 => htx (by rwa [hgen])⟩

/-- R348: a pattern that is taken stands in PCHK, and the checker and its counts start again. -/
theorem pchk_effect (huse : s.fld F.LN_CFG_USE l = 1) (hper : 4 ≤ s.fld F.LN_TEST_SJPER l) (hgen : s.fld F.LN_TEST_PGEN l ≤ 7)
    (h7 : pat.toNat ≤ 7) :
    let t := s.writeLnTest l (s.withFld F.LN_TEST_PCHK pat.toNat l)
    t.fld F.LN_TEST_PCHK l = pat.toNat ∧ t.fld F.LN_TEST_PGEN l = s.fld F.LN_TEST_PGEN l ∧ t.fld F.LN_PCNT_ERRS l = 0 ∧
    t.fld F.LN_PBITS_BITS l = 0 ∧ t.flag F.LN_STATUS_PLOCK l = false ∧ (t.lane l).chk = {} := by
  have hchk : fldOf F.LN_TEST_PCHK (s.withFld F.LN_TEST_PCHK pat.toNat l) = pat.toNat := fldOf_withFld (by decide) patFits
  have hchkGen : fldOf F.LN_TEST_PGEN (s.withFld F.LN_TEST_PCHK pat.toNat l) = s.fld F.LN_TEST_PGEN l :=
    fldOf_withFld_apart (f := F.LN_TEST_PCHK) (g := F.LN_TEST_PGEN) rfl (by decide) (by decide) _
  have hchkPer : fldOf F.LN_TEST_SJPER (s.withFld F.LN_TEST_PCHK pat.toNat l) = s.fld F.LN_TEST_SJPER l :=
    fldOf_withFld_apart (f := F.LN_TEST_PCHK) (g := F.LN_TEST_SJPER) rfl (by decide) (by decide) _
  have hgood : ¬ s.lnTestBad l (s.withFld F.LN_TEST_PCHK pat.toNat l) := by
    rw [State.lnTestBad, hchk, hchkGen, hchkPer, huse]; omega
  obtain ⟨hg, hc, herrs, hbits, hlock, hchecker, -⟩ := writeLnTest_effect hgood
  exact ⟨hc.trans hchk, hg.trans hchkGen, herrs, hbits, hlock, hchecker⟩

theorem escanGo (v : Word) : fldOf F.LN_ESCAN_GO (putFld F.LN_ESCAN_GO 1 v) = 1 := fldOf_putFld_fits (by decide) (by decide) v

theorem fldOf_escanGo {g : Fld} (h : F.LN_ESCAN_GO.apart g = true) (hr : F.LN_ESCAN_GO.reg = g.reg) (v : Word) :
    fldOf g (putFld F.LN_ESCAN_GO 1 v) = fldOf g v := fldOf_putFld_apart h hr 1 v

/-- The conditions of an eye scan do not look at GO. -/
theorem escanGood_go (v : Word) : s.escanGood l (putFld F.LN_ESCAN_GO 1 v) ↔ s.escanGood l v := by
  simp only [State.escanGood, fldOf_escanGo (g := F.LN_ESCAN_DWELL) (by decide) rfl, fldOf_escanGo (g := F.LN_ESCAN_EYE) (by decide) rfl]

theorem exec_eyeScan (h : s.ReachesReg mid .LN_ESCAN k true) : exec (.eyeScan mid k v) s =
    .next ((s.writeEscan k (putFld F.LN_ESCAN_GO 1 v)).noteRsp mid .ok []) :=
  exec_of_regWrite rfl h rfl (writeEscan_pending (escanGo v))

theorem exec_eyeScan_refused (h : s.ReachesReg mid .LN_ESCAN k true) (hb : ¬ s.escanGood k v) :
    exec (.eyeScan mid k v) s = .next ((s.setFld F.LN_STATUS_CFGERR 1 k).noteRsp mid .ok []) := by
  rw [exec_eyeScan h, writeEscan_bad (escanGo v) ((escanGood_go v).not.2 hb)]

theorem eyeScan_effect (h : s.escanGood l v) :
    let t := s.writeEscan l (putFld F.LN_ESCAN_GO 1 v)
    t.flag F.LN_ESRES_BUSY l = true ∧ t.flag F.LN_ESRES_DONE l = false ∧ t.fld F.LN_ESCAN_DWELL l = fldOf F.LN_ESCAN_DWELL v ∧
    t.fld F.LN_ESCAN_PHASE l = fldOf F.LN_ESCAN_PHASE v := by
  obtain ⟨hbusy, hdone, hdwell, hphase⟩ := writeEscan_effect (escanGo v) ((escanGood_go v).2 h)
  exact ⟨hbusy, hdone, hdwell.trans (fldOf_escanGo (g := F.LN_ESCAN_DWELL) (by decide) rfl v), hphase.trans (fldOf_escanGo (g := F.LN_ESCAN_PHASE) (by decide) rfl v)⟩

end

/-- Settles O48: an event on a lane or quad has the effect of its operation, and the links look at their bonds behind it. -/
theorem lanesTrainCarryWordsAndLoseLock : Obligations.LanesTrainCarryWordsAndLoseLock := by
  intro s l q ln watched
  refine ⟨bondWatch_of_down, ?_, ?_, ?_, ?_, ?_, ?_⟩
  · -- R336: the commit of a quad
    intro mid q hreach ref m
    have hpower : s.domOn (domLQ q) = true := (hreach.2.1 _ rfl).1
    refine ⟨fun hgood => ?_, fun hbad => ?_⟩
    · refine watched_writeAs rfl hreach (t := s.lnqCommit q) rfl ?_ ?_
      all_goals rw [lnqCommit_good hpower hgood]
      · rfl
      · refine ⟨?_, flag_setFld_zero (by decide) q 0 0, rfl⟩
        exact (reg_setFld_apart (by decide) 0 q).trans (reg_commitBlock (by decide) (qpll_holds q))
    · refine watched_writeAs rfl hreach (t := s.lnqCommit q) rfl ?_ ?_
      all_goals rw [lnqCommit_refused hpower hbad]
      · rfl
      · exact ⟨reg_setFld_apart (by decide) 1 q, flag_setFld_one (by decide) q 0 0, rfl⟩
  · -- R335, R336: lock and reference of a quad
    intro q hlive
    refine ⟨fun href => ?_, ?_, ?_⟩
    · have hlock : s.quadLock q = s.setFld F.LN_QSTATUS_LOCK 1 q := if_pos (by simp [domOn_of_live hlive, href])
      refine watched_inDom rfl hlive ?_ ?_
      all_goals rw [hlock]
      · rfl
      · exact flag_setFld_one (by decide) q 0 0
    · exact watched_inDom rfl hlive (refLoss_pending q) (refLoss_effect (domOn_of_live hlive))
    · exact watched_inDom rfl hlive rfl ⟨flag_setFld_zero (by decide) q 0 0, rfl⟩
  · -- R337: the commit of a lane
    intro mid hreach
    have hpower : s.laneOn l = true := (hreach.2.1 _ rfl).1
    refine ⟨fun hbad => ?_, fun hgood => ?_⟩
    · refine watched_writeAs rfl hreach (t := s.lnCommit l) rfl (lnCommit_pending l) ?_
      rw [lnCommit_bad hpower hbad]
      exact ⟨flag_setFld_one (by decide) l 0 0, reg_setFld_apart (by decide) 1 l, lnState_setFld (by decide) 1 l⟩
    · exact watched_writeAs rfl hreach (t := s.lnCommit l) rfl (lnCommit_pending l) (lnCommit_effect hpower hgood)
  · -- the events of a lane
    intro hlive st
    have hpower : s.laneOn l = true := domOn_of_live hlive
    refine ⟨?_, ?_, ?_, ?_, ?_, ?_, ?_, ?_, ?_, ?_, ?_, ?_⟩
    · intro hst hlos hlol hlock
      exact watched_inDom rfl hlive acquireDone_pending (lnState_acquireDone hst hlos hlol hlock)
    · intro hst
      refine ⟨watched_inDom rfl hlive ?_ ?_, watched_inDom rfl hlive ?_ ?_⟩
      · rw [trainingEnd_ok hst, setLn_pending]
      · rw [trainingEnd_ok hst, lnState_setLn l (by decide)]
      · rw [trainingEnd_failed hst, setLn_pending]; rfl
      · rw [trainingEnd_failed hst]
        refine ⟨lnState_setLn l (by decide), ?_, ?_⟩
        · rw [flag_setLn (by decide), State.count, flag_setFld_apart (by decide)]
          exact flag_setFld_one (by decide) l 0 0
        · rw [fld_setLn (by decide), fld_count_fits (by decide), State.raise, fld_setFld_apart (by decide)]
    · intro tap up hst step old new
      refine ⟨fun hgood hup => ?_, fun hbad => ?_⟩
      · have hgood' : s.tapsAfterGood l tap up = true := by cases tap <;> exact hgood
        have hold : up = true ∨ s.fld tap.fld l ≠ 0 := by cases tap <;> exact hup
        have heq : s.coefficientRequest l tap up = s.setFld tap.fld (s.tapAfter l tap up tap) l := by
          rw [coefficientRequest_eq, if_pos ⟨hst, hgood', hold⟩]
        refine answers_inDom rfl hlive (by rw [heq]; rfl) ?_
        rw [heq]
        exact ⟨fld_setFld_tap hgood' .pre, fld_setFld_tap hgood' .main, fld_setFld_tap hgood' .post⟩
      · have hbad' : ¬ s.tapsAfterGood l tap up = true := ne_true_of_eq_false (by cases tap <;> exact hbad)
        have heq : s.coefficientRequest l tap up = s := by
          rw [coefficientRequest_eq, if_neg (fun h => hbad' h.2.1)]
        exact answers_inDom rfl hlive (by rw [heq]) heq
    · intro hoff hlos
      have heq := losRise_eq hoff hlos hpower
      refine watched_inDom rfl hlive (by rw [heq, detectorRise_pending]) ?_
      rw [heq]
      exact ⟨flag_detectorRise (by decide) (by decide) (by decide) (by decide), event_detectorRise (by decide) (by decide) (by decide),
        count_detectorRise (by decide) (by decide) (by decide) (by decide), lnState_detectorRise (by decide) (by decide) (by decide),
        pend_detectorRise (by decide) (by decide) (by decide)⟩
    · intro hoff hlol
      have heq := lolRise_eq hoff hlol hpower
      refine watched_inDom rfl hlive (by rw [heq, detectorRise_pending]) ?_
      rw [heq]
      exact ⟨flag_detectorRise (by decide) (by decide) (by decide) (by decide), event_detectorRise (by decide) (by decide) (by decide),
        count_detectorRise (by decide) (by decide) (by decide) (by decide), lnState_detectorRise (by decide) (by decide) (by decide)⟩
    · have hclear : (s.setFld F.LN_STATUS_LOS 0 l).flag F.LN_STATUS_LOS l = false := flag_setFld_zero (by decide) l 0 0
      refine watched_inDom rfl hlive (lnRecover_pending l) ⟨?_, ?_⟩
      · exact (flag_lnRecover (by decide) l).trans hclear
      · rw [State.losClear, lnState_lnRecover, lnState_setFld (by decide), flag_setFld_apart (g := F.LN_STATUS_LOL) (by decide), hclear]
        simp [st]
    · intro hlock
      have hclear : (s.setFld F.LN_STATUS_LOL 0 l).flag F.LN_STATUS_LOL l = false := flag_setFld_zero (by decide) l 0 0
      have heq : s.lolClear l = (s.setFld F.LN_STATUS_LOL 0 l).lnRecover l := if_pos hlock
      refine watched_inDom rfl hlive (by rw [heq, lnRecover_pending]; rfl) ?_
      rw [heq]
      refine ⟨(flag_lnRecover (by decide) l).trans hclear, ?_⟩
      rw [lnState_lnRecover, lnState_setFld (by decide), flag_setFld_apart (g := F.LN_STATUS_LOS) (by decide), hclear]
      simp [st]
    · intro w hst hoff huse
      have heq := receiveWord_ready hst w
      rw [checkWord_off hoff] at heq
      dsimp only at heq
      rw [if_neg (not_not.2 huse)] at heq
      refine ⟨fun hroom => ?_, fun hfull => ?_⟩
      · rw [if_neg (Nat.not_le.2 hroom)] at heq
        refine answers_inDom rfl hlive (receiveWord_pending w) ?_
        rw [heq]
        exact ⟨by rw [lane_modLane_same], fun k hk => lane_modLane_other hk _, rfl⟩
      · rw [if_pos hfull] at heq
        refine answers_inDom rfl hlive (receiveWord_pending w) ?_
        rw [heq]
        refine ⟨rfl, flag_setFld_one (by decide) l 0 0, ?_⟩
        rw [State.raise, fld_setFld_apart (by decide), fld_count_fits (by decide)]
    · intro w hst hon x
      obtain ⟨hchk, herrs, hbits⟩ := checkWord_effect hon w
      refine answers_inDom rfl hlive (receiveWord_pending w) ⟨?_, ?_, ?_⟩
      · exact (receiveWord_checker hst w (g := F.LN_PCNT_ERRS) (by decide) (by decide)).1.trans hchk
      · exact (receiveWord_checker hst w (by decide) (by decide)).2.trans herrs
      · exact (receiveWord_checker hst w (by decide) (by decide)).2.trans hbits
    · intro txv w x v
      refine ⟨fun hclock => ?_, fun hclock => ?_⟩
      · have heffect := transmitWord_effect hclock txv w
        exact answers_inDom rfl hlive (by rw [heffect.2.2.2]) heffect
      · have heq : s.transmitWord l txv w = s := if_pos (by simp [hclock])
        exact answers_inDom rfl hlive (by rw [heq]) heq
    · intro hopen hempty
      have heq := txUnderrun_eq hopen hempty
      refine answers_inDom rfl hlive (by rw [heq]; rfl) ?_
      rw [heq]
      refine ⟨flag_setFld_one (by decide) l 0 0, ?_⟩
      rw [State.raise, fld_setFld_apart (by decide), fld_count_fits (by decide)]
    · intro errs hbusy hdwell
      refine answers_inDom rfl hlive ?_ (escanDone_effect hbusy hdwell errs)
      rw [State.escanDone, if_pos hbusy]
      rfl
  · -- R347, R348: test patterns
    intro mid pat hreach ok
    have hne (h0 : pat ≠ 0) : pat.toNat ≠ 0 := fun h => h0 (BitVec.eq_of_toNat_eq h)
    refine ⟨fun hbig => ⟨?_, ?_⟩, fun h0 huse => ?_, fun hok h7 => ?_⟩
    · exact exec_pgen_refused hreach (.inl hbig)
    · exact exec_pchk_refused hreach hbig
    · exact exec_pgen_refused hreach (.inr ⟨hne h0, huse⟩)
    · obtain ⟨huse, hper, hchk, hgen⟩ := hok
      obtain ⟨hg, hc, htx⟩ := pgen_effect huse hper hchk h7
      exact ⟨⟨_, exec_pgen hreach, hg, hc, fun h0 => htx (hne h0)⟩, _, exec_pchk hreach, pchk_effect huse hper hgen h7⟩
  · -- R350: eye scans
    intro mid v hreach dw eye good
    exact ⟨exec_eyeScan_refused hreach, fun hgood => ⟨_, exec_eyeScan hreach, eyeScan_effect hgood⟩⟩

end Sys2Proof.Machine
end

section
/-!
SUPPORT. What the network's own bookkeeping changes on a request's way: monitors, arbiters, interfaces and requests, and of the
registers only those of the arbiters and the monitors.
-/
namespace Sys2Proof.Machine

open Sys2Proof

variable {s t : State}

/-- The addresses of the arbiters' registers and of the monitors', behind which no other block lies (R28). -/
def netAddr (a : Nat) : Prop := (0x001803000000 ≤ a ∧ a < 0x001804000000) ∨ 0x00180e000000 ≤ a

/-- t differs from s in the network's bookkeeping alone. -/
structure NetChange (s t : State) : Prop where
  rest : t = { s with regs := t.regs, plic := t.plic, arbs := t.arbs, nis := t.nis, xacts := t.xacts, time := t.time }
  regs : ∀ a d, ¬ netAddr a → t.regs.get a d = s.regs.get a d

namespace NetChange

theorem refl (s : State) : NetChange s s := ⟨rfl, fun _ _ _ => rfl⟩

theorem trans {a b c : State} (h : NetChange a b) (g : NetChange b c) : NetChange a c :=
  ⟨by rw [g.rest, h.rest], fun k d hk => (g.regs k d hk).trans (h.regs k d hk)⟩

/-- A register that lies elsewhere reads as before. -/
theorem reg (h : NetChange s t) {r : RegId} {i j k : Nat} (hr : ¬ netAddr (regAddr r i j k)) : t.reg r i j k = s.reg r i j k := by
  have hwork : t.work = s.work := by rw [h.rest]
  unfold State.reg
  rw [hwork, h.regs _ _ hr]

/-- A shadowed register reads as before, wherever it lies. -/
theorem reg_shadowed (h : NetChange s t) {r : RegId} (hr : isShadowed r = true) (i j k : Nat) : t.reg r i j k = s.reg r i j k := by
  have hwork : t.work = s.work := by rw [h.rest]
  unfold State.reg
  rw [if_pos hr, if_pos hr, hwork]

theorem fld (h : NetChange s t) {f : Fld} {i j k : Nat} (hr : ¬ netAddr (regAddr f.reg i j k)) : t.fld f i j k = s.fld f i j k :=
  congrArg (fldOf f) (h.reg hr)

theorem flag (h : NetChange s t) {f : Fld} {i j k : Nat} (hr : ¬ netAddr (regAddr f.reg i j k)) : t.flag f i j k = s.flag f i j k := by
  rw [State.flag, h.fld hr]; rfl

theorem flag_shadowed (h : NetChange s t) {f : Fld} (hf : isShadowed f.reg = true) (i j k : Nat) : t.flag f i j k = s.flag f i j k :=
  congrArg (fun w => fldOf f w != 0) (h.reg_shadowed hf i j k)

theorem cell (h : NetChange s t) (n j : Nat) : t.cell n j = s.cell n j := by
  have hs : t.slices = s.slices := by rw [h.rest]
  unfold State.cell; rw [hs]

theorem xnext (h : NetChange s t) : t.xnext = s.xnext := by rw [h.rest]
theorem slcs (h : NetChange s t) : t.slcs = s.slcs := by rw [h.rest]

theorem domOn (h : NetChange s t) {d : Nat} (hd : d < 0x800) : t.domOn d = s.domOn d := by
  unfold State.domOn
  rw [h.reg]
  simp only [netAddr, regAddr, regInst, RegId.desc, Block.place]
  omega

theorem fenced (h : NetChange s t) (d : Nat) : t.fenced d = s.fenced d := by
  have hp : t.pwr = s.pwr := by rw [h.rest]
  unfold State.fenced; rw [hp]

section
variable {n : Nat}

/-- The registers of a slice are not the network's. -/
theorem not_netAddr_slc {r : RegId} (hr : r = .SLC_STATUS ∨ r = .SLC_CTRL) (hn : n < 256) : ¬ netAddr (regAddr r n) := by
  rcases hr with rfl | rfl
  all_goals
    simp only [netAddr, regAddr, regInst, RegId.desc, Block.place]
    omega

theorem sliceBlock (h : NetChange s t) (hn : n < 256) : t.sliceBlock n = s.sliceBlock n := by
  have hd : domSL (n / 4) < 0x800 := by unfold domSL; omega
  unfold State.sliceBlock State.sliceOn
  rw [h.domOn hd, h.flag (f := F.SLC_STATUS_FILLING) (not_netAddr_slc (.inl rfl) hn),
    h.flag (f := F.SLC_CTRL_RETIRE) (not_netAddr_slc (.inr rfl) hn)]

theorem bgtCode (h : NetChange s t) (hn : n < 256) : t.bgtCode n = s.bgtCode n :=
  h.fld (f := F.SLC_STATUS_BGTSTEP) (not_netAddr_slc (.inl rfl) hn)

theorem ckSlice (h : NetChange s t) : t.ckSlice n = s.ckSlice n := by
  have hr : ¬ netAddr (regAddr .ERR_CKCTRL) := by
    simp only [netAddr, regAddr, regInst, RegId.desc, Block.place]
    omega
  unfold State.ckSlice
  rw [h.flag (f := F.ERR_CKCTRL_EN) hr, h.fld (f := F.ERR_CKCTRL_KIND) hr, h.fld (f := F.ERR_CKCTRL_INST) hr]

theorem right (h : NetChange s t) (m : Nat) (g : Region) (w : Bool) : t.right m g w = s.right m g w := by
  have hr : ¬ netAddr (regAddr .DBG_STATUS) := by
    simp only [netAddr, regAddr, regInst, RegId.desc, Block.place]
    omega
  have hfuses : t.fuses = s.fuses := by rw [h.rest]
  have hlevel : t.dbgLevel = s.dbgLevel := by
    unfold State.dbgLevel
    rw [hfuses, h.fld (f := F.DBG_STATUS_LEVEL) hr]
  unfold State.right State.debugRight
  rw [hlevel]

end

/-! ### What does so -/

theorem setReg {r : RegId} (hs : isShadowed r = false) {i j k : Nat} (h : netAddr (regAddr r i j k)) (s : State) (v : Word) :
    NetChange s (s.setReg r v i j k) := by
  rw [setReg_regs hs]
  refine ⟨rfl, fun a d ha => Tab.get_set_other _ ?_ _ _ _⟩
  rintro rfl
  exact ha h

theorem setFld {f : Fld} (hs : isShadowed f.reg = false) {i j k : Nat} (h : netAddr (regAddr f.reg i j k)) (s : State) (v : Nat) :
    NetChange s (s.setFld f v i j k) := setReg hs h s _

theorem modArb (s : State) (i : Nat) (f : Arb → Arb) : NetChange s (s.modArb i f) := ⟨rfl, fun _ _ _ => rfl⟩
theorem modNi (s : State) (n : Nat) (f : Ni → Ni) : NetChange s (s.modNi n f) := ⟨rfl, fun _ _ _ => rfl⟩
theorem atTime (s : State) (m : Nat) : NetChange s (s.atTime m) := ⟨rfl, fun _ _ _ => rfl⟩
theorem pendIrq (s : State) (m : Nat) : NetChange s (s.pendIrq m) := ⟨rfl, fun _ _ _ => rfl⟩

theorem modXact (s : State) (n : Nat) (f : Xact → Xact) : NetChange s (s.modXact n f) := by
  unfold State.modXact
  split
  · exact ⟨rfl, fun _ _ _ => rfl⟩
  · exact .refl s

/-- The monitors' registers lie behind all others. -/
theorem netAddr_pmon {r : RegId} (h : r.desc.blk = .PMON) (i j k : Nat) : netAddr (regAddr r i j k) := by
  simp only [netAddr, regAddr, h, Block.place]
  omega

theorem pmonEvent (s : State) (i evt port n : Nat) (p : Bool) : NetChange s (s.pmonEvent i evt port n p) := by
  have hset (f : Fld) (hf : f.reg.desc.blk = .PMON) (hs : isShadowed f.reg = false) (a : State) (v j : Nat) :
      NetChange a (a.setFld f v i j) := setFld hs (netAddr_pmon hf i j 0) a v
  unfold State.pmonEvent State.forAll
  split
  · exact .refl s
  · refine foldl_ind (P := NetChange s) (fun a j ha => ?_) _ s (.refl s)
    dsimp only
    have hcount (v : Nat) := ha.trans (hset F.PMON_CNT_COUNT rfl (by decide) a v j)
    split
    · split
      · exact hcount _
      · have hovf (v w : Nat) := (hcount v).trans (hset F.PMON_STATUS_OVF rfl (by decide) _ w 0)
        split
        · exact (hovf _ _).trans (pendIrq _ _)
        · exact hovf _ _
    · exact ha

theorem pmonPacket (s : State) (i port : Nat) (p : PktInfo) : NetChange s (s.pmonPacket i port p) := by
  unfold State.pmonPacket
  split
  · exact .refl s
  · exact (pmonEvent ..).trans ((pmonEvent ..).trans (pmonEvent ..))

theorem pmonHop (s : State) (r out : Nat) (p : PktInfo) : NetChange s (s.pmonHop r out p) := by
  unfold State.pmonHop
  dsimp only
  split
  · exact (pmonPacket ..).trans (pmonEvent ..)
  · exact pmonPacket ..

end NetChange

/-! ### Monitors leave requests, interfaces and arbiters alone -/

/-- t has the requests, the interfaces and the arbiters of s, and no arbiter has cut another requester. -/
structure SameTraffic (s t : State) : Prop where
  xacts : t.xacts = s.xacts
  nis : t.nis = s.nis
  arbs : t.arbs = s.arbs
  cut : ∀ i, i < 781 → t.fld F.ARB_STATUS_CUT i = s.fld F.ARB_STATUS_CUT i

theorem SameTraffic.refl (s : State) : SameTraffic s s := ⟨rfl, rfl, rfl, fun _ _ => rfl⟩

theorem SameTraffic.trans {a b c : State} (h : SameTraffic a b) (g : SameTraffic b c) : SameTraffic a c :=
  ⟨g.xacts.trans h.xacts, g.nis.trans h.nis, g.arbs.trans h.arbs, fun i hi => (g.cut i hi).trans (h.cut i hi)⟩

theorem SameTraffic.setFld {f : Fld} (hf : f.reg.desc.blk = .PMON) (s : State) (v i j : Nat) : SameTraffic s (s.setFld f v i j) := by
  refine ⟨rfl, rfl, rfl, fun m hm => fld_setFld_reg (fun he => ?_) v⟩
  have hpmon : 0x00180e000000 ≤ regAddr f.reg i j := by
    simp only [regAddr, hf, Block.place]
    omega
  have harb : regAddr .ARB_STATUS m < 0x00180e000000 := by
    simp only [regAddr, regInst, RegId.desc, Block.place]
    omega
  have he' : regAddr .ARB_STATUS m = regAddr f.reg i j := he
  omega

theorem SameTraffic.pmonEvent (s : State) (i evt port n : Nat) (p : Bool) : SameTraffic s (s.pmonEvent i evt port n p) := by
  unfold State.pmonEvent State.forAll
  split
  · exact .refl s
  · refine foldl_ind (P := SameTraffic s) (fun a j ha => ?_) _ s (.refl s)
    dsimp only
    have hcount (v : Nat) := ha.trans (SameTraffic.setFld (f := F.PMON_CNT_COUNT) rfl a v i j)
    split
    · split
      · exact hcount _
      · have hovf (v w : Nat) := (hcount v).trans (SameTraffic.setFld (f := F.PMON_STATUS_OVF) rfl _ w i 0)
        split
        · exact (hovf _ _).trans ⟨rfl, rfl, rfl, fun _ _ => rfl⟩
        · exact hovf _ _
    · exact ha

theorem SameTraffic.pmonPacket (s : State) (i port : Nat) (p : PktInfo) : SameTraffic s (s.pmonPacket i port p) := by
  unfold State.pmonPacket
  split
  · exact .refl s
  · exact (pmonEvent ..).trans ((pmonEvent ..).trans (pmonEvent ..))

theorem SameTraffic.pmonHop (s : State) (r out : Nat) (p : PktInfo) : SameTraffic s (s.pmonHop r out p) := by
  unfold State.pmonHop
  dsimp only
  split
  · exact (pmonPacket ..).trans (pmonEvent ..)
  · exact pmonPacket ..

/-! ### A packet's walk (R269) -/

theorem portOpen_of_work {s t : State} (h : t.work = s.work) (r p : Nat) : t.portOpen r p = s.portOpen r p := by
  have hshadow : isShadowed F.NOC_CFG_PEN.reg = true := by decide
  unfold State.portOpen State.fld State.reg
  rw [if_pos hshadow, if_pos hshadow, h]

/-- A step of a walk: the packet passes the router's hold and leaves by a port. -/
def State.passPort (s : State) (r m : Nat) (p : PktInfo) : State := (s.passHold r p.rt).pmonHop r m p

theorem passPort_effect (s : State) (r m : Nat) (p : PktInfo) : NetChange s (s.passPort r m p) ∧ SameTraffic s (s.passPort r m p) :=
  have hhold : NetChange s (s.passHold r p.rt) ∧ SameTraffic s (s.passHold r p.rt) := ⟨⟨rfl, fun _ _ _ => rfl⟩, rfl, rfl, rfl, fun _ _ => rfl⟩
  ⟨hhold.1.trans (.pmonHop (s.passHold r p.rt) r m p), hhold.2.trans (.pmonHop (s.passHold r p.rt) r m p)⟩

/-- A walk changes the monitors and the time alone, and ends where the open ports lead it. -/
theorem walk_effect (p : PktInfo) (ms : List Nat) : ∀ (r : Nat) (s : State),
    NetChange s (s.walk p r ms).2 ∧ SameTraffic s (s.walk p r ms).2 ∧
      ∀ t : State, t.work = s.work → (t.walk p r ms).1 = (s.walk p r ms).1 := by
  induction ms with
  | nil => exact fun r s => ⟨.refl s, .refl s, fun _ _ => rfl⟩
  | cons m ms ih =>
    intro r s
    simp only [State.walk]
    cases hopen : s.portOpen r m with
    | false =>
      refine ⟨.refl s, .refl s, fun t ht => ?_⟩
      simp [portOpen_of_work ht, hopen]
    | true =>
      cases hnext : meshNext r m with
      | none =>
        refine ⟨.refl s, .refl s, fun t ht => ?_⟩
        simp [portOpen_of_work ht, hopen]
      | some q =>
        obtain ⟨hnet, htraffic⟩ := passPort_effect s r m p
        obtain ⟨hnet', htraffic', hend⟩ := ih q (s.passPort r m p)
        refine ⟨hnet.trans hnet', htraffic.trans htraffic', fun t ht => ?_⟩
        rw [portOpen_of_work ht, hopen]
        have hwork : ∀ a : State, (a.passPort r m p).work = a.work := fun a => by rw [(passPort_effect a r m p).1.rest]
        exact hend (t.passPort r m p) (by rw [hwork, hwork, ht])

/-- The same for a walk that leaves the last router by its exit. -/
theorem walkTo_effect (s : State) (p : PktInfo) (r : Nat) (entry : Word) (e : Nat) :
    NetChange s (s.walkTo p r entry e).2 ∧ SameTraffic s (s.walkTo p r entry e).2 ∧
      ∀ t : State, t.work = s.work → (t.walkTo p r entry e).1 = (s.walkTo p r entry e).1 := by
  have hwork (a : State) : (a.walk p r (routeMoves entry)).2.work = a.work := by rw [(walk_effect p (routeMoves entry) r a).1.rest]
  obtain ⟨hnet, htraffic, hend⟩ := walk_effect p (routeMoves entry) r s
  have hs := hwork s
  unfold State.walkTo
  generalize hq : s.walk p r (routeMoves entry) = q at hnet htraffic hend hs
  obtain ⟨w, u⟩ := q
  have hsame (t : State) (ht : t.work = s.work) : ∃ v : State, t.walk p r (routeMoves entry) = (w, v) ∧ v.work = s.work :=
    ⟨(t.walk p r (routeMoves entry)).2, Prod.ext (hend t ht) rfl, (hwork t).trans ht⟩
  cases w with
  | drop q =>
    refine ⟨hnet, htraffic, fun t ht => ?_⟩
    obtain ⟨v, hv, -⟩ := hsame t ht
    rw [hv]
  | reach q =>
    dsimp only
    split
    · refine ⟨hnet, htraffic, fun t ht => ?_⟩
      obtain ⟨v, hv, -⟩ := hsame t ht
      rw [hv]
    · cases hopen : u.portOpen q e with
      | false =>
        refine ⟨hnet, htraffic, fun t ht => ?_⟩
        obtain ⟨v, hv, hvw⟩ := hsame t ht
        simp [hv, portOpen_of_work (hvw.trans hs.symm), hopen]
      | true =>
        obtain ⟨hnet', htraffic'⟩ := passPort_effect u q e p
        refine ⟨hnet.trans hnet', htraffic.trans htraffic', fun t ht => ?_⟩
        obtain ⟨v, hv, hvw⟩ := hsame t ht
        simp [hv, portOpen_of_work (hvw.trans hs.symm), hopen]

end Sys2Proof.Machine
end

section
/-!
SUPPORT. The arbiter of a slice's port B (R159, R287): a bulk access that waits alone is granted and performed, and the arbiter is
free behind it.
-/
namespace Sys2Proof.Machine

open Sys2Proof

variable {s : State} {i : Nat}

@[simp] theorem arb_modArb_same (i : Nat) (f : Arb → Arb) : (s.modArb i f).arb i = f (s.arb i) := by
  simp [State.arb, State.modArb]

/-- What an operation of arbiter i does beside its counts: the requests and the interfaces stay, what waits at it stays, and its
owner becomes o. -/
structure ArbStep (i : Nat) (o : Option Nat) (s t : State) : Prop where
  net : NetChange s t
  xacts : t.xacts = s.xacts
  wq : (t.arb i).wq = (s.arb i).wq
  owner : (t.arb i).owner = o

/-- The registers of the arbiters of the slices are the network's. -/
theorem netAddr_arb {r : RegId} (h : r = .ARB_STATUS ∨ r = .ARB_CNT) (hi : i < 781) {j : Nat} (hj : j < 8) : netAddr (regAddr r i j) := by
  rcases h with rfl | rfl
  all_goals
    simp only [netAddr, regAddr, regInst, RegId.desc, Block.place]
    omega

/-- A write of an arbiter's status or counts is no more than that. -/
theorem ArbStep.setFld {f : Fld} (h : f.reg = .ARB_STATUS ∨ f.reg = .ARB_CNT) (hs : isShadowed f.reg = false) (hi : i < 781) {j : Nat}
    (hj : j < 8) {o : Option Nat} {t : State} (ht : ArbStep i o s t) (v : Nat) : ArbStep i o s (t.setFld f v i j) :=
  ⟨ht.net.trans (.setFld hs (netAddr_arb h hi hj) t v), ht.xacts, ht.wq, ht.owner⟩

theorem arbRelease_step (hi : i < 781) (s : State) : ArbStep i none s (s.arbRelease i) :=
  .setFld (t := s.modArb i fun x => { x with owner := none }) (.inl rfl) (by decide) hi (by decide)
    ⟨.modArb .., rfl, by rw [arb_modArb_same], by rw [arb_modArb_same]⟩ 0

/-- R476: a grant counts at the arbiter's monitor. -/
def State.grantSeen (s : State) (i w : Nat) (pass : Nat → Bool) : State :=
  match arbPmon i with
  | some q => s.pmonEvent q.1 0x05 q.2 1 (pass w)
  | none => s

/-- R287: the new owner has waited and used nothing yet. -/
def Arb.grantedTo (x : Arb) (w : Nat) : Arb := { x with owner := some w, last := w, wait := x.wait.set w 0 0, used := 0, held := 0 }

theorem grantSeen_step (w : Nat) (pass : Nat → Bool) (s : State) : ArbStep i (s.arb i).owner s (s.grantSeen i w pass) := by
  unfold State.grantSeen
  split
  · rename_i q _
    have h := SameTraffic.pmonEvent s q.1 0x05 q.2 1 (pass w)
    exact ⟨.pmonEvent .., h.xacts, by rw [State.arb, h.arbs]; rfl, by rw [State.arb, h.arbs]; rfl⟩
  · exact ⟨.refl s, rfl, rfl, rfl⟩

/-- R288: the counts of a grant. -/
theorem arbTake_eq (w : Nat) (forced : Bool) (pass : Nat → Bool) (s : State) : ∃ grants forcedCount wait,
    s.arbTake i w forced pass = ((((((s.grantSeen i w pass).modArb i (·.grantedTo w)).setFld F.ARB_STATUS_OWNER w i).setFld
      F.ARB_STATUS_OWNED 1 i).setFld F.ARB_CNT_GRANTS grants i w).setFld F.ARB_CNT_FORCED forcedCount i w).setFld
        F.ARB_CNT_MAXWAIT wait i w :=
  ⟨_, _, _, rfl⟩

theorem arbTake_step (hi : i < 781) {w : Nat} (hw : w < 8) (forced : Bool) (pass : Nat → Bool) (s : State) :
    ArbStep i (some w) s (s.arbTake i w forced pass) := by
  obtain ⟨grants, forcedCount, wait, heq⟩ := arbTake_eq (i := i) w forced pass s
  have hcount := grantSeen_step (i := i) w pass s
  have hown : ArbStep i (some w) s ((s.grantSeen i w pass).modArb i (·.grantedTo w)) :=
    ⟨hcount.net.trans (.modArb ..), hcount.xacts, by rw [arb_modArb_same]; exact hcount.wq, by rw [arb_modArb_same]; rfl⟩
  have hstatus := (hown.setFld (f := F.ARB_STATUS_OWNER) (.inl rfl) (by decide) hi (j := 0) (by decide) w).setFld
    (f := F.ARB_STATUS_OWNED) (.inl rfl) (by decide) hi (j := 0) (by decide) 1
  rw [heq]
  exact ((hstatus.setFld (f := F.ARB_CNT_GRANTS) (.inr rfl) (by decide) hi hw _).setFld (f := F.ARB_CNT_FORCED) (.inr rfl) (by decide) hi
    hw _).setFld (f := F.ARB_CNT_MAXWAIT) (.inr rfl) (by decide) hi hw _

/-- Of one requester the round-robin scan finds that one. -/
theorem highestPrio_one (s : State) (i last : Nat) : s.highestPrio i last [1] = some 1 := by
  have horder : ((List.range 8).map (fun k => (last + 1 + k) % 8)).filter (([1] : List Nat).contains ·) = [1] := by
    have hmod (k : Nat) : (last + 1 + k) % 8 = (last % 8 + 1 + k) % 8 := by omega
    simp only [hmod]
    have hlt : last % 8 < 8 := Nat.mod_lt _ (by decide)
    generalize last % 8 = m at hlt
    interval_cases m <;> decide
  unfold State.highestPrio
  rw [horder]
  simp

/-- R287: bulk, which asks alone and is not cut, owns the arbiter behind the decision. -/
theorem arbDecide_one (hi : i < 781) (hcut : (s.fld F.ARB_STATUS_CUT i).testBit 1 = false) (pass : Nat → Bool) :
    ArbStep i (some 1) s (s.arbDecide i [1] pass) := by
  have he : ([1] : List Nat).filter (fun r => !(s.fld F.ARB_STATUS_CUT i).testBit r) = [1] := by simp [hcut]
  unfold State.arbDecide
  dsimp only
  rw [he]
  generalize hf : ([1] : List Nat).filter _ = f
  have hf1 : f = [1] ∨ f = [] := by
    rw [← hf, List.filter_cons]
    split
    · exact .inl rfl
    · exact .inr rfl
  have hnew (a : State) (ha : ArbStep i none s a) : ArbStep i (some 1) s
      (if (a.arb i).owner ≠ none then a
       else match largestWait (a.arb i).wait f with
         | some w => a.arbTake i w true pass
         | none => match a.highestPrio i (a.arb i).last [1] with
           | some w => a.arbTake i w false pass
           | none => a) := by
    have htake (forced : Bool) : ArbStep i (some 1) s (a.arbTake i 1 forced pass) := by
      have h := arbTake_step hi (w := 1) (by decide) forced pass a
      exact ⟨ha.net.trans h.net, h.xacts.trans ha.xacts, h.wq.trans ha.wq, h.owner⟩
    rw [if_neg (by simp [ha.owner])]
    rcases hf1 with rfl | rfl
    · exact htake true
    · simp only [largestWait, highestPrio_one]
      exact htake false
  cases ho : (s.arb i).owner with
  | none => exact hnew s ⟨.refl s, rfl, rfl, ho⟩
  | some o =>
    dsimp only
    split
    · exact hnew _ (arbRelease_step hi s)
    · rename_i hgo
      have ho1 : o = 1 := by
        by_contra hne
        simp [hne] at hgo
      rw [if_pos (by simp [ho])]
      exact ⟨.refl s, rfl, rfl, by rw [ho, ho1]⟩

/-- R287: with no requester the owner goes, and nobody takes its place. -/
theorem arbDecide_none (hi : i < 781) (pass : Nat → Bool) : ArbStep i none s (s.arbDecide i [] pass) := by
  have hidle (a : State) : a.highestPrio i (a.arb i).last [] = none := by simp [State.highestPrio]
  unfold State.arbDecide
  dsimp only
  cases ho : (s.arb i).owner with
  | none =>
    simp only [ho, ne_eq, not_true_eq_false, if_false, List.filter_nil, largestWait, hidle]
    exact ⟨.refl s, rfl, rfl, ho⟩
  | some o =>
    have hr := arbRelease_step hi s
    simp only [List.contains_nil, Bool.not_false, Bool.true_or, if_true, hr.owner, ne_eq, not_true_eq_false, if_false, List.filter_nil,
      largestWait, hidle]
    exact hr

/-- Change of an arbiter that keeps what waits there. -/
theorem wq_modArb {f : Arb → Arb} (hf : ∀ x, (f x).wq = x.wq) (s : State) : ((s.modArb i f).arb i).wq = (s.arb i).wq := by
  rw [arb_modArb_same, hf]

/-- R287: the cycles of a transfer count to waits and hold, and may cut the owner. -/
theorem arbCycles_step (hi : i < 781) (req : List Nat) (n : Nat) (s : State) :
    NetChange s (s.arbCycles i req n) ∧ (s.arbCycles i req n).xacts = s.xacts ∧ ((s.arbCycles i req n).arb i).wq = (s.arb i).wq := by
  unfold State.arbCycles
  dsimp only
  generalize List.foldl _ (s.arb i).wait req = waits
  have hwait : NetChange s (s.modArb i (fun x => { x with wait := waits })) := .modArb ..
  have hwq : ((s.modArb i (fun x => { x with wait := waits })).arb i).wq = (s.arb i).wq := wq_modArb (f := fun x => { x with wait := waits }) (fun _ => rfl) s
  have hx : (s.modArb i (fun x => { x with wait := waits })).xacts = s.xacts := rfl
  generalize s.modArb i (fun x => { x with wait := waits }) = a at hwait hwq hx
  split
  · exact ⟨hwait, hx, hwq⟩
  · generalize (s.arb i).held + n = h
    have hheld := hwait.trans (NetChange.modArb a i (fun x => { x with held := h }))
    have hwq' := (wq_modArb (f := fun x => { x with held := h }) (fun _ => rfl) a).trans hwq
    split
    · have haddr : netAddr (regAddr F.ARB_STATUS_CUT.reg i 0) := netAddr_arb (.inl rfl) hi (by decide)
      exact ⟨hheld.trans (.setFld (by decide) haddr _ _), hx, hwq'⟩
    · exact ⟨hheld, hx, hwq'⟩

/-! ### A bulk access alone at its arbiter -/

theorem portReq_of_empty (h : (s.arb i).wq = []) : s.portReq i = [] := by
  simp [State.portReq, h]

theorem portReq_of_one {w : ArbWait} (h : (s.arb i).wq = [w]) (hw : w.req = 1) : s.portReq i = [1] := by
  simp only [State.portReq, h, List.any_cons, List.any_nil, Bool.or_false, hw]
  rfl

theorem xacts_modXact_same {n : Nat} {x : Xact} (h : s.xacts.get n none = some x) (f : Xact → Xact) :
    (s.modXact n f).xacts.get n none = some (f x) := by
  simp [State.modXact, h]

theorem modXact_arbs (n : Nat) (f : Xact → Xact) : (s.modXact n f).arbs = s.arbs := by
  unfold State.modXact; split <;> rfl

/-- The state in which the owner's access is performed: it waits no longer. -/
def State.granted (s : State) (i : Nat) (w : ArbWait) : State := s.modArb i (fun a => { a with wq := a.wq.erase w })

/-- What the arbiter does behind the access: one part of the request is left less, and its cycles and units count. -/
def State.servedUnits (s : State) (i n u : Nat) : State :=
  let t := s.modXact n (fun y => { y with left := y.left - 1 })
  (t.arbCycles i (t.portReq i) u).modArb i (fun a => { a with used := a.used + u })

theorem arbServe_one {w : ArbWait} {x : Xact} {g : Region} (hwq : (s.arb i).wq = [w]) (hreq : w.req = 1)
    (hx : s.xacts.get w.xid none = some x) (hg : regionAt x.addr = some g) :
    s.arbServe i 1 = ((s.granted i w).serveAccess w.xid x g w.first w.count).servedUnits i w.xid (arbUnits g x w.first w.count) := by
  have hfind : (s.arb i).wq.find? (fun w => w.req == 1) = some w := by simp [hwq, hreq]
  have hx' : (s.granted i w).xacts.get w.xid none = some x := hx
  unfold State.arbServe
  rw [hfind]
  dsimp only
  rw [← State.granted, hx']
  dsimp only
  rw [hg]
  rfl

theorem servedUnits_effect (hi : i < 781) {n u : Nat} {z : Xact} (hz : s.xacts.get n none = some z) :
    NetChange s (s.servedUnits i n u) ∧ (s.servedUnits i n u).xacts.get n none = some { z with left := z.left - 1 } ∧
      ((s.servedUnits i n u).arb i).wq = (s.arb i).wq := by
  unfold State.servedUnits
  dsimp only
  generalize (s.modXact n _).portReq i = req
  have hx := xacts_modXact_same hz (fun y => { y with left := y.left - 1 })
  have hnet := NetChange.modXact s n (fun y => { y with left := y.left - 1 })
  have harb : ((s.modXact n (fun y => { y with left := y.left - 1 })).arb i).wq = (s.arb i).wq := by
    rw [State.arb, modXact_arbs]; rfl
  generalize s.modXact n (fun y => { y with left := y.left - 1 }) = a at hx hnet harb
  obtain ⟨hcyc, hcycx, hcycq⟩ := arbCycles_step hi req u a
  refine ⟨hnet.trans (hcyc.trans (.modArb ..)), ?_, ?_⟩
  · show (a.arbCycles i req u).xacts.get n none = _
    rw [hcycx, hx]
  · rw [wq_modArb (f := fun x => { x with used := x.used + u }) (fun _ => rfl), hcycq, harb]

/-- R159, R287: the access is granted and performed on the state as it stands, and the arbiter has no owner behind it. The access
leaves the arbiters as they are. -/
theorem arbDrain_one (hi : i < 781) {w : ArbWait} {x : Xact} {g : Region} (hwq : (s.arb i).wq = [w]) (hreq : w.req = 1)
    (hcut : (s.fld F.ARB_STATUS_CUT i).testBit 1 = false) (hx : s.xacts.get w.xid none = some x) (hg : regionAt x.addr = some g) :
    ∃ a, NetChange s a ∧ a.xacts = s.xacts ∧
      ∀ z, (a.serveAccess w.xid x g w.first w.count).arbs = a.arbs →
        (a.serveAccess w.xid x g w.first w.count).xacts.get w.xid none = some z →
        NetChange (a.serveAccess w.xid x g w.first w.count) (s.arbDrain i 2) ∧
          (s.arbDrain i 2).xacts.get w.xid none = some { z with left := z.left - 1 } := by
  have htake := arbDecide_one hi hcut (s.arbPasses i)
  refine ⟨(s.arbDecide i [1] (s.arbPasses i)).granted i w, htake.net.trans (.modArb ..), htake.xacts, fun z harbs hz => ?_⟩
  have hserve := arbServe_one (htake.wq.trans hwq) hreq (by rw [htake.xacts]; exact hx) hg
  obtain ⟨hnet, hxact, hq⟩ := servedUnits_effect hi (u := arbUnits g x w.first w.count) hz
  rw [← hserve] at hnet hxact hq
  have hempty : (((s.arbDecide i [1] (s.arbPasses i)).arbServe i 1).arb i).wq = [] := by
    rw [hq, State.arb, harbs]
    show (((s.arbDecide i [1] (s.arbPasses i)).modArb i _).arb i).wq = []
    rw [arb_modArb_same]
    simp [htake.wq, hwq]
  have hfree := arbDecide_none hi (s := (s.arbDecide i [1] (s.arbPasses i)).arbServe i 1)
    (((s.arbDecide i [1] (s.arbPasses i)).arbServe i 1).arbPasses i)
  have hdrain : s.arbDrain i 2 = ((s.arbDecide i [1] (s.arbPasses i)).arbServe i 1).arbDecide i []
      (((s.arbDecide i [1] (s.arbPasses i)).arbServe i 1).arbPasses i) := by
    simp only [State.arbDrain, portReq_of_one hwq hreq, htake.owner, portReq_of_empty hempty, hfree.owner]
  rw [hdrain]
  exact ⟨hnet.trans hfree.net, by rw [hfree.xacts, hxact]⟩

end Sys2Proof.Machine
end

section
/-!
SUPPORT. What port B of a slice in service does with one word whose region the background test does not hold (R158 to R166).
-/
namespace Sys2Proof.Machine

open Sys2Proof

variable {s t : State} {k j : Nat}

/-- t is s with code word j of slice k at c; other code words, the requests and the arbiters are those of s. -/
structure Stored (s t : State) (k j : Nat) (c : Code64) : Prop where
  cell : t.cell k j = c
  others : ∀ m w : Nat, w < 131072 → ¬ (m = k ∧ w = j) → t.cell m w = s.cell m w
  xnext : t.xnext = s.xnext
  xacts : t.xacts = s.xacts
  arbs : t.arbs = s.arbs

/-- The code word keeps its value where nothing of the slices, the requests and the arbiters changes. -/
theorem Stored.of_same (hslices : t.slices = s.slices) (hxnext : t.xnext = s.xnext) (hxacts : t.xacts = s.xacts)
    (harbs : t.arbs = s.arbs) : Stored s t k j (s.cell k j) :=
  ⟨by rw [State.cell, hslices]; rfl, fun m w _ _ => by rw [State.cell, hslices]; rfl, hxnext, hxacts, harbs⟩

/-- A step that changes no code word may come before. -/
theorem Stored.after {a : State} {c : Code64} (hslices : a.slices = s.slices) (hxnext : a.xnext = s.xnext) (hxacts : a.xacts = s.xacts)
    (harbs : a.arbs = s.arbs) (h : Stored a t k j c) : Stored s t k j c :=
  ⟨h.cell, fun m w hw hn => (h.others m w hw hn).trans (by rw [State.cell, hslices]; rfl), h.xnext.trans hxnext, h.xacts.trans hxacts,
    h.arbs.trans harbs⟩

theorem Stored.setCell (hj : j < 131072) (s : State) (c : Code64) : Stored s (s.setCell k j c) k j c :=
  ⟨cell_setCell_same k j c, fun _ _ hw hn => cell_setCell_other hj hw hn c, rfl, rfl, rfl⟩

/-- Outside its steps the background test yields nothing to an access. -/
theorem bgtYieldWords_idle (h : s.bgtCode k < 3) (first count : Nat) (a w : Bool) : s.bgtYieldWords k first count a w = s := by
  unfold State.bgtYieldWords State.bgtYield
  dsimp only
  rw [if_neg (by omega), if_neg (by omega), if_neg (by omega)]

/-- R160: a corrected or uncorrectable word is counted and logged. -/
theorem noteSliceRead_same (mid : MasterId) (d : Decoded64) :
    (s.noteSliceRead k j mid d).slices = s.slices ∧ (s.noteSliceRead k j mid d).xnext = s.xnext ∧
      (s.noteSliceRead k j mid d).xacts = s.xacts ∧ (s.noteSliceRead k j mid d).arbs = s.arbs := by
  unfold State.noteSliceRead
  cases d.kind <;> exact ⟨rfl, rfl, rfl, rfl⟩

/-- R160: the answer of a read of a code word. -/
def readReply (d : Decoded64) : WordReply := { data := d.data, poison := d.poison, status := if d.poison then .epoison else .ok }

/-- R164: the code word behind an atomic: that of its result, or as it was where a comparison fails. -/
def atomicCode (op : AtomicOp) (c : Code64) (v cmp : Word) : Code64 :=
  match atomicResult op (decode64 c).data v cmp with
  | some r => encode64 r
  | none => c

section
variable (hblock : s.sliceBlock k = none) (hbgt : s.bgtCode k < 3) (hck : s.ckSlice k = false)
include hblock hbgt hck

theorem sliceRead_inService (mid : MasterId) : ∃ u, Stored s u k j (s.cell k j) ∧
    s.sliceRead mid k j = (readReply (decode64 (s.cell k j)), u) := by
  obtain ⟨hs, hn, hx, ha⟩ := noteSliceRead_same (s := s) (k := k) (j := j) mid (decode64 (s.cell k j))
  refine ⟨_, .of_same hs hn hx ha, ?_⟩
  simp [State.sliceRead, hblock, bgtYieldWords_idle hbgt, State.pairing, hck, readReply]

theorem sliceWrite_inService (hj : j < 131072) (mid : MasterId) (v : Word) (p : Bool) : ∃ u, Stored s u k j (store64 v p) ∧
    s.sliceWrite mid k j v p = ({}, u) := by
  refine ⟨_, .setCell hj s _, ?_⟩
  simp [State.sliceWrite, hblock, bgtYieldWords_idle hbgt, State.pairing, hck]

theorem sliceAtomic_inService (hj : j < 131072) (hpoison : (decode64 (s.cell k j)).poison = false) (mid : MasterId) (op : AtomicOp)
    (v cmp : Word) : ∃ u, Stored s u k j (atomicCode op (s.cell k j) v cmp) ∧
      s.sliceAtomic mid k j op v cmp false = ({ data := (decode64 (s.cell k j)).data }, u) := by
  obtain ⟨hs, hn, hx, ha⟩ := noteSliceRead_same (s := s) (k := k) (j := j) mid (decode64 (s.cell k j))
  have hform : s.sliceAtomic mid k j op v cmp false = ({ data := (decode64 (s.cell k j)).data },
      match atomicResult op (decode64 (s.cell k j)).data v cmp with
      | some r => (s.noteSliceRead k j mid (decode64 (s.cell k j))).setCell k j (encode64 r)
      | none => s.noteSliceRead k j mid (decode64 (s.cell k j))) := by
    simp only [State.sliceAtomic, hblock, bgtYieldWords_idle hbgt, State.pairing, hck]
    cases hr : atomicResult op (decode64 (s.cell k j)).data v cmp <;> simp [hpoison, hr]
  refine ⟨_, ?_, hform⟩
  unfold atomicCode
  cases atomicResult op (decode64 (s.cell k j)).data v cmp with
  | none => exact .of_same hs hn hx ha
  | some r => exact .after hs hn hx ha (.setCell hj _ _)

end

/-! ### The word of a request -/

/-- The request with the result of its word i. -/
def Xact.took (x : Xact) (i : Nat) (r : WordReply) : Xact :=
  { x with words := x.words.set i r.data 0, poison := x.poison.set i r.poison false,
           fails := if r.status = .ok then x.fails else x.fails ++ [(i, r.status)] }

theorem takeWord_xacts {n : Nat} {y : Xact} (h : s.xacts.get n none = some y) (i : Nat) (r : WordReply) :
    (s.takeWord n i r).xacts.get n none = some (y.took i r) := xacts_modXact_same h _

/-- Serving x's word 0 at slice k leaves code c in word j and the result r. -/
def State.Serves (s : State) (n : Nat) (x : Xact) (k j : Nat) (c : Code64) (r : WordReply) : Prop :=
  ∃ u, Stored s u k j c ∧ s.atSlice n x k 0 1 = u.takeWord n 0 r

section
variable {n : Nat} {x : Xact} (hk : k < 256) (hblock : s.sliceBlock k = none) (hbgt : s.bgtCode k < 3) (hck : s.ckSlice k = false)
  (hword : x.addr % 0x100000 / 8 = j) (hsame : x.same = false)

/-- R476: the access counts at the slice's monitor. -/
def State.sliceSeen (s : State) (k : Nat) : State := s.pmonEvent (76 + k) 0x31 0 1

/-- Port B counts the access first, which changes nothing that serves it. -/
theorem Stored.afterSeen {u : State} {c : Code64} (h : Stored (s.sliceSeen k) u k j c) : Stored s u k j c :=
  have hsame := SameTraffic.pmonEvent s (76 + k) 0x31 0 1 true
  have hnet := NetChange.pmonEvent s (76 + k) 0x31 0 1 true
  .after (by rw [hnet.rest]) hnet.xnext hsame.xacts hsame.arbs h

theorem seen_cell : (s.sliceSeen k).cell k j = s.cell k j := cell_pmonEvent ..

include hk hblock hbgt hck

/-- The slice is in service behind the count too. -/
theorem seen_inService : (s.sliceSeen k).sliceBlock k = none ∧ (s.sliceSeen k).bgtCode k < 3 ∧ (s.sliceSeen k).ckSlice k = false := by
  have h := NetChange.pmonEvent s (76 + k) 0x31 0 1 true
  exact ⟨(h.sliceBlock hk).trans hblock, lt_of_eq_of_lt (h.bgtCode hk) hbgt, h.ckSlice.trans hck⟩

include hword hsame

theorem serves_read (hkind : x.kind = .read) : s.Serves n x k j (s.cell k j) (readReply (decode64 (s.cell k j))) := by
  obtain ⟨hb, hc, hk'⟩ := seen_inService hk hblock hbgt hck
  obtain ⟨u, hu, hread⟩ := sliceRead_inService (j := j) hb hc hk' x.mid
  rw [seen_cell] at hu hread
  refine ⟨u, hu.afterSeen, ?_⟩
  unfold State.sliceSeen at hread
  simp [State.atSlice, hblock, hkind, State.eachWord, State.forAll, hword, hsame, hread]

theorem serves_write (hj : j < 131072) {v : Word} {p : Bool} (hkind : x.kind = .write) (hpar : x.par 0 = (v, p)) {y : Xact}
    (hx : s.xacts.get n none = some y) (hfails : y.fails = []) : s.Serves n x k j (store64 v p) {} := by
  obtain ⟨hb, hc, hk'⟩ := seen_inService hk hblock hbgt hck
  obtain ⟨u, hu, hwrite⟩ := sliceWrite_inService hb hc hk' hj x.mid v p
  have hu := hu.afterSeen
  have htook := takeWord_xacts (n := n) (s := u) (by rw [hu.xacts]; exact hx) 0 {}
  have hclean : (y.took 0 {}).fails = [] := hfails
  refine ⟨u, hu, ?_⟩
  unfold State.sliceSeen at hwrite
  generalize ({} : WordReply) = r at hwrite htook hclean ⊢
  simp [State.atSlice, hblock, hkind, State.eachWord, State.forAll, hword, hsame, hpar, hwrite, htook, hclean]

theorem serves_atomic (hj : j < 131072) (hpoison : (decode64 (s.cell k j)).poison = false) {op : AtomicOp} {v cmp : Word}
    (hkind : x.kind = .atomic op) (hpar : x.wpar = [(v, false), (cmp, false)]) :
    s.Serves n x k j (atomicCode op (s.cell k j) v cmp) { data := (decode64 (s.cell k j)).data } := by
  obtain ⟨hb, hc, hk'⟩ := seen_inService hk hblock hbgt hck
  obtain ⟨u, hu, hatomic⟩ := sliceAtomic_inService hb hc hk' hj (by rw [seen_cell]; exact hpoison) x.mid op v cmp
  rw [seen_cell] at hu hatomic
  refine ⟨u, hu.afterSeen, ?_⟩
  unfold State.sliceSeen at hatomic
  simp [State.atSlice, hblock, hkind, State.eachWord, State.forAll, hword, hsame, Xact.par, Xact.opPoison, hpar, hatomic]

end

end Sys2Proof.Machine
end

section
/-!
SUPPORT. A bulk request of one word on its way to a slice (R262, R269, R278, R285): at its NI, along the routers, at the border of the
slice's domain, at the target's NI, at port B's arbiter.
-/
namespace Sys2Proof.Machine

open Sys2Proof

/-- y is request x on its way: sent or not, with what is left of it and the NIs that answer it. -/
def Underway (x y : Xact) : Prop := y = { x with sent := y.sent, time := y.time, left := y.left, holders := y.holders }

variable {b s t : State} {n k j : Nat} {x y : Xact} {c : Code64} {r : WordReply}

/-- From s to t the request n of a word of slice k is performed: its word j is c, other words are as before, and the request stands
as y. -/
structure Performed (s t : State) (n k j : Nat) (c : Code64) (y : Xact) : Prop where
  cell : t.cell k j = c
  others : ∀ m w : Nat, w < 131072 → ¬ (m = k ∧ w = j) → t.cell m w = s.cell m w
  xnext : t.xnext = s.xnext
  xact : t.xacts.get n none = some y

theorem Performed.before {a : State} (h : NetChange s a) (p : Performed a t n k j c y) : Performed s t n k j c y :=
  ⟨p.cell, fun m w hw hn => (p.others m w hw hn).trans (h.cell m w), p.xnext.trans h.xnext, p.xact⟩

theorem Performed.behind {u : State} {z : Xact} (p : Performed s t n k j c y) (h : NetChange t u) (hz : u.xacts.get n none = some z) :
    Performed s u n k j c z :=
  ⟨(h.cell k j).trans p.cell, fun m w hw hn => (h.cell m w).trans (p.others m w hw hn), h.xnext.trans p.xnext, hz⟩

/-- What holds of a request x of word j of slice k, of number n, in the state b that it meets: it leaves code c there and has the
result r. -/
structure ForWord (b : State) (n : Nat) (x : Xact) (k j : Nat) (c : Code64) (r : WordReply) : Prop where
  slice : k < 256
  region : regionAt x.addr = some (.slice k)
  kind : x.kind ≠ .reserved
  whole : x.narrow = false
  len : x.len = 1
  bulk : x.rt = false
  plain : x.inspect = false
  right : b.right x.mid.toNat (.slice k) (x.kind != .read) = true
  serves : ∀ a y, NetChange b a → Underway x y → a.xacts.get n none = some y → a.Serves n y k j c r

/-- In s request x stands as y, nothing but the network's bookkeeping has changed since b, and nothing waits at port B. -/
structure OnWay (b s : State) (n k : Nat) (x y : Xact) : Prop where
  net : NetChange b s
  under : Underway x y
  xact : s.xacts.get n none = some y
  free : (s.arb (512 + k)).wq = []
  uncut : (s.fld F.ARB_STATUS_CUT (512 + k)).testBit 1 = false

theorem fld_modXact (m : Nat) (f : Xact → Xact) (g : Fld) (i : Nat) : (s.modXact m f).fld g i = s.fld g i := by
  unfold State.modXact; split <;> rfl

namespace OnWay

variable (h : OnWay b s n k x y)
include h

theorem modNi (m : Nat) (f : Ni → Ni) : OnWay b (s.modNi m f) n k x y :=
  ⟨h.net.trans (.modNi ..), h.under, h.xact, h.free, h.uncut⟩

theorem modXact {f : Xact → Xact} (hf : Underway x (f y)) : OnWay b (s.modXact n f) n k x (f y) :=
  ⟨h.net.trans (.modXact ..), hf, xacts_modXact_same h.xact f, by rw [State.arb, modXact_arbs]; exact h.free,
    by rw [fld_modXact]; exact h.uncut⟩

theorem pass (hk : k < 256) (hnet : NetChange s t) (htraffic : SameTraffic s t) : OnWay b t n k x y :=
  ⟨h.net.trans hnet, h.under, by rw [htraffic.xacts]; exact h.xact, by rw [State.arb, htraffic.arbs]; exact h.free,
    by rw [htraffic.cut _ (by omega)]; exact h.uncut⟩

theorem left (m : Nat) : Underway x { y with left := m } := by rw [Underway, h.under]
theorem holders (l : List Holder) : Underway x { y with holders := l } := by rw [Underway, h.under]

end OnWay

/-- An access joins the queue of its arbiter. -/
def State.joinPort (s : State) (i : Nat) (w : ArbWait) : State := s.modArb i (fun a => { a with wq := a.wq ++ [w] })

section
variable (h : ForWord b n x k j c r)
include h

/-- R159, R287: a word of a slice whose port B nothing waits at is served as it arrives. -/
theorem arbArrive_word (hs : OnWay b s n k x y) : Performed b (s.arbArrive (512 + k) n x (.slice k) 0 1) n k j c (y.took 0 r) := by
  have hreq : arbReqOf (.slice k) x = 1 := by simp [arbReqOf, h.bulk]
  have hleft := hs.modXact (f := fun y => { y with left := y.left + 1 }) (hs.left _)
  unfold State.arbArrive
  rw [hreq]
  generalize s.modXact n _ = a at hleft
  have hjoin : ((a.joinPort (512 + k) { req := 1, xid := n, first := 0, count := 1 }).arb (512 + k)).wq =
      [{ req := 1, xid := n, first := 0, count := 1 }] := by
    rw [State.joinPort, arb_modArb_same]
    simp [hleft.free]
  have hnet : NetChange b (a.joinPort (512 + k) { req := 1, xid := n, first := 0, count := 1 }) := hleft.net.trans (.modArb ..)
  have hxact : (a.joinPort (512 + k) { req := 1, xid := n, first := 0, count := 1 }).xacts.get n none = some { y with left := y.left + 1 } :=
    hleft.xact
  have hcut : ((a.joinPort (512 + k) { req := 1, xid := n, first := 0, count := 1 }).fld F.ARB_STATUS_CUT (512 + k)).testBit 1 = false :=
    hleft.uncut
  dsimp only
  rw [← State.joinPort]
  generalize a.joinPort (512 + k) _ = u at hjoin hnet hxact hcut
  rw [hjoin]
  have hregion : regionAt y.addr = some (.slice k) := by rw [hs.under]; exact h.region
  obtain ⟨v, hv, hvx, hdrain⟩ := arbDrain_one (by have := h.slice; omega) hjoin rfl hcut hxact hregion
  have hvb := hnet.trans hv
  obtain ⟨w, hw, hserve⟩ := h.serves v _ hvb hleft.under (by rw [hvx]; exact hxact)
  have htook := takeWord_xacts (s := w) (by rw [hw.xacts, hvx]; exact hxact) 0 r
  have harbs : (w.takeWord n 0 r).arbs = v.arbs := (modXact_arbs ..).trans hw.arbs
  obtain ⟨hbehind, hend⟩ := hdrain _ (by rw [← harbs, ← hserve]; rfl) (by rw [← htook, ← hserve]; rfl)
  have hdone : Performed v (v.atSlice n { y with left := y.left + 1 } k 0 1) n k j c ({ y with left := y.left + 1 }.took 0 r) := by
    rw [hserve]
    have hword : NetChange w (w.takeWord n 0 r) := .modXact ..
    exact ⟨(hword.cell k j).trans hw.cell, fun m w' hw' hn => (hword.cell m w').trans (hw.others m w' hw' hn),
      hword.xnext.trans hw.xnext, htook⟩
  exact (hdone.behind hbehind hend).before hvb

/-- R278: the target has the right of the request's master, and performs it. -/
theorem perform_word (hs : OnWay b s n k x y) :
    Performed b (s.perform n x (.slice k) 0 1) n k j c { y.took 0 r with left := y.left - 1 } := by
  have hright : s.right x.mid.toNat (rightsRegion (.slice k) x.addr 1) (x.kind != .read) = true := by
    have hregion : rightsRegion (.slice k) x.addr 1 = .slice k := if_neg (by simp)
    rw [hregion, hs.net.right, h.right]
  have htarget : s.atTarget n x (.slice k) 0 1 = s.arbArrive (512 + k) n x (.slice k) 0 1 := by
    simp [State.atTarget, hright, h.kind, h.whole, h.len, State.atArbiter, h.plain]
  have hdone := arbArrive_word h hs
  unfold State.perform
  rw [htarget, h.plain]
  exact hdone.behind (.modXact ..) (xacts_modXact_same hdone.xact _)

/-- R277, R284: an NI that accepts hands the request to its target. -/
theorem acceptPart_word (hs : OnWay b s n k x y) (haccept : b.flag F.NOC_NI_ACCEPT (k / 4) 4 = true) :
    ∃ z, Underway x z ∧ z.sent = y.sent ∧ z.left = y.left ∧
      Performed b (s.acceptPart n x (.slice k) 0 1) n k j c { z.took 0 r with left := y.left - 1 } := by
  have hplace : s.partPlace x (.slice k) 0 = (k / 4, 4) := if_neg (by simp)
  have hopen : s.flag F.NOC_NI_ACCEPT (k / 4) 4 = true := (hs.net.flag_shadowed (by decide) ..).trans haccept
  have hheld := (hs.modNi (8 * (k / 4) + 4) (fun i => { i with infl := i.infl + 1 })).modXact
    (f := fun y => { y with holders := y.holders ++ [{ ni := 8 * (k / 4) + 4, counted := true, first := 0 }] }) (hs.holders _)
  have hseen := hheld.pass h.slice (.pmonPacket _ (76 + k) 0 ⟨x.mid, x.rt, x.inspect, x.addr, x.wpar.length⟩) (.pmonPacket ..)
  refine ⟨_, hheld.under, rfl, rfl, ?_⟩
  have hform : s.acceptPart n x (.slice k) 0 1 = ((((s.modNi (8 * (k / 4) + 4) (fun i => { i with infl := i.infl + 1 })).modXact n
      (fun y => { y with holders := y.holders ++ [{ ni := 8 * (k / 4) + 4, counted := true, first := 0 }] })).pmonPacket (76 + k) 0
        ⟨x.mid, x.rt, x.inspect, x.addr, x.wpar.length⟩).perform n x (.slice k) 0 1) := by
    simp [State.acceptPart, hplace, hopen, h.bulk, State.pmonOf]
  rw [hform]
  exact perform_word h hseen

/-- R285: the border lets the request through to a domain that is on and not fenced. -/
theorem borderPart_word (hs : OnWay b s n k x y) (hheld : (s.ni (8 * (k / 4) + 4)).held = []) (hon : b.domOn (domSL (k / 4)) = true)
    (hfence : b.fenced (domSL (k / 4)) = false) : s.borderPart n x (.slice k) 0 1 = s.acceptPart n x (.slice k) 0 1 := by
  have hplace : s.partPlace x (.slice k) 0 = (k / 4, 4) := if_neg (by simp)
  have hdomain : s.partDomain x (.slice k) 0 = some (domSL (k / 4)) := if_neg (by simp)
  have hslice := h.slice
  have hon' : s.domOn (domSL (k / 4)) = true := (hs.net.domOn (by unfold domSL; omega)).trans hon
  have hfence' := (hs.net.fenced (domSL (k / 4))).trans hfence
  simp [State.borderPart, hplace, hdomain, hheld, hon', hfence']

end

/-- The network's bookkeeping leaves the routes alone. -/
theorem NetChange.routeTo (h : NetChange s t) (m p : Nat × Nat) : t.routeTo m p = s.routeTo m p := h.reg_shadowed (by decide) ..

/-- R268, R269, R284, R285: the way from the NI of master m to slice k is open. -/
structure WayOpen (b : State) (m k : Nat) : Prop where
  route : fldOf F.NOC_ROUTE_V (b.routeTo (masterNi m) (k / 4, 4)) = 1
  walk : ∀ p : PktInfo, ∃ q, (b.walkTo p (masterNi m).1 (b.routeTo (masterNi m) (k / 4, 4)) 4).1 = .reach q
  accept : b.flag F.NOC_NI_ACCEPT (k / 4) 4 = true
  held : (b.ni (8 * (k / 4) + 4)).held = []
  on : b.domOn (domSL (k / 4)) = true
  unfenced : b.fenced (domSL (k / 4)) = false

/-- R268: the entry of a slice's router lets a bulk request be sent. -/
theorem entryGood_slice (hbulk : x.rt = false) (hroute : fldOf F.NOC_ROUTE_V (s.routeTo (masterNi x.mid.toNat) (k / 4, 4)) = 1) :
    s.entryGood x (.slice k) 0 = true := by
  have hplace : s.partPlace x (.slice k) 0 = (k / 4, 4) := if_neg (by simp)
  simp [State.entryGood, hplace, hroute, hbulk]

theorem partsOfReq_slice (s : State) (h : x.len = 1) : s.partsOfReq x (.slice k) = [(0, 1)] := by simp [State.partsOfReq, h]

theorem nis_modXact (m : Nat) (f : Xact → Xact) : (s.modXact m f).nis = s.nis := by
  unfold State.modXact; split <;> rfl

/-- A change of an NI that holds no part back. -/
theorem held_modNi {f : Ni → Ni} (hf : ∀ i, (f i).held = i.held) (m l : Nat) : ((s.modNi m f).ni l).held = (s.ni l).held := by
  unfold State.modNi State.ni
  rw [Tab.get_set]
  split
  · rename_i heq
    subst heq
    exact hf _
  · rfl

section
variable (h : ForWord b n x k j c r) (hway : WayOpen b x.mid.toNat k)
include h hway

/-- R269: the request walks to its target. -/
theorem sendPart_word (hs : OnWay b s n k x y) (hheld : (s.ni (8 * (k / 4) + 4)).held = []) :
    ∃ z, Underway x z ∧ z.sent = y.sent ∧
      Performed b (s.sendPart n x (.slice k) 0 1) n k j c { z.took 0 r with left := y.left - 1 } := by
  have hplace : s.partPlace x (.slice k) 0 = (k / 4, 4) := if_neg (by simp)
  have hwork : s.work = b.work := by rw [hs.net.rest]
  unfold State.sendPart
  dsimp only
  rw [hplace, entryGood_slice h.bulk (by rw [hs.net.routeTo]; exact hway.route), hs.net.routeTo, Bool.not_true, if_neg Bool.false_ne_true]
  generalize ({ mid := x.mid, rt := x.rt, inspect := x.inspect, addr := x.addr + 8 * 0, words := _ } : PktInfo) = p
  obtain ⟨q, hreach⟩ := hway.walk p
  obtain ⟨hnet, htraffic, -⟩ := walkTo_effect s p (masterNi x.mid.toNat).1 (b.routeTo (masterNi x.mid.toNat) (k / 4, 4)) 4
  rw [← (walkTo_effect b p _ _ 4).2.2 s hwork] at hreach
  have hu := hs.pass h.slice hnet htraffic
  have hheld' : ((s.walkTo p (masterNi x.mid.toNat).1 (b.routeTo (masterNi x.mid.toNat) (k / 4, 4)) 4).2.ni (8 * (k / 4) + 4)).held = [] := by
    rw [State.ni, htraffic.nis]; exact hheld
  generalize s.walkTo p _ _ 4 = w at hreach hu hheld'
  obtain ⟨e, u⟩ := w
  subst hreach
  dsimp only
  rw [borderPart_word h hu hheld' hway.on hway.unfenced]
  obtain ⟨z, hz, hsent, -, hdone⟩ := acceptPart_word h hu hway.accept
  exact ⟨z, hz, hsent, hdone⟩

/-- The request of a word is injected and performed. -/
theorem inject_word (hs : OnWay b s n k x x) (hheld : (s.ni (8 * (k / 4) + 4)).held = []) :
    ∃ z, Underway x z ∧ z.sent = true ∧ Performed b (s.inject n) n k j c { z.took 0 r with left := x.left - 1 } := by
  have hsent := hs.modXact (f := fun y => { y with sent := true, time := s.now }) (by rw [Underway])
  have hout := hsent.modNi x.src (fun i => { i with outst := i.outst + 1 })
  have hheld' : (((s.modXact n (fun y => { y with sent := true, time := s.now })).modNi x.src (fun i => { i with outst := i.outst + 1 })).ni
      (8 * (k / 4) + 4)).held = [] := by
    rw [held_modNi (f := fun i => { i with outst := i.outst + 1 }) (fun _ => rfl), State.ni, nis_modXact]
    exact hheld
  obtain ⟨z, hz, hzsent, hdone⟩ := sendPart_word h hway hout hheld'
  refine ⟨z, hz, hzsent, ?_⟩
  have hform : s.inject n = ((s.modXact n (fun y => { y with sent := true, time := s.now })).modNi x.src
      (fun i => { i with outst := i.outst + 1 })).sendPart n x (.slice k) 0 1 := by
    simp [State.inject, hs.xact, h.region, partsOfReq_slice _ h.len]
  rw [hform]
  exact hdone

end

end Sys2Proof.Machine
end

section
/-!
PROOF. O34: a bulk request of one word to a slice is performed on its code word. Its result does not depend on the network's
bookkeeping (NetChange), so what port B does in the state that the request meets is what it does when the request arrives.
-/
namespace Sys2Proof.Machine

open Sys2Proof

variable {s : State} {k j : Nat} {x : Xact} {c : Code64} {r : WordReply}

/-- R27: the addresses of the slices. -/
theorem regionAt_eq_slice_iff {a : Nat} :
    regionAt a = some (.slice k) ↔ (0x001000000000 ≤ a ∧ a < 0x001010000000) ∧ (a - 0x001000000000) / 0x100000 = k := by
  unfold regionAt
  by_cases hdram : a < 0x000600000000
  · rw [if_pos hdram]
    constructor
    · simp
    · omega
  by_cases hslice : 0x001000000000 ≤ a ∧ a < 0x001010000000
  · rw [if_neg hdram, if_pos hslice]
    simp [hslice]
  · rw [if_neg hdram, if_neg hslice]
    constructor
    · intro h
      repeat' split at h
      all_goals cases h
    · exact fun h => absurd h.1 hslice

/-- R27: a whole word of a slice ends in the slice that it begins in. -/
theorem regionAt_wordEnd {a : Nat} (h : regionAt a = some (.slice k)) (hword : a % 8 = 0) : regionAt (a + 8 * 1 - 1) = some (.slice k) := by
  rw [regionAt_eq_slice_iff] at h ⊢
  omega

/-- R262: a bulk request of one whole word, as the commands issue it. -/
structure OneWord (x : Xact) : Prop where
  whole : x.narrow = false
  len : x.len = 1
  bulk : x.rt = false
  clean : x.fails = []
  aligned : x.addr % 8 = 0

/-- The request as its NI takes it, and as it sends it where it is no inspect read. -/
def Xact.atNi (x : Xact) (inspect : Bool) : Xact :=
  { x with src := 8 * (masterNi x.mid.toNat).1 + (masterNi x.mid.toNat).2, inspect := inspect }
def Xact.atSource (x : Xact) : Xact := { x.atNi false with left := 1 }

/-- R278: the NI finds no fault in a request of a word of a slice. -/
theorem sourceCheck_word (hword : x.addr % 8 = 0) (hwhole : x.narrow = false) (hlen : x.len = 1) (hbulk : x.rt = false)
    (hregion : regionAt x.addr = some (.slice k)) (s : State) : s.sourceCheck x = none := by
  have hrange : s.rangeGood x.addr 1 = some (.slice k) := by
    simp only [State.rangeGood, hregion, regionAt_wordEnd hregion hword]
    simp
  simp [State.sourceCheck, hwhole, hlen, hrange, hbulk]

/-- The number of a request is taken, and its NI has it. -/
def State.numbered (s : State) : State := { s with xnext := s.xnext + 1 }
def State.atNi (s : State) (y : Xact) : State := { s.numbered with xacts := s.xacts.set s.xnext (some y) none }

/-- R278: the NI refuses request n, lets it wait for a token, or injects it. -/
def State.passNi (s : State) (n : Nat) (x : Xact) : State :=
  match s.sourceCheck x with
  | some st => s.failWord n 0 st
  | none => match regionAt x.addr with
    | none => s
    | some g =>
      if (s.partsOfReq x g).all (fun p => !(s.entryGood x g p.1)) then s.failWord n 0 .edead
      else
        let s' := s.modXact n (fun y => { y with left := (s.partsOfReq x g).length })
        if x.rt then s'.modNi x.src (fun i => { i with rtq := i.rtq ++ [n] }) else s'.inject n

theorem issue_eq_passNi (s : State) (x : Xact) :
    s.issue x = (s.atNi (x.atNi (s.carriesInspect x))).passNi s.xnext (x.atNi (s.carriesInspect x)) := rfl

/-- R278: a bulk request of one word of a slice that can be sent is injected. -/
theorem issue_eq_inject (hx : OneWord x) (hplain : s.carriesInspect x = false) (hregion : regionAt x.addr = some (.slice k))
    (hroute : fldOf F.NOC_ROUTE_V (s.routeTo (masterNi x.mid.toNat) (k / 4, 4)) = 1) :
    s.issue x = ((s.atNi (x.atNi false)).modXact s.xnext (fun y => { y with left := 1 })).inject s.xnext := by
  have hcheck : (s.atNi (x.atNi false)).sourceCheck (x.atNi false) = none := sourceCheck_word hx.aligned hx.whole hx.len hx.bulk hregion _
  have hparts : (s.atNi (x.atNi false)).partsOfReq (x.atNi false) (.slice k) = [(0, 1)] := partsOfReq_slice _ hx.len
  have hgood : (s.atNi (x.atNi false)).entryGood (x.atNi false) (.slice k) 0 = true := entryGood_slice hx.bulk hroute
  have hregion' : regionAt (x.atNi false).addr = some (.slice k) := hregion
  have hbulk : (x.atNi false).rt = false := hx.bulk
  rw [issue_eq_passNi, hplain]
  simp [State.passNi, hcheck, hregion', hparts, hgood, hbulk]

/-- R278: a bulk request of one word by an open way is performed, and nothing is left of it. -/
theorem issue_word (hx : OneWord x) (hplain : s.carriesInspect x = false) (h : ForWord s.numbered s.xnext x.atSource k j c r)
    (hway : WayOpen s.numbered x.mid.toNat k) (hfree : (s.arb (512 + k)).wq = [])
    (hcut : (s.fld F.ARB_STATUS_CUT (512 + k)).testBit 1 = false) :
    ∃ z, Underway x.atSource z ∧ z.sent = true ∧
      Performed s.numbered (s.issue x) s.xnext k j c { z.took 0 r with left := 0 } := by
  have hnet : NetChange s.numbered (s.atNi (x.atNi false)) := ⟨rfl, fun _ _ _ => rfl⟩
  have hxact : (s.atNi (x.atNi false)).xacts.get s.xnext none = some (x.atNi false) := Tab.get_set_same ..
  have hsource : OnWay s.numbered ((s.atNi (x.atNi false)).modXact s.xnext (fun y => { y with left := 1 })) s.xnext k x.atSource x.atSource :=
    ⟨hnet.trans (.modXact ..), rfl, xacts_modXact_same hxact _, by rw [State.arb, modXact_arbs]; exact hfree, by rw [fld_modXact]; exact hcut⟩
  rw [issue_eq_inject hx hplain h.region hway.route]
  exact inject_word h hway hsource (by rw [State.ni, nis_modXact]; exact hway.held)

/-! ### The commands -/

/-- From s to t a master's request of word j of slice k left code c there, and has the result r. -/
structure WordDone (s t : State) (mid : MasterId) (k j : Nat) (c : Code64) (r : WordReply) : Prop where
  cell : t.cell k j = c
  others : ∀ m w : Nat, w < 131072 → ¬ (m = k ∧ w = j) → t.cell m w = s.cell m w
  xnext : t.xnext = s.xnext + 1
  xact : ∃ z, t.xacts.get s.xnext none = some z ∧ z.mid = mid ∧ z.left = 0 ∧ z.sent = true ∧ z.status = r.status ∧
    z.words.get 0 0 = r.data ∧ z.poison.get 0 false = r.poison

/-- R278: the status of a request of one word is that of its word. -/
theorem status_took (h : x.fails = []) (m : Nat) : ({ x.took 0 r with left := m } : Xact).status = r.status := by
  unfold Xact.status Xact.took
  rw [h]
  split
  · rename_i f hf
    by_cases hok : r.status = .ok
    · simp [hok, firstFail] at hf
    · simp only [hok, if_false, List.nil_append, firstFail, Option.some.injEq] at hf
      rw [← hf]
  · rename_i hf
    by_cases hok : r.status = .ok
    · exact hok.symm
    · simp [hok, firstFail] at hf

/-- A word of slice k that master mid reaches: the way is open, the slice in service, and nothing waits there. -/
structure WordInReach (s : State) (mid : MasterId) (a k : Nat) : Prop where
  live : s.masterLive mid = true
  tags : isSectorMid mid.toNat = true → s.tagsOut mid < 32
  region : regionAt a = some (.slice k)
  slice : k < 256
  way : WayOpen s mid.toNat k
  block : s.sliceBlock k = none
  bgt : s.bgtCode k < 3
  checker : s.ckSlice k = false
  free : (s.arb (512 + k)).wq = []
  uncut : (s.fld F.ARB_STATUS_CUT (512 + k)).testBit 1 = false

theorem WayOpen.numbered {m : Nat} (h : WayOpen s m k) : WayOpen s.numbered m k :=
  ⟨h.route, fun p => (h.walk p).imp fun _ hq => ((walkTo_effect s p _ _ 4).2.2 s.numbered rfl).trans hq, h.accept, h.held, h.on, h.unfenced⟩

theorem Underway.fields {y : Xact} (h : Underway x y) :
    y.mid = x.mid ∧ y.kind = x.kind ∧ y.addr = x.addr ∧ y.same = x.same ∧ y.wpar = x.wpar ∧ y.fails = x.fails := by
  rw [h]
  exact ⟨rfl, rfl, rfl, rfl, rfl, rfl⟩

section
variable {mid : MasterId} {a : Nat} (hreach : WordInReach s mid a k)
include hreach

/-- A slice that is in service when the request is made is so when it arrives. -/
theorem inService_of_netChange {u : State} (h : NetChange s.numbered u) :
    u.sliceBlock k = none ∧ u.bgtCode k < 3 ∧ u.ckSlice k = false :=
  ⟨(h.sliceBlock hreach.slice).trans hreach.block, lt_of_eq_of_lt (h.bgtCode hreach.slice) hreach.bgt, h.ckSlice.trans hreach.checker⟩

/-- R278: a request of one word in reach is performed as port B serves it. -/
theorem request_word (hx : OneWord x) (hmid : x.mid = mid) (haddr : x.addr = a) (hkind : x.kind ≠ .reserved)
    (hplain : s.carriesInspect x = false) (hright : s.right mid.toNat (.slice k) (x.kind != .read) = true)
    (hserves : ∀ u y, NetChange s.numbered u → Underway x.atSource y → u.xacts.get s.xnext none = some y → u.Serves s.xnext y k j c r) :
    WordDone s (s.keep (s.request x)) mid k j c r := by
  subst hmid haddr
  have hword : ForWord s.numbered s.xnext x.atSource k j c r :=
    ⟨hreach.slice, hreach.region, hkind, hx.whole, hx.len, hx.bulk, rfl, hright, hserves⟩
  have hissue : s.request x = s.issue x := by
    have htags : (isSectorMid x.mid.toNat && !x.rt && decide (32 ≤ s.tagsOut x.mid)) = false := by
      cases hsector : isSectorMid x.mid.toNat with
      | false => rfl
      | true =>
        have := hreach.tags hsector
        simp
        omega
    simp [State.request, hreach.live, htags]
  obtain ⟨z, hz, hsent, hdone⟩ := issue_word hx hplain hword hreach.way.numbered hreach.free hreach.uncut
  obtain ⟨hzmid, -, -, -, -, hzfails⟩ := hz.fields
  rw [hissue]
  exact ⟨hdone.cell, hdone.others, hdone.xnext, _, hdone.xact, hzmid, rfl, hsent, status_took (hzfails.trans hx.clean) 0,
    Tab.get_set_same .., Tab.get_set_same ..⟩

end

section
variable {mid : MasterId} {tag : Byte} {a : Addr} (hreach : WordInReach s mid a.toNat k) (hword : a.toNat % 8 = 0)
include hreach hword

theorem read_word (hplain : s.carriesInspect (readReq mid tag a 1 false false false) = false)
    (hright : s.right mid.toNat (.slice k) false = true) :
    WordDone s (s.keep (s.request (readReq mid tag a 1 false false false))) mid k (a.toNat % 0x100000 / 8)
      (s.cell k (a.toNat % 0x100000 / 8)) (readReply (decode64 (s.cell k (a.toNat % 0x100000 / 8)))) := by
  have hwhole : (a.toNat % 8 != 0) = false := by simp [hword]
  refine request_word hreach ⟨hwhole, rfl, rfl, rfl, hword⟩ rfl rfl (by simp [readReq]) hplain hright fun u y hu hy hxact => ?_
  obtain ⟨hb, hc, hk⟩ := inService_of_netChange hreach hu
  obtain ⟨-, hykind, hyaddr, hysame, -, -⟩ := hy.fields
  have hserve := serves_read (n := s.xnext) (x := y) hreach.slice hb hc hk (by rw [hyaddr]) hysame hykind
  rw [hu.cell] at hserve
  exact hserve

theorem write_word (v : Word) (p : Bool) (hright : s.right mid.toNat (.slice k) true = true) :
    WordDone s (s.keep (s.request (writeReq mid tag a [(v, p)] false false false))) mid k (a.toNat % 0x100000 / 8) (store64 v p) {} := by
  have hwhole : (a.toNat % 8 != 0) = false := by simp [hword]
  refine request_word hreach ⟨hwhole, rfl, rfl, rfl, hword⟩ rfl rfl (by simp [writeReq]) rfl hright fun u y hu hy hxact => ?_
  obtain ⟨hb, hc, hk⟩ := inService_of_netChange hreach hu
  obtain ⟨-, hykind, hyaddr, hysame, hypar, hyfails⟩ := hy.fields
  exact serves_write hreach.slice hb hc hk (by rw [hyaddr]; rfl) hysame (by omega) hykind (by rw [Xact.par, hypar]; rfl) hxact hyfails

theorem atomic_word (op : AtomicOp) (v cmp : Word) (hright : s.right mid.toNat (.slice k) true = true)
    (hpoison : (decode64 (s.cell k (a.toNat % 0x100000 / 8))).poison = false) :
    WordDone s (s.keep (s.request (atomicReq mid tag a op v cmp false 1 false false false))) mid k (a.toNat % 0x100000 / 8)
      (atomicCode op (s.cell k (a.toNat % 0x100000 / 8)) v cmp) { data := (decode64 (s.cell k (a.toNat % 0x100000 / 8))).data } := by
  have hwhole : (a.toNat % 8 != 0) = false := by simp [hword]
  refine request_word hreach ⟨hwhole, rfl, rfl, rfl, hword⟩ rfl rfl (by simp [atomicReq]) rfl hright fun u y hu hy hxact => ?_
  obtain ⟨hb, hc, hk⟩ := inService_of_netChange hreach hu
  obtain ⟨-, hykind, hyaddr, hysame, hypar, -⟩ := hy.fields
  have hserve := serves_atomic (n := s.xnext) (x := y) (j := a.toNat % 0x100000 / 8) hreach.slice hb hc hk (by rw [hyaddr]; rfl) hysame
    (by omega) (by rw [hu.cell]; exact hpoison) hykind hypar
  rw [hu.cell] at hserve
  exact hserve

end

/-- Settles O34: each command is a request of one word in reach (request_word), which port B serves as R160 to R166 say. -/
theorem requestsReachTheirWordOfASlice : Obligations.RequestsReachTheirWordOfASlice := by
  intro s mid tag a n hlive hregion hword hplain j src dst route hroute hwalk haccept hheld hon hfence hblock hbgt hck htags hfree hcut
    code performed
  have hreach : WordInReach s mid a.toNat n :=
    ⟨hlive, htags, hregion, n.isLt, ⟨hroute, hwalk, haccept, hheld, hon, hfence⟩, hblock, hbgt, hck, hfree, hcut⟩
  have hperformed {t : State} {c : Code64} {r : WordReply} {old : Option (Word × Bool)} (h : WordDone s t mid n j c r)
      (hold : ∀ o, old = some o → r.data = o.1 ∧ r.poison = o.2) : performed t c r.status old := by
    obtain ⟨hcell, hothers, hxnext, z, hz, hmid, hleft, hsent, hstatus, hdata, hpoison⟩ := h
    exact ⟨hcell, hothers, hxnext, z, hz, hmid, hleft, hsent, hstatus, fun o ho => by rw [hdata, hpoison]; exact hold o ho⟩
  refine ⟨fun hright => ?_, fun hright => ⟨fun v p => ?_, fun hpoison v => ?_⟩⟩
  · exact ⟨_, rfl, hperformed (read_word hreach hword hplain hright) (by rintro o ⟨⟩; exact ⟨rfl, rfl⟩)⟩
  · exact ⟨_, rfl, hperformed (write_word hreach hword v p hright) (by simp)⟩
  · intro result
    have hatomic (op : AtomicOp) (cmp : Word) := hperformed (old := some (code.data, false))
      (atomic_word (tag := tag) hreach hword op v cmp hright hpoison) (by rintro o ⟨⟩; exact ⟨rfl, rfl⟩)
    refine ⟨⟨_, rfl, hatomic .add64 0⟩, ⟨_, rfl, hatomic .swap64 0⟩, ⟨_, rfl, hatomic .add16s 0⟩, ⟨_, rfl, hatomic .add8s 0⟩,
      fun cmp => ⟨_, rfl, ?_⟩⟩
    have hcas : atomicCode .cas64 (s.cell n j) v cmp = if code.data = cmp then encode64 v else s.cell n j := by
      unfold atomicCode atomicResult
      by_cases heq : code.data = cmp <;> simp [code, heq]
    rw [← hcas]
    exact hatomic .cas64 cmp

end Sys2Proof.Machine
end

section
/-!
SUPPORT. What a step of a gang's pipeline does beside its vector (R38, R39): the members' registers and stages move, port A and the
monitors count; modes, what the leader holds of the gang, other engines and the fail capture units with their registers stay.
-/
namespace Sys2Proof.Machine

open Sys2Proof

variable {ms : List Nat} {s t : State}

/-- The addresses of the fail capture units (R28). -/
def fcuAddr (a : Nat) : Prop := 0x001807000000 ≤ a ∧ a < 0x001808000000

/-- What the work of a step leaves as it was. -/
structure StepRest (ms : List Nat) (s t : State) : Prop where
  others : ∀ m, m ∉ ms → t.eng m = s.eng m
  mode : ∀ m, (t.eng m).mode = (s.eng m).mode
  gang : ∀ m, (t.eng m).gang = (s.eng m).gang
  regs : ∀ a d, fcuAddr a → t.regs.get a d = s.regs.get a d
  pend : ∀ n, s.plic.pend.get n false = true → t.plic.pend.get n false = true
  fcus : t.fcus = s.fcus

namespace StepRest

theorem refl (s : State) : StepRest ms s s := ⟨fun _ _ => rfl, fun _ => rfl, fun _ => rfl, fun _ _ _ => rfl, fun _ h => h, rfl⟩

theorem trans {a b c : State} (h : StepRest ms a b) (g : StepRest ms b c) : StepRest ms a c :=
  ⟨fun m hm => (g.others m hm).trans (h.others m hm), fun m => (g.mode m).trans (h.mode m), fun m => (g.gang m).trans (h.gang m),
    fun a d ha => (g.regs a d ha).trans (h.regs a d ha), fun n hn => g.pend n (h.pend n hn), g.fcus.trans h.fcus⟩

/-- A change that reaches no engine, no register, no interrupt and no fail capture unit. -/
theorem aside (he : t.engines = s.engines) (hr : t.regs = s.regs) (hp : t.plic = s.plic) (hf : t.fcus = s.fcus) : StepRest ms s t := by
  have heng (m : Nat) : t.eng m = s.eng m := by unfold State.eng; rw [he]
  exact ⟨fun m _ => heng m, fun m => by rw [heng], fun m => by rw [heng], fun a d _ => by rw [hr], fun n hn => by rw [hp]; exact hn, hf⟩

theorem setReg {r : RegId} (hs : isShadowed r = false) {i j k : Nat} (h : ¬ fcuAddr (regAddr r i j k)) (s : State) (v : Word) :
    StepRest ms s (s.setReg r v i j k) := by
  rw [setReg_regs hs]
  refine ⟨fun _ _ => rfl, fun _ => rfl, fun _ => rfl, fun a d ha => Tab.get_set_other _ ?_ _ _ _, fun _ hn => hn, rfl⟩
  rintro rfl
  exact h ha

theorem setFld {f : Fld} (hs : isShadowed f.reg = false) {i j k : Nat} (h : ¬ fcuAddr (regAddr f.reg i j k)) (s : State) (v : Nat) :
    StepRest ms s (s.setFld f v i j k) := setReg hs h s _

theorem setCell (s : State) (n j : Nat) (c : Code64) : StepRest ms s (s.setCell n j c) := aside rfl rfl rfl rfl
theorem modSlc (s : State) (n : Nat) (f : Slc → Slc) : StepRest ms s (s.modSlc n f) := aside rfl rfl rfl rfl
theorem logErr (s : State) (r : ErrRec) : StepRest ms s (s.logErr r) := aside rfl rfl rfl rfl
theorem modChan (s : State) (p : Nat) (f : Channel → Channel) : StepRest ms s (s.modChan p f) := aside rfl rfl rfl rfl
theorem atTime (s : State) (m : Nat) : StepRest ms s (s.atTime m) := aside rfl rfl rfl rfl

/-- A member's registers and stages change. -/
theorem setEng {m : Nat} (hm : m ∈ ms) {y : Engine} (s : State) (hmode : y.mode = (s.eng m).mode) (hgang : y.gang = (s.eng m).gang) :
    StepRest ms s (s.setEng m y) := by
  refine ⟨fun n hn => eng_setEng_other (by rintro rfl; exact hn hm) y, fun n => ?_, fun n => ?_, fun _ _ _ => rfl, fun _ h => h, rfl⟩
  all_goals
    by_cases hnm : n = m
    · subst hnm
      rw [eng_setEng_same]
      assumption
    · rw [eng_setEng_other hnm]

theorem modEng {m : Nat} (hm : m ∈ ms) {f : Engine → Engine} (s : State) (hmode : ∀ x, (f x).mode = x.mode)
    (hgang : ∀ x, (f x).gang = x.gang) : StepRest ms s (s.modEng m f) := setEng hm s (hmode _) (hgang _)

theorem pendIrq (s : State) (n : Nat) : StepRest ms s (s.pendIrq n) := by
  refine ⟨fun _ _ => rfl, fun _ => rfl, fun _ => rfl, fun _ _ _ => rfl, fun k hk => ?_, rfl⟩
  show (s.plic.pend.set n true false).get k false = true
  rw [Tab.get_set]
  split
  · rfl
  · exact hk

theorem fold {α : Type} {f : State → α → State} {xs : List α} (h : ∀ a, ∀ x ∈ xs, StepRest ms a (f a x)) (s : State) :
    StepRest ms s (xs.foldl f s) := by
  induction xs generalizing s with
  | nil => exact refl s
  | cons x xs ih => exact (h s x (by simp)).trans (ih (fun a y hy => h a y (by simp [hy])) _)

/-! ### Monitors -/

theorem pmonEvent (s : State) (i evt port n : Nat) (p : Bool) : StepRest ms s (s.pmonEvent i evt port n p) := by
  have hset (f : Fld) (hf : f.reg.desc.blk = .PMON) (hs : isShadowed f.reg = false) (a : State) (v j : Nat) :
      StepRest ms a (a.setFld f v i j) := setFld hs (by simp only [fcuAddr, regAddr, hf, Block.place]; omega) a v
  unfold State.pmonEvent State.forAll
  split
  · exact refl s
  · refine fold (fun a j _ => ?_) s
    dsimp only
    have hcount (v : Nat) := hset F.PMON_CNT_COUNT rfl (by decide) a v j
    split
    · split
      · exact hcount _
      · have hovf (v w : Nat) := (hcount v).trans (hset F.PMON_STATUS_OVF rfl (by decide) _ w 0)
        split
        · exact (hovf _ _).trans (pendIrq _ _)
        · exact hovf _ _
    · exact refl a

theorem countEngines (s : State) (es : List Nat) (evt : Nat) : StepRest ms s (s.countEngines es evt) :=
  fold (fun a e _ => pmonEvent a (332 + e / 4) evt 0 1 true) s

/-! ### Port A (R58, R169) -/

/-- The slices' registers lie behind the fail capture units'. -/
theorem setSlc {f : Fld} (hf : f.reg.desc.blk = .SLC) (hs : isShadowed f.reg = false) (s : State) (n v : Nat) :
    StepRest ms s (s.setFld f v n) := setFld hs (by simp only [fcuAddr, regAddr, hf, Block.place]; omega) s v

theorem setRegion (s : State) (n w : Nat) (r : BitVec 320) : StepRest ms s (s.setRegion n w r) :=
  fold (f := fun a i => a.setCell n (4 * w + i) (regionWord r i)) (fun _ _ _ => setCell ..) s

theorem bgtRestore (s : State) (n : Nat) : StepRest ms s (s.bgtRestore n) := by
  unfold State.bgtRestore
  dsimp only
  split
  · exact setRegion ..
  · exact refl s

theorem setBgtCode (s : State) (n c : Nat) : StepRest ms s (s.setBgtCode n c) := setSlc rfl (by decide) s n c

theorem bgtAdvance (s : State) (n : Nat) : StepRest ms s (s.bgtAdvance n) := by
  have hcursor (v : Nat) : StepRest ms s (s.setFld F.SLC_BGT_CURSOR v n) := setSlc rfl (by decide) s n v
  unfold State.bgtAdvance
  dsimp only
  split
  · exact ((hcursor _).trans (setSlc (f := F.SLC_BGT_PASSES) rfl (by decide) _ n _)).trans (setBgtCode ..)
  · exact (hcursor _).trans (setBgtCode ..)

theorem bgtCompare (s : State) (n w step : Nat) (x y : BitVec 320) : StepRest ms s (s.bgtCompare n w step x y) := by
  have hcell (a : State) (v : Word) : StepRest ms a (a.setReg .SLC_CELL v n) :=
    setReg (by decide) (by simp only [fcuAddr, regAddr, RegId.desc, Block.place]; omega) a v
  unfold State.bgtCompare State.cellFault
  dsimp only
  split
  · exact refl s
  · exact (((setSlc (f := F.SLC_CNT_CELL) rfl (by decide) s n _).trans (setSlc (f := F.SLC_STATUS_CELL) rfl (by decide) _ n 1)).trans
      (hcell _ _)).trans (logErr ..)

theorem bgtFinish (s : State) (n : Nat) : StepRest ms s (s.bgtFinish n) := by
  unfold State.bgtFinish
  dsimp only
  split
  case h_5 => exact refl s
  all_goals exact bgtCompare ..

theorem bgtYieldWords (s : State) (n first count : Nat) (a w : Bool) : StepRest ms s (s.bgtYieldWords n first count a w) := by
  unfold State.bgtYieldWords State.bgtYield
  dsimp only
  split
  · split
    · exact (bgtFinish s n).trans ((setRegion ..).trans ((setBgtCode ..).trans (pmonEvent ..)))
    · exact refl s
  · split
    · split
      · refine (bgtRestore s n).trans ?_
        split
        · exact bgtAdvance ..
        · exact setBgtCode ..
      · exact refl s
    · split
      · rename_i h
        have : s.bgtCode n = 12 := h.1
        simp only [State.bgtStep, this]
        exact (bgtCompare ..).trans (bgtAdvance ..)
      · exact refl s

theorem portARead (s : State) (n first count : Nat) : StepRest ms s (s.portARead n first count).2 := by
  unfold State.portARead
  split
  · exact refl s
  · dsimp only
    exact (bgtYieldWords s n first count true false).trans ((pmonEvent _ (76 + n) 0x30 0 1 true).trans (modSlc ..))

theorem portAWrite (s : State) (n j : Nat) (v : Word) (p : Bool) : StepRest ms s (s.portAWrite n j v p).2 := by
  unfold State.portAWrite
  split
  · exact refl s
  · dsimp only
    exact (bgtYieldWords s n j 1 true true).trans ((pmonEvent _ (76 + n) 0x30 0 1 true).trans ((setCell ..).trans (modSlc ..)))

theorem portAOpen (s : State) (n first count : Nat) (w : Bool) : StepRest ms s (s.portAOpen n first count w) := by
  unfold State.portAOpen
  refine fold (fun a q _ => ?_) s
  exact trans (bgtYieldWords a n q.1 q.2 true w) (pmonEvent _ (76 + n) 0x30 0 1 true)

theorem portAWriteBlock (s : State) (n first : Nat) (vs : List Word) : StepRest ms s (s.portAWriteBlock n first vs) := by
  unfold State.portAWriteBlock
  split
  · exact refl s
  · dsimp only
    refine trans ?_ (modSlc ..)
    refine trans (portAOpen s n first vs.length true) ?_
    exact fold (fun _ _ _ => setCell ..) _

end StepRest

/-! ### One engine's work in a step (R38, R51, R87) -/

theorem applyMac_same (x : Engine) (f : MacEff) : (x.applyMac f).mode = x.mode ∧ (x.applyMac f).gang = x.gang := by
  have haccs : ∀ (l : List (Nat × Word48)) (y : Engine), (l.foldl (fun acc w => acc.setAcc w.1 w.2) y).mode = y.mode ∧
      (l.foldl (fun acc w => acc.setAcc w.1 w.2) y).gang = y.gang := by
    intro l
    induction l with
    | nil => exact fun y => ⟨rfl, rfl⟩
    | cons w l ih => exact fun y => ih (y.setAcc w.1 w.2)
  unfold Engine.applyMac
  dsimp only
  split
  · exact haccs _ _
  · exact haccs _ _

theorem applyDgen_same (x : Engine) (f : DgenEff) : (x.applyDgen f).mode = x.mode ∧ (x.applyDgen f).gang = x.gang := by
  unfold Engine.applyDgen
  dsimp only
  cases f.wr <;> cases f.wo <;> cases f.gen <;> cases f.pw <;> exact ⟨rfl, rfl⟩

theorem applyAgen_same (x : Engine) (f : AgenEff) : (x.applyAgen f).mode = x.mode ∧ (x.applyAgen f).gang = x.gang := by
  unfold Engine.applyAgen
  dsimp only
  cases f.a <;> cases f.o <;> cases f.m <;> exact ⟨rfl, rfl⟩

theorem flowEff_same (x y : Engine) (i : BAddr) (op : FlowOp) : (flowEff x y i op).1.mode = y.mode ∧ (flowEff x y i op).1.gang = y.gang := by
  have hpush (c : BitVec 24) (en : BAddr) : (loopPush x y i c en).1.mode = y.mode ∧ (loopPush x y i c en).1.gang = y.gang := by
    unfold loopPush
    split <;> exact ⟨rfl, rfl⟩
  cases op
  case loopi c en => exact hpush _ _
  case loopl k en => exact hpush _ _
  all_goals exact ⟨rfl, rfl⟩

/-! The stages of one engine, as stepWork, stepFlow and stepEngine put them together. -/

def State.loadS3 (s : State) (m : Nat) (r3 : Option (Stage × AgenEff)) (k : Nat) : State :=
  match r3 with | some (_, ag) => if k < 3 then s.issueLoad m ag.load 0 else s | none => s
def State.doS6 (s : State) (m : Nat) (x : Engine) (k : Nat) : State :=
  match x.s6 with | some t => if k < 6 then s.workS6 m t else s | none => s
def State.doS4 (s : State) (m : Nat) (x : Engine) (k : Nat) : State :=
  match x.s4 with | some t => if k < 4 then s.modEng m (fun y => y.applyDgen t.dgen) else s | none => s
def State.doS3 (s : State) (m : Nat) (r3 : Option (Stage × AgenEff)) (k : Nat) : State :=
  match r3 with | some (_, ag) => if k < 3 then s.modEng m (fun y => y.applyAgen ag) else s | none => s
def State.doS2 (s : State) (m : Nat) (x : Engine) (stream lead : Bool) (k : Nat) : State :=
  match x.s2 with | none => s | some t => if k ≥ 2 then s else s.stepFlow m x stream lead (decide (k = 0)) t

theorem stepWork_eq (s : State) (m : Nat) (x : Engine) (k : Nat) :
    s.stepWork m x k = (((s.loadS3 m (s.latched m x) k).doS6 m x k).doS4 m x k).doS3 m (s.latched m x) k := rfl

/-- What a FLOW operation does beside the program state. -/
def State.flowFirst (s : State) (m : Nat) (x : Engine) (t : Stage) : State :=
  match t.flow with
  | .clrf f => s.modEng m (fun y => { y with flags := clearFlags y.flags f })
  | .savel r => s.saveLoops m x (x.ra r.toNat).toNat
  | _ => s
/-- What it does with the program state, and its redirect. -/
def State.flowThen (s : State) (m : Nat) (r : Engine × Option BAddr) (go : Bool) : State :=
  match r.2 with
  | some tgt => if go then (s.setEng m r.1).modEng m (fun y => { y.restartPrefetch tgt with pc := tgt }) else s.setEng m r.1
  | none => s.setEng m r.1

theorem stepFlow_eq (s : State) (m : Nat) (x : Engine) (stream lead go : Bool) (t : Stage) :
    s.stepFlow m x stream lead go t = if stream ∧ !lead then s.flowFirst m x t
      else (s.flowFirst m x t).flowThen m (flowEff x ((s.flowFirst m x t).eng m) t.addr t.flow) go := rfl

namespace StepRest

section
variable {m : Nat} (hm : m ∈ ms)
include hm

theorem issueLoad (s : State) (l : Option (BitVec 4 × Word32)) (age : Nat) : StepRest ms s (s.issueLoad m l age) := by
  unfold State.issueLoad
  split
  · exact refl s
  · rename_i n a
    have hread := portARead (ms := ms) s m a.toNat 1
    split
    · rename_i heq
      rw [heq] at hread
      exact hread.trans (modEng hm _ (fun _ => rfl) (fun _ => rfl))
    · rename_i heq
      rw [heq] at hread
      exact hread

theorem workS6 (hlt : m < 256) (s : State) (t : Stage) : StepRest ms s (s.workS6 m t) := by
  have haddr : ¬ fcuAddr (regAddr .CE_STATUS m) := by
    simp only [fcuAddr, regAddr, regInst, RegId.desc, Block.place]
    omega
  have hmac : StepRest ms s (s.modEng m (fun y => { y.applyMac t.mac with flags := setFlags (y.applyMac t.mac).flags t.cmps })) :=
    modEng hm s (fun y => (applyMac_same y t.mac).1) (fun y => (applyMac_same y t.mac).2)
  have hraise (a : State) : StepRest ms a (a.raise F.CE_STATUS_MACSAT m) := setFld (f := F.CE_STATUS_MACSAT) (by decide) haddr a 1
  unfold State.workS6
  dsimp only
  cases t.mac.sat <;> cases t.store
  · exact hmac
  · exact hmac.trans (portAWrite ..)
  · exact hmac.trans (hraise _)
  · exact (hmac.trans (hraise _)).trans (portAWrite ..)

theorem loadS3 (s : State) (r3 : Option (Stage × AgenEff)) (k : Nat) : StepRest ms s (s.loadS3 m r3 k) := by
  unfold State.loadS3
  split
  · split
    · exact issueLoad hm ..
    · exact refl s
  · exact refl s

theorem doS6 (hlt : m < 256) (s : State) (x : Engine) (k : Nat) : StepRest ms s (s.doS6 m x k) := by
  unfold State.doS6
  split
  · split
    · exact workS6 hm hlt ..
    · exact refl s
  · exact refl s

theorem doS4 (s : State) (x : Engine) (k : Nat) : StepRest ms s (s.doS4 m x k) := by
  unfold State.doS4
  split
  · rename_i t _
    split
    · exact modEng hm s (fun y => (applyDgen_same y t.dgen).1) (fun y => (applyDgen_same y t.dgen).2)
    · exact refl s
  · exact refl s

theorem doS3 (s : State) (r3 : Option (Stage × AgenEff)) (k : Nat) : StepRest ms s (s.doS3 m r3 k) := by
  unfold State.doS3
  split
  · rename_i ag
    split
    · exact modEng hm s (fun y => (applyAgen_same y ag).1) (fun y => (applyAgen_same y ag).2)
    · exact refl s
  · exact refl s

theorem stepWork (hlt : m < 256) (s : State) (x : Engine) (k : Nat) : StepRest ms s (s.stepWork m x k) := by
  rw [stepWork_eq]
  exact (((loadS3 hm s _ k).trans (doS6 hm hlt _ x k)).trans (doS4 hm _ x k)).trans (doS3 hm ..)

theorem stepLoopEnd (s : State) (x : Engine) : StepRest ms s (s.stepLoopEnd m x) := by
  have hnext (chk : BAddr × Engine) (seq : BAddr) : StepRest ms s
      (if chk.1 ≠ seq then (s.modEng m (fun y => { y with l := chk.2.l, ld := chk.2.ld, pc := chk.1 })).modEng m
        (fun y => y.restartPrefetch chk.1) else s.modEng m (fun y => { y with l := chk.2.l, ld := chk.2.ld, pc := chk.1 })) := by
    have hcheck : StepRest ms s (s.modEng m (fun y => { y with l := chk.2.l, ld := chk.2.ld, pc := chk.1 })) :=
      modEng hm s (fun _ => rfl) (fun _ => rfl)
    split
    · exact hcheck.trans (modEng hm _ (f := fun y => y.restartPrefetch chk.1) (fun _ => rfl) (fun _ => rfl))
    · exact hcheck
  exact hnext _ _

theorem flowFirst (s : State) (x : Engine) (t : Stage) : StepRest ms s (s.flowFirst m x t) := by
  unfold State.flowFirst
  split
  · exact modEng hm s (fun _ => rfl) (fun _ => rfl)
  · exact portAWriteBlock ..
  · exact refl s

theorem flowThen (s : State) {r : Engine × Option BAddr} (hmode : r.1.mode = (s.eng m).mode) (hgang : r.1.gang = (s.eng m).gang)
    (go : Bool) : StepRest ms s (s.flowThen m r go) := by
  have hset := setEng hm s hmode hgang
  unfold State.flowThen
  split
  · split
    · exact hset.trans (modEng hm _ (fun _ => rfl) (fun _ => rfl))
    · exact hset
  · exact hset

theorem stepFlow (s : State) (x : Engine) (stream lead go : Bool) (t : Stage) : StepRest ms s (s.stepFlow m x stream lead go t) := by
  have hfirst := flowFirst hm s x t
  rw [stepFlow_eq]
  split
  · exact hfirst
  · obtain ⟨hmode, hgang⟩ := flowEff_same x ((s.flowFirst m x t).eng m) t.addr t.flow
    exact hfirst.trans (flowThen hm _ hmode hgang go)

theorem doS2 (s : State) (x : Engine) (stream lead : Bool) (k : Nat) : StepRest ms s (s.doS2 m x stream lead k) := by
  unfold State.doS2
  split
  · exact refl s
  · split
    · exact refl s
    · exact stepFlow hm ..

theorem stepMove (s : State) (x : Engine) (r3 : Option (Stage × AgenEff)) (k : Nat) (move : Bool) :
    StepRest ms s (s.stepMove m x r3 k move) := setEng hm s rfl rfl

/-- R38: the stages of one member. -/
theorem stepEngine (hlt : m < 256) (s : State) (x : Engine) (stream lead : Bool) (k : Nat) (move : Bool) :
    StepRest ms s (s.stepEngine m x stream lead k move) := by
  have hloads : StepRest ms s (s.modEng m (fun y => { y with loads := y.loads.map (fun l => { l with age := l.age + 1 }) })) :=
    modEng hm s (fun _ => rfl) (fun _ => rfl)
  have hend (a : State) : StepRest ms a (if move ∧ k = 0 ∧ (lead ∨ !stream) then a.stepLoopEnd m x else a) := by
    split
    · exact stepLoopEnd hm a x
    · exact refl a
  exact (((hloads.trans (stepWork hm hlt _ x k)).trans (hend _)).trans (doS2 hm _ x stream lead k)).trans (stepMove hm ..)

end

end StepRest

end Sys2Proof.Machine
end

section
/-!
SUPPORT. A vector leaves S6 of a gang (R64, R105, R122): its events are placed, the leader's next vector moves on by the period, and
a pause vector or the fail capture unit's request puts the members into a pause (R68, R148).
-/
namespace Sys2Proof.Machine

open Sys2Proof

variable {ms : List Nat} {s t : State}

namespace StepRest

/-! ### The events of a vector -/

theorem placeStrobe (s : State) (p v off vec j : Nat) (c : BitVec 4) (b : Bool) : StepRest ms s (s.placeStrobe p v off vec j c b) := by
  unfold State.placeStrobe
  exact modChan ..

section
variable {p : Nat} (hp : p < 1024)
include hp

/-- The pins' registers lie before the fail capture units'. -/
theorem setPin {f : Fld} (h : f.reg = .PIN_STATUS ∨ f.reg = .PIN_CNT) (hs : isShadowed f.reg = false) (s : State) (v : Nat) :
    StepRest ms s (s.setFld f v p) := by
  refine setFld hs ?_ s v
  rcases h with h | h
  all_goals
    rw [h]
    simp only [fcuAddr, regAddr, regInst, RegId.desc, Block.place]
    omega

theorem noteConflicts (s : State) (n : Nat) : StepRest ms s (s.noteConflicts p n) := by
  unfold State.noteConflicts
  split
  · exact refl s
  · exact (setPin hp (f := F.PIN_STATUS_EDGECONF) (.inl rfl) (by decide) s 1).trans
      (setPin hp (f := F.PIN_CNT_NCONF) (.inr rfl) (by decide) _ _)

theorem placeDrive (s : State) (ev : PinEvent) : StepRest ms s (s.placeDrive p ev) := (modChan s p _).trans (noteConflicts hp _ _)

theorem placeEnable (s : State) (v off : Nat) (b : Bool) : StepRest ms s (s.placeEnable p v off b) :=
  (modChan s p _).trans (noteConflicts hp _ _)

theorem placeWindow (s : State) (v vec : Nat) (q : PinSet) : StepRest ms s (s.placeWindow p v vec q) := by
  unfold State.placeWindow
  dsimp only
  split
  · exact modChan ..
  · exact (modChan s p _).trans (setPin hp (f := F.PIN_STATUS_EDGECONF) (.inl rfl) (by decide) _ 1)

theorem placeEc (s : State) (v : Nat) (vec : Word48) (q : PinSet) : StepRest ms s (s.placeEc p v vec q) := by
  have hraise (c : Prop) [Decidable c] (a : State) : StepRest ms a (if c then a.raise F.PIN_STATUS_EDGECONF p else a) := by
    split
    · exact setPin hp (f := F.PIN_STATUS_EDGECONF) (.inl rfl) (by decide) a 1
    · exact refl a
  exact (modChan s p _).trans (hraise _ _)

end

theorem placePin {m : MemberSrc} {k : Nat} (hp : 4 * m.eng + k < 1024) (s : State) (code : BitVec 4) (ts : BitVec 6) (v key : Nat)
    (vec : Word48) : StepRest ms s (s.placePin m k code ts v key vec) := by
  unfold State.placePin
  dsimp only
  split
  · exact refl s
  · split
    · exact trans (fold (fun a ev _ => placeDrive hp a ev) s) (placeEnable hp _ v _ true)
    · have henable := placeEnable (ms := ms) hp s v (s.pinSet m.eng ts.toNat k).e2 false
      split
      · refine henable.trans (fold (fun a n _ => ?_) _)
        exact placeStrobe ..
      · split
        · exact henable.trans (placeWindow hp ..)
        · split
          · exact henable.trans (placeEc hp ..)
          · exact henable

end StepRest

/-- What the acceptance of a vector of a period does to what the leader holds of the gang. -/
structure GangMoved (per : Nat) (g h : Gang) : Prop where
  vidx : h.vidx = g.vidx + 1
  nextV : h.nextV = g.nextV + per
  armed : h.armed = g.armed
  startAt : h.startAt = g.startAt
  resumeAt : h.resumeAt = g.resumeAt
  run : h.run = g.run

/-- From s to t the gang that e leads has issued a vector; otherwise a step's work has been done. -/
structure Issued (ms : List Nat) (e per : Nat) (s t : State) : Prop where
  others : ∀ m, m ∉ ms → t.eng m = s.eng m
  mode : ∀ m, (t.eng m).mode = (s.eng m).mode
  gang : GangMoved per (s.eng e).gang (t.eng e).gang
  regs : ∀ a d, fcuAddr a → t.regs.get a d = s.regs.get a d
  pend : ∀ n, s.plic.pend.get n false = true → t.plic.pend.get n false = true
  fcus : t.fcus = s.fcus

theorem Issued.after {e per : Nat} {a : State} (h : StepRest ms s a) (g : Issued ms e per a t) : Issued ms e per s t :=
  ⟨fun m hm => (g.others m hm).trans (h.others m hm), fun m => (g.mode m).trans (h.mode m), by rw [← h.gang]; exact g.gang,
    fun a d ha => (g.regs a d ha).trans (h.regs a d ha), fun n hn => g.pend n (h.pend n hn), g.fcus.trans h.fcus⟩

theorem Issued.before {e per : Nat} {a : State} (h : Issued ms e per s a) (g : StepRest ms a t) : Issued ms e per s t :=
  ⟨fun m hm => (g.others m hm).trans (h.others m hm), fun m => (g.mode m).trans (h.mode m), by rw [g.gang]; exact h.gang,
    fun a d ha => (g.regs a d ha).trans (h.regs a d ha), fun n hn => g.pend n (h.pend n hn), g.fcus.trans h.fcus⟩

/-! The parts of a vector's acceptance, as acceptVector puts them together. -/

def State.placeVector (s : State) (op : PinOp) (srcs : List MemberSrc) (v key : Nat) (vec : Word48) : State :=
  srcs.foldl (fun acc m => (List.range 4).foldl (fun acc k =>
    (acc.modChan (4 * m.eng + k) (fun c => { c with streamed := true, eopOn := false })).placePin m k (pinCode op.codes k) op.ts v key
      vec) acc) s

def State.nextVector (s : State) (e per : Nat) (g : Gang) (vi : VecInfo) : State :=
  s.modEng e (fun x => { x with gang := { x.gang with vidx := g.vidx + 1, nextV := g.nextV + per, vecs := g.vecs ++ [vi],
                                                      pausedEnd := g.nextV + per } })

def State.markVector (s : State) (op : PinOp) (srcs : List MemberSrc) : State :=
  if op.mode = 2 then srcs.foldl (fun acc m => acc.modEng m.eng (fun e => { e with trig := true, trigCnt := e.trigCnt + 1 })) s else s

theorem acceptVector_eq (s : State) (e : Nat) (op : PinOp) (srcs : List MemberSrc) (stop : Bool) : ∃ vi,
    s.acceptVector e op srcs stop =
      (((s.placeVector op srcs (s.eng e).gang.nextV (vecKey e (s.eng e).gang.run (s.eng e).gang.vidx) (s.eng e).gang.vidx).nextVector e
        (s.fld F.TSET_PER_PERIOD e op.ts.toNat) (s.eng e).gang vi).markVector op srcs).atTime ((s.eng e).gang.nextV / 512 - 128) :=
  ⟨_, rfl⟩

/-- R64, R122: the gang has issued its vector. -/
theorem acceptVector_issued {e : Nat} (he : e ∈ ms) {srcs : List MemberSrc} (hsrcs : ∀ m ∈ srcs, m.eng ∈ ms ∧ m.eng < 256) (s : State)
    (op : PinOp) (stop : Bool) : Issued ms e (s.fld F.TSET_PER_PERIOD e op.ts.toNat) s (s.acceptVector e op srcs stop) := by
  obtain ⟨vi, heq⟩ := acceptVector_eq s e op srcs stop
  have hplace (v key : Nat) (vec : Word48) : StepRest ms s (s.placeVector op srcs v key vec) := by
    refine StepRest.fold (fun a m hm => StepRest.fold (fun b k hk => ?_) a) s
    have hp : 4 * m.eng + k < 1024 := by
      have := (hsrcs m hm).2
      have := List.mem_range.1 hk
      omega
    exact (StepRest.modChan ..).trans (StepRest.placePin hp ..)
  have hmark (a : State) : StepRest ms a (a.markVector op srcs) := by
    unfold State.markVector
    split
    · refine StepRest.fold (fun b m hm => ?_) a
      exact StepRest.modEng (hsrcs m hm).1 b (fun _ => rfl) (fun _ => rfl)
    · exact .refl a
  have hnext (a : State) (ha : (a.eng e).gang = (s.eng e).gang) (per : Nat) : Issued ms e per a (a.nextVector e per (s.eng e).gang vi) := by
    unfold State.nextVector
    refine ⟨fun m hm => eng_setEng_other (by rintro rfl; exact hm he) _, fun m => ?_, ?_, fun _ _ _ => rfl, fun _ h => h, rfl⟩
    · by_cases hme : m = e
      · subst hme
        rw [State.modEng, eng_setEng_same]
      · rw [State.modEng, eng_setEng_other hme]
    · rw [State.modEng, eng_setEng_same, ha]
      exact ⟨rfl, rfl, rfl, rfl, rfl, rfl⟩
  rw [heq]
  exact .after (hplace _ _ _) (.before (hnext _ ((hplace _ _ _).gang e) _) ((hmark _).trans (.atTime ..)))

end Sys2Proof.Machine
end

section
/-!
SUPPORT. A step of a gang in which no bundle faults (R38, R68, R148): the vector in S6 is issued, the gang pauses or not, and every
member's stages move on.
-/
namespace Sys2Proof.Machine

open Sys2Proof

variable {ms : List Nat} {e per : Nat} {s t : State}

/-! ### The same change of several engines -/

theorem eng_forAll_modEng {f : Engine → Engine} (hf : ∀ x, f (f x) = f x) (xs : List Nat) (s : State) (m : Nat) :
    (s.forAll xs (fun a e => a.modEng e f)).eng m = if m ∈ xs then f (s.eng m) else s.eng m := by
  unfold State.forAll
  induction xs generalizing s with
  | nil => simp
  | cons x xs ih =>
    rw [List.foldl_cons, ih]
    by_cases hmx : m = x
    · subst hmx
      simp [State.modEng, hf]
    · simp [State.modEng, eng_setEng_other hmx, hmx]

theorem forAll_modEng_engines (f : Engine → Engine) (xs : List Nat) (s : State) :
    ∃ es, s.forAll xs (fun a e => a.modEng e f) = { s with engines := es } := by
  unfold State.forAll
  refine foldl_ind (P := fun a => ∃ es, a = { s with engines := es }) ?_ xs s ⟨_, rfl⟩
  rintro a n ⟨es, rfl⟩
  exact ⟨_, rfl⟩

/-! ### The fail capture unit's status of a gang -/

/-- Slot i of FCU c is at an address of the fail capture units. -/
theorem fcuAddr_gstat (he : e < 256) : fcuAddr (regAddr .FCU_GSTAT (fcuOf e).1 (fcuOf e).2) := by
  simp only [fcuAddr, fcuOf, regAddr, regInst, RegId.desc, Block.place]
  omega

theorem reg_gstat (he : e < 256) (h : ∀ a d, fcuAddr a → t.regs.get a d = s.regs.get a d) :
    t.reg .FCU_GSTAT (fcuOf e).1 (fcuOf e).2 = s.reg .FCU_GSTAT (fcuOf e).1 (fcuOf e).2 := by
  have hs : isShadowed .FCU_GSTAT = false := by decide
  unfold State.reg
  rw [hs]
  exact h _ _ (fcuAddr_gstat he)

/-- What the FCU's pause of a gang leaves in its status, for the reasons rs. -/
structure PauseShown (e : Nat) (rs : List Nat) (t : State) : Prop where
  paused : t.flag F.FCU_GSTAT_PAUSED (fcuOf e).1 (fcuOf e).2 = true
  reason : t.fld F.FCU_GSTAT_PREASON (fcuOf e).1 (fcuOf e).2 = stopReason rs
  pend : t.plic.pend.get (189 + (fcuOf e).1) false = true

theorem PauseShown.before {rs : List Nat} (he : e < 256) (h : PauseShown e rs s) (hr : ∀ a d, fcuAddr a → t.regs.get a d = s.regs.get a d)
    (hp : ∀ n, s.plic.pend.get n false = true → t.plic.pend.get n false = true) : PauseShown e rs t := by
  have hreg := reg_gstat he hr
  exact ⟨(congrArg (fun w => fldOf F.FCU_GSTAT_PAUSED w != 0) hreg).trans h.paused,
    (congrArg (fldOf F.FCU_GSTAT_PREASON) hreg).trans h.reason, hp _ h.pend⟩

theorem stopReason_lt (rs : List Nat) : stopReason rs < 2 ^ (F.FCU_GSTAT_PREASON.hi - F.FCU_GSTAT_PREASON.lo + 1) := by
  unfold stopReason
  split
  · decide
  · split <;> decide

/-- R148: the pause is in the FCU's status, and its interrupt pends. -/
theorem fcuPauseTaken_shown (s : State) (e : Nat) : PauseShown e ((s.fcu (fcuOf e).1).slot (fcuOf e).2).reqs (s.fcuPauseTaken e) := by
  generalize hrs : ((s.fcu (fcuOf e).1).slot (fcuOf e).2).reqs = rs
  have hform : ∃ g, s.fcuPauseTaken e = (((s.raise F.FCU_GSTAT_PAUSED (fcuOf e).1 (fcuOf e).2).setFld F.FCU_GSTAT_PREASON (stopReason rs)
      (fcuOf e).1 (fcuOf e).2).modSlot (fcuOf e).1 (fcuOf e).2 g).pendIrq (189 + (fcuOf e).1) := ⟨_, by rw [← hrs]; rfl⟩
  obtain ⟨g, hform⟩ := hform
  rw [hform]
  refine ⟨?_, ?_, Tab.get_set_same ..⟩
  · have hother := fld_setFld_other (s := s.raise F.FCU_GSTAT_PAUSED (fcuOf e).1 (fcuOf e).2) (f := F.FCU_GSTAT_PREASON)
      (g := F.FCU_GSTAT_PAUSED) rfl (stopReason rs) (fcuOf e).1 (fcuOf e).2 0 (by decide) (by decide) (by decide) (by decide)
    have hset := fld_setFld (s := s) F.FCU_GSTAT_PAUSED 1 (fcuOf e).1 (fcuOf e).2 0 (by decide) (by decide)
    exact congrArg (fun v => v != 0) (hother.trans hset)
  · have hset := fld_setFld (s := s.raise F.FCU_GSTAT_PAUSED (fcuOf e).1 (fcuOf e).2) F.FCU_GSTAT_PREASON (stopReason rs) (fcuOf e).1
      (fcuOf e).2 0 (by decide) (by decide)
    exact hset.trans (Nat.mod_eq_of_lt (stopReason_lt rs))

theorem fcuPauseTaken_eng (s : State) (e m : Nat) : (s.fcuPauseTaken e).eng m = s.eng m := rfl

/-! ### The vector of a step -/

/-- R54: the vector in S6 is the program's last. -/
def Engine.lastVector (x : Engine) : Bool :=
  (x.ending == .halt || x.ending == .enta) && x.s1.isNone && x.s2.isNone && x.s3.isNone && x.s4.isNone && x.s5.isNone

/-- What the members bring to the vector in their S6. -/
def vectorSrcs (xs : List (Nat × Engine)) : List MemberSrc :=
  xs.filterMap (fun m => m.2.s6.map (fun st => { eng := m.1, aIn := st.aIn, ao := st.ao, dout := st.dout, doutP := st.doutP }))

/-- R68: the vector b in S6 pauses the gang. -/
def State.vectorPauses (s : State) (e : Nat) (b : Stage) (force old : Bool) : Bool :=
  (b.pin.mode == 1 || force) && !(s.eng e).lastVector && !old

/-- R148: the FCU asks for the pause. -/
def State.pauseAsked (s : State) (e : Nat) (force : Bool) : Bool := force && !((s.fcu (fcuOf e).1).slot (fcuOf e).2).reqs.isEmpty

def State.pauseAll (s : State) (xs : List Nat) : State := s.forAll xs (fun acc m => acc.modEng m (fun y => { y with mode := .paused }))

theorem issueVector_eq {b : Stage} (h : (s.eng e).s6 = some b) (xs : List (Nat × Engine)) (force old : Bool) :
    s.issueVector e ms xs force old =
      if s.vectorPauses e b force old then
        (if s.pauseAsked e force then ((s.acceptVector e b.pin (vectorSrcs xs) (s.pauseAsked e force && s.vectorPauses e b force old)).countEngines
          ms 0x40).fcuPauseTaken e
        else (s.acceptVector e b.pin (vectorSrcs xs) (s.pauseAsked e force && s.vectorPauses e b force old)).countEngines ms 0x40).pauseAll ms
      else (s.acceptVector e b.pin (vectorSrcs xs) (s.pauseAsked e force && s.vectorPauses e b force old)).countEngines ms 0x40 := by
  unfold State.issueVector
  rw [h]
  rfl

theorem eng_pauseAll (s : State) (xs : List Nat) (m : Nat) :
    (s.pauseAll xs).eng m = if m ∈ xs then { s.eng m with mode := .paused } else s.eng m :=
  eng_forAll_modEng (f := fun y => { y with mode := .paused }) (fun _ => rfl) xs s m

theorem pauseAll_rest (s : State) (xs : List Nat) : (s.pauseAll xs).regs = s.regs ∧ (s.pauseAll xs).plic = s.plic := by
  obtain ⟨es, h⟩ := forAll_modEng_engines (fun y => { y with mode := .paused }) xs s
  unfold State.pauseAll
  rw [h]
  exact ⟨rfl, rfl⟩

/-- From s to t the gang that e leads has made its step: it issued a vector of the period, paused or not, and showed a pause of the FCU
or not. -/
structure Advanced (ms : List Nat) (e per : Nat) (pauses asked : Bool) (s t : State) : Prop where
  others : ∀ m, m ∉ ms → t.eng m = s.eng m
  mode : ∀ m ∈ ms, (t.eng m).mode = if pauses then .paused else (s.eng m).mode
  gang : GangMoved per (s.eng e).gang (t.eng e).gang
  gstat : (pauses && asked) = false → t.reg .FCU_GSTAT (fcuOf e).1 (fcuOf e).2 = s.reg .FCU_GSTAT (fcuOf e).1 (fcuOf e).2
  shown : (pauses && asked) = true → PauseShown e ((s.fcu (fcuOf e).1).slot (fcuOf e).2).reqs t

namespace Advanced

variable {pauses asked : Bool}

theorem of_issued (he : e < 256) (h : Issued ms e per s t) : Advanced ms e per false asked s t :=
  ⟨h.others, fun m _ => h.mode m, h.gang, fun _ => reg_gstat he h.regs, by simp⟩

/-- A vector that pauses the gang. -/
theorem pauseAll (he : e < 256) {u : State} (h : Issued ms e per s u) : Advanced ms e per true false s (u.pauseAll ms) := by
  obtain ⟨hregs, -⟩ := pauseAll_rest u ms
  refine ⟨fun m hm => ?_, fun m hm => ?_, ?_, fun _ => reg_gstat he fun a d ha => ?_, by simp⟩
  · rw [eng_pauseAll, if_neg hm, h.others m hm]
  · rw [eng_pauseAll, if_pos hm]
    rfl
  · have hgang : ((u.pauseAll ms).eng e).gang = (u.eng e).gang := by
      rw [eng_pauseAll]
      split <;> rfl
    rw [hgang]
    exact h.gang
  · rw [hregs]
    exact h.regs a d ha

/-- One that the FCU asked for. -/
theorem pauseTaken (he : e < 256) {u : State} (h : Issued ms e per s u) :
    Advanced ms e per true true s ((u.fcuPauseTaken e).pauseAll ms) := by
  obtain ⟨hregs, hplic⟩ := pauseAll_rest (u.fcuPauseTaken e) ms
  have hshown := fcuPauseTaken_shown u e
  have hfcu : u.fcu (fcuOf e).1 = s.fcu (fcuOf e).1 := by unfold State.fcu; rw [h.fcus]
  rw [hfcu] at hshown
  refine ⟨fun m hm => ?_, fun m hm => ?_, ?_, by simp, fun _ => hshown.before he (fun a d _ => by rw [hregs]) (fun n hn => by rwa [hplic])⟩
  · rw [eng_pauseAll, if_neg hm, fcuPauseTaken_eng, h.others m hm]
  · rw [eng_pauseAll, if_pos hm]
    rfl
  · have hgang : (((u.fcuPauseTaken e).pauseAll ms).eng e).gang = (u.eng e).gang := by
      rw [eng_pauseAll]
      split <;> rfl
    rw [hgang]
    exact h.gang

theorem after {a : State} (h : StepRest ms s a) (he : e < 256) (g : Advanced ms e per pauses asked a t) :
    Advanced ms e per pauses asked s t := by
  have hfcu : a.fcu (fcuOf e).1 = s.fcu (fcuOf e).1 := by unfold State.fcu; rw [h.fcus]
  refine ⟨fun m hm => (g.others m hm).trans (h.others m hm), fun m hm => ?_, by rw [← h.gang]; exact g.gang,
    fun hp => (g.gstat hp).trans (reg_gstat he h.regs), fun hp => ?_⟩
  · rw [g.mode m hm, h.mode m]
  · rw [← hfcu]
    exact g.shown hp

theorem before {a : State} (g : Advanced ms e per pauses asked s a) (he : e < 256) (h : StepRest ms a t) :
    Advanced ms e per pauses asked s t :=
  ⟨fun m hm => (h.others m hm).trans (g.others m hm), fun m hm => (h.mode m).trans (g.mode m hm), by rw [h.gang]; exact g.gang,
    fun hp => (reg_gstat he h.regs).trans (g.gstat hp), fun hp => (g.shown hp).before he h.regs h.pend⟩

end Advanced

theorem issueVector_advanced {b : Stage} (he : e ∈ ms) (hms : ∀ m ∈ ms, m < 256) (h : (s.eng e).s6 = some b) {xs : List (Nat × Engine)}
    (hxs : ∀ x ∈ xs, x.1 ∈ ms) (force old : Bool) :
    Advanced ms e (s.fld F.TSET_PER_PERIOD e b.pin.ts.toNat) (s.vectorPauses e b force old) (s.pauseAsked e force) s
      (s.issueVector e ms xs force old) := by
  have hsrcs : ∀ m ∈ vectorSrcs xs, m.eng ∈ ms ∧ m.eng < 256 := by
    intro m hm
    obtain ⟨x, hx, hxm⟩ := List.mem_filterMap.1 hm
    obtain ⟨st, -, rfl⟩ := Option.map_eq_some_iff.1 hxm
    exact ⟨hxs x hx, hms _ (hxs x hx)⟩
  rw [issueVector_eq h]
  generalize hstop : (s.pauseAsked e force && s.vectorPauses e b force old) = stop
  have hissued := (acceptVector_issued he hsrcs s b.pin stop).before (.countEngines _ ms 0x40)
  generalize (s.acceptVector e b.pin (vectorSrcs xs) stop).countEngines ms 0x40 = u at hissued
  have he256 := hms e he
  cases s.vectorPauses e b force old with
  | false => exact .of_issued he256 hissued
  | true =>
    cases s.pauseAsked e force with
    | false => exact .pauseAll he256 hissued
    | true => exact .pauseTaken he256 hissued

/-! ### The stages of a step -/

/-- Every member's stages move on; its state before is given. A RETI in S2 keeps S1 empty. -/
def State.moveAll (s : State) (xs : List (Nat × Engine)) (e : Nat) (reti : Bool) : State :=
  let t := xs.foldl (fun acc m => acc.stepEngine m.1 m.2 true (m.1 == e) 0 (!reti)) s
  if reti then t.modEng e (fun y => { y with s1 := none }) else t

theorem moveAll_rest (he : e ∈ ms) (hms : ∀ m ∈ ms, m < 256) {xs : List (Nat × Engine)} (hxs : ∀ x ∈ xs, x.1 ∈ ms) (s : State) (reti : Bool) :
    StepRest ms s (s.moveAll xs e reti) := by
  have hmove : StepRest ms s (xs.foldl (fun acc m => acc.stepEngine m.1 m.2 true (m.1 == e) 0 (!reti)) s) :=
    StepRest.fold (fun a x hx => StepRest.stepEngine (hxs x hx) (hms _ (hxs x hx)) a x.2 true (x.1 == e) 0 (!reti)) s
  unfold State.moveAll
  dsimp only
  split
  · refine hmove.trans ?_
    exact .modEng he _ (fun _ => rfl) (fun _ => rfl)
  · exact hmove

/-- R38: a step in a stream in which nothing faults. -/
theorem stepStages_unfaulted {kind : StepKind} (hstream : kind.stream = true) (hkind : kind ≠ .prestart) (x0 : Engine) {res : FetchRes}
    (hflt : s.stepFlt ms true res = none) : ∃ reti, s.stepStages ms kind x0 res =
      ((s.countEngines ms 0x41).issueVector (ms.headD 0) ms (ms.map (fun m => (m, s.eng m))) (kind == .forced)
        (s.faulting ms)).moveAll (ms.map (fun m => (m, s.eng m))) (ms.headD 0) reti := by
  have hpre : (kind != .prestart) = true := by simpa using hkind
  refine ⟨match x0.s2 with | some t => t.flow == .reti | none => false, ?_⟩
  unfold State.stepStages
  simp only [hstream, hflt, hpre]
  simp <;> rfl

theorem countEngines_changes (s : State) (xs : List Nat) (evt : Nat) : ∃ r q, s.countEngines xs evt = { s with regs := r, plic := q } := by
  unfold State.countEngines State.forAll
  refine foldl_ind (P := fun a => ∃ r q, a = { s with regs := r, plic := q }) ?_ xs s ⟨_, _, rfl⟩
  rintro a n ⟨r, q, rfl⟩
  obtain ⟨r', q', h⟩ := pmonEvent_changes (s := { s with regs := r, plic := q }) (332 + n / 4) evt 0 1 true
  exact ⟨r', q', h⟩

section
variable (hhead : ms.headD 0 = e) (he : e ∈ ms) (hms : ∀ m ∈ ms, m < 256) {kind : StepKind} (hstream : kind.stream = true)
  (hkind : kind ≠ .prestart) {res : FetchRes} (hflt : s.stepFlt ms true res = none)
include hhead he hms hstream hkind hflt

/-- R38, R68: a step with a vector in S6 issues it. -/
theorem stepStages_advanced {b : Stage} (h : (s.eng e).s6 = some b) (x0 : Engine) :
    Advanced ms e (s.fld F.TSET_PER_PERIOD e b.pin.ts.toNat) (s.vectorPauses e b (kind == .forced) (s.faulting ms))
      (s.pauseAsked e (kind == .forced)) s (s.stepStages ms kind x0 res) := by
  obtain ⟨reti, hform⟩ := stepStages_unfaulted hstream hkind x0 hflt
  have hxs : ∀ x ∈ ms.map (fun m => (m, s.eng m)), x.1 ∈ ms := by simp
  have hcount := StepRest.countEngines (ms := ms) s ms 0x41
  obtain ⟨r, q, hchanges⟩ := countEngines_changes s ms 0x41
  have hissue := issueVector_advanced (s := { s with regs := r, plic := q }) he hms h hxs (kind == .forced) (s.faulting ms)
  have hper : ({ s with regs := r, plic := q } : State).fld F.TSET_PER_PERIOD e b.pin.ts.toNat = s.fld F.TSET_PER_PERIOD e b.pin.ts.toNat := by
    have hshadow : isShadowed F.TSET_PER_PERIOD.reg = true := by decide
    unfold State.fld State.reg
    rw [if_pos hshadow, if_pos hshadow]
  rw [hper] at hissue
  rw [hchanges] at hcount
  rw [hform, hhead, hchanges]
  exact (hissue.after hcount (hms e he)).before (hms e he) (moveAll_rest he hms hxs _ reti)

/-- One with an empty S6 issues none. -/
theorem stepStages_rest (h : (s.eng e).s6 = none) (x0 : Engine) : StepRest ms s (s.stepStages ms kind x0 res) := by
  obtain ⟨reti, hform⟩ := stepStages_unfaulted hstream hkind x0 hflt
  have hxs : ∀ x ∈ ms.map (fun m => (m, s.eng m)), x.1 ∈ ms := by simp
  have hcount := StepRest.countEngines (ms := ms) s ms 0x41
  obtain ⟨r, q, hchanges⟩ := countEngines_changes s ms 0x41
  have hissue : ({ s with regs := r, plic := q } : State).issueVector e ms (ms.map (fun m => (m, s.eng m))) (kind == .forced)
      (s.faulting ms) = { s with regs := r, plic := q } := by
    have h' : (({ s with regs := r, plic := q } : State).eng e).s6 = none := h
    unfold State.issueVector
    rw [h']
  rw [hform, hhead, hchanges, hissue]
  rw [hchanges] at hcount
  exact hcount.trans (moveAll_rest he hms hxs _ reti)

end

end Sys2Proof.Machine
end

section
/-!
SUPPORT. Whether a bundle faults in a gang's step (R61, R69, R84, R85) depends on the members' stages and registers and on what no start
or resume of the gang changes; and what a step in a stream is in which none does.
-/
namespace Sys2Proof.Machine

open Sys2Proof

variable {ms : List Nat} {e m : Nat} {s t : State}

/-- y is x but for what a gang's start, resume or fetch changes of an engine: its mode and its place in the gang, and S1. -/
def SameStages (x y : Engine) : Prop :=
  y = { x with mode := y.mode, leftIdle := y.leftIdle, alone := y.alone, gang := y.gang, s1 := y.s1 }

/-- t agrees with s on what the faults of a step read beside the engines. -/
structure SameFaults (s t : State) : Prop where
  work : t.work = s.work
  int : ∀ m, m < 256 → t.flag F.CE_INT_IE m = s.flag F.CE_INT_IE m
  port : ∀ m, m < 256 → t.portAError m = s.portAError m

theorem SameFaults.trans {a b c : State} (h : SameFaults a b) (g : SameFaults b c) : SameFaults a c :=
  ⟨g.work.trans h.work, fun m hm => (g.int m hm).trans (h.int m hm), fun m hm => (g.port m hm).trans (h.port m hm)⟩

/-- A shadowed register reads its working value. -/
theorem reg_of_work (h : t.work = s.work) {r : RegId} (hr : isShadowed r = true) (i j k : Nat) : t.reg r i j k = s.reg r i j k := by
  unfold State.reg
  rw [if_pos hr, if_pos hr, h]

theorem fld_of_work (h : t.work = s.work) {f : Fld} (hf : isShadowed f.reg = true) (i j k : Nat) : t.fld f i j k = s.fld f i j k :=
  congrArg (fldOf f) (reg_of_work h hf i j k)

theorem scrambleAt_of_work (h : t.work = s.work) (k : Nat) (v : Word32) : t.scrambleAt m k v = s.scrambleAt m k v := by
  have hx : t.scrX m = s.scrX m := by
    funext i
    unfold State.scrX
    rw [reg_of_work h (by decide)]
  have hy : t.scrY m = s.scrY m := by
    funext i
    unfold State.scrY
    rw [reg_of_work h (by decide)]
  have hfld (f : Fld) (hf : isShadowed f.reg = true) : t.fld f m = s.fld f m := fld_of_work h hf m 0 0
  unfold State.scrambleAt State.flag
  rw [hx, hy, hfld F.CE_SCRCFG_AEN (by decide), hfld F.CE_SCRCFG_XEN (by decide), hfld F.CE_SCRCFG_XG (by decide),
    hfld F.CE_SCRCFG_YEN (by decide), hfld F.CE_SCRCFG_YG (by decide)]

/-- R65, R112: a vector is refused by the timing sets alone. -/
theorem vectorRefused_of_work (h : t.work = s.work) (op : PinOp) : t.vectorRefused e m op = s.vectorRefused e m op := by
  have hper (i : Nat) : t.fld F.TSET_PER_PERIOD i op.ts.toNat = s.fld F.TSET_PER_PERIOD i op.ts.toNat := fld_of_work h (by decide) ..
  have hfmt (k : Nat) : t.fld F.TSET_FMT_FMT m op.ts.toNat k = s.fld F.TSET_FMT_FMT m op.ts.toNat k := fld_of_work h (by decide) ..
  unfold State.vectorRefused
  simp only [hper, hfmt]

theorem poisonedSource_of_work (h : t.work = s.work) (src : MemberSrc) (op : PinOp) : t.poisonedSource src op = s.poisonedSource src op := by
  have hsel (k : Nat) : t.fld F.CE_SRC_SEL src.eng k = s.fld F.CE_SRC_SEL src.eng k := fld_of_work h (by decide) ..
  unfold State.poisonedSource
  simp only [hsel]

theorem s6Fault_of_work (h : t.work = s.work) (b : Stage) : t.s6Fault e m true b = s.s6Fault e m true b := by
  unfold State.s6Fault
  rw [if_pos rfl, if_pos rfl]
  dsimp only
  rw [poisonedSource_of_work h, vectorRefused_of_work h]

theorem agenEff_same (h : t.work = s.work) {x y : Engine} (hxy : SameStages x y) (op : AgenOp) : t.agenEff m y op = s.agenEff m x op := by
  rw [hxy]
  cases op
  case aout k j p md n =>
    simp only [State.agenEff, scrambleAt_of_work h]
    rfl
  all_goals rfl

theorem s3Fault_same (h : SameFaults s t) (hm : m < 256) {x y : Engine} (hxy : SameStages x y) (b : Stage) :
    t.s3Fault m y b = s.s3Fault m x b := by
  have hrp : y.rp = x.rp := by rw [hxy]; rfl
  have hbad (a : Word32) : t.memBad m a = s.memBad m a := by
    unfold State.memBad
    rw [h.port m hm]
  unfold State.s3Fault
  rw [agenEff_same h.work hxy, hrp]
  simp only [hbad]

theorem s2Fault_same (h : SameFaults s t) (hm : m < 256) {x y : Engine} (hxy : SameStages x y) (lead : Bool) (b : Stage)
    {n n' : Option BAddr} (hn : lead = true → n' = n) : t.s2Fault m y true lead b n' = s.s2Fault m x true lead b n := by
  have hra : y.ra = x.ra := by rw [hxy]; rfl
  have hld : y.ld = x.ld := by rw [hxy]
  have hcd : y.cd = x.cd := by rw [hxy]
  have hend : y.matchesEnd = x.matchesEnd := by rw [hxy]; rfl
  unfold State.s2Fault
  rw [h.int m hm, h.port m hm, hra, hld, hcd, hend]
  cases lead with
  | false => rfl
  | true => rw [hn rfl]

/-- R84: whether and how a bundle faults at S6, S3 or S2 of a member. -/
theorem stageFault_same (h : SameFaults s t) (hm : m < 256) (hxy : SameStages (s.eng m) (t.eng m))
    (hlead : m = e → (t.eng m).s1 = (s.eng m).s1) {k : Nat} (hk : k ∈ [6, 3, 2]) : t.stageFault e m true k = s.stageFault e m true k := by
  have hs6 : (t.eng m).s6 = (s.eng m).s6 := by rw [hxy]
  have hs3 : (t.eng m).s3 = (s.eng m).s3 := by rw [hxy]
  have hs2 : (t.eng m).s2 = (s.eng m).s2 := by rw [hxy]
  simp only [List.mem_cons, List.not_mem_nil, or_false] at hk
  unfold State.stageFault Engine.stage
  rcases hk with rfl | rfl | rfl
  · simp only [hs6, s6Fault_of_work h.work]
  · simp only [hs3, s3Fault_same h hm hxy]
  · have hnext (b : Stage) : t.s2Fault m (t.eng m) true (m == e) b ((t.eng m).s1.map (·.addr)) =
        s.s2Fault m (s.eng m) true (m == e) b ((s.eng m).s1.map (·.addr)) :=
      s2Fault_same h hm hxy _ b (fun hme => by rw [hlead (by simpa using hme)])
    simp only [hs2, Bool.not_true, Bool.false_or, hnext]

/-- R85: the fault of a step. -/
theorem stepFault_same (h : SameFaults s t) (hms : ∀ m ∈ ms, m < 256) (hxy : ∀ m ∈ ms, SameStages (s.eng m) (t.eng m))
    (hlead : (t.eng e).s1 = (s.eng e).s1) : t.stepFault e ms true = s.stepFault e ms true := by
  have hfilter {k : Nat} (hk : k ∈ [6, 3, 2]) : ms.filterMap (fun m => (t.stageFault e m true k).map (fun f => (m, f))) =
      ms.filterMap (fun m => (s.stageFault e m true k).map (fun f => (m, f))) :=
    List.filterMap_congr fun m hm => by rw [stageFault_same h (hms m hm) (hxy m hm) (by rintro rfl; exact hlead) hk]
  unfold State.stepFault
  simp only [List.findSome?_cons, List.findSome?_nil, hfilter (k := 6) (by simp), hfilter (k := 3) (by simp), hfilter (k := 2) (by simp)]

/-! ### A step in a stream -/

theorem firstFlt_eq_none {xs : List (Bool × Nat × Nat)} (h : firstFlt xs = none) {q : Nat × Nat} : (true, q) ∉ xs := fun hq => by
  simpa using List.find?_eq_none.1 (Option.map_eq_none_iff.1 h) _ hq

/-- R89: a RESTL faults in a stream. -/
theorem s2Fault_restl {x : Engine} {lead : Bool} {b : Stage} {n : Option BAddr} {r : BitVec 3} (hb : b.flow = .restl r) :
    s.s2Fault m x true lead b n ≠ none := by
  intro h
  unfold State.s2Fault at h
  rw [hb] at h
  refine firstFlt_eq_none h (q := (8, 0)) ?_
  iterate 9 apply List.Mem.tail
  exact List.Mem.head _

/-- So none holds the pipeline there. -/
theorem restlHolds_stream {x0 : Engine} (hx : (s.eng e).s2 = x0.s2) : s.restlHolds e true x0 = false := by
  unfold State.restlHolds
  split
  · rename_i b hb
    split
    · rename_i r hr
      have hfault : s.stageFault e e true 2 = s.s2Fault e (s.eng e) true (e == e) b ((s.eng e).s1.map (·.addr)) := by
        unfold State.stageFault Engine.stage
        simp only [hx, hb]
        rfl
      have hsome : (s.stageFault e e true 2).isNone = false := by
        rw [hfault, Option.isNone_eq_false_iff, Option.isSome_iff_ne_none]
        exact s2Fault_restl hr
      rw [hsome, Bool.and_false]
    · rfl
  · rfl

/-- S1 of the leader is every member's. -/
def State.shareS1 (s : State) (ms : List Nat) (e : Nat) : State :=
  (s.setEng e (s.eng e)).forAll (ms.drop 1) (fun acc m => acc.modEng m (fun y => { y with s1 := (s.eng e).s1 }))

theorem stepFetch_ready (hhead : ms.headD 0 = e) (hready : (s.eng e).s1.isSome = true ∨ (s.eng e).fetching = false) :
    s.stepFetch ms = (s.shareS1 ms e, .ready) := by
  have hfetch : ((s.eng e).fetching && (s.eng e).s1.isNone) = false := by
    rcases hready with h | h
    · rw [Option.isNone_eq_false_iff.2 h, Bool.and_false]
    · rw [h, Bool.false_and]
  unfold State.stepFetch
  rw [hhead]
  dsimp only
  rw [hfetch]
  rfl

theorem eng_shareS1 (s : State) (m : Nat) :
    (s.shareS1 ms e).eng m = if m ∈ ms.drop 1 then { s.eng m with s1 := (s.eng e).s1 } else s.eng m := by
  have hself : (s.setEng e (s.eng e)).eng m = s.eng m := by
    by_cases hme : m = e
    · rw [hme, eng_setEng_same]
    · rw [eng_setEng_other hme]
  have hall := eng_forAll_modEng (f := fun y => { y with s1 := (s.eng e).s1 }) (fun _ => rfl) (ms.drop 1) (s.setEng e (s.eng e)) m
  rw [hself] at hall
  exact hall

theorem eng_shareS1_lead (s : State) : (s.shareS1 ms e).eng e = s.eng e := by
  rw [eng_shareS1]
  split <;> rfl

theorem shareS1_stages (s : State) (m : Nat) : SameStages (s.eng m) ((s.shareS1 ms e).eng m) := by
  rw [eng_shareS1]
  split <;> rfl

theorem shareS1_mode (s : State) (m : Nat) : ((s.shareS1 ms e).eng m).mode = (s.eng m).mode := by
  rw [eng_shareS1]
  split <;> rfl

theorem shareS1_changes (s : State) : ∃ es, s.shareS1 ms e = { s with engines := es } := by
  obtain ⟨es, h⟩ := forAll_modEng_engines (fun y => { y with s1 := (s.eng e).s1 }) (ms.drop 1) (s.setEng e (s.eng e))
  exact ⟨es, h⟩

theorem shareS1_rest (s : State) : StepRest ms s (s.shareS1 ms e) := by
  obtain ⟨es, h⟩ := shareS1_changes (ms := ms) (e := e) s
  refine ⟨fun m hm => ?_, shareS1_mode s, fun m => ?_, fun _ _ _ => by rw [h], fun _ hn => by rw [h]; exact hn, by rw [h]⟩
  · rw [eng_shareS1, if_neg (fun hd => hm (List.mem_of_mem_drop hd))]
  · rw [eng_shareS1]
    split <;> rfl

theorem shareS1_faults (s : State) : SameFaults s (s.shareS1 ms e) := by
  obtain ⟨es, h⟩ := shareS1_changes (ms := ms) (e := e) s
  rw [h]
  exact ⟨rfl, fun _ _ => rfl, fun _ _ => rfl⟩

theorem shareS1_faulting (s : State) : (s.shareS1 ms e).faulting ms = s.faulting ms := by
  have hfault (m : Nat) : ((s.shareS1 ms e).eng m).gangFault = (s.eng m).gangFault := by rw [shareS1_stages s m]
  unfold State.faulting
  simp only [hfault, shareS1_mode]

section
variable (hhead : ms.headD 0 = e) (he : e ∈ ms) (hms : ∀ m ∈ ms, m < 256) {kind : StepKind} (hstream : kind.stream = true)
  (hkind : kind ≠ .prestart) (hready : (s.eng e).s1.isSome = true ∨ (s.eng e).fetching = false) (hfault : s.stepFault e ms true = none)
include hhead he hms hstream hkind hready hfault

omit he hkind in
/-- R38: a step in a stream whose bundle is at hand and that nothing faults in takes its stages. -/
theorem stepParts_eq_stepStages : s.stepParts ms kind = (s.shareS1 ms e).stepStages ms kind (s.eng e) .ready ∧
    (s.shareS1 ms e).stepFlt ms true .ready = none := by
  have hsame := stepFault_same (shareS1_faults s) hms (fun m _ => shareS1_stages s m) (by rw [eng_shareS1_lead] : ((s.shareS1 ms e).eng e).s1 = _)
  constructor
  · have hsync : (s.shareS1 ms e).syncHolds e true (s.eng e) = false := by
      unfold State.syncHolds
      split <;> simp
    unfold State.stepParts
    rw [hhead, hstream]
    dsimp only
    rw [stepFetch_ready hhead hready, restlHolds_stream (by rw [eng_shareS1_lead]), hsync]
    simp
  · unfold State.stepFlt
    rw [hhead, hsame, hfault]

/-- R38, R68: a step with a vector in S6. -/
theorem stepParts_advanced {b : Stage} (h : (s.eng e).s6 = some b) :
    Advanced ms e (s.fld F.TSET_PER_PERIOD e b.pin.ts.toNat) (s.vectorPauses e b (kind == .forced) (s.faulting ms))
      (s.pauseAsked e (kind == .forced)) s (s.stepParts ms kind) := by
  obtain ⟨hstep, hflt⟩ := stepParts_eq_stepStages hhead hms hstream hready hfault
  have hadv := stepStages_advanced hhead he hms hstream hkind hflt (by rw [eng_shareS1_lead]; exact h) (s.eng e)
  have hpauses (force : Bool) : (s.shareS1 ms e).vectorPauses e b force ((s.shareS1 ms e).faulting ms) =
      s.vectorPauses e b force (s.faulting ms) := by
    unfold State.vectorPauses
    rw [eng_shareS1_lead, shareS1_faulting]
  have hasked (force : Bool) : (s.shareS1 ms e).pauseAsked e force = s.pauseAsked e force := by
    obtain ⟨es, hes⟩ := shareS1_changes (ms := ms) (e := e) s
    rw [hes]
    rfl
  rw [hpauses, hasked, fld_of_work (shareS1_faults s).work (by decide)] at hadv
  rw [hstep]
  exact hadv.after (shareS1_rest s) (hms e he)

/-- One with none. -/
theorem stepParts_rest (h : (s.eng e).s6 = none) : StepRest ms s (s.stepParts ms kind) := by
  obtain ⟨hstep, hflt⟩ := stepParts_eq_stepStages hhead hms hstream hready hfault
  rw [hstep]
  exact (shareS1_rest s).trans (stepStages_rest hhead he hms hstream hkind hflt (by rw [eng_shareS1_lead]; exact h) (s.eng e))

end

end Sys2Proof.Machine
end

section
/-!
PROOF. O18: a gang's start and resume, and the FCU's pause. A start or a resume makes the gang ready (GangReady), which changes nothing
that a fault depends on, and is followed by a step; the step's vector and pause are those of Advanced.
-/
namespace Sys2Proof.Machine

open Sys2Proof

variable {ms : List Nat} {e m : Nat} {s t u : State}

/-! ### The members of a gang (R21) -/

theorem gangSize_dvd (s : State) (e : Nat) : s.gangSize e ∣ 256 := by
  have hcode : s.fld F.CE_GANG_SIZE e < 8 := lt_of_lt_of_eq (BitVec.isLt _) (by decide)
  exact (Nat.pow_dvd_pow 2 (show s.fld F.CE_GANG_SIZE e ≤ 8 by omega) : 2 ^ s.fld F.CE_GANG_SIZE e ∣ 2 ^ 8)

theorem members_head (s : State) (e : Nat) : (s.members e).headD 0 = e := by
  have hpos : 0 < s.gangSize e := Nat.pos_of_dvd_of_pos (gangSize_dvd s e) (by decide)
  obtain ⟨n, hn⟩ := Nat.exists_eq_succ_of_ne_zero hpos.ne'
  unfold State.members
  rw [hn, List.range_succ_eq_map]
  rfl

theorem mem_members_self (s : State) (e : Nat) : e ∈ s.members e := by
  have hpos : 0 < s.gangSize e := Nat.pos_of_dvd_of_pos (gangSize_dvd s e) (by decide)
  exact List.mem_map.2 ⟨0, List.mem_range.2 hpos, rfl⟩

/-- The members of a leader's gang are engines of the part. -/
theorem members_lt (hlead : s.leader e = e) (he : e < 256) : ∀ m ∈ s.members e, m < 256 := by
  intro m hm
  obtain ⟨i, hi, rfl⟩ := List.mem_map.1 hm
  have hi := List.mem_range.1 hi
  obtain ⟨q, hq⟩ := gangSize_dvd s e
  have hmul : e / s.gangSize e * s.gangSize e = e := hlead
  have hlt : e / s.gangSize e < q := by
    rw [Nat.div_lt_iff_lt_mul (by omega)]
    rw [Nat.mul_comm]
    omega
  have hle : (e / s.gangSize e + 1) * s.gangSize e ≤ q * s.gangSize e := Nat.mul_le_mul_right _ hlt
  rw [Nat.mul_comm q, ← hq, Nat.add_mul, hmul] at hle
  omega

theorem members_of_work (h : t.work = s.work) : t.members e = s.members e := by
  have hsize : t.fld F.CE_GANG_SIZE e = s.fld F.CE_GANG_SIZE e := fld_of_work h (by decide) ..
  unfold State.members State.gangSize
  rw [hsize]

/-! ### The fail capture units at a start and a resume -/

/-- t differs from s, of what the engines use, in the fail capture units' registers alone. -/
structure FcuChange (s t : State) : Prop where
  engines : t.engines = s.engines
  work : t.work = s.work
  regs : ∀ a d, ¬ fcuAddr a → t.regs.get a d = s.regs.get a d

namespace FcuChange

theorem refl (s : State) : FcuChange s s := ⟨rfl, rfl, fun _ _ _ => rfl⟩

theorem trans {a b c : State} (h : FcuChange a b) (g : FcuChange b c) : FcuChange a c :=
  ⟨g.engines.trans h.engines, g.work.trans h.work, fun a d ha => (g.regs a d ha).trans (h.regs a d ha)⟩

theorem eng (h : FcuChange s t) (m : Nat) : t.eng m = s.eng m := by
  unfold State.eng
  rw [h.engines]

theorem setReg {r : RegId} (hs : isShadowed r = false) {i j : Nat} (h : fcuAddr (regAddr r i j)) (s : State) (v : Word) :
    FcuChange s (s.setReg r v i j) := by
  rw [setReg_regs hs]
  refine ⟨rfl, rfl, fun a d ha => Tab.get_set_other _ ?_ _ _ _⟩
  rintro rfl
  exact ha h

theorem modSlot (s : State) (c i : Nat) (g : FcuSlot → FcuSlot) : FcuChange s (s.modSlot c i g) := ⟨rfl, rfl, fun _ _ _ => rfl⟩
theorem fcuResume (s : State) (e : Nat) : FcuChange s (s.fcuResume e) := ⟨rfl, rfl, fun _ _ _ => rfl⟩
theorem atTime (s : State) (n : Nat) : FcuChange s (s.atTime n) := ⟨rfl, rfl, fun _ _ _ => rfl⟩

theorem fold {α : Type} {f : State → α → State} {xs : List α} (h : ∀ a, ∀ x ∈ xs, FcuChange a (f a x)) (s : State) :
    FcuChange s (xs.foldl f s) := by
  induction xs generalizing s with
  | nil => exact refl s
  | cons x xs ih => exact (h s x (by simp)).trans (ih (fun a y hy => h a y (by simp [hy])) _)

theorem latchGangs (s : State) (cs : List Nat) : FcuChange s (s.forAll cs (fun a c => a.latchGangs c)) :=
  fold (f := fun a c => a.latchGangs c) (fun _ _ _ => ⟨rfl, rfl, fun _ _ _ => rfl⟩) s

/-- R139: a slot's counters are cleared. -/
theorem fcuClearSlot (he : e < 256) (s : State) : FcuChange s (s.fcuClearSlot (fcuOf e).1 (fcuOf e).2) := by
  have hset (r : RegId) (hr : r = .FCU_GCNT ∨ r = .FCU_DROP ∨ r = .FCU_FIRSTU) (hs : isShadowed r = false) (a : State) :
      FcuChange a (a.setReg r 0 (fcuOf e).1 (fcuOf e).2) := by
    refine setReg hs ?_ a 0
    rcases hr with rfl | rfl | rfl
    all_goals
      simp only [fcuAddr, fcuOf, regAddr, regInst, RegId.desc, Block.place]
      omega
  unfold State.fcuClearSlot
  exact (((hset .FCU_GCNT (by simp) (by decide) s).trans (hset .FCU_DROP (by simp) (by decide) _)).trans
    (hset .FCU_FIRSTU (by simp) (by decide) _)).trans (modSlot ..)

theorem fcuClearPin {p : Nat} (hp : p < 1024) (s : State) : FcuChange s (s.fcuClearPin (p / 16) (p % 16)) := by
  have hset (r : RegId) (hr : r = .FCU_PCNT ∨ r = .FCU_PFIRST) (hs : isShadowed r = false) (a : State) :
      FcuChange a (a.setReg r 0 (p / 16) (p % 16)) := by
    refine setReg hs ?_ a 0
    rcases hr with rfl | rfl
    all_goals
      simp only [fcuAddr, regAddr, regInst, RegId.desc, Block.place]
      omega
  exact (hset .FCU_PCNT (by simp) (by decide) s).trans (hset .FCU_PFIRST (by simp) (by decide) _)

end FcuChange

/-- R139: what AUTOCLR clears at a start. -/
def State.fcuCleared (s : State) (e : Nat) : State :=
  if s.flag F.FCU_GCFG_AUTOCLR (fcuOf e).1 (fcuOf e).2 then
    (s.fcuClearSlot (fcuOf e).1 (fcuOf e).2).forAll ((s.fcuClearSlot (fcuOf e).1 (fcuOf e).2).gangPins e)
      (fun acc p => acc.fcuClearPin (p / 16) (p % 16))
  else s

theorem fcuStart_eq (s : State) (e : Nat) : ∃ g, s.fcuStart e =
    ((s.fcuCleared e).setFld F.FCU_GSTAT_CNTONLY 0 (fcuOf e).1 (fcuOf e).2).modSlot (fcuOf e).1 (fcuOf e).2 g := by
  unfold State.fcuStart State.fcuCleared
  dsimp only
  generalize fcuOf e = p
  exact ⟨_, rfl⟩

theorem FcuChange.fcuCleared (he : e < 256) (hms : ∀ m ∈ s.members e, m < 256) : FcuChange s (s.fcuCleared e) := by
  unfold State.fcuCleared
  split
  · refine (FcuChange.fcuClearSlot he s).trans (FcuChange.fold (fun a p hp => FcuChange.fcuClearPin ?_ a) _)
    obtain ⟨m, hm, hpm⟩ := List.mem_flatMap.1 hp
    have hm' : m < 256 := hms m hm
    obtain ⟨k, hk, rfl⟩ := List.mem_map.1 hpm
    have := List.mem_range.1 hk
    omega
  · exact FcuChange.refl s

/-- R139, R147: at a start the FCU clears what AUTOCLR names, and CNTONLY. -/
theorem FcuChange.fcuStart (he : e < 256) (hms : ∀ m ∈ s.members e, m < 256) :
    FcuChange s (s.fcuStart e) ∧ (s.fcuStart e).flag F.FCU_GSTAT_CNTONLY (fcuOf e).1 (fcuOf e).2 = false := by
  obtain ⟨g, hform⟩ := fcuStart_eq s e
  rw [hform]
  refine ⟨((FcuChange.fcuCleared he hms).trans (FcuChange.setReg (by decide) (fcuAddr_gstat he) _ _)).trans (.modSlot ..), ?_⟩
  exact congrArg (fun v => v != 0) (fld_setFld (s := s.fcuCleared e) F.FCU_GSTAT_CNTONLY 0 (fcuOf e).1 (fcuOf e).2 0 (by decide)
    (by decide))

/-- Of what the faults of a step read beside the engines, nothing lies in the fail capture units. -/
theorem sameFaults_of_regs (hwork : t.work = s.work) (hregs : ∀ a d, ¬ fcuAddr a → t.regs.get a d = s.regs.get a d) : SameFaults s t := by
  have hreg {r : RegId} {i j : Nat} (hr : ¬ fcuAddr (regAddr r i j)) : t.reg r i j = s.reg r i j := by
    unfold State.reg
    rw [hwork, hregs _ _ hr]
  refine ⟨hwork, fun m hm => ?_, fun m hm => ?_⟩
  · have haddr : ¬ fcuAddr (regAddr .CE_INT m) := by
      simp only [fcuAddr, regAddr, regInst, RegId.desc, Block.place]
      omega
    exact congrArg (fun w => fldOf F.CE_INT_IE w != 0) (hreg haddr)
  · have hslc (r : RegId) (hr : r = .SLC_STATUS ∨ r = .SLC_CTRL) : t.reg r m = s.reg r m := by
      refine hreg ?_
      rcases hr with rfl | rfl
      all_goals
        simp only [fcuAddr, regAddr, regInst, RegId.desc, Block.place]
        omega
    have hon : t.domOn (domSL (m / 4)) = s.domOn (domSL (m / 4)) := by
      unfold State.domOn
      rw [hreg]
      simp only [fcuAddr, domSL, regAddr, regInst, RegId.desc, Block.place]
      omega
    have hfilling : t.flag F.SLC_STATUS_FILLING m = s.flag F.SLC_STATUS_FILLING m :=
      congrArg (fun w => fldOf F.SLC_STATUS_FILLING w != 0) (hslc .SLC_STATUS (.inl rfl))
    have hretire : t.flag F.SLC_CTRL_RETIRE m = s.flag F.SLC_CTRL_RETIRE m :=
      congrArg (fun w => fldOf F.SLC_CTRL_RETIRE w != 0) (hslc .SLC_CTRL (.inr rfl))
    unfold State.portAError State.sliceBlock State.sliceOn
    rw [hon, hfilling, hretire]

/-! ### A gang made ready -/

/-- From s to u a start or a resume of the gang that e leads has put its members into STREAM, and left g of what the leader holds. -/
structure GangReady (ms : List Nat) (e : Nat) (g : Gang) (s u : State) : Prop where
  faults : SameFaults s u
  stages : ∀ m, SameStages (s.eng m) (u.eng m)
  s1 : ∀ m, (u.eng m).s1 = (s.eng m).s1
  others : ∀ m, m ∉ ms → u.eng m = s.eng m
  mode : ∀ m ∈ ms, (u.eng m).mode = .stream
  gang : (u.eng e).gang = g

/-- What a start or a resume does to a member: its mode, and its place in the gang. -/
structure Streams (f : Engine → Engine) : Prop where
  twice : ∀ x, f (f x) = f x
  stages : ∀ x, SameStages x (f x)
  s1 : ∀ x, (f x).s1 = x.s1
  mode : ∀ x, (f x).mode = .stream
  gang : ∀ x, (f x).gang = x.gang

theorem gangReady_of_changes {a : State} {f : Engine → Engine} (hf : Streams f) (he : e ∈ ms) (g : Gang → Gang) (ha : FcuChange s a)
    (hu : FcuChange ((a.forAll ms (fun acc m => acc.modEng m f)).modGang e g) u) : GangReady ms e (g (s.eng e).gang) s u := by
  obtain ⟨es, hes⟩ := forAll_modEng_engines f ms a
  have hall (m : Nat) : (a.forAll ms (fun acc m => acc.modEng m f)).eng m = if m ∈ ms then f (s.eng m) else s.eng m := by
    rw [eng_forAll_modEng hf.twice, ha.eng]
  have heng (m : Nat) : u.eng m = if m = e then { f (s.eng e) with gang := g (s.eng e).gang }
      else if m ∈ ms then f (s.eng m) else s.eng m := by
    rw [hu.eng, State.modGang, State.modEng]
    by_cases hme : m = e
    · subst hme
      rw [eng_setEng_same, hall, if_pos he, if_pos rfl, hf.gang]
    · rw [eng_setEng_other hme, hall, if_neg hme]
  refine ⟨sameFaults_of_regs ?_ fun k d hk => ?_, fun m => ?_, fun m => ?_, fun m hm => ?_, fun m hm => ?_, ?_⟩
  · rw [hu.work, ← ha.work, hes]
    rfl
  · rw [hu.regs k d hk, ← ha.regs k d hk, hes]
    rfl
  · rw [heng]
    split
    · rename_i hme
      rw [hme, SameStages, hf.stages (s.eng e)]
    · split
      · exact hf.stages _
      · rfl
  · rw [heng]
    split
    · rename_i hme
      rw [hme]
      exact hf.s1 _
    · split
      · exact hf.s1 _
      · rfl
  · rw [heng, if_neg (by rintro rfl; exact hm he), if_neg hm]
  · rw [heng]
    split
    all_goals exact hf.mode _
  · rw [heng, if_pos rfl]

section
variable {g : Gang} (h : GangReady ms e g s u) (hhead : ms.headD 0 = e) (he : e ∈ ms) (hms : ∀ m ∈ ms, m < 256) {kind : StepKind}
  (hstream : kind.stream = true) (hkind : kind ≠ .prestart) (hready : (s.eng e).s1.isSome = true ∨ (s.eng e).fetching = false)
  (hfault : s.stepFault e ms true = none)
include h hhead he hms hstream hkind hready hfault

/-- The first step of a gang that is ready issues the vector in S6. -/
theorem GangReady.advanced {b : Stage} (hb : (s.eng e).s6 = some b) :
    Advanced ms e (s.fld F.TSET_PER_PERIOD e b.pin.ts.toNat) (u.vectorPauses e b (kind == .forced) (u.faulting ms))
      (u.pauseAsked e (kind == .forced)) u (u.stepParts ms kind) := by
  have hready' : (u.eng e).s1.isSome = true ∨ (u.eng e).fetching = false := by
    rw [h.s1, show (u.eng e).fetching = (s.eng e).fetching by rw [h.stages e]]
    exact hready
  have hfault' : u.stepFault e ms true = none := (stepFault_same h.faults hms (fun m _ => h.stages m) (h.s1 e)).trans hfault
  have hb' : (u.eng e).s6 = some b := by rw [h.stages e]; exact hb
  rw [← fld_of_work h.faults.work (f := F.TSET_PER_PERIOD) (by decide)]
  exact stepParts_advanced hhead he hms hstream hkind hready' hfault' hb'

theorem GangReady.rest (hb : (s.eng e).s6 = none) : StepRest ms u (u.stepParts ms kind) := by
  have hready' : (u.eng e).s1.isSome = true ∨ (u.eng e).fetching = false := by
    rw [h.s1, show (u.eng e).fetching = (s.eng e).fetching by rw [h.stages e]]
    exact hready
  have hfault' : u.stepFault e ms true = none := (stepFault_same h.faults hms (fun m _ => h.stages m) (h.s1 e)).trans hfault
  have hb' : (u.eng e).s6 = none := by rw [h.stages e]; exact hb
  exact stepParts_rest hhead he hms hstream hkind hready' hfault' hb'

end

/-! ### Start and resume -/

/-- R72, R105: what the leader holds of its gang at a start, and at a resume. -/
def Gang.started (g : Gang) (t : Nat) : Gang :=
  { g with armed := false, startAt := none, woke := false, vidx := 0, run := g.run + 1, firstRun := g.run + 1, nextV := 512 * t + vecLatency }
def Gang.resumed (g : Gang) (t : Nat) : Gang := { g with resumeAt := none, run := g.run + 1, nextV := 512 * t + vecLatency }

/-- A gang that starts at t, and one that resumes, ready for its step. -/
def State.startReady (s : State) (e t : Nat) : State :=
  (((((s.forAll (s.gangClusters e) (fun acc c => acc.latchGangs c)).forAll (s.members e) (fun acc m => acc.modEng m
    (fun x => { x with mode := .stream, leftIdle := true, alone := false }))).modGang e (·.started t)).fcuStart e).atTime t)
def State.resumeReady (s : State) (e t : Nat) : State :=
  ((((s.forAll (s.members e) (fun acc m => acc.modEng m (fun x => { x with mode := .stream }))).modGang e (·.resumed t)).fcuResume e).atTime t)

theorem gangStart_start {at' : Nat} {b : Stage} (hstart : (s.eng e).gang.startAt = some at') (harmed : (s.eng e).gang.armed = true)
    (hwoke : (s.eng e).gang.woke = true) (hidle : (s.eng e).mode = .idle) (hb : (s.eng e).s6 = some b) :
    s.gangStart e = (s.startReady e at').stepParts (s.members e) .first := by
  unfold State.gangStart
  dsimp only
  rw [hstart]
  dsimp only
  rw [if_pos ⟨harmed, hwoke, hidle, by rw [hb]; rfl⟩]
  rfl

theorem gangStart_resume {at' : Nat} (hstart : (s.eng e).gang.startAt = none) (hresume : (s.eng e).gang.resumeAt = some at')
    (hpaused : (s.eng e).mode = .paused) (hheld : ((s.fcu (fcuOf e).1).slot (fcuOf e).2).held = []) :
    s.gangStart e = (s.resumeReady e at').stepParts (s.members e) .run := by
  obtain ⟨es, hes⟩ := forAll_modEng_engines (fun x => { x with mode := .stream }) (s.members e) s
  have hheld' : ((((s.forAll (s.members e) (fun acc m => acc.modEng m (fun x => { x with mode := .stream }))).modGang e
      (·.resumed at')).fcu (fcuOf e).1).slot (fcuOf e).2).held = [] := by
    rw [hes]
    exact hheld
  unfold State.gangStart
  dsimp only
  rw [hstart, hresume]
  dsimp only
  rw [if_pos hpaused]
  unfold Gang.resumed at hheld'
  rw [hheld', if_pos rfl]
  rfl

theorem startReady_ready (he : e < 256) (hlead : s.leader e = e) (at' : Nat) :
    GangReady (s.members e) e ((s.eng e).gang.started at') s (s.startReady e at') ∧
      (s.startReady e at').flag F.FCU_GSTAT_CNTONLY (fcuOf e).1 (fcuOf e).2 = false := by
  have hf : Streams (fun x => { x with mode := .stream, leftIdle := true, alone := false }) :=
    ⟨fun _ => rfl, fun _ => rfl, fun _ => rfl, fun _ => rfl, fun _ => rfl⟩
  have hlatch := FcuChange.latchGangs s (s.gangClusters e)
  obtain ⟨es, hes⟩ := forAll_modEng_engines (fun x => { x with mode := .stream, leftIdle := true, alone := false }) (s.members e)
    (s.forAll (s.gangClusters e) (fun acc c => acc.latchGangs c))
  have hmembers : (((s.forAll (s.gangClusters e) (fun acc c => acc.latchGangs c)).forAll (s.members e) (fun acc m => acc.modEng m
      (fun x => { x with mode := .stream, leftIdle := true, alone := false }))).modGang e (·.started at')).members e = s.members e :=
    members_of_work (by rw [hes]; exact hlatch.work)
  obtain ⟨hstart, hcntonly⟩ := FcuChange.fcuStart he (by rw [hmembers]; exact members_lt hlead he)
  exact ⟨gangReady_of_changes hf (mem_members_self s e) (·.started at') hlatch (hstart.trans (.atTime ..)), hcntonly⟩

theorem resumeReady_ready (at' : Nat) : GangReady (s.members e) e ((s.eng e).gang.resumed at') s (s.resumeReady e at') := by
  have hf : Streams (fun x => { x with mode := .stream }) := ⟨fun _ => rfl, fun _ => rfl, fun _ => rfl, fun _ => rfl, fun _ => rfl⟩
  exact gangReady_of_changes hf (mem_members_self s e) (·.resumed at') (.refl s) (.trans (.fcuResume _ e) (.atTime ..))

/-! ### The commands -/

theorem exec_gangStart {e : Fin 256} (hlive : s.live (domCL (e.val / 4)) = true) :
    exec (.gangStart e) s = .next (s.keep (s.gangStart e)) := by
  show Host.Outcome.next (s.keep (s.inDom (domCL (e.val / 4)) (fun s => s.gangStart e.val))) = _
  rw [State.inDom, if_pos hlive]

theorem exec_fcuPause {e : Fin 256} (hlive : s.live (domCL (e.val / 4)) = true) :
    exec (.fcuPause e) s = .next (s.keep (s.fcuPause e)) := by
  show Host.Outcome.next (s.keep (s.inDom (domCL (e.val / 4)) (fun s => s.fcuPause e.val))) = _
  rw [State.inDom, if_pos hlive]

/-- A vector that is no pause vector pauses nothing by itself. -/
theorem vectorPauses_plain {b : Stage} (h : b.pin.mode ≠ 1) {old : Bool} : ¬ s.vectorPauses e b false old = true := by
  simp only [State.vectorPauses, beq_eq_false_iff_ne.2 h]
  simp

section
variable (he : e < 256) (hlead : s.leader e = e) (hready : (s.eng e).s1.isSome = true ∨ (s.eng e).fetching = false)
  (hfault : s.stepFault e (s.members e) true = none)
include he hlead hready hfault

/-- R72, R105, R139: a gang starts. -/
theorem start_effect {at' : Nat} {b : Stage} (hb : (s.eng e).s6 = some b)
    (ht : t = (s.startReady e at').stepParts (s.members e) .first) :
    (∀ m ∈ s.members e, ((t.eng m).mode = .stream ∨ (t.eng m).mode = .paused) ∧ (b.pin.mode ≠ 1 → (t.eng m).mode = .stream)) ∧
      (t.eng e).gang.armed = false ∧ (t.eng e).gang.startAt = none ∧ (t.eng e).gang.run = (s.eng e).gang.run + 1 ∧
      (t.eng e).gang.vidx = 1 ∧
      (t.eng e).gang.nextV = 512 * at' + vecLatency + s.fld F.TSET_PER_PERIOD e b.pin.ts.toNat ∧
      t.flag F.FCU_GSTAT_CNTONLY (fcuOf e).1 (fcuOf e).2 = false ∧ (∀ m : Nat, m ∉ s.members e → t.eng m = s.eng m) := by
  obtain ⟨hgang, hcntonly⟩ := startReady_ready he hlead at'
  have hadv := hgang.advanced (members_head s e) (mem_members_self s e) (members_lt hlead he) (kind := .first) rfl (by decide) hready
    hfault hb
  rw [← ht] at hadv
  obtain ⟨hothers, hmode, hmoved, hgstat, -⟩ := hadv
  rw [hgang.gang] at hmoved
  refine ⟨fun m hm => ?_, hmoved.armed, hmoved.startAt, hmoved.run, hmoved.vidx, hmoved.nextV, ?_,
    fun m hm => (hothers m hm).trans (hgang.others m hm)⟩
  · have hm' := hmode m hm
    rw [hgang.mode m hm] at hm'
    split at hm'
    · rename_i hpauses
      exact ⟨.inr hm', fun hpin => absurd hpauses (vectorPauses_plain hpin)⟩
    · exact ⟨.inl hm', fun _ => hm'⟩
  · exact (congrArg (fun w => fldOf F.FCU_GSTAT_CNTONLY w != 0) (hgstat (Bool.and_false _))).trans hcntonly

/-- R123: a paused gang resumes; per: the period of the vector in S6, if there is one. -/
theorem resume_effect (at' : Nat) {per : Nat} (hsome : ∀ b, (s.eng e).s6 = some b → per = s.fld F.TSET_PER_PERIOD e b.pin.ts.toNat)
    (hnone : (s.eng e).s6 = none → per = 0) (ht : t = (s.resumeReady e at').stepParts (s.members e) .run) :
    (∀ m ∈ s.members e, ((t.eng m).mode = .stream ∨ (t.eng m).mode = .paused) ∧
        ((∀ b, (s.eng e).s6 = some b → b.pin.mode ≠ 1) → (t.eng m).mode = .stream)) ∧
      (t.eng e).gang.resumeAt = none ∧ (t.eng e).gang.run = (s.eng e).gang.run + 1 ∧
      (t.eng e).gang.nextV = 512 * at' + vecLatency + per ∧
      (t.eng e).gang.vidx = (s.eng e).gang.vidx + (if (s.eng e).s6.isSome then 1 else 0) ∧
      (∀ m : Nat, m ∉ s.members e → t.eng m = s.eng m) := by
  have hgang := resumeReady_ready (s := s) (e := e) at'
  cases hs6 : (s.eng e).s6 with
  | none =>
    have hrest := hgang.rest (members_head s e) (mem_members_self s e) (members_lt hlead he) (kind := .run) rfl (by decide) hready
      hfault hs6
    rw [← ht] at hrest
    obtain ⟨hothers, hmode, hsame, -, -, -⟩ := hrest
    have hleft : (t.eng e).gang = (s.eng e).gang.resumed at' := (hsame e).trans hgang.gang
    rw [hleft, hnone hs6]
    have hstream (m : Nat) (hm : m ∈ s.members e) : (t.eng m).mode = .stream := (hmode m).trans (hgang.mode m hm)
    exact ⟨fun m hm => ⟨.inl (hstream m hm), fun _ => hstream m hm⟩, rfl, rfl, rfl, by simp [Gang.resumed],
      fun m hm => (hothers m hm).trans (hgang.others m hm)⟩
  | some b =>
    have hadv := hgang.advanced (members_head s e) (mem_members_self s e) (members_lt hlead he) (kind := .run) rfl (by decide) hready
      hfault hs6
    rw [← ht, ← hsome b hs6] at hadv
    obtain ⟨hothers, hmode, hmoved, -, -⟩ := hadv
    rw [hgang.gang] at hmoved
    refine ⟨fun m hm => ?_, hmoved.resumeAt, hmoved.run, hmoved.nextV, hmoved.vidx, fun m hm => (hothers m hm).trans (hgang.others m hm)⟩
    have hm' := hmode m hm
    rw [hgang.mode m hm] at hm'
    split at hm'
    · rename_i hpauses
      exact ⟨.inr hm', fun hpin => absurd hpauses (vectorPauses_plain (hpin b rfl))⟩
    · exact ⟨.inl hm', fun _ => hm'⟩

/-- R148: the step in which a pause that the FCU asked for takes effect. -/
theorem forced_advanced {b : Stage} (hb : (s.eng e).s6 = some b) (hfaulting : s.faulting (s.members e) = false)
    (hreqs : ((s.fcu (fcuOf e).1).slot (fcuOf e).2).reqs ≠ []) :
    Advanced (s.members e) e (s.fld F.TSET_PER_PERIOD e b.pin.ts.toNat) (!(s.eng e).lastVector) true s
      (s.stepParts (s.members e) .forced) := by
  have hadv := stepParts_advanced (members_head s e) (mem_members_self s e) (members_lt hlead he) (kind := .forced) rfl (by decide)
    hready hfault hb
  have hpauses : s.vectorPauses e b true (s.faulting (s.members e)) = !(s.eng e).lastVector := by
    simp [State.vectorPauses, hfaulting]
  have hasked : s.pauseAsked e true = true := by simp [State.pauseAsked, hreqs]
  rw [show (StepKind.forced == .forced) = true from rfl, hpauses, hasked] at hadv
  exact hadv

end

theorem fcuPause_eq {b : Stage} (hlead : s.leader e = e) (hmode : (s.eng e).mode = .stream) (halone : (s.eng e).alone = false)
    (hb : (s.eng e).s6 = some b) (hfaulting : s.faulting (s.members e) = false)
    (hreqs : ((s.fcu (fcuOf e).1).slot (fcuOf e).2).reqs ≠ []) : s.fcuPause e = s.stepParts (s.members e) .forced := by
  unfold State.fcuPause
  dsimp only
  rw [if_pos ⟨hlead, hmode, by simp [halone], by rw [hb]; rfl, hreqs, by simp [hfaulting]⟩]

/-- Without an accepted time nothing starts. -/
theorem gangStart_idle (hstart : (s.eng e).gang.startAt = none) (hresume : (s.eng e).gang.resumeAt = none) : s.gangStart e = s := by
  unfold State.gangStart
  dsimp only
  rw [hstart, hresume]

/-- Without a request nothing pauses. -/
theorem fcuPause_idle (hreqs : ((s.fcu (fcuOf e).1).slot (fcuOf e).2).reqs = []) : s.fcuPause e = s := by
  unfold State.fcuPause
  dsimp only
  rw [if_neg (by simp [hreqs])]

/-- Settles O18: a start and a resume are the step of a gang made ready, the FCU's pause is the forced step; what each issues and
whether it pauses is Advanced. -/
theorem gangsStartResumeAndPauseTogether : Obligations.GangsStartResumeAndPauseTogether := by
  intro s e hlive hlead x ms fc fi steps period
  have he := e.isLt
  refine ⟨fun at' b hstart harmed hwoke hidle hb hsteps => ?_, fun at' hstart hresume hpaused hheld hsteps => ?_,
    fun b hmode halone hb hfaulting hreqs hsteps => ⟨fun hending => ?_, fun hending h1 h2 h3 h4 h5 => ?_⟩,
    fun hstart hresume => ?_, fun hreqs => ?_⟩
  · obtain ⟨hready, hfault⟩ := hsteps
    refine ⟨_, exec_gangStart hlive, ?_⟩
    exact start_effect (t := s.gangStart e) he hlead hready hfault hb (gangStart_start hstart harmed hwoke hidle hb)
  · obtain ⟨hready, hfault⟩ := hsteps
    refine ⟨_, exec_gangStart hlive, ?_⟩
    exact resume_effect (t := s.gangStart e) he hlead hready hfault at' (fun b hb => by rw [hb]) (fun hb => by rw [hb])
      (gangStart_resume hstart hresume hpaused hheld)
  · obtain ⟨hready, hfault⟩ := hsteps
    have hlast : x.lastVector = false := by simp [Engine.lastVector, hending]
    have hadv := forced_advanced he hlead hready hfault hb hfaulting hreqs
    rw [hlast] at hadv
    obtain ⟨hothers, hmode', hmoved, -, hshown⟩ := hadv
    obtain ⟨hpaused, hreason, hpend⟩ := hshown rfl
    refine ⟨_, exec_fcuPause hlive, ?_⟩
    rw [fcuPause_eq hlead hmode halone hb hfaulting hreqs]
    exact ⟨hmode', hpaused, hreason, hpend, hmoved.vidx, hmoved.nextV, hothers⟩
  · obtain ⟨hready, hfault⟩ := hsteps
    have hlast : x.lastVector = true := by simp [Engine.lastVector, hending, h1, h2, h3, h4, h5]
    have hadv := forced_advanced he hlead hready hfault hb hfaulting hreqs
    rw [hlast] at hadv
    obtain ⟨-, hmode', hmoved, hgstat, -⟩ := hadv
    refine ⟨_, exec_fcuPause hlive, ?_⟩
    rw [fcuPause_eq hlead hmode halone hb hfaulting hreqs]
    exact ⟨hmode', congrArg (fun w => fldOf F.FCU_GSTAT_PAUSED w != 0) (hgstat rfl), hmoved.vidx⟩
  · exact ⟨s, by rw [exec_gangStart hlive, gangStart_idle hstart hresume]; rfl, rfl⟩
  · exact ⟨s, by rw [exec_fcuPause hlive, fcuPause_idle hreqs]; rfl, rfl⟩

end Sys2Proof.Machine
end

section
/-!
PROOF. O4: the AGEN operations (R55, R57, R90, R91). O6: what post-modification does with an address register (R56).
-/
namespace Sys2Proof.Machine

open Sys2Proof

variable {s : State} {e : Fin 256} {ix : BAddr}

/-- What a command's next state satisfies, every weaker property says of it too. -/
theorem Answers.imp {c : Instr} {P Q : State → Prop} (h : Answers c s P) (hPQ : ∀ t, P t → Q t) : Answers c s Q := by
  obtain ⟨t, ht, hP⟩ := h
  exact ⟨t, ht, hPQ t hP⟩

/-- R91: an AGEN command whose operation neither loads, stores nor meets a fault leaves y of its engine. -/
theorem answers_agen {c : Instr} {op : AgenOp} {y : Engine}
    (hc : exec c s = .next (s.keep (s.inDom (domCL (e.val / 4)) (fun s => s.opAgen e.val ix op)))) (hx : s.Executes e)
    (hok : op.ok = true) (hl : (s.agenEff e (s.eng e) op).load = none) (hs : (s.agenEff e (s.eng e) op).store = none)
    (hp : op.consumes.any (s.eng e).rp = false)
    (hy : { (s.eng e).applyAgen (s.agenEff e (s.eng e) op) with
      flags := setFlags ((s.eng e).applyAgen (s.agenEff e (s.eng e) op)).flags (s.agenEff e (s.eng e) op).cmps } = y) :
    Answers c s (OnlyEngine s e y) := by
  obtain ⟨hlive, hrun⟩ := hx
  refine answers_onlyEngine hc hlive ?_
  rw [opAgen_plain hrun hok hl hs hp, ← hy]
  exact onlyEngine_modEng ..

/-- R58, R91: what AOUT without a memory access leaves of its engine. -/
theorem answers_aout (hx : s.Executes e) (k j : BitVec 3) (p : Bool) (n : BitVec 4) :
    Answers (.aout e ix k j p 0 n) s (OnlyEngine s e
      { s.eng e with
        ao := s.scrambleAt e k.toNat ((s.eng e).ra k.toNat)
        a := if p then (s.eng e).a else (s.eng e).a.set k.toNat ((s.eng e).postMod k j) 0 }) :=
  answers_agen rfl hx rfl rfl rfl rfl (by cases p <;> rfl)

theorem answers_adva (hx : s.Executes e) (k j : BitVec 3) :
    Answers (.adva e ix k j) s (OnlyEngine s e { s.eng e with a := (s.eng e).a.set k.toNat ((s.eng e).postMod k j) 0 }) :=
  answers_agen rfl hx rfl rfl rfl rfl rfl

/-- Settles O4: each operation is State.agenEff of its slot, which opAgen_plain writes to the engine alone. -/
theorem agenOperationsWriteTheirRegisters : Obligations.AgenOperationsWriteTheirRegisters := by
  intro s e ix hx x
  have hmovd (tr : BitVec 2) {k : BitVec 3} {n : BitVec 4} (hn : x.rp n.toNat = false) :
      (AgenOp.movd tr k n).consumes.any x.rp = false := by simpa [AgenOp.consumes] using hn
  refine ⟨?_, ?_, ?_, ?_, ?_, ?_, ?_, ?_, ?_, ?_⟩
  · exact answers_agen rfl hx rfl rfl rfl rfl rfl
  · exact fun k j p n => answers_aout hx k j p n
  · exact fun k sx imm => answers_agen rfl hx rfl rfl rfl rfl rfl
  · exact fun k sx imm => answers_agen rfl hx rfl rfl rfl rfl rfl
  · exact fun k sx imm => answers_agen rfl hx rfl rfl rfl rfl rfl
  · exact fun k n hn => ⟨answers_agen rfl hx rfl rfl rfl (hmovd 0 hn) rfl, answers_agen rfl hx rfl rfl rfl (hmovd 1 hn) rfl,
      answers_agen rfl hx rfl rfl rfl (hmovd 2 hn) rfl⟩
  · exact fun k j => answers_adva hx k j
  · exact fun k n cc imm hn => answers_agen rfl hx (by simp [AgenOp.ok, cmpFlagOk, hn]) rfl rfl rfl rfl
  · exact fun k n cc hn => answers_agen rfl hx (by simp [AgenOp.ok, cmpFlagOk, hn]) rfl rfl rfl rfl
  · exact fun k imm => answers_agen rfl hx rfl rfl rfl rfl rfl

/-! ### Post-modification (R56) -/

/-- R56: without a limit the sum wraps modulo 2^32. -/
theorem postModify_no_limit (a o : Word32) : postModify a o 0 = a + o := by
  unfold postModify
  dsimp only
  rw [if_pos rfl]
  have hsum : (a.toNat : Int) + o.toInt = ((a.toNat + o.toNat : Nat) : Int) ∨
      (a.toNat : Int) + o.toInt = ((a.toNat + o.toNat : Nat) : Int) - 2 ^ 32 := by
    rw [BitVec.toInt_eq_toNat_cond]
    split <;> omega
  apply BitVec.eq_of_toNat_eq
  rw [BitVec.toNat_ofInt, BitVec.toNat_add]
  omega

/-- R55: with a limit the sum is corrected once. -/
theorem postModify_limit {a o m : Word32} (hm : m ≠ 0) :
    postModify a o m = BitVec.ofInt 32
      (if (m.toNat : Int) ≤ (a.toNat : Int) + o.toInt then (a.toNat : Int) + o.toInt - m.toNat
       else if (a.toNat : Int) + o.toInt < 0 then (a.toNat : Int) + o.toInt + m.toNat else (a.toNat : Int) + o.toInt) := by
  unfold postModify
  dsimp only
  rw [if_neg hm]

/-- R56: a register below its limit that moves by no more than the limit stays below it. -/
theorem postModify_lt {a o m : Word32} (hm : m ≠ 0) (ha : a.toNat < m.toNat) (ho : o.toInt ≤ m.toNat)
    (ho' : -(m.toNat : Int) ≤ o.toInt) : (postModify a o m).toNat < m.toNat := by
  have hm32 := m.isLt
  rw [postModify_limit hm, BitVec.toNat_ofInt]
  split
  · omega
  · split <;> omega

/-- Settles O6: ADVA and AOUT write State's post-modified register, and postModify is R55's pseudocode. -/
theorem postModificationWrapsAtTheLimit : Obligations.PostModificationWrapsAtTheLimit := by
  intro s e ix k j n hx a o m sum c hc
  have hset {y : Engine} (hy : y.a = (s.eng e).a.set k.toNat (postModify a o m) 0) (t : State) (ht : OnlyEngine s e y t) :
      (t.eng e).ra k.toNat = postModify a o m := by
    obtain ⟨-, heng, -⟩ := ht
    rw [heng, Engine.ra, hy, Tab.get_set_same]
  have hanswers : Answers c s (fun t => (t.eng e).ra k.toNat = postModify a o m) := by
    simp only [List.mem_cons, List.not_mem_nil, or_false] at hc
    rcases hc with rfl | rfl
    · exact (answers_adva hx k j).imp (hset rfl)
    · exact (answers_aout hx k j false n).imp (hset rfl)
  refine hanswers.imp fun t hb => ?_
  dsimp only
  rw [hb]
  exact ⟨fun hm => by rw [hm]; exact postModify_no_limit a o, fun hm => postModify_limit hm, fun hm => postModify_lt hm⟩

end Sys2Proof.Machine
end

section
/-!
PROOF. O5: the load and the store of AOUT in analysis (R58, R91, R169): port A's access of one word of the engine's slice.
-/
namespace Sys2Proof.Machine

open Sys2Proof

variable {s : State} {e : Fin 256} {ix : BAddr} {k j : BitVec 3} {p : Bool} {n : BitVec 4}

theorem running_of_analyses {e : Nat} (h : s.Analyses e) : s.running e = true := by simp [State.running, h.2]

theorem streaming_of_analyses {e : Nat} (h : s.Analyses e) : s.streaming e = false := by simp [State.streaming, h.2]

/-- A word within the slice, without a port A error. -/
theorem memBad_of_lt {e : Nat} {a : Word32} (ha : a.toNat < 131072) (hport : s.portAError e = false) : s.memBad e a = false := by
  simp [State.memBad, hport, ha]

/-- R58: what AOUT leaves of its engine x beside a load that it issues. -/
def State.aouted (s : State) (e : Nat) (x : Engine) (k j : BitVec 3) (p : Bool) : Engine :=
  { x with ao := s.scrambleAt e k.toNat (x.ra k.toNat)
           a := if p then x.a else x.a.set k.toNat (x.postMod k j) 0 }

section
variable {e : Nat} (hx : s.Analyses e) (hport : s.portAError e = false)
  (ha : (s.scrambleAt e k.toNat ((s.eng e).ra k.toNat)).toNat < 131072)
include hx hport ha

/-- R58: an AOUT that stores. -/
theorem opAgen_aout_store (ix : BAddr) (j : BitVec 3) (p : Bool) (n : BitVec 4) :
    s.opAgen e ix (.aout k j p 2 n) = ((s.setEng e (s.aouted e (s.eng e) k j p)).portAWrite e
      (s.scrambleAt e k.toNat ((s.eng e).ra k.toNat)).toNat ((s.eng e).rd n.toNat) ((s.eng e).rp n.toNat)).2 := by
  rw [opAgen_store (running_of_analyses hx) rfl (streaming_of_analyses hx) rfl rfl rfl (memBad_of_lt ha hport)]
  cases p <;> rfl

/-- R58: an AOUT that loads. -/
theorem opAgen_aout_load (ix : BAddr) (j : BitVec 3) (p : Bool) (n : BitVec 4) :
    s.opAgen e ix (.aout k j p 1 n) = (s.setEng e (s.aouted e (s.eng e) k j p)).issueLoad e
      (some (n, s.scrambleAt e k.toNat ((s.eng e).ra k.toNat))) 7 := by
  rw [opAgen_load (running_of_analyses hx) rfl (streaming_of_analyses hx) rfl rfl (memBad_of_lt ha hport)]
  cases p <;> rfl

end

/-- R58: a load that port A takes joins the engine's loads with the word's data and poison. -/
theorem issueLoad_eq {e : Nat} (hport : s.portAError e = false) (n : BitVec 4) (a : Word32) (age : Nat) :
    s.issueLoad e (some (n, a)) age = ((s.portARead e a.toNat 1).2).modEng e (fun y =>
      { y with loads := y.loads ++ [{ reg := n, word := a.setWidth 17,
                                      data := (decode64 ((s.portARead e a.toNat 1).2.cell e a.toNat)).data,
                                      poison := (decode64 ((s.portARead e a.toNat 1).2.cell e a.toNat)).poison, age := age }] }) := by
  have hread : s.portARead e a.toNat 1 = (some [((decode64 ((s.portARead e a.toNat 1).2.cell e a.toNat)).data,
      (decode64 ((s.portARead e a.toNat 1).2.cell e a.toNat)).poison)], (s.portARead e a.toNat 1).2) :=
    Prod.ext (portARead_one hport a.toNat) rfl
  unfold State.issueLoad
  dsimp only
  rw [hread]

/-- Settles O5: opAgen_store and opAgen_load, and what port A's write and read leave of the slices' words. -/
theorem loadsAndStoresReachOneWordOfTheSlice : Obligations.LoadsAndStoresReachOneWordOfTheSlice := by
  intro s e ix k j p n hx x a ha hport
  have hport' : (s.setEng e (s.aouted e x k j p)).portAError e = false := hport
  have heng (m : Nat) (hm : m ≠ e.val) (y : Engine) : (s.setEng e y).eng m = s.eng m := eng_setEng_other hm y
  constructor
  · have hwrite := SliceChange.portAWrite (s.setEng e (s.aouted e x k j p)) e a (x.rd n.toNat) (x.rp n.toNat)
    refine answers_inDom (f := fun s => s.opAgen e ix (.aout k j p 2 n)) rfl hx.1 ?_ ?_
    all_goals
      rw [opAgen_aout_store hx hport ha ix j p n]
    · exact hwrite.pending
    · refine ⟨cell_portAWrite_same hport' a _ _, fun m w hw h => ?_, ?_, fun m hm => ?_⟩
      · exact cell_portAWrite_other (s := s.setEng e (s.aouted e x k j p)) ha hw h _ _
      · rw [hwrite.eng, eng_setEng_same]
        rfl
      · rw [hwrite.eng, heng m hm]
  · have hread := SliceChange.portARead (s.setEng e (s.aouted e x k j p)) e a 1
    have hcells (m w : Nat) (hw : w < 131072) (h : ¬ (m = e.val ∧ 3 ≤ s.bgtCode e ∧ w / 4 = s.fld F.SLC_BGT_CURSOR e)) :
        ((s.setEng e (s.aouted e x k j p)).portARead e a 1).2.cell m w = s.cell m w :=
      cell_portARead (s := s.setEng e (s.aouted e x k j p)) hw h a 1
    refine answers_inDom (f := fun s => s.opAgen e ix (.aout k j p 1 n)) rfl hx.1 ?_ ?_
    all_goals
      rw [opAgen_aout_load hx hport ha ix j p n, issueLoad_eq hport']
      generalize ((s.setEng e (s.aouted e x k j p)).portARead e a 1).2 = u at hread hcells
    · exact hread.pending
    · rw [State.modEng, eng_setEng_same, hread.eng, eng_setEng_same]
      refine ⟨⟨_, rfl, rfl, rfl, rfl⟩, hcells, rfl, rfl, fun m hm => ?_⟩
      rw [eng_setEng_other hm, hread.eng, heng m hm]

end Sys2Proof.Machine
end

section
/-!
PROOF. O19: the DGEN operations (R59 to R61, R93 to R95).
-/
namespace Sys2Proof.Machine

open Sys2Proof

variable {s : State} {e : Fin 256} {ix : BAddr}

/-- R94: a DGEN command whose operation meets no fault leaves y of its engine. -/
theorem answers_dgen {c : Instr} {op : DgenOp} {y : Engine}
    (hc : exec c s = .next (s.keep (s.inDom (domCL (e.val / 4)) (fun s => s.opDgen e.val ix op)))) (hx : s.Executes e)
    (hok : op.ok = true) (hp : op.consumes.any (s.eng e).rp = false)
    (hy : { (s.eng e).applyDgen (dgenEff (s.eng e) (s.eng e).ao op).1 with
      flags := setFlags ((s.eng e).applyDgen (dgenEff (s.eng e) (s.eng e).ao op).1).flags (dgenEff (s.eng e) (s.eng e).ao op).2 } = y) :
    Answers c s (OnlyEngine s e y) := by
  obtain ⟨hlive, hrun⟩ := hx
  refine answers_onlyEngine hc hlive ?_
  rw [opDgen_plain hrun hok hp, ← hy]
  exact onlyEngine_modEng ..

/-- R93: a result v with poison q goes to d[DST] and to DO as the common fields say. -/
def Engine.putResult (x : Engine) (w : DDest) (v : Word) (q : Bool) : Engine :=
  let y := if w.wr then x.setD w.dst.toNat v q else x
  if w.wo then { y with dout := v, doutP := q } else y

theorem applyDgen_dgenOut (x : Engine) (w : DDest) (v : Word) (q : Bool) : x.applyDgen (dgenOut w v q) = x.putResult w v q := by
  obtain ⟨wo, wr, dst⟩ := w
  cases wo <;> cases wr <;> rfl

/-- R93, R94: an operation that is a result and nothing else. -/
theorem answers_result {c : Instr} {op : DgenOp} {w : DDest} {v : Word} {q : Bool}
    (hc : exec c s = .next (s.keep (s.inDom (domCL (e.val / 4)) (fun s => s.opDgen e.val ix op)))) (hx : s.Executes e)
    (hop : dgenEff (s.eng e) (s.eng e).ao op = (dgenOut w v q, [])) (hok : op.ok = true) (hp : op.consumes = []) :
    Answers c s (OnlyEngine s e ((s.eng e).putResult w v q)) := by
  refine answers_dgen hc hx hok (by rw [hp]; rfl) ?_
  rw [hop, applyDgen_dgenOut]
  rfl

/-- R94: a DGEN result that also writes a generator's state, and its output word or not. -/
theorem applyDgen_gen (x : Engine) (w : DDest) (v : Word) (q : Bool) (g : BitVec 2) (st : BitVec 31) (pw : Option (BitVec 2 × Word)) :
    x.applyDgen { dgenOut w v q with gen := some (g, st), pw := pw } =
      (let y := { x.putResult w v q with g := x.g.set g.toNat st (prbsOnes g.toNat) }
       match pw with | some (k, u) => { y with pw := x.pw.set k.toNat u 0 } | none => y) := by
  obtain ⟨wo, wr, dst⟩ := w
  cases wo <;> cases wr <;> cases pw <;> rfl

/-- R60: PADV by 1 to 64 bits. -/
theorem answers_padv (hx : s.Executes e) (w : DDest) (g : BitVec 2) {n : BitVec 7} (hn : 1 ≤ n.toNat) (hn' : n.toNat ≤ 64) :
    let r := prbsAdvance g.toNat n.toNat ((s.eng e).rg g.toNat) ((s.eng e).rpw g.toNat)
    Answers (.padv e ix w g n) s (OnlyEngine s e
      { (s.eng e).putResult w r.2 false with
        g := (s.eng e).g.set g.toNat r.1 (prbsOnes g.toNat), pw := (s.eng e).pw.set g.toNat r.2 0 }) := by
  intro r
  have hne : n ≠ 0 := by rintro rfl; simp at hn
  refine answers_dgen rfl hx (by simpa [DgenOp.ok] using hn') rfl ?_
  simp only [dgenEff, if_neg hne, applyDgen_gen]
  rfl

/-- R60, R94: PSEED of an unpoisoned register. -/
theorem answers_pseed (hx : s.Executes e) (w : DDest) {sa : BitVec 4} (g : BitVec 2) (hp : (s.eng e).rp sa.toNat = false) :
    Answers (.pseed e ix w sa g) s (OnlyEngine s e
      { (s.eng e).putResult w ((s.eng e).rd sa.toNat) false with
        g := (s.eng e).g.set g.toNat (prbsSeed g.toNat ((s.eng e).rd sa.toNat)) (prbsOnes g.toNat) }) := by
  refine answers_dgen rfl hx rfl (by simpa [DgenOp.consumes] using hp) ?_
  simp only [dgenEff, applyDgen_gen, hp]
  rfl

/-- R94: TOPO inverts its operand where the parity is 1. -/
theorem topo_result (d : Word) (b : Bool) : d ^^^ (if b then BitVec.allOnes 64 else 0) = if b then ~~~ d else d := by
  cases b with
  | false => exact BitVec.xor_zero
  | true => exact BitVec.xor_allOnes

/-- Settles O19: each operation but CMPD is a result, PADV's and PSEED's with a generator. -/
theorem dataOperationsWriteTheirDestinations : Obligations.DataOperationsWriteTheirDestinations := by
  intro s e ix hx x d p put gives
  refine ⟨answers_dgen rfl hx rfl rfl rfl, ?_, ?_, ?_, ?_, ?_, ?_, ?_, ?_, ?_, ?_⟩
  · exact fun w sa => ⟨answers_result rfl hx rfl rfl rfl, answers_result rfl hx rfl rfl rfl⟩
  · refine fun w sa sb => ⟨?_, ?_, ?_, ?_, ?_, ?_⟩
    case refine_6 => exact answers_result rfl hx (by rw [← topo_result]; rfl) rfl rfl
    all_goals exact answers_result rfl hx rfl rfl rfl
  · exact fun w sa sh => ⟨answers_result rfl hx rfl rfl rfl, answers_result rfl hx rfl rfl rfl, answers_result rfl hx rfl rfl rfl⟩
  · exact fun w imm => ⟨answers_result rfl hx rfl rfl rfl, answers_result rfl hx rfl rfl rfl⟩
  · exact fun w => answers_result rfl hx rfl rfl rfl
  · exact fun w sa g => answers_result rfl hx rfl rfl rfl
  · exact fun w sa wd q hq => answers_result rfl hx rfl (by simpa [DgenOp.ok] using hq) rfl
  · exact fun w sa g hp => answers_pseed hx w g hp
  · exact fun w g n hn hn' => answers_padv hx w g hn hn'
  · intro sa sb n cc hn ha hb
    have ha' : x.rp sa.toNat = false := ha
    have hb' : x.rp sb.toNat = false := hb
    exact answers_dgen rfl hx (by simp [DgenOp.ok, cmpFlagOk, hn]) (by simp [DgenOp.consumes, x, ha', hb']) rfl

end Sys2Proof.Machine
end

section
/-!
PROOF. O20: the PRBS generators (R60): their steps, and what a state write of zeros loads.
-/
namespace Sys2Proof.Machine

open Sys2Proof

variable {s : State} {e : Fin 256} {ix : BAddr}

/-- R60: the new bit of a generator in a state, and the state after it. -/
def prbsBit (g : Nat) (v : BitVec 31) : Bool := xor (v.getLsbD (prbsTaps g).1) (v.getLsbD (prbsTaps g).2)
def prbsNext (g : Nat) (v : BitVec 31) : BitVec 31 := BitVec.ofNat 31 ((v.toNat * 2 + bit (prbsBit g v)) % 2 ^ prbsWidth g)

theorem prbsRun_succ (g n : Nat) (v : BitVec 31) : prbsRun g (n + 1) v =
    ((prbsRun g n (prbsNext g v)).1, ((prbsRun g n (prbsNext g v)).2 <<< 1) ||| BitVec.ofNat 64 (bit (prbsBit g v))) := rfl

theorem prbsRun_state (g n : Nat) (v : BitVec 31) : (prbsRun g n v).1 = (prbsNext g)^[n] v := by
  induction n generalizing v with
  | zero => rfl
  | succ n ih => rw [prbsRun_succ, ih, Function.iterate_succ_apply]

theorem getLsbD_ofNat_bit (b : Bool) (i : Nat) : (BitVec.ofNat 64 (bit b)).getLsbD i = (decide (i = 0) && b) := by
  cases b with
  | false => simp [bit]
  | true => rcases i with _ | i <;> simp [bit, BitVec.getLsbD_one]

/-- R60: bit i of the bits that n steps generate is the new bit of step i. -/
theorem prbsRun_bit (g n : Nat) (v : BitVec 31) {i : Nat} (hi : i < 64) :
    (prbsRun g n v).2.getLsbD i = (decide (i < n) && prbsBit g ((prbsNext g)^[i] v)) := by
  induction n generalizing v i with
  | zero => simp [prbsRun]
  | succ n ih =>
    rw [prbsRun_succ, BitVec.getLsbD_or, BitVec.getLsbD_shiftLeft, getLsbD_ofNat_bit]
    cases i with
    | zero => simp
    | succ i => simp [ih (prbsNext g v) (show i < 64 by omega), show i + 1 < 64 from hi]

theorem prbsNext_toNat (g : Nat) (v : BitVec 31) :
    (prbsNext g v).toNat = (2 * v.toNat + (prbsBit g v).toNat) % 2 ^ prbsWidth g := by
  have hwidth : prbsWidth g ≤ 31 := by unfold prbsWidth; split <;> decide
  have hlt : (v.toNat * 2 + bit (prbsBit g v)) % 2 ^ prbsWidth g < 2 ^ 31 :=
    lt_of_lt_of_le (Nat.mod_lt _ (Nat.two_pow_pos _)) (Nat.pow_le_pow_right (by decide) hwidth)
  have hbit (b : Bool) : bit b = b.toNat := by cases b <;> rfl
  rw [prbsNext, BitVec.toNat_ofNat, Nat.mod_eq_of_lt hlt, hbit, Nat.mul_comm]

/-- R60: a value whose bits in the generator are all zero loads all ones. -/
theorem prbsSeed_zero {g : Nat} {v : Word} (h : v.toNat % 2 ^ prbsWidth g = 0) : prbsSeed g v = prbsOnes g := by
  simp [prbsSeed, h]

theorem rg_of_set {x y : Engine} {g : Nat} {v : BitVec 31} (h : y.g = x.g.set g v (prbsOnes g)) : y.rg g = v := by
  rw [Engine.rg, h, Tab.get_set_same]

theorem putResult_gen (x : Engine) (w : DDest) (v : Word) (q : Bool) :
    (x.putResult w v q).g = x.g ∧ (x.putResult w v q).pw = x.pw := by
  obtain ⟨wo, wr, dst⟩ := w
  cases wo <;> cases wr <;> exact ⟨rfl, rfl⟩

/-- R60: PADV by no bits leaves the generator. -/
theorem answers_padv_zero (hx : s.Executes e) (w : DDest) (g : BitVec 2) :
    Answers (.padv e ix w g 0) s (OnlyEngine s e ((s.eng e).putResult w ((s.eng e).rpw g.toNat) false)) := by
  refine answers_result rfl hx ?_ rfl rfl
  simp only [dgenEff, prbsAdvance]
  rfl

/-- Settles O20: prbsRun is the iteration of prbsNext, its bits are those of prbsBit, and prbsSeed of zeros is all ones. -/
theorem generatorsFollowTheirTaps : Obligations.GeneratorsFollowTheirTaps := by
  unfold Obligations.GeneratorsFollowTheirTaps
  intro width hi lo s e g x
  have htaps : ∀ g : BitVec 2, prbsTaps g.toNat = (hi g, lo g) := by decide
  have hwidth : ∀ g : BitVec 2, prbsWidth g.toNat = width g := by decide
  have hseed {v : Word} (hzero : v.toNat % 2 ^ width g = 0) : prbsSeed g.toNat v = BitVec.ofNat 31 (2 ^ width g - 1) := by
    rw [prbsSeed_zero (by rw [hwidth g]; exact hzero), prbsOnes, hwidth g]
  refine ⟨fun ix w hx => ⟨fun n hn hn' => ?_, ?_, fun sa hp hzero => ?_⟩, fun mid v hreach hquiet hzero => ?_⟩
  · refine (answers_padv hx w g hn hn').imp fun t ht => ?_
    obtain ⟨-, heng, -⟩ := ht
    refine ⟨fun i => (prbsNext g.toNat)^[i] (x.rg g.toNat), fun i => prbsBit g.toNat ((prbsNext g.toNat)^[i] (x.rg g.toNat)),
      (prbsRun g.toNat n.toNat (x.rg g.toNat)).2, rfl, fun i _ => ⟨?_, ?_⟩, fun i => ?_, ?_, ?_⟩
    · dsimp only
      rw [prbsBit, htaps g]
    · dsimp only
      rw [Function.iterate_succ_apply', prbsNext_toNat, hwidth g]
    · by_cases h64 : i < 64
      · exact prbsRun_bit g.toNat n.toNat _ h64
      · rw [BitVec.getLsbD_of_ge _ _ (by omega)]
        simp [show ¬ i < n.toNat by omega]
    · rw [heng, rg_of_set (x := x) rfl]
      exact prbsRun_state ..
    · rw [heng, Engine.rpw, Tab.get_set_same, prbsAdvance, if_neg (by omega)]
  · exact (answers_padv_zero hx w g).imp fun t ⟨_, heng, _⟩ => by rw [heng]; exact putResult_gen ..
  · refine (answers_pseed hx w g hp).imp fun t ⟨_, heng, _⟩ => ?_
    rw [heng]
    refine ⟨?_, (putResult_gen ..).2⟩
    exact (rg_of_set (x := x) rfl).trans (hseed hzero)
  · have hg : g.toNat < 4 := g.isLt
    have hexec := exec_engineStateWrite_of_quiet (j := ⟨44 + g.toNat, by omega⟩) hreach hquiet (v := v) (p := false) (by simp)
      (by dsimp only; omega) (writeLocal_g x v false hg)
    refine ⟨_, hexec, ?_⟩
    dsimp only
    have heng : (((s.setEng e (x.setG g.toNat v)).noteRsp mid .ok []).eng e) = x.setG g.toNat v := eng_setEng_same ..
    rw [heng]
    exact ⟨(rg_of_set (x := x) rfl).trans (hseed hzero), rfl⟩

end Sys2Proof.Machine
end

section
/-!
PROOF. O21: the MAC operations (R62, R63, R96 to R98).
-/
namespace Sys2Proof.Machine

open Sys2Proof

variable {s : State} {e : Fin 256} {ix : BAddr}

/-! ### Accumulators -/

/-- The accumulators after a list of writes, one of each at most. -/
theorem racc_foldl_setAcc (f : Nat → Word48) (xs : List Nat) (y : Engine) (k : Nat) :
    ((xs.map (fun i => (i, f i))).foldl (fun acc w => acc.setAcc w.1 w.2) y).racc k = if k ∈ xs then f k else y.racc k := by
  induction xs generalizing y with
  | nil => rfl
  | cons i xs ih =>
    have hset : (y.setAcc i (f i)).racc k = if k = i then f k else y.racc k := by
      unfold Engine.racc Engine.setAcc
      dsimp only
      rw [Tab.get_set]
      split
      · rename_i h; rw [h]
      · rfl
    rw [List.map_cons, List.foldl_cons, ih, hset]
    by_cases hk : k ∈ xs <;> by_cases hi : k = i <;> simp [hk, hi]

theorem foldl_setAcc_rest (ws : List (Nat × Word48)) (y : Engine) :
    ws.foldl (fun acc w => acc.setAcc w.1 w.2) y = { y with acc := (ws.foldl (fun acc w => acc.setAcc w.1 w.2) y).acc } := by
  induction ws generalizing y with
  | nil => rfl
  | cons w ws ih => rw [List.foldl_cons, ih (y.setAcc w.1 w.2)]; rfl

theorem mem_maskAccs {mask : BitVec 4} {k : Nat} (hk : k < 4) : k ∈ maskAccs mask ↔ mask.getLsbD k = true := by
  simp [maskAccs, hk]

/-- What a MAC operation that writes f k to each accumulator k of a mask leaves of the accumulators. -/
def Engine.withAccs (x : Engine) (mask : BitVec 4) (f : Nat → Word48) : Engine :=
  ((maskAccs mask).map (fun k => (k, f k))).foldl (fun acc w => acc.setAcc w.1 w.2) x

theorem racc_withAccs (x : Engine) (mask : BitVec 4) (f : Nat → Word48) {k : Nat} (hk : k < 4) :
    (x.withAccs mask f).racc k = if mask.getLsbD k then f k else x.racc k := by
  rw [Engine.withAccs, racc_foldl_setAcc]
  simp only [mem_maskAccs hk]

theorem withAccs_rest (x : Engine) (mask : BitVec 4) (f : Nat → Word48) :
    x.withAccs mask f = { x with acc := (x.withAccs mask f).acc } := foldl_setAcc_rest ..

/-- R97: the value and the clamp of accumulator k in an accumulate operation. -/
def Engine.accumulated (x : Engine) (sub : Bool) (mode : BitVec 2) (j : BitVec 3) (b : BitVec 18) (k : Nat) : Word48 × Bool :=
  macAccum sub (mode.getLsbD 1) (mode.getLsbD 0) (x.racc k) (macA (x.rd (2 * j.toNat)) (x.rd (2 * j.toNat + 1)) k) b

theorem applyMac_macRun (x : Engine) (sub : Bool) (mask : BitVec 4) (mode : BitVec 2) (j : BitVec 3) (b : BitVec 18) :
    x.applyMac (macRun x sub mask mode j b) = x.withAccs mask (fun k => (x.accumulated sub mode j b k).1) := by
  unfold Engine.applyMac macRun
  dsimp only
  rw [List.map_map]
  rfl

theorem macRun_sat (x : Engine) (sub : Bool) (mask : BitVec 4) (mode : BitVec 2) (j : BitVec 3) (b : BitVec 18) :
    (macRun x sub mask mode j b).sat = (List.range 4).any (fun k => mask.getLsbD k && (x.accumulated sub mode j b k).2) := by
  unfold macRun
  dsimp only
  rw [List.any_map, maskAccs, List.any_filter]
  rfl

/-! ### Commands -/

/-- R97: the engine behind a MAC operation. -/
def Engine.macWritten (x : Engine) (op : MacOp) : Engine :=
  { x.applyMac (macEff x op).1 with flags := setFlags (x.applyMac (macEff x op).1).flags (macEff x op).2 }

/-- R97: a MAC operation that meets no fault. -/
theorem opMac_eq_setEng {e : Nat} {op : MacOp} (hr : s.running e = true) (hok : op.ok = true)
    (hp : op.consumes.any (s.eng e).rp = false) :
    s.opMac e ix op = if (macEff (s.eng e) op).1.sat then (s.setEng e ((s.eng e).macWritten op)).raise F.CE_STATUS_MACSAT e
      else s.setEng e ((s.eng e).macWritten op) := opMac_plain hr hok hp

/-- R97: a MAC command whose operation meets no fault and clamps nothing leaves y of its engine. -/
theorem answers_mac {c : Instr} {op : MacOp} {y : Engine}
    (hc : exec c s = .next (s.keep (s.inDom (domCL (e.val / 4)) (fun s => s.opMac e.val ix op)))) (hx : s.Executes e)
    (hok : op.ok = true) (hp : op.consumes.any (s.eng e).rp = false) (hsat : (macEff (s.eng e) op).1.sat = false)
    (hy : (s.eng e).macWritten op = y) : Answers c s (OnlyEngine s e y) := by
  obtain ⟨hlive, hrun⟩ := hx
  refine answers_onlyEngine hc hlive ?_
  rw [opMac_eq_setEng hrun hok hp, hsat, ← hy]
  exact onlyEngine_setEng ..

/-- What an accumulate operation over the accumulators of a mask leaves: r gives their values and clamps, and the flags are fl. -/
structure Accumulated (s : State) (e : Nat) (mask : BitVec 4) (r : Nat → Word48 × Bool) (fl : Byte) (t : State) : Prop where
  accs : ∀ k : Nat, k < 4 → (t.eng e).racc k = if mask.getLsbD k then (r k).1 else (s.eng e).racc k
  eng : t.eng e = { s.eng e with acc := (t.eng e).acc, flags := fl }
  others : ∀ m : Nat, m ≠ e → t.eng m = s.eng m
  status : t.reg .CE_STATUS e = if (List.range 4).any (fun k => mask.getLsbD k && (r k).2)
    then putFld F.CE_STATUS_MACSAT 1 (s.reg .CE_STATUS e) else s.reg .CE_STATUS e
  frame : t = { s with engines := t.engines, regs := t.regs }

/-- The engine's accumulators and flags are written, and a clamp is noted. -/
theorem accumulated_setEng {e : Nat} {mask : BitVec 4} {r : Nat → Word48 × Bool} {fl : Byte} {y : Engine}
    (haccs : ∀ k : Nat, k < 4 → y.racc k = if mask.getLsbD k then (r k).1 else (s.eng e).racc k)
    (hrest : y = { s.eng e with acc := y.acc, flags := fl }) :
    Accumulated s e mask r fl (if (List.range 4).any (fun k => mask.getLsbD k && (r k).2)
      then (s.setEng e y).raise F.CE_STATUS_MACSAT e else s.setEng e y) := by
  have hset : (s.setEng e y).eng e = y := eng_setEng_same ..
  have hothers (m : Nat) (hm : m ≠ e) : (s.setEng e y).eng m = s.eng m := eng_setEng_other hm y
  rw [← hset] at haccs hrest
  split
  case isTrue h =>
    refine ⟨haccs, hrest, hothers, ?_, ?_⟩
    · rw [if_pos h]
      exact reg_setReg ..
    · rw [State.raise, setFld_regs (by decide)]
      rfl
  case isFalse h => exact ⟨haccs, hrest, hothers, by rw [if_neg h]; rfl, rfl⟩

/-- R63, R97: an accumulate command that meets no fault. -/
theorem answers_accumulate {c : Instr} {op : MacOp} {sub : Bool} {mask : BitVec 4} {mode : BitVec 2} {j : BitVec 3} {b : BitVec 18}
    {cmps : List (BitVec 3 × Bool)}
    (hc : exec c s = .next (s.keep (s.inDom (domCL (e.val / 4)) (fun s => s.opMac e.val ix op)))) (hx : s.Executes e)
    (hop : macEff (s.eng e) op = (macRun (s.eng e) sub mask mode j b, cmps)) (hok : op.ok = true)
    (hp : op.consumes.any (s.eng e).rp = false) :
    Answers c s (Accumulated s e mask ((s.eng e).accumulated sub mode j b) (setFlags (s.eng e).flags cmps)) := by
  obtain ⟨hlive, hrun⟩ := hx
  have haccs (k : Nat) (hk : k < 4) : ((s.eng e).macWritten op).racc k =
      if mask.getLsbD k then ((s.eng e).accumulated sub mode j b k).1 else (s.eng e).racc k := by
    rw [← racc_withAccs _ _ (fun k => ((s.eng e).accumulated sub mode j b k).1) hk, Engine.macWritten, hop, applyMac_macRun]
    rfl
  have hrest : (s.eng e).macWritten op =
      { s.eng e with acc := ((s.eng e).macWritten op).acc, flags := setFlags (s.eng e).flags cmps } := by
    rw [Engine.macWritten, hop, applyMac_macRun, withAccs_rest]
  have hafter := accumulated_setEng haccs hrest
  have hsat : (macRun (s.eng e) sub mask mode j b).sat = (macEff (s.eng e) op).1.sat := by rw [hop]
  rw [← macRun_sat, hsat, ← opMac_eq_setEng (ix := ix) hrun hok hp] at hafter
  exact answers_inDom hc hlive (by rw [hafter.frame]) hafter

/-- Settles O21: the accumulate operations are Accumulated; the others write what applyMac and the flags say. -/
theorem macOperationsAccumulateUnderTheirMask : Obligations.MacOperationsAccumulateUnderTheirMask := by
  intro s e ix hx x run acted
  have hacted {c : Instr} {sub : Bool} {mask : BitVec 4} {mode : BitVec 2} {j : BitVec 3} {b : BitVec 18} {fl : Byte}
      (h : Answers c s (Accumulated s e mask (x.accumulated sub mode j b) fl)) : acted c sub mask mode j b fl :=
    h.imp fun t ht => ⟨ht.accs, ht.eng, ht.others, ht.status, ht.frame⟩
  have hmask {c : Instr} {mask : BitVec 4} (f : Nat → Word48) (h : Answers c s (OnlyEngine s e (x.withAccs mask f))) :
      Answers c s (fun t => (∀ k : Nat, k < 4 → (t.eng e).racc k = if mask.getLsbD k then f k else x.racc k) ∧
        OnlyEngine s e { x with acc := (t.eng e).acc } t) := by
    refine h.imp fun t ht => ?_
    have heng := ht.2.1
    refine ⟨fun k hk => by rw [heng, racc_withAccs _ _ _ hk], ?_⟩
    rw [heng, ← withAccs_rest]
    exact ht
  refine ⟨answers_mac rfl hx rfl rfl rfl rfl, ?_, ?_, ?_, ?_, ?_, ?_, ?_⟩
  · exact fun mask mode j k n rf hok hp =>
      ⟨hacted (answers_accumulate (op := .macc mask mode j k false n rf) rfl hx rfl hok hp),
        hacted (answers_accumulate (op := .msub mask mode j k false n rf) rfl hx rfl hok hp)⟩
  · exact fun mask mode j k n rf hok hp =>
      ⟨hacted (answers_accumulate (op := .macc mask mode j k true n rf) rfl hx rfl hok hp),
        hacted (answers_accumulate (op := .msub mask mode j k true n rf) rfl hx rfl hok hp)⟩
  · exact fun mask mode j imm hp =>
      ⟨hacted (answers_accumulate (op := .maci mask mode j imm) rfl hx rfl rfl hp),
        hacted (answers_accumulate (op := .msbi mask mode j imm) rfl hx rfl rfl hp)⟩
  · exact fun mask => hmask (fun _ => 0) (answers_mac rfl hx rfl rfl rfl rfl)
  · intro mask sa hp
    refine hmask (fun _ => (x.rd sa.toNat).setWidth 48) (answers_mac rfl hx rfl ?_ rfl rfl)
    have hp' : mask = 0 ∨ (s.eng e).rp sa.toNat = false := hp
    by_cases hm : mask = 0
    · simp [MacOp.consumes, hm]
    · simp [MacOp.consumes, hp'.resolve_left hm]
  · exact fun k sg dst => answers_mac rfl hx rfl rfl rfl rfl
  · intro k n cc sg sa hn hp
    have hp' : (s.eng e).rp sa.toNat = false := hp
    exact answers_mac rfl hx (by simp [MacOp.ok, cmpFlagOk, hn]) (by simp [MacOp.consumes, hp']) rfl rfl

end Sys2Proof.Machine
end

section
/-!
PROOF. O12: the commands of CE_CTRL (R47, R67, R69, R71, R81).
-/
namespace Sys2Proof.Machine

open Sys2Proof

variable {s : State} {mid : MasterId} {e : Fin 256}

/-- A write of CE_CTRL that reaches the engine's block is answered OK and has the effect of State.writeCeCtrl. -/
theorem exec_ceCtrl_of_reaches (h : s.ReachesReg mid .CE_CTRL e true) {c : Instr} {v : Word} {t : State}
    (hc : exec c s = .next (s.keep (s.writeAs mid .CE_CTRL e.val 0 v))) (ht : s.writeCeCtrl e v = t) (hp : t.pending = s.pending) :
    exec c s = .next (t.noteRsp mid .ok []) := by
  have hwrite : s.regWrite mid .CE_CTRL e 0 0 v = (.ok, t) := by rw [← ht]; rfl
  rw [hc, writeAs_of_reaches h, hwrite, keep_eq (by simpa using hp)]

/-! ### What each command does -/

section
variable {n : Nat}

theorem ceBbinv_of_idle (hm : (s.eng n).mode = .idle) (hg : s.gangHeld n = false) :
    s.ceBbinv n = s.setEng n { s.eng n with buf := {} } := by
  simp [State.ceBbinv, State.modEng, Engine.dropBuffer, hm, hg]

theorem ceBbinv_of_busy (h : (s.eng n).mode ≠ .idle ∨ s.gangHeld n = true) : s.ceBbinv n = s.raise F.CE_STATUS_CTLERR n :=
  if_neg (by rintro ⟨hm, hg⟩; simp [hm] at h; simp [h] at hg)

/-- R47: nothing is resident in an empty bundle buffer, so prefetch starts at the target itself. -/
theorem restartPrefetch_of_empty {x : Engine} (hx : x.buf = {}) (a : BAddr) :
    x.restartPrefetch a = { x with pq := [], pqNext := some a } := by
  have hresident : x.resident a = false := by simp [Engine.resident, hx]
  rw [Engine.restartPrefetch, Engine.restartPoint, hresident]
  rfl

/-- R47, R67, R72: fetch begins at a with an empty buffer. -/
theorem beginFetch_eq (x : Engine) (a : BAddr) :
    x.beginFetch a = { x with buf := {}, pq := [], pqNext := some a, pc := a, fetching := true, ending := .none, s1 := none } := by
  rw [Engine.beginFetch, restartPrefetch_of_empty rfl]
  rfl

/-- R54, R67: an engine in ANALYSIS at apc. -/
def Engine.analysing (x : Engine) (apc : BAddr) : Engine :=
  { x with mode := .analysis, pc := apc, buf := {}, pq := [], pqNext := some apc, fetching := true, ending := .none, s1 := none, ld := 0,
           cd := 0, leftIdle := true, alone := true, arrived := false, syncDone := false }

theorem enterAnalysis_eq (s : State) (n : Nat) :
    s.enterAnalysis n = s.modEng n (fun x => x.analysing (BitVec.ofNat 16 (s.fld F.CE_PC_APC n))) := by
  simp only [State.enterAnalysis, beginFetch_eq]
  rfl

theorem ceAnalyze_of_idle (hm : (s.eng n).mode = .idle) (hg : s.gangHeld n = false) : s.ceAnalyze n = s.enterAnalysis n :=
  if_pos ⟨hm, by simp [hg]⟩

theorem ceAnalyze_of_busy (h : (s.eng n).mode ≠ .idle ∨ s.gangHeld n = true) : s.ceAnalyze n = s.raise F.CE_STATUS_CTLERR n :=
  if_neg (by rintro ⟨hm, hg⟩; simp [hm] at h; simp [h] at hg)

theorem ceClear_of_drained (hm : (s.eng n).mode = .fault) (hd : (s.eng n).draining = false) : s.ceClear n = s.clearNow n := by
  simp [State.ceClear, hm, hd]

theorem ceClear_of_draining (hm : (s.eng n).mode = .fault) (hd : (s.eng n).draining = true) :
    s.ceClear n = s.setEng n { s.eng n with clearPend := true } := by
  simp [State.ceClear, State.modEng, hm, hd]

theorem ceClear_of_not_fault (hm : (s.eng n).mode ≠ .fault) : s.ceClear n = s.raise F.CE_STATUS_CTLERR n := if_neg hm

theorem ceDisarm_of_armed (hl : s.leader n = n) (hs : (s.eng n).mode ≠ .stream) (hp : (s.eng n).mode ≠ .paused)
    (hw : (s.eng n).gang.woke = false) : s.ceDisarm n = s.modGang n (fun g => { g with armed := false, startAt := none }) :=
  if_neg (by simp [hl, hs, hp, hw])

theorem ceDisarm_of_refused (h : s.leader n ≠ n ∨ (s.eng n).mode = .stream ∨ (s.eng n).mode = .paused ∨ (s.eng n).gang.woke = true) :
    s.ceDisarm n = s.raise F.CE_STATUS_CTLERR n := if_pos h

theorem ceArm_of_follower (hl : s.leader n ≠ n) : s.ceArm n = s.raise F.CE_STATUS_CTLERR n := if_pos hl

/-- R71: every member is idle and agrees on the size. -/
def State.armable (s : State) (n : Nat) : Prop :=
  ∀ m ∈ s.members n, (s.eng m).mode = .idle ∧ s.fld F.CE_GANG_SIZE m = s.fld F.CE_GANG_SIZE n

theorem armable_iff (s : State) (n : Nat) : s.armable n ↔
    (s.members n).all (fun m => (s.eng m).mode == .idle && s.fld F.CE_GANG_SIZE m == s.fld F.CE_GANG_SIZE n) = true := by
  simp [State.armable]

theorem ceArm_of_armable (hl : s.leader n = n) (ha : (s.eng n).gang.armed = false) (h : s.armable n) :
    s.ceArm n = s.modGang n (fun g => { g with armed := true, startAt := none, woke := false }) := by
  unfold State.ceArm
  rw [if_neg (by simp [hl]), if_neg (by simp [ha]), if_pos ((armable_iff s n).1 h)]

theorem ceArm_of_not_armable (hl : s.leader n = n) (ha : (s.eng n).gang.armed = false) (h : ¬ s.armable n) :
    s.ceArm n = s.raise F.CE_STATUS_ARMERR n := by
  unfold State.ceArm
  rw [if_neg (by simp [hl]), if_neg (by simp [ha]), if_neg (fun hall => h ((armable_iff s n).2 hall))]

end

/-- The safe state's and the end-of-pattern state's changes of pins do not reach the queue. -/
theorem clearNow_pending (s : State) (n : Nat) : (s.clearNow n).pending = s.pending := by
  unfold State.clearNow State.forAll
  exact foldl_keeps State.pending (fun a p => by split <;> rfl) _ _

/-- Settles O12: each command is its State.ce… operation, in the case that its mode and its gang give. -/
theorem engineControlCommandsActInTheirModes : Obligations.EngineControlCommandsActInTheirModes := by
  intro s mid e hreach x apc done ctlErr
  refine ⟨fun hm hg => ⟨?_, ?_⟩, fun h => ⟨?_, ?_⟩, fun hm hd => ?_, fun hm hd => ?_, fun hm => ?_, fun hl hs hp hw => ?_, fun h => ?_,
    fun hl ha h => ?_, fun hl ha h => ?_, fun hl => ?_⟩
  · exact exec_ceCtrl_of_reaches hreach rfl (ceBbinv_of_idle hm hg) rfl
  · exact exec_ceCtrl_of_reaches hreach rfl ((ceAnalyze_of_idle hm hg).trans (enterAnalysis_eq s e)) rfl
  · exact exec_ceCtrl_of_reaches hreach rfl (ceBbinv_of_busy h) rfl
  · exact exec_ceCtrl_of_reaches hreach rfl (ceAnalyze_of_busy h) rfl
  · exact exec_ceCtrl_of_reaches hreach rfl (ceClear_of_drained hm hd) (clearNow_pending s e)
  · exact exec_ceCtrl_of_reaches hreach rfl (ceClear_of_draining hm hd) rfl
  · exact exec_ceCtrl_of_reaches hreach rfl (ceClear_of_not_fault hm) rfl
  · exact exec_ceCtrl_of_reaches hreach rfl (ceDisarm_of_armed hl hs hp hw) rfl
  · exact exec_ceCtrl_of_reaches hreach rfl (ceDisarm_of_refused h) rfl
  · exact exec_ceCtrl_of_reaches hreach rfl (ceArm_of_armable hl ha h) rfl
  · refine exec_ceCtrl_of_reaches hreach rfl (ceArm_of_not_armable hl ha fun hall => ?_) rfl
    obtain ⟨m, hm, hno⟩ := h
    obtain ⟨hmode, hsize⟩ := hall m hm
    exact hno.elim (· hmode) (· hsize)
  · exact exec_ceCtrl_of_reaches hreach rfl (ceArm_of_follower hl) rfl

end Sys2Proof.Machine
end

section
/-!
SUPPORT. A fault of one engine of those that step together (R69, R73, R84, R85): it enters FAULT with its record, and the fault signal is
on its way to the others.
-/
namespace Sys2Proof.Machine

open Sys2Proof

variable {s t : State} {parts : List Nat} {e : Nat}

/-! ### A change of each unit of a list -/

/-- A change of each of several units on its own. -/
theorem get_forAll {α : Type} {get : State → Nat → α} {f : State → Nat → State} {h : Nat → α → α}
    (hself : ∀ a n, get (f a n) n = h n (get a n)) (hother : ∀ a n m, m ≠ n → get (f a n) m = get a m) {xs : List Nat} (hxs : xs.Nodup)
    (s : State) (m : Nat) : get (s.forAll xs f) m = if m ∈ xs then h m (get s m) else get s m := by
  unfold State.forAll
  induction xs generalizing s with
  | nil => rfl
  | cons x xs ih =>
    obtain ⟨hx, hxs⟩ := List.nodup_cons.1 hxs
    rw [List.foldl_cons, ih hxs]
    by_cases hmx : m = x
    · subst hmx
      rw [if_neg hx, if_pos List.mem_cons_self, hself]
    · rw [hother _ _ _ hmx]
      simp [hmx]

/-- Two changes that agree while I holds, which they keep. -/
theorem forAll_congr {f g : State → Nat → State} {I : State → Prop} {xs : List Nat} (heq : ∀ a, ∀ n ∈ xs, I a → f a n = g a n)
    (hI : ∀ a, ∀ n ∈ xs, I a → I (g a n)) (hs : I s) : s.forAll xs f = s.forAll xs g := by
  unfold State.forAll
  induction xs generalizing s with
  | nil => rfl
  | cons x xs ih =>
    have hmem : x ∈ x :: xs := List.mem_cons_self
    rw [List.foldl_cons, List.foldl_cons, heq s x hmem hs]
    exact ih (fun a n hn => heq a n (List.mem_cons_of_mem x hn)) (fun a n hn => hI a n (List.mem_cons_of_mem x hn)) (hI s x hmem hs)

/-- What unit e's own change makes of a state as the others' changes leave it, the others' changes keep. -/
theorem forAll_at {f : State → Nat → State} {P Q : State → Prop} (hbefore : ∀ a n, n ≠ e → Q a → Q (f a n))
    (hset : ∀ a, Q a → P (f a e)) (hafter : ∀ a n, n ≠ e → P a → P (f a n)) {xs : List Nat} (hxs : xs.Nodup) (he : e ∈ xs)
    (hs : Q s) : P (s.forAll xs f) := by
  unfold State.forAll
  obtain ⟨l, r, rfl⟩ := List.append_of_mem he
  have hdisjoint := List.nodup_middle.1 hxs
  obtain ⟨hnot, -⟩ := List.nodup_cons.1 hdisjoint
  rw [List.mem_append, not_or] at hnot
  rw [List.foldl_append, List.foldl_cons]
  have hkeep {R : State → Prop} (hR : ∀ a n, n ≠ e → R a → R (f a n)) (l : List Nat) (hl : e ∉ l) (a : State) (ha : R a) :
      R (l.foldl f a) := by
    induction l generalizing a with
    | nil => exact ha
    | cons n l ih =>
      rw [List.mem_cons, not_or] at hl
      exact ih hl.2 _ (hR a n (Ne.symm hl.1) ha)
  exact hkeep hafter r hnot.2 _ (hset _ (hkeep hbefore l hnot.1 s hs))

/-! ### One engine in FAULT -/

/-- What a fault, and the answer to the access that asked for it, leave as it was. -/
def FaultRest (s t : State) : Prop :=
  t = { s with engines := t.engines, regs := t.regs, plic := t.plic, fcus := t.fcus, rsps := t.rsps }

theorem FaultRest.refl (s : State) : FaultRest s s := rfl

theorem FaultRest.trans {a b c : State} (h : FaultRest a b) (g : FaultRest b c) : FaultRest a c := by
  unfold FaultRest at *
  rw [g, h]

theorem FaultRest.modEng (s : State) (m : Nat) (f : Engine → Engine) : FaultRest s (s.modEng m f) := rfl

theorem FaultRest.forAll {f : State → Nat → State} (h : ∀ a n, FaultRest a (f a n)) (xs : List Nat) (s : State) :
    FaultRest s (s.forAll xs f) := foldl_ind (P := FaultRest s) (fun a n ha => ha.trans (h a n)) xs s (.refl s)

section
variable (s : State) (e : Nat) (f : Flt) (src : Nat) (i : BAddr)

theorem engineIrq_cases (u : State) (was : EMode) : u.engineIrq e was = u ∨ u.engineIrq e was = u.pendIrq (512 + e) := by
  unfold State.engineIrq
  split
  · exact .inl rfl
  · exact .inr rfl

theorem engineIrq_eng (u : State) (was : EMode) (m : Nat) : (u.engineIrq e was).eng m = u.eng m := by
  rcases engineIrq_cases e u was with h | h
  · rw [h]
  · rw [h, pendIrq_eng]

theorem engineIrq_pends (u : State) {was : EMode} (h : was ≠ .idle ∧ was ≠ .fault) :
    (u.engineIrq e was).plic.pend.get (512 + e) false = true := by
  unfold State.engineIrq
  rw [if_neg (by simp [h])]
  exact Tab.get_set_same _ _ _ _

theorem enterFault_eng : (s.enterFault e f src i).eng e = (s.eng e).toFault := by
  unfold State.enterFault
  dsimp only
  rw [engineIrq_eng, State.modEng, eng_setEng_same, setReg_eng]

theorem enterFault_other {m : Nat} (hm : m ≠ e) : (s.enterFault e f src i).eng m = s.eng m := by
  unfold State.enterFault
  dsimp only
  rw [engineIrq_eng, State.modEng, eng_setEng_other hm, setReg_eng]

theorem enterFault_record : (s.enterFault e f src i).reg .CE_FAULT e =
    BitVec.ofNat 64 (f.slot * 2 ^ 32 + i.toNat * 2 ^ 16 + src * 2 ^ 8 + f.cause) := by
  unfold State.enterFault
  dsimp only
  rcases engineIrq_cases e ((s.setReg .CE_FAULT (BitVec.ofNat 64 (f.slot * 2 ^ 32 + i.toNat * 2 ^ 16 + src * 2 ^ 8 + f.cause)) e).modEng e
    Engine.toFault) (s.eng e).mode with h | h
  · rw [h, modEng_reg, reg_setReg]
  · rw [h, pendIrq_reg, modEng_reg, reg_setReg]

theorem enterFault_irq (h : (s.eng e).mode ≠ .idle ∧ (s.eng e).mode ≠ .fault) :
    (s.enterFault e f src i).plic.pend.get (512 + e) false = true := by
  unfold State.enterFault
  exact engineIrq_pends e _ h

theorem setReg_faultRest {r : RegId} (hr : isShadowed r = false) (v : Word) : FaultRest s (s.setReg r v e) := by
  rw [setReg_regs hr]
  rfl

theorem engineIrq_rest (was : EMode) : FaultRest s (s.engineIrq e was) := by
  rcases engineIrq_cases e s was with h | h
  · rw [h]
    exact .refl s
  · rw [h]
    rfl

theorem enterFault_rest : FaultRest s (s.enterFault e f src i) := by
  unfold State.enterFault
  dsimp only
  exact ((setReg_faultRest s e (by decide) _).trans (.modEng ..)).trans (engineIrq_rest ..)

end

/-! ### The engines that step together -/

theorem discard_discard (k : Nat) (x : Engine) : (x.discard k).discard k = x.discard k := by
  unfold Engine.discard
  dsimp only
  congr 1
  all_goals
    split
    · rfl
    · rfl

/-- From s to t engine e of parts has faulted at stage k in bundle i. -/
structure Faulted (parts : List Nat) (e k : Nat) (f : Flt) (i : BAddr) (s t : State) : Prop where
  self : ∃ g, t.eng e = { (s.eng e).discard k with gang := g }.toFault
  signalled : ∀ m ∈ parts, m ≠ e → ∃ g, t.eng m = { (s.eng m).discard k with gang := g, gangFault := some (e, i) }
  others : ∀ m, m ∉ parts → t.eng m = s.eng m
  record : t.reg .CE_FAULT e = BitVec.ofNat 64 (f.slot * 2 ^ 32 + i.toNat * 2 ^ 16 + e * 2 ^ 8 + f.cause)
  irq : (s.eng e).mode ≠ .idle → (s.eng e).mode ≠ .fault → t.plic.pend.get (512 + e) false = true
  rest : FaultRest s t

/-- What each of the engines of a fault in engine e does. -/
def State.signalFault (e : Nat) (f : Flt) (i : BAddr) (a : State) (m : Nat) : State :=
  if m = e then a.enterFault e f e i else a.modEng m (fun x => { x with gangFault := some (e, i) })

theorem signalFault_rest (f : Flt) (i : BAddr) (a : State) (m : Nat) : FaultRest a (a.signalFault e f i m) := by
  unfold State.signalFault
  split
  · exact enterFault_rest ..
  · rfl

/-- The stages up to k of every engine are discarded, and the leader's gang is no longer armed. -/
def State.faultBase (s : State) (parts : List Nat) (stream : Bool) (k : Nat) : State :=
  let u := s.forAll parts (fun acc m => acc.modEng m (fun x => x.discard k))
  (if stream then u.fcuLapse (parts.headD 0) else u).modEng (parts.headD 0)
    (fun x => { x with gang := { x.gang with armed := false, startAt := none, woke := false } })

theorem faultBase_rest (s : State) (parts : List Nat) (stream : Bool) (k : Nat) : FaultRest s (s.faultBase parts stream k) := by
  have hdiscard := FaultRest.forAll (f := fun acc m => acc.modEng m (fun x => x.discard k)) (fun _ _ => rfl) parts s
  cases stream
  · exact hdiscard.trans rfl
  · exact hdiscard.trans rfl

theorem faultBase_eng (hhead : parts.headD 0 ∈ parts) (s : State) (stream : Bool) (k m : Nat) :
    (m ∈ parts → ∃ g, (s.faultBase parts stream k).eng m = { (s.eng m).discard k with gang := g }) ∧
    (m ∉ parts → (s.faultBase parts stream k).eng m = s.eng m) := by
  have hdiscard := eng_forAll_modEng (f := fun x => x.discard k) (discard_discard k) parts s m
  have hlapse : (if stream then (s.forAll parts (fun acc m => acc.modEng m (fun x => x.discard k))).fcuLapse (parts.headD 0)
      else s.forAll parts (fun acc m => acc.modEng m (fun x => x.discard k))).eng m = if m ∈ parts then (s.eng m).discard k else s.eng m := by
    rw [← hdiscard]
    cases stream <;> rfl
  unfold State.faultBase
  dsimp only
  constructor
  · intro hm
    rw [if_pos hm] at hlapse
    by_cases hmh : m = parts.headD 0
    · rw [← hmh] at hlapse ⊢
      rw [State.modEng, eng_setEng_same, hlapse]
      exact ⟨_, rfl⟩
    · rw [State.modEng, eng_setEng_other hmh, hlapse]
      exact ⟨_, rfl⟩
  · intro hm
    rw [if_neg hm] at hlapse
    rw [State.modEng, eng_setEng_other (by rintro rfl; exact hm hhead), hlapse]

/-- R69: the fault of one engine that runs, of those that step together, none of which has faulted before. -/
theorem faultAt_one (hlt : e < 256) (hquiet : s.faulting parts = false) (stream : Bool) (k : Nat) (i : BAddr) (f : Flt) :
    s.faultAt parts stream false k i [(e, f)] = (s.faultBase parts stream k).forAll parts (State.signalFault e f i) := by
  have hsrc : min 255 e = e := by omega
  unfold State.faultAt State.faultBase
  simp only [hquiet, Bool.false_eq_true, if_false, List.map_cons, List.map_nil, List.foldl_cons, List.foldl_nil, hsrc]
  unfold State.forAll
  congr 1
  funext a m
  unfold State.signalFault
  by_cases hm : m = e
  · simp [hm]
  · have hne : (e == m) = false := by simpa using Ne.symm hm
    simp [hm, hne]

theorem faultAt_faulted (he : e ∈ parts) (hparts : parts.Nodup) (hlt : e < 256) (hquiet : s.faulting parts = false) (stream : Bool)
    (k : Nat) (i : BAddr) (f : Flt) : Faulted parts e k f i s (s.faultAt parts stream false k i [(e, f)]) := by
  have hhead : parts.headD 0 ∈ parts := by
    cases parts with
    | nil => cases he
    | cons x xs => exact List.mem_cons_self
  rw [faultAt_one hlt hquiet]
  have hbase := faultBase_eng hhead s stream k
  have hrest := faultBase_rest s parts stream k
  generalize s.faultBase parts stream k = b at hbase hrest
  have hother (a : State) (n m : Nat) (hm : m ≠ n) : (a.signalFault e f i n).eng m = a.eng m := by
    unfold State.signalFault
    split
    · rename_i hn
      subst hn
      exact enterFault_other a n f n i hm
    · exact eng_setEng_other hm _
  have heng := get_forAll (get := State.eng) (f := State.signalFault e f i)
    (h := fun m x => if m = e then x.toFault else { x with gangFault := some (e, i) })
    (fun a n => by
      unfold State.signalFault
      split
      · rename_i hn
        subst hn
        exact enterFault_eng ..
      · exact eng_setEng_same ..) hother hparts b
  refine ⟨?_, fun m hm hme => ?_, fun m hm => ?_, ?_, fun hidle hfault => ?_, ?_⟩
  · obtain ⟨g, hg⟩ := (hbase e).1 he
    exact ⟨g, by rw [heng, if_pos he, if_pos rfl, hg]⟩
  · obtain ⟨g, hg⟩ := (hbase m).1 hm
    exact ⟨g, by rw [heng, if_pos hm, if_neg hme, hg]⟩
  · rw [heng, if_neg hm, (hbase m).2 hm]
  · refine forAll_at (Q := fun _ => True) (P := fun a => a.reg .CE_FAULT e = _) (fun _ _ _ _ => trivial) (fun a _ => ?_)
      (fun a n hn ha => ?_) hparts he trivial
    · rw [State.signalFault, if_pos rfl]
      exact enterFault_record ..
    · rw [State.signalFault, if_neg hn]
      exact ha
  · refine forAll_at (Q := fun a => (a.eng e).mode ≠ .idle ∧ (a.eng e).mode ≠ .fault)
      (P := fun a => a.plic.pend.get (512 + e) false = true) (fun a n hn ha => ?_) (fun a ha => ?_) (fun a n hn ha => ?_) hparts he ?_
    · rw [hother a n e (Ne.symm hn)]
      exact ha
    · rw [State.signalFault, if_pos rfl]
      exact enterFault_irq _ _ _ _ _ ha
    · rw [State.signalFault, if_neg hn]
      exact ha
    · obtain ⟨g, hg⟩ := (hbase e).1 he
      rw [hg]
      exact ⟨hidle, hfault⟩
  · exact hrest.trans (.forAll (signalFault_rest f i) parts b)

/-! ### An engine alone (R75) -/

theorem partsOf_of_alone (h : (s.eng e).alone = true) : s.partsOf e = [e] := if_pos h

theorem faulting_alone (hmode : (s.eng e).mode ≠ .fault) (hsignal : (s.eng e).gangFault = none) : s.faulting [e] = false := by
  simp [State.faulting, hmode, hsignal]

theorem faultAt_alone (hlt : e < 256) (halone : (s.eng e).alone = true) (hmode : (s.eng e).mode ≠ .fault)
    (hsignal : (s.eng e).gangFault = none) (stream : Bool) (k : Nat) (i : BAddr) (f : Flt) :
    Faulted [e] e k f i s (s.faultAt (s.partsOf e) stream false k i [(e, f)]) := by
  rw [partsOf_of_alone halone]
  exact faultAt_faulted (by simp) (by simp) hlt (faulting_alone hmode hsignal) stream k i f

end Sys2Proof.Machine
end

section
/-!
PROOF. O13: CE_CTRL.ABORT (R66, R69, R73). O22: consumed poison and invalid values (R61, R65, R84, R85).
-/
namespace Sys2Proof.Machine

open Sys2Proof

variable {s : State} {e : Fin 256} {ix : BAddr}

/-! ### An operation that faults -/

/-- R69: an operation's fault in an engine alone in analysis. -/
theorem opFault_faulted (hx : s.Analyses e) (halone : (s.eng e).alone = true) (hsignal : (s.eng e).gangFault = none) (k : Nat) (ix : BAddr)
    (cause slot : Nat) : Faulted [e.val] e k ⟨cause, slot⟩ ix s (s.opFault e k ix cause slot) := by
  have hmode : (s.eng e).mode ≠ .fault := by rw [hx.2]; decide
  exact faultAt_alone e.isLt halone hmode hsignal (s.streaming e) k ix ⟨cause, slot⟩

/-- A command whose operation faults. -/
theorem answers_fault {c : Instr} {g : State → State} {k cause slot : Nat}
    (hc : exec c s = .next (s.keep (s.inDom (domCL (e.val / 4)) g))) (hx : s.Analyses e) (halone : (s.eng e).alone = true)
    (hsignal : (s.eng e).gangFault = none) (hg : g s = s.opFault e k ix cause slot) :
    Answers c s (Faulted [e.val] e k ⟨cause, slot⟩ ix s) := by
  have hfault := opFault_faulted hx halone hsignal k ix cause slot
  rw [← hg] at hfault
  exact answers_inDom hc hx.1 (by rw [hfault.rest]) hfault

/-- R84: an AGEN operation whose values are invalid. -/
theorem opAgen_illegal {e : Nat} (hr : s.running e = true) {op : AgenOp} (hok : op.ok = false) :
    s.opAgen e ix op = s.opFault e 2 ix 2 1 := by simp [State.opAgen, hr, hok]

/-- R61: an AGEN operation beside the memory that consumes poison. -/
theorem opAgen_poisoned {e : Nat} (hr : s.running e = true) {op : AgenOp} (hok : op.ok = true)
    (hl : (s.agenEff e (s.eng e) op).load = none) (hs : (s.agenEff e (s.eng e) op).store = none)
    (hp : op.consumes.any (s.eng e).rp = true) : s.opAgen e ix op = s.opFault e 3 ix 7 1 := by
  simp [State.opAgen, hr, hok, hl, hs, hp]

/-- R91: MOVD does not reach the memory. -/
theorem agenEff_movd_memory (s : State) (e : Nat) (x : Engine) (tr : BitVec 2) (k : BitVec 3) (n : BitVec 4) :
    (s.agenEff e x (.movd tr k n)).load = none ∧ (s.agenEff e x (.movd tr k n)).store = none := by
  simp only [State.agenEff]
  split
  · exact ⟨rfl, rfl⟩
  · split
    · exact ⟨rfl, rfl⟩
    · exact ⟨rfl, rfl⟩

theorem opDgen_illegal {e : Nat} (hr : s.running e = true) {op : DgenOp} (hok : op.ok = false) :
    s.opDgen e ix op = s.opFault e 2 ix 2 2 := by simp [State.opDgen, hr, hok]

theorem opDgen_poisoned {e : Nat} (hr : s.running e = true) {op : DgenOp} (hok : op.ok = true)
    (hp : op.consumes.any (s.eng e).rp = true) : s.opDgen e ix op = s.opFault e 3 ix 7 2 := by
  simp [State.opDgen, hr, hok, hp]

theorem opMac_illegal {e : Nat} (hr : s.running e = true) {op : MacOp} (hok : op.ok = false) :
    s.opMac e ix op = s.opFault e 2 ix 2 3 := by simp [State.opMac, hr, hok]

theorem opMac_poisoned {e : Nat} (hr : s.running e = true) {op : MacOp} (hok : op.ok = true)
    (hp : op.consumes.any (s.eng e).rp = true) : s.opMac e ix op = s.opFault e 3 ix 7 3 := by
  simp [State.opMac, hr, hok, hp]

/-- Settles O22: the operation's fault is opFault, which leaves the engine's registers as Faulted says. -/
theorem poisonAndIllegalValuesFaultTheEngine : Obligations.PoisonAndIllegalValuesFaultTheEngine := by
  intro s e ix hx halone hsignal x faults
  have hr := running_of_analyses hx
  have hfaults {c : Instr} {g : State → State} {k cause slot : Nat}
      (hc : exec c s = .next (s.keep (s.inDom (domCL (e.val / 4)) g))) (hg : g s = s.opFault e k ix cause slot) :
      faults c cause slot := by
    refine (answers_fault hc hx halone hsignal hg).imp fun t ht => ?_
    obtain ⟨⟨gang, hself⟩, -, hothers, hrecord, -, hrest⟩ := ht
    refine ⟨by rw [hself]; rfl, hrecord, by rw [hself]; rfl, by rw [hself]; rfl, by rw [hself]; rfl, by rw [hself]; rfl,
      by rw [hrest], fun m hm => hothers m (by simpa using hm)⟩
  refine ⟨fun tr k n htr hp => ?_, fun w sa g hp => ?_, fun sa sb n cc hn hp => ?_, fun mask sa hmask hp => ?_, fun k n => ?_,
    fun w g n hn => ?_, fun k n cc sg sa hn => ?_⟩
  · obtain ⟨hl, hs⟩ := agenEff_movd_memory s e x tr k n
    exact hfaults (c := .movd e ix tr k n) rfl (opAgen_poisoned hr (by simpa [AgenOp.ok] using htr) hl hs
      (by simpa [AgenOp.consumes] using hp))
  · exact hfaults (c := .pseed e ix w sa g) rfl (opDgen_poisoned hr rfl (by simpa [DgenOp.consumes] using hp))
  · exact hfaults (c := .cmpd e ix sa sb n cc) rfl (opDgen_poisoned hr (by simp [DgenOp.ok, cmpFlagOk, hn])
      (by simpa [DgenOp.consumes] using hp))
  · exact hfaults (c := .mlda e ix mask sa) rfl (opMac_poisoned hr rfl (by simpa [MacOp.consumes] using ⟨hmask, hp⟩))
  · exact hfaults (c := .movd e ix 3 k n) rfl (opAgen_illegal hr rfl)
  · exact hfaults (c := .padv e ix w g n) rfl (opDgen_illegal hr (by simpa [DgenOp.ok] using hn))
  · exact hfaults (c := .mcmp e ix k n cc sg sa) rfl (opMac_illegal hr (by simpa [MacOp.ok, cmpFlagOk] using hn))

/-! ### ABORT -/

section
variable {mid : MasterId}

/-- A command of CE_CTRL that faults an engine. -/
theorem answers_ceCtrl_fault (hreach : s.ReachesReg mid .CE_CTRL e true) {c : Instr} {v : Word} {t : State} {parts : List Nat} {k : Nat}
    {f : Flt} {i : BAddr} (hc : exec c s = .next (s.keep (s.writeAs mid .CE_CTRL e.val 0 v))) (ht : s.writeCeCtrl e v = t)
    (hfault : Faulted parts e k f i s t) : Answers c s (Faulted parts e k f i s) :=
  ⟨_, exec_ceCtrl_of_reaches hreach hc ht (by rw [hfault.rest]), hfault.self, hfault.signalled, hfault.others, hfault.record, hfault.irq,
    hfault.rest.trans rfl⟩

/-- R69, R75: ABORT of an engine in analysis, alone. -/
theorem ceAbort_alone (hm : (s.eng e).mode = .analysis ∨ (s.eng e).mode = .sync) (halone : (s.eng e).alone = true)
    (hsignal : (s.eng e).gangFault = none) : Faulted [e.val] e 2 ⟨0x0C, 5⟩ (s.eng e).abortAddr s (s.ceAbort e) := by
  have habort : s.ceAbort e = s.faultAt (s.partsOf e) false false 2 (s.eng e).abortAddr [(e.val, ⟨0x0C, 5⟩)] := by
    unfold State.ceAbort
    rcases hm with h | h
    · rw [h]
    · rw [h]
  rw [habort]
  refine faultAt_alone e.isLt halone ?_ hsignal _ _ _ _
  rcases hm with h | h
  · rw [h]; decide
  · rw [h]; decide

/-- R21: the members of the gang of engine e are distinct. -/
theorem members_nodup (s : State) (n : Nat) : (s.members n).Nodup :=
  List.Nodup.map (fun _ _ h => Nat.add_left_cancel h) List.nodup_range

/-- R69, R73: ABORT of an engine that runs or is paused in a gang. -/
theorem ceAbort_gang (hm : (s.eng e).mode = .stream ∨ (s.eng e).mode = .paused) (halone : (s.eng e).alone = false)
    (hmem : e.val ∈ s.members (s.leader e)) (hquiet : s.faulting (s.members (s.leader e)) = false) :
    Faulted (s.members (s.leader e)) e (if (s.eng e).mode = .stream then 2 else 6) ⟨0x0C, 5⟩
      (if (s.eng e).mode = .stream then (s.eng (s.leader e)).abortAddr else (s.eng (s.leader e)).pausedAddr) s (s.ceAbort e) := by
  have hparts : s.partsOf e = s.members (s.leader e) := by simp [State.partsOf, halone]
  have hfault (k : Nat) (i : BAddr) := faultAt_faulted hmem (members_nodup s _) e.isLt hquiet true k i ⟨0x0C, 5⟩
  unfold State.ceAbort
  rcases hm with h | h
  · rw [if_pos h, if_pos h, h, hparts]
    simpa only [members_head] using hfault 2 (s.eng (s.leader e)).abortAddr
  · have hne : ¬ (s.eng e).mode = .stream := by rw [h]; decide
    rw [if_neg hne, if_neg hne, h, hparts]
    simpa only [members_head] using hfault 6 (s.eng (s.leader e)).pausedAddr

end

/-- Settles O13: ABORT is CE_CTRL's ceAbort, a fault of the engine of those that step together. -/
theorem abortFaultsARunningEngine : Obligations.AbortFaultsARunningEngine := by
  intro s mid e hreach x
  refine ⟨fun hm => ?_, fun hm => ?_, fun hm halone hsignal => ?_, fun hm halone hmem hquiet => ?_⟩
  · refine exec_ceCtrl_of_reaches hreach rfl ?_ rfl
    show s.ceAbort e = _
    rw [State.ceAbort, hm]
  · refine exec_ceCtrl_of_reaches hreach rfl ?_ rfl
    show s.ceAbort e = _
    rw [State.ceAbort, hm]
  · refine (answers_ceCtrl_fault (c := .abort mid e) hreach rfl rfl (ceAbort_alone hm halone hsignal)).imp ?_
    intro t ht
    have hpend := ht.irq (hm.elim (fun h => by rw [h]; decide) (fun h => by rw [h]; decide))
      (hm.elim (fun h => by rw [h]; decide) (fun h => by rw [h]; decide))
    obtain ⟨⟨gang, hself⟩, -, hothers, hrecord, -, hrest⟩ := ht
    rw [hself]
    exact ⟨rfl, rfl, rfl, hrecord, hpend, rfl, rfl, rfl, rfl, rfl, fun m hm => hothers m (by simpa using hm), by rw [hrest], by rw [hrest]⟩
  · refine (answers_ceCtrl_fault (c := .abort mid e) hreach rfl rfl (ceAbort_gang hm halone hmem hquiet)).imp ?_
    intro t ht
    have hpend := ht.irq (hm.elim (fun h => by rw [h]; decide) (fun h => by rw [h]; decide))
      (hm.elim (fun h => by rw [h]; decide) (fun h => by rw [h]; decide))
    obtain ⟨⟨gang, hself⟩, hsignalled, hothers, hrecord, -, hrest⟩ := ht
    rw [hself]
    refine ⟨rfl, rfl, hrecord, hpend, fun m hm hme => ?_, hothers, by rw [hrest], by rw [hrest]⟩
    obtain ⟨g, hg⟩ := hsignalled m hm hme
    rw [hg]
    exact ⟨rfl, rfl⟩

end Sys2Proof.Machine
end

section
/-!
SUPPORT. A FLOW operation on its own (R86, R87): the bundle that holds it and nothing else decodes to it, and what faults there.
-/
namespace Sys2Proof.Machine

open Sys2Proof

variable {s : State} {e : Nat}

/-! ### Slots (R83, R86) -/

theorem sl_append_high {n m lo w : Nat} (a : BitVec n) (b : BitVec m) (h : m ≤ lo) : sl (no_index (a ++ b)) lo w = sl a (lo - m) w :=
  BitVec.extractLsb'_append_eq_of_le h

theorem sl_append_low {n m lo w : Nat} (a : BitVec n) (b : BitVec m) (h : lo + w ≤ m) : sl (no_index (a ++ b)) lo w = sl b lo w :=
  BitVec.extractLsb'_append_eq_of_add_le h

theorem sl_self {n : Nat} (b : BitVec n) : sl b 0 n = b := BitVec.extractLsb'_eq_self

theorem sb_append {n m : Nat} (a : BitVec n) (b : BitVec m) (i : Nat) :
    sb (no_index (a ++ b)) i = if i < m then sb b i else sb a (i - m) := BitVec.getLsbD_append

theorem sb_bitv (b : Bool) : sb (bitv b) 0 = b := by cases b <;> rfl

/-- R86: a FLOW slot decodes to the operation that it was encoded from. -/
theorem decodeFlow_encodeFlow (op : FlowOp) : decodeFlow (encodeFlow op) = some op := by
  cases op
  case nop | ret | halt | enta | popl | sync | reti => rfl
  all_goals simp [decodeFlow, encodeFlow, sl_append_high, sl_append_low, sl_self, onlyIf, sb_append, sb_bitv]

/-- The bundle of a FLOW operation at i, its other slots empty. -/
def flowStage (i : BAddr) (op : FlowOp) : Stage := { addr := i, bits := encodeBundle op .nop .nop .nop ⟨0, 0, 0⟩ }

section
variable (i : BAddr) (op : FlowOp)

theorem flowStage_decodeFlow : decodeFlow (flowBits (flowStage i op).bits) = some op := by
  have hslot : flowBits (flowStage i op).bits = encodeFlow op := BitVec.extractLsb'_append_eq_left
  rw [hslot, decodeFlow_encodeFlow]

/-- The slots behind FLOW do not hold it. -/
theorem flowStage_slot {lo w : Nat} (h : lo + w ≤ 96) : (flowStage i op).bits.extractLsb' lo w =
    (encodeAgen .nop ++ (encodeDgen .nop ++ (encodeMac .nop ++ encodePin ⟨0, 0, 0⟩)) : BitVec 96).extractLsb' lo w :=
  BitVec.extractLsb'_append_eq_of_add_le h

theorem flowStage_decodeAgen : decodeAgen (agenBits (flowStage i op).bits) = some .nop := by
  rw [agenBits, flowStage_slot i op (by decide)]
  rfl

theorem flowStage_decodeDgen : decodeDgen (dgenSlotBits (flowStage i op).bits) = some .nop := by
  rw [dgenSlotBits, flowStage_slot i op (by decide)]
  rfl

theorem flowStage_decodeMac : decodeMac (macBits (flowStage i op).bits) = some .nop := by
  rw [macBits, flowStage_slot i op (by decide)]
  rfl

theorem flowStage_decodePin : decodePin (pinBits (flowStage i op).bits) = some ⟨0, 0, 0⟩ := by
  rw [pinBits, flowStage_slot i op (by decide)]
  rfl

end

/-! ### Faults (R80, R87 to R89) -/

/-- R53: the loop stack is full or empty, or the loop's end lies before its body. -/
def Engine.badLoop (x : Engine) (i : BAddr) : FlowOp → Bool
  | .loopi _ en => x.ld ≥ 8 || en.toNat < i.toNat + 2
  | .loopl _ en => x.ld ≥ 8 || en.toNat < i.toNat + 2
  | .popl => x.ld == 0
  | _ => false

/-- R53: the call stack is full or empty. -/
def Engine.badCall (x : Engine) : FlowOp → Bool
  | .call _ => x.cd ≥ 4
  | .ret => x.cd == 0
  | _ => false

/-- R80: the block of words of SAVEL or RESTL. -/
def Engine.block (x : Engine) : FlowOp → Option Word32
  | .savel k => some (x.ra k.toNat)
  | .restl k => some (x.ra k.toNat)
  | _ => none

/-- The fault of a FLOW operation of bundle i that stands in no delay or setup slot, with the bundle at next behind it. -/
def State.flowFault (s : State) (e : Nat) (x : Engine) (stream lead : Bool) (i next : BAddr) (op : FlowOp) : Option Flt :=
  firstFlt
    [ ((op == .enta && !stream) || (op == .reti && (stream || s.flag F.CE_INT_IE e)), 2, 0),
      (lead && (op.isLoop && x.matchesEnd next), 3, 0), (lead && x.badLoop i op, 4, 0), (lead && x.badCall op, 5, 0),
      (stream && (x.block op).isSome, 8, 0), ((x.block op).any (fun a => blockOutside a || s.portAError e), 9, 0) ]

/-- A bundle with a FLOW operation and nothing else, outside delay and setup slots. -/
theorem s2Fault_of_flow {t : Stage} {op : FlowOp} {pin : PinOp} (hpoison : t.poison = 0) (hplace : t.place = .plain)
    (hflow : decodeFlow (flowBits t.bits) = some op) (hagen : decodeAgen (agenBits t.bits) = some .nop)
    (hdgen : decodeDgen (dgenSlotBits t.bits) = some .nop) (hmac : decodeMac (macBits t.bits) = some .nop)
    (hpin : decodePin (pinBits t.bits) = some pin) (x : Engine) (stream lead : Bool) (next : BAddr) :
    s.s2Fault e x stream lead t (some next) = s.flowFault e x stream lead t.addr next op := by
  have hop : t.flow = op := by rw [Stage.flow, hflow]; rfl
  have hnop : t.agen = .nop := by rw [Stage.agen, hagen]; rfl
  unfold State.s2Fault State.flowFault
  rw [hpoison, hplace, hflow, hagen, hdgen, hmac, hpin, hop, hnop]
  cases op
  all_goals
    cases stream
    · cases lead <;> rfl
    · cases lead <;> rfl

theorem s2Fault_flowStage (x : Engine) (stream lead : Bool) (i next : BAddr) (op : FlowOp) :
    s.s2Fault e x stream lead (flowStage i op) (some next) = s.flowFault e x stream lead i next op :=
  s2Fault_of_flow rfl rfl (flowStage_decodeFlow i op) (flowStage_decodeAgen i op) (flowStage_decodeDgen i op) (flowStage_decodeMac i op)
    (flowStage_decodePin i op) x stream lead next

end Sys2Proof.Machine
end

section
/-!
PROOF. O25: the FLOW operations that fault (R53, R80, R87 to R89).
-/
namespace Sys2Proof.Machine

open Sys2Proof

variable {s : State} {e : Nat} {ix : BAddr}

/-- R87: an operation that faults. -/
theorem opFlow_of_fault (hr : s.running e = true) {op : FlowOp} {f : Flt}
    (hf : s.flowFault e (s.eng e) (s.streaming e) (!s.streaming e || s.leader e == e) ix (ix + 1) op = some f) :
    s.opFlow e ix op = s.opFault e 2 ix f.cause f.slot := by
  have hfault := (s2Fault_flowStage (s := s) (e := e) (s.eng e) (s.streaming e) (!s.streaming e || s.leader e == e) ix (ix + 1) op).trans hf
  rw [flowStage] at hfault
  unfold State.opFlow
  simp only [hr, hfault]
  rfl

/-- R53, R87, R88: what faults in an analysis, where no loop ends behind the operation. -/
theorem flowFault_analysis (hx : s.Analyses e) {op : FlowOp} (hnot : op.isLoop = true → (s.eng e).matchesEnd (ix + 1) = false) :
    s.flowFault e (s.eng e) (s.streaming e) (!s.streaming e || s.leader e == e) ix (ix + 1) op =
      firstFlt [(op == .enta || (op == .reti && s.flag F.CE_INT_IE e), 2, 0), ((s.eng e).badLoop ix op, 4, 0),
        ((s.eng e).badCall op, 5, 0), (((s.eng e).block op).any (fun a => blockOutside a || s.portAError e), 9, 0)] := by
  have hslot : (op.isLoop && (s.eng e).matchesEnd (ix + 1)) = false := by
    cases hloop : op.isLoop
    · rfl
    · rw [hnot hloop]; rfl
  unfold State.flowFault
  rw [streaming_of_analyses hx, hslot]
  cases op <;> rfl

/-- A FLOW operation alone in analysis that faults with a cause. -/
theorem answers_flowFault {e : Fin 256} (hx : s.Analyses e) (halone : (s.eng e).alone = true) (hsignal : (s.eng e).gangFault = none)
    {c : Instr} {op : FlowOp} {cause : Nat}
    (hc : exec c s = .next (s.keep (s.inDom (domCL (e.val / 4)) (fun s => s.opFlow e.val ix op))))
    (hnot : op.isLoop = true → (s.eng e).matchesEnd (ix + 1) = false)
    (hf : firstFlt [(op == .enta || (op == .reti && s.flag F.CE_INT_IE e), 2, 0), ((s.eng e).badLoop ix op, 4, 0),
      ((s.eng e).badCall op, 5, 0), (((s.eng e).block op).any (fun a => blockOutside a || s.portAError e), 9, 0)] = some ⟨cause, 0⟩) :
    Answers c s (Faulted [e.val] e 2 ⟨cause, 0⟩ ix s) :=
  answers_fault hc hx halone hsignal (opFlow_of_fault (running_of_analyses hx) ((flowFault_analysis hx hnot).trans hf))

theorem badLoop_popl {x : Engine} (h : x.ld = 0) : x.badLoop ix .popl = true := beq_iff_eq.2 h

theorem badLoop_loopi {x : Engine} {c : BitVec 11} {en : BAddr} (h : 8 ≤ x.ld ∨ en.toNat < ix.toNat + 2) :
    x.badLoop ix (.loopi c en) = true := by
  unfold Engine.badLoop
  simpa using h

/-- Settles O25: each operation meets one entry of the list of R84's faults, which opFault records. -/
theorem flowOperationsFaultWhereTheStacksAreFullOrEmpty : Obligations.FlowOperationsFaultWhereTheStacksAreFullOrEmpty := by
  intro s e ix hx halone hsignal x faults
  have hfaults {c : Instr} {op : FlowOp} {cause : Nat}
      (hc : exec c s = .next (s.keep (s.inDom (domCL (e.val / 4)) (fun s => s.opFlow e.val ix op))))
      (hnot : op.isLoop = true → x.matchesEnd (ix + 1) = false)
      (hf : firstFlt [(op == .enta || (op == .reti && s.flag F.CE_INT_IE e), 2, 0), (x.badLoop ix op, 4, 0),
        (x.badCall op, 5, 0), ((x.block op).any (fun a => blockOutside a || s.portAError e), 9, 0)] = some ⟨cause, 0⟩) :
      faults c cause := by
    refine (answers_flowFault hx halone hsignal hc hnot hf).imp fun t ht => ?_
    obtain ⟨⟨gang, hself⟩, -, hothers, hrecord, -, -⟩ := ht
    rw [hself]
    refine ⟨rfl, by rw [hrecord, Nat.zero_mul, Nat.zero_add], rfl, rfl, rfl, rfl, fun m hm => hothers m (by simpa using hm)⟩
  refine ⟨fun hld => ?_, fun c en hnot hbad => ?_, fun t hcd => ?_, fun hcd => ?_, ?_, fun hie => ?_, fun k hk => ⟨?_, ?_⟩⟩
  · have hbad : x.badLoop ix .popl = true := badLoop_popl hld
    exact hfaults (c := .popl e ix) (op := .popl) rfl (fun h => by cases h) (by rw [hbad]; rfl)
  · have hbad' : x.badLoop ix (.loopi c en) = true := badLoop_loopi hbad
    exact hfaults (c := .loopi e ix c en) (op := .loopi c en) rfl (fun _ => hnot) (by rw [hbad']; rfl)
  · have hbad : x.badCall (.call t) = true := decide_eq_true hcd
    exact hfaults (c := .call e ix t) (op := .call t) rfl (fun h => by cases h) (by rw [hbad]; rfl)
  · have hbad : x.badCall .ret = true := beq_iff_eq.2 hcd
    exact hfaults (c := .ret e ix) (op := .ret) rfl (fun h => by cases h) (by rw [hbad]; rfl)
  · exact hfaults (op := .enta) rfl (fun h => by cases h) rfl
  · exact hfaults (op := .reti) rfl (fun h => by cases h) (by rw [hie]; rfl)
  all_goals
    have hbad : (some (x.ra k.toNat)).any (fun a => blockOutside a || s.portAError e) = true := by simp [blockOutside, hk]
  · exact hfaults (op := .savel k) rfl (fun h => by cases h) (by rw [Engine.block, hbad]; rfl)
  · exact hfaults (op := .restl k) rfl (fun h => by cases h) (by rw [Engine.block, hbad]; rfl)

end Sys2Proof.Machine
end

section
/-!
PROOF. O23: the FLOW operations that do not fault (R48 to R54, R74, R78, R87).
-/
namespace Sys2Proof.Machine

open Sys2Proof

variable {s : State} {ix : BAddr}

/-- R87: the operations whose effect is flowEff's alone. -/
def FlowOp.moves : FlowOp → Bool
  | .clrf _ | .savel _ | .restl _ | .sync | .reti => false
  | _ => true

/-- R48, R53: engine x behind its FLOW operation of bundle i, redirected where the operation redirects. -/
def Engine.flowed (x : Engine) (i : BAddr) (op : FlowOp) : Engine :=
  match (flowEff x x i op).2 with
  | some tgt => { (flowEff x x i op).1.restartPrefetch tgt with pc := tgt }
  | none => (flowEff x x i op).1

/-- Only RETI returns from a handler. -/
theorem flowed_ending {x : Engine} (hx : x.ending ≠ .reti) {op : FlowOp} (hop : op.moves = true) : (x.flowed ix op).ending ≠ .reti := by
  have hpush (c : BitVec 24) (en : BAddr) : (loopPush x x ix c en).1.ending ≠ .reti := by
    unfold loopPush
    split
    · exact hx
    · exact hx
  have hthen : (flowEff x x ix op).1.ending ≠ .reti := by
    cases op
    case clrf | savel | restl | sync | reti => cases hop
    case loopi c en => exact hpush _ _
    case loopl k en => exact hpush _ _
    case halt => exact fun h => by cases h
    case enta => exact fun h => by cases h
    all_goals exact hx
  unfold Engine.flowed
  split
  · exact hthen
  · exact hthen

theorem settleReti_of_ending {e : Nat} (h : (s.eng e).ending ≠ .reti) : s.settleReti e = s := if_neg (fun hall => h hall.1)

/-- R87: what an operation that does not fault does. -/
def State.flowDone (s : State) (e : Nat) (i : BAddr) (op : FlowOp) : State :=
  let lead := !s.streaming e || s.leader e == e
  match op with
  | .clrf m =>
    s.forAll (if s.streaming e && lead then s.members e else [e]) (fun acc k =>
      acc.modEng k (fun y => { y with flags := clearFlags y.flags m }))
  | .savel r => s.saveLoops e (s.eng e) ((s.eng e).ra r.toNat).toNat
  | .restl r => s.noteRestl e i ((s.eng e).ra r.toNat).toNat
  | .sync => if s.streaming e ∨ s.gangSize e = 1 then s else s.holdSync e
  | .reti => ((s.setEng e { s.eng e with ending := .reti, fetching := false }).modEng e (fun y => { y with s1 := none })).settleReti e
  | op => if !lead then s else (s.setEng e ((s.eng e).flowed i op)).settleReti e

section
variable {e : Nat} {op : FlowOp} (hr : s.running e = true)
  (hf : s.flowFault e (s.eng e) (s.streaming e) (!s.streaming e || s.leader e == e) ix (ix + 1) op = none)
include hr hf

/-- R87: an operation that does not fault. -/
theorem opFlow_of_clear : s.opFlow e ix op = s.flowDone e ix op := by
  have hclear := (s2Fault_flowStage (s := s) (e := e) (s.eng e) (s.streaming e) (!s.streaming e || s.leader e == e) ix (ix + 1) op).trans hf
  rw [flowStage] at hclear
  unfold State.opFlow
  simp only [hr, hclear]
  cases op <;> rfl

theorem opFlow_moves (hfetch : s.Fetches e) (hend : (s.eng e).ending ≠ .reti) (hop : op.moves = true) :
    s.opFlow e ix op = s.setEng e ((s.eng e).flowed ix op) := by
  have hlead : (!s.streaming e || s.leader e == e) = true := by
    cases h : s.streaming e
    · rfl
    · simpa using hfetch h
  have hsettle : (s.setEng e ((s.eng e).flowed ix op)).settleReti e = s.setEng e ((s.eng e).flowed ix op) :=
    settleReti_of_ending (by rw [eng_setEng_same]; exact flowed_ending hend hop)
  rw [opFlow_of_clear hr hf]
  unfold State.flowDone
  rw [hlead]
  cases op
  case clrf | savel | restl | sync | reti => cases hop
  all_goals exact hsettle

end

/-- R53, R80, R88, R89: what must hold for a FLOW operation not to fault. -/
theorem flowFault_eq_none {e : Nat} {x : Engine} {stream lead : Bool} {next : BAddr} {op : FlowOp}
    (hmode : ((op == .enta && !stream) || (op == .reti && (stream || s.flag F.CE_INT_IE e))) = false)
    (hslot : (op.isLoop && x.matchesEnd next) = false) (hloop : x.badLoop ix op = false) (hcall : x.badCall op = false)
    (hblock : x.block op = none) : s.flowFault e x stream lead ix next op = none := by
  unfold State.flowFault
  rw [hmode, hslot, hloop, hcall, hblock, Bool.and_false]
  cases stream <;> rfl

/-- A FLOW command that moves the engine that fetches. -/
theorem answers_flow {e : Fin 256} {c : Instr} {op : FlowOp} {y : Engine}
    (hc : exec c s = .next (s.keep (s.inDom (domCL (e.val / 4)) (fun s => s.opFlow e.val ix op)))) (hx : s.Executes e)
    (hfetch : s.Fetches e) (hend : (s.eng e).ending ≠ .reti)
    (hmode : ((op == .enta && !s.streaming e) || (op == .reti && (s.streaming e || s.flag F.CE_INT_IE e))) = false)
    (hslot : (op.isLoop && (s.eng e).matchesEnd (ix + 1)) = false) (hloop : (s.eng e).badLoop ix op = false)
    (hcall : (s.eng e).badCall op = false) (hop : op.moves = true) (hy : (s.eng e).flowed ix op = y) :
    Answers c s (OnlyEngine s e y) := by
  obtain ⟨hlive, hrun⟩ := hx
  have hblock : (s.eng e).block op = none := by
    cases op
    case savel | restl => cases hop
    all_goals rfl
  refine answers_onlyEngine hc hlive ?_
  rw [opFlow_moves hrun (flowFault_eq_none hmode hslot hloop hcall hblock) hfetch hend hop, ← hy]
  exact onlyEngine_setEng ..

/-! ### Loops (R50, R53) -/

/-- R50: LOOP with count c, body end en. -/
def Engine.looped (x : Engine) (i : BAddr) (c : BitVec 24) (en : BAddr) : Engine :=
  if c = 0 then { x.restartPrefetch (en + 1) with pc := en + 1 }
  else { x with l := x.l.set x.ld c 0, lstart := x.lstart.set x.ld (i + 2) 0, lend := x.lend.set x.ld en 0, ld := x.ld + 1 }

theorem flowed_redirected {x y : Engine} {i t : BAddr} {op : FlowOp} (h : flowEff x x i op = (y, some t)) :
    x.flowed i op = { y.restartPrefetch t with pc := t } := by
  unfold Engine.flowed
  rw [h]

theorem flowed_straight {x y : Engine} {i : BAddr} {op : FlowOp} (h : flowEff x x i op = (y, none)) : x.flowed i op = y := by
  unfold Engine.flowed
  rw [h]

theorem flowed_of_loopPush {x : Engine} {i : BAddr} {op : FlowOp} {c : BitVec 24} {en : BAddr} (h : flowEff x x i op = loopPush x x i c en) :
    x.flowed i op = x.looped i c en := by
  unfold Engine.looped
  split
  · exact flowed_redirected (h.trans (if_pos ‹_›))
  · exact flowed_straight (h.trans (if_neg ‹_›))

/-- R48: BR redirects on its condition. -/
theorem flowed_branch {x : Engine} {i t : BAddr} {op : FlowOp} {c : Bool} {p : Prop} [Decidable p] (hc : c = true ↔ p)
    (h : flowEff x x i op = (x, if c then some t else none)) :
    x.flowed i op = if p then { x.restartPrefetch t with pc := t } else x := by
  split
  · exact flowed_redirected (h.trans (by rw [if_pos (hc.2 ‹_›)]))
  · exact flowed_straight (h.trans (by rw [if_neg (fun htrue => ‹¬ p› (hc.1 htrue))]))

theorem setWidth_24_eq_zero (c : BitVec 11) : c.setWidth 24 = 0 ↔ c = 0 := by bv_omega

/-! ### CLRF, SYNC and RETI -/

/-- A FLOW command that does not fault does what flowDone says. -/
theorem answers_flowDone {e : Fin 256} {c : Instr} {op : FlowOp} {P : State → Prop}
    (hc : exec c s = .next (s.keep (s.inDom (domCL (e.val / 4)) (fun s => s.opFlow e.val ix op)))) (hx : s.Executes e)
    (hf : s.flowFault e (s.eng e) (s.streaming e) (!s.streaming e || s.leader e == e) ix (ix + 1) op = none)
    (hP : (s.flowDone e ix op).pending = s.pending ∧ P (s.flowDone e ix op)) : Answers c s P := by
  obtain ⟨hlive, hrun⟩ := hx
  have hdone := opFlow_of_clear hrun hf
  exact answers_inDom hc hlive (by rw [hdone]; exact hP.1) (by rw [hdone]; exact hP.2)

/-- R49: CLRF in an analysis. -/
theorem flowDone_clrf_analysis {e : Nat} (h : s.streaming e = false) (m : Byte) :
    s.flowDone e ix (.clrf m) = s.modEng e (fun y => { y with flags := y.flags &&& ~~~ m }) := by
  unfold State.flowDone
  rw [h]
  rfl

/-- R49: CLRF in a stream clears the flags of every member. -/
theorem flowDone_clrf_stream {e : Nat} (h : s.streaming e = true) (hfetch : s.Fetches e) (m : Byte) :
    s.flowDone e ix (.clrf m) = s.forAll (s.members e) (fun a k => a.modEng k (fun y => { y with flags := y.flags &&& ~~~ m })) := by
  have hlead : (s.leader e == e) = true := beq_iff_eq.2 (hfetch h)
  unfold State.flowDone
  rw [h, hlead]
  rfl

/-- R78: what RETI leaves of its engine until the handler's return completes. -/
def Engine.returning (x : Engine) : Engine := { x with ending := .reti, fetching := false, s1 := none }

theorem flowDone_reti (s : State) (e : Nat) : s.flowDone e ix .reti =
    ((s.setEng e { s.eng e with ending := .reti, fetching := false }).modEng e (fun y => { y with s1 := none })).settleReti e := rfl

theorem onlyEngine_returning (s : State) (e : Nat) : OnlyEngine s e (s.eng e).returning
    ((s.setEng e { s.eng e with ending := .reti, fetching := false }).modEng e (fun y => { y with s1 := none })) := by
  refine ⟨rfl, ?_, fun k hk => ?_⟩
  · rw [State.modEng, eng_setEng_same, eng_setEng_same]
    rfl
  · rw [State.modEng, eng_setEng_other hk, eng_setEng_other hk]

/-- R78: the handler's return completes with RETI itself where nothing is under way. -/
theorem settleReti_of_done {e : Nat} (h : (s.eng e).ending = .reti) (hempty : (s.eng e).pipeEmpty = true) (hloads : (s.eng e).loads = [])
    (hmode : (s.eng e).mode = .analysis) : s.settleReti e = (s.modEng e (fun y =>
      { y.restartPrefetch (BitVec.ofNat 16 (s.fld F.CE_INT_IPC e)) with
        flags := BitVec.ofNat 8 (s.fld F.CE_INT_IFLAGS e), pc := BitVec.ofNat 16 (s.fld F.CE_INT_IPC e), fetching := true,
        ending := .none })).setFld F.CE_INT_IE 1 e := if_pos ⟨h, hempty, hloads, hmode⟩

/-- Settles O23: the operations that move are flowEff's (answers_flow); the others are flowDone's cases. -/
theorem flowOperationsActOnTheProgramState : Obligations.FlowOperationsActOnTheProgramState := by
  intro s e ix hx hfetch hend x goesTo does push roomFor
  have hroom {en : BAddr} (h : roomFor en) : (decide (x.ld ≥ 8) || decide (en.toNat < ix.toNat + 2)) = false := by
    obtain ⟨hld, hen, -⟩ := h
    simp
    omega
  have hslot {en : BAddr} (h : roomFor en) : (true && x.matchesEnd (ix + 1)) = false := by rw [h.2.2]; rfl
  refine ⟨?_, fun t => ?_, fun val idx t => ?_, fun val idx t => ?_, fun t hcd => ?_, fun hcd => ?_, ?_, fun hstream => ?_,
    fun c en hr => ?_, fun k en hr => ?_, fun hld => ?_, fun k v => ?_, fun m hstream => ?_, fun m hstream => ?_, fun h => ?_,
    fun hstream hsize => ?_, fun hana hie hbusy => ?_, fun hana hie hempty hloads => ?_⟩
  · exact answers_flow (op := .nop) rfl hx hfetch hend rfl rfl rfl rfl rfl rfl
  · exact answers_flow (op := .jmp t) rfl hx hfetch hend rfl rfl rfl rfl rfl rfl
  · exact answers_flow (op := .br false val idx t) rfl hx hfetch hend rfl rfl rfl rfl rfl (flowed_branch beq_iff_eq rfl)
  · exact answers_flow (op := .br true val idx t) rfl hx hfetch hend rfl rfl rfl rfl rfl (flowed_branch beq_iff_eq rfl)
  · exact answers_flow (op := .call t) rfl hx hfetch hend rfl rfl rfl (decide_eq_false (Nat.not_le.2 hcd)) rfl rfl
  · exact answers_flow (op := .ret) rfl hx hfetch hend rfl rfl rfl (beq_eq_false_iff_ne.2 hcd.ne') rfl rfl
  · exact answers_flow (op := .halt) rfl hx hfetch hend rfl rfl rfl rfl rfl rfl
  · exact answers_flow (op := .enta) rfl hx hfetch hend (by rw [hstream]; rfl) rfl rfl rfl rfl rfl
  · refine answers_flow (op := .loopi c en) rfl hx hfetch hend rfl (hslot hr) (hroom hr) rfl rfl ?_
    rw [flowed_of_loopPush rfl]
    unfold Engine.looped
    simp only [setWidth_24_eq_zero]
    rfl
  · exact answers_flow (op := .loopl k en) rfl hx hfetch hend rfl (hslot hr) (hroom hr) rfl rfl (flowed_of_loopPush rfl)
  · exact answers_flow (op := .popl) rfl hx hfetch hend rfl rfl (beq_eq_false_iff_ne.2 hld.ne') rfl rfl rfl
  · exact answers_flow (op := .setl k v) rfl hx hfetch hend rfl rfl rfl rfl rfl rfl
  · refine answers_flowDone (op := .clrf m) rfl hx (flowFault_eq_none rfl rfl rfl rfl rfl) ?_
    rw [flowDone_clrf_analysis hstream]
    exact ⟨rfl, onlyEngine_modEng ..⟩
  · refine answers_flowDone (op := .clrf m) rfl hx (flowFault_eq_none rfl rfl rfl rfl rfl) ?_
    rw [flowDone_clrf_stream hstream hfetch]
    have heng := eng_forAll_modEng (f := fun y => { y with flags := y.flags &&& ~~~ m })
      (fun y => by simp [BitVec.and_assoc]) (s.members e) s
    obtain ⟨es, hes⟩ := forAll_modEng_engines (fun y => { y with flags := y.flags &&& ~~~ m }) (s.members e) s
    exact ⟨by rw [hes], fun k hk => by rw [heng, if_pos hk], fun k hk => by rw [heng, if_neg hk], by rw [hes]⟩
  · refine answers_flowDone (op := .sync) rfl hx (flowFault_eq_none rfl rfl rfl rfl rfl) ?_
    rw [State.flowDone, if_pos h]
    exact ⟨rfl, onlyEngine_refl ..⟩
  · refine answers_flowDone (op := .sync) rfl hx (flowFault_eq_none rfl rfl rfl rfl rfl) ?_
    rw [State.flowDone, if_neg (by simp [hstream, hsize])]
    exact ⟨rfl, onlyEngine_modEng ..⟩
  · refine answers_flowDone (op := .reti) rfl hx (flowFault_eq_none (by rw [streaming_of_analyses hana, hie]; rfl) rfl rfl rfl rfl) ?_
    have hset := onlyEngine_returning s e
    rw [flowDone_reti]
    generalize (s.setEng e _).modEng e _ = u at hset
    have hstays : u.settleReti e = u := by
      refine if_neg ?_
      rw [hset.2.1]
      rintro ⟨-, hempty, hloads, -⟩
      exact hbusy.elim (fun h => by rw [Engine.returning] at hempty; exact absurd (hempty.symm.trans h) (by decide)) (fun h => h hloads)
    rw [hstays]
    exact ⟨hset.pending, hset⟩
  · refine answers_flowDone (op := .reti) rfl hx (flowFault_eq_none (by rw [streaming_of_analyses hana, hie]; rfl) rfl rfl rfl rfl) ?_
    have hset := onlyEngine_returning s e
    rw [flowDone_reti]
    generalize (s.setEng e _).modEng e _ = u at hset
    obtain ⟨hrest, heng, hothers⟩ := hset
    have hfld (f : Fld) : u.fld f e = s.fld f e := by rw [hrest]; rfl
    rw [settleReti_of_done (by rw [heng]; rfl) (by rw [heng]; exact hempty) (by rw [heng]; exact hloads) (by rw [heng]; exact hana.2),
      hfld, hfld]
    refine ⟨by rw [hrest]; rfl, ?_⟩
    rw [setFld_eng, State.modEng, eng_setEng_same, heng]
    refine ⟨rfl, rfl, rfl, rfl, rfl, ?_, rfl, rfl, fun m hm => ?_⟩
    · exact fld_setFld_fits rfl (by decide) e 0 0
    · rw [setFld_eng, eng_setEng_other hm, hothers m hm]

end Sys2Proof.Machine
end

section
/-!
SUPPORT. The loop and call state as ten words (R80), the code of a stored word (R378 to R380), and port A's accesses of a block of words.
-/
namespace Sys2Proof.Machine

open Sys2Proof

/-! ### Ten words (R80) -/

/-- The first n entries of a table of zeros written. -/
def writeEntries {n : Nat} (k : Nat) (f : Nat → BitVec n) (t : Tab (BitVec n)) : Tab (BitVec n) :=
  (List.range k).foldl (fun acc i => acc.set i (f i) 0) t

theorem writeEntries_succ {n : Nat} (k : Nat) (f : Nat → BitVec n) (t : Tab (BitVec n)) :
    writeEntries (k + 1) f t = (writeEntries k f t).set k (f k) 0 := by
  unfold writeEntries
  rw [List.range_succ, List.foldl_append]
  rfl

theorem get_writeEntries {n w k : Nat} (hw : w < k) (f : Nat → BitVec n) (t : Tab (BitVec n)) : (writeEntries k f t).get w 0 = f w := by
  induction k with
  | zero => omega
  | succ k ih =>
    rw [writeEntries_succ, Tab.get_set]
    by_cases hwk : w = k
    · rw [if_pos hwk, hwk]
    · rw [if_neg hwk, ih (by omega)]

/-- The engine behind the ten words. -/
def Engine.withLoops (x : Engine) (ws : Nat → Word) : Engine := (List.range 10).foldl (fun acc w => acc.setLoopWord w (ws w)) x

theorem withLoops_congr (x : Engine) {ws vs : Nat → Word} (h : ∀ w, w < 10 → ws w = vs w) : x.withLoops ws = x.withLoops vs :=
  List.foldl_ext _ _ _ (fun y w hw => by rw [h w (List.mem_range.1 hw)])

section
variable (x : Engine) (ws : Nat → Word)

/-- The words of the loop stack. -/
theorem foldl_setLoopWord {k : Nat} (hk : k ≤ 8) : (List.range k).foldl (fun acc w => acc.setLoopWord w (ws w)) x =
    { x with l := writeEntries k (fun i => (ws i).extractLsb' 32 24) x.l
             lstart := writeEntries k (fun i => (ws i).extractLsb' 0 16) x.lstart
             lend := writeEntries k (fun i => (ws i).extractLsb' 16 16) x.lend } := by
  induction k with
  | zero => rfl
  | succ k ih =>
    rw [List.range_succ, List.foldl_append, ih (by omega), List.foldl_cons, List.foldl_nil, Engine.setLoopWord, if_pos (by omega)]
    simp only [writeEntries_succ]
    rfl

theorem withLoops_eq : x.withLoops ws =
    { x with l := writeEntries 8 (fun i => (ws i).extractLsb' 32 24) x.l
             lstart := writeEntries 8 (fun i => (ws i).extractLsb' 0 16) x.lstart
             lend := writeEntries 8 (fun i => (ws i).extractLsb' 16 16) x.lend
             cstack := writeEntries 4 (fun i => (ws 8).extractLsb' (16 * i) 16) x.cstack
             ld := ((ws 9).extractLsb' 0 4).toNat
             cd := ((ws 9).extractLsb' 4 3).toNat } := by
  have hsplit : x.withLoops ws =
      (((List.range 8).foldl (fun acc w => acc.setLoopWord w (ws w)) x).setLoopWord 8 (ws 8)).setLoopWord 9 (ws 9) := rfl
  rw [hsplit, foldl_setLoopWord x ws (Nat.le_refl 8)]
  rfl

variable {w : Nat}

theorem withLoops_rl (hw : w < 8) : (x.withLoops ws).rl w = (ws w).extractLsb' 32 24 := by
  rw [withLoops_eq]
  exact get_writeEntries hw _ _

theorem withLoops_rstart (hw : w < 8) : (x.withLoops ws).rstart w = (ws w).extractLsb' 0 16 := by
  rw [withLoops_eq]
  exact get_writeEntries hw _ _

theorem withLoops_rend (hw : w < 8) : (x.withLoops ws).rend w = (ws w).extractLsb' 16 16 := by
  rw [withLoops_eq]
  exact get_writeEntries hw _ _

theorem withLoops_rcs (hw : w < 4) : (x.withLoops ws).rcs w = (ws 8).extractLsb' (16 * w) 16 := by
  rw [withLoops_eq]
  exact get_writeEntries hw _ _

end

/-- R80: a field of a word below 2^64. -/
theorem extract_ofNat {n lo w : Nat} {v : BitVec w} (hn : n < 2 ^ 64) (h : n / 2 ^ lo % 2 ^ w = v.toNat) :
    (BitVec.ofNat 64 n).extractLsb' lo w = v := by
  apply BitVec.eq_of_toNat_eq
  rw [BitVec.extractLsb'_toNat, BitVec.toNat_ofNat, Nat.mod_eq_of_lt hn, Nat.shiftRight_eq_div_pow, h]

section
variable (x : Engine) {w : Nat}

theorem loopWord_rstart (hw : w < 8) : (x.loopWord w).extractLsb' 0 16 = x.rstart w := by
  have h1 := (x.rstart w).isLt
  have h2 := (x.rend w).isLt
  have h3 := (x.rl w).isLt
  rw [Engine.loopWord, if_pos hw]
  exact extract_ofNat (by omega) (by omega)

theorem loopWord_rend (hw : w < 8) : (x.loopWord w).extractLsb' 16 16 = x.rend w := by
  have h1 := (x.rstart w).isLt
  have h2 := (x.rend w).isLt
  have h3 := (x.rl w).isLt
  rw [Engine.loopWord, if_pos hw]
  exact extract_ofNat (by omega) (by omega)

theorem loopWord_rl (hw : w < 8) : (x.loopWord w).extractLsb' 32 24 = x.rl w := by
  have h1 := (x.rstart w).isLt
  have h2 := (x.rend w).isLt
  have h3 := (x.rl w).isLt
  rw [Engine.loopWord, if_pos hw]
  exact extract_ofNat (by omega) (by omega)

theorem loopWord_rcs (hw : w < 4) : (x.loopWord 8).extractLsb' (16 * w) 16 = x.rcs w := by
  have h0 := (x.rcs 0).isLt
  have h1 := (x.rcs 1).isLt
  have h2 := (x.rcs 2).isLt
  have h3 := (x.rcs 3).isLt
  have hword : x.loopWord 8 =
      BitVec.ofNat 64 ((x.rcs 0).toNat + (x.rcs 1).toNat * 2 ^ 16 + (x.rcs 2).toNat * 2 ^ 32 + (x.rcs 3).toNat * 2 ^ 48) := rfl
  rw [hword]
  interval_cases w
  all_goals exact extract_ofNat (by omega) (by omega)

variable {x} (hld : x.ld ≤ 8) (hcd : x.cd ≤ 4)
include hld hcd

omit hcd in
theorem loopWord_ld : ((x.loopWord 9).extractLsb' 0 4).toNat = x.ld := by
  have hword : x.loopWord 9 = BitVec.ofNat 64 (x.ld + x.cd * 16) := rfl
  rw [hword, BitVec.extractLsb'_toNat, BitVec.toNat_ofNat, Nat.shiftRight_eq_div_pow]
  omega

theorem loopWord_cd : ((x.loopWord 9).extractLsb' 4 3).toNat = x.cd := by
  have hword : x.loopWord 9 = BitVec.ofNat 64 (x.ld + x.cd * 16) := rfl
  rw [hword, BitVec.extractLsb'_toNat, BitVec.toNat_ofNat, Nat.shiftRight_eq_div_pow]
  omega

/-- R80: depths within the stacks. -/
theorem badDepth_loopWord : badDepth (x.loopWord 9) = none := by
  unfold badDepth
  rw [loopWord_ld hld, loopWord_cd hld hcd, if_neg (by omega), if_neg (by omega)]

end

/-! ### A stored word (R378, R380) -/

/-- R380: a word with the check bits it calls for reads as it was stored. -/
theorem decode64_encode64 (v : Word) : (decode64 (encode64 v)).data = v ∧ (decode64 (encode64 v)).poison = false := by
  have hdata : (encode64 v).extractLsb' 0 64 = v :=
    (BitVec.extractLsb'_append_eq_of_add_le (by decide)).trans BitVec.extractLsb'_eq_self
  have hcheck : (encode64 v).extractLsb' 64 16 = g64Check v := BitVec.extractLsb'_append_eq_left
  unfold decode64
  rw [hdata, hcheck]
  dsimp only
  rw [BitVec.xor_self]
  exact ⟨rfl, rfl⟩

end Sys2Proof.Machine
end

section
/-!
SUPPORT. Port A's accesses of a block of words in a slice whose background test is idle (R80, R157, R169), and RESTL's completion.
-/
namespace Sys2Proof.Machine

open Sys2Proof

variable {s t : State} {n : Nat}

/-! ### Blocks -/

theorem portAOpen_net (hn : n < 256) (h : s.bgtCode n < 3) (first count : Nat) (w : Bool) :
    NetChange s (s.portAOpen n first count w) := by
  unfold State.portAOpen
  refine foldl_ind (P := NetChange s) (fun a q ha => ?_) _ s (.refl s)
  rw [bgtYieldWords_idle (by rw [ha.bgtCode hn]; exact h)]
  exact ha.trans (.pmonEvent ..)

theorem NetChange.portAError (h : NetChange s t) (hn : n < 256) : t.portAError n = s.portAError n := by
  unfold State.portAError
  rw [h.sliceBlock hn]

theorem NetChange.live (h : NetChange s t) {d : Nat} (hd : d < 0x800) : t.live d = s.live d := by
  have haddr : ¬ netAddr (regAddr .CLK_STATUS) := by
    simp only [netAddr, regAddr, regInst, RegId.desc, Block.place]
    omega
  have hclk : t.cstate = s.cstate := h.fld (f := F.CLK_STATUS_CSTATE) haddr
  unfold State.live
  rw [h.domOn hd, hclk]

/-- Words stored one behind the other. -/
def State.storeWords (s : State) (n first : Nat) (vs : Nat → Word) (k : Nat) : State :=
  (List.range k).foldl (fun acc i => acc.setCell n (first + i) (encode64 (vs i))) s

theorem storeWords_slices (s : State) (n first : Nat) (vs : Nat → Word) (k : Nat) :
    ∃ c, s.storeWords n first vs k = { s with slices := c } := by
  unfold State.storeWords
  refine foldl_ind (P := fun a => ∃ c, a = { s with slices := c }) ?_ _ s ⟨_, rfl⟩
  rintro a i ⟨c, rfl⟩
  exact ⟨_, rfl⟩

theorem storeWords_succ (s : State) (n first : Nat) (vs : Nat → Word) (k : Nat) :
    s.storeWords n first vs (k + 1) = (s.storeWords n first vs k).setCell n (first + k) (encode64 (vs k)) := by
  unfold State.storeWords
  rw [List.range_succ, List.foldl_append]
  rfl

theorem cell_storeWords {first k : Nat} (hk : first + k ≤ 131072) (vs : Nat → Word) :
    (∀ w, w < k → (s.storeWords n first vs k).cell n (first + w) = encode64 (vs w)) ∧
    ∀ m w, w < 131072 → ¬ (m = n ∧ first ≤ w ∧ w < first + k) → (s.storeWords n first vs k).cell m w = s.cell m w := by
  induction k with
  | zero => exact ⟨fun w hw => by omega, fun _ _ _ _ => rfl⟩
  | succ k ih =>
    obtain ⟨hsame, hother⟩ := ih (by omega)
    rw [storeWords_succ]
    refine ⟨fun w hw => ?_, fun m w hw h => ?_⟩
    · by_cases hwk : w = k
      · rw [hwk, cell_setCell_same]
      · rw [cell_setCell_other (by omega) (by omega) (by omega), hsame w (by omega)]
    · rw [cell_setCell_other (by omega) hw (by omega), hother m w hw (by omega)]

/-- From s to t port A has written the words vs 0 to vs (k - 1) from word first of slice n, and nothing else of the slices' words. -/
structure BlockWritten (s t : State) (n first k : Nat) (vs : Nat → Word) : Prop where
  rest : ∃ o, NetChange s o ∧ t = { o with slices := t.slices, slcs := t.slcs }
  words : ∀ w, w < k → t.cell n (first + w) = encode64 (vs w)
  others : ∀ m w, w < 131072 → ¬ (m = n ∧ first ≤ w ∧ w < first + k) → t.cell m w = s.cell m w

namespace BlockWritten

variable {first k : Nat} {vs : Nat → Word} (h : BlockWritten s t n first k vs)
include h

theorem eng (m : Nat) : t.eng m = s.eng m := by
  obtain ⟨o, ho, hrest⟩ := h.rest
  have heng : o.engines = s.engines := by rw [ho.rest]
  have hengines : t.engines = s.engines := by rw [hrest, heng]
  unfold State.eng
  rw [hengines]

theorem live {d : Nat} (hd : d < 0x800) : t.live d = s.live d := by
  obtain ⟨o, ho, hrest⟩ := h.rest
  rw [hrest]
  exact ho.live hd

theorem portAError {m : Nat} (hm : m < 256) : t.portAError m = s.portAError m := by
  obtain ⟨o, ho, hrest⟩ := h.rest
  rw [hrest]
  exact ho.portAError hm

theorem bgtCode {m : Nat} (hm : m < 256) : t.bgtCode m = s.bgtCode m := by
  obtain ⟨o, ho, hrest⟩ := h.rest
  rw [hrest]
  exact ho.bgtCode hm

end BlockWritten

section
variable (hn : n < 256) (hport : s.portAError n = false) (hbgt : s.bgtCode n < 3)
include hn hport hbgt

/-- R80, R157: port A writes a block. -/
theorem portAWriteBlock_written {first k : Nat} (hk : first + k ≤ 131072) (vs : Nat → Word) :
    BlockWritten s (s.portAWriteBlock n first ((List.range k).map vs)) n first k vs := by
  have hopen := portAOpen_net hn hbgt first k true
  have hstore (o : State) : (List.range k).foldl
      (fun acc i => acc.setCell n (first + i) (encode64 (((List.range k).map vs).getD i 0))) o = o.storeWords n first vs k :=
    List.foldl_ext _ _ _ (fun a i hi => by rw [List.getD_eq_getElem _ _ (by simpa using hi), List.getElem_map, List.getElem_range])
  unfold State.portAWriteBlock
  rw [hport, List.length_map, List.length_range]
  dsimp only
  rw [hstore]
  generalize s.portAOpen n first k true = o at hopen
  obtain ⟨hwords, hothers⟩ := cell_storeWords (s := o) (n := n) hk vs
  obtain ⟨c, hc⟩ := storeWords_slices o n first vs k
  refine ⟨⟨o, hopen, ?_⟩, hwords, fun m w hw h => (hothers m w hw h).trans (hopen.cell m w)⟩
  rw [hc]
  rfl

/-- R80, R157: port A reads a block. -/
theorem portAReadBlock_read (first k : Nat) : ∃ o l, NetChange s o ∧ s.portAReadBlock n first k =
    (some ((List.range k).map (fun i => ((decode64 (s.cell n (first + i))).data, (decode64 (s.cell n (first + i))).poison))),
      { o with slcs := l }) := by
  have hopen := portAOpen_net hn hbgt first k false
  unfold State.portAReadBlock
  rw [hport]
  simp only [← hopen.cell]
  exact ⟨_, _, hopen, rfl⟩

end

/-! ### RESTL's completion (R80, R101) -/

/-- R80, R101: RESTL leaves S2 with its words. -/
theorem restlComplete_restores {e : Nat} {r : RestlWait} {ws : List (Word × Bool)} (hr : (s.eng e).restl = some r)
    (hws : r.words = some ws) (hwait : (s.eng e).loadWait = false) (h6 : s.stageFault e e false 6 = none)
    (h3 : s.stageFault e e false 3 = none) (hclean : ws.any (·.2) = false) (hdepth : badDepth (ws.getD 9 (0, false)).1 = none) :
    OnlyEngine s e ({ s.eng e with restl := none, restlDone := true, s1 := none }.withLoops (fun w => (ws.getD w (0, false)).1))
      (s.restlComplete e) := by
  have hset : s.restlComplete e = (s.modEng e (fun x => { x with restl := none, restlDone := true })).modEng e
      (fun x => { x with s1 := none }.withLoops (fun w => (ws.getD w (0, false)).1)) := by
    unfold State.restlComplete State.restoreLoops
    simp only [hr, hwait, h6, h3, hws, hclean, hdepth]
    rfl
  rw [hset]
  refine ⟨rfl, ?_, fun m hm => ?_⟩
  · rw [State.modEng, eng_setEng_same, State.modEng, eng_setEng_same]
  · rw [State.modEng, eng_setEng_other hm, State.modEng, eng_setEng_other hm]

end Sys2Proof.Machine
end

section
/-!
PROOF. O24: SAVEL, RESTL and RESTL's completion (R80, R101).
-/
namespace Sys2Proof.Machine

open Sys2Proof

variable {s t : State} {e : Fin 256} {ix : BAddr} {k : BitVec 3}

/-- R80, R88: a SAVEL or RESTL of a block within the slice. -/
theorem flowFault_block {e : Nat} (hx : s.Analyses e) {op : FlowOp} {a : Word32} (hop : op = .savel k ∨ op = .restl k)
    (ha : (s.eng e).ra k.toNat = a) (hfit : a.toNat + 10 ≤ 131072) (hport : s.portAError e = false) :
    s.flowFault e (s.eng e) (s.streaming e) (!s.streaming e || s.leader e == e) ix (ix + 1) op = none := by
  have hok : (some a).any (fun a => blockOutside a || s.portAError e) = false := by simp [blockOutside, hport, hfit]
  rcases hop with rfl | rfl
  · rw [flowFault_analysis hx (fun h => by cases h), Engine.block, ha, hok]
    rfl
  · rw [flowFault_analysis hx (fun h => by cases h), Engine.block, ha, hok]
    rfl

section
variable (hx : s.Analyses e) (hport : s.portAError e = false) (hbgt : s.bgtCode e < 3)
include hx hport hbgt

/-- R80: SAVEL. -/
theorem answers_savel (hfit : ((s.eng e).ra k.toNat).toNat + 10 ≤ 131072) :
    Answers (.savel e ix k) s (fun t => BlockWritten s t e ((s.eng e).ra k.toNat).toNat 10 (s.eng e).loopWord) := by
  have hwritten := portAWriteBlock_written e.isLt hport hbgt hfit (s.eng e).loopWord
  refine answers_flowDone (op := .savel k) rfl ⟨hx.1, running_of_analyses hx⟩ (flowFault_block hx (.inl rfl) rfl hfit hport) ⟨?_, hwritten⟩
  obtain ⟨o, ho, hrest⟩ := hwritten.rest
  exact (congrArg State.pending hrest).trans (by rw [ho.rest])

/-- R80, R101: RESTL reads its words and waits with them. -/
theorem answers_restl {a : Word32} (ha : (s.eng e).ra k.toNat = a) (hfit : a.toNat + 10 ≤ 131072) {ws : List (Word × Bool)}
    (hws : (List.range 10).map (fun i => ((decode64 (s.cell e (a.toNat + i))).data, (decode64 (s.cell e (a.toNat + i))).poison)) = ws) :
    Answers (.restl e ix k) s (fun r => r.eng e = { s.eng e with restl := some { addr := ix, base := a.toNat, words := some ws } } ∧
      r.live (domCL (e.val / 4)) = true) := by
  obtain ⟨o, l, ho, hread⟩ := portAReadBlock_read e.isLt hport hbgt a.toNat 10
  have heng (m : Nat) : o.eng m = s.eng m := by rw [ho.rest]; rfl
  have hdone : s.flowDone e ix (.restl k) =
      State.modEng { o with slcs := l } e (fun y => { y with restl := some { addr := ix, base := a.toNat, words := some ws } }) := by
    show s.noteRestl e ix _ = _
    unfold State.noteRestl
    rw [ha, hread, hws]
  refine answers_flowDone (op := .restl k) rfl ⟨hx.1, running_of_analyses hx⟩ (flowFault_block hx (.inr rfl) ha hfit hport) ?_
  rw [hdone]
  refine ⟨by rw [ho.rest]; rfl, ?_, ?_⟩
  · rw [State.modEng, eng_setEng_same]
    exact congrArg (fun y : Engine => { y with restl := some { addr := ix, base := a.toNat, words := some ws } }) (heng e)
  · exact (ho.live (by unfold domCL; omega)).trans hx.1

end

/-- R84: an empty stage does not fault. -/
theorem stageFault_of_empty {lead m k : Nat} {stream : Bool} (h : (s.eng m).stage k = none) : s.stageFault lead m stream k = none := by
  unfold State.stageFault
  dsimp only
  rw [h]

/-- R80: RESTL's words, where they are those that SAVEL wrote of x, make y's loop and call state x's. -/
theorem answers_restlComplete {x y : Engine} {a : Nat} (hld : x.ld ≤ 8) (hcd : x.cd ≤ 4) (h3 : y.s3 = none) (h6 : y.s6 = none)
    (hr : s.eng e = { y with restl := some { addr := ix, base := a, words := some ((List.range 10).map (fun w => (x.loopWord w, false))) } })
    (hlive : s.live (domCL (e.val / 4)) = true) :
    Answers (.restlComplete e) s (OnlyEngine s e ({ y with restl := none, restlDone := true, s1 := none }.withLoops x.loopWord)) := by
  have hdone := restlComplete_restores (s := s) (e := e) (ws := (List.range 10).map (fun w => (x.loopWord w, false))) (by rw [hr]) rfl
    (by rw [hr, Engine.loadWait, h3]) (stageFault_of_empty (by rw [hr]; exact h6))
    (stageFault_of_empty (by rw [hr]; exact h3)) rfl (badDepth_loopWord hld hcd)
  rw [hr, withLoops_congr (vs := x.loopWord) _ fun w hw => ?_] at hdone
  · exact answers_onlyEngine rfl hlive hdone
  · rw [List.getD_eq_getElem _ _ (by simpa using hw), List.getElem_map, List.getElem_range]

/-- Settles O24: SAVEL's block holds the words of the loop state, which RESTL reads back (decode64_encode64) and withLoops takes. -/
theorem savedLoopStateIsRestored : Obligations.SavedLoopStateIsRestored := by
  intro s e ix k hx hport x a hfit hld hcd hbgt
  refine (answers_savel hx hport hbgt hfit).imp fun t ht => ?_
  refine ⟨ht.words, ht.others, ht.eng e, fun m _ => ht.eng m, fun y hmode hya h3 h6 => ?_⟩
  have hset : (t.setEng e y).eng e = y := eng_setEng_same ..
  have hport' : (t.setEng e y).portAError e = false := (ht.portAError e.isLt).trans hport
  have hbgt' : (t.setEng e y).bgtCode e < 3 := lt_of_eq_of_lt (ht.bgtCode e.isLt) hbgt
  have hanalyses : (t.setEng e y).Analyses e :=
    ⟨(ht.live (by unfold domCL; omega)).trans hx.1, by rw [hset]; exact hmode⟩
  have hread : (List.range 10).map (fun i => ((decode64 ((t.setEng e y).cell e (a + i))).data,
      (decode64 ((t.setEng e y).cell e (a + i))).poison)) = (List.range 10).map (fun w => (x.loopWord w, false)) := by
    refine List.map_congr_left fun i hi => ?_
    have hcell : (t.setEng e y).cell e (a + i) = encode64 (x.loopWord i) := ht.words i (List.mem_range.1 hi)
    obtain ⟨hdata, hpoison⟩ := decode64_encode64 (x.loopWord i)
    rw [hcell, hdata, hpoison]
  have hra : ((t.setEng e y).eng e).ra k.toNat = x.ra k.toNat := by
    rw [hset, Engine.ra, hya]
    rfl
  generalize t.setEng e y = u at *
  refine (answers_restl hanalyses hport' hbgt' hra hfit hread).imp ?_
  rintro r ⟨hr, hlive⟩
  rw [hset] at hr
  have hregs : (r.eng e).l = y.l ∧ (r.eng e).ld = y.ld ∧ (r.eng e).cd = y.cd := by rw [hr]; exact ⟨rfl, rfl, rfl⟩
  refine ⟨by rw [hr], hregs.1, hregs.2.1, hregs.2.2, (answers_restlComplete hld hcd h3 h6 hr hlive).imp fun v hv => ?_⟩
  obtain ⟨-, hv, -⟩ := hv
  rw [hv]
  refine ⟨by rw [withLoops_eq], fun w hw => ⟨?_, ?_, ?_⟩, fun w hw => ?_, ?_, ?_, by rw [withLoops_eq], by rw [withLoops_eq]⟩
  · rw [withLoops_rl _ _ hw, loopWord_rl x hw]
  · rw [withLoops_rstart _ _ hw, loopWord_rstart x hw]
  · rw [withLoops_rend _ _ hw, loopWord_rend x hw]
  · rw [withLoops_rcs _ _ hw, loopWord_rcs x hw]
  · rw [withLoops_eq]
    exact loopWord_ld hld
  · rw [withLoops_eq]
    exact loopWord_cd hld hcd

end Sys2Proof.Machine
end

section
/-!
SUPPORT. A step of the pipeline of an engine alone in which nothing faults (R38, R39, R51).
-/
namespace Sys2Proof.Machine

open Sys2Proof

variable {s t : State} {e : Nat}

/-! ### What the stages write of an engine -/

/-- y is x but for the registers that slots write. -/
def DataOnly (x y : Engine) : Prop :=
  y = { x with a := y.a, o := y.o, m := y.m, ao := y.ao, d := y.d, dp := y.dp, dout := y.dout, doutP := y.doutP, g := y.g, pw := y.pw,
               acc := y.acc, flags := y.flags }

theorem DataOnly.trans {x y z : Engine} (h : DataOnly x y) (g : DataOnly y z) : DataOnly x z := by
  unfold DataOnly at *
  rw [g, h]

theorem applyMac_dataOnly (x : Engine) (f : MacEff) : DataOnly x (x.applyMac f) := by
  have haccs : DataOnly x (f.accs.foldl (fun acc w => acc.setAcc w.1 w.2) x) := by
    rw [foldl_setAcc_rest]
    rfl
  unfold Engine.applyMac
  dsimp only
  split
  · exact haccs.trans rfl
  · exact haccs

theorem applyDgen_dataOnly (x : Engine) (f : DgenEff) : DataOnly x (x.applyDgen f) := by
  unfold Engine.applyDgen
  dsimp only
  cases f.wr <;> cases f.wo <;> cases f.gen <;> cases f.pw <;> rfl

theorem applyAgen_dataOnly (x : Engine) (f : AgenEff) : DataOnly x (x.applyAgen f) := by
  unfold Engine.applyAgen
  dsimp only
  cases f.a <;> cases f.o <;> cases f.m <;> rfl

/-- What the bundles of x's S6 and S4, and of S3 by its latched effect, write to y. -/
def Engine.wroteS6 (y x : Engine) : Engine :=
  match x.s6 with | some b => { y.applyMac b.mac with flags := setFlags (y.applyMac b.mac).flags b.cmps } | none => y
def Engine.wroteS4 (y x : Engine) : Engine := match x.s4 with | some b => y.applyDgen b.dgen | none => y
def Engine.wroteS3 (y : Engine) (r3 : Option (Stage × AgenEff)) : Engine := match r3 with | some r => y.applyAgen r.2 | none => y

theorem wroteS6_dataOnly (y x : Engine) : DataOnly y (y.wroteS6 x) := by
  unfold Engine.wroteS6
  split
  · rename_i b _
    exact (applyMac_dataOnly y b.mac).trans rfl
  · rfl

theorem wroteS4_dataOnly (y x : Engine) : DataOnly y (y.wroteS4 x) := by
  unfold Engine.wroteS4
  split
  · exact applyDgen_dataOnly ..
  · rfl

theorem wroteS3_dataOnly (y : Engine) (r3 : Option (Stage × AgenEff)) : DataOnly y (y.wroteS3 r3) := by
  unfold Engine.wroteS3
  split
  · exact applyAgen_dataOnly ..
  · rfl

/-- The registers behind a step of x, whose loads are then ls. -/
def Engine.wrote (x : Engine) (ls : List LoadReq) (r3 : Option (Stage × AgenEff)) : Engine :=
  ((({ x with loads := ls } : Engine).wroteS6 x).wroteS4 x).wroteS3 r3

theorem wrote_dataOnly (x : Engine) (ls : List LoadReq) (r3 : Option (Stage × AgenEff)) :
    DataOnly { x with loads := ls } (x.wrote ls r3) :=
  ((wroteS6_dataOnly _ x).trans (wroteS4_dataOnly _ x)).trans (wroteS3_dataOnly _ r3)

/-- R51: the loop-end check of x's S1. -/
def Engine.loopEndS1 (x : Engine) : BAddr × Engine := match x.s1 with | some b => x.loopEnd b.addr | none => (x.pc, x)

/-- R38: x behind a step of its pipeline that moves every bundle on, with its prefetch at pq and n. -/
def Engine.stepped (x : Engine) (ls : List LoadReq) (r3 : Option (Stage × AgenEff)) (pq : List PqEntry) (n : Option BAddr) : Engine :=
  { x.wrote ls r3 with
    l := x.loopEndS1.2.l, ld := x.loopEndS1.2.ld, pc := x.loopEndS1.1, pq := pq, pqNext := n
    s6 := x.s5
    s5 := x.s4.map (fun b => { b with dout := (x.wrote ls r3).dout, doutP := (x.wrote ls r3).doutP })
    s4 := r3.map (·.1), s3 := x.s2, s2 := x.s1, s1 := none, restlDone := false, syncDone := false }

/-! ### What a step changes beside its engine -/

/-- From s to t, of the engines, e alone changes, and the channels and the queue stay. -/
structure EngineSide (e : Nat) (s t : State) : Prop where
  others : ∀ m, m ≠ e → t.eng m = s.eng m
  chans : t.chans = s.chans
  pending : t.pending = s.pending

namespace EngineSide

theorem refl (s : State) : EngineSide e s s := ⟨fun _ _ => rfl, rfl, rfl⟩

theorem trans {a b c : State} (h : EngineSide e a b) (g : EngineSide e b c) : EngineSide e a c :=
  ⟨fun m hm => (g.others m hm).trans (h.others m hm), g.chans.trans h.chans, g.pending.trans h.pending⟩

theorem setEng (s : State) (x : Engine) : EngineSide e s (s.setEng e x) := ⟨fun _ hm => eng_setEng_other hm x, rfl, rfl⟩

theorem modEng (s : State) (f : Engine → Engine) : EngineSide e s (s.modEng e f) := setEng s _

theorem of_slice (h : SliceChange s t) : EngineSide e s t := by
  refine ⟨fun m _ => h.eng m, ?_, h.pending⟩
  obtain ⟨c, r, q, l, er, rfl⟩ := h
  rfl

theorem raise {f : Fld} (hf : isShadowed f.reg = false) (s : State) (i : Nat) : EngineSide e s (s.raise f i) := by
  rw [State.raise, setFld_regs hf]
  exact ⟨fun _ _ => rfl, rfl, rfl⟩

theorem countEngines (s : State) (xs : List Nat) (evt : Nat) : EngineSide e s (s.countEngines xs evt) := by
  obtain ⟨r, q, h⟩ := countEngines_changes s xs evt
  rw [h]
  exact ⟨fun _ _ => rfl, rfl, rfl⟩

end EngineSide

/-! ### The stages (R38) -/

theorem issueLoad_side (s : State) (l : Option (BitVec 4 × Word32)) (age : Nat) :
    EngineSide e s (s.issueLoad e l age) ∧ ∃ ls, (s.issueLoad e l age).eng e = { s.eng e with loads := ls } ∧
      (l = none → ls = (s.eng e).loads) := by
  cases l with
  | none => exact ⟨.refl s, _, rfl, fun _ => rfl⟩
  | some l =>
    obtain ⟨n, a⟩ := l
    have hread := SliceChange.portARead s e a.toNat 1
    unfold State.issueLoad
    dsimp only
    split
    · rename_i heq
      rw [heq] at hread
      refine ⟨(EngineSide.of_slice hread).trans (.modEng ..), ?_⟩
      rw [State.modEng, eng_setEng_same, hread.eng]
      exact ⟨_, rfl, fun h => by cases h⟩
    · rename_i heq
      rw [heq] at hread
      exact ⟨.of_slice hread, (s.eng e).loads, by rw [hread.eng], fun h => by cases h⟩

theorem loadS3_side (s : State) (r3 : Option (Stage × AgenEff)) :
    EngineSide e s (s.loadS3 e r3 0) ∧ ∃ ls, (s.loadS3 e r3 0).eng e = { s.eng e with loads := ls } ∧
      ((∀ r, r3 = some r → r.2.load = none) → ls = (s.eng e).loads) := by
  cases r3 with
  | none => exact ⟨.refl s, _, rfl, fun _ => rfl⟩
  | some r =>
    obtain ⟨hside, ls, heng, hls⟩ := issueLoad_side (e := e) s r.2.load 0
    exact ⟨hside, ls, heng, fun h => hls (h r rfl)⟩

theorem workS6_side (s : State) (b : Stage) : EngineSide e s (s.workS6 e b) ∧
    (s.workS6 e b).eng e = { (s.eng e).applyMac b.mac with flags := setFlags ((s.eng e).applyMac b.mac).flags b.cmps } := by
  have hraise (a : State) : EngineSide e a (a.raise F.CE_STATUS_MACSAT e) := .raise (by decide) a e
  unfold State.workS6
  dsimp only
  generalize hu : (s.modEng e fun y => { y.applyMac b.mac with flags := setFlags (y.applyMac b.mac).flags b.cmps }) = u
  have hmod : EngineSide e s u := by rw [← hu]; exact .modEng ..
  have heng : u.eng e = { (s.eng e).applyMac b.mac with flags := setFlags ((s.eng e).applyMac b.mac).flags b.cmps } := by
    rw [← hu, State.modEng, eng_setEng_same]
  rw [← heng]
  cases b.mac.sat <;> cases b.store
  · exact ⟨hmod, rfl⟩
  · rename_i st
    have hwrite := SliceChange.portAWrite u e st.1.toNat st.2.1 st.2.2
    exact ⟨hmod.trans (.of_slice hwrite), hwrite.eng e⟩
  · exact ⟨hmod.trans (hraise _), rfl⟩
  · rename_i st
    have hwrite := SliceChange.portAWrite (u.raise F.CE_STATUS_MACSAT e) e st.1.toNat st.2.1 st.2.2
    exact ⟨(hmod.trans (hraise _)).trans (.of_slice hwrite), hwrite.eng e⟩

theorem doS6_side (s : State) (x : Engine) : EngineSide e s (s.doS6 e x 0) ∧ (s.doS6 e x 0).eng e = (s.eng e).wroteS6 x := by
  unfold State.doS6 Engine.wroteS6
  cases x.s6 with
  | none => exact ⟨.refl s, rfl⟩
  | some b => exact workS6_side s b

theorem doS4_side (s : State) (x : Engine) : EngineSide e s (s.doS4 e x 0) ∧ (s.doS4 e x 0).eng e = (s.eng e).wroteS4 x := by
  unfold State.doS4 Engine.wroteS4
  cases x.s4 with
  | none => exact ⟨.refl s, rfl⟩
  | some b => exact ⟨.modEng s (fun y => y.applyDgen b.dgen), eng_setEng_same ..⟩

theorem doS3_side (s : State) (r3 : Option (Stage × AgenEff)) : EngineSide e s (s.doS3 e r3 0) ∧ (s.doS3 e r3 0).eng e = (s.eng e).wroteS3 r3 := by
  unfold State.doS3 Engine.wroteS3
  cases r3 with
  | none => exact ⟨.refl s, rfl⟩
  | some b => exact ⟨.modEng s (fun y => y.applyAgen b.2), eng_setEng_same ..⟩

theorem stepWork_side (s : State) (x : Engine) : EngineSide e s (s.stepWork e x 0) ∧ ∃ ls,
    (s.stepWork e x 0).eng e = ((({ s.eng e with loads := ls } : Engine).wroteS6 x).wroteS4 x).wroteS3 (s.latched e x) ∧
      ((∀ r, s.latched e x = some r → r.2.load = none) → ls = (s.eng e).loads) := by
  rw [stepWork_eq]
  generalize s.latched e x = r3
  obtain ⟨hload, ls, hls, hnone⟩ := loadS3_side (e := e) s r3
  obtain ⟨h6, he6⟩ := doS6_side (e := e) (s.loadS3 e r3 0) x
  obtain ⟨h4, he4⟩ := doS4_side (e := e) ((s.loadS3 e r3 0).doS6 e x 0) x
  obtain ⟨h3, he3⟩ := doS3_side (e := e) (((s.loadS3 e r3 0).doS6 e x 0).doS4 e x 0) r3
  exact ⟨((hload.trans h6).trans h4).trans h3, ls, by rw [he3, he4, he6, hls], hnone⟩

/-- y with the counters and the next fetch address of x's loop-end check. -/
def Engine.atLoopEnd (y x : Engine) : Engine := { y with l := x.loopEndS1.2.l, ld := x.loopEndS1.2.ld, pc := x.loopEndS1.1 }

/-- The address that follows without a loop end. -/
def Engine.straightOn (x : Engine) : BAddr := match x.s1 with | some b => b.addr + 1 | none => x.loopEndS1.1

theorem stepLoopEnd_eq (s : State) (x : Engine) : s.stepLoopEnd e x =
    if x.loopEndS1.1 ≠ x.straightOn then (s.modEng e (fun y => y.atLoopEnd x)).modEng e (fun y => y.restartPrefetch x.loopEndS1.1)
    else s.modEng e (fun y => y.atLoopEnd x) := rfl

theorem stepLoopEnd_side (s : State) (x : Engine) : EngineSide e s (s.stepLoopEnd e x) ∧ ∃ pq n,
    (s.stepLoopEnd e x).eng e = { (s.eng e).atLoopEnd x with pq := pq, pqNext := n } := by
  rw [stepLoopEnd_eq]
  have hcheck : (s.modEng e (fun y => y.atLoopEnd x)).eng e = (s.eng e).atLoopEnd x := eng_setEng_same ..
  split
  · refine ⟨(EngineSide.modEng ..).trans (.modEng ..), [], some (((s.eng e).atLoopEnd x).restartPoint 513 x.loopEndS1.1), ?_⟩
    rw [State.modEng, eng_setEng_same, hcheck]
    rfl
  · exact ⟨.modEng .., (s.eng e).pq, (s.eng e).pqNext, hcheck⟩

/-- R74: NOP, and a SYNC that has released, do nothing at S2. -/
theorem stepFlow_side (s : State) (x : Engine) {b : Stage} (hb : b.flow = .nop ∨ b.flow = .sync) (go : Bool) :
    EngineSide e s (s.stepFlow e x false true go b) ∧ (s.stepFlow e x false true go b).eng e = s.eng e := by
  have hset : s.stepFlow e x false true go b = s.setEng e (s.eng e) := by
    rw [stepFlow_eq]
    unfold State.flowFirst
    rcases hb with h | h
    · rw [h]; rfl
    · rw [h]; rfl
  rw [hset]
  exact ⟨.setEng .., eng_setEng_same ..⟩

theorem doS2_side (s : State) {x : Engine} (hx : ∀ b, x.s2 = some b → b.flow = .nop ∨ b.flow = .sync) :
    EngineSide e s (s.doS2 e x false true 0) ∧ (s.doS2 e x false true 0).eng e = s.eng e := by
  unfold State.doS2
  cases h : x.s2 with
  | none => exact ⟨.refl s, rfl⟩
  | some b => exact stepFlow_side s x (hx b h) _

theorem stepMove_side (s : State) (x : Engine) (r3 : Option (Stage × AgenEff)) : EngineSide e s (s.stepMove e x r3 0 true) ∧
    (s.stepMove e x r3 0 true).eng e =
      { s.eng e with s6 := x.s5, s5 := x.s4.map (fun b => { b with dout := (s.eng e).dout, doutP := (s.eng e).doutP })
                     s4 := r3.map (·.1), s3 := x.s2, s2 := x.s1, s1 := none, restlDone := false, syncDone := false } :=
  ⟨.setEng .., eng_setEng_same ..⟩

/-- Every load is a step older. -/
def State.ageLoads (s : State) (e : Nat) : State :=
  s.modEng e (fun y => { y with loads := y.loads.map (fun l => { l with age := l.age + 1 }) })

theorem stepEngine_eq (s : State) (x : Engine) : s.stepEngine e x false true 0 true =
    ((((s.ageLoads e).stepWork e x 0).stepLoopEnd e x).doS2 e x false true 0).stepMove e x ((s.ageLoads e).latched e x) 0 true := rfl

/-- R38, R39: the stages of an engine alone that moves every bundle on. -/
theorem stepEngine_side (s : State) {x : Engine} (hx : s.eng e = x) (hs2 : ∀ b, x.s2 = some b → b.flow = .nop ∨ b.flow = .sync) :
    EngineSide e s (s.stepEngine e x false true 0 true) ∧ ∃ ls pq n,
      (s.stepEngine e x false true 0 true).eng e = x.stepped ls (s.latched e x) pq n ∧
      ((∀ r, s.latched e x = some r → r.2.load = none) → x.loads = [] → ls = []) := by
  rw [stepEngine_eq]
  have hage : EngineSide e s (s.ageLoads e) := .modEng ..
  have heage : (s.ageLoads e).eng e = { x with loads := x.loads.map (fun l => { l with age := l.age + 1 }) } := by
    rw [State.ageLoads, State.modEng, eng_setEng_same, hx]
  have hlatched : (s.ageLoads e).latched e x = s.latched e x := rfl
  rw [hlatched]
  generalize s.ageLoads e = u at hage heage hlatched
  obtain ⟨hwork, ls, hework, hls⟩ := stepWork_side u x (e := e)
  rw [hlatched] at hework hls
  generalize u.stepWork e x 0 = v at hwork hework
  obtain ⟨hloop, pq, n, heloop⟩ := stepLoopEnd_side v x (e := e)
  generalize v.stepLoopEnd e x = w at hloop heloop
  obtain ⟨h2, he2⟩ := doS2_side w hs2 (e := e)
  obtain ⟨hmove, hemove⟩ := stepMove_side (w.doS2 e x false true 0) x (s.latched e x) (e := e)
  refine ⟨(((hage.trans hwork).trans hloop).trans h2).trans hmove, ls, pq, n, ?_, fun hload hempty => ?_⟩
  · rw [hemove, he2, heloop, hework, heage]
    rfl
  · rw [hls hload, heage, hempty]
    rfl

end Sys2Proof.Machine
end

section
/-!
SUPPORT. A step of an engine alone as the pipeline's events take it (R38, R39, R80): its S1 is at hand, nothing holds it and nothing
faults.
-/
namespace Sys2Proof.Machine

open Sys2Proof

variable {s t : State} {e : Nat}

/-- Whether a step faults depends on the engines as they read. -/
theorem stepFault_of_engines {es : Tab Engine} (h : ∀ m, State.eng { s with engines := es } m = s.eng m) (lead : Nat) (ms : List Nat)
    (stream : Bool) : State.stepFault { s with engines := es } lead ms stream = s.stepFault lead ms stream := by
  have hstage (m k : Nat) : State.stageFault { s with engines := es } lead m stream k = s.stageFault lead m stream k := by
    unfold State.stageFault
    rw [h]
    rfl
  unfold State.stepFault
  simp only [hstage]

/-- The stages of a step of an engine alone in which nothing faults. -/
theorem stepStages_alone {x0 : Engine} (hfault : s.stepFault e [e] false = none) (hreti : ∀ b, x0.s2 = some b → b.flow ≠ .reti) :
    s.stepStages [e] .alone x0 .ready = (s.countEngines [e] 0x41).stepEngine e (s.eng e) false true 0 true := by
  have hflt : s.stepFlt [e] false .ready = none := by
    unfold State.stepFlt
    rw [List.headD_cons, hfault]
  have hstream : StepKind.alone.stream = false := rfl
  have hself : (e == [e].headD 0) = true := beq_self_eq_true e
  unfold State.stepStages
  simp only [hstream, hflt, List.map_cons, List.map_nil, List.foldl_cons, List.foldl_nil, hself]
  cases h : x0.s2 with
  | none => rfl
  | some b =>
    have hb : (b.flow == .reti) = false := beq_eq_false_iff_ne.2 (hreti b h)
    simp only [hb]
    rfl

/-- R38, R39: the step of an engine alone. -/
theorem stepParts_alone (hready : (s.eng e).s1.isSome = true ∨ (s.eng e).fetching = false)
    (hs2 : ∀ b, (s.eng e).s2 = some b → b.flow = .nop ∨ (b.flow = .sync ∧ (s.eng e).syncDone = true))
    (hwait : (s.eng e).loadWait = false) (hfault : s.stepFault e [e] false = none) :
    s.stepParts [e] .alone = ((s.shareS1 [e] e).countEngines [e] 0x41).stepEngine e ((s.shareS1 [e] e).eng e) false true 0 true := by
  have heng := eng_shareS1_lead (ms := [e]) (e := e) s
  have hshare := fun m => (eng_shareS1 (ms := [e]) (e := e) s m).trans (if_neg (by simp))
  obtain ⟨es, hes⟩ := shareS1_changes (ms := [e]) (e := e) s
  have hnone : (s.shareS1 [e] e).stepFault e [e] false = none := by
    rw [hes] at hshare ⊢
    rw [stepFault_of_engines hshare, hfault]
  have hrestl : (s.shareS1 [e] e).restlHolds e false (s.eng e) = false := by
    unfold State.restlHolds
    split
    · rename_i b hb
      rcases hs2 b hb with h | ⟨h, -⟩
      · rw [h]
      · rw [h]
    · rfl
  have hsync : (s.shareS1 [e] e).syncHolds e false (s.eng e) = false := by
    unfold State.syncHolds
    split
    · rename_i b hb
      rcases hs2 b hb with h | ⟨-, h⟩
      · rw [h]
        rfl
      · simp [h]
    · rfl
  have hreti (b : Stage) (hb : (s.eng e).s2 = some b) : b.flow ≠ .reti := by
    rcases hs2 b hb with h | ⟨h, -⟩
    · rw [h]; decide
    · rw [h]; decide
  have hstages := stepStages_alone (x0 := s.eng e) hnone hreti
  rw [← hstages]
  unfold State.stepParts
  rw [stepFetch_ready rfl hready]
  have hstream : StepKind.alone.stream = false := rfl
  have hhead : [e].headD 0 = e := rfl
  simp only [hstream, hhead, hrestl, hsync, hwait]
  rfl

/-- What S3 latches depends on the engine and the scrambler's tables. -/
theorem latched_of_work (h : t.work = s.work) (x : Engine) : t.latched e x = s.latched e x := by
  have hsame : SameStages x x := rfl
  unfold State.latched State.latchS3
  simp only [agenEff_same h hsame]

theorem shareS1_side (s : State) : EngineSide e s (s.shareS1 [e] e) := by
  obtain ⟨es, h⟩ := shareS1_changes (ms := [e]) (e := e) s
  exact ⟨fun m _ => (eng_shareS1 (ms := [e]) (e := e) s m).trans (if_neg (by simp)), by rw [h], by rw [h]⟩

/-- R38, R39: what the step of an engine alone leaves. -/
theorem stepParts_alone_side (hready : (s.eng e).s1.isSome = true ∨ (s.eng e).fetching = false)
    (hs2 : ∀ b, (s.eng e).s2 = some b → b.flow = .nop ∨ (b.flow = .sync ∧ (s.eng e).syncDone = true))
    (hwait : (s.eng e).loadWait = false) (hfault : s.stepFault e [e] false = none) :
    EngineSide e s (s.stepParts [e] .alone) ∧ ∃ ls pq n,
      (s.stepParts [e] .alone).eng e = (s.eng e).stepped ls (s.latched e (s.eng e)) pq n ∧
      ((∀ r, s.latched e (s.eng e) = some r → r.2.load = none) → (s.eng e).loads = [] → ls = []) := by
  rw [stepParts_alone hready hs2 hwait hfault, eng_shareS1_lead]
  have hshare := shareS1_side (e := e) s
  have hcount := EngineSide.countEngines (e := e) (s.shareS1 [e] e) [e] 0x41
  obtain ⟨es, hes⟩ := shareS1_changes (ms := [e]) (e := e) s
  obtain ⟨r, q, hrq⟩ := countEngines_changes (s.shareS1 [e] e) [e] 0x41
  have heng : ((s.shareS1 [e] e).countEngines [e] 0x41).eng e = s.eng e := by
    rw [hrq]
    exact eng_shareS1_lead s
  have hlatched : ((s.shareS1 [e] e).countEngines [e] 0x41).latched e (s.eng e) = s.latched e (s.eng e) :=
    latched_of_work (by rw [hrq, hes]) _
  obtain ⟨hside, hstep⟩ := stepEngine_side _ heng (fun b hb => (hs2 b hb).imp_right And.left)
  rw [hlatched] at hstep
  exact ⟨(hshare.trans hcount).trans hside, hstep⟩

/-! ### Registers behind a step -/

theorem applyMac_acc {x y : Engine} (h : y.acc = x.acc) (f : MacEff) : (y.applyMac f).acc = (x.applyMac f).acc := by
  have haccs (l : List (Nat × Word48)) (x y : Engine) (h : y.acc = x.acc) :
      (l.foldl (fun acc w => acc.setAcc w.1 w.2) y).acc = (l.foldl (fun acc w => acc.setAcc w.1 w.2) x).acc := by
    induction l generalizing x y with
    | nil => exact h
    | cons w l ih => exact ih _ _ (by simp only [Engine.setAcc, h])
  unfold Engine.applyMac
  cases f.wr with
  | none => exact haccs _ _ _ h
  | some w => exact haccs _ _ _ h

theorem applyMac_a (x : Engine) (f : MacEff) : (x.applyMac f).a = x.a := by
  unfold Engine.applyMac
  rw [foldl_setAcc_rest]
  cases f.wr <;> rfl

theorem applyDgen_a_acc (x : Engine) (f : DgenEff) : (x.applyDgen f).a = x.a ∧ (x.applyDgen f).acc = x.acc := by
  unfold Engine.applyDgen
  cases f.wr <;> cases f.wo <;> cases f.gen <;> cases f.pw <;> exact ⟨rfl, rfl⟩

theorem applyAgen_acc (x : Engine) (f : AgenEff) : (x.applyAgen f).acc = x.acc := by
  unfold Engine.applyAgen
  cases f.a <;> cases f.o <;> cases f.m <;> rfl

theorem applyAgen_a {x y : Engine} (h : y.a = x.a) (f : AgenEff) : (y.applyAgen f).a = (x.applyAgen f).a := by
  have ha (x : Engine) : (x.applyAgen f).a = f.a.elim x.a (fun w => x.a.set w.1.toNat w.2 0) := by
    unfold Engine.applyAgen
    cases f.a <;> cases f.o <;> cases f.m <;> rfl
  rw [ha, ha, h]

theorem wroteS6_a (y x : Engine) : (y.wroteS6 x).a = y.a := by
  unfold Engine.wroteS6
  cases x.s6 with
  | none => rfl
  | some b => exact applyMac_a y b.mac

theorem wroteS6_acc {y z : Engine} (h : y.acc = z.acc) (x : Engine) :
    (y.wroteS6 x).acc = match x.s6 with | some b => (z.applyMac b.mac).acc | none => z.acc := by
  unfold Engine.wroteS6
  cases x.s6 with
  | none => exact h
  | some b => exact applyMac_acc h b.mac

theorem wroteS4_a_acc (y x : Engine) : (y.wroteS4 x).a = y.a ∧ (y.wroteS4 x).acc = y.acc := by
  unfold Engine.wroteS4
  cases x.s4 with
  | none => exact ⟨rfl, rfl⟩
  | some b => exact applyDgen_a_acc y b.dgen

theorem wroteS3_acc (y : Engine) (r3 : Option (Stage × AgenEff)) : (y.wroteS3 r3).acc = y.acc := by
  cases r3 with
  | none => rfl
  | some r => exact applyAgen_acc ..

theorem wroteS3_a {y z : Engine} (h : y.a = z.a) (r3 : Option (Stage × AgenEff)) :
    (y.wroteS3 r3).a = match r3 with | some r => (z.applyAgen r.2).a | none => z.a := by
  cases r3 with
  | none => exact h
  | some r => exact applyAgen_a h r.2

/-- R97: MAC writes at S6. -/
theorem wrote_acc (x : Engine) (ls : List LoadReq) (r3 : Option (Stage × AgenEff)) :
    (x.wrote ls r3).acc = match x.s6 with | some b => (x.applyMac b.mac).acc | none => x.acc := by
  rw [Engine.wrote, wroteS3_acc, (wroteS4_a_acc _ x).2]
  exact wroteS6_acc (y := { x with loads := ls }) (z := x) rfl x

/-- R38: AGEN writes at S3. -/
theorem wrote_a (x : Engine) (ls : List LoadReq) (r3 : Option (Stage × AgenEff)) :
    (x.wrote ls r3).a = match r3 with | some r => (x.applyAgen r.2).a | none => x.a :=
  wroteS3_a (z := x) ((wroteS4_a_acc _ x).1.trans (wroteS6_a { x with loads := ls } x)) r3

end Sys2Proof.Machine
end

section
/-!
PROOF. O17: the steps of a program of an engine (R38, R39, R44, R46, R54, R67, R72, R80, R101, R125, R126).
-/
namespace Sys2Proof.Machine

open Sys2Proof

variable {s t : State} {e : Fin 256}

/-! ### The pipeline (R38, R39) -/

/-- R39: a step of the pipeline of an engine alone in analysis. -/
theorem pipelineStep_alone {e : Nat} (halone : (s.eng e).alone = true) (hmode : (s.eng e).mode = .analysis)
    (hend : (s.eng e).ending ≠ .reti) (hready : (s.eng e).s1.isSome = true ∨ (s.eng e).fetching = false)
    (hs2 : ∀ b, (s.eng e).s2 = some b → b.flow = .nop) (hwait : (s.eng e).loadWait = false)
    (hfault : s.stepFault e [e] false = none) :
    EngineSide e s (s.pipelineStep e) ∧ ∃ ls pq n,
      (s.pipelineStep e).eng e = (s.eng e).stepped ls (s.latched e (s.eng e)) pq n := by
  obtain ⟨hside, ls, pq, n, heng, -⟩ := stepParts_alone_side hready (fun b hb => .inl (hs2 b hb)) hwait hfault
  have hstep : s.pipelineStep e = s.stepParts [e] .alone := by
    unfold State.pipelineStep
    simp only [halone, hmode]
    refine settleReti_of_ending ?_
    rw [heng]
    have hdata := wrote_dataOnly (s.eng e) ls (s.latched e (s.eng e))
    unfold Engine.stepped
    rw [hdata]
    exact hend
  rw [hstep]
  exact ⟨hside, ls, pq, n, heng⟩

/-- R70: a gang's steps are its leader's. -/
theorem pipelineStep_follower {e : Nat} (halone : (s.eng e).alone = false) (hlead : s.leader e ≠ e) : s.pipelineStep e = s := by
  unfold State.pipelineStep
  simp [halone, hlead]

/-! ### The prefetch (R43, R44, R46) -/

/-- R44, R46: a prefetch read of n bundles from a has come back. -/
structure Prefetched (s t : State) (e : Nat) (a : BAddr) (n : Nat) : Prop where
  next : (t.eng e).pqNext = some (a + BitVec.ofNat 16 n)
  queue : ∃ q, (t.eng e).pq = (s.eng e).pq ++ q ∧ q.map (·.addr) = (List.range n).map (fun k => a + BitVec.ofNat 16 k) ∧
    q.map (·.ok) = (List.range n).map (fun _ => !(s.portAError e))
  others : ∀ m, m ≠ e → t.eng m = s.eng m

/-- R44: entry k of a prefetch read from a. -/
def prefetchEntry (a : BAddr) (r : Option (List (Word × Bool))) (k : Nat) : PqEntry :=
  match r with
  | none => { addr := a + BitVec.ofNat 16 k, ok := false }
  | some ws =>
    { addr := a + BitVec.ofNat 16 k, bits := (ws.getD (2 * k + 1) (0, false)).1 ++ (ws.getD (2 * k) (0, false)).1
      poison := bitv (ws.getD (2 * k + 1) (0, false)).2 ++ bitv (ws.getD (2 * k) (0, false)).2 }

theorem prefetchEntry_addr (a : BAddr) (r : Option (List (Word × Bool))) (k : Nat) :
    (prefetchEntry a r k).addr = a + BitVec.ofNat 16 k := by cases r <;> rfl

theorem prefetchEntry_ok (a : BAddr) (r : Option (List (Word × Bool))) (k : Nat) : (prefetchEntry a r k).ok = !r.isNone := by
  cases r <;> rfl

section
variable {e : Nat} {a : BAddr} {n : Nat} (hn : (if a.toNat % 2 = 0 then 2 else 1) = n) (hnext : (s.eng e).pqNext = some a)
  (hfetch : (s.eng e).fetching = true) (hmode : (s.eng e).mode ≠ .paused) (hroom : (s.eng e).pq.length + 2 ≤ 16)
include hn hnext hfetch hmode hroom

theorem prefetchReturn_eq : s.prefetchReturn e = (s.portARead e (2 * a.toNat) (2 * n)).2.modEng e (fun y =>
    { y with pq := y.pq ++ (List.range n).map (prefetchEntry a (s.portARead e (2 * a.toNat) (2 * n)).1)
             pqNext := some (a + BitVec.ofNat 16 n) }) := by
  have hn2 : n ≤ 2 := by rw [← hn]; split <;> omega
  have hgo : ¬ ((!(s.eng e).fetching) = true ∨ (s.eng e).mode = .paused ∨ (s.eng e).pq.length + n > 16) := by
    simp [hfetch, hmode]
    omega
  unfold State.prefetchReturn
  dsimp only
  rw [hnext]
  dsimp only
  rw [hn, if_neg hgo]
  rfl

theorem prefetchReturn_prefetched : (s.prefetchReturn e).pending = s.pending ∧ Prefetched s (s.prefetchReturn e) e a n := by
  rw [prefetchReturn_eq hn hnext hfetch hmode hroom]
  have hread := SliceChange.portARead s e (2 * a.toNat) (2 * n)
  have herr : (s.portARead e (2 * a.toNat) (2 * n)).1.isNone = s.portAError e := by
    unfold State.portARead
    cases s.portAError e <;> rfl
  generalize s.portARead e (2 * a.toNat) (2 * n) = r at hread herr
  refine ⟨hread.pending, ?_, ⟨(List.range n).map (prefetchEntry a r.1), ?_, ?_, ?_⟩, fun m hm => ?_⟩
  · rw [State.modEng, eng_setEng_same]
  · rw [State.modEng, eng_setEng_same, hread.eng]
  · rw [List.map_map]
    exact List.map_congr_left fun k _ => prefetchEntry_addr a r.1 k
  · rw [List.map_map, ← herr]
    exact List.map_congr_left fun k _ => prefetchEntry_ok a r.1 k
  · rw [State.modEng, eng_setEng_other hm, hread.eng]

end

/-- What each change of a list keeps, all of them together keep. -/
theorem forAll_keeps {α : Type} (g : State → α) {f : State → Nat → State} (h : ∀ a n, g (f a n) = g a) (xs : List Nat) (s : State) :
    g (s.forAll xs f) = g s := foldl_keeps g h xs s

/-! ### The end of a program (R54, R67) -/

section
variable {e : Nat}

/-- R67: HALT of an engine alone. -/
theorem programEnd_alone (halone : (s.eng e).alone = true) (hend : (s.eng e).ending = .halt) (hempty : (s.eng e).pipeEmpty = true)
    (hmode : (s.eng e).mode = .analysis) : s.programEnd e =
      (s.setEng e { s.eng e with mode := .idle, alone := false, ending := .none, arrived := false }).pendIrq (512 + e) := by
  unfold State.programEnd
  simp only [halone, hend, hempty, hmode]
  rfl

/-- What the leader notes at the end of its gang's program. -/
def State.noteEnd (s : State) (e : Nat) : State := (s.fcuLapse e).modGang e (fun g => { g with eopAt := some (s.eopInstant e) })

theorem noteEnd_side (s : State) (e : Nat) : (∀ m, m ≠ e → (s.noteEnd e).eng m = s.eng m) ∧
    (s.noteEnd e).eng e = { s.eng e with gang := { (s.eng e).gang with eopAt := some (s.eopInstant e) } } ∧
    (s.noteEnd e).work = s.work ∧ (s.noteEnd e).chans = s.chans ∧ (s.noteEnd e).pending = s.pending :=
  ⟨fun _ hm => eng_setEng_other hm _, eng_setEng_same .., rfl, rfl, rfl⟩

section
variable (halone : (s.eng e).alone = false) (hlead : s.leader e = e) (hmode : (s.eng e).mode = .stream)
  (hempty : (s.eng e).pipeEmpty = true) (hquiet : s.faulting (s.members e) = false)
include halone hlead hmode hempty hquiet

theorem programEnd_halt (hend : (s.eng e).ending = .halt) : s.programEnd e = (s.noteEnd e).forAll (s.members e) (fun acc m =>
    (acc.modEng m (fun y => { y with mode := .idle, ending := .none })).pendIrq (512 + m)) := by
  unfold State.programEnd
  simp only [halone, hend, hempty, hmode, hlead, hquiet]
  rfl

theorem programEnd_enta (hend : (s.eng e).ending = .enta) :
    s.programEnd e = (s.noteEnd e).forAll (s.members e) (fun acc m => acc.enterAnalysis m) := by
  unfold State.programEnd
  simp only [halone, hend, hempty, hmode, hlead, hquiet]
  rfl

end

end

/-- R54: every member goes to IDLE. -/
theorem halted_members (u : State) (ms : List Nat) (hms : ms.Nodup) :
    let t := u.forAll ms (fun acc m => (acc.modEng m (fun y => { y with mode := .idle, ending := .none })).pendIrq (512 + m))
    (∀ m, t.eng m = if m ∈ ms then { u.eng m with mode := .idle, ending := .none } else u.eng m) ∧
      (∀ m ∈ ms, t.plic.pend.get (512 + m) false = true) ∧ t.chans = u.chans ∧ t.pending = u.pending := by
  refine ⟨fun m => ?_, fun m hm => ?_, ?_, ?_⟩
  · refine get_forAll (get := State.eng) (h := fun _ y => { y with mode := .idle, ending := .none }) (fun a n => ?_) (fun a n m hm => ?_) hms u m
    · rw [pendIrq_eng, State.modEng, eng_setEng_same]
    · rw [pendIrq_eng, State.modEng, eng_setEng_other hm]
  · refine forAll_at (e := m) (Q := fun _ => True) (P := fun a => a.plic.pend.get (512 + m) false = true) (fun _ _ _ _ => trivial)
      (fun a _ => Tab.get_set_same _ _ _ _) (fun a n _ ha => ?_) hms hm trivial
    show (a.plic.pend.set (512 + n) true false).get (512 + m) false = true
    rw [Tab.get_set]
    split
    · rfl
    · exact ha
  · exact forAll_keeps State.chans (fun _ _ => by rfl) ms u
  · exact forAll_keeps State.pending (fun _ _ => by rfl) ms u

/-- R54, R67: every member enters ANALYSIS at its own address. -/
theorem analysing_members (u : State) (ms : List Nat) (hms : ms.Nodup) :
    let t := u.forAll ms (fun acc m => acc.enterAnalysis m)
    (∀ m, t.eng m = if m ∈ ms then (u.eng m).analysing (BitVec.ofNat 16 (u.fld F.CE_PC_APC m)) else u.eng m) ∧
      t.chans = u.chans ∧ t.pending = u.pending := by
  have hconst : u.forAll ms (fun acc m => acc.enterAnalysis m) =
      u.forAll ms (fun acc m => acc.modEng m (fun y => y.analysing (BitVec.ofNat 16 (u.fld F.CE_PC_APC m)))) := by
    refine forAll_congr (I := fun a => a.work = u.work) (fun a m _ ha => ?_) (fun _ _ _ ha => ha) rfl
    rw [enterAnalysis_eq, fld_of_work ha (by decide)]
  dsimp only
  rw [hconst]
  refine ⟨fun m => ?_, ?_, ?_⟩
  · exact get_forAll (get := State.eng) (h := fun m y => y.analysing (BitVec.ofNat 16 (u.fld F.CE_PC_APC m)))
      (fun _ _ => eng_setEng_same ..) (fun _ _ _ hm => eng_setEng_other hm _) hms u m
  · exact forAll_keeps State.chans (fun _ _ => by rfl) ms u
  · exact forAll_keeps State.pending (fun _ _ => by rfl) ms u

/-! ### The balls (R125, R126) -/

theorem chan_setChan_same (s : State) (p : Nat) (c : Channel) : (s.setChan p c).chan p = c := Tab.get_set_same _ _ _ _

theorem chan_setChan_other {p q : Nat} (h : q ≠ p) (s : State) (c : Channel) : (s.setChan p c).chan q = s.chan q :=
  Tab.get_set_other _ h _ _ _

theorem mem_enginePins {m p : Nat} : p ∈ enginePins m ↔ p / 4 = m := by
  unfold enginePins
  rw [List.mem_map]
  constructor
  · rintro ⟨k, hk, rfl⟩
    have := List.mem_range.1 hk
    omega
  · intro h
    exact ⟨p % 4, List.mem_range.2 (by omega), by omega⟩

theorem enginePins_nodup (m : Nat) : (enginePins m).Nodup := List.Nodup.map (fun _ _ h => Nat.add_left_cancel h) List.nodup_range

theorem mem_gangPins {s : State} {e p : Nat} : p ∈ s.gangPins e ↔ p / 4 ∈ s.members e := by
  unfold State.gangPins
  simp [mem_enginePins]

theorem gangPins_nodup (s : State) (e : Nat) : (s.gangPins e).Nodup := by
  refine List.nodup_flatMap.2 ⟨fun m _ => enginePins_nodup m, (members_nodup s e).imp fun hne => ?_⟩
  intro p hp hq
  exact hne ((mem_enginePins.1 hp).symm.trans (mem_enginePins.1 hq))

/-- R125: the pins of a list take the end-of-pattern state. -/
theorem chan_takeEop (u : State) {ps : List Nat} (hps : ps.Nodup) (p : Nat) : (u.forAll ps (fun acc p => acc.takeEop p)).chan p =
    if p ∈ ps then { eopApply (u.fld F.PIN_CFG_EOP p) (u.chan p) with eopOn := true } else u.chan p := by
  have hconst : u.forAll ps (fun acc p => acc.takeEop p) =
      u.forAll ps (fun acc p => acc.modChan p (fun c => { eopApply (u.fld F.PIN_CFG_EOP p) c with eopOn := true })) := by
    refine forAll_congr (I := fun a => ∀ p, a.fld F.PIN_CFG_EOP p = u.fld F.PIN_CFG_EOP p) (fun a p _ ha => ?_) (fun _ _ _ ha => ha)
      (fun _ => rfl)
    rw [State.takeEop, ha]
  rw [hconst]
  exact get_forAll (get := State.chan) (h := fun p c => { eopApply (u.fld F.PIN_CFG_EOP p) c with eopOn := true })
    (fun a n => chan_setChan_same a n _) (fun a n m hm => chan_setChan_other hm a _) hps u p

/-- R125: the end-of-pattern state of a gang's run. -/
theorem endOfPattern_eq {e at' : Nat} (hat : (s.eng e).gang.eopAt = some at')
    (hpast : ∀ p ∈ s.gangPins e, (s.chan p).nothingBefore at' = true) : s.endOfPattern e =
      ((s.forAll ((s.gangPins e).filter s.eopReaches) (fun acc p => acc.takeEop p)).modGang e
        (fun g => { g with eopAt := none })).atTime (at' / 512) := by
  have hall : (s.gangPins e).all (fun p => (s.chan p).nothingBefore at') = true := List.all_eq_true.2 hpast
  unfold State.endOfPattern
  rw [hat]
  dsimp only
  rw [if_pos hall]

/-- The safe state of engine m's balls, and the end of its drain. -/
def State.safe (a : State) (m : Nat) : State :=
  (a.forAll (enginePins m) (fun b p => b.takeSafe p)).modEng m (fun x => { x with draining := false })

/-- What the safe state makes of a channel. -/
def Channel.safe (c : Channel) : Channel := { c with pdrv := false, pden := false, eopOn := false }

theorem chan_takeSafe (a : State) (m p : Nat) :
    (a.forAll (enginePins m) (fun b p => b.takeSafe p)).chan p = if p / 4 = m then (a.chan p).safe else a.chan p := by
  have hsafe := get_forAll (get := State.chan) (f := fun b p => b.takeSafe p) (h := fun _ c => c.safe)
    (fun a n => chan_setChan_same a n _) (fun a n q hq => chan_setChan_other hq a _) (enginePins_nodup m) a p
  simpa only [mem_enginePins] using hsafe

theorem takeSafe_engines (a : State) (m : Nat) : (a.forAll (enginePins m) (fun b p => b.takeSafe p)).engines = a.engines :=
  forAll_keeps State.engines (fun _ _ => by rfl) _ a

theorem safe_eng (a : State) (m n : Nat) : (a.safe m).eng n = if n = m then { a.eng m with draining := false } else a.eng n := by
  have heng : ∀ n, (a.forAll (enginePins m) (fun b p => b.takeSafe p)).eng n = a.eng n := fun n => by
    unfold State.eng
    rw [takeSafe_engines]
  unfold State.safe
  split
  · rename_i h
    rw [h, State.modEng, eng_setEng_same, heng]
  · rename_i h
    rw [State.modEng, eng_setEng_other h, heng]

theorem safe_chan (a : State) (m p : Nat) : (a.safe m).chan p = if p / 4 = m then (a.chan p).safe else a.chan p := chan_takeSafe a m p

theorem safe_rest (a : State) (m : Nat) : a.safe m = { a with engines := (a.safe m).engines, chans := (a.safe m).chans } := by
  have htake : ∀ (ps : List Nat) (b : State), b.forAll ps (fun b p => b.takeSafe p) =
      { b with chans := (b.forAll ps (fun b p => b.takeSafe p)).chans } := by
    intro ps
    induction ps with
    | nil => exact fun _ => rfl
    | cons p ps ih => exact fun b => ih (b.takeSafe p)
  unfold State.safe
  rw [htake]
  rfl

/-- The balls of engine m. -/
def State.pins (a : State) (m : Nat) (k : Fin 4) : Channel := a.chan (4 * m + k)

theorem chan_eq_pins (a : State) (p : Nat) : a.chan p = a.pins (p / 4) ⟨p % 4, Nat.mod_lt p (by decide)⟩ := by
  unfold State.pins
  congr 1
  show p = 4 * (p / 4) + p % 4
  omega

/-- R126: the safe state of several engines. -/
theorem safe_all {ms : List Nat} (hms : ms.Nodup) : let t := s.forAll ms State.safe
    (∀ m, t.eng m = if m ∈ ms then { s.eng m with draining := false } else s.eng m) ∧
    (∀ p, t.chan p = if p / 4 ∈ ms then (s.chan p).safe else s.chan p) ∧ t = { s with engines := t.engines, chans := t.chans } := by
  refine ⟨fun m => ?_, fun p => ?_, ?_⟩
  · exact get_forAll (get := State.eng) (h := fun _ x => { x with draining := false }) (fun a n => by rw [safe_eng, if_pos rfl])
      (fun a n m hm => by rw [safe_eng, if_neg hm]) hms s m
  · have hpins := get_forAll (get := State.pins) (f := State.safe) (h := fun _ c k => (c k).safe)
      (fun a n => funext fun k => (safe_chan a n _).trans (if_pos (by omega)))
      (fun a n m hm => funext fun k => (safe_chan a n _).trans (if_neg (by omega))) hms s (p / 4)
    rw [chan_eq_pins, chan_eq_pins s p, hpins]
    split <;> rfl
  · unfold State.forAll
    refine foldl_ind (P := fun a => a = { s with engines := a.engines, chans := a.chans }) (fun a m ha => ?_) ms s rfl
    rw [safe_rest, ha]

/-- R126: the safe state of engines that have all drained, with no CLEAR waiting. -/
theorem safeState_eq {e : Nat} (h : ∀ m ∈ s.partsOf e, (s.eng m).mode = .fault ∧ (s.eng m).draining = true ∧
      (s.eng m).pipeEmpty = true ∧ (s.eng m).clearPend = false ∧ ∀ p ∈ enginePins m, (s.chan p).quiet = true) :
    s.safeState e = s.forAll (s.partsOf e) State.safe := by
  have hall : (s.partsOf e).all (fun m => (s.eng m).mode == .fault && (s.eng m).draining && (s.eng m).pipeEmpty &&
      (enginePins m).all (fun p => (s.chan p).quiet)) = true := by
    refine List.all_eq_true.2 fun m hm => ?_
    obtain ⟨hmode, hdrain, hempty, -, hquiet⟩ := h m hm
    simp only [hmode, hdrain, hempty, List.all_eq_true.2 hquiet]
    rfl
  unfold State.safeState
  dsimp only
  rw [if_pos hall]
  refine forAll_congr (I := fun a => ∀ m ∈ s.partsOf e, (a.eng m).clearPend = false) (fun a m hm ha => ?_) (fun a m _ ha n hn => ?_)
    (fun m hm => (h m hm).2.2.2.1)
  · have hclear : ((a.safe m).eng m).clearPend = false := by
      rw [safe_eng, if_pos rfl]
      exact ha m hm
    refine if_neg ?_
    rw [State.safe] at hclear
    rw [hclear]
    decide
  · rw [safe_eng]
    split
    · rename_i hnm
      rw [← hnm]
      exact ha n hn
    · exact ha n hn

theorem partsOf_nodup (s : State) (n : Nat) : (s.partsOf n).Nodup := by
  unfold State.partsOf
  split
  · exact List.nodup_singleton n
  · exact members_nodup ..

theorem latched_addr (s : State) (n : Nat) (x : Engine) : ((s.latched n x).map (·.1)).map (·.addr) = x.s3.map (·.addr) := by
  unfold State.latched
  cases x.s3 <;> rfl

/-- Settles O17: each event in the case that its mode and pipeline give, by the equation of its function. -/
theorem programEventsMoveTheEngineOn : Obligations.ProgramEventsMoveTheEngineOn := by
  intro s e hlive x
  refine ⟨fun b1 halone hmode hend hs1 hs2 hwait hfault => ?_, fun halone hlead => ?_, fun a hnext hfetch hmode hroom => ?_,
    fun halone hend hempty hmode => ?_, fun halone hlead hmode hempty hquiet hend => ?_,
    fun halone hlead hmode hempty hquiet hend => ?_, fun at' hat hpast => ?_, fun h => ?_, fun r ws hr hws hwait h6 h3 hclean hdepth => ?_⟩
  · obtain ⟨hside, ls, pq, n, heng⟩ := pipelineStep_alone halone hmode hend (.inl (by rw [hs1]; rfl)) hs2 hwait hfault
    refine answers_inDom (f := fun s => s.pipelineStep e) rfl hlive hside.pending ?_
    have hloop : x.loopEndS1 = x.loopEnd b1.addr := by rw [Engine.loopEndS1, hs1]
    have hacc := wrote_acc x ls (s.latched e x)
    have ha := wrote_a x ls (s.latched e x)
    have hdata := wrote_dataOnly x ls (s.latched e x)
    rw [heng]
    refine ⟨rfl, hs1, rfl, ?_, ?_, rfl, congrArg Prod.fst hloop, congrArg (fun c => c.2.ld) hloop, hacc, ?_, ?_, hside.others,
      hside.chans⟩
    · exact latched_addr s e x
    · exact Option.map_map ..
    · refine ha.trans ?_
      unfold State.latched
      cases x.s3 <;> rfl
    · exact (congrArg Engine.mode hdata).trans hmode
  · refine answers_inDom (f := fun s => s.pipelineStep e) rfl hlive ?_ (pipelineStep_follower halone hlead)
    rw [pipelineStep_follower halone hlead]
  · obtain ⟨hpending, hdone⟩ := prefetchReturn_prefetched rfl hnext hfetch hmode hroom
    exact answers_inDom (f := fun s => s.prefetchReturn e) rfl hlive hpending ⟨hdone.next, hdone.queue, hdone.others⟩
  · have hdone := programEnd_alone halone hend hempty hmode
    refine answers_inDom (f := fun s => s.programEnd e) rfl hlive (by rw [hdone]; rfl) ?_
    rw [hdone]
    exact ⟨eng_setEng_same .., Tab.get_set_same _ _ _ _, fun m hm => eng_setEng_other hm _, rfl⟩
  · have hdone := programEnd_halt halone hlead hmode hempty hquiet hend
    obtain ⟨hothers, hself, -, hchans, hpending⟩ := noteEnd_side s e
    obtain ⟨heng, hpend, hchans', hpending'⟩ := halted_members (s.noteEnd e) (s.members e) (members_nodup s e)
    rw [← hdone] at heng hpend hchans' hpending'
    refine answers_inDom (f := fun s => s.programEnd e) rfl hlive (hpending'.trans hpending) ⟨fun m hm => ⟨?_, hpend m hm⟩, ?_,
      fun m hm => ?_, hchans'.trans hchans⟩
    · rw [heng, if_pos hm]
    · rw [heng, if_pos (mem_members_self s e), hself]
    · rw [heng, if_neg hm, hothers m (by rintro rfl; exact hm (mem_members_self s e))]
  · have hdone := programEnd_enta halone hlead hmode hempty hquiet hend
    obtain ⟨hothers, hself, hwork, hchans, hpending⟩ := noteEnd_side s e
    obtain ⟨heng, hchans', hpending'⟩ := analysing_members (s.noteEnd e) (s.members e) (members_nodup s e)
    rw [← hdone] at heng hchans' hpending'
    refine answers_inDom (f := fun s => s.programEnd e) rfl hlive (hpending'.trans hpending) ⟨fun m hm => ?_, ?_,
      fun m hm => ?_, hchans'.trans hchans⟩
    · rw [heng, if_pos hm, fld_of_work hwork (by decide)]
      exact ⟨rfl, rfl, rfl, rfl, rfl⟩
    · rw [heng, if_pos (mem_members_self s e), hself]
      rfl
    · rw [heng, if_neg hm, hothers m (by rintro rfl; exact hm (mem_members_self s e))]
  · have hdone := endOfPattern_eq hat hpast
    have hchan := chan_takeEop s ((gangPins_nodup s e).filter s.eopReaches)
    have hengines := forAll_keeps State.engines (f := fun acc p => acc.takeEop p) (fun _ _ => by rfl)
      ((s.gangPins e).filter s.eopReaches) s
    have hpending := forAll_keeps State.pending (f := fun acc p => acc.takeEop p) (fun _ _ => by rfl)
      ((s.gangPins e).filter s.eopReaches) s
    refine answers_inDom (f := fun s => s.endOfPattern e) rfl hlive (by rw [hdone]; exact hpending) ?_
    rw [hdone]
    generalize s.forAll ((s.gangPins e).filter s.eopReaches) (fun acc p => acc.takeEop p) = u at *
    refine ⟨fun p hp => (hchan p).trans ?_, fun p hp => (hchan p).trans (if_neg fun h => hp (List.mem_filter.1 h).1), ?_⟩
    · by_cases hreach : s.eopReaches p = true
      · rw [if_pos (List.mem_filter.2 ⟨hp, hreach⟩), if_pos hreach]
      · rw [if_neg (fun h => hreach (List.mem_filter.1 h).2), if_neg hreach]
    · have heng : u.eng e = s.eng e := by unfold State.eng; rw [hengines]
      rw [atTime_eng, State.modGang, State.modEng, eng_setEng_same, heng]
  · have hdone := safeState_eq h
    obtain ⟨heng, hpins, hrest⟩ := safe_all (partsOf_nodup s e) (s := s)
    rw [← hdone] at heng hpins hrest
    have hchan {m p : Nat} (hp : p ∈ enginePins m) : (s.safeState e).chan p = if m ∈ s.partsOf e then (s.chan p).safe else s.chan p := by
      rw [← mem_enginePins.1 hp]
      exact hpins p
    refine answers_inDom (f := fun s => s.safeState e) rfl hlive (by rw [hrest]) ⟨fun m hm => ⟨?_, fun p hp => ?_⟩,
      fun m hm => ⟨?_, fun p hp => ?_⟩, hrest⟩
    · rw [heng, if_pos hm]
    · rw [hchan hp, if_pos hm]
      rfl
    · rw [heng, if_neg hm]
    · rw [hchan hp, if_neg hm]
  · refine (answers_onlyEngine rfl hlive (restlComplete_restores hr hws hwait h6 h3 hclean hdepth)).imp fun t ht => ?_
    obtain ⟨-, heng, hothers⟩ := ht
    rw [heng]
    refine ⟨by rw [withLoops_eq], by rw [withLoops_eq], by rw [withLoops_eq],
      fun w hw => ⟨withLoops_rstart _ _ hw, withLoops_rend _ _ hw, withLoops_rl _ _ hw⟩, fun w hw => withLoops_rcs _ _ hw,
      by rw [withLoops_eq], by rw [withLoops_eq], by rw [withLoops_eq], by rw [withLoops_eq], hothers⟩

end Sys2Proof.Machine
end

section
/-!
SUPPORT. The drain behind an interrupt (R77): a pipeline whose bundles neither load, store nor compare, and whose S2 holds at most a SYNC
whose wait is over, empties within five steps that write no register but the monitors'.
-/
namespace Sys2Proof.Machine

open Sys2Proof

variable {s t : State} {e : Nat} {x : Engine}

/-! ### What a step writes beside the engine -/

/-- From s to t engine e changes, and of the registers those of the monitors and the arbiters alone. -/
structure CalmChange (e : Nat) (s t : State) : Prop where
  side : EngineSide e s t
  work : t.work = s.work
  regs : ∀ a d, ¬ netAddr a → t.regs.get a d = s.regs.get a d

namespace CalmChange

theorem refl (s : State) : CalmChange e s s := ⟨.refl s, rfl, fun _ _ _ => rfl⟩

theorem trans {a b c : State} (h : CalmChange e a b) (g : CalmChange e b c) : CalmChange e a c :=
  ⟨h.side.trans g.side, g.work.trans h.work, fun k d hk => (g.regs k d hk).trans (h.regs k d hk)⟩

theorem setEng (s : State) (y : Engine) : CalmChange e s (s.setEng e y) := ⟨.setEng s y, rfl, fun _ _ _ => rfl⟩

theorem modEng (s : State) (f : Engine → Engine) : CalmChange e s (s.modEng e f) := setEng s _

theorem shareS1 (s : State) : CalmChange e s (s.shareS1 [e] e) := by
  obtain ⟨es, h⟩ := shareS1_changes (ms := [e]) (e := e) s
  exact ⟨shareS1_side s, by rw [h], fun _ _ _ => by rw [h]⟩

theorem countEngines (s : State) (xs : List Nat) (evt : Nat) : CalmChange e s (s.countEngines xs evt) := by
  have hnet : NetChange s (s.countEngines xs evt) := by
    unfold State.countEngines State.forAll
    exact foldl_ind (P := NetChange s) (fun a n ha => ha.trans (.pmonEvent ..)) xs s (.refl s)
  exact ⟨.countEngines s xs evt, by rw [hnet.rest], hnet.regs⟩

/-- A register of an engine reads as before. -/
theorem fld (h : CalmChange e s t) (f : Fld) (hf : f.reg = .CE_INT ∨ f.reg = .CE_PC) (he : e < 256) : t.fld f e = s.fld f e := by
  have haddr : ¬ netAddr (regAddr .CE_INT e) := by
    simp only [netAddr, regAddr, regInst, RegId.desc, Block.place]
    omega
  refine congrArg (fldOf f) ?_
  rcases hf with hf | hf
  · rw [hf]
    unfold State.reg
    rw [h.work, h.regs _ _ haddr]
  · rw [hf]
    exact reg_of_work h.work (by decide) e 0 0

end CalmChange

/-! ### Bundles that do nothing -/

/-- A bundle whose slots do nothing at S3. -/
def Stage.Empty (b : Stage) : Prop := b.agen = .nop ∧ b.dgenOp = .nop ∧ b.macOp = .nop

/-- A bundle that has latched nothing to do at S6. -/
def Stage.Void (b : Stage) : Prop := b.mac = {} ∧ b.cmps = [] ∧ b.store = none

theorem latchS3_of_empty {b : Stage} (h : b.Empty) (s : State) (x : Engine) :
    (s.latchS3 e x b).1.Void ∧ (s.latchS3 e x b).2.load = none := by
  obtain ⟨ha, hd, hm⟩ := h
  unfold State.latchS3
  rw [ha, hd, hm]
  exact ⟨⟨rfl, rfl, rfl⟩, rfl⟩

/-- An engine whose pipeline does nothing more than drain: every bundle in it does nothing, and S2 holds at most a SYNC that waits no more
and does not fault. -/
structure Engine.Calm (e : Nat) (x : Engine) : Prop where
  s1 : x.s1 = none
  fetching : x.fetching = false
  loads : x.loads = []
  s2 : ∀ b, x.s2 = some b → b.Empty ∧ b.flow = .sync ∧ x.syncDone = true ∧ ∀ (u : State) (y : Engine), u.s2Fault e y false true b none = none
  s3 : ∀ b, x.s3 = some b → b.Empty
  s4 : ∀ b, x.s4 = some b → b.Void
  s5 : ∀ b, x.s5 = some b → b.Void
  s6 : ∀ b, x.s6 = some b → b.Void

/-- y is x but for its stages, loop registers and slots' registers other than the flags. -/
structure Engine.Kept (x y : Engine) : Prop where
  mode : y.mode = x.mode
  arrived : y.arrived = x.arrived
  flags : y.flags = x.flags

theorem Engine.Kept.trans {x y z : Engine} (h : x.Kept y) (g : y.Kept z) : x.Kept z :=
  ⟨g.mode.trans h.mode, g.arrived.trans h.arrived, g.flags.trans h.flags⟩

namespace Engine.Calm

/-- R84: nothing faults. -/
theorem stepFault (h : (s.eng e).Calm e) : s.stepFault e [e] false = none := by
  have h6 : s.stageFault e e false 6 = none := by
    cases hs : (s.eng e).s6 with
    | none => exact stageFault_of_empty hs
    | some b =>
      have hstore := (h.s6 b hs).2.2
      have hfault : s.stageFault e e false 6 = s.s6Fault e e false b := by
        unfold State.stageFault Engine.stage
        simp only [hs]
      rw [hfault, State.s6Fault, hstore]
      rfl
  have h3 : s.stageFault e e false 3 = none := by
    cases hs : (s.eng e).s3 with
    | none => exact stageFault_of_empty hs
    | some b =>
      obtain ⟨ha, hd, hm⟩ := h.s3 b hs
      have hfault : s.stageFault e e false 3 = s.s3Fault e (s.eng e) b := by
        unfold State.stageFault Engine.stage
        simp only [hs]
      rw [hfault, State.s3Fault, ha, hd, hm]
      rfl
  have h2 : s.stageFault e e false 2 = none := by
    cases hs : (s.eng e).s2 with
    | none => exact stageFault_of_empty hs
    | some b =>
      have hfault : s.stageFault e e false 2 = s.s2Fault e (s.eng e) false true b none := by
        unfold State.stageFault Engine.stage
        simp only [hs, h.s1]
        rfl
      rw [hfault]
      exact (h.s2 b hs).2.2.2 s (s.eng e)
  unfold State.stepFault
  simp [h6, h3, h2]

theorem loadWait (h : x.Calm e) : x.loadWait = false := by
  unfold Engine.loadWait
  rw [h.loads]
  cases x.s3 <;> rfl

end Engine.Calm

/-! ### A step of a calm pipeline -/

theorem loadS3_of_none {r3 : Option (Stage × AgenEff)} (h : ∀ r, r3 = some r → r.2.load = none) (s : State) : s.loadS3 e r3 0 = s := by
  cases r3 with
  | none => rfl
  | some r =>
    unfold State.loadS3
    dsimp only
    rw [h r rfl]
    rfl

theorem doS6_of_void (h : ∀ b, x.s6 = some b → b.Void) (s : State) : CalmChange e s (s.doS6 e x 0) := by
  unfold State.doS6
  cases h6 : x.s6 with
  | none => exact .refl s
  | some b =>
    obtain ⟨hmac, -, hstore⟩ := h b h6
    dsimp only
    unfold State.workS6
    rw [hstore, hmac]
    exact .modEng s (fun y => { y.applyMac {} with flags := setFlags (y.applyMac {}).flags b.cmps })

theorem doS4_calm (s : State) (x : Engine) : CalmChange e s (s.doS4 e x 0) := by
  unfold State.doS4
  cases x.s4 with
  | none => exact .refl s
  | some b => exact .modEng s (fun y => y.applyDgen b.dgen)

theorem doS3_calm (s : State) (r3 : Option (Stage × AgenEff)) : CalmChange e s (s.doS3 e r3 0) := by
  unfold State.doS3
  cases r3 with
  | none => exact .refl s
  | some b => exact .modEng s (fun y => y.applyAgen b.2)

theorem stepLoopEnd_calm (s : State) (x : Engine) : CalmChange e s (s.stepLoopEnd e x) := by
  rw [stepLoopEnd_eq]
  split
  · exact (CalmChange.modEng ..).trans (.modEng ..)
  · exact .modEng ..

theorem doS2_of_sync (h : ∀ b, x.s2 = some b → b.flow = .sync) (s : State) : CalmChange e s (s.doS2 e x false true 0) := by
  unfold State.doS2
  cases h2 : x.s2 with
  | none => exact .refl s
  | some b =>
    dsimp only
    rw [stepFlow_eq]
    unfold State.flowFirst
    rw [h b h2]
    exact .setEng ..

/-- What S3 latches of a calm pipeline. -/
theorem Engine.Calm.latched (h : x.Calm e) (s : State) : ∀ r, s.latched e x = some r → r.1.Void ∧ r.2.load = none := by
  intro r hr
  unfold State.latched at hr
  cases h3 : x.s3 with
  | none =>
    rw [h3] at hr
    cases hr
  | some b =>
    rw [h3] at hr
    cases hr
    exact latchS3_of_empty (h.s3 b h3) s x

theorem stepEngine_calm (h : x.Calm e) (s : State) : CalmChange e s (s.stepEngine e x false true 0 true) := by
  rw [stepEngine_eq]
  have hage : CalmChange e s (s.ageLoads e) := .modEng ..
  refine hage.trans ?_
  generalize s.ageLoads e = u
  have hwork : CalmChange e u (u.stepWork e x 0) := by
    rw [stepWork_eq, loadS3_of_none fun r hr => (h.latched u r hr).2]
    exact ((doS6_of_void h.s6 u).trans (doS4_calm ..)).trans (doS3_calm ..)
  exact ((hwork.trans (stepLoopEnd_calm ..)).trans (doS2_of_sync (fun b hb => (h.s2 b hb).2.1) _)).trans (.setEng ..)

/-- A step of a calm pipeline, of an engine alone. -/
theorem Engine.Calm.step (h : (s.eng e).Calm e) : CalmChange e s (s.stepParts [e] .alone) := by
  rw [stepParts_alone (.inr h.fetching) (fun b hb => .inr ⟨(h.s2 b hb).2.1, (h.s2 b hb).2.2.1⟩) h.loadWait h.stepFault, eng_shareS1_lead]
  exact ((CalmChange.shareS1 s).trans (.countEngines ..)).trans (stepEngine_calm h _)

/-! ### The drain -/

theorem applyDgen_flags (x : Engine) (f : DgenEff) : (x.applyDgen f).flags = x.flags := by
  unfold Engine.applyDgen
  cases f.wr <;> cases f.wo <;> cases f.gen <;> cases f.pw <;> rfl

theorem applyAgen_flags (x : Engine) (f : AgenEff) : (x.applyAgen f).flags = x.flags := by
  unfold Engine.applyAgen
  cases f.a <;> cases f.o <;> cases f.m <;> rfl

theorem wrote_kept (h : x.Calm e) (s : State) : x.Kept (x.wrote [] (s.latched e x)) := by
  have hdata := wrote_dataOnly x [] (s.latched e x)
  have h6 : (({ x with loads := [] } : Engine).wroteS6 x).flags = x.flags := by
    unfold Engine.wroteS6
    cases h6 : x.s6 with
    | none => rfl
    | some b =>
      obtain ⟨hmac, hcmps, -⟩ := h.s6 b h6
      dsimp only
      rw [hmac, hcmps]
      rfl
  have h4 (y : Engine) : (y.wroteS4 x).flags = y.flags := by
    unfold Engine.wroteS4
    cases x.s4 with
    | none => rfl
    | some b => exact applyDgen_flags y b.dgen
  have h3 (y : Engine) : (y.wroteS3 (s.latched e x)).flags = y.flags := by
    cases s.latched e x with
    | none => rfl
    | some r => exact applyAgen_flags y r.2
  refine ⟨?_, ?_, ?_⟩
  · rw [hdata]
  · rw [hdata]
  · rw [Engine.wrote, h3, h4, h6]

/-- Stages 1 to k are empty. -/
def Engine.Drained (k : Nat) (x : Engine) : Prop := ∀ i, 1 ≤ i → i ≤ k → x.stage i = none

theorem pipeEmpty_of_drained {k : Nat} (h : x.Drained k) (hk : 6 ≤ k) : x.pipeEmpty = true := by
  have h1 : x.s1 = none := h 1 (by omega) (by omega)
  have h2 : x.s2 = none := h 2 (by omega) (by omega)
  have h3 : x.s3 = none := h 3 (by omega) (by omega)
  have h4 : x.s4 = none := h 4 (by omega) (by omega)
  have h5 : x.s5 = none := h 5 (by omega) (by omega)
  have h6 : x.s6 = none := h 6 (by omega) (by omega)
  simp [Engine.pipeEmpty, h1, h2, h3, h4, h5, h6]

theorem stepped_drained {k : Nat} (h : x.Drained k) (hs1 : x.s1 = none) (ls : List LoadReq) (pq : List PqEntry) (n : Option BAddr) :
    (x.stepped ls (s.latched e x) pq n).Drained (k + 1) := by
  intro i hi hik
  rcases hi.eq_or_lt with rfl | hi
  · rfl
  · rcases (show i = 2 ∨ i = 3 ∨ i = 4 ∨ i = 5 ∨ 6 ≤ i by omega) with rfl | rfl | rfl | rfl | h6
    · exact hs1
    · exact h 2 (by omega) (by omega)
    · have h3 : x.s3 = none := h 3 (by omega) (by omega)
      simp [Engine.stage, Engine.stepped, State.latched, h3]
    · have h4 : x.s4 = none := h 4 (by omega) (by omega)
      simp [Engine.stage, Engine.stepped, h4]
    · obtain ⟨j, rfl⟩ := Nat.exists_eq_add_of_le' h6
      exact h 5 (by omega) (by omega)

theorem stepped_calm (h : x.Calm e) (s : State) (pq : List PqEntry) (n : Option BAddr) :
    (x.stepped [] (s.latched e x) pq n).Calm e := by
  have hdata := wrote_dataOnly x [] (s.latched e x)
  refine ⟨rfl, ?_, ?_, ?_, ?_, ?_, ?_, ?_⟩
  · unfold Engine.stepped
    rw [hdata]
    exact h.fetching
  · unfold Engine.stepped
    rw [hdata]
  · intro b hb
    have hs1 : x.s1 = some b := hb
    rw [h.s1] at hs1
    cases hs1
  · exact fun b hb => (h.s2 b hb).1
  · intro b hb
    obtain ⟨r, hr, rfl⟩ := Option.map_eq_some_iff.1 hb
    exact (h.latched s r hr).1
  · intro b hb
    obtain ⟨c, hc, rfl⟩ := Option.map_eq_some_iff.1 hb
    exact h.s4 c hc
  · exact fun b hb => h.s5 b hb

/-- What the drain of the calm pipeline x of e in s leaves. -/
structure DrainedTo (e : Nat) (s t : State) : Prop where
  change : CalmChange e s t
  kept : (s.eng e).Kept (t.eng e)
  empty : (t.eng e).pipeEmpty = true
  loads : (t.eng e).loads = []

/-- With no load under way there is none to take. -/
theorem modEng_takeDue_of_empty (h : (s.eng e).loads = []) :
    CalmChange e s (s.modEng e (fun y => Engine.takeDue y.loads.length y)) ∧
      (s.modEng e (fun y => Engine.takeDue y.loads.length y)).eng e = s.eng e := by
  refine ⟨.modEng .., ?_⟩
  rw [State.modEng, eng_setEng_same, h]
  rfl

/-- R77: a calm pipeline drains. -/
theorem drainAlone_calm {k : Nat} (n : Nat) (s : State) (hcalm : (s.eng e).Calm e) (hk : (s.eng e).Drained k) (hn : 6 ≤ k + n) :
    DrainedTo e s (State.drainAlone n e s) := by
  induction n generalizing s k with
  | zero => exact ⟨.refl s, ⟨rfl, rfl, rfl⟩, pipeEmpty_of_drained hk hn, hcalm.loads⟩
  | succ n ih =>
    unfold State.drainAlone
    split
    · rename_i hempty
      exact ⟨.refl s, ⟨rfl, rfl, rfl⟩, hempty, hcalm.loads⟩
    · obtain ⟨htake, heng⟩ := modEng_takeDue_of_empty hcalm.loads
      generalize s.modEng e (fun y => Engine.takeDue y.loads.length y) = u at htake heng
      have hu : (u.eng e).Calm e := heng ▸ hcalm
      have hstep := hu.step
      obtain ⟨-, ls, pq, nx, hengs, hls⟩ := stepParts_alone_side (.inr hu.fetching) (fun b hb => .inr ⟨(hu.s2 b hb).2.1, (hu.s2 b hb).2.2.1⟩)
        hu.loadWait hu.stepFault
      obtain rfl : ls = [] := hls (fun r hr => (hu.latched u r hr).2) hu.loads
      generalize u.stepParts [e] .alone = v at hstep hengs
      have hv := ih v (by rw [hengs]; exact stepped_calm hu u pq nx)
        (by rw [hengs]; exact stepped_drained (heng ▸ hk) hu.s1 [] pq nx) (by omega)
      have hkept : (s.eng e).Kept (v.eng e) := by
        have hw := wrote_kept hu u
        rw [heng] at hw hengs
        rw [hengs]
        exact ⟨hw.mode, hw.arrived, hw.flags⟩
      exact ⟨(htake.trans hstep).trans hv.change, hkept.trans hv.kept, hv.empty, hv.loads⟩

end Sys2Proof.Machine
end

section
/-!
SUPPORT. R76, R77: the entry of an interrupt handler.
-/
namespace Sys2Proof.Machine

open Sys2Proof

variable {s t : State} {e : Nat} {x : Engine}

/-! ### The handler -/

theorem lowestIrq_lt {k : Nat} (h : s.lowestIrq e = some k) : k < 8 := List.mem_range.1 (List.mem_of_find?_eq_some h)

/-- R77: what the handler finds. -/
structure HandlerEntered (e k : Nat) (j : BAddr) (s t : State) : Prop where
  ipc : t.fld F.CE_INT_IPC e = j.toNat
  iflags : t.fld F.CE_INT_IFLAGS e = (s.eng e).flags.toNat
  icause : t.fld F.CE_INT_ICAUSE e = k
  ie : t.fld F.CE_INT_IE e = 0
  pend : t.fld F.CE_INT_PEND e = s.fld F.CE_INT_PEND e - 2 ^ k
  eng : t.eng e = { (s.eng e).restartPrefetch (BitVec.ofNat 16 (s.fld F.CE_PC_IVEC e + 8 * k)) with
                    pc := BitVec.ofNat 16 (s.fld F.CE_PC_IVEC e + 8 * k), fetching := true }
  others : ∀ m, m ≠ e → t.eng m = s.eng m
  pending : t.pending = s.pending

theorem enterHandler_entered (s : State) (j : BAddr) {k : Nat} (hk : k < 8) : HandlerEntered e k j s (s.enterHandler e k j) := by
  have hcause : k ≤ fldMax F.CE_INT_ICAUSE := by
    have : fldMax F.CE_INT_ICAUSE = 7 := by decide
    omega
  have hj : j.toNat ≤ fldMax F.CE_INT_IPC := by
    have : fldMax F.CE_INT_IPC = 65535 := by decide
    omega
  have hflags : (s.eng e).flags.toNat ≤ fldMax F.CE_INT_IFLAGS := by
    have : fldMax F.CE_INT_IFLAGS = 255 := by decide
    omega
  have hpend : s.fld F.CE_INT_PEND e - 2 ^ k ≤ fldMax F.CE_INT_PEND := (Nat.sub_le ..).trans (fld_le_fldMax ..)
  unfold State.enterHandler
  dsimp only
  have hsaved : ((((s.setFld F.CE_INT_IPC j.toNat e).setFld F.CE_INT_IFLAGS (s.eng e).flags.toNat e).setFld F.CE_INT_ICAUSE k e).setFld
      F.CE_INT_IE 0 e).fld F.CE_INT_PEND e = s.fld F.CE_INT_PEND e := by
    iterate 4 rw [fld_setFld_apart (by decide)]
  have hvec (a : State) (f : Fld) (v : Nat) (hf : f.apart F.CE_PC_IVEC = true) : (a.setFld f v e).fld F.CE_PC_IVEC e = a.fld F.CE_PC_IVEC e :=
    fld_setFld_apart hf v e
  rw [hsaved]
  refine ⟨?_, ?_, ?_, ?_, ?_, ?_, ?_, ?_⟩
  · rw [modEng_fld]
    iterate 4 rw [fld_setFld_apart (by decide)]
    exact fld_setFld_fits rfl hj e 0 0
  · rw [modEng_fld]
    iterate 3 rw [fld_setFld_apart (by decide)]
    exact fld_setFld_fits rfl hflags e 0 0
  · rw [modEng_fld]
    iterate 2 rw [fld_setFld_apart (by decide)]
    exact fld_setFld_fits rfl hcause e 0 0
  · rw [modEng_fld, fld_setFld_apart (by decide)]
    exact fld_setFld_fits rfl (Nat.zero_le _) e 0 0
  · rw [modEng_fld]
    exact fld_setFld_fits rfl hpend e 0 0
  · rw [State.modEng, eng_setEng_same]
    iterate 5 rw [hvec _ _ _ (by decide)]
    rfl
  · intro m hm
    rw [State.modEng, eng_setEng_other hm]
    rfl
  · rfl

/-! ### The entry -/

/-- R76: an engine that accepts a request, with its pipeline empty but for S1 and a SYNC in S2. -/
structure Interrupted (s : State) (e : Nat) (x : Engine) : Prop where
  ie : s.flag F.CE_INT_IE e = true
  ending : x.ending = .none
  loads : x.loads = []
  restl : x.restl = none
  s3 : x.s3 = none
  s4 : x.s4 = none
  s5 : x.s5 = none
  s6 : x.s6 = none
  pipeline : (x.mode = .analysis ∧ x.s1.isSome = true ∧ x.s2 = none) ∨
    (x.mode = .sync ∧ ∃ b, x.s2 = some b ∧ b.flow = .sync ∧ s.gangSize e ≠ 1 ∧ x.syncDone = false ∧ b.agen = .nop ∧ b.dgenOp = .nop ∧
      b.macOp = .nop ∧ s.s2Fault e x false true b none = none)

/-- x with its fetched bundles given up, as the drain finds it. -/
def Engine.interrupted (x : Engine) (arrives : Bool) : Engine :=
  { x with s1 := none, fetching := false, pq := [], mode := .analysis, arrived := x.arrived || arrives, syncDone := true }

/-- R74: the engine's SYNC arrives at the barrier. -/
def State.arrives (s : State) (e : Nat) (x : Engine) : Bool :=
  match x.s2 with | some t => t.flow == .sync && s.gangSize e != 1 && !x.syncDone | none => false

/-- R74: whether a SYNC faults at S2 depends on its bundle alone. -/
theorem s2Fault_of_sync {b : Stage} (h : b.flow = .sync) (u : State) (y : Engine) :
    u.s2Fault e y false true b none = s.s2Fault e x false true b none := by
  unfold State.s2Fault
  rw [h]
  rfl

namespace Interrupted

theorem accepted (h : Interrupted s e (s.eng e)) : s.irqAcceptable e = true := by
  have hwait : (s.eng e).loadWait = false := by
    unfold Engine.loadWait
    rw [h.s3]
  unfold State.irqAcceptable Engine.fetchReady
  rcases h.pipeline with ⟨hmode, hs1, hs2⟩ | ⟨hmode, -⟩
  · simp [h.ie, h.ending, hmode, hs1, hs2, hwait, h.restl]
  · simp [h.ie, h.ending, hmode]

theorem calm (h : Interrupted s e x) (arrives : Bool) : (x.interrupted arrives).Calm e := by
  refine ⟨rfl, rfl, h.loads, ?_, ?_, ?_, ?_, ?_⟩
  · intro b hb
    rcases h.pipeline with ⟨-, -, hs2⟩ | ⟨-, c, hs2, hflow, -, -, ha, hd, hm, hfault⟩
    · cases hs2.symm.trans hb
    · obtain rfl : c = b := Option.some.inj (hs2.symm.trans hb)
      exact ⟨⟨ha, hd, hm⟩, hflow, rfl, fun u y => (s2Fault_of_sync hflow u y).trans hfault⟩
  · exact fun b hb => by cases h.s3.symm.trans hb
  · exact fun b hb => by cases h.s4.symm.trans hb
  · exact fun b hb => by cases h.s5.symm.trans hb
  · exact fun b hb => by cases h.s6.symm.trans hb

theorem arrives (h : Interrupted s e x) (hsync : x.mode = .sync) : s.arrives e x = true := by
  rcases h.pipeline with ⟨hmode, -⟩ | ⟨-, c, hs2, hflow, hsize, hdone, -⟩
  · cases hmode.symm.trans hsync
  · unfold State.arrives
    rw [hs2]
    simp [hflow, hsize, hdone]

end Interrupted

theorem interruptEntry_eq {k : Nat} (hk : s.lowestIrq e = some k) (hacc : s.irqAcceptable e = true) : s.interruptEntry e =
    let t := State.drainAlone 6 e (s.modEng e (fun x => x.interrupted (s.arrives e (s.eng e))))
    if (t.eng e).mode = .fault then t
    else (t.modEng e (fun x => x.loads.foldl (fun acc _ => acc.takeLoad) x)).enterHandler e k
      (match (s.eng e).s1 with | some b => b.addr | none => (s.eng e).pc) := by
  unfold State.interruptEntry
  simp only [hk, hacc]
  rfl

theorem takeLoads_of_empty (h : x.loads = []) : x.loads.foldl (fun acc _ => acc.takeLoad) x = x := by rw [h, List.foldl_nil]

/-- R76, R77: what the entry of a handler leaves. -/
structure HandlerFetched (e k : Nat) (s t : State) : Prop where
  ipc : t.fld F.CE_INT_IPC e = (match (s.eng e).s1 with | some b => b.addr | none => (s.eng e).pc).toNat
  arrived : (s.eng e).mode = .sync → (t.eng e).arrived = true
  empty : (t.eng e).pipeEmpty = true
  iflags : t.fld F.CE_INT_IFLAGS e = (s.eng e).flags.toNat
  icause : t.fld F.CE_INT_ICAUSE e = k
  ie : t.fld F.CE_INT_IE e = 0
  pend : t.fld F.CE_INT_PEND e = s.fld F.CE_INT_PEND e - 2 ^ k
  mode : (t.eng e).mode = .analysis
  pc : (t.eng e).pc = BitVec.ofNat 16 (s.fld F.CE_PC_IVEC e + 8 * k)
  fetching : (t.eng e).fetching = true
  others : ∀ m, m ≠ e → t.eng m = s.eng m

theorem interruptEntry_fetched (h : Interrupted s e (s.eng e)) {k : Nat} (hk : s.lowestIrq e = some k) (he : e < 256) :
    HandlerFetched e k s (s.interruptEntry e) ∧ (s.interruptEntry e).pending = s.pending := by
  rw [interruptEntry_eq hk h.accepted]
  generalize hj : (match (s.eng e).s1 with | some b => b.addr | none => (s.eng e).pc) = j
  have hmod : CalmChange e s (s.modEng e (fun x => x.interrupted (s.arrives e (s.eng e)))) := .modEng ..
  have heng : (s.modEng e (fun x => x.interrupted (s.arrives e (s.eng e)))).eng e = (s.eng e).interrupted (s.arrives e (s.eng e)) :=
    eng_setEng_same ..
  generalize s.modEng e (fun x => x.interrupted (s.arrives e (s.eng e))) = u at hmod heng
  have hdrain := drainAlone_calm (k := 1) 6 u (by rw [heng]; exact h.calm _)
    (fun i h1 h2 => by obtain rfl : i = 1 := by omega
                       rw [heng]; rfl) (by omega)
  generalize State.drainAlone 6 e u = v at hdrain
  obtain ⟨hchange, hkept, hempty, hloads⟩ := hdrain
  have hall := hmod.trans hchange
  rw [heng] at hkept
  have hmode : (v.eng e).mode = .analysis := hkept.mode
  have htaken : (v.modEng e (fun x => x.loads.foldl (fun acc _ => acc.takeLoad) x)).eng e = v.eng e := by
    rw [State.modEng, eng_setEng_same, takeLoads_of_empty hloads]
  have htake : CalmChange e v (v.modEng e (fun x => x.loads.foldl (fun acc _ => acc.takeLoad) x)) := .modEng ..
  dsimp only
  rw [if_neg (by rw [hmode]; decide)]
  generalize v.modEng e (fun x => x.loads.foldl (fun acc _ => acc.takeLoad) x) = w at htaken htake
  have hsw := hall.trans htake
  have hent := enterHandler_entered (e := e) w j (lowestIrq_lt hk)
  generalize w.enterHandler e k j = z at hent
  have hvec : w.fld F.CE_PC_IVEC e = s.fld F.CE_PC_IVEC e := hsw.fld _ (.inr rfl) he
  have hpend : w.fld F.CE_INT_PEND e = s.fld F.CE_INT_PEND e := hsw.fld _ (.inl rfl) he
  have hz := hent.eng
  rw [htaken, hvec] at hz
  have hnew : (z.eng e).pipeEmpty = (v.eng e).pipeEmpty ∧ (z.eng e).mode = (v.eng e).mode ∧ (z.eng e).arrived = (v.eng e).arrived ∧
      (z.eng e).pc = BitVec.ofNat 16 (s.fld F.CE_PC_IVEC e + 8 * k) ∧ (z.eng e).fetching = true := by
    rw [hz]
    exact ⟨rfl, rfl, rfl, rfl, rfl⟩
  obtain ⟨hzempty, hzmode, hzarrived, hzpc, hzfetch⟩ := hnew
  refine ⟨⟨?_, fun hsync => ?_, hzempty.trans hempty, ?_, hent.icause, hent.ie, ?_, hzmode.trans hmode, hzpc, hzfetch, fun m hm => ?_⟩, ?_⟩
  · rw [hent.ipc, ← hj]
  · rw [hzarrived, hkept.arrived]
    show ((s.eng e).arrived || s.arrives e (s.eng e)) = true
    rw [h.arrives hsync, Bool.or_true]
  · rw [hent.iflags, htaken, hkept.flags]
    rfl
  · rw [hent.pend, hpend]
  · rw [hent.others m hm, hsw.side.others m hm]
  · rw [hent.pending, hsw.side.pending]

end Sys2Proof.Machine
end

section
/-!
PROOF. O16: the events of an engine alone (R41, R49, R61, R72, R73, R74, R76, R77).
-/
namespace Sys2Proof.Machine

open Sys2Proof

variable {s t : State} {e : Nat}

/-! ### The wake of a gang (R72) -/

/-- x with its bundles given up. -/
def Engine.woken (x : Engine) : Engine :=
  { x.dropBuffer with s1 := none, s2 := none, s3 := none, s4 := none, s5 := none, s6 := none }

/-- What a wake leaves of the gang that engine e leads. -/
structure Woken (s t : State) (e : Nat) : Prop where
  gang : (t.eng e).gang = { (s.eng e).gang with woke := true }
  fetching : (t.eng e).fetching = true
  pc : (t.eng e).pc = BitVec.ofNat 16 (s.fld F.CE_PC_SPC e)
  next : (t.eng e).pqNext = some (BitVec.ofNat 16 (s.fld F.CE_PC_SPC e))
  members : ∀ m ∈ s.members e, (t.eng m).buf = {} ∧ (t.eng m).pipeEmpty = true ∧ (t.eng m).mode = (s.eng m).mode
  others : ∀ m, m ∉ s.members e → t.eng m = s.eng m
  rest : t = { s with engines := t.engines, time := t.time }

theorem gangWake_woken {at' : Nat} (hstart : (s.eng e).gang.startAt = some at') (harmed : (s.eng e).gang.armed = true)
    (hwoke : (s.eng e).gang.woke = false) (hlead : s.leader e = e) : Woken s (s.gangWake e) e := by
  have hwake : s.gangWake e = (((s.forAll (s.members e) (fun acc m => acc.modEng m Engine.woken)).modEng e (fun x =>
      x.beginFetch (BitVec.ofNat 16 ((s.forAll (s.members e) (fun acc m => acc.modEng m Engine.woken)).fld F.CE_PC_SPC e)))).modGang e
      (fun g => { g with woke := true })).atTime (at' - 96) := by
    unfold State.gangWake
    simp only [hstart]
    exact if_pos ⟨harmed, by simp [hwoke], hlead⟩
  have heng := eng_forAll_modEng (f := Engine.woken) (fun _ => rfl) (s.members e) s
  obtain ⟨es, hes⟩ := forAll_modEng_engines Engine.woken (s.members e) s
  rw [hwake]
  generalize s.forAll (s.members e) (fun acc m => acc.modEng m Engine.woken) = u at heng hes
  have hself : u.eng e = (s.eng e).woken := by rw [heng, if_pos (mem_members_self s e)]
  have hspc : u.fld F.CE_PC_SPC e = s.fld F.CE_PC_SPC e := by rw [hes]; rfl
  have hled : (((u.modEng e (fun x => x.beginFetch (BitVec.ofNat 16 (u.fld F.CE_PC_SPC e)))).modGang e
      (fun g => { g with woke := true })).atTime (at' - 96)).eng e =
      { (s.eng e).woken.beginFetch (BitVec.ofNat 16 (s.fld F.CE_PC_SPC e)) with gang := { (s.eng e).gang with woke := true } } := by
    rw [atTime_eng, State.modGang, State.modEng, eng_setEng_same, State.modEng, eng_setEng_same, hself, hspc]
    rfl
  have hmember (m : Nat) (hm : m ≠ e) : (((u.modEng e (fun x => x.beginFetch (BitVec.ofNat 16 (u.fld F.CE_PC_SPC e)))).modGang e
      (fun g => { g with woke := true })).atTime (at' - 96)).eng m = u.eng m := by
    rw [atTime_eng, State.modGang, State.modEng, eng_setEng_other hm, State.modEng, eng_setEng_other hm]
  rw [beginFetch_eq] at hled
  refine ⟨?_, ?_, ?_, ?_, fun m hm => ?_, fun m hm => ?_, ?_⟩
  · rw [hled]
  · rw [hled]
  · rw [hled]
  · rw [hled]
  · rcases eq_or_ne m e with rfl | hne
    · rw [hled]
      exact ⟨rfl, rfl, rfl⟩
    · rw [hmember m hne, heng, if_pos hm]
      exact ⟨rfl, rfl, rfl⟩
  · rw [hmember m (by rintro rfl; exact hm (mem_members_self s m)), heng, if_neg hm]
  · rw [hes]
    rfl

/-! ### Single engines -/

/-- R41, R61: the oldest load's data. -/
theorem loadReturn_eq {l : LoadReq} {ls : List LoadReq} (hloads : (s.eng e).loads = l :: ls) (hdue : (s.eng e).loadDue = true)
    (hend : (s.eng e).ending ≠ .reti) : OnlyEngine s e
      { s.eng e with d := (s.eng e).d.set l.reg.toNat l.data 0, dp := (s.eng e).dp.set l.reg.toNat l.poison false, loads := ls }
      (s.loadReturn e) := by
  have htake : (s.eng e).takeLoad =
      { s.eng e with d := (s.eng e).d.set l.reg.toNat l.data 0, dp := (s.eng e).dp.set l.reg.toNat l.poison false, loads := ls } := by
    unfold Engine.takeLoad
    rw [hloads]
    rfl
  have hstays : (s.modEng e Engine.takeLoad).settleReti e = s.modEng e Engine.takeLoad :=
    settleReti_of_ending (by rw [State.modEng, eng_setEng_same, htake]; exact hend)
  rw [State.loadReturn, if_pos hdue, hstays, ← htake]
  exact onlyEngine_modEng ..

/-- R74: x past the barrier. -/
def Engine.released (x : Engine) : Engine :=
  { x with arrived := false, mode := if x.mode = .sync then .analysis else x.mode, syncDone := x.mode == .sync || x.syncDone }

theorem released_idem (x : Engine) : x.released.released = x.released := by
  unfold Engine.released
  by_cases h : x.mode = .sync <;> simp [h]

theorem released_of_mode {x : Engine} (h : x.mode = .analysis ∨ x.mode = .sync) :
    x.released = { x with arrived := false, mode := .analysis, syncDone := x.mode == .sync || x.syncDone } := by
  unfold Engine.released
  rcases h with h | h
  · rw [h]; rfl
  · rw [h]; rfl

/-- Settles O16: each event is its function of one engine, or of the members of a gang; the handler's entry drains a pipeline that has at
most a SYNC in it. -/
theorem engineEventsTakeEffect : Obligations.EngineEventsTakeEffect := by
  unfold Obligations.EngineEventsTakeEffect
  intro s e hlive
  dsimp only
  refine ⟨fun at' hstart harmed hwoke hlead => ?_, fun l ls hloads hdue hend => ?_, fun src i hsignal => ?_, ?_, fun harrived => ?_,
    fun k hk hie hend hloads hrestl h3 h4 h5 h6 hat => ?_⟩
  · have h := gangWake_woken hstart harmed hwoke hlead
    exact answers_inDom (f := fun s => s.gangWake e) rfl hlive (by rw [h.rest])
      ⟨h.gang, h.fetching, h.pc, h.next, h.members, h.others, h.rest⟩
  · exact answers_onlyEngine (f := fun s => s.loadReturn e) rfl hlive (loadReturn_eq hloads hdue hend)
  · have hfault : s.gangFaultArrives e = s.enterFault e ⟨0x0B, 5⟩ src i := by
      unfold State.gangFaultArrives
      rw [hsignal]
    have hrest := enterFault_rest s e.val ⟨0x0B, 5⟩ src i
    refine answers_inDom (f := fun s => s.gangFaultArrives e) rfl hlive ?_ ?_
    · rw [hfault, hrest]
    · rw [hfault, enterFault_eng]
      exact ⟨rfl, rfl, rfl, enterFault_record .., fun m hm => enterFault_other s e.val _ src i hm⟩
  · exact answers_onlyEngine (f := fun s => s.failFlagSet e) rfl hlive (onlyEngine_modEng ..)
  · have hrelease : s.syncRelease e = s.forAll ((s.gangOf e).filter (fun m => (s.eng m).mode == .analysis || (s.eng m).mode == .sync))
        (fun acc m => acc.modEng m Engine.released) := by
      unfold State.syncRelease
      exact if_pos (List.all_eq_true.2 harrived)
    have hmode (m : Nat) (hm : m ∈ (s.gangOf e).filter (fun m => (s.eng m).mode == .analysis || (s.eng m).mode == .sync)) :
        (s.eng m).mode = .analysis ∨ (s.eng m).mode = .sync := by simpa using (List.mem_filter.1 hm).2
    generalize (s.gangOf e).filter (fun m => (s.eng m).mode == .analysis || (s.eng m).mode == .sync) = ms at hrelease hmode
    have heng := eng_forAll_modEng released_idem ms s
    obtain ⟨es, hes⟩ := forAll_modEng_engines Engine.released ms s
    refine answers_inDom (f := fun s => s.syncRelease e) rfl hlive (by rw [hrelease, hes]) ?_
    rw [hrelease]
    exact ⟨fun m hm => by rw [heng, if_pos hm, released_of_mode (hmode m hm)], fun m hm => by rw [heng, if_neg hm], by rw [hes]⟩
  · obtain ⟨h, hpending⟩ := interruptEntry_fetched (s := s) (e := e) ⟨hie, hend, hloads, hrestl, h3, h4, h5, h6, hat⟩ hk e.isLt
    exact answers_inDom (f := fun s => s.interruptEntry e) rfl hlive hpending
      ⟨h.ipc, h.arrived, h.empty, h.iflags, h.icause, h.ie, h.pend, h.mode, h.pc, h.fetching, h.others⟩

end Sys2Proof.Machine
end

section
/-!
SUPPORT. What the placing of a vector's events reads and writes (R113 to R129): a pin's events depend on its channel, its timing set and
its calibration, and reach no other channel.
-/
namespace Sys2Proof.Machine

open Sys2Proof

variable {s t a b : State} {p : Nat}

/-! ### The channels that a placement reaches -/

/-- From s to t, of the channels, those of A alone change; what placements read of the configuration stays. -/
structure PinsOnly (A : Nat → Prop) (s t : State) : Prop where
  others : ∀ q, ¬ A q → t.chan q = s.chan q
  work : t.work = s.work
  offs : t.offs = s.offs
  cfg : ∀ q, t.reg .PIN_CFG q = s.reg .PIN_CFG q

namespace PinsOnly

variable {A B : Nat → Prop}

theorem refl (s : State) : PinsOnly A s s := ⟨fun _ _ => rfl, rfl, rfl, fun _ => rfl⟩

theorem trans {a b c : State} (h : PinsOnly A a b) (g : PinsOnly A b c) : PinsOnly A a c :=
  ⟨fun q hq => (g.others q hq).trans (h.others q hq), g.work.trans h.work, g.offs.trans h.offs, fun q => (g.cfg q).trans (h.cfg q)⟩

theorem mono (h : PinsOnly A s t) (hAB : ∀ q, A q → B q) : PinsOnly B s t :=
  ⟨fun q hq => h.others q (fun hA => hq (hAB q hA)), h.work, h.offs, h.cfg⟩

theorem fold {α : Type} {f : State → α → State} {xs : List α} (h : ∀ a, ∀ x ∈ xs, PinsOnly A a (f a x)) (s : State) :
    PinsOnly A s (xs.foldl f s) :=
  List.foldlRecOn (motive := PinsOnly A s) xs f (.refl s) (fun a ha x hx => ha.trans (h a x hx))

theorem modChan (s : State) (p : Nat) (f : Channel → Channel) : PinsOnly (· = p) s (s.modChan p f) :=
  ⟨fun _ hq => chan_setChan_other hq s _, rfl, rfl, fun _ => rfl⟩

/-- The pins' status registers are none that a placement reads. -/
theorem setPin {f : Fld} (h : f.reg = .PIN_STATUS ∨ f.reg = .PIN_CNT) (s : State) (v p : Nat) : PinsOnly A s (s.setFld f v p) := by
  have hs : isShadowed f.reg = false := by rcases h with h | h <;> rw [h] <;> rfl
  refine ⟨fun q _ => ?_, ?_, ?_, fun q => ?_⟩
  · rw [setFld_regs hs]
    rfl
  · rw [setFld_regs hs]
  · rw [setFld_regs hs]
  · refine reg_setReg_other ?_ _
    rcases h with h | h
    all_goals
      rw [h]
      simp only [regAddr, regInst, RegId.desc, Block.place]
      omega

theorem noteConflicts (s : State) (p n : Nat) : PinsOnly A s (s.noteConflicts p n) := by
  unfold State.noteConflicts
  split
  · exact .refl s
  · exact (setPin (f := F.PIN_STATUS_EDGECONF) (.inl rfl) s 1 p).trans (setPin (f := F.PIN_CNT_NCONF) (.inr rfl) _ _ p)

theorem placeDrive (s : State) (p : Nat) (ev : PinEvent) : PinsOnly (· = p) s (s.placeDrive p ev) := (modChan ..).trans (noteConflicts ..)

theorem placeEnable (s : State) (p v off : Nat) (up : Bool) : PinsOnly (· = p) s (s.placeEnable p v off up) :=
  (modChan ..).trans (noteConflicts ..)

theorem placeStrobe (s : State) (p v off vec j : Nat) (c : BitVec 4) (expct : Bool) :
    PinsOnly (· = p) s (s.placeStrobe p v off vec j c expct) := by
  unfold State.placeStrobe
  exact modChan ..

theorem raiseIf (c : Prop) [Decidable c] (s : State) (p : Nat) : PinsOnly A s (if c then s else s.raise F.PIN_STATUS_EDGECONF p) := by
  split
  · exact .refl s
  · exact setPin (f := F.PIN_STATUS_EDGECONF) (.inl rfl) s 1 p

theorem placeWindow (s : State) (p v vec : Nat) (q : PinSet) : PinsOnly (· = p) s (s.placeWindow p v vec q) :=
  (modChan s p _).trans (raiseIf ..)

theorem placeEc (s : State) (p v : Nat) (vec : Word48) (q : PinSet) : PinsOnly (· = p) s (s.placeEc p v vec q) := by
  have hraise (c : Prop) [Decidable c] (a : State) : PinsOnly (· = p) a (if c then a.raise F.PIN_STATUS_EDGECONF p else a) := by
    split
    · exact setPin (f := F.PIN_STATUS_EDGECONF) (.inl rfl) a 1 p
    · exact .refl a
  exact (modChan s p _).trans (hraise _ _)

theorem placePin (s : State) (m : MemberSrc) (k : Nat) (code : BitVec 4) (ts : BitVec 6) (v key : Nat) (vec : Word48) :
    PinsOnly (· = 4 * m.eng + k) s (s.placePin m k code ts v key vec) := by
  unfold State.placePin
  dsimp only
  split
  · exact refl s
  · split
    · exact (fold (fun a ev _ => placeDrive a _ ev) s).trans (placeEnable ..)
    · have henable := placeEnable s (4 * m.eng + k) v (s.pinSet m.eng ts.toNat k).e2 false
      split
      · refine henable.trans (fold (fun a n _ => ?_) _)
        exact placeStrobe ..
      · split
        · exact henable.trans (placeWindow ..)
        · split
          · exact henable.trans (placeEc ..)
          · exact henable

end PinsOnly

/-! ### What a placement depends on -/

/-- Pin p's placements read the same in a and b. -/
structure PinAlike (p : Nat) (a b : State) : Prop where
  chan : b.chan p = a.chan p
  work : b.work = a.work
  offs : b.offs = a.offs
  cfg : b.reg .PIN_CFG p = a.reg .PIN_CFG p

namespace PinAlike

theorem refl (s : State) : PinAlike p s s := ⟨rfl, rfl, rfl, rfl⟩

/-- A placement elsewhere keeps what pin p's read. -/
theorem of_other {A : Nat → Prop} (h : PinAlike p s a) (g : PinsOnly A a b) (hp : ¬ A p) : PinAlike p s b :=
  ⟨(g.others p hp).trans h.chan, g.work.trans h.work, g.offs.trans h.offs, (g.cfg p).trans h.cfg⟩

/-- The same placement at pin p in both. -/
theorem step {a' b' : State} {A : Nat → Prop} (h : PinAlike p a b) (ha : PinsOnly A a a') (hb : PinsOnly A b b')
    (hc : b'.chan p = a'.chan p) : PinAlike p a' b' :=
  ⟨hc, hb.work.trans (h.work.trans ha.work.symm), hb.offs.trans (h.offs.trans ha.offs.symm),
    (hb.cfg p).trans (h.cfg.trans (ha.cfg p).symm)⟩

theorem fold {α : Type} {f g : State → α → State} (h : ∀ a b x, PinAlike p a b → PinAlike p (f a x) (g b x)) (xs : List α)
    (hab : PinAlike p a b) : PinAlike p (xs.foldl f a) (xs.foldl g b) := by
  induction xs generalizing a b with
  | nil => exact hab
  | cons x xs ih => exact ih (h a b x hab)

theorem calOff (h : PinAlike p a b) (cls : Nat) : b.calOff p cls = a.calOff p cls := by rw [State.calOff, h.offs]; rfl

theorem fld_cfg (h : PinAlike p a b) {f : Fld} (hf : f.reg = .PIN_CFG) : b.fld f p = a.fld f p := by
  unfold State.fld
  rw [hf]
  exact congrArg _ h.cfg

/-- The timing sets and the sources are shadowed. -/
theorem fld_shadowed (h : PinAlike p a b) {f : Fld} (hf : isShadowed f.reg = true) (i j k : Nat) : b.fld f i j k = a.fld f i j k :=
  congrArg (fldOf f) (reg_of_work h.work hf i j k)

theorem modChan (h : PinAlike p a b) (f : Channel → Channel) : PinAlike p (a.modChan p f) (b.modChan p f) :=
  h.step (.modChan a p f) (.modChan b p f) (by rw [State.modChan, State.modChan, chan_setChan_same, chan_setChan_same, h.chan])

theorem noteConflicts (h : PinAlike p a b) (n : Nat) : PinAlike p (a.noteConflicts p n) (b.noteConflicts p n) := by
  have hchan (s : State) : (s.noteConflicts p n).chan p = s.chan p := (PinsOnly.noteConflicts (A := fun _ => False) s p n).others p id
  exact h.step (.noteConflicts (A := fun _ => False) a p n) (.noteConflicts b p n) (by rw [hchan, hchan, h.chan])

theorem placeDrive (h : PinAlike p a b) (ev : PinEvent) : PinAlike p (a.placeDrive p ev) (b.placeDrive p ev) := by
  unfold State.placeDrive
  rw [h.chan]
  exact (h.modChan _).noteConflicts _

theorem placeEnable (h : PinAlike p a b) (v off : Nat) (up : Bool) : PinAlike p (a.placeEnable p v off up) (b.placeEnable p v off up) := by
  unfold State.placeEnable
  rw [h.chan, h.calOff]
  exact (h.modChan _).noteConflicts _

theorem placeStrobe (h : PinAlike p a b) (v off vec j : Nat) (c : BitVec 4) (expct : Bool) :
    PinAlike p (a.placeStrobe p v off vec j c expct) (b.placeStrobe p v off vec j c expct) := by
  unfold State.placeStrobe
  rw [h.calOff, h.calOff]
  exact h.modChan _

theorem raise (h : PinAlike p a b) : PinAlike p (a.raise F.PIN_STATUS_EDGECONF p) (b.raise F.PIN_STATUS_EDGECONF p) := by
  have hset (s : State) : PinsOnly (fun _ => False) s (s.raise F.PIN_STATUS_EDGECONF p) := .setPin (f := F.PIN_STATUS_EDGECONF) (.inl rfl) s 1 p
  exact h.step (hset a) (hset b) (by rw [(hset a).others p id, (hset b).others p id, h.chan])

theorem placeWindow (h : PinAlike p a b) (v vec : Nat) (q : PinSet) : PinAlike p (a.placeWindow p v vec q) (b.placeWindow p v vec q) := by
  unfold State.placeWindow
  rw [h.chan, h.calOff, h.calOff]
  dsimp only
  split
  · exact h.modChan _
  · exact (h.modChan _).raise

theorem placeEc (h : PinAlike p a b) (v : Nat) (vec : Word48) (q : PinSet) : PinAlike p (a.placeEc p v vec q) (b.placeEc p v vec q) := by
  unfold State.placeEc
  rw [h.fld_cfg rfl, h.chan]
  dsimp only
  rw [h.calOff]
  have hraise (c : Prop) [Decidable c] {a b : State} (h : PinAlike p a b) :
      PinAlike p (if c then a.raise F.PIN_STATUS_EDGECONF p else a) (if c then b.raise F.PIN_STATUS_EDGECONF p else b) := by
    split
    · exact h.raise
    · exact h
  exact hraise _ (h.modChan _)

theorem placePin {m : MemberSrc} {k : Nat} (h : PinAlike (4 * m.eng + k) a b) (code : BitVec 4) (ts : BitVec 6) (v key : Nat)
    (vec : Word48) : PinAlike (4 * m.eng + k) (a.placePin m k code ts v key vec) (b.placePin m k code ts v key vec) := by
  have hset : b.pinSet m.eng ts.toNat k = a.pinSet m.eng ts.toNat k := by
    unfold State.pinSet
    iterate 7 rw [h.fld_shadowed rfl]
  have hbit : b.codeBit m k code = a.codeBit m k code := by
    have hsource : b.sourceBit m k = a.sourceBit m k := by
      funext j
      unfold State.sourceBit
      iterate 2 rw [h.fld_shadowed rfl]
    funext j
    unfold State.codeBit
    rw [hsource]
  have hdrives (q : PinSet) (n : Nat) (bit : Nat → Bool) : b.vectorDrives (4 * m.eng + k) q v n bit = a.vectorDrives (4 * m.eng + k) q v n bit := by
    unfold State.vectorDrives State.driveEvent
    simp only [h.calOff]
  unfold State.placePin
  rw [hset, hbit]
  dsimp only
  rw [hdrives]
  clear hset hbit hdrives
  generalize a.pinSet m.eng ts.toNat k = q
  generalize a.vectorDrives _ q v _ _ = evs
  generalize a.codeBit m k code = bit
  generalize 4 * m.eng + k = p at h ⊢
  split
  · exact h
  · split
    · have hdrives := fold (f := fun acc ev => acc.placeDrive p ev) (g := fun acc ev => acc.placeDrive p ev)
        (fun _ _ ev h => h.placeDrive ev) (eventOrder evs) h
      exact hdrives.placeEnable v q.e1 true
    · have henable := h.placeEnable v q.e2 false
      split
      · exact fold (fun _ _ n h => h.placeStrobe v (q.c1 + n * (q.c2 - q.c1)) key n code (bit n)) _ henable
      · split
        · exact henable.placeWindow ..
        · split
          · exact henable.placeEc ..
          · exact henable

end PinAlike

end Sys2Proof.Machine
end

section
/-!
PROOF. O26: a vector of a running gang (R64, R99, R105 to R108, R120, R122).
-/
namespace Sys2Proof.Machine

open Sys2Proof

variable {s t : State} {e : Nat} {op : PinOp}

/-! ### The events of a vector -/

/-- R64: what member m brings to a vector. -/
def State.memberSrc (s : State) (m : Nat) : MemberSrc :=
  { eng := m, aIn := (List.range 8).map (s.eng m).ra, ao := (s.eng m).ao, dout := (s.eng m).dout, doutP := (s.eng m).doutP }

/-- R105, R120: a vector's events of pin k of a member. -/
def State.vectorPin (s : State) (op : PinOp) (m : MemberSrc) (v key : Nat) (vec : Word48) (k : Nat) : State :=
  (s.modChan (4 * m.eng + k) (fun c => { c with streamed := true, eopOn := false })).placePin m k (pinCode op.codes k) op.ts v key vec

/-- R105, R120: a vector's events of the four pins of a member. -/
def State.vectorPins (s : State) (op : PinOp) (m : MemberSrc) (v key : Nat) (vec : Word48) : State :=
  s.forAll (List.range 4) (fun acc k => acc.vectorPin op m v key vec k)

section
variable (op : PinOp) (m : MemberSrc) (v key : Nat) (vec : Word48)

theorem vectorPin_only (s : State) (k : Nat) : PinsOnly (· = 4 * m.eng + k) s (s.vectorPin op m v key vec k) :=
  (PinsOnly.modChan ..).trans (.placePin ..)

theorem vectorPin_alike {a b : State} {k : Nat} (h : PinAlike (4 * m.eng + k) a b) :
    PinAlike (4 * m.eng + k) (a.vectorPin op m v key vec k) (b.vectorPin op m v key vec k) := (h.modChan _).placePin ..

theorem vectorPins_only (s : State) : PinsOnly (· / 4 = m.eng) s (s.vectorPins op m v key vec) :=
  PinsOnly.fold (fun a k hk => (vectorPin_only op m v key vec a k).mono (by
    have := List.mem_range.1 hk
    omega)) s

/-- A member's pin k takes its events as if they were placed alone. -/
theorem chan_vectorPins {a : State} {k : Nat} (hk : k < 4) (h : PinAlike (4 * m.eng + k) s a) :
    (a.vectorPins op m v key vec).chan (4 * m.eng + k) = (s.vectorPin op m v key vec k).chan (4 * m.eng + k) := by
  refine forAll_at (e := k) (P := fun t => t.chan (4 * m.eng + k) = (s.vectorPin op m v key vec k).chan (4 * m.eng + k))
    (Q := PinAlike (4 * m.eng + k) s) ?_ ?_ ?_ List.nodup_range (List.mem_range.2 hk) h
  · exact fun a n hn ha => ha.of_other (vectorPin_only op m v key vec a n) (by omega)
  · exact fun a ha => (vectorPin_alike op m v key vec ha).chan
  · intro a n hn ha
    exact ((vectorPin_only op m v key vec a n).others _ (by omega)).trans ha

end

/-! ### The acceptance of a vector -/

/-- R122: what the leader keeps of a vector. -/
def State.vectorInfo (s : State) (e : Nat) (op : PinOp) (srcs : List MemberSrc) : VecInfo :=
  { idx := (s.eng e).gang.vidx, v := (s.eng e).gang.nextV, period := s.fld F.TSET_PER_PERIOD e op.ts.toNat, ts := op.ts,
    aIn := srcs.map (·.aIn), ao := srcs.map (·.ao), run := (s.eng e).gang.run, stop := false }

/-- R105: the vector's events at every pin of the gang that e leads. -/
def State.vectorPlaced (s : State) (e : Nat) (op : PinOp) : State :=
  s.forAll (s.members e) (fun acc m => acc.vectorPins op (s.memberSrc m) (s.eng e).gang.nextV
    (vecKey e (s.eng e).gang.run (s.eng e).gang.vidx) (s.eng e).gang.vidx)

/-- R106: the leader's gang moves on. -/
def Engine.onward (x : Engine) (per : Nat) (vi : VecInfo) : Engine :=
  { x with gang := { x.gang with vidx := x.gang.vidx + 1, nextV := x.gang.nextV + per, vecs := x.gang.vecs ++ [vi],
                                 pausedEnd := x.gang.nextV + per } }

/-- R99: MARK raises the trigger. -/
def Engine.marked (x : Engine) : Engine := { x with trig := true, trigCnt := x.trigCnt + 1 }

/-- R106, R122: u, with the gang that e leads moved on behind the vector that s issues. -/
def State.movedOn (u s : State) (e : Nat) (op : PinOp) : State :=
  u.nextVector e (s.fld F.TSET_PER_PERIOD e op.ts.toNat) (s.eng e).gang (s.vectorInfo e op ((s.members e).map s.memberSrc))

theorem vectorPlaced_change (s : State) (e : Nat) (op : PinOp) : PinChange s (s.vectorPlaced e op) :=
  PinChange.fold (fun a _ => PinChange.fold (fun _ _ => (PinChange.modChan ..).trans (.placePin ..)) _ a) _ s

/-- R105: each pin of the gang takes its own events, and no other channel changes. -/
theorem chan_vectorPlaced {m k : Nat} (hm : m ∈ s.members e) (hk : k < 4) : (s.vectorPlaced e op).chan (4 * m + k) =
    (s.vectorPin op (s.memberSrc m) (s.eng e).gang.nextV (vecKey e (s.eng e).gang.run (s.eng e).gang.vidx) (s.eng e).gang.vidx k).chan
      (4 * m + k) := by
  unfold State.vectorPlaced
  generalize (s.eng e).gang.nextV = v
  generalize vecKey e (s.eng e).gang.run (s.eng e).gang.vidx = key
  generalize (s.eng e).gang.vidx = vec
  refine forAll_at (e := m)
    (P := fun t => t.chan (4 * m + k) = (s.vectorPin op (s.memberSrc m) v key vec k).chan (4 * m + k))
    (Q := PinAlike (4 * m + k) s) ?_ ?_ ?_ (members_nodup s e) hm (.refl s)
  · intro a n hn ha
    refine ha.of_other (vectorPins_only op (s.memberSrc n) v key vec a) (fun h : (4 * m + k) / 4 = n => hn ?_)
    omega
  · exact fun a ha => chan_vectorPins op (s.memberSrc m) v key vec hk ha
  · intro a n hn ha
    refine ((vectorPins_only op (s.memberSrc n) v key vec a).others _ (fun h : (4 * m + k) / 4 = n => hn ?_)).trans ha
    omega

theorem chan_vectorPlaced_other {p : Nat} (hp : p ∉ s.gangPins e) : (s.vectorPlaced e op).chan p = s.chan p := by
  refine (PinsOnly.fold (A := fun p => p / 4 ∈ s.members e) (fun a m hm => ?_) s).others p (fun h => hp (mem_gangPins.2 h))
  refine (vectorPins_only op (s.memberSrc m) _ _ _ a).mono (fun q hq => ?_)
  have hq : q / 4 = m := hq
  rw [hq]
  exact hm

theorem acceptVector_parts (s : State) (e : Nat) (op : PinOp) : s.acceptVector e op ((s.members e).map s.memberSrc) false =
    (((s.vectorPlaced e op).movedOn s e op).markVector op ((s.members e).map s.memberSrc)).atTime ((s.eng e).gang.nextV / 512 - 128) := by
  have hplaced : s.vectorPlaced e op = s.placeVector op ((s.members e).map s.memberSrc) (s.eng e).gang.nextV
      (vecKey e (s.eng e).gang.run (s.eng e).gang.vidx) (s.eng e).gang.vidx := by
    unfold State.placeVector
    rw [List.foldl_map]
    rfl
  rw [hplaced]
  rfl

/-! ### What a vector leaves -/

/-- Engine m behind a vector of the gang that e leads, before a MARK raises its trigger. -/
def State.engIssued (s : State) (e : Nat) (op : PinOp) (m : Nat) : Engine :=
  if m = e then (s.eng e).onward (s.fld F.TSET_PER_PERIOD e op.ts.toNat) (s.vectorInfo e op ((s.members e).map s.memberSrc)) else s.eng m

/-- What the acceptance of a vector leaves. -/
structure Accepted (s : State) (e : Nat) (op : PinOp) (t : State) : Prop where
  eng : ∀ m, t.eng m = if op.mode = 2 ∧ m ∈ s.members e then (s.engIssued e op m).marked else s.engIssued e op m
  chans : t.chans = (s.vectorPlaced e op).chans
  pending : t.pending = s.pending

theorem acceptVector_accepted (s : State) (e : Nat) (op : PinOp) :
    Accepted s e op (s.acceptVector e op ((s.members e).map s.memberSrc) false) := by
  rw [acceptVector_parts]
  have hplaced := vectorPlaced_change s e op
  generalize hu : s.vectorPlaced e op = u at hplaced
  have hnext (m : Nat) : (u.movedOn s e op).eng m = s.engIssued e op m := by
    unfold State.movedOn State.nextVector State.engIssued
    by_cases hm : m = e
    · rw [hm, State.modEng, eng_setEng_same, hplaced.eng, if_pos rfl]
      rfl
    · rw [State.modEng, eng_setEng_other hm, hplaced.eng, if_neg hm]
  have hpending : u.pending = s.pending := by
    obtain ⟨c, r, h⟩ := hplaced
    rw [h]
  have hkeep : (u.movedOn s e op).chans = u.chans ∧ (u.movedOn s e op).pending = u.pending := ⟨rfl, rfl⟩
  generalize u.movedOn s e op = w at hnext hkeep
  have hmark : w.markVector op ((s.members e).map s.memberSrc) =
      if op.mode = 2 then w.forAll (s.members e) (fun acc m => acc.modEng m Engine.marked) else w := by
    unfold State.markVector
    rw [List.foldl_map]
    rfl
  rw [hmark]
  refine ⟨fun m => ?_, ?_, ?_⟩
  · rw [atTime_eng]
    by_cases h2 : op.mode = 2
    · have hself (a : State) (n : Nat) : (a.modEng n Engine.marked).eng n = (a.eng n).marked := eng_setEng_same ..
      have hother (a : State) (n k : Nat) (hk : k ≠ n) : (a.modEng n Engine.marked).eng k = a.eng k := eng_setEng_other hk _
      rw [if_pos h2, get_forAll (get := State.eng) (h := fun _ => Engine.marked) hself hother (members_nodup s e), hnext]
      simp [h2]
    · rw [if_neg h2, hnext, if_neg (fun h => h2 h.1)]
  · rw [atTime_chans]
    split
    · rw [forAll_keeps State.chans (fun _ _ => by rfl), hkeep.1, hu]
    · rw [hkeep.1, hu]
  · rw [atTime_pending]
    split
    · rw [forAll_keeps State.pending (fun _ _ => by rfl), hkeep.2, hpending]
    · exact hkeep.2.trans hpending

/-- R61, R65, R112: a vector that no member refuses is accepted. -/
theorem opVector_of_good (ix : BAddr) (hlead : s.leader e = e) (hstream : (s.eng e).mode = .stream) (hbad : badPinCode op = false)
    (hgood : ∀ m ∈ s.members e, s.vectorRefused e m op = false ∧ s.poisonedSource (s.memberSrc m) op = false) :
    s.opVector e ix op =
      if op.mode = 1 then (s.acceptVector e op ((s.members e).map s.memberSrc) false).pauseAll (s.members e)
      else s.acceptVector e op ((s.members e).map s.memberSrc) false := by
  have hrun : ¬ (s.leader e ≠ e ∨ (!(s.streaming e)) = true) := by
    unfold State.streaming
    simp [hlead, hstream]
  have hnone : (((s.members e).map s.memberSrc).filterMap (fun m =>
      (firstFlt [(s.poisonedSource m op, 7, 4), (badPinCode op, 1, 4), (s.vectorRefused e m.eng op, 10, 4)]).map
        (fun f => (m.eng, f)))) = [] := by
    refine List.filterMap_eq_nil_iff.2 fun src hsrc => ?_
    obtain ⟨m, hm, rfl⟩ := List.mem_map.1 hsrc
    obtain ⟨hrefused, hpoisoned⟩ := hgood m hm
    have hrefused : s.vectorRefused e (s.memberSrc m).eng op = false := hrefused
    rw [hrefused, hpoisoned, hbad]
    rfl
  unfold State.opVector
  rw [if_neg hrun]
  refine (if_neg (fun h => h hnone)).trans ?_
  rfl

/-- What a vector of any mode leaves of the gang that e leads. -/
structure VectorIssued (s : State) (e : Nat) (op : PinOp) (t : State) : Prop where
  gang : (t.eng e).gang = ((s.eng e).onward (s.fld F.TSET_PER_PERIOD e op.ts.toNat)
    (s.vectorInfo e op ((s.members e).map s.memberSrc))).gang
  chans : t.chans = (s.vectorPlaced e op).chans
  others : ∀ m, m ∉ s.members e → t.eng m = s.eng m
  pending : t.pending = s.pending

theorem engIssued_rest (s : State) (e : Nat) (op : PinOp) (m : Nat) :
    (s.engIssued e op m).mode = (s.eng m).mode ∧ (s.engIssued e op m).trigCnt = (s.eng m).trigCnt := by
  unfold State.engIssued
  by_cases hm : m = e
  · rw [if_pos hm, hm]
    exact ⟨rfl, rfl⟩
  · rw [if_neg hm]
    exact ⟨rfl, rfl⟩

theorem Accepted.issued (h : Accepted s e op t) : VectorIssued s e op t := by
  refine ⟨?_, h.chans, fun m hm => ?_, h.pending⟩
  · have hself : s.engIssued e op e = (s.eng e).onward (s.fld F.TSET_PER_PERIOD e op.ts.toNat)
        (s.vectorInfo e op ((s.members e).map s.memberSrc)) := if_pos rfl
    rw [h.eng, hself]
    split
    · rfl
    · rfl
  · rw [h.eng, if_neg (fun h => hm h.2), State.engIssued, if_neg (by rintro rfl; exact hm (mem_members_self s m))]

theorem VectorIssued.pauseAll (h : VectorIssued s e op t) : VectorIssued s e op (t.pauseAll (s.members e)) := by
  refine ⟨?_, ?_, fun m hm => ?_, ?_⟩
  · rw [eng_pauseAll, if_pos (mem_members_self s e)]
    exact h.gang
  · exact (forAll_keeps State.chans (fun _ _ => by rfl) _ t).trans h.chans
  · rw [eng_pauseAll, if_neg hm, h.others m hm]
  · exact (forAll_keeps State.pending (fun _ _ => by rfl) _ t).trans h.pending

/-- A vector that is issued is the leader's next, with its events at the gang's pins. -/
theorem VectorIssued.statement (h : VectorIssued s e op t) :
    (t.eng e).gang.vidx = (s.eng e).gang.vidx + 1 ∧
    (t.eng e).gang.nextV = (s.eng e).gang.nextV + s.fld F.TSET_PER_PERIOD e op.ts.toNat ∧
    (∃ v, (t.eng e).gang.vecs = (s.eng e).gang.vecs ++ [v] ∧ v.idx = (s.eng e).gang.vidx ∧ v.v = (s.eng e).gang.nextV ∧
      v.period = s.fld F.TSET_PER_PERIOD e op.ts.toNat ∧ v.ts = op.ts ∧ v.run = (s.eng e).gang.run ∧
      v.ao = (s.members e).map (fun m => (s.eng m).ao)) ∧
    (∀ m ∈ s.members e, ∀ k : Nat, k < 4 → t.chan (4 * m + k) =
      (s.vectorPin op (s.memberSrc m) (s.eng e).gang.nextV (vecKey e (s.eng e).gang.run (s.eng e).gang.vidx) (s.eng e).gang.vidx k).chan
        (4 * m + k)) ∧
    (∀ p : Nat, p ∉ s.gangPins e → t.chan p = s.chan p) ∧ (∀ m : Nat, m ∉ s.members e → t.eng m = s.eng m) := by
  have hchan (p : Nat) : t.chan p = (s.vectorPlaced e op).chan p := by
    unfold State.chan
    rw [h.chans]
  rw [h.gang]
  refine ⟨rfl, rfl, ⟨_, rfl, rfl, rfl, rfl, rfl, rfl, List.map_map⟩, fun m hm k hk => ?_, fun p hp => ?_, h.others⟩
  · rw [hchan, chan_vectorPlaced hm hk]
  · rw [hchan, chan_vectorPlaced_other hp]

/-- Settles O26: a vector's events are placed pin by pin, and no pin's events depend on another's. -/
theorem vectorsAreIssuedInOrder : Obligations.VectorsAreIssuedInOrder := by
  unfold Obligations.VectorsAreIssuedInOrder
  intro s e ix codes ts hlive hlead hstream g per src good issued hbad
  have haccepted (mode : BitVec 2) := acceptVector_accepted s e { codes := codes, ts := ts, mode := mode }
  refine ⟨fun hgood => ?_, fun hgood => ?_, fun hgood => ?_⟩
  · have hop := opVector_of_good (op := { codes := codes, ts := ts, mode := 0 }) ix hlead hstream hbad hgood
    have ht := haccepted 0
    rw [if_neg (show ¬ (0 : BitVec 2) = 1 by decide)] at hop
    refine answers_inDom (f := fun s => s.opVector e ix { codes := codes, ts := ts, mode := 0 }) rfl hlive (by rw [hop, ht.pending]) ?_
    rw [hop]
    refine ⟨ht.issued.statement, fun m _ => ?_⟩
    rw [ht.eng, if_neg (fun h => absurd h.1 (show ¬ (0 : BitVec 2) = 2 by decide))]
    exact engIssued_rest ..
  · have hop := opVector_of_good (op := { codes := codes, ts := ts, mode := 1 }) ix hlead hstream hbad hgood
    have ht := (haccepted 1).issued.pauseAll
    rw [if_pos rfl] at hop
    refine answers_inDom (f := fun s => s.opVector e ix { codes := codes, ts := ts, mode := 1 }) rfl hlive (by rw [hop, ht.pending]) ?_
    rw [hop]
    refine ⟨ht.statement, fun m hm => ?_⟩
    rw [eng_pauseAll, if_pos hm]
  · have hop := opVector_of_good (op := { codes := codes, ts := ts, mode := 2 }) ix hlead hstream hbad hgood
    have ht := haccepted 2
    rw [if_neg (show ¬ (2 : BitVec 2) = 1 by decide)] at hop
    refine answers_inDom (f := fun s => s.opVector e ix { codes := codes, ts := ts, mode := 2 }) rfl hlive (by rw [hop, ht.pending]) ?_
    rw [hop]
    refine ⟨ht.issued.statement, fun m hm => ?_⟩
    obtain ⟨hmode, htrig⟩ := engIssued_rest s e { codes := codes, ts := ts, mode := 2 } m
    rw [ht.eng, if_pos ⟨rfl, hm⟩]
    exact ⟨hmode, rfl, congrArg (· + 1) htrig⟩

end Sys2Proof.Machine
end

section
/-!
PROOF. O7, O8: the slots of a bundle hold their operations, and decoding a slot undoes its encoding and nothing else (R83, R84, R86,
R90, R93, R96, R99).
-/
namespace Sys2Proof.Machine

open Sys2Proof

/-! ### Fields of a slot -/

section
variable {k lo : Nat} {b : BitVec k}

/-- Two fields side by side are one field: the rule that takes an encoded slot apart into the equations of its fields. -/
theorem append_eq_sl_iff {n m : Nat} {x : BitVec n} {y : BitVec m} :
    @Eq (no_index (BitVec (n + m))) (no_index (x ++ y)) (no_index (sl b lo (n + m))) ↔ x = sl b (lo + m) n ∧ y = sl b lo m := by
  have hjoin : sl b (lo + m) n ++ sl b lo m = sl b lo (n + m) := BitVec.extractLsb'_append_extractLsb'_eq_extractLsb' rfl
  refine ⟨fun h => ?_, fun ⟨hx, hy⟩ => by rw [hx, hy, hjoin]⟩
  rw [← hjoin] at h
  exact ⟨by simpa only [BitVec.extractLsb'_append_eq_left] using congrArg (BitVec.extractLsb' m n) h,
    by simpa only [BitVec.extractLsb'_append_eq_right] using congrArg (BitVec.extractLsb' 0 m) h⟩

theorem sl_eq_zero_iff {n m : Nat} : sl b lo (n + m) = 0 ↔ sl b (lo + m) n = 0 ∧ sl b lo m = 0 := by
  simp only [eq_comm (b := (0 : BitVec _))]
  rw [← append_eq_sl_iff]
  exact Eq.congr_left BitVec.zero_append_zero.symm

theorem extractLsb'_sl {lo v w : Nat} (h : lo + w ≤ v) : BitVec.extractLsb' lo w (sl b 0 v) = sl b lo w :=
  BitVec.extractLsb'_extractLsb'_of_le h

/-- An opcode as decoding reads it is the field's bits. -/
theorem ofNat_eq_sl {w op : Nat} (h : (sl b lo w).toNat = op) : BitVec.ofNat w op = sl b lo w := by
  rw [← h, BitVec.ofNat_toNat, BitVec.setWidth_eq]

theorem bitv_sb (b : BitVec k) (i : Nat) : bitv (sb b i) = sl b i 1 := by
  rw [sb, BitVec.getLsbD_eq_extractLsb', sl]
  obtain h | h := BitVec.eq_zero_or_eq_one (b.extractLsb' i 1)
  · rw [h]; rfl
  · rw [h]; rfl

end

theorem bitv_false : bitv false = 0 := rfl

/-- R93: the common fields of CMPD, of which decoding asks in one that they be zero. -/
theorem cmpdFields_eq_zero_iff {b : BitVec 24} : sl b 13 6 = 0 ↔ sl b 18 1 = 0 ∧ sl b 17 1 = 0 ∧ sl b 13 4 = 0 :=
  (sl_eq_zero_iff (n := 1) (m := 5)).trans (and_congr_right' (sl_eq_zero_iff (n := 1) (m := 4)))

section
variable {α : Type} {x y : α}

theorem onlyIf_zero_eq_some_iff {w : Nat} {f : BitVec w} : onlyIf (f == 0) x = some y ↔ f = 0 ∧ x = y := by
  simp [onlyIf]

theorem okOnly_eq_some_iff {ok : α → Bool} {o : Option α} : okOnly ok o = some x ↔ o = some x ∧ ok x = true :=
  Option.filter_eq_some_iff

end

/-! ### What an encoded slot decodes to -/

theorem decodeAgen_encodeAgen {op : AgenOp} (hok : op.ok = true) : decodeAgen (encodeAgen op) = some op := by
  refine okOnly_eq_some_iff.2 ⟨?_, hok⟩
  cases op
  case nop => rfl
  all_goals simp [encodeAgen, sl_append_high, sl_append_low, sl_self, onlyIf, sb_append, sb_bitv]

theorem decodeDgen_encodeDgen {op : DgenOp} (hok : op.ok = true) : decodeDgen (encodeDgen op) = some op := by
  refine okOnly_eq_some_iff.2 ⟨?_, hok⟩
  cases op
  case nop => rfl
  case ldi w imm | cat w imm =>
    have himm : imm.extractLsb' 9 4 ++ imm.extractLsb' 0 9 = imm := BitVec.extractLsb'_append_extractLsb'
    simp [encodeDgen, dgenBits, sl_append_high, sl_append_low, sl_self, sb_append, sb_bitv, himm]
  case cmpd sa sb n cc =>
    have hzero : sl (encodeDgen (.cmpd sa sb n cc)) 13 6 = 0 := by
      rw [cmpdFields_eq_zero_iff]
      simp [encodeDgen, dgenBits, sl_append_high, sl_append_low, sl_self, bitv_false]
    rw [hzero]
    simp [encodeDgen, dgenBits, sl_append_high, sl_append_low, sl_self, onlyIf]
  all_goals simp [encodeDgen, dgenBits, sl_append_high, sl_append_low, sl_self, onlyIf, sb_append, sb_bitv]

theorem decodeMac_encodeMac {op : MacOp} (hok : op.ok = true) : decodeMac (encodeMac op) = some op := by
  refine okOnly_eq_some_iff.2 ⟨?_, hok⟩
  cases op
  case nop => rfl
  all_goals simp [encodeMac, sl_append_high, sl_append_low, sl_self, onlyIf, sb_append, sb_bitv]

theorem decodePin_encodePin {op : PinOp} (hok : op.ok = true) : decodePin (encodePin op) = some op := by
  refine okOnly_eq_some_iff.2 ⟨?_, hok⟩
  simp [encodePin, sl_append_high, sl_append_low, sl_self]

/-! ### What a decoded slot was encoded from

An opcode without a row in the table decodes to nothing, an opcode with fields that are not used asks that they be zero, and
append_eq_sl_iff compares the encoding with the slot field by field. -/

theorem encodeFlow_of_decodeFlow {b : BitVec 32} {op : FlowOp} (h : decodeFlow b = some op) : encodeFlow op = b := by
  rw [decodeFlow] at h
  rw [← sl_self b]
  split at h
  case h_17 => cases h
  all_goals
    rename_i hop
    replace hop := ofNat_eq_sl hop
  -- LOOPI and SETL use every bit
  case h_8 | h_11 =>
    cases h
    simp [encodeFlow, append_eq_sl_iff, hop]
  -- NOP, RET, HALT, ENTA, POPL, SYNC and RETI have no operand
  case h_1 | h_5 | h_6 | h_7 | h_10 | h_13 | h_16 =>
    obtain ⟨hzero, rfl⟩ := onlyIf_zero_eq_some_iff.1 h
    exact append_eq_sl_iff.2 ⟨hop, hzero.symm⟩
  all_goals
    obtain ⟨hzero, rfl⟩ := onlyIf_zero_eq_some_iff.1 h
    simp [encodeFlow, append_eq_sl_iff, bitv_sb, hop, hzero]

theorem encodeAgen_of_decodeAgen {b : BitVec 24} {op : AgenOp} (h : decodeAgen b = some op) : encodeAgen op = b ∧ op.ok = true := by
  obtain ⟨h, hok⟩ := okOnly_eq_some_iff.1 h
  refine ⟨?_, hok⟩
  rw [← sl_self b]
  split at h
  case h_10 => cases h
  all_goals
    rename_i hop
    replace hop := ofNat_eq_sl hop
  case h_1 =>
    obtain ⟨hzero, rfl⟩ := onlyIf_zero_eq_some_iff.1 h
    exact append_eq_sl_iff.2 ⟨hop, hzero.symm⟩
  -- AOUT, MOVD and ADVA have bits that are not used
  case h_2 | h_6 | h_7 =>
    obtain ⟨hzero, rfl⟩ := onlyIf_zero_eq_some_iff.1 h
    simp [encodeAgen, append_eq_sl_iff, bitv_sb, hop, hzero]
  all_goals
    cases h
    simp [encodeAgen, append_eq_sl_iff, bitv_sb, hop]

theorem encodeDgen_of_decodeDgen {b : BitVec 24} {op : DgenOp} (h : decodeDgen b = some op) : encodeDgen op = b ∧ op.ok = true := by
  obtain ⟨h, hok⟩ := okOnly_eq_some_iff.1 h
  refine ⟨?_, hok⟩
  rw [← sl_self b]
  split at h
  case h_21 => cases h
  all_goals
    rename_i hop
    replace hop := ofNat_eq_sl hop
  case h_1 =>
    obtain ⟨hzero, rfl⟩ := onlyIf_zero_eq_some_iff.1 h
    exact append_eq_sl_iff.2 ⟨hop, hzero.symm⟩
  -- LDI and CAT: the immediate stands in SA and the operation bits
  case h_12 | h_13 =>
    cases h
    simp [encodeDgen, dgenBits, append_eq_sl_iff, bitv_sb, extractLsb'_sl, hop]
  -- CMPD: the common fields are zero
  case h_20 =>
    obtain ⟨hzero, rfl⟩ := onlyIf_zero_eq_some_iff.1 h
    obtain ⟨hwo, hwr, hdst⟩ := cmpdFields_eq_zero_iff.1 hzero
    simp [encodeDgen, dgenBits, append_eq_sl_iff, bitv_false, hop, hwo, hwr, hdst]
  all_goals
    obtain ⟨hzero, rfl⟩ := onlyIf_zero_eq_some_iff.1 h
    simp [encodeDgen, dgenBits, append_eq_sl_iff, bitv_sb, hop, hzero]

theorem encodeMac_of_decodeMac {b : BitVec 24} {op : MacOp} (h : decodeMac b = some op) : encodeMac op = b ∧ op.ok = true := by
  obtain ⟨h, hok⟩ := okOnly_eq_some_iff.1 h
  refine ⟨?_, hok⟩
  rw [← sl_self b]
  split at h
  case h_10 => cases h
  all_goals
    rename_i hop
    replace hop := ofNat_eq_sl hop
  case h_1 =>
    obtain ⟨hzero, rfl⟩ := onlyIf_zero_eq_some_iff.1 h
    exact append_eq_sl_iff.2 ⟨hop, hzero.symm⟩
  -- MCLR, MLDA, MMOV and MCMP have bits that are not used
  case h_6 | h_7 | h_8 | h_9 =>
    obtain ⟨hzero, rfl⟩ := onlyIf_zero_eq_some_iff.1 h
    simp [encodeMac, append_eq_sl_iff, bitv_sb, hop, hzero]
  all_goals
    cases h
    simp [encodeMac, append_eq_sl_iff, bitv_sb, hop]

theorem encodePin_of_decodePin {b : BitVec 24} {op : PinOp} (h : decodePin b = some op) : encodePin op = b ∧ op.ok = true := by
  obtain ⟨h, hok⟩ := okOnly_eq_some_iff.1 h
  refine ⟨?_, hok⟩
  rw [← sl_self b]
  cases h
  simp [encodePin, append_eq_sl_iff]

/-- Settles O8: each field of a slot is an operand, the opcode or a field that decoding asks to be zero. -/
theorem decodedSlotsEncodeBack : Obligations.DecodedSlotsEncodeBack :=
  ⟨fun _ _ => encodeFlow_of_decodeFlow, fun _ _ => encodeAgen_of_decodeAgen, fun _ _ => encodeDgen_of_decodeDgen,
    fun _ _ => encodeMac_of_decodeMac, fun _ _ => encodePin_of_decodePin⟩

/-! ### The slots of a bundle (R83) -/

section
variable (f : FlowOp) (a : AgenOp) (d : DgenOp) (m : MacOp) (p : PinOp)

@[simp] theorem flowBits_encodeBundle : flowBits (encodeBundle f a d m p) = encodeFlow f := BitVec.extractLsb'_append_eq_left

@[simp] theorem agenBits_encodeBundle : agenBits (encodeBundle f a d m p) = encodeAgen a :=
  (sl_append_low _ _ (by decide)).trans BitVec.extractLsb'_append_eq_left

@[simp] theorem dgenSlotBits_encodeBundle : dgenSlotBits (encodeBundle f a d m p) = encodeDgen d :=
  (sl_append_low _ _ (by decide)).trans ((sl_append_low _ _ (by decide)).trans BitVec.extractLsb'_append_eq_left)

@[simp] theorem macBits_encodeBundle : macBits (encodeBundle f a d m p) = encodeMac m :=
  (sl_append_low _ _ (by decide)).trans ((sl_append_low _ _ (by decide)).trans
    ((sl_append_low _ _ (by decide)).trans BitVec.extractLsb'_append_eq_left))

@[simp] theorem pinBits_encodeBundle : pinBits (encodeBundle f a d m p) = encodePin p :=
  (sl_append_low _ _ (by decide)).trans ((sl_append_low _ _ (by decide)).trans
    ((sl_append_low _ _ (by decide)).trans BitVec.extractLsb'_append_eq_right))

end

/-- Settles O7: a bundle's slots are the encodings of its operations, and each decodes to what it was encoded from. -/
theorem bundleSlotsDecodeAsEncoded : Obligations.BundleSlotsDecodeAsEncoded := by
  unfold Obligations.BundleSlotsDecodeAsEncoded
  intro f a d m p
  simp only [flowBits_encodeBundle, agenBits_encodeBundle, dgenSlotBits_encodeBundle, macBits_encodeBundle, pinBits_encodeBundle]
  exact ⟨decodeFlow_encodeFlow f, decodeAgen_encodeAgen, decodeDgen_encodeDgen, decodeMac_encodeMac, decodePin_encodePin⟩

end Sys2Proof.Machine
end

section
/-!
PROOF. O27: events at the balls (R104, R117, R120). O29: TSET_COMMIT and PIN_CFG (R104, R110, R111, R124, R133).
-/
namespace Sys2Proof.Machine

open Sys2Proof

variable {s : State} {mid : MasterId}

/-! ### Events at the balls -/

/-- R120: the drive event at the front is the earliest, or no later than the enable event at the front. -/
theorem ballEvent_of_drive {p : Nat} {d : PinEvent} {q : List PinEvent} (hd : (s.chan p).drvQ = d :: q)
    (hn : ∀ n, (s.chan p).denQ.head? = some n → d.time ≤ n.time) :
    s.ballEvent p = (s.setChan p (s.chan p).takeDrive).atTime (d.time / 512) := by
  unfold State.ballEvent
  cases he : (s.chan p).denQ with
  | nil => simp only [hd, he]
  | cons n r =>
    rw [he] at hn
    simp only [hd, he, hn n rfl, if_true]

/-- R120: the enable event at the front is earlier than the drive event at the front. -/
theorem ballEvent_of_enable {p : Nat} {n : PinEvent} {q : List PinEvent} (hn : (s.chan p).denQ = n :: q)
    (hd : ∀ d, (s.chan p).drvQ.head? = some d → n.time < d.time) :
    s.ballEvent p = (s.setChan p (s.chan p).takeEnable).atTime (n.time / 512) := by
  unfold State.ballEvent
  cases he : (s.chan p).drvQ with
  | nil => simp only [hn, he]
  | cons d r =>
    rw [he] at hd
    simp only [hn, he, Nat.not_le.2 (hd d rfl), if_false]

/-- No event is placed. -/
theorem ballEvent_of_none {p : Nat} (hd : (s.chan p).drvQ = []) (hn : (s.chan p).denQ = []) : s.ballEvent p = s := by
  simp only [State.ballEvent, hd, hn]

/-- Settles O27: the event that acts is the front of one of the two queues, by the order of their times. -/
theorem ballsTakeTheirEventsInOrder : Obligations.BallsTakeTheirEventsInOrder := by
  intro s p hlive c only
  refine ⟨fun d q hd hn => ?_, fun n q hn hd => ?_, fun hd hn => ?_⟩
  · have heq := ballEvent_of_drive hd hn
    refine answers_inDom rfl hlive (by rw [heq]; rfl) ?_
    rw [heq, Channel.takeDrive, hd]
    rfl
  · have heq := ballEvent_of_enable hn hd
    refine answers_inDom rfl hlive (by rw [heq]; rfl) ?_
    rw [heq, Channel.takeEnable, hn]
    rfl
  · have heq := ballEvent_of_none hd hn
    exact answers_inDom rfl hlive (by rw [heq]) heq

/-! ### Timing sets -/

/-- R110: the engine is neither in IDLE nor in FAULT. -/
theorem tsetCommit_of_busy {e : Nat} (hi : (s.eng e).mode ≠ .idle) (hf : (s.eng e).mode ≠ .fault) :
    s.tsetCommit e = s.tsetRefuse e 0 0 6 := by
  simp [State.tsetCommit, hi, hf]

section
variable {e : Nat} (hm : (s.eng e).mode = .idle ∨ (s.eng e).mode = .fault)
include hm

/-- R110: where the mode allows a commit, the first failing check refuses it. -/
theorem tsetCommit_of_fail {ts k c : Nat} (hf : s.tsetFirstFail e = some (ts, k, c)) : s.tsetCommit e = s.tsetRefuse e ts k c := by
  have hguard : ¬ ((s.eng e).mode ≠ .idle ∧ (s.eng e).mode ≠ .fault) := fun h => hm.elim h.1 h.2
  simp only [State.tsetCommit, if_neg hguard, hf]

/-- R110: where no check fails, the block takes its shadows. -/
theorem tsetCommit_of_good (hg : s.tsetFirstFail e = none) : s.tsetCommit e = s.commitBlock .TSET e := by
  have hguard : ¬ ((s.eng e).mode ≠ .idle ∧ (s.eng e).mode ≠ .fault) := fun h => hm.elim h.1 h.2
  simp only [State.tsetCommit, if_neg hguard, hg]

end

/-- R109: the registers of a timing set. -/
def tsetRegs : List RegId := [.TSET_PER, .TSET_FMT, .TSET_D, .TSET_E, .TSET_C]

/-- R109: the registers of the 64 timing sets of an engine have shadows and lie in its block. -/
theorem tsetShadowed_holds {r : RegId} (hr : r ∈ tsetRegs) (e : Nat) {ts k : Nat} (hts : ts < 64) (hk : k < 4) :
    isShadowed r = true ∧ Block.Holds .TSET e (regAddr r e ts k) := by
  simp only [tsetRegs, List.mem_cons, List.not_mem_nil, or_false] at hr
  constructor
  · rcases hr with rfl | rfl | rfl | rfl | rfl <;> rfl
  · simp only [Block.Holds, Block.place, regAddr]
    rcases hr with rfl | rfl | rfl | rfl | rfl
    all_goals
      simp only [regInst, RegId.desc]
      omega

/-- R10, R110: a committed field of a timing set is its shadow's. -/
theorem fld_commitTset {f : Fld} (hf : f.reg ∈ tsetRegs) (e : Nat) {ts k : Nat} (hts : ts < 64) (hk : k < 4) :
    (s.commitBlock .TSET e).fld f e ts k = s.sfld f e ts k := by
  obtain ⟨hshadowed, hin⟩ := tsetShadowed_holds hf e hts hk
  rw [State.fld, reg_commitBlock hshadowed hin, State.sfld]

theorem pinSet_commitTset (e : Nat) {ts k : Nat} (hts : ts < 64) (hk : k < 4) :
    (s.commitBlock .TSET e).pinSet e ts k = s.pinSetShadow e ts k := by
  have hfld (f : Fld) (hf : f.reg ∈ tsetRegs) := fld_commitTset (s := s) hf e hts hk
  simp only [State.pinSet, State.pinSetShadow, hfld F.TSET_FMT_FMT (by decide), hfld F.TSET_D_D1 (by decide),
    hfld F.TSET_D_D2 (by decide), hfld F.TSET_E_E1 (by decide), hfld F.TSET_E_E2 (by decide), hfld F.TSET_C_C1 (by decide),
    hfld F.TSET_C_C2 (by decide)]

/-- A write of GO to TSET_COMMIT that reaches the engine's block. -/
theorem exec_tsetCommit_of_reaches {e : Fin 256} (h : s.ReachesReg mid .TSET_COMMIT e true) {t : State}
    (ht : s.tsetCommit e = t) (hp : t.pending = s.pending) : exec (.tsetCommit mid e) s = .next (t.noteRsp mid .ok []) :=
  exec_of_regWrite rfl h (congrArg (Prod.mk Status.ok) ht) hp

/-! ### PIN_CFG -/

/-- R133: a write of PIN_CFG in STREAM, or with a reserved ECSRC. -/
def State.pinCfgBad (s : State) (p : Nat) (v : Word) : Bool := s.chanStreaming p || decide (6 ≤ fldOf F.PIN_CFG_ECSRC v)

theorem writePinCfg_of_bad {p : Nat} {v : Word} (h : s.pinCfgBad p v = true) :
    s.writePinCfg p v = s.raise F.PIN_STATUS_CFGERR p := by
  rw [State.pinCfgBad, Bool.or_eq_true, decide_eq_true_eq] at h
  exact if_pos h

/-- R104, R124: an accepted write by what it changes: OE from 0 to 1, EOP while the channel shows it, or neither. -/
theorem writePinCfg_of_good {p : Nat} {v : Word} (h : s.pinCfgBad p v = false) :
    s.writePinCfg p v =
      let t := s.setReg .PIN_CFG (v &&& 0x377#64) p
      if fldOf F.PIN_CFG_OE v = 1 ∧ s.fld F.PIN_CFG_OE p = 0 then
        t.setChan p { s.chan p with pdrv := false, pden := false, oeRose := true, streamed := false, eopOn := false }
      else if (s.chan p).eopOn = true ∧ fldOf F.PIN_CFG_EOP v ≠ s.fld F.PIN_CFG_EOP p then
        t.setChan p { eopApply (fldOf F.PIN_CFG_EOP v) (s.chan p) with eopOn := true }
      else t := by
  have hgood : ¬ (s.chanStreaming p = true ∨ fldOf F.PIN_CFG_ECSRC v ≥ 6) := by
    simpa [State.pinCfgBad] using h
  have hoe : (s.setReg .PIN_CFG (v &&& 0x377#64) p).fld F.PIN_CFG_OE p = fldOf F.PIN_CFG_OE v :=
    (fld_setReg F.PIN_CFG_OE _ p 0 0).trans (fldOf_and_mask (by decide) (by decide) v)
  have heop : (s.setReg .PIN_CFG (v &&& 0x377#64) p).fld F.PIN_CFG_EOP p = fldOf F.PIN_CFG_EOP v :=
    (fld_setReg F.PIN_CFG_EOP _ p 0 0).trans (fldOf_and_mask (by decide) (by decide) v)
  have hmask : BitVec.ofNat 64 RegId.PIN_CFG.desc.rw = 0x377#64 := rfl
  simp only [State.writePinCfg, if_neg hgood, State.takeEop, State.modChan, hmask, hoe, heop, setReg_chan]

theorem writePinCfg_pending (p : Nat) (v : Word) : (s.writePinCfg p v).pending = s.pending := by
  cases h : s.pinCfgBad p v with
  | true => rw [writePinCfg_of_bad h]; rfl
  | false =>
    rw [writePinCfg_of_good h]
    dsimp only
    split
    · rfl
    · split <;> rfl

/-- A write of PIN_CFG that reaches the channel's block. -/
theorem exec_pinCfgWrite_of_reaches {p : Fin 1024} (h : s.ReachesReg mid .PIN_CFG p true) {v : Word} {t : State}
    (ht : s.writePinCfg p v = t) : exec (.pinCfgWrite mid p v) s = .next (t.noteRsp mid .ok []) :=
  exec_of_regWrite rfl h (congrArg (Prod.mk Status.ok) ht) (ht ▸ writePinCfg_pending p v)

/-- Settles O29: a commit refuses or takes the block's shadows (fld_commitTset); a write of PIN_CFG is in one of its cases. -/
theorem timingSetsAndPinConfigurationAreChecked : Obligations.TimingSetsAndPinConfigurationAreChecked := by
  intro s mid
  constructor
  · intro e hreach m
    refine ⟨fun hi hf => ?_, fun ts k c hm hfail => ?_, fun hm hgood => ?_⟩
    · exact exec_tsetCommit_of_reaches hreach (tsetCommit_of_busy hi hf) rfl
    · exact exec_tsetCommit_of_reaches hreach (tsetCommit_of_fail hm hfail) rfl
    · refine ⟨_, exec_tsetCommit_of_reaches hreach (tsetCommit_of_good hm hgood) rfl, fun ts k hts hk => ?_, rfl⟩
      exact ⟨pinSet_commitTset e hts hk, fld_commitTset (k := 0) (by decide) e hts (by decide)⟩
  · intro p v hreach bad w
    refine ⟨fun hbad => ?_, fun hgood hoe hoe0 => ?_, fun hgood hoe => ?_⟩
    · exact exec_pinCfgWrite_of_reaches hreach (writePinCfg_of_bad hbad)
    · exact exec_pinCfgWrite_of_reaches hreach ((writePinCfg_of_good hgood).trans (if_pos ⟨hoe, hoe0⟩))
    · have hkept : ¬ (fldOf F.PIN_CFG_OE v = 1 ∧ s.fld F.PIN_CFG_OE p = 0) := by omega
      have hwrite := (writePinCfg_of_good hgood).trans (if_neg hkept)
      constructor
      · intro heop
        exact exec_pinCfgWrite_of_reaches hreach (hwrite.trans (if_neg (fun h => heop.elim (fun h0 => by simp [h0] at h) h.2)))
      · intro heop hne
        exact exec_pinCfgWrite_of_reaches hreach (hwrite.trans (if_pos ⟨heop, hne⟩))

end Sys2Proof.Machine
end

section
/-!
SUPPORT. The SMP's own work: what the meter core's bookkeeping changes, words of the bank as it writes and reads them, the closing of a
result block, and captures that are dropped (R177, R182, R185, R193, R194).
-/
namespace Sys2Proof.Machine

open Sys2Proof

variable {s t : State}

/-! ### The meter core's bookkeeping -/

/-- What the meter core's bookkeeping changes: the bank's counters and cells, the flash, both logs, Mbana, and of the SMP the count of
its signatures, the TOUT conditions, the clamped drifts and the drift calibrations since a fault of the reference. -/
structure MeterWork (s t : State) : Prop where
  rest : t = { s with regs := t.regs, sbk := t.sbk, flash := t.flash, err := t.err, log := t.log, mb := t.mb, smp := t.smp }
  smp : t.smp = { s.smp with signs := t.smp.signs, tout := t.smp.tout, driftOver := t.smp.driftOver, trefCal := t.smp.trefCal }
  regs : ∀ a d, a ≠ regAddr .SBK_CNT → t.regs.get a d = s.regs.get a d

namespace MeterWork

theorem refl (s : State) : MeterWork s s := ⟨rfl, rfl, fun _ _ _ => rfl⟩

theorem trans {a b c : State} (h : MeterWork a b) (g : MeterWork b c) : MeterWork a c :=
  ⟨by rw [g.rest, h.rest], by rw [g.smp, h.smp], fun k d hk => (g.regs k d hk).trans (h.regs k d hk)⟩

theorem fold {α : Type} {f : State → α → State} (h : ∀ a x, MeterWork a (f a x)) (xs : List α) (s : State) :
    MeterWork s (xs.foldl f s) :=
  foldl_ind (P := MeterWork s) (fun a x ha => ha.trans (h a x)) xs s (.refl s)

/-- A register other than the bank's counters reads as before. -/
theorem reg (h : MeterWork s t) {r : RegId} {i j k : Nat} (hr : regAddr r i j k ≠ regAddr .SBK_CNT) :
    t.reg r i j k = s.reg r i j k := by
  have hwork : t.work = s.work := by rw [h.rest]
  unfold State.reg
  rw [hwork, h.regs _ _ hr]

theorem fld (h : MeterWork s t) {f : Fld} {i j k : Nat} (hr : regAddr f.reg i j k ≠ regAddr .SBK_CNT) :
    t.fld f i j k = s.fld f i j k := congrArg (fldOf f) (h.reg hr)

theorem flag (h : MeterWork s t) {f : Fld} {i j k : Nat} (hr : regAddr f.reg i j k ≠ regAddr .SBK_CNT) :
    t.flag f i j k = s.flag f i j k := by
  rw [State.flag, h.fld hr]; rfl

theorem bankReady (h : MeterWork s t) : t.bankReady = s.bankReady := h.flag (f := F.SBK_STATUS_READY) (by decide)

theorem pending (h : MeterWork s t) : t.pending = s.pending := by rw [h.rest]
theorem fuses (h : MeterWork s t) : t.fuses = s.fuses := by rw [h.rest]
theorem temps (h : MeterWork s t) : t.temps = s.temps := by rw [h.rest]
theorem cals (h : MeterWork s t) : t.smp.cals = s.smp.cals := by rw [h.smp]
theorem last (h : MeterWork s t) : t.smp.last = s.smp.last := by rw [h.smp]
theorem pendOff (h : MeterWork s t) : t.smp.pendOff = s.smp.pendOff := by rw [h.smp]
theorem tcal (h : MeterWork s t) : t.smp.tcal = s.smp.tcal := by rw [h.smp]
theorem calValid (h : MeterWork s t) : t.smp.calValid = s.smp.calValid := by rw [h.smp]
theorem bufs (h : MeterWork s t) : t.smp.bufs = s.smp.bufs := by rw [h.smp]
theorem bseq (h : MeterWork s t) : t.smp.bseq = s.smp.bseq := by rw [h.smp]
theorem segHash (h : MeterWork s t) : t.smp.segHash = s.smp.segHash := by rw [h.smp]

/-! ### What is such bookkeeping -/

theorem setBankCell (s : State) (j : Nat) (c : Code64) : MeterWork s (s.setBankCell j c) := ⟨rfl, rfl, fun _ _ _ => rfl⟩

theorem setMeterWord (s : State) (j : Nat) (v : Word) : MeterWork s (s.setMeterWord j v) := by
  unfold State.setMeterWord
  split
  · exact setBankCell ..
  · exact refl s

theorem count (s : State) (v : Word) : MeterWork s (s.setReg .SBK_CNT v) := by
  rw [setReg_regs (by decide)]
  exact ⟨rfl, rfl, fun a d ha => Tab.get_set_other _ ha _ _ _⟩

theorem noteBankRead (s : State) (j : Nat) (mid : MasterId) (d : Decoded64) : MeterWork s (s.noteBankRead j mid d) := by
  have hlog (a : State) (r : ErrRec) : MeterWork a (a.logErr r) := ⟨rfl, rfl, fun _ _ _ => rfl⟩
  unfold State.noteBankRead
  dsimp only
  split
  · exact (count s _).trans (hlog _ _)
  · exact (count s _).trans (hlog _ _)
  · exact refl s

theorem noteMeter (s : State) (js : List Nat) : MeterWork s (s.noteMeter js) := by
  unfold State.noteMeter
  split
  · exact fold (fun a j => noteBankRead a j _ _) js s
  · exact refl s

theorem writeHeader (s : State) : MeterWork s s.writeHeader := fold (fun a _ => setMeterWord a _ _) _ s

theorem setBaseline (s : State) (p k : Nat) (v : BitVec 32) : MeterWork s (s.setBaseline p k v) := setMeterWord ..

theorem setBank16 (s : State) (off : Nat) (v : BitVec 16) : MeterWork s (s.setBank16 off v) := setMeterWord ..

theorem measuredTables (s : State) (c : Nat) (deskew lin : List (BitVec 16)) (base : List (BitVec 32)) :
    MeterWork s (s.measuredTables c deskew lin base) :=
  (fold (fun a _ => setBaseline a _ _ _) _ s).trans ((fold (fun a _ => setBank16 a _ _) _ _).trans
    ((fold (fun a _ => setBank16 a _ _) _ _).trans (fold (fun a _ => setBank16 a _ _) _ _)))

/-- A change of the SMP's bookkeeping. -/
theorem modSmp (s : State) {f : Smp → Smp} (h : ∀ m, f m =
    { m with signs := (f m).signs, tout := (f m).tout, driftOver := (f m).driftOver, trefCal := (f m).trefCal }) :
    MeterWork s (s.modSmp f) := ⟨rfl, h s.smp, fun _ _ _ => rfl⟩

theorem setDrift (s : State) (p k : Nat) (v : Int) : MeterWork s (s.setDrift p k v) := by
  unfold State.setDrift
  dsimp only
  split
  · exact (setBank16 ..).trans (modSmp _ (fun _ => rfl))
  · exact setBank16 ..

theorem updateTout (s : State) : MeterWork s s.updateTout := by
  unfold State.updateTout State.forAll
  exact fold (fun a _ => modSmp a (fun _ => rfl)) _ s

/-- A change of the flash, the event log and the count of signatures. -/
theorem record (s : State) (f : Tab Byte) (l : EvLog) (n : Nat) :
    MeterWork s { s with flash := f, log := l, smp := { s.smp with signs := n } } := ⟨rfl, rfl, fun _ _ _ => rfl⟩

theorem writeStore (s : State) (bytes : List Byte) (h : BitVec 512) : MeterWork s (s.writeStore bytes h) := record s _ s.log _

theorem storeCal (s : State) : MeterWork s s.storeCal := (noteMeter s _).trans (writeStore ..)

theorem certifySmp (s : State) : MeterWork s s.certifySmp := ⟨rfl, rfl, fun _ _ _ => rfl⟩

theorem flushLog (s : State) : MeterWork s s.flushLog := record s _ _ s.smp.signs

theorem cacheRecord (s : State) (r : List Word) : MeterWork s (s.cacheRecord r) := by
  unfold State.cacheRecord
  dsimp only
  refine (fold (fun a i => setBankCell a (cacheWord (s.log.wr + i)) (encode64 (r.getD i 0))) (List.range r.length) s).trans ?_
  generalize (List.range r.length).foldl _ s = t
  split
  · exact (record t t.flash _ t.smp.signs).trans (flushLog _)
  · exact record t t.flash _ t.smp.signs

theorem logEvent (s : State) (typ : Byte) (d4 d5 : Word) (signer : Signer) (source : BitVec 16) :
    MeterWork s (s.logEvent typ d4 d5 signer source) := by
  obtain ⟨l, late, r, h⟩ : ∃ l late r, s.logEvent typ d4 d5 signer source =
      if ({ s with log := l } : State).bankReady then ({ s with log := l } : State).cacheRecord r else { s with log := late } :=
    ⟨_, _, _, rfl⟩
  rw [h]
  split
  · exact (record s s.flash l s.smp.signs).trans (cacheRecord _ r)
  · exact record s s.flash late s.smp.signs

end MeterWork

/-! ### Words of the bank (R177, R185) -/

/-- The meter core reads the same of two states whose banks agree. -/
theorem meterWord_congr (hr : t.bankReady = s.bankReady) (hb : t.sbk = s.sbk) (j : Nat) : t.meterWord j = s.meterWord j := by
  unfold State.meterWord State.bankCell
  rw [hr, hb]

theorem bankBits_congr (h : ∀ j, t.meterWord j = s.meterWord j) (w off : Nat) : t.bankBits w off = s.bankBits w off := by
  unfold State.bankBits
  rw [h]

@[simp] theorem bankReady_setMeterWord (j : Nat) (v : Word) : (s.setMeterWord j v).bankReady = s.bankReady :=
  (MeterWork.setMeterWord s j v).bankReady

theorem meterWord_setMeterWord_same (h : s.bankReady = true) (j : Nat) (v : Word) : (s.setMeterWord j v).meterWord j = v := by
  have hcell : (s.setMeterWord j v).bankCell j = encode64 v := by
    simp [State.setMeterWord, h, State.bankCell, State.setBankCell]
  rw [State.meterWord, bankReady_setMeterWord, if_pos h, hcell, (decode64_encode64 v).1]

theorem meterWord_setMeterWord_other {j k : Nat} (hk : k ≠ j) (v : Word) : (s.setMeterWord j v).meterWord k = s.meterWord k := by
  have hcell : (s.setMeterWord j v).bankCell k = s.bankCell k := by
    unfold State.setMeterWord
    split
    · exact Tab.get_set_other _ hk _ _ _
    · rfl
  rw [State.meterWord, bankReady_setMeterWord, hcell]
  rfl

/-- Words written elsewhere leave a word as it was. -/
theorem meterWord_foldl_setMeterWord {α : Type} {j : Nat} {at' : α → Nat} {xs : List α}
    (h : ∀ x ∈ xs, at' x ≠ j) (v : α → Word) (s : State) :
    (xs.foldl (fun acc x => acc.setMeterWord (at' x) (v x)) s).meterWord j = s.meterWord j :=
  List.foldlRecOn (motive := fun (a : State) => a.meterWord j = s.meterWord j) xs _ rfl
    (fun _ ih x hx => (meterWord_setMeterWord_other (h x hx).symm _).trans ih)

/-- A header brought up to date leaves the tables behind it. -/
theorem meterWord_writeHeader {j : Nat} (hj : 0x8200 ≤ j) : s.writeHeader.meterWord j = s.meterWord j :=
  meterWord_foldl_setMeterWord (fun i hi => by rw [List.mem_range] at hi; omega) _ s

/-- The 16 bits at an even offset, as written. -/
theorem bank16_setBank16_same (h : s.bankReady = true) {off : Nat} (he : off % 2 = 0) (v : BitVec 16) :
    (s.setBank16 off v).bank16 off = v := by
  unfold State.setBank16 State.setBankBits State.bank16 State.bankBits
  dsimp only
  rw [meterWord_setMeterWord_same h]
  apply BitVec.eq_of_getLsbD_eq
  intro i hi
  have h8 : 8 * (off % 8) + i < 64 := by omega
  simp only [BitVec.getLsbD_extractLsb', BitVec.getLsbD_or, BitVec.getLsbD_and, BitVec.getLsbD_not, BitVec.getLsbD_shiftLeft,
    BitVec.getLsbD_setWidth, BitVec.getLsbD_allOnes, h8, hi]
  simp [hi, show i < 64 by omega]

/-- The 16 bits at another even offset. -/
theorem bank16_setBank16_other {off off' : Nat} (he : off % 2 = 0) (he' : off' % 2 = 0) (hne : off ≠ off') (v : BitVec 16) :
    (s.setBank16 off' v).bank16 off = s.bank16 off := by
  unfold State.setBank16 State.setBankBits State.bank16 State.bankBits
  dsimp only
  by_cases hw : off / 8 = off' / 8
  · cases hr : s.bankReady with
    | false => simp [State.setMeterWord, hr]
    | true =>
      rw [hw, meterWord_setMeterWord_same hr]
      apply BitVec.eq_of_getLsbD_eq
      intro i hi
      have h8 : 8 * (off % 8) + i < 64 := by omega
      simp only [BitVec.getLsbD_extractLsb', BitVec.getLsbD_or, BitVec.getLsbD_and, BitVec.getLsbD_not, BitVec.getLsbD_shiftLeft,
        BitVec.getLsbD_setWidth, BitVec.getLsbD_allOnes, h8, hi]
      by_cases hlow : 8 * (off % 8) + i < 8 * (off' % 8)
      · simp [hlow]
      · have hhigh : ¬ 8 * (off % 8) + i - 8 * (off' % 8) < 16 := by omega
        have hout : v.getLsbD (8 * (off % 8) + i - 8 * (off' % 8)) = false := BitVec.getLsbD_of_ge _ _ (by omega)
        simp [hlow, hhigh, hout]
  · rw [meterWord_setMeterWord_other hw]

/-! ### Reads of the meter core -/

/-- R160, R177: reads of the bank change no cell and nothing of the SMP. -/
theorem noteMeter_changes (s : State) (js : List Nat) : ∃ r e, s.noteMeter js = { s with regs := r, err := e } := by
  have hcount (a : State) (f : Fld) (hf : isShadowed f.reg = false) : a.count f = { a with regs := (a.count f).regs } :=
    setFld_regs hf ..
  have hread (a : State) (j : Nat) (mid : MasterId) (d : Decoded64) : ∃ r e, a.noteBankRead j mid d = { a with regs := r, err := e } := by
    unfold State.noteBankRead
    dsimp only
    split
    · rw [hcount a F.SBK_CNT_CE (by decide)]
      exact ⟨_, _, rfl⟩
    · rw [hcount a F.SBK_CNT_UE (by decide)]
      exact ⟨_, _, rfl⟩
    · exact ⟨_, _, rfl⟩
  unfold State.noteMeter
  split
  · refine foldl_ind (P := fun a => ∃ r e, a = { s with regs := r, err := e }) ?_ _ _ ⟨_, _, rfl⟩
    rintro a j ⟨r, e, rfl⟩
    obtain ⟨r', e', h⟩ := hread { s with regs := r, err := e } j 348 (decode64 (State.bankCell { s with regs := r, err := e } j))
    exact ⟨r', e', h⟩
  · exact ⟨_, _, rfl⟩

theorem meterWord_noteMeter (js : List Nat) (j : Nat) : (s.noteMeter js).meterWord j = s.meterWord j := by
  obtain ⟨r, e, h⟩ := noteMeter_changes s js
  exact meterWord_congr (MeterWork.noteMeter s js).bankReady (by rw [h]) j

theorem smp_noteMeter (js : List Nat) : (s.noteMeter js).smp = s.smp := by
  obtain ⟨r, e, h⟩ := noteMeter_changes s js
  rw [h]

theorem buf_noteMeter (js : List Nat) (b : Nat) : (s.noteMeter js).buf b = s.buf b := by
  unfold State.buf
  rw [smp_noteMeter]

theorem calC_noteMeter (js : List Nat) (p k : Nat) : (s.noteMeter js).calC p k = s.calC p k := by
  unfold State.calC State.calSum State.deskew State.drift State.bank16
  simp only [bankBits_congr (meterWord_noteMeter js), (MeterWork.noteMeter s js).calValid]

/-- R190, R191: an entry does not depend on what the reads of its breakpoints count. -/
theorem resultEntry_noteMeter (js : List Nat) (cap : Capture) : (s.noteMeter js).resultEntry cap = s.resultEntry cap := by
  have hbank : ∀ off, (s.noteMeter js).bank16 off = s.bank16 off := bankBits_congr (meterWord_noteMeter js) 16
  have hsrc (p : Nat) : (s.noteMeter js).fld F.PIN_CFG_ECSRC p = s.fld F.PIN_CFG_ECSRC p := by
    refine (MeterWork.noteMeter s js).fld ?_
    simp only [regAddr, regInst, F.PIN_CFG_ECSRC, RegId.desc, Block.place]
    omega
  obtain ⟨r, e, h⟩ := noteMeter_changes s js
  have hsmp : (s.noteMeter js).smp = s.smp := by rw [h]
  have hoff (p k : Nat) : (s.noteMeter js).calOff p k = s.calOff p k := by rw [h]; rfl
  unfold State.resultEntry State.ooc State.captureTau State.ecClass State.linValid State.calC State.calSum
    State.deskew State.drift State.lin
  simp only [hbank, hsrc, hsmp, hoff]

/-! ### Buffers (R193, R194) -/

theorem filling_eq_some {b : Nat} (h : s.filling = some b) : b < 4 ∧ (s.buf b).st = .filling := by
  obtain ⟨hst, hmem, -⟩ := List.find?_range_eq_some.1 h
  exact ⟨List.mem_range.1 hmem, by simpa using hst⟩

@[simp] theorem buf_modBuf_same (b : Nat) (f : ResBuf → ResBuf) : (s.modBuf b f).buf b = f (s.buf b) := by
  simp [State.buf, State.modBuf, State.modSmp]

theorem buf_modBuf_other {b k : Nat} (h : k ≠ b) (f : ResBuf → ResBuf) : (s.modBuf b f).buf k = s.buf k :=
  Tab.get_set_other _ h _ _ _

/-- The buffers' states say which one fills. -/
theorem filling_congr (h : ∀ b, (t.buf b).st = (s.buf b).st) : t.filling = s.filling := by
  unfold State.filling
  simp only [h]

theorem filling_modBuf {b : Nat} {f : ResBuf → ResBuf} (h : (f (s.buf b)).st = (s.buf b).st) : (s.modBuf b f).filling = s.filling := by
  refine filling_congr (fun k => ?_)
  by_cases hk : k = b
  · subst hk
    rw [buf_modBuf_same, h]
  · rw [buf_modBuf_other hk]

/-- What the closing of blocks changes: the buffers, the number of the next block, and the chain state in the bank. -/
def BlockWork (s t : State) : Prop := ∃ c b n, t = { s with sbk := c, smp := { s.smp with bufs := b, bseq := n } }

theorem BlockWork.refl (s : State) : BlockWork s s := ⟨_, _, _, rfl⟩

theorem BlockWork.trans {a b c : State} (h : BlockWork a b) (g : BlockWork b c) : BlockWork a c := by
  obtain ⟨_, _, _, rfl⟩ := h
  obtain ⟨_, _, _, rfl⟩ := g
  exact ⟨_, _, _, rfl⟩

/-- R185: the chain state goes to the work area of the bank. -/
theorem noteChain_changes (s : State) : ∃ c, s.noteChain = { s with sbk := c } := by
  have hset (a : State) (j : Nat) (v : Word) (ha : ∃ c, a = { s with sbk := c }) : ∃ c, a.setMeterWord j v = { s with sbk := c } := by
    obtain ⟨c, rfl⟩ := ha
    unfold State.setMeterWord
    split <;> exact ⟨_, rfl⟩
  exact foldl_ind (P := fun a => ∃ c, a = { s with sbk := c }) (fun a _ ha => hset a _ _ ha) _ _ (hset s _ _ ⟨_, rfl⟩)

theorem BlockWork.noteChain (s : State) : BlockWork s s.noteChain := by
  obtain ⟨c, h⟩ := noteChain_changes s
  exact ⟨c, _, _, h⟩

@[simp] theorem buf_noteChain (b : Nat) : s.noteChain.buf b = s.buf b := by
  obtain ⟨c, h⟩ := noteChain_changes s
  rw [h]
  rfl

@[simp] theorem smp_noteChain : s.noteChain.smp = s.smp := by
  obtain ⟨c, h⟩ := noteChain_changes s
  rw [h]

/-- The chain state stands behind the calibration's words. -/
theorem meterWord_noteChain {j : Nat} (hj : j < 0xDC00) : s.noteChain.meterWord j = s.meterWord j :=
  (meterWord_foldl_setMeterWord (fun i _ => by omega) _ _).trans (meterWord_setMeterWord_other (by omega) _)

/-- R193: a buffer starts to fill where none does and one is free. -/
theorem startFilling_cases (s : State) :
    s.startFilling = s ∨ ∃ b, (s.buf b).st = .free ∧ s.startFilling = s.modBuf b (fun _ => { st := .filling }) := by
  unfold State.startFilling
  split
  · exact .inl rfl
  · split
    · rename_i b hb
      exact .inr ⟨b, by simpa using List.find?_some hb, rfl⟩
    · exact .inl rfl

theorem BlockWork.startFilling (s : State) : BlockWork s s.startFilling := by
  rcases startFilling_cases s with h | ⟨b, -, h⟩
  · rw [h]
    exact .refl s
  · rw [h]
    exact ⟨_, _, _, rfl⟩

/-- A buffer in use is not started again. -/
theorem buf_startFilling {b : Nat} (h : (s.buf b).st ≠ .free) : s.startFilling.buf b = s.buf b := by
  rcases startFilling_cases s with hs | ⟨k, hk, hs⟩
  · rw [hs]
  · rw [hs, buf_modBuf_other]
    rintro rfl
    exact h hk

@[simp] theorem bseq_startFilling : s.startFilling.smp.bseq = s.smp.bseq := by
  rcases startFilling_cases s with hs | ⟨k, -, hs⟩
  · rw [hs]
  · rw [hs]
    rfl

/-- R194, R196: what the closing of its block makes of a buffer. -/
def State.closedBuf (s : State) (b : Nat) : ResBuf :=
  { s.buf b with
    st := .signing, bseq := s.smp.bseq, sealNo := s.fuses.sealNo, plane := s.flag F.SMP_STATUS_PLANE, calid := s.reg .SMP_CALID,
    tcal := (s.blockTemps (s.buf b).clusters).1, tnow := (s.blockTemps (s.buf b).clusters).2 }

/-- The buffer closes, the next block's number rises, and the chain state is noted. -/
def State.closing (s : State) (b : Nat) : State :=
  ((s.modBuf b (fun _ => s.closedBuf b)).modSmp (fun m => { m with bseq := m.bseq + 1 })).noteChain

theorem closeBlock_of_filling {b : Nat} (h : s.filling = some b) (he : (s.buf b).entries ≠ []) :
    s.closeBlock = (s.closing b).startFilling := by
  simp only [State.closeBlock, h, if_neg he]
  rfl

theorem closeBlock_of_none (h : s.filling = none) : s.closeBlock = s := by
  simp only [State.closeBlock, h]

/-- A block with an entry closes, or there is none and nothing changes. -/
theorem closeBlock_cases (s : State) : s.closeBlock = s ∨ ∃ b, s.closeBlock = (s.closing b).startFilling := by
  cases h : s.filling with
  | none => exact .inl (closeBlock_of_none h)
  | some b =>
    by_cases he : (s.buf b).entries = []
    · exact .inl (by simp only [State.closeBlock, h, if_pos he])
    · exact .inr ⟨b, closeBlock_of_filling h he⟩

/-- R194: the closed block is SIGNING, has the next number, and keeps its entries. -/
theorem buf_closeBlock {b : Nat} (h : s.filling = some b) (he : (s.buf b).entries ≠ []) : s.closeBlock.buf b = s.closedBuf b := by
  have hclosed : (s.closing b).buf b = s.closedBuf b :=
    (buf_noteChain b).trans (Eq.trans (b := (s.modBuf b (fun _ => s.closedBuf b)).buf b) rfl (buf_modBuf_same b _))
  rw [closeBlock_of_filling h he, buf_startFilling (by simp [hclosed, State.closedBuf]), hclosed]

theorem bseq_closeBlock {b : Nat} (h : s.filling = some b) (he : (s.buf b).entries ≠ []) :
    s.closeBlock.smp.bseq = s.smp.bseq + 1 := by
  rw [closeBlock_of_filling h he, bseq_startFilling, State.closing, smp_noteChain]
  rfl

theorem BlockWork.closeBlock (s : State) : BlockWork s s.closeBlock := by
  rcases closeBlock_cases s with h | ⟨b, h⟩
  · rw [h]
    exact .refl s
  · rw [h]
    exact BlockWork.trans (BlockWork.trans (b := (s.modBuf b (fun _ => s.closedBuf b)).modSmp (fun m => { m with bseq := m.bseq + 1 }))
      ⟨_, _, _, rfl⟩ (.noteChain _)) (.startFilling _)

/-- The closing of a block writes the chain state alone into the bank. -/
theorem meterWord_closeBlock {j : Nat} (hj : j < 0xDC00) : s.closeBlock.meterWord j = s.meterWord j := by
  have hfill (a : State) : a.startFilling.meterWord j = a.meterWord j := by
    rcases startFilling_cases a with h | ⟨b, -, h⟩
    · rw [h]
    · rw [h]
      rfl
  rcases closeBlock_cases s with h | ⟨b, h⟩
  · rw [h]
  · rw [h, hfill, State.closing, meterWord_noteChain hj]
    rfl

/-! ### Dropped captures (R130, R182) -/

/-- What the dropping of captures changes: the capture queues, and registers of the pins, which lie behind the SMP's and the power
controller's. -/
structure Dropping (s t : State) : Prop where
  rest : t = { s with regs := t.regs, fcus := t.fcus }
  regs : ∀ a d, a < Block.PIN.place.1 → t.regs.get a d = s.regs.get a d

namespace Dropping

theorem refl (s : State) : Dropping s s := ⟨rfl, fun _ _ _ => rfl⟩

theorem trans {a b c : State} (h : Dropping a b) (g : Dropping b c) : Dropping a c :=
  ⟨by rw [g.rest, h.rest], fun k d hk => (g.regs k d hk).trans (h.regs k d hk)⟩

theorem fold {α : Type} {f : State → α → State} (h : ∀ a x, Dropping a (f a x)) (xs : List α) (s : State) :
    Dropping s (xs.foldl f s) :=
  foldl_ind (P := Dropping s) (fun a x ha => ha.trans (h a x)) xs s (.refl s)

theorem reg (h : Dropping s t) {r : RegId} {i j k : Nat} (hr : regAddr r i j k < Block.PIN.place.1) : t.reg r i j k = s.reg r i j k := by
  have hwork : t.work = s.work := by rw [h.rest]
  unfold State.reg
  rw [hwork, h.regs _ _ hr]

theorem pending (h : Dropping s t) : t.pending = s.pending := by rw [h.rest]
theorem smp (h : Dropping s t) : t.smp = s.smp := by rw [h.rest]

theorem setReg {r : RegId} (hr : r = .PIN_CNT ∨ r = .PIN_STATUS) (s : State) (v : Word) (p : Nat) : Dropping s (s.setReg r v p) := by
  rw [setReg_regs (by rcases hr with rfl | rfl <;> rfl)]
  refine ⟨rfl, fun a d ha => Tab.get_set_other _ ?_ _ _ _⟩
  rintro rfl
  revert ha
  rcases hr with rfl | rfl
  all_goals
    simp only [regAddr, RegId.desc]
    omega

theorem loseCapture (s : State) (p : Nat) : Dropping s (s.loseCapture p) :=
  (setReg (.inl rfl) s _ p).trans (setReg (.inr rfl) _ _ p)

theorem dropCaptures (s : State) : Dropping s s.dropCaptures := by
  refine fold (fun a c => ?_) _ s
  have hlost : Dropping a ((a.fcu c).caps.foldl (fun a cap => a.loseCapture cap.chan) a) := fold (fun a cap => loseCapture a _) _ a
  dsimp only
  split
  · exact hlost
  · exact hlost.trans ⟨rfl, fun _ _ _ => rfl⟩

end Dropping

/-! ### Lists of clusters and buffers -/

/-- The offsets of the listed clusters wait. -/
theorem pendOffsets_eq (cs : List Nat) (s : State) :
    s.pendOffsets cs = s.modSmp (fun m => { m with pendOff := cs.foldl (fun acc c => acc.set c true false) m.pendOff }) := by
  unfold State.pendOffsets State.forAll
  induction cs generalizing s with
  | nil => rfl
  | cons c cs ih => rw [List.foldl_cons, ih]; rfl

/-- Values set at the keys of a list. -/
theorem Tab.get_foldl_set {α : Type} [DecidableEq α] (v d : α) (xs : List Nat) (t : Tab α) (k : Nat) :
    (xs.foldl (fun acc x => acc.set x v d) t).get k d = if k ∈ xs then v else t.get k d := by
  induction xs generalizing t with
  | nil => simp
  | cons x xs ih =>
    rw [List.foldl_cons, ih, Tab.get_set]
    by_cases hk : k ∈ xs
    · simp [hk]
    · by_cases hx : k = x <;> simp [hk, hx]

/-- Values set at those keys of a list of which p holds. -/
theorem Tab.get_foldl_setWhere {α : Type} [DecidableEq α] (p : Nat → Bool) (v d : α) (xs : List Nat) (t : Tab α) (k : Nat) :
    (xs.foldl (fun acc x => if p x then acc.set x v d else acc) t).get k d = if k ∈ xs ∧ p k = true then v else t.get k d := by
  induction xs generalizing t with
  | nil => simp
  | cons x xs ih =>
    rw [List.foldl_cons, ih]
    by_cases hx : k = x
    · subst hx
      cases hp : p k <;> simp
    · cases hp : p x <;> simp [hx, Tab.get_set_other]

/-- One number below n is all that p holds of. -/
theorem filter_range_of_unique {n b : Nat} {p : Nat → Bool} (hb : b < n) (hp : p b = true)
    (hu : ∀ k, k < n → k ≠ b → p k = false) :
    (List.range n).filter p = [b] := by
  have hp' : ∀ k ∈ List.range n, p k = (k == b) := by
    intro k hk
    by_cases h : k = b
    · simp [h, hp]
    · simp [h, hu k (List.mem_range.1 hk) h]
  rw [List.filter_congr hp', List.filter_beq, List.count_eq_one_of_mem List.nodup_range (List.mem_range.2 hb)]
  rfl

end Sys2Proof.Machine
end

section
/-!
SUPPORT. Measurements: the loading of offsets, the acceptance of a capture, and the closing and signing of its block (R186, R187, R190,
R191, R194, R196).
-/
namespace Sys2Proof.Machine

open Sys2Proof

variable {s t : State}

/-! ### Offsets (R186, R187) -/

section
variable {c : Nat} (hp : s.smp.pendOff.get c false = true) (hb : s.clusterBusy c = false) (hr : s.bankReady = true)
include hp hb hr

/-- R187: what the load writes, of the state behind the bank's reads. -/
theorem offsetLoad_of_pending : ∃ u, (∃ js, u = s.noteMeter js) ∧ s.offsetLoad c =
    ({ u with offs := (List.range 96).foldl (fun acc n => acc.set (96 * c + n) (u.calC (16 * c + n / 6) (n % 6)) 0) u.offs }).modSmp
      (fun m => { m with pendOff := m.pendOff.set c false false }) :=
  ⟨_, ⟨_, rfl⟩, if_pos ⟨hp, by simp [hb], hr⟩⟩

/-- R186, R187: the 96 offsets of the cluster are those of its tables; the others stay in force. -/
theorem calOff_offsetLoad {p k : Nat} (hk : k < 6) : (s.offsetLoad c).calOff p k = if p / 16 = c then s.calC p k else s.calOff p k := by
  obtain ⟨u, ⟨js, hu⟩, h⟩ := offsetLoad_of_pending hp hb hr
  have hoffs : u.offs = s.offs := by
    obtain ⟨r, e, hn⟩ := noteMeter_changes s js
    rw [hu, hn]
  have hload : (s.offsetLoad c).calOff p k = if 96 * c ≤ 6 * p + k ∧ 6 * p + k < 96 * c + 96 then
      u.calC (16 * c + (6 * p + k - 96 * c) / 6) ((6 * p + k - 96 * c) % 6) else u.offs.get (6 * p + k) 0 := by
    rw [h]
    exact Tab.get_setRange u.offs (96 * c) 96 (6 * p + k) (fun n => u.calC (16 * c + n / 6) (n % 6)) 0
  rw [hload]
  by_cases hc : p / 16 = c
  · have hpk : 16 * c + (6 * p + k - 96 * c) / 6 = p ∧ (6 * p + k - 96 * c) % 6 = k := by omega
    rw [if_pos (by omega), if_pos hc, hpk.1, hpk.2, hu, calC_noteMeter]
  · rw [if_neg (by omega), if_neg hc, hoffs]
    rfl

end

/-! ### Captures (R190, R191) -/

/-- R191, R196: a buffer with the entry of a capture of cluster c. -/
def State.recorded (s : State) (c : Nat) (cap : Capture) (x : ResBuf) : ResBuf :=
  { x with
    entries := x.entries ++ [s.resultEntry cap], flags := x.flags ||| s.entryFlags cap.chan,
    tfirst := if x.entries = [] then s.time else x.tfirst, tlast := s.time,
    clusters := if c ∈ x.clusters then x.clusters else x.clusters ++ [c] }

/-- The capture has left its queue, and its entry stands in buffer b. -/
def State.capture (s : State) (c b : Nat) (cap : Capture) (rest : List Capture) : State :=
  let u := s.noteMeter (lineariserWords cap)
  (u.modFcu c (fun f => { f with caps := rest })).modBuf b (u.recorded c cap)

section
variable {c b : Nat} {cap : Capture} {rest : List Capture}

theorem captureAccept_of_filling (hon : s.smpOn = true) (hst : s.smpState = smpReady) (hre : s.smp.reload = false)
    (hcaps : (s.fcu c).caps = cap :: rest) (hf : s.filling = some b) :
    s.captureAccept c = if 4096 ≤ ((s.capture c b cap rest).buf b).entries.length then (s.capture c b cap rest).closeBlock
      else s.capture c b cap rest := by
  have hguard : ¬ ((!s.smpOn) = true ∨ s.smpState ≠ smpReady ∨ s.smp.reload = true) := by simp [hon, hst, hre]
  unfold State.captureAccept
  rw [if_neg hguard, hcaps]
  dsimp only
  rw [hf]
  rfl

theorem captureAccept_of_none (hon : s.smpOn = true) (hst : s.smpState = smpReady) (hre : s.smp.reload = false)
    (hcaps : (s.fcu c).caps = cap :: rest) (hf : s.filling = none) : s.captureAccept c = s.refuseCapture := by
  have hguard : ¬ ((!s.smpOn) = true ∨ s.smpState ≠ smpReady ∨ s.smp.reload = true) := by simp [hon, hst, hre]
  unfold State.captureAccept
  rw [if_neg hguard, hcaps]
  dsimp only
  rw [hf]

/-- The buffer holds one entry more. -/
theorem buf_capture : (s.capture c b cap rest).buf b = (s.noteMeter (lineariserWords cap)).recorded c cap (s.buf b) :=
  (buf_modBuf_same b _).trans (congrArg _ (buf_noteMeter _ b))

theorem entries_capture : ((s.capture c b cap rest).buf b).entries = (s.buf b).entries ++ [s.resultEntry cap] := by
  rw [buf_capture, ← resultEntry_noteMeter (lineariserWords cap)]
  rfl

theorem fcu_capture_same : ((s.capture c b cap rest).fcu c).caps = rest := by
  unfold State.capture State.fcu
  exact congrArg Fcu.caps (Tab.get_set_same ..)

theorem capture_frame (c b : Nat) (cap : Capture) (rest : List Capture) :
    (∀ k, k ≠ c → (s.capture c b cap rest).fcu k = s.fcu k) ∧ (s.capture c b cap rest).sbk = s.sbk ∧
    (s.capture c b cap rest).engines = s.engines ∧ (s.capture c b cap rest).pending = s.pending ∧
    ((s.capture c b cap rest).buf b).tlast = s.time := by
  obtain ⟨r, e, h⟩ := noteMeter_changes s (lineariserWords cap)
  refine ⟨fun k hk => ?_, ?_, ?_, ?_, ?_⟩
  · unfold State.capture
    rw [h]
    exact Tab.get_set_other _ hk _ _ _
  · unfold State.capture
    rw [h]
    rfl
  · unfold State.capture
    rw [h]
    rfl
  · unfold State.capture
    rw [h]
    rfl
  · rw [buf_capture, h]
    rfl

theorem filling_capture (hf : s.filling = some b) : (s.capture c b cap rest).filling = some b := by
  have hsame : (s.noteMeter (lineariserWords cap)).filling = s.filling := filling_congr (fun k => by rw [buf_noteMeter])
  exact (filling_modBuf rfl).trans (hsame.trans hf)

end

/-- R191: no buffer takes the entry: STALL, and the captures stay. -/
theorem refuseCapture_effect (s : State) :
    s.refuseCapture.flag F.SMP_STATUS_STALL = true ∧ s.refuseCapture.fcus = s.fcus ∧ s.refuseCapture.pending = s.pending := by
  have hraised : (s.raise F.SMP_STATUS_STALL).flag F.SMP_STATUS_STALL = true := flag_setFld_one (by decide) 0 0 0
  unfold State.refuseCapture
  dsimp only
  split
  · exact ⟨(flag_setFld_apart (by decide) _ 0).trans hraised, rfl, rfl⟩
  · exact ⟨hraised, rfl, rfl⟩

/-! ### Blocks (R194, R196) -/

theorem pending_closeBlock (s : State) : s.closeBlock.pending = s.pending := by
  obtain ⟨_, _, _, h⟩ := BlockWork.closeBlock s
  rw [h]

theorem fcus_closeBlock (s : State) : s.closeBlock.fcus = s.fcus := by
  obtain ⟨_, _, _, h⟩ := BlockWork.closeBlock s
  rw [h]

theorem setcloseTimeout_of_filling {b : Nat} (hf : s.filling = some b) (hs : s.smp.setclose ≠ 0) (he : (s.buf b).entries ≠ []) :
    s.setcloseTimeout = (s.atTime ((s.buf b).tfirst.toNat + 6400 * s.smp.setclose.toNat)).closeBlock := by
  have hguard : ¬ (s.smp.setclose = 0 ∨ (s.buf b).entries = []) := fun h => h.elim hs he
  unfold State.setcloseTimeout
  rw [hf]
  exact if_neg hguard

/-- R196, R197: the one block that is SIGNING is signed: its header, and the chain value of the next. -/
theorem blockSigned_of_signing {b : Nat} (hb : b < 4) (hx : s.smpState ≠ smpExhausted) (hst : (s.buf b).st = .signing)
    (hu : ∀ k, k < 4 → k ≠ b → (s.buf k).st ≠ .signing) :
    ∃ header hash, header.length = 64 ∧ s.blockSigned =
      ((((s.modBuf b (fun y => { y with st := .signed, header := header })).modSmp
        (fun m => { m with prev := hash, signs := m.signs + 1 })).noteChain).count F.SMP_CNT_BLOCKS).pendIrq 12 := by
  have hcand : (List.range 4).filter (fun k => (s.buf k).st == .signing) = [b] :=
    filter_range_of_unique hb (by simp [hst]) (fun k hk hne => by simpa using hu k hk hne)
  have hfind : [b].find? (fun k => [b].all (fun k' => (s.buf k).bseq ≤ (s.buf k').bseq)) = some b := by simp
  unfold State.blockSigned
  rw [if_neg hx, hcand]
  dsimp only
  rw [hfind]
  exact ⟨_, _, by simp [State.blockHead, bytesWords], rfl⟩

end Sys2Proof.Machine
end

section
/-!
SUPPORT. Calibrations: the clusters that the SMP takes, what the end of a request changes, and the measured tables and drifts (R186, R201,
R202).
-/
namespace Sys2Proof.Machine

open Sys2Proof

variable {s t : State}

/-! ### A calibration's clusters (R201) -/

/-- Cluster c neither waits for a calibration nor is in the midst of a self-calibration. -/
structure Spared (c : Nat) (s : State) : Prop where
  wait : ∀ r ∈ s.smp.cals, c ∉ r.wait
  left : ∀ r ∈ s.smp.cals, r.self = true → c ∉ r.left

/-- What the taking of other clusters changes: engines and channels that the SMP watches, the calibrations, and what CALSTAT reports of
those clusters. -/
structure Taking (c : Nat) (s t : State) : Prop where
  rest : t = { s with engines := t.engines, chans := t.chans, smp := t.smp }
  smp : t.smp = { s.smp with cals := t.smp.cals, last := t.smp.last }
  last : t.smp.last.get c {} = s.smp.last.get c {}
  spared : Spared c t

theorem Taking.refl {c : Nat} (h : Spared c s) : Taking c s s := ⟨rfl, rfl, rfl, h⟩

theorem Taking.trans {c : Nat} {a b d : State} (h : Taking c a b) (g : Taking c b d) : Taking c a d :=
  ⟨by rw [g.rest, h.rest], by rw [g.smp, h.smp], g.last.trans h.last, g.spared⟩

theorem watchCluster_changes (s : State) (c : Nat) : ∃ e h, s.watchCluster c = { s with engines := e, chans := h } := by
  have hfold (f : State → Nat → State) (hf : ∀ a k, ∃ e h, f a k = { a with engines := e, chans := h }) (xs : List Nat) (a : State) :
      ∃ e h, a.forAll xs f = { a with engines := e, chans := h } := by
    refine foldl_ind (P := fun b => ∃ e h, b = { a with engines := e, chans := h }) ?_ _ _ ⟨_, _, rfl⟩
    rintro b k ⟨e, h, rfl⟩
    obtain ⟨e', h', hb⟩ := hf { a with engines := e, chans := h } k
    exact ⟨e', h', hb⟩
  unfold State.watchCluster
  obtain ⟨e, h, he⟩ := hfold (fun acc k => acc.modEng (4 * c + k) (fun x => { x with leftIdle := false })) (fun _ _ => ⟨_, _, rfl⟩)
    (List.range 4) s
  obtain ⟨e', h', hh⟩ := hfold (fun acc j => acc.modChan (16 * c + j) (fun x => { x with oeRose := false }))
    (fun _ _ => ⟨_, _, rfl⟩) (List.range 16) { s with engines := e, chans := h }
  rw [he]
  exact ⟨e', h', hh⟩

theorem takeCluster_taking {c : Nat} (h : Spared c s) : Taking c s s.takeCluster := by
  unfold State.takeCluster
  split
  · exact .refl h
  · split
    · exact .refl h
    · rename_i i hi
      obtain ⟨hlt, hcond, -⟩ := List.findIdx?_eq_some_iff_getElem.1 hi
      have hget : s.smp.cals.getD i { self := true } = s.smp.cals[i] := by simp [hlt]
      dsimp only
      rw [hget]
      generalize hr : s.smp.cals[i] = r at hcond
      have hmem : r ∈ s.smp.cals := hr ▸ List.getElem_mem hlt
      obtain ⟨hself, hwait⟩ : r.self = true ∧ r.wait ≠ [] := by simpa using hcond
      have hhead : r.wait.headD 0 ∈ r.wait := by
        obtain ⟨a, l, hl⟩ := List.exists_cons_of_ne_nil hwait
        simp [hl]
      have hne : c ≠ r.wait.headD 0 := fun hc => h.wait r hmem (hc ▸ hhead)
      have hspared (left : List Nat) (hleft : c ∉ left) :
          Spared c (s.modSmp (fun m => { m with cals := m.cals.set i { r with wait := r.wait.drop 1, left := left } })) := by
        constructor
        · intro q hq
          rcases List.mem_or_eq_of_mem_set hq with hq | rfl
          · exact h.wait q hq
          · exact fun hc => h.wait r hmem (List.mem_of_mem_drop hc)
        · intro q hq hqs
          rcases List.mem_or_eq_of_mem_set hq with hq | rfl
          · exact h.left q hq hqs
          · exact hleft
      split
      · have hsp := hspared r.left (h.left r hmem hself)
        exact ⟨rfl, rfl, Tab.get_set_other _ hne _ _ _, hsp.wait, hsp.left⟩
      · have hsp := hspared (r.left ++ [r.wait.headD 0]) 
          (fun hc => (List.mem_append.1 hc).elim (h.left r hmem hself) (fun hc => hne (List.mem_singleton.1 hc)))
        obtain ⟨e, g, hw⟩ := watchCluster_changes
          (s.modSmp (fun m => { m with cals := m.cals.set i { r with wait := r.wait.drop 1, left := r.left ++ [r.wait.headD 0] } }))
          (r.wait.headD 0)
        rw [hw]
        exact ⟨rfl, rfl, rfl, hsp.wait, hsp.left⟩

theorem takeClusters_taking {c : Nat} (h : Spared c s) : Taking c s s.takeClusters :=
  foldl_ind (P := Taking c s) (fun _ _ ha => ha.trans (takeCluster_taking ha.spared)) _ s (.refl h)

/-- Where no cluster waits, none is taken. -/
theorem takeClusters_of_no_wait (h : ∀ r ∈ s.smp.cals, r.wait = []) : s.takeClusters = s := by
  have hone : s.takeCluster = s := by
    have hfind : s.smp.cals.findIdx? (fun r => r.self && !r.wait.isEmpty) = none := by
      rw [List.findIdx?_eq_none_iff]
      intro r hr
      simp [h r hr]
    unfold State.takeCluster
    rw [hfind]
    exact ite_self s
  exact foldl_ind (P := fun a => a = s) (fun _ _ ha => by rw [ha, hone]) _ s rfl

/-! ### The end of a calibration (R194, R201, R202) -/

/-- R201, R202: what the end of cluster c's calibration of a kind makes of one that runs. -/
def CalRun.over (r : CalRun) (c : Nat) (self ok : Bool) : CalRun :=
  if r.self = self ∧ c ∈ r.left then { r with left := r.left.filter (· != c), done := r.done || ok } else r

theorem CalRun.over_wait (r : CalRun) (c : Nat) (self ok : Bool) : (r.over c self ok).wait = r.wait := by
  unfold CalRun.over
  split <;> rfl

theorem CalRun.over_self (r : CalRun) (c : Nat) (self ok : Bool) : (r.over c self ok).self = r.self := by
  unfold CalRun.over
  split <;> rfl

theorem CalRun.over_left (r : CalRun) (c : Nat) (ok : Bool) : c ∉ (r.over c r.self ok).left := by
  unfold CalRun.over
  split
  · simp
  · rename_i h
    simpa using h

theorem cals_calOver (c : Nat) (self ok : Bool) : (s.calOver c self ok).smp.cals = s.smp.cals.map (CalRun.over · c self ok) := rfl

theorem last_calOver (c : Nat) (self ok : Bool) : ((s.calOver c self ok).smp.last.get c {}).st = if ok then 2 else 3 :=
  congrArg CalLast.st (Tab.get_set_same ..)

theorem last_calOver_other {c x : Nat} (h : x ≠ c) (self ok : Bool) : (s.calOver c self ok).smp.last.get x {} = s.smp.last.get x {} :=
  Tab.get_set_other _ h _ _ _

theorem spared_calOver {c : Nat} (h : ∀ r ∈ s.smp.cals, c ∉ r.wait) (ok : Bool) : Spared c (s.calOver c true ok) := by
  constructor
  · intro q hq
    rw [cals_calOver] at hq
    obtain ⟨r, hr, rfl⟩ := List.mem_map.1 hq
    rw [CalRun.over_wait]
    exact h r hr
  · intro q hq hself
    rw [cals_calOver] at hq
    obtain ⟨r, hr, rfl⟩ := List.mem_map.1 hq
    rw [CalRun.over_self] at hself
    rw [← hself]
    exact r.over_left c ok

/-- What the completion of a request changes: what the meter core's bookkeeping and the closing of a block change, and the SMP's
registers. -/
structure CalWork (s t : State) : Prop where
  rest : t = { s with regs := t.regs, sbk := t.sbk, flash := t.flash, err := t.err, log := t.log, mb := t.mb, smp := t.smp }
  smp : t.smp = { s.smp with bufs := t.smp.bufs, bseq := t.smp.bseq, signs := t.smp.signs, tout := t.smp.tout,
                             driftOver := t.smp.driftOver, trefCal := t.smp.trefCal }

namespace CalWork

theorem refl (s : State) : CalWork s s := ⟨rfl, rfl⟩

theorem trans {a b c : State} (h : CalWork a b) (g : CalWork b c) : CalWork a c :=
  ⟨by rw [g.rest, h.rest], by rw [g.smp, h.smp]⟩

theorem ofMeterWork (h : MeterWork s t) : CalWork s t := ⟨h.rest, by rw [h.smp]⟩

theorem ofBlockWork (h : BlockWork s t) : CalWork s t := by
  obtain ⟨_, _, _, rfl⟩ := h
  exact ⟨rfl, rfl⟩

theorem setReg {r : RegId} (hr : isShadowed r = false) (s : State) (v : Word) : CalWork s (s.setReg r v) := by
  rw [setReg_regs hr]
  exact ⟨rfl, rfl⟩

theorem pending (h : CalWork s t) : t.pending = s.pending := by rw [h.rest]
theorem cals (h : CalWork s t) : t.smp.cals = s.smp.cals := by rw [h.smp]
theorem last (h : CalWork s t) : t.smp.last = s.smp.last := by rw [h.smp]
theorem calValid (h : CalWork s t) : t.smp.calValid = s.smp.calValid := by rw [h.smp]
theorem pendOff (h : CalWork s t) : t.smp.pendOff = s.smp.pendOff := by rw [h.smp]
theorem tcal (h : CalWork s t) : t.smp.tcal = s.smp.tcal := by rw [h.smp]

theorem newMajor (s : State) (plane : Bool) : CalWork s (s.newMajor plane) :=
  (setReg (r := .SMP_CALID) (by decide) s _).trans (setReg (r := .SMP_STATUS) (by decide) _ _)

theorem calDone (s : State) (self : Bool) : CalWork s (s.calDone self) := by
  refine (ofBlockWork (.closeBlock s)).trans ?_
  unfold State.calDone
  cases self with
  | true =>
    rw [if_pos rfl]
    exact (newMajor _ _).trans ((ofMeterWork (.writeHeader _)).trans (ofMeterWork (.storeCal _)))
  | false =>
    rw [if_neg Bool.false_ne_true]
    exact (setReg (r := .SMP_CALID) (by decide) _ _).trans (ofMeterWork (.writeHeader _))

end CalWork

/-- What the settling of the calibrations keeps for a cluster that is spared. -/
structure Settling (c : Nat) (s t : State) : Prop where
  pending : t.pending = s.pending
  last : t.smp.last.get c {} = s.smp.last.get c {}
  left : ∀ r ∈ t.smp.cals, r.self = true → c ∉ r.left
  calValid : t.smp.calValid = s.smp.calValid
  pendOff : t.smp.pendOff = s.smp.pendOff
  tcal : t.smp.tcal = s.smp.tcal

/-- Clusters are taken, and the requests without a cluster leave. -/
def State.calTaken (s : State) : State :=
  s.takeClusters.modSmp (fun m => { m with cals := m.cals.filter (fun r => !(r.wait.isEmpty && r.left.isEmpty)) })

theorem calSettle_calWork (s : State) : CalWork s.calTaken s.calSettle := by
  unfold State.calSettle
  refine foldl_ind (P := CalWork s.calTaken) (fun a r ha => ha.trans ?_) _ _ (.refl _)
  split
  · exact .calDone a _
  · exact .refl a

theorem calSettle_settling {c : Nat} (h : Spared c s) : Settling c s s.calSettle := by
  obtain ⟨hrest, hsmp, hlast, -, hleft⟩ := takeClusters_taking h
  have hwork := calSettle_calWork s
  unfold State.calTaken at hwork
  generalize s.takeClusters = u at hrest hsmp hlast hleft hwork
  have hpending : u.pending = s.pending := by rw [hrest]
  have hvalid : u.smp.calValid = s.smp.calValid := by rw [hsmp]
  have hoff : u.smp.pendOff = s.smp.pendOff := by rw [hsmp]
  have htcal : u.smp.tcal = s.smp.tcal := by rw [hsmp]
  refine ⟨hwork.pending.trans hpending, ?_, ?_, hwork.calValid.trans hvalid, hwork.pendOff.trans hoff, hwork.tcal.trans htcal⟩
  · rw [hwork.last]
    exact hlast
  · rw [hwork.cals]
    exact fun r hr => hleft r (List.mem_of_mem_filter hr)

/-- The one calibration has no cluster left: its request completes. -/
theorem calSettle_of_last {r : CalRun} (hc : s.smp.cals = [r]) (hw : r.wait = []) (hl : r.left = []) (hd : r.done = true) :
    s.calSettle = (s.modSmp (fun m => { m with cals := [] })).calDone r.self := by
  have htake : s.takeClusters = s := takeClusters_of_no_wait (by simp [hc, hw])
  unfold State.calSettle
  rw [htake]
  simp [hc, hw, hl, hd, State.modSmp]

theorem reg_closeBlock (s : State) (r : RegId) (i j k : Nat) : s.closeBlock.reg r i j k = s.reg r i j k := by
  obtain ⟨_, _, _, h⟩ := BlockWork.closeBlock s
  rw [h]
  rfl

theorem calDone_true (s : State) : s.calDone true = (s.closeBlock.newMajor false).writeHeader.storeCal := by
  unfold State.calDone
  rw [if_pos rfl]

theorem calDone_false (s : State) :
    s.calDone false = (s.closeBlock.setReg .SMP_CALID (s.closeBlock.reg .SMP_CALID + 1)).writeHeader := by
  unfold State.calDone
  rw [if_neg Bool.false_ne_true]

/-- R201, R203: CALID.MAJOR rises and MINOR is 0. -/
theorem newMajor_calid (s : State) (plane : Bool) :
    (s.newMajor plane).reg .SMP_CALID = ((s.reg .SMP_CALID).extractLsb' 32 32 + 1#32) ++ (0#32) := by
  unfold State.newMajor
  rw [reg_setFld_apart (by decide), reg_setReg]

theorem newMajor_plane (s : State) : (s.newMajor false).flag F.SMP_STATUS_PLANE = false := flag_setFld_zero (by decide) 0 0 0

/-- R201: the end of a self-calibration changes CALID, and its set is not an imported one. -/
theorem calDone_self (s : State) :
    ((s.calDone true).reg .SMP_CALID).extractLsb' 32 32 = (s.reg .SMP_CALID).extractLsb' 32 32 + 1 ∧
    ((s.calDone true).reg .SMP_CALID).extractLsb' 0 32 = 0 ∧ (s.calDone true).flag F.SMP_STATUS_PLANE = false := by
  have hwork : MeterWork (s.closeBlock.newMajor false) (s.calDone true) := by
    rw [calDone_true]
    exact (MeterWork.writeHeader _).trans (.storeCal _)
  rw [hwork.reg (by decide), hwork.flag (by decide), newMajor_calid, newMajor_plane, reg_closeBlock]
  exact ⟨BitVec.extractLsb'_append_eq_left, BitVec.extractLsb'_append_eq_right, rfl⟩

/-- R202: CALID.MINOR rises. -/
theorem calDone_drift (s : State) : (s.calDone false).reg .SMP_CALID = s.reg .SMP_CALID + 1 := by
  rw [calDone_false, (MeterWork.writeHeader _).reg (by decide), reg_setReg, reg_closeBlock]

/-! ### Self-calibration (R201) -/

/-- R201: cluster c with its measured tables, its calibration over and its offsets waiting. -/
def State.selfDone (s : State) (c : Nat) (deskew lin : List (BitVec 16)) (base : List (BitVec 32)) : State :=
  ((((s.measuredTables c deskew lin base).noteCalibrated c).writeHeader.calOver c true true).updateTout).pendOffsets [c]

section
variable {c : Nat} {deskew lin : List (BitVec 16)} {base : List (BitVec 32)}

theorem selfcalComplete_of_running (h : (s.smp.cals.any (fun r => r.self && r.left.contains c)) = true) :
    s.selfcalComplete c deskew lin base = if s.selfLost c = true then (s.calOver c true false).calSettle
      else if s.bankReady = true then (s.selfDone c deskew lin base).calSettle else s := by
  unfold State.selfcalComplete State.selfDone
  rw [if_neg (by rw [h]; exact Bool.false_ne_true)]
  cases s.selfLost c with
  | true => rw [if_pos rfl, if_pos rfl]
  | false =>
    rw [if_neg Bool.false_ne_true, if_neg Bool.false_ne_true]
    cases s.bankReady with
    | true => rw [Bool.not_true, if_neg Bool.false_ne_true, if_pos rfl]
    | false => rw [Bool.not_false, if_pos rfl, if_neg Bool.false_ne_true]

theorem selfcalComplete_of_ready (h : (s.smp.cals.any (fun r => r.self && r.left.contains c)) = true) (hl : s.selfLost c = false)
    (hr : s.bankReady = true) : s.selfcalComplete c deskew lin base = (s.selfDone c deskew lin base).calSettle :=
  (selfcalComplete_of_running h).trans ((if_neg (by rw [hl]; exact Bool.false_ne_true)).trans (if_pos hr))

/-- What stands after the measured tables: the calibrations, the conditions that clear, and CALID as before. -/
structure Calibrated (c : Nat) (s t : State) : Prop where
  pending : t.pending = s.pending
  cals : t.smp.cals = s.smp.cals.map (CalRun.over · c true true)
  last : (t.smp.last.get c {}).st = 2
  calValid : t.smp.calValid = true
  pendOff : t.smp.pendOff.get c false = true
  tcal : t.smp.tcal.get c none = some (s.clusterTemp c)
  calid : t.reg .SMP_CALID = s.reg .SMP_CALID

/-- The calibration of a cluster, around what the meter core writes in its course. -/
theorem calibrated_of_meterWork {m w v : State} (hmeasured : MeterWork s m) (hheader : MeterWork (m.noteCalibrated c) w)
    (htout : MeterWork (w.calOver c true true) v) : Calibrated c s (v.pendOffsets [c]) := by
  have htemp : m.clusterTemp c = s.clusterTemp c := by
    unfold State.clusterTemp
    rw [hmeasured.temps]
  rw [pendOffsets_eq]
  refine ⟨?_, ?_, ?_, ?_, ?_, ?_, ?_⟩
  · exact htout.pending.trans (hheader.pending.trans hmeasured.pending)
  · refine htout.cals.trans ?_
    rw [cals_calOver, hheader.cals]
    exact congrArg (List.map _) hmeasured.cals
  · exact (congrArg (fun l => (Tab.get l c {}).st) htout.last).trans (last_calOver c true true)
  · exact htout.calValid.trans hheader.calValid
  · exact Tab.get_set_same ..
  · rw [← htemp]
    exact (congrArg (fun l => Tab.get l c none) (htout.tcal.trans hheader.tcal)).trans (Tab.get_set_same ..)
  · refine (htout.reg (r := .SMP_CALID) (by decide)).trans ((hheader.reg (r := .SMP_CALID) (by decide)).trans ?_)
    exact (reg_setFld_apart (f := F.SMP_STATUS_NOCAL) (by decide) 0 0).trans (hmeasured.reg (by decide))

theorem selfDone_calibrated : Calibrated c s (s.selfDone c deskew lin base) := by
  unfold State.selfDone
  exact calibrated_of_meterWork (.measuredTables ..) (.writeHeader _) (.updateTout _)

theorem Calibrated.spared (h : Calibrated c s t) (hw : ∀ r ∈ s.smp.cals, c ∉ r.wait) : Spared c t := by
  obtain ⟨hwait, hleft⟩ := spared_calOver hw true
  rw [cals_calOver, ← h.cals] at hwait hleft
  exact ⟨hwait, hleft⟩

end

/-! ### Drift calibration (R186, R202) -/

/-- R202: the drifts of a cluster as measured, its calibration not yet over. -/
def State.measuredDrifts (s : State) (c : Nat) (rs : List (BitVec 32)) : State :=
  let u := s.noteMeter ((List.range 48).map (fun i => 0xD000 + 48 * c + i))
  let v := u.modSmp (fun m => { m with
    driftOver := (List.range 16).foldl (fun a j => a.set (16 * c + j) false false) m.driftOver, trefCal := m.trefCal.set c true false })
  (List.range 96).foldl (fun a n => a.setDrift (16 * c + n / 6) (n % 6) (a.driftOf (16 * c + n / 6) (n % 6) (rs.getD n 0))) v

theorem clusterDrifts_eq (c : Nat) (rs : List (BitVec 32)) : s.clusterDrifts c rs = (s.measuredDrifts c rs).calOver c false true := rfl

theorem MeterWork.measuredDrifts (s : State) (c : Nat) (rs : List (BitVec 32)) : MeterWork s (s.measuredDrifts c rs) := by
  unfold State.measuredDrifts
  dsimp only
  exact (noteMeter s _).trans ((modSmp _ (fun _ => rfl)).trans (fold (fun a n => setDrift a _ _ _) _ _))

theorem bank16_congr {off : Nat} (h : t.meterWord (off / 8) = s.meterWord (off / 8)) : t.bank16 off = s.bank16 off := by
  unfold State.bank16 State.bankBits
  rw [h]

/-- The write of a drift, as the bank shows it. -/
theorem meterWord_setDrift (p k : Nat) (v : Int) (j : Nat) : (s.setDrift p k v).meterWord j =
    (s.setBank16 (0x44000 + 12 * p + 2 * k) (BitVec.ofInt 16 (clampInt (-96) 96 v))).meterWord j := by
  unfold State.setDrift
  dsimp only
  split <;> rfl

theorem toInt_clamped (v : Int) : (BitVec.ofInt 16 (clampInt (-96) 96 v)).toInt = clampInt (-96) 96 v := by
  rw [BitVec.toInt_ofInt]
  unfold clampInt
  split
  · rfl
  · split
    · rfl
    · exact Int.bmod_eq_of_le (by omega) (by omega)

theorem drift_setDrift_same (hr : s.bankReady = true) (p k : Nat) (v : Int) :
    (s.setDrift p k v).drift p k = clampInt (-96) 96 v := by
  unfold State.drift
  rw [bank16_congr (meterWord_setDrift p k v _), bank16_setBank16_same hr (by omega), toInt_clamped]

theorem drift_setDrift_other {p k q l : Nat} (hk : k < 6) (hl : l < 6) (hne : ¬ (q = p ∧ l = k)) (v : Int) :
    (s.setDrift p k v).drift q l = s.drift q l := by
  unfold State.drift
  rw [bank16_congr (meterWord_setDrift p k v _), bank16_setBank16_other (by omega) (by omega) (by omega)]

/-- The baselines stand behind the drifts. -/
theorem baseline_setDrift {p k : Nat} (hp : p < 1024) (hk : k < 6) (v : Int) (q l : Nat) :
    (s.setDrift p k v).baseline q l = s.baseline q l := by
  have hword : (s.setDrift p k v).meterWord ((0x68000 + 24 * q + 4 * l) / 8) = s.meterWord ((0x68000 + 24 * q + 4 * l) / 8) :=
    (meterWord_setDrift p k v _).trans (meterWord_setMeterWord_other (by omega) _)
  unfold State.baseline State.bankBits
  rw [hword]

/-- Drifts m of a cluster written one after the other, each by its baseline and its present delay. -/
theorem drift_foldl_setDrift {c : Nat} (hc : c < 64) (rs : List (BitVec 32)) (hr : s.bankReady = true) {m : Nat} (hm : m ≤ 96) :
    let t := (List.range m).foldl
      (fun a n => a.setDrift (16 * c + n / 6) (n % 6) (a.driftOf (16 * c + n / 6) (n % 6) (rs.getD n 0))) s
    t.bankReady = true ∧ (∀ q l, t.baseline q l = s.baseline q l) ∧ ∀ n, n < m → t.drift (16 * c + n / 6) (n % 6) =
      clampInt (-96) 96 (-((rs.getD n 0).toInt - s.baseline (16 * c + n / 6) (n % 6))) := by
  induction m with
  | zero => exact ⟨hr, fun _ _ => rfl, fun n hn => absurd hn (Nat.not_lt_zero n)⟩
  | succ m ih =>
    obtain ⟨hready, hbase, hdrift⟩ := ih (by omega)
    rw [List.range_succ, List.foldl_append, List.foldl_cons, List.foldl_nil]
    refine ⟨(MeterWork.setDrift ..).bankReady.trans hready, fun q l => (baseline_setDrift (by omega) (by omega) _ q l).trans (hbase q l),
      fun n hn => ?_⟩
    by_cases hnm : n = m
    · subst hnm
      rw [drift_setDrift_same hready, State.driftOf, hbase]
    · rw [drift_setDrift_other (by omega) (by omega) (by omega)]
      exact hdrift n (by omega)

theorem baseline_modSmp (f : Smp → Smp) (p k : Nat) : (s.modSmp f).baseline p k = s.baseline p k := rfl

theorem drift_modSmp (f : Smp → Smp) (p k : Nat) : (s.modSmp f).drift p k = s.drift p k := rfl

theorem drift_calOver (c : Nat) (self ok : Bool) (p k : Nat) : (s.calOver c self ok).drift p k = s.drift p k :=
  (drift_modSmp _ p k).trans (drift_modSmp _ p k)

/-- R202: each drift of the cluster is the clamped difference of its baseline and its present delay. -/
theorem drift_measuredDrifts {c : Nat} (hc : c < 64) (hr : s.bankReady = true) (rs : List (BitVec 32)) {n : Nat} (hn : n < 96) :
    (s.measuredDrifts c rs).drift (16 * c + n / 6) (n % 6) =
      clampInt (-96) 96 (-((rs.getD n 0).toInt - s.baseline (16 * c + n / 6) (n % 6))) := by
  have hbase (js : List Nat) (q l : Nat) : (s.noteMeter js).baseline q l = s.baseline q l :=
    congrArg BitVec.toInt (bankBits_congr (meterWord_noteMeter js) 32 _)
  unfold State.measuredDrifts
  dsimp only
  refine ((drift_foldl_setDrift hc rs ?_ le_rfl).2.2 n hn).trans ?_
  · exact ((MeterWork.noteMeter s _).trans (MeterWork.modSmp _ (fun _ => rfl))).bankReady.trans hr
  · rw [baseline_modSmp, hbase]

/-- What stands after i of the clusters cs of the one drift calibration. -/
structure DriftRun (cs : List Nat) (i : Nat) (s t : State) : Prop where
  pending : t.pending = s.pending
  calid : t.reg .SMP_CALID = s.reg .SMP_CALID
  run : ∃ r : CalRun, t.smp.cals = [r] ∧ r.self = false ∧ r.wait = [] ∧ (∀ x ∈ r.left, x ∈ cs ∧ x ∉ cs.take i) ∧
    (r.done = true ∨ r.left = cs)
  last : ∀ x ∈ cs.take i, (t.smp.last.get x {}).st = 2

theorem DriftRun.start {cs : List Nat} (h : s.smp.cals = [{ self := false, left := cs }]) : DriftRun cs 0 s s :=
  ⟨rfl, rfl, ⟨_, h, rfl, rfl, fun x hx => ⟨hx, by simp⟩, .inr rfl⟩, by simp⟩

theorem DriftRun.next {cs : List Nat} {i : Nat} (h : DriftRun cs i s t) (hi : i < cs.length) (rs : List (BitVec 32)) :
    DriftRun cs (i + 1) s (t.clusterDrifts (cs.getD i 0) rs) := by
  have hget : cs.getD i 0 = cs[i] := by simp [hi]
  have htake : cs.take (i + 1) = cs.take i ++ [cs[i]] := by simp
  have hmeasured := MeterWork.measuredDrifts t cs[i] rs
  rw [hget, clusterDrifts_eq]
  generalize t.measuredDrifts cs[i] rs = u at hmeasured
  obtain ⟨r, hcals, hself, hwait, hleft, hdone⟩ := h.run
  refine ⟨hmeasured.pending.trans h.pending, (hmeasured.reg (by decide)).trans h.calid, ⟨r.over cs[i] false true, ?_, ?_, ?_, ?_, ?_⟩, ?_⟩
  · rw [cals_calOver, hmeasured.cals, hcals]
    rfl
  · rw [CalRun.over_self, hself]
  · rw [CalRun.over_wait, hwait]
  · intro x hx
    have hne : x ≠ cs[i] := by
      rintro rfl
      exact r.over_left cs[i] true (hself ▸ hx)
    have hin : x ∈ r.left := by
      unfold CalRun.over at hx
      split at hx
      · exact List.mem_of_mem_filter hx
      · exact hx
    rw [htake, List.mem_append, List.mem_singleton]
    exact ⟨(hleft x hin).1, fun h => h.elim (hleft x hin).2 hne⟩
  · by_cases hin : cs[i] ∈ r.left
    · exact .inl (by simp [CalRun.over, hself, hin])
    · have hdone' : r.done = true := hdone.resolve_right (fun hl => hin (hl ▸ List.getElem_mem hi))
      exact .inl (by simp [CalRun.over, hin, hdone'])
  · intro x hx
    rw [htake] at hx
    by_cases hxi : x = cs[i]
    · rw [hxi]
      exact last_calOver cs[i] false true
    · rw [last_calOver_other hxi, hmeasured.last]
      exact h.last x ((List.mem_append.1 hx).resolve_right (fun h => hxi (List.mem_singleton.1 h)))

/-- R202: the drifts of every cluster of a request. -/
def State.allDrifts (s : State) (cs : List Nat) (rs : List (List (BitVec 32))) : State :=
  (List.range cs.length).foldl (fun acc i => acc.clusterDrifts (cs.getD i 0) (rs.getD i [])) s

theorem allDrifts_driftRun {cs : List Nat} (h : s.smp.cals = [{ self := false, left := cs }]) (rs : List (List (BitVec 32))) :
    DriftRun cs cs.length s (s.allDrifts cs rs) := by
  have hupto : ∀ i, i ≤ cs.length →
      DriftRun cs i s ((List.range i).foldl (fun acc i => acc.clusterDrifts (cs.getD i 0) (rs.getD i [])) s) := by
    intro i
    induction i with
    | zero => exact fun _ => .start h
    | succ i ih =>
      intro hi
      rw [List.range_succ, List.foldl_append]
      exact (ih (by omega)).next (by omega) _
  exact hupto cs.length le_rfl

theorem driftcalComplete_of_one {cs : List Nat} (h : s.smp.cals = [{ self := false, left := cs }]) (hr : s.bankReady = true)
    (rs : List (List (BitVec 32))) : s.driftcalComplete rs = ((s.allDrifts cs rs).pendOffsets cs).calSettle := by
  unfold State.driftcalComplete
  simp only [h, List.find?_cons_of_pos, Bool.not_false, hr, Bool.not_true, Bool.false_eq_true, if_false]
  rfl

/-- R194, R202: the request's last cluster completes it. -/
theorem driftcalComplete_done {cs : List Nat} (h : s.smp.cals = [{ self := false, left := cs }]) (hne : cs ≠ []) (hr : s.bankReady = true)
    (rs : List (List (BitVec 32))) : s.driftcalComplete rs =
      (((s.allDrifts cs rs).pendOffsets cs).modSmp (fun m => { m with cals := [] })).calDone false := by
  obtain ⟨r, hcals, hself, hwait, hleft, hdone⟩ := (allDrifts_driftRun h rs).run
  have hempty : r.left = [] := List.eq_nil_iff_forall_not_mem.2 (fun x hx => (hleft x hx).2 (by simpa using (hleft x hx).1))
  have hdone' : r.done = true := hdone.resolve_right (fun hl => hne (hl.symm.trans hempty))
  rw [driftcalComplete_of_one h hr, calSettle_of_last (by rw [pendOffsets_eq]; exact hcals) hwait hempty hdone', hself]

/-- The end of a drift calibration leaves the words of the tables. -/
theorem meterWord_calDone_drift {j : Nat} (hlow : 0x8200 ≤ j) (hhigh : j < 0xDC00) : (s.calDone false).meterWord j = s.meterWord j := by
  have hcalid (u : State) (v : Word) : (u.setReg .SMP_CALID v).meterWord j = u.meterWord j :=
    meterWord_congr (congrArg (fldOf F.SBK_STATUS_READY · != 0) (reg_setReg_other (q := .SBK_STATUS) (by decide) v)) rfl j
  rw [calDone_false, meterWord_writeHeader hlow, hcalid, meterWord_closeBlock hhigh]

end Sys2Proof.Machine
end

section
/-!
SUPPORT. The SMP's start: a fault of the reference and its end, resets, the domain's power-on, and the arrival of the segment (R183, R188,
R204).
-/
namespace Sys2Proof.Machine

open Sys2Proof

variable {s t : State}

/-! ### The reference (R188) -/

theorem truFault_effect (h : s.smpOn = true) : s.truFault.pending = s.pending ∧ s.truFault.flag F.SMP_STATUS_TREF = true ∧
    ∀ c : Nat, c < 64 → s.truFault.smp.trefOoc.get c false = true := by
  have hraised : (s.raise F.SMP_STATUS_TREF).flag F.SMP_STATUS_TREF = true := flag_setFld_one (by decide) 0 0 0
  have hblock : ∃ m, s.truFault = ((s.raise F.SMP_STATUS_TREF).modSmp (fun _ => m)).modSmp (fun m => { m with
      trefOoc := (List.range 64).foldl (fun acc c => acc.set c true false) m.trefOoc, trefCal := {} }) := by
    unfold State.truFault
    simp only [h, Bool.not_true, Bool.false_eq_true, if_false]
    split
    · split
      · exact ⟨_, rfl⟩
      · exact ⟨_, rfl⟩
    · exact ⟨_, rfl⟩
  obtain ⟨m, hm⟩ := hblock
  rw [hm]
  refine ⟨rfl, hraised, fun c hc => ?_⟩
  exact (Tab.get_foldl_set true false (List.range 64) _ c).trans (if_pos (List.mem_range.2 hc))

/-- R188: the clusters with a drift calibration since the fault recover. -/
def State.trefCleared (s : State) : State := s.modSmp (fun m => { m with
  trefOoc := (List.range 64).foldl (fun acc c => if m.trefCal.get c false then acc.set c false false else acc) m.trefOoc })

theorem trefCleared_ooc {c : Nat} (hc : c < 64) :
    s.trefCleared.smp.trefOoc.get c false = (s.smp.trefOoc.get c false && !(s.smp.trefCal.get c false)) := by
  refine (Tab.get_foldl_setWhere (fun c => s.smp.trefCal.get c false) false false (List.range 64) _ c).trans ?_
  cases s.smp.trefCal.get c false <;> simp [hc]

theorem truRecovery_eq (s : State) : s.truRecovery =
    if (List.range 64).any (fun c => s.trefCleared.smp.trefOoc.get c false) then s.trefCleared
    else s.trefCleared.setFld F.SMP_STATUS_TREF 0 := rfl

theorem truRecovery_smp (s : State) : s.truRecovery.smp = s.trefCleared.smp ∧ s.truRecovery.pending = s.pending := by
  rw [truRecovery_eq]
  split <;> exact ⟨rfl, rfl⟩

/-! ### Reset and power-on (R183, R204) -/

theorem smpRestart_resets (s : State) : s.smpRestart.fld F.SMP_STATUS_RESETS = s.fld F.SMP_STATUS_RESETS := by
  have hset (u : State) (m : Smp) : ({ u.setFld F.SMP_STATUS_RESETS (s.fld F.SMP_STATUS_RESETS) with smp := m } : State).fld
      F.SMP_STATUS_RESETS = s.fld F.SMP_STATUS_RESETS := fld_setFld_fits (by decide) (fld_le_fldMax _ 0 0 0) 0 0 0
  unfold State.smpRestart
  exact hset _ _

theorem smpRestart_pending (s : State) : s.smpRestart.pending = s.pending := by
  have hset (u : State) (n : Nat) (m : Smp) :
      ({ (u.resetBlock .SMP).setFld F.SMP_STATUS_RESETS n with smp := m } : State).pending = u.pending := rfl
  unfold State.smpRestart
  exact (hset _ _ _).trans (Dropping.dropCaptures s).pending

/-- Registers outside a reset range read as before. -/
theorem reg_resetRange_other {lo hi : Nat} {r : RegId} {i j k : Nat} (h : ¬ (lo ≤ regAddr r i j k ∧ regAddr r i j k < hi)) :
    (s.resetRange lo hi).reg r i j k = s.reg r i j k := by
  have hp : (decide (lo ≤ regAddr r i j k) && decide (regAddr r i j k < hi)) = false := by simpa using h
  simp only [State.reg, State.resetRange, Tab.get_clear, hp, Bool.false_eq_true, if_false]

/-- An SMP reset does not reach the power controller. -/
theorem smpRestart_domOn (s : State) : s.smpRestart.domOn domSMP = s.domOn domSMP := by
  have hset (u : State) (n : Nat) (m : Smp) :
      ({ (u.resetBlock .SMP).setFld F.SMP_STATUS_RESETS n with smp := m } : State).reg .PWR_ON 0 7 = u.reg .PWR_ON 0 7 :=
    (reg_setReg_other (s := u.resetBlock .SMP) (r := .SMP_STATUS) (by decide) _).trans (reg_resetRange_other (by decide))
  have hreg : s.smpRestart.reg .PWR_ON 0 7 = s.reg .PWR_ON 0 7 := by
    unfold State.smpRestart
    exact (hset _ _ _).trans ((Dropping.dropCaptures s).reg (by decide))
  exact congrArg (BitVec.getLsbD · 0) hreg

theorem smpPowerOn_effect (s : State) : s.smpPowerOn.domOn domSMP = true ∧ s.smpPowerOn.smp.segReq = true ∧
    s.smpPowerOn.pending = s.pending := by
  refine ⟨?_, rfl, smpRestart_pending _⟩
  refine (smpRestart_domOn _).trans ?_
  show ((s.setReg .PWR_ON (s.reg .PWR_ON 0 7 ||| 1) 0 7).reg .PWR_ON 0 7).getLsbD 0 = true
  rw [reg_setReg, BitVec.getLsbD_or]
  simp

theorem domainPowerUp_smp {o : PwrOp} (ho : s.opOn domSMP = some o) (hk : o.kind = .on) (ha : o.ask = .own)
    (ht : s.switchTurn domSMP = true) (hc : s.cstate = ckRun) :
    s.domainPowerUp domSMP = ((s.dropOp domSMP).setDomOn domSMP true).smpPowerOn := by
  unfold State.domainPowerUp
  rw [ho]
  dsimp only
  rw [if_pos ⟨hk, ht, hc⟩, ha]
  rfl

/-! ### The segment arrives (R204) -/

theorem smpFail_effect (s : State) :
    s.smpFail.smpState = smpNoImage ∧ s.smpFail.smp.calValid = false ∧ s.smpFail.pending = s.pending := by
  obtain ⟨u, heq, hst, hvalid, hpending⟩ : ∃ u : State, s.smpFail = u.dropCaptures ∧ u.smpState = smpNoImage ∧ u.smp.calValid = false ∧
      u.pending = s.pending := by
    unfold State.smpFail
    dsimp only
    rw [pendOffsets_eq]
    exact ⟨_, rfl, fld_setFld_fits (f := F.SMP_STATUS_STATE) (by decide) (by decide) 0 0 0, rfl, rfl⟩
  have hdrop := Dropping.dropCaptures u
  rw [heq, hdrop.smp, hdrop.pending]
  exact ⟨(congrArg (fldOf F.SMP_STATUS_STATE) (hdrop.reg (r := .SMP_STATUS) (by decide))).trans hst, hvalid, hpending⟩

/-- R204: the SMP starts with a segment of hash h, and can become READY: its device is not exhausted, the bank accepts accesses and
every buffer is free. The queue is q. -/
structure Starting (h : BitVec 512) (q : List Instr) (s : State) : Prop where
  queue : s.pending = q
  fit : s.fuses.exhausted = false
  ready : s.bankReady = true
  free : ∀ b, b < 4 → (s.buf b).st = .free
  hash : s.smp.segHash = h

section
variable {h : BitVec 512} {q : List Instr}

theorem Starting.meterWork (hs : Starting h q s) (hw : MeterWork s t) : Starting h q t := by
  refine ⟨by rw [hw.pending, hs.queue], by rw [hw.fuses, hs.fit], by rw [hw.bankReady, hs.ready], fun b hb => ?_,
    by rw [hw.segHash, hs.hash]⟩
  unfold State.buf
  rw [hw.bufs]
  exact hs.free b hb

theorem Starting.filling (hs : Starting h q s) : s.filling = none := by
  refine List.find?_range_eq_none.2 (fun b hb => ?_)
  rw [hs.free b hb]
  rfl

/-- A seal count is burned and logged. -/
theorem Starting.sealed (hs : Starting h q s) (n m : Nat) :
    Starting h q { s with fuses := { s.fuses with sealNo := n, sealLogged := m } } :=
  ⟨hs.queue, hs.fit, hs.ready, hs.free, hs.hash⟩

theorem Starting.sealStep (hs : Starting h q s) (action : Nat) : Starting h q (s.sealStep action) := by
  unfold State.sealStep
  rw [closeBlock_of_none hs.filling]
  exact (((hs.sealed _ _).meterWork (.logEvent ..)).sealed _ _).meterWork (.certifySmp _)

theorem Starting.logSealLoss (hs : Starting h q s) : Starting h q s.logSealLoss :=
  (hs.meterWork (.logEvent ..)).sealed _ _

theorem sealNo_logSealLoss (s : State) : s.logSealLoss.fuses.sealNo = s.fuses.sealNo := by
  have hlog := (MeterWork.logEvent s 0x06 (BitVec.ofNat 64 s.fuses.sealNo) 0 .none 0).fuses
  unfold State.logSealLoss
  dsimp only
  rw [hlog]

/-- R204: step 4, with a seal count to spare. -/
theorem noteSegment_starting {seg : List Byte} (hs : Starting s.smp.segHash q s) (hn : s.fuses.sealNo < 4096) :
    Starting (sha512 seg) q (s.noteSegment seg) := by
  have hloaded : Starting (sha512 seg) q (s.modSmp (fun m => { m with
      seg := none, segReq := false, segHash := sha512 seg, meter := loadMeter seg })) := ⟨hs.queue, hs.fit, hs.ready, hs.free, rfl⟩
  unfold State.noteSegment
  dsimp only
  generalize hu : s.modSmp (fun m => { m with seg := none, segReq := false, segHash := sha512 seg, meter := loadMeter seg }) = u
    at hloaded
  have hun : u.fuses.sealNo < 4096 := by rw [← hu]; exact hn
  obtain ⟨hv, hvn⟩ : Starting (sha512 seg) q (if u.fuses.sealNo > u.fuses.sealLogged then u.logSealLoss else u) ∧
      (if u.fuses.sealNo > u.fuses.sealLogged then u.logSealLoss else u).fuses.sealNo < 4096 := by
    split
    · exact ⟨hloaded.logSealLoss, by rw [sealNo_logSealLoss]; exact hun⟩
    · exact ⟨hloaded, hun⟩
  generalize (if u.fuses.sealNo > u.fuses.sealLogged then u.logSealLoss else u) = v at hv hvn
  split
  · split
    · exact hv
    · rw [State.sealStepForced, if_pos hvn]
      exact (hv.sealStep 1).meterWork (.writeStore ..)
  · exact hv

theorem Starting.setReg (hs : Starting h q s) {r : RegId} (hr : regAddr .SBK_STATUS ≠ regAddr r) (v : Word) :
    Starting h q (s.setReg r v) :=
  ⟨hs.queue, hs.fit, (congrArg (fldOf F.SBK_STATUS_READY · != 0) (reg_setReg_other hr v)).trans hs.ready, hs.free, hs.hash⟩

theorem Starting.noteStart (hs : Starting h q s) : Starting h q s.noteStart := by
  have hregs := (hs.setReg (r := .SMP_START) (by decide) s.time).setReg (r := .SMP_STATUS) (by decide)
    (putFld F.SMP_STATUS_KEYSLOT s.fuses.metSlot ((s.setReg .SMP_START s.time).reg .SMP_STATUS))
  exact ⟨hregs.queue, hregs.fit, hregs.ready, hregs.free, hregs.hash⟩

end

/-- What the reading of the calibration store keeps. -/
structure Loading (s t : State) : Prop where
  pending : t.pending = s.pending
  fuses : t.fuses = s.fuses
  bufs : t.smp.bufs = s.smp.bufs
  bseq : t.smp.bseq = s.smp.bseq
  hash : t.smp.segHash = s.smp.segHash

theorem Loading.trans {a b c : State} (h : Loading a b) (g : Loading b c) : Loading a c :=
  ⟨g.pending.trans h.pending, g.fuses.trans h.fuses, g.bufs.trans h.bufs, g.bseq.trans h.bseq, g.hash.trans h.hash⟩

theorem Loading.ofMeterWork (h : MeterWork s t) : Loading s t := ⟨h.pending, h.fuses, h.bufs, h.bseq, h.segHash⟩

theorem Loading.pendOffsets (s : State) (cs : List Nat) : Loading s (s.pendOffsets cs) := by
  rw [pendOffsets_eq]
  exact ⟨rfl, rfl, rfl, rfl, rfl⟩

theorem Loading.setReg (s : State) (r : RegId) (v : Word) : Loading s (s.setReg r v) := ⟨rfl, rfl, rfl, rfl, rfl⟩

theorem Loading.setFld (s : State) (f : Fld) (v : Nat) : Loading s (s.setFld f v) := ⟨rfl, rfl, rfl, rfl, rfl⟩

theorem Loading.modSmp (s : State) {f : Smp → Smp} (hbufs : ∀ m, (f m).bufs = m.bufs) (hbseq : ∀ m, (f m).bseq = m.bseq)
    (hhash : ∀ m, (f m).segHash = m.segHash) : Loading s (s.modSmp f) := ⟨rfl, rfl, hbufs _, hbseq _, hhash _⟩

theorem Loading.loadCal (s : State) : Loading s s.loadCal := by
  unfold State.loadCal
  dsimp only
  refine Loading.trans ?_ (.trans (.ofMeterWork (.updateTout _)) (.pendOffsets _ _))
  refine Loading.trans ?_ (.modSmp _ (fun _ => rfl) (fun _ => rfl) (fun _ => rfl))
  split
  · rename_i k _
    refine (Loading.ofMeterWork (.fold (fun a i => .setMeterWord a (calWordAt i) (s.storeWord k i)) (List.range calWords) s)).trans ?_
    exact (Loading.setReg _ .SMP_CALID _).trans <| (Loading.setFld _ F.SMP_STATUS_PLANE _).trans <|
      (Loading.setFld _ F.SMP_STATUS_NOCAL 0).trans (.modSmp _ (fun _ => rfl) (fun _ => rfl) (fun _ => rfl))
  · exact (Loading.setFld _ F.SMP_STATUS_NOCAL 1).trans (.modSmp _ (fun _ => rfl) (fun _ => rfl) (fun _ => rfl))

/-- R193: where every buffer is free, one starts to fill. -/
theorem filling_startFilling (hfree : ∀ b, b < 4 → (s.buf b).st = .free) : s.startFilling.filling ≠ none := by
  have hnone : s.filling = none := List.find?_range_eq_none.2 (fun b hb => by rw [hfree b hb]; rfl)
  have hzero : (List.range 4).find? (fun b => (s.buf b).st == .free) = some 0 :=
    List.find?_range_eq_some.2 ⟨by rw [hfree 0 (by omega)]; rfl, by simp, fun k hk => absurd hk (Nat.not_lt_zero k)⟩
  have hstart : s.startFilling = s.modBuf 0 (fun _ => { st := .filling }) := by
    unfold State.startFilling
    rw [hnone, hzero]
    rfl
  rw [hstart]
  intro h
  have hzero := List.find?_range_eq_none.1 h 0 (by omega)
  rw [buf_modBuf_same] at hzero
  simp at hzero

/-- R193: which register a start to fill leaves. -/
theorem reg_startFilling (r : RegId) (i j k : Nat) : s.startFilling.reg r i j k = s.reg r i j k := by
  obtain ⟨_, _, _, h⟩ := BlockWork.startFilling s
  rw [h]
  rfl

/-- R204: step 7, where the device is not exhausted. -/
theorem smpOpen_effect (hfit : s.fuses.exhausted = false) (hfree : ∀ b, b < 4 → (s.buf b).st = .free) :
    s.smpOpen.smpState = smpReady ∧ s.smpOpen.smp.segHash = s.smp.segHash ∧ s.smpOpen.smp.bseq = s.smp.bseq ∧
    s.smpOpen.filling ≠ none ∧ s.smpOpen.pending = s.pending := by
  have hcert := MeterWork.certifySmp (s.setFld F.SMP_STATUS_STATE smpReady)
  have hopen : s.smpOpen = (s.setFld F.SMP_STATUS_STATE smpReady).certifySmp.noteChain.startFilling := by
    unfold State.smpOpen
    dsimp only
    rw [hfit, if_neg Bool.false_ne_true, hcert.fuses, if_neg (by rw [setFld_fuses, hfit]; exact Bool.false_ne_true)]
  have hstate : (s.setFld F.SMP_STATUS_STATE smpReady).certifySmp.reg .SMP_STATUS =
      (s.setFld F.SMP_STATUS_STATE smpReady).reg .SMP_STATUS :=
    hcert.reg (by decide)
  have hbufs := hcert.bufs
  have hhash := hcert.segHash
  have hbseq := hcert.bseq
  have hpending := hcert.pending
  rw [hopen]
  generalize (s.setFld F.SMP_STATUS_STATE smpReady).certifySmp = u at hstate hbufs hhash hbseq hpending
  have hready : (s.setFld F.SMP_STATUS_STATE smpReady).smpState = smpReady :=
    fld_setFld_fits (f := F.SMP_STATUS_STATE) (by decide) (by decide) 0 0 0
  obtain ⟨c, b, n, hwork⟩ := (BlockWork.noteChain u).trans (.startFilling _)
  refine ⟨?_, ?_, ?_, filling_startFilling (fun b hb => ?_), ?_⟩
  · rw [hwork]
    exact (congrArg (fldOf F.SMP_STATUS_STATE) hstate).trans hready
  · rw [hwork]
    exact hhash
  · rw [bseq_startFilling, smp_noteChain, hbseq]
    rfl
  · rw [buf_noteChain, State.buf, hbufs]
    exact hfree b hb
  · rw [hwork]
    exact hpending

theorem bseq_noteStart (s : State) : s.noteStart.smp.bseq = 0 := rfl

/-- R204: steps 5 to 7. -/
theorem smpSegmentArrival_of_good {seg : List Byte} (hseg : s.smp.seg = some seg) (hon : s.smpOn = true) (hboot : s.smpState = smpBoot)
    (hgood : s.segmentGood seg = true) (hs : Starting s.smp.segHash s.pending s) (hn : s.fuses.sealNo < 4096) :
    s.smpSegmentArrival = (s.noteSegment seg).noteStart.loadCal.smpOpen := by
  have hguard : ¬ ((!s.smpOn) = true ∨ s.smpState ≠ smpBoot) := by simp [hon, hboot]
  have hready : (s.noteSegment seg).noteStart.bankReady = true := (noteSegment_starting hs hn).noteStart.ready
  unfold State.smpSegmentArrival
  rw [hseg]
  dsimp only
  rw [if_neg hguard, if_neg (by rw [hgood]; exact Bool.false_ne_true), if_pos hready]

theorem smpSegmentArrival_of_bad {seg : List Byte} (hseg : s.smp.seg = some seg) (hon : s.smpOn = true) (hboot : s.smpState = smpBoot)
    (hbad : s.segmentGood seg = false) : s.smpSegmentArrival = s.smpFail := by
  have hguard : ¬ ((!s.smpOn) = true ∨ s.smpState ≠ smpBoot) := by simp [hon, hboot]
  unfold State.smpSegmentArrival
  rw [hseg]
  dsimp only
  rw [if_neg hguard, hbad]
  exact if_pos rfl

end Sys2Proof.Machine
end

section
/-!
PROOF. O41: the SMP's own events (R131, R183, R186 to R196, R201, R202, R204).
-/
namespace Sys2Proof.Machine

open Sys2Proof

variable {s t : State}

/-- A command answers what its body makes of the state, where the body leaves the queue alone. -/
theorem answers_keep {c : Instr} {P : State → Prop} (hc : exec c s = .next (s.keep t)) (hp : t.pending = s.pending) (h : P t) :
    Answers c s P := ⟨t, by rw [hc, keep_eq hp], h⟩

theorem answers_offsetLoad {c : Fin 64} (hlive : s.live domSMP = true) (hp : s.smp.pendOff.get c false = true)
    (hb : s.clusterBusy c = false) (hr : s.bankReady = true) : Answers (.offsetLoad c) s (fun t =>
      (∀ p k : Nat, p / 16 = c.val → k < 6 → t.calOff p k = s.calC p k) ∧
      (∀ p k : Nat, p / 16 ≠ c.val → k < 6 → t.calOff p k = s.calOff p k) ∧ t.smp.pendOff.get c false = false) := by
  obtain ⟨u, ⟨js, hu⟩, h⟩ := offsetLoad_of_pending hp hb hr
  refine answers_inDom rfl hlive ?_ ⟨fun p k hin hk => ?_, fun p k hout hk => ?_, ?_⟩
  · have hpending : u.pending = s.pending := by rw [hu]; exact (MeterWork.noteMeter s js).pending
    rw [h]
    exact hpending
  · rw [calOff_offsetLoad hp hb hr hk, if_pos hin]
  · rw [calOff_offsetLoad hp hb hr hk, if_neg hout]
  · rw [h]
    exact Tab.get_set_same ..

theorem answers_captureAccept {c : Fin 64} {cap : Capture} {caps : List Capture} {b : Nat} (hlive : s.live domSMP = true)
    (hon : s.smpOn = true) (hst : s.smpState = smpReady) (hre : s.smp.reload = false) (hcaps : (s.fcu c).caps = cap :: caps)
    (hf : s.filling = some b) :
    ((s.buf b).entries.length + 1 < 4096 → Answers (.captureAccept c) s (fun t =>
      (t.fcu c).caps = caps ∧ (t.buf b).entries = (s.buf b).entries ++ [s.resultEntry cap] ∧ (t.buf b).tlast = s.time ∧
      (∀ k : Nat, k ≠ c.val → t.fcu k = s.fcu k) ∧ t.sbk = s.sbk ∧ t.engines = s.engines)) ∧
    (4096 ≤ (s.buf b).entries.length + 1 → Answers (.captureAccept c) s (fun t => (t.fcu c).caps = caps ∧ (t.buf b).st = .signing ∧
      (t.buf b).entries = (s.buf b).entries ++ [s.resultEntry cap])) := by
  have haccept := captureAccept_of_filling hon hst hre hcaps hf
  have hentries : ((s.capture c b cap caps).buf b).entries = (s.buf b).entries ++ [s.resultEntry cap] := entries_capture
  obtain ⟨hfcu, hsbk, hengines, hpending, htlast⟩ := capture_frame (s := s) c b cap caps
  rw [hentries, List.length_append, List.length_singleton] at haccept
  constructor
  · intro hroom
    rw [if_neg (by omega)] at haccept
    refine answers_inDom rfl hlive (by rw [haccept, hpending]) ?_
    rw [haccept]
    exact ⟨fcu_capture_same, hentries, htlast, hfcu, hsbk, hengines⟩
  · intro hfull
    rw [if_pos hfull] at haccept
    have hclosed := buf_closeBlock (filling_capture (cap := cap) (rest := caps) hf) (by rw [hentries]; simp)
    refine answers_inDom rfl hlive (by rw [haccept, pending_closeBlock, hpending]) ?_
    rw [haccept, hclosed]
    refine ⟨?_, rfl, hentries⟩
    rw [State.fcu, fcus_closeBlock]
    exact fcu_capture_same

theorem answers_captureAccept_stall {c : Fin 64} {cap : Capture} {caps : List Capture} (hlive : s.live domSMP = true)
    (hon : s.smpOn = true) (hst : s.smpState = smpReady) (hre : s.smp.reload = false) (hcaps : (s.fcu c).caps = cap :: caps)
    (hf : s.filling = none) :
    Answers (.captureAccept c) s (fun t => t.flag F.SMP_STATUS_STALL = true ∧ (t.fcu c).caps = cap :: caps) := by
  obtain ⟨hstall, hfcus, hpending⟩ := refuseCapture_effect s
  have haccept := captureAccept_of_none hon hst hre hcaps hf
  refine answers_inDom rfl hlive (by rw [haccept, hpending]) ?_
  rw [haccept, State.fcu, hfcus]
  exact ⟨hstall, hcaps⟩

theorem answers_setcloseTimeout {b : Nat} (hlive : s.live domSMP = true) (hf : s.filling = some b) (hs : s.smp.setclose ≠ 0)
    (he : (s.buf b).entries ≠ []) : Answers .setcloseTimeout s (fun t =>
      (t.buf b).st = .signing ∧ (t.buf b).bseq = s.smp.bseq ∧ t.smp.bseq = s.smp.bseq + 1) := by
  have hclose := setcloseTimeout_of_filling hf hs he
  generalize (s.buf b).tfirst.toNat + 6400 * s.smp.setclose.toNat = n at hclose
  refine answers_inDom rfl hlive (by rw [hclose, pending_closeBlock]; rfl) ?_
  rw [hclose, buf_closeBlock (s := s.atTime n) hf he, bseq_closeBlock (s := s.atTime n) hf he]
  exact ⟨rfl, rfl, rfl⟩

theorem answers_blockSigned {b : Nat} (hlive : s.live domSMP = true) (hb : b < 4) (hx : s.smpState ≠ smpExhausted)
    (hst : (s.buf b).st = .signing) (hu : ∀ k : Nat, k < 4 → k ≠ b → (s.buf k).st ≠ .signing) : Answers .blockSigned s (fun t =>
      (t.buf b).st = .signed ∧ (t.buf b).header.length = 64 ∧ (t.buf b).entries = (s.buf b).entries ∧
      t.plic.pend.get 12 false = true ∧ t.smp.signs = s.smp.signs + 1 ∧
      t.fld F.SMP_CNT_BLOCKS = satAdd (fldMax F.SMP_CNT_BLOCKS) (s.fld F.SMP_CNT_BLOCKS) 1) := by
  obtain ⟨header, hash, hlength, hsigned⟩ := blockSigned_of_signing hb hx hst hu
  obtain ⟨c, hchain⟩ := noteChain_changes ((s.modBuf b (fun y => { y with st := .signed, header := header })).modSmp
    (fun m => { m with prev := hash, signs := m.signs + 1 }))
  rw [hchain] at hsigned
  have hbuf : s.blockSigned.buf b = { s.buf b with st := .signed, header := header } := by
    rw [hsigned]
    exact Eq.trans (b := (s.modBuf b (fun y => { y with st := .signed, header := header })).buf b) rfl (buf_modBuf_same b _)
  refine answers_inDom rfl hlive (by rw [hsigned]; rfl) ?_
  rw [hbuf]
  refine ⟨rfl, hlength, rfl, ?_, ?_, ?_⟩
  · rw [hsigned]
    exact Tab.get_set_same ..
  · rw [hsigned]
    rfl
  · rw [hsigned]
    exact fld_count_fits (by decide) 0 0 0 1

section
variable {c : Fin 64} {deskew lin : List (BitVec 16)} {base : List (BitVec 32)}
  (hrun : (s.smp.cals.any (fun r => r.self && r.left.contains c.val)) = true) (hlive : s.live domSMP = true)
include hrun hlive

theorem answers_selfcalComplete_lost (hw : ∀ r ∈ s.smp.cals, c.val ∉ r.wait) (hl : s.selfLost c = true) :
    Answers (.selfcalComplete c deskew lin base) s (fun t =>
      (t.smp.last.get c {}).st = 3 ∧ ∀ r ∈ t.smp.cals, r.self = true → c.val ∉ r.left) := by
  have hcomplete := (selfcalComplete_of_running (deskew := deskew) (lin := lin) (base := base) hrun).trans (if_pos hl)
  have hsettle := calSettle_settling (spared_calOver hw false)
  refine answers_inDom rfl hlive (by rw [hcomplete, hsettle.pending]; rfl) ?_
  rw [hcomplete, hsettle.last]
  exact ⟨last_calOver c.val true false, hsettle.left⟩

theorem answers_selfcalComplete_done (hw : ∀ r ∈ s.smp.cals, c.val ∉ r.wait) (hl : s.selfLost c = false) (hr : s.bankReady = true) :
    Answers (.selfcalComplete c deskew lin base) s (fun t =>
      (t.smp.last.get c {}).st = 2 ∧ (∀ r ∈ t.smp.cals, r.self = true → c.val ∉ r.left) ∧
      t.smp.calValid = true ∧ t.smp.pendOff.get c false = true ∧ t.smp.tcal.get c none = some (s.clusterTemp c)) := by
  have hcomplete := selfcalComplete_of_ready (deskew := deskew) (lin := lin) (base := base) hrun hl hr
  have hdone : Calibrated c.val s (s.selfDone c deskew lin base) := selfDone_calibrated
  have hsettle := calSettle_settling (hdone.spared hw)
  refine answers_inDom rfl hlive (by rw [hcomplete, hsettle.pending, hdone.pending]) ?_
  rw [hcomplete, hsettle.last, hsettle.calValid, hsettle.pendOff, hsettle.tcal]
  exact ⟨hdone.last, hsettle.left, hdone.calValid, hdone.pendOff, hdone.tcal⟩

theorem answers_selfcalComplete_closed (hl : s.selfLost c = false) (hr : s.bankReady = false) :
    Answers (.selfcalComplete c deskew lin base) s (fun t => t = s) := by
  have hcomplete : s.selfcalComplete c deskew lin base = s :=
    (selfcalComplete_of_running hrun).trans ((if_neg (by rw [hl]; exact Bool.false_ne_true)).trans
      (if_neg (by rw [hr]; exact Bool.false_ne_true)))
  exact answers_inDom rfl hlive (by rw [hcomplete]) hcomplete

theorem answers_selfcalComplete_last {d : Bool} (hc : s.smp.cals = [{ self := true, left := [c.val], done := d }])
    (hl : s.selfLost c = false) (hr : s.bankReady = true) : Answers (.selfcalComplete c deskew lin base) s (fun t => t.smp.cals = [] ∧
      (t.reg .SMP_CALID).extractLsb' 32 32 = (s.reg .SMP_CALID).extractLsb' 32 32 + 1 ∧
      (t.reg .SMP_CALID).extractLsb' 0 32 = 0 ∧ t.flag F.SMP_STATUS_PLANE = false) := by
  have hdone : Calibrated c.val s (s.selfDone c deskew lin base) := selfDone_calibrated
  have hcals : (s.selfDone c deskew lin base).smp.cals = [{ self := true, left := [], done := true }] := by
    rw [hdone.cals, hc]
    simp [CalRun.over]
  have hcomplete := (selfcalComplete_of_ready (deskew := deskew) (lin := lin) (base := base) hrun hl hr).trans
    (calSettle_of_last hcals rfl rfl rfl)
  have hpending := hdone.pending
  have hcalid := hdone.calid
  generalize s.selfDone c deskew lin base = u at hcomplete hpending hcalid
  have hwork := CalWork.calDone (u.modSmp (fun m => { m with cals := [] })) true
  obtain ⟨hmajor, hminor, hplane⟩ := calDone_self (u.modSmp (fun m => { m with cals := [] }))
  rw [modSmp_reg, hcalid] at hmajor
  refine answers_inDom rfl hlive (by rw [hcomplete, hwork.pending, modSmp_pending, hpending]) ?_
  rw [hcomplete]
  exact ⟨hwork.cals, hmajor, hminor, hplane⟩

end

section
variable {cs : List Nat} (hc : s.smp.cals = [{ self := false, left := cs }]) (hlive : s.live domSMP = true) (hr : s.bankReady = true)
include hc hlive hr

theorem answers_driftcalComplete (rs : List (List (BitVec 32))) (hne : cs ≠ []) : Answers (.driftcalComplete rs) s (fun t =>
    t.smp.cals = [] ∧ (∀ c ∈ cs, (t.smp.last.get c {}).st = 2 ∧ t.smp.pendOff.get c false = true) ∧
    t.reg .SMP_CALID = s.reg .SMP_CALID + 1) := by
  have hcomplete := driftcalComplete_done hc hne hr rs
  obtain ⟨hpending, hcalid, -, hlast⟩ := allDrifts_driftRun hc rs
  rw [pendOffsets_eq] at hcomplete
  generalize s.allDrifts cs rs = u at hcomplete hpending hcalid hlast
  generalize hv : (u.modSmp (fun m => { m with pendOff := cs.foldl (fun acc c => acc.set c true false) m.pendOff })).modSmp
    (fun m => { m with cals := [] }) = v at hcomplete
  have hwork := CalWork.calDone v false
  have hvalid := calDone_drift v
  refine answers_inDom rfl hlive (by rw [hcomplete, hwork.pending, ← hv]; exact hpending) ?_
  rw [hcomplete, hwork.cals, hwork.last, hwork.pendOff, hvalid, ← hv]
  refine ⟨rfl, fun c hin => ⟨hlast c (by simpa using hin), ?_⟩, ?_⟩
  · exact (Tab.get_foldl_set true false cs u.smp.pendOff c).trans (if_pos hin)
  · rw [modSmp_reg, modSmp_reg, hcalid]

end

theorem answers_driftcalComplete_one {c : Fin 64} (hc : s.smp.cals = [{ self := false, left := [c.val] }]) (hlive : s.live domSMP = true)
    (hr : s.bankReady = true) (rs : List (BitVec 32)) : Answers (.driftcalComplete [rs]) s (fun t => ∀ n : Nat, n < 96 →
      t.drift (16 * c.val + n / 6) (n % 6) = clampInt (-96) 96 (-((rs.getD n 0).toInt - s.baseline (16 * c.val + n / 6) (n % 6)))) := by
  have hcomplete := driftcalComplete_done hc (by simp) hr [rs]
  have hone : s.allDrifts [c.val] [rs] = (s.measuredDrifts c rs).calOver c false true := by
    unfold State.allDrifts
    rw [List.length_singleton, List.range_one, List.foldl_cons, List.foldl_nil]
    exact clusterDrifts_eq c.val rs
  have hpending := (MeterWork.measuredDrifts s c rs).pending
  have hdrift := fun n (hn : n < 96) => drift_measuredDrifts c.isLt hr rs hn
  rw [pendOffsets_eq, hone] at hcomplete
  generalize s.measuredDrifts c rs = u at hcomplete hpending hdrift
  generalize hv : ((u.calOver c false true).modSmp (fun m =>
    { m with pendOff := [c.val].foldl (fun acc c => acc.set c true false) m.pendOff })).modSmp (fun m => { m with cals := [] }) = v
    at hcomplete
  have hsame (p k : Nat) : v.drift p k = u.drift p k := by
    rw [← hv, drift_modSmp, drift_modSmp, drift_calOver]
  have hwork := CalWork.calDone v false
  refine answers_inDom rfl hlive (by rw [hcomplete, hwork.pending, ← hv]; exact hpending) (fun n hn => ?_)
  rw [hcomplete, ← hdrift n hn, ← hsame]
  unfold State.drift
  rw [bank16_congr (meterWord_calDone_drift (by omega) (by omega))]

theorem answers_smpSegmentArrival {bytes : List Byte} (hlive : s.live domSMP = true) (hseg : s.smp.seg = some bytes) (hon : s.smpOn = true)
    (hboot : s.smpState = smpBoot) :
    (s.segmentGood bytes = false → Answers .smpSegmentArrival s (fun t => t.smpState = smpNoImage ∧ t.smp.calValid = false)) ∧
    (s.segmentGood bytes = true → s.fuses.exhausted = false → s.fuses.sealNo < 4096 → (∀ b : Nat, b < 4 → (s.buf b).st = .free) →
      s.bankReady = true → Answers .smpSegmentArrival s (fun t =>
        t.smpState = smpReady ∧ t.smp.segHash = sha512 bytes ∧ t.smp.bseq = 0 ∧ t.filling ≠ none)) := by
  constructor
  · intro hbad
    have harrival := smpSegmentArrival_of_bad hseg hon hboot hbad
    obtain ⟨hstate, hvalid, hpending⟩ := smpFail_effect s
    refine answers_inDom rfl hlive (by rw [harrival, hpending]) ?_
    rw [harrival]
    exact ⟨hstate, hvalid⟩
  · intro hgood hfit hn hfree hr
    have hs : Starting s.smp.segHash s.pending s := ⟨rfl, hfit, hr, hfree, rfl⟩
    have harrival := smpSegmentArrival_of_good hseg hon hboot hgood hs hn
    have hstart := (noteSegment_starting hs hn (seg := bytes)).noteStart
    have hbseq := bseq_noteStart (s.noteSegment bytes)
    generalize (s.noteSegment bytes).noteStart = u at harrival hstart hbseq
    have hload := Loading.loadCal u
    generalize u.loadCal = v at harrival hload
    obtain ⟨hstate, hhash, hseq, hfilling, hpending⟩ := smpOpen_effect (s := v) (by rw [hload.fuses, hstart.fit])
      (fun b hb => by rw [State.buf, hload.bufs]; exact hstart.free b hb)
    refine answers_inDom rfl hlive (by rw [harrival, hpending, hload.pending, hstart.queue]) ?_
    rw [harrival]
    exact ⟨hstate, by rw [hhash, hload.hash, hstart.hash], by rw [hseq, hload.bseq, hbseq], hfilling⟩

theorem answers_smpWatchdogExpiry (hlive : s.live domSMP = true) (hon : s.smpOn = true) : Answers .smpWatchdogExpiry s (fun t =>
    t.smp = { segReq := true } ∧
    t.fld F.SMP_STATUS_RESETS = satAdd (fldMax F.SMP_STATUS_RESETS) (s.fld F.SMP_STATUS_RESETS) 1) := by
  have hreset : s.smpReset = s.smpRestart.count F.SMP_STATUS_RESETS := if_pos hon
  have hsmp : s.smpRestart.smp = { segReq := true } := rfl
  have hresets := smpRestart_resets s
  have hpending := smpRestart_pending s
  generalize s.smpRestart = u at hreset hsmp hresets hpending
  refine answers_inDom rfl hlive (by rw [hreset]; exact hpending) ?_
  rw [hreset, fld_count_fits (by decide), hresets]
  exact ⟨hsmp, rfl⟩

theorem answers_sector65Scrub (n : Nat) {seg : List Byte} (hlive : s.live domSMP = true) (hon : s.smpOn = true)
    (hseg : s.smp.meter.seg = some seg) : Answers (.sector65Scrub n) s (fun t =>
      t.smp.meter.frames = sector65 seg ∧ t.fuses = s.fuses ∧
      t.fld F.SMP_CNT_UPSET = satAdd (fldMax F.SMP_CNT_UPSET) (s.fld F.SMP_CNT_UPSET) n) := by
  have hscrub : s.sector65Scrub n =
      (s.modSmp (fun m => { m with meter := { m.meter with frames := sector65 seg } })).count F.SMP_CNT_UPSET 0 0 0 n := by
    unfold State.sector65Scrub
    rw [hseg]
    exact if_pos hon
  refine answers_inDom rfl hlive (by rw [hscrub]; rfl) ?_
  rw [hscrub, fld_count_fits (by decide)]
  exact ⟨rfl, rfl, rfl⟩

theorem answers_truRecovery (s : State) : Answers .truRecovery s (fun t =>
    (∀ c : Nat, c < 64 → t.smp.trefOoc.get c false = (s.smp.trefOoc.get c false && !(s.smp.trefCal.get c false))) ∧
    ((∀ c : Nat, c < 64 → (s.smp.trefOoc.get c false && !(s.smp.trefCal.get c false)) = false) → t.flag F.SMP_STATUS_TREF = false) ∧
    ((∃ c : Nat, c < 64 ∧ (s.smp.trefOoc.get c false && !(s.smp.trefCal.get c false)) = true) → t.regs = s.regs)) := by
  obtain ⟨hsmp, hpending⟩ := truRecovery_smp s
  refine answers_keep rfl hpending ⟨fun c hc => ?_, fun hall => ?_, fun hsome => ?_⟩
  · rw [hsmp, trefCleared_ooc hc]
  · have hnone : (List.range 64).any (fun c => s.trefCleared.smp.trefOoc.get c false) = false := by
      rw [List.any_eq_false]
      intro c hc
      have hc := List.mem_range.1 hc
      rw [trefCleared_ooc hc, hall c hc]
      exact Bool.false_ne_true
    rw [truRecovery_eq, hnone, if_neg Bool.false_ne_true]
    exact flag_setFld_zero (by decide) 0 0 0
  · obtain ⟨c, hc, hstill⟩ := hsome
    have hany : (List.range 64).any (fun c => s.trefCleared.smp.trefOoc.get c false) = true :=
      List.any_eq_true.2 ⟨c, List.mem_range.2 hc, by rw [trefCleared_ooc hc, hstill]⟩
    rw [truRecovery_eq, if_pos hany]
    rfl

/-- Settles O41: each event is its operation in the case that the SMP's state gives. -/
theorem measurementEventsFollowTheirRules : Obligations.MeasurementEventsFollowTheirRules := by
  intro s
  refine ⟨fun hlive => ⟨?_, ?_, ?_, ?_, ?_, ?_, ?_, ?_, ?_, ?_, ?_, ?_, ?_⟩, ?_, answers_truRecovery s, ?_⟩
  · intro c hp hb hr
    exact answers_offsetLoad hlive hp hb hr
  · intro c cap caps b hon hst hre hcaps hf
    exact (answers_captureAccept hlive hon hst hre hcaps hf).1
  · intro c cap caps b hon hst hre hcaps hf
    exact (answers_captureAccept hlive hon hst hre hcaps hf).2
  · intro c cap caps hon hst hre hcaps hf
    exact answers_captureAccept_stall hlive hon hst hre hcaps hf
  · intro b hf hs he
    exact answers_setcloseTimeout hlive hf hs he
  · intro b hb hx hst hu
    exact answers_blockSigned hlive hb hx hst hu
  · intro c deskew lin base hrun hw
    exact ⟨answers_selfcalComplete_lost hrun hlive hw, answers_selfcalComplete_done hrun hlive hw,
      answers_selfcalComplete_closed hrun hlive, fun d hc => answers_selfcalComplete_last hrun hlive hc⟩
  · intro cs rs hc hne hr
    exact answers_driftcalComplete hc hlive hr rs hne
  · intro c rs hc hr
    exact answers_driftcalComplete_one hc hlive hr rs
  · intro bytes hseg hon hboot
    exact (answers_smpSegmentArrival hlive hseg hon hboot).1
  · intro bytes hseg hon hboot
    exact (answers_smpSegmentArrival hlive hseg hon hboot).2
  · exact answers_smpWatchdogExpiry hlive
  · intro n seg hon hseg
    exact answers_sector65Scrub n hlive hon hseg
  · intro hon
    obtain ⟨hpending, hflag, hooc⟩ := truFault_effect hon
    exact answers_keep rfl hpending ⟨hflag, hooc⟩
  · intro o ho hk ha ht hc
    have hup := domainPowerUp_smp ho hk ha ht hc
    obtain ⟨hon, hreq, hpending⟩ := smpPowerOn_effect ((s.dropOp domSMP).setDomOn domSMP true)
    refine answers_keep rfl (hup ▸ hpending) ?_
    rw [hup]
    exact ⟨hon, hreq⟩

end Sys2Proof.Machine
end

section
/-!
SUPPORT. The fail capture units: what a unit reads after a change, where the registers of its slots stand (R153), and what a write
of one of its registers does.
-/
namespace Sys2Proof.Machine

open Sys2Proof

variable {s t : State} {mid : MasterId}

/-- A fail capture unit reads as it was last changed. -/
@[simp] theorem fcu_modFcu_same (c : Nat) (f : Fcu → Fcu) : (s.modFcu c f).fcu c = f (s.fcu c) := Tab.get_set_same ..

@[simp] theorem fcu_modSlot_same (c i : Nat) (g : FcuSlot → FcuSlot) :
    (s.modSlot c i g).fcu c = { s.fcu c with slots := (s.fcu c).slots.set i (g ((s.fcu c).slot i)) {} } := fcu_modFcu_same ..

/-! ### The registers of a slot -/

/-- R153: the registers that a fail capture unit has once per slot. -/
def fcuSlotRegs : List RegId :=
  [.FCU_GCFG, .FCU_FLIM, .FCU_RBASE, .FCU_ABASE, .FCU_RSIZE, .FCU_RWP, .FCU_RRP, .FCU_ACFG, .FCU_GSTAT, .FCU_GCNT, .FCU_DROP,
    .FCU_FIRSTU]

/-- Slot i's registers stand in the 256 bytes from 0x100 + 0x100 * i of their unit. -/
theorem regAddr_fcuSlot {r : RegId} (hr : r ∈ fcuSlotRegs) (c i : Nat) :
    regAddr r c i = 0x001807000000 + c * 0x10000 + r.desc.off + i * 0x100 ∧ 0x100 ≤ r.desc.off ∧ r.desc.off < 0x160 := by
  simp only [fcuSlotRegs, List.mem_cons, List.not_mem_nil, or_false] at hr
  rcases hr with rfl | rfl | rfl | rfl | rfl | rfl | rfl | rfl | rfl | rfl | rfl | rfl <;> exact ⟨rfl, by decide, by decide⟩

/-- Two registers of a unit's slots are two words, in one slot or in two. -/
theorem regAddr_fcuSlot_ne {r q : RegId} (hr : r ∈ fcuSlotRegs) (hq : q ∈ fcuSlotRegs) {i j : Nat}
    (h : q.desc.off ≠ r.desc.off ∨ j ≠ i) (c : Nat) : regAddr q c j ≠ regAddr r c i := by
  obtain ⟨hra, _, _⟩ := regAddr_fcuSlot hr c i
  obtain ⟨hqa, _, _⟩ := regAddr_fcuSlot hq c j
  omega

theorem reg_setReg_fcuSlot {r q : RegId} (hr : r ∈ fcuSlotRegs) (hq : q ∈ fcuSlotRegs) {i j : Nat}
    (h : q.desc.off ≠ r.desc.off ∨ j ≠ i) (c : Nat) (v : Word) : (s.setReg r v c i).reg q c j = s.reg q c j :=
  reg_setReg_other (regAddr_fcuSlot_ne hr hq h c) v

theorem fld_setFld_fcuSlot {f g : Fld} (hf : f.reg ∈ fcuSlotRegs) (hg : g.reg ∈ fcuSlotRegs) {i j : Nat}
    (h : g.reg.desc.off ≠ f.reg.desc.off ∨ j ≠ i) (c v : Nat) : (s.setFld f v c i).fld g c j = s.fld g c j :=
  fld_setFld_reg (regAddr_fcuSlot_ne hf hg h c) v

/-! ### Writes of a unit's registers -/

/-- A command that writes an entry of a register answers what the write makes of the state, where it leaves the queue alone. -/
theorem exec_of_entryWrite {c : Instr} {r : RegId} {i j : Nat} {v : Word}
    (hc : exec c s = .next (s.keep (s.writeAs mid r i j v))) (h : s.ReachesReg mid r i true)
    (hw : s.regWrite mid r i j 0 v = (.ok, t)) (hp : t.pending = s.pending) : exec c s = .next (t.noteRsp mid .ok []) := by
  rw [hc, writeAs_of_reaches h, hw, keep_eq (by simpa using hp)]

theorem setBits_zero (n : Nat) : setBits n 0 = [] := by simp [setBits]

theorem setBits_two_pow {n i : Nat} (h : i < n) : setBits n (2 ^ i) = [i] := by
  have hbit : (fun k => (2 ^ i).testBit k) = fun k => k == i := by
    funext k
    rw [Nat.testBit_two_pow, beq_eq_decide]
    exact decide_eq_decide.2 eq_comm
  rw [setBits, hbit, List.filter_beq, List.count_eq_one_of_mem List.nodup_range (List.mem_range.2 h)]
  rfl

end Sys2Proof.Machine
end

section
/-!
PROOF. O32: FCU_COMMIT, the clears of FCU_CLR and the write of FCU_RRP (R139, R153).
-/
namespace Sys2Proof.Machine

open Sys2Proof

variable {s : State} {mid : MasterId}

/-! ### Clears (R139) -/

theorem exec_fcuClrSlot_of_reaches {c : Fin 64} (h : s.ReachesReg mid .FCU_CLR c true) (i : Fin 4) :
    exec (.fcuClrSlot mid c i) s = .next ((s.fcuClearSlot c i).noteRsp mid .ok []) := by
  refine exec_of_entryWrite rfl h ?_ rfl
  have hslot : fldOf F.FCU_CLR_SLOT (putFld F.FCU_CLR_SLOT (2 ^ i.val) 0) = 2 ^ i.val :=
    fldOf_putFld_fits (by decide) (by revert i; decide) 0
  have hpin : fldOf F.FCU_CLR_PIN (putFld F.FCU_CLR_SLOT (2 ^ i.val) 0) = 0 := by
    rw [fldOf_putFld_apart (f := F.FCU_CLR_SLOT) (g := F.FCU_CLR_PIN) (by decide) rfl]
    rfl
  simp only [State.regWrite, hslot, hpin, setBits_two_pow i.isLt, setBits_zero]
  rfl

theorem exec_fcuClrPin_of_reaches {c : Fin 64} (h : s.ReachesReg mid .FCU_CLR c true) (j : Fin 16) :
    exec (.fcuClrPin mid c j) s = .next ((s.fcuClearPin c j).noteRsp mid .ok []) := by
  refine exec_of_entryWrite rfl h ?_ rfl
  have hslot : fldOf F.FCU_CLR_SLOT (putFld F.FCU_CLR_PIN (2 ^ j.val) 0) = 0 := by
    rw [fldOf_putFld_apart (f := F.FCU_CLR_PIN) (g := F.FCU_CLR_SLOT) (by decide) rfl]
    rfl
  have hpin : fldOf F.FCU_CLR_PIN (putFld F.FCU_CLR_PIN (2 ^ j.val) 0) = 2 ^ j.val :=
    fldOf_putFld_fits (by decide) (by revert j; decide) 0
  simp only [State.regWrite, hslot, hpin, setBits_two_pow j.isLt, setBits_zero]
  rfl

/-! ### The read pointer (R153) -/

theorem exec_fcuRrpWrite_of_reaches {c : Fin 64} (h : s.ReachesReg mid .FCU_RRP c true) {i : Fin 4} {rp : BitVec 24} {t : State}
    (ht : s.writeRrp c i rp.toNat = t) (hp : t.pending = s.pending) :
    exec (.fcuRrpWrite mid c i rp) s = .next (t.noteRsp mid .ok []) := by
  have hrp : fldOf F.FCU_RRP_RP (putFld F.FCU_RRP_RP rp.toNat 0) = rp.toNat :=
    fldOf_putFld_fits (by decide) (Nat.le_sub_one_of_lt rp.isLt) 0
  refine exec_of_entryWrite rfl h ?_ hp
  rw [State.regWrite, hrp, ht]

/-! ### The commit (R153) -/

theorem exec_fcuCommit_of_reaches {c : Fin 64} (h : s.ReachesReg mid .FCU_COMMIT c true) {t : State}
    (ht : s.fcuCommit c = t) (hp : t.pending = s.pending) : exec (.fcuCommit mid c) s = .next (t.noteRsp mid .ok []) :=
  exec_of_regWrite rfl h (congrArg (Prod.mk Status.ok) ht) hp

/-- R153: the slots whose ring a commit changes. -/
def State.changedRings (s : State) (c : Nat) : List Nat :=
  (List.range 4).filter (fun i => s.sfld F.FCU_RSIZE_SIZE c i != s.fld F.FCU_RSIZE_SIZE c i ||
    s.sfld F.FCU_RBASE_BASE c i != s.fld F.FCU_RBASE_BASE c i)

theorem mem_changedRings {c i : Nat} (hi : i < 4) : i ∈ s.changedRings c ↔
    ¬ (s.sfld F.FCU_RSIZE_SIZE c i = s.fld F.FCU_RSIZE_SIZE c i ∧ s.sfld F.FCU_RBASE_BASE c i = s.fld F.FCU_RBASE_BASE c i) := by
  simp only [State.changedRings, List.mem_filter, List.mem_range, hi, true_and, Bool.or_eq_true, bne_iff_ne, not_and_or]

theorem fcuCommit_of_refused {c : Nat} (h : (s.clusterStreams c || (List.range 4).any (fun i => s.fcuSlotBad c i)) = true) :
    s.fcuCommit c = s.raise F.FCU_STATUS_CFGERR c :=
  if_pos (by simpa only [Bool.or_eq_true] using h)

theorem fcuCommit_of_taken {c : Nat} (h : (s.clusterStreams c || (List.range 4).any (fun i => s.fcuSlotBad c i)) = false) :
    s.fcuCommit c = (s.commitBlock .FCU c).forAll (s.changedRings c) (fun acc i => acc.fcuRingChange c i) :=
  if_neg (by rw [← Bool.or_eq_true, h]; exact Bool.false_ne_true)

/-- R153: the shadowed registers of a slot lie in their unit's block. -/
theorem fcuShadowed_holds {r : RegId} (hr : r ∈ [RegId.FCU_GCFG, .FCU_FLIM, .FCU_RBASE, .FCU_ABASE, .FCU_RSIZE, .FCU_ACFG])
    (c : Nat) {i : Nat} (hi : i < 4) : isShadowed r = true ∧ Block.Holds .FCU c (regAddr r c i) := by
  simp only [List.mem_cons, List.not_mem_nil, or_false] at hr
  have hslot : r ∈ fcuSlotRegs := by rcases hr with rfl | rfl | rfl | rfl | rfl | rfl <;> decide
  obtain ⟨haddr, _, _⟩ := regAddr_fcuSlot hslot c i
  refine ⟨by rcases hr with rfl | rfl | rfl | rfl | rfl | rfl <;> rfl, ?_⟩
  simp only [Block.Holds, Block.place]
  omega

/-- R153: t is s with the rings of slots xs of unit c empty: their pointers are 0, their records have left the FIFO, and the other
slots' pointers and every working value of a shadowed register are as they were. -/
structure RingsEmptied (c : Nat) (xs : List Nat) (s t : State) : Prop where
  pending : t.pending = s.pending
  work : t.work = s.work
  pointers : ∀ r ∈ [RegId.FCU_RWP, .FCU_RRP], ∀ j, t.reg r c j = if j ∈ xs then 0 else s.reg r c j
  fifo : (t.fcu c).fifo = (s.fcu c).fifo.filter (fun r => !xs.contains r.slot)

/-- What a ring change does before it counts the records that it takes from the FIFO. -/
def State.ringReset (s : State) (c i : Nat) : State :=
  (((s.setReg .FCU_RWP 0 c i).setReg .FCU_RRP 0 c i).modFcu c (fun f =>
    { f with fifo := f.fifo.filter (fun r => r.slot != i),
             outs := f.outs.map (fun o => if o.slot = i then { o with live := false } else o) })).modSlot c i
    (fun x => { x with issue := 0 })

theorem fcuRingChange_eq (s : State) (c i : Nat) :
    s.fcuRingChange c i =
      let gone := ((s.fcu c).fifo.filter (fun r => r.slot == i)).length
      if gone = 0 then s.ringReset c i
      else ((s.ringReset c i).count F.FCU_DROP_DROPPED c i 0 gone).raise F.FCU_GSTAT_LOSS c i := rfl

theorem ringReset_emptied (s : State) (c i : Nat) : RingsEmptied c [i] s (s.ringReset c i) := by
  refine ⟨rfl, rfl, fun r hr j => ?_, ?_⟩
  · show ((s.setReg .FCU_RWP 0 c i).setReg .FCU_RRP 0 c i).reg r c j = _
    simp only [List.mem_cons, List.not_mem_nil, or_false] at hr
    by_cases hj : j = i
    · subst hj
      rw [if_pos (List.mem_singleton_self j)]
      rcases hr with rfl | rfl
      · rw [reg_setReg_fcuSlot (by decide) (by decide) (.inl (by decide)), reg_setReg]
      · exact reg_setReg ..
    · have hslot : r ∈ fcuSlotRegs := by rcases hr with rfl | rfl <;> decide
      rw [if_neg (mt List.mem_singleton.1 hj), reg_setReg_fcuSlot (by decide) hslot (.inr hj),
        reg_setReg_fcuSlot (by decide) hslot (.inr hj)]
  · simp only [State.ringReset, fcu_modSlot_same, fcu_modFcu_same, setReg_fcu, List.contains_cons, List.contains_nil, Bool.or_false]
    rfl

/-- Counting lost records changes neither the pointers nor the FIFO. -/
theorem fcuRingChange_emptied (s : State) (c i : Nat) : RingsEmptied c [i] s (s.fcuRingChange c i) := by
  have hreset := ringReset_emptied s c i
  rw [fcuRingChange_eq]
  dsimp only
  split
  · exact hreset
  · refine ⟨hreset.pending, hreset.work, fun r hr j => ?_, hreset.fifo⟩
    rw [← hreset.pointers r hr j]
    simp only [List.mem_cons, List.not_mem_nil, or_false] at hr
    rcases hr with rfl | rfl
    all_goals
      exact (reg_setReg_fcuSlot (by decide) (by decide) (.inl (by decide)) c _).trans
        (reg_setReg_fcuSlot (by decide) (by decide) (.inl (by decide)) c _)

theorem ringChanges_emptied (c : Nat) (xs : List Nat) (s : State) :
    RingsEmptied c xs s (s.forAll xs (fun acc i => acc.fcuRingChange c i)) := by
  unfold State.forAll
  induction xs generalizing s with
  | nil => exact ⟨rfl, rfl, fun _ _ _ => rfl, (List.filter_true _).symm⟩
  | cons x xs ih =>
    obtain ⟨hpending, hwork, hpointers, hfifo⟩ := fcuRingChange_emptied s c x
    obtain ⟨hpending', hwork', hpointers', hfifo'⟩ := ih (s.fcuRingChange c x)
    refine ⟨hpending'.trans hpending, hwork'.trans hwork, fun r hr j => ?_, ?_⟩
    · rw [List.foldl_cons, hpointers' r hr, hpointers r hr]
      by_cases hj : j ∈ xs <;> simp [hj]
    · rw [List.foldl_cons, hfifo', hfifo, List.filter_filter]
      simp [Bool.and_comm]

/-- Settles O32: a commit is refused, or takes the block's shadows (reg_commitBlock) and empties the rings that it changes
(ringChanges_emptied); the clears and FCU_RRP act on the fields that their write names. -/
theorem fcuRegistersClearAndCommit : Obligations.FcuRegistersClearAndCommit := by
  intro s mid c done busy bad
  refine ⟨fun hreach hrefused => exec_fcuCommit_of_reaches hreach (fcuCommit_of_refused hrefused) rfl, ?_,
    fun hreach => ⟨exec_fcuClrSlot_of_reaches hreach, exec_fcuClrPin_of_reaches hreach⟩, ?_⟩
  · intro hreach htaken same
    obtain ⟨hpending, hwork, hpointers, hfifo⟩ := ringChanges_emptied c (s.changedRings c) (s.commitBlock .FCU c)
    refine ⟨_, exec_fcuCommit_of_reaches hreach (fcuCommit_of_taken htaken) hpending, fun r hr i hi => ?_, fun i hi hsame => ?_,
      fun i hi hnot => ?_, fun hall => ?_⟩
    · obtain ⟨hshadowed, hin⟩ := fcuShadowed_holds hr c hi
      refine Eq.trans ?_ (reg_commitBlock hshadowed hin)
      show State.reg _ r c i = _
      rw [State.reg, State.reg, if_pos hshadowed, if_pos hshadowed]
      exact congrArg (fun w => Tab.get w _ _) hwork
    · have hkept (r : RegId) (hr : r ∈ [RegId.FCU_RWP, .FCU_RRP]) :=
        (hpointers r hr i).trans (if_neg (fun h => (mem_changedRings hi).1 h hsame))
      exact ⟨congrArg (fldOf F.FCU_RWP_WP) (hkept .FCU_RWP (by decide)), congrArg (fldOf F.FCU_RRP_RP) (hkept .FCU_RRP (by decide))⟩
    · have hchanged := (mem_changedRings hi).2 hnot
      have hzero (r : RegId) (hr : r ∈ [RegId.FCU_RWP, .FCU_RRP]) := (hpointers r hr i).trans (if_pos hchanged)
      refine ⟨congrArg (fldOf F.FCU_RWP_WP) (hzero .FCU_RWP (by decide)),
        congrArg (fldOf F.FCU_RRP_RP) (hzero .FCU_RRP (by decide)), ?_⟩
      intro r hr hslot
      have hr : r ∈ ((s.commitBlock .FCU c).fcu c).fifo.filter (fun r => !(s.changedRings c).contains r.slot) := hfifo ▸ hr
      have hout := (List.mem_filter.1 hr).2
      simp [hslot, hchanged] at hout
    · have hnone : s.changedRings c = [] :=
        List.filter_eq_nil_iff.2 (fun i hi h => (mem_changedRings (List.mem_range.1 hi)).1 (List.mem_filter.2 ⟨hi, h⟩)
          (hall i (List.mem_range.1 hi)))
      rw [hnone]
      rfl
  · intro i rp hreach size
    exact ⟨fun hin => exec_fcuRrpWrite_of_reaches hreach (if_pos hin) rfl,
      fun hout hpos => exec_fcuRrpWrite_of_reaches hreach (if_neg (by omega)) rfl⟩

end Sys2Proof.Machine
end

section
/-!
SUPPORT. What a request does on its way and at its target leaves of the fail capture units: the units, the next request number and
the queue. A request whose kind is an atomic writes no register and no local space (R459, R493), so that no unit is reached.
-/
namespace Sys2Proof.Machine

open Sys2Proof

/-- t has the fail capture units, the next request number and the queue of s. -/
structure FcusKept (s t : State) : Prop where
  fcus : t.fcus = s.fcus
  xnext : t.xnext = s.xnext
  pending : t.pending = s.pending

namespace FcusKept

theorem refl (s : State) : FcusKept s s := ⟨rfl, rfl, rfl⟩

theorem trans {a b c : State} (h : FcusKept a b) (g : FcusKept b c) : FcusKept a c :=
  ⟨g.fcus.trans h.fcus, g.xnext.trans h.xnext, g.pending.trans h.pending⟩

theorem fold {α : Type} {f : State → α → State} (h : ∀ a x, FcusKept a (f a x)) (xs : List α) (s : State) :
    FcusKept s (xs.foldl f s) :=
  foldl_ind (P := FcusKept s) (fun a x ha => ha.trans (h a x)) xs s (refl s)

theorem fcu {s t : State} (h : FcusKept s t) (c : Nat) : t.fcu c = s.fcu c := by unfold State.fcu; rw [h.fcus]

/-- The network's bookkeeping. -/
theorem of_net {s t : State} (h : NetChange s t) : FcusKept s t := ⟨by rw [h.rest], by rw [h.rest], by rw [h.rest]⟩

/-- A walk over the routers. -/
theorem of_walkTo {s t : State} {p : PktInfo} {r e : Nat} {entry : Word} {w : WalkEnd} (h : s.walkTo p r entry e = (w, t)) :
    FcusKept s t := by
  have hway := of_net (walkTo_effect s p r entry e).1
  rwa [h] at hway

/-- A slice's yield to an access. -/
theorem of_slice {s t : State} (h : SliceChange s t) : FcusKept s t := by
  obtain ⟨_, _, _, _, _, rfl⟩ := h
  exact ⟨rfl, rfl, rfl⟩

theorem setFld (s : State) (f : Fld) (v i j k : Nat) : FcusKept s (s.setFld f v i j k) := ⟨rfl, rfl, rfl⟩
theorem modXact (s : State) (n : Nat) (f : Xact → Xact) : FcusKept s (s.modXact n f) := of_net (.modXact s n f)
theorem failWord (s : State) (n i : Nat) (st : Status) : FcusKept s (s.failWord n i st) := modXact ..
theorem failPart (s : State) (n first : Nat) (st : Status) (by' : Option Nat) : FcusKept s (s.failPart n first st by') := modXact ..
theorem pmonEvent (s : State) (i evt port n : Nat) (p : Bool) : FcusKept s (s.pmonEvent i evt port n p) := of_net (.pmonEvent ..)

/-! ### A word at a slice (R158 to R166) -/

theorem noteSliceRead (s : State) (k j : Nat) (mid : MasterId) (d : Decoded64) : FcusKept s (s.noteSliceRead k j mid d) := by
  unfold State.noteSliceRead
  dsimp only
  split <;> exact ⟨rfl, rfl, rfl⟩

theorem noteColl (s : State) (k : Nat) : FcusKept s (s.noteColl k) :=
  ((setFld ..).trans (setFld ..)).trans (pmonEvent ((s.count F.SLC_CNT_COLL k).raise F.SLC_STATUS_COLL k) (76 + k) 0x32 0 1 true)

theorem sliceRead (s : State) (mid : MasterId) (k j : Nat) (same : Bool) : FcusKept s (s.sliceRead mid k j same).2 := by
  unfold State.sliceRead
  split
  · exact refl s
  · refine (of_slice (.bgtYieldWords s k j 1 false false)).trans ?_
    dsimp only
    split
    · exact ⟨rfl, rfl, rfl⟩
    · exact noteSliceRead ..

theorem sliceWrite (s : State) (mid : MasterId) (k j : Nat) (v : Word) (p same : Bool) :
    FcusKept s (s.sliceWrite mid k j v p same).2 := by
  unfold State.sliceWrite
  split
  · exact refl s
  · refine (of_slice (.bgtYieldWords s k j 1 false true)).trans ?_
    dsimp only
    split <;> exact ⟨rfl, rfl, rfl⟩

theorem sliceAtomic (s : State) (mid : MasterId) (k j : Nat) (op : AtomicOp) (v cmp : Word) (p same : Bool) :
    FcusKept s (s.sliceAtomic mid k j op v cmp p same).2 := by
  unfold State.sliceAtomic
  split
  · exact refl s
  · split
    · exact refl s
    · refine (of_slice (.bgtYieldWords s k j 1 false true)).trans ?_
      dsimp only
      generalize s.bgtYieldWords k j 1 false true = u
      generalize u.pairing k j same = pairing
      cases pairing with
      | aWrote old =>
        dsimp only
        split
        · exact noteSliceRead ..
        · split
          · exact noteSliceRead ..
          · exact (noteSliceRead ..).trans (noteColl ..)
      | _ =>
        dsimp only
        split
        · exact noteSliceRead ..
        · split
          · exact noteSliceRead ..
          · exact (noteSliceRead ..).trans ⟨rfl, rfl, rfl⟩

/-! ### A word at the secure bank (R176, R177) -/

theorem noteBankRead (s : State) (j : Nat) (mid : MasterId) (d : Decoded64) : FcusKept s (s.noteBankRead j mid d) := by
  unfold State.noteBankRead
  dsimp only
  split <;> exact ⟨rfl, rfl, rfl⟩

theorem bankRead (s : State) (mid : MasterId) (j : Nat) : FcusKept s (s.bankRead mid j).2 := by
  unfold State.bankRead
  split
  · exact refl s
  · split
    · exact ⟨rfl, rfl, rfl⟩
    · exact noteBankRead ..

theorem bankWrite (s : State) (mid : MasterId) (j : Nat) (v : Word) (p : Bool) : FcusKept s (s.bankWrite mid j v p).2 := by
  unfold State.bankWrite
  split
  · exact refl s
  · exact ⟨rfl, rfl, rfl⟩

theorem bankAtomic (s : State) (mid : MasterId) (j : Nat) (op : AtomicOp) (v cmp : Word) (p : Bool) :
    FcusKept s (s.bankAtomic mid j op v cmp p).2 := by
  unfold State.bankAtomic
  split
  · exact refl s
  · split
    · exact refl s
    · dsimp only
      split
      · exact noteBankRead ..
      · split
        · exact noteBankRead ..
        · exact (noteBankRead ..).trans ⟨rfl, rfl, rfl⟩

/-! ### The words of a request -/

theorem eachWord (s : State) (n first count : Nat) {f : State → Nat → WordReply × State} (h : ∀ a i, FcusKept a (f a i).2) :
    FcusKept s (s.eachWord n first count f) :=
  fold (fun a i => (h a i).trans (modXact ..)) _ s

theorem atSlice (s : State) (n : Nat) (x : Xact) (k first count : Nat) : FcusKept s (s.atSlice n x k first count) := by
  unfold State.atSlice
  dsimp only
  have hseen : FcusKept s (if (s.sliceBlock k).isNone then s.pmonEvent (76 + k) 0x31 0 count else s) := by
    split
    · exact pmonEvent ..
    · exact refl s
  generalize (if (s.sliceBlock k).isNone then s.pmonEvent (76 + k) 0x31 0 count else s) = u at hseen ⊢
  refine hseen.trans ?_
  split
  · exact eachWord _ _ _ _ (fun a i => sliceRead ..)
  · have hwritten := eachWord u n first count (fun a i =>
      sliceWrite a x.mid k ((x.addr + 8 * i) % 0x100000 / 8) (x.par i).1 (x.par i).2 x.same)
    refine hwritten.trans ?_
    split
    · split
      · exact noteColl ..
      · exact refl _
    · exact refl _
  · exact eachWord _ _ _ _ (fun a i => sliceAtomic ..)
  · exact refl _

theorem atBank (s : State) (n : Nat) (x : Xact) (first count : Nat) : FcusKept s (s.atBank n x first count) := by
  unfold State.atBank
  dsimp only
  split
  · exact refl s
  · split
    · exact (setFld ..).trans (failWord s.bankDeny n first .edeny)
    · split
      · exact eachWord _ _ _ _ (fun a i => bankRead ..)
      · exact eachWord _ _ _ _ (fun a i => bankWrite ..)
      · exact eachWord _ _ _ _ (fun a i => bankAtomic ..)
      · exact refl s

theorem inspectLine (s : State) (n k : Nat) (q : LineReq) : FcusKept s (s.inspectLine n k q) := by
  unfold State.inspectLine
  split
  · rename_i r t _
    exact trans (b := { s with free := t.free }) ⟨rfl, rfl, rfl⟩ (modXact ..)
  · exact failWord ..

theorem atDram (s : State) (n : Nat) (x : Xact) (first count : Nat) : FcusKept s (s.atDram n x first count) := by
  unfold State.atDram
  dsimp only
  split
  · exact refl s
  · split
    · exact failWord ..
    · split
      · exact (modXact ..).trans (fold (fun a q => inspectLine ..) _ _)
      · exact (modXact ..).trans ⟨rfl, rfl, rfl⟩

/-! ### An arbiter (R287) -/

theorem serveAccess (s : State) (n : Nat) (x : Xact) (g : Region) (first count : Nat) :
    FcusKept s (s.serveAccess n x g first count) := by
  unfold State.serveAccess
  split
  · exact atSlice ..
  · exact atBank ..
  · exact refl s

theorem arbCycles (s : State) (i : Nat) (req : List Nat) (n : Nat) : FcusKept s (s.arbCycles i req n) := by
  unfold State.arbCycles
  dsimp only
  split
  · exact ⟨rfl, rfl, rfl⟩
  · split <;> exact ⟨rfl, rfl, rfl⟩

theorem arbTake (s : State) (i w : Nat) (forced : Bool) (pass : Nat → Bool) : FcusKept s (s.arbTake i w forced pass) := by
  obtain ⟨grants, forcedCount, wait, heq⟩ := arbTake_eq (i := i) w forced pass s
  have hgranted := (of_net (grantSeen_step (i := i) w pass s).net).trans (of_net (.modArb _ i (·.grantedTo w)))
  rw [heq]
  exact ((((hgranted.trans (setFld ..)).trans (setFld ..)).trans (setFld ..)).trans (setFld ..)).trans (setFld ..)

end FcusKept

/-- R287: arbiter i keeps its owner, or grants the requester of f that has waited longest, or else that of e with the highest
priority. -/
def State.arbPick (s : State) (i : Nat) (f e : List Nat) (pass : Nat → Bool) : State :=
  if (s.arb i).owner ≠ none then s
  else match largestWait (s.arb i).wait f with
    | some w => s.arbTake i w true pass
    | none => match s.highestPrio i (s.arb i).last e with
      | some w => s.arbTake i w false pass
      | none => s

namespace FcusKept

theorem arbPick (s : State) (i : Nat) (f e : List Nat) (pass : Nat → Bool) : FcusKept s (s.arbPick i f e pass) := by
  unfold State.arbPick
  split
  · exact refl s
  · split
    · exact arbTake ..
    · split
      · exact arbTake ..
      · exact refl s

/-- R287: an owner whose transfer is over goes, and the arbiter picks. -/
theorem arbDecide (s : State) (i : Nat) (req : List Nat) (pass : Nat → Bool) : FcusKept s (s.arbDecide i req pass) := by
  have hrelease (b : Bool) : FcusKept s (if b then s.arbRelease i else s) := by
    cases b <;> exact ⟨rfl, rfl, rfl⟩
  unfold State.arbDecide
  dsimp only
  cases (s.arb i).owner with
  | none => exact arbPick s i _ _ pass
  | some o => exact (hrelease _).trans (arbPick _ i _ _ pass)

theorem arbServe (s : State) (i o : Nat) : FcusKept s (s.arbServe i o) := by
  unfold State.arbServe
  split
  · exact refl s
  · rename_i w _
    dsimp only
    refine (of_net (.modArb s i (fun a => { a with wq := a.wq.erase w }))).trans ?_
    split
    · exact refl _
    · split
      · exact refl _
      · exact ((serveAccess ..).trans ((modXact ..).trans (arbCycles ..))).trans ⟨rfl, rfl, rfl⟩

theorem arbDrain (i fuel : Nat) (s : State) : FcusKept s (s.arbDrain i fuel) := by
  induction fuel generalizing s with
  | zero => exact refl s
  | succ fuel ih =>
    rw [State.arbDrain]
    refine (arbDecide s i (s.portReq i) (s.arbPasses i)).trans ?_
    split
    · exact refl _
    · exact (arbServe ..).trans (ih _)

theorem arbArrive (s : State) (i n : Nat) (x : Xact) (g : Region) (first count : Nat) :
    FcusKept s (s.arbArrive i n x g first count) :=
  ((modXact s n _).trans (of_net (.modArb ..))).trans (arbDrain ..)

theorem atArbiter (s : State) (i n : Nat) (x : Xact) (g : Region) (first count : Nat) :
    FcusKept s (s.atArbiter i n x g first count) := by
  unfold State.atArbiter
  split
  · exact serveAccess ..
  · exact arbArrive ..

/-! ### An atomic at its target (R278) and on its way there (R269, R284 to R286) -/

theorem requestWake (s : State) (d : Nat) : FcusKept s (s.requestWake d) := by
  unfold State.requestWake
  dsimp only
  split <;> exact ⟨rfl, rfl, rfl⟩

section
variable {x : Xact} {op : AtomicOp} (hkind : x.kind = .atomic op)
include hkind

theorem atEngine (s : State) (n e first count : Nat) : FcusKept s (s.atEngine n x e first count) := by
  simp only [State.atEngine, hkind]
  split
  · exact refl s
  · exact failWord ..

theorem atControl (s : State) (n first count : Nat) : FcusKept s (s.atControl n x first count) := by
  simp only [State.atControl, hkind]
  split
  · exact refl s
  · exact failWord ..

theorem atTarget (s : State) (n : Nat) (g : Region) (first count : Nat) : FcusKept s (s.atTarget n x g first count) := by
  unfold State.atTarget
  dsimp only
  split
  · refine trans (b := if g = .bank then s.bankDeny else s) ?_ (failWord ..)
    split
    · exact setFld ..
    · exact refl s
  · split
    · exact failWord ..
    · split
      · exact failWord ..
      · split
        · exact failWord ..
        · split
          · exact atDram ..
          · exact atArbiter ..
          · exact modXact ..
          · exact atEngine hkind ..
          · exact atArbiter ..
          · exact atControl hkind ..

theorem perform (s : State) (n : Nat) (g : Region) (first count : Nat) : FcusKept s (s.perform n x g first count) := by
  unfold State.perform
  refine trans ?_ (modXact ..)
  split
  · exact ⟨rfl, rfl, rfl⟩
  · exact atTarget hkind ..

theorem acceptPart (s : State) (n : Nat) (g : Region) (first count : Nat) : FcusKept s (s.acceptPart n x g first count) := by
  unfold State.acceptPart
  dsimp only
  split
  · exact failPart ..
  · refine trans ?_ (perform hkind ..)
    split
    · exact ((of_net (.modNi ..)).trans (modXact ..)).trans (of_net (.pmonPacket ..))
    · exact (of_net (.modNi ..)).trans (modXact ..)

theorem borderPart (s : State) (n : Nat) (g : Region) (first count : Nat) : FcusKept s (s.borderPart n x g first count) := by
  unfold State.borderPart
  dsimp only
  split
  · split
    · exact of_net (.modNi ..)
    · exact acceptPart hkind ..
  · split
    · exact of_net (.modNi ..)
    · split
      · exact acceptPart hkind ..
      · split
        · exact (of_net (.modNi ..)).trans (requestWake ..)
        · exact (setFld ..).trans (failPart ..)

theorem sendPart (s : State) (n : Nat) (g : Region) (first count : Nat) : FcusKept s (s.sendPart n x g first count) := by
  unfold State.sendPart
  dsimp only
  split
  · exact failPart ..
  · split
    · rename_i hwalk
      exact (of_walkTo hwalk).trans ((setFld ..).trans (failPart ..))
    · rename_i hwalk
      exact (of_walkTo hwalk).trans (borderPart hkind ..)

end

theorem inject {s : State} {n : Nat} {x : Xact} {op : AtomicOp} (hx : s.xacts.get n none = some x) (hkind : x.kind = .atomic op) :
    FcusKept s (s.inject n) := by
  unfold State.inject
  rw [hx]
  dsimp only
  split
  · exact refl s
  · exact ((modXact ..).trans (of_net (.modNi ..))).trans (fold (fun a p => sendPart hkind ..) _ _)

/-- What a request's NI does with it (R278). -/
theorem passNi {s : State} {n : Nat} {x : Xact} {op : AtomicOp} (hx : s.xacts.get n none = some x) (hkind : x.kind = .atomic op) :
    FcusKept s (s.passNi n x) := by
  unfold State.passNi
  split
  · exact failWord ..
  · split
    · exact refl s
    · split
      · exact failWord ..
      · dsimp only
        split
        · exact (modXact ..).trans (of_net (.modNi ..))
        · exact (modXact ..).trans (inject (xacts_modXact_same hx _) hkind)

/-- An atomic that a master issues takes the next number. -/
theorem issue {x : Xact} {op : AtomicOp} (hkind : x.kind = .atomic op) (s : State) : FcusKept s.numbered (s.issue x) := by
  rw [issue_eq_passNi]
  have hnamed : FcusKept s.numbered (s.atNi (x.atNi (s.carriesInspect x))) := ⟨rfl, rfl, rfl⟩
  exact hnamed.trans (passNi (Tab.get_set_same ..) hkind)

end FcusKept

end Sys2Proof.Machine
end

section
/-!
SUPPORT. The way back of a response to its master (R262, R279): what it leaves of the fail capture units, their slots' registers, the
requests and the queue.
-/
namespace Sys2Proof.Machine

open Sys2Proof

variable {s t : State}

/-- A word of a block's 4 KiB behind the first 256 bytes: there stand the registers of the fail capture units' slots, and before it
the counts of the routers (R289) and of the monitors (R480). -/
def slotWord (a : Nat) : Prop := 0x100 ≤ a % 0x1000

theorem slotWord_fcuSlot {r : RegId} (hr : r ∈ fcuSlotRegs) (c : Nat) {i : Nat} (hi : i < 4) : slotWord (regAddr r c i) := by
  obtain ⟨haddr, _, _⟩ := regAddr_fcuSlot hr c i
  unfold slotWord
  omega

theorem not_slotWord_pmon {r : RegId} (hr : r = .PMON_STATUS ∨ r = .PMON_CNT) (i : Nat) {j : Nat} (hj : j < 8) :
    ¬ slotWord (regAddr r i j) := by
  rcases hr with rfl | rfl
  all_goals
    simp only [slotWord, regAddr, regInst, RegId.desc, Block.place]
    omega

theorem not_slotWord_nocCnt (q : Nat) : ¬ slotWord (regAddr .NOC_CNT q) := by
  simp only [slotWord, regAddr, regInst, RegId.desc, Block.place]
  omega

/-- t has the fail capture units, the requests, the queue and the words of the units' slots of s. -/
structure CameBack (s t : State) : Prop where
  fcus : t.fcus = s.fcus
  xacts : t.xacts = s.xacts
  work : t.work = s.work
  pending : t.pending = s.pending
  regs : ∀ a d, slotWord a → t.regs.get a d = s.regs.get a d

namespace CameBack

theorem refl (s : State) : CameBack s s := ⟨rfl, rfl, rfl, rfl, fun _ _ _ => rfl⟩

theorem trans {a b c : State} (h : CameBack a b) (g : CameBack b c) : CameBack a c :=
  ⟨g.fcus.trans h.fcus, g.xacts.trans h.xacts, g.work.trans h.work, g.pending.trans h.pending,
    fun k d hk => (g.regs k d hk).trans (h.regs k d hk)⟩

theorem fold {α : Type} {f : State → α → State} {xs : List α} (h : ∀ a, ∀ x ∈ xs, CameBack a (f a x)) (s : State) :
    CameBack s (xs.foldl f s) := by
  induction xs generalizing s with
  | nil => exact refl s
  | cons x xs ih => exact (h s x (by simp)).trans (ih (fun a y hy => h a y (by simp [hy])) _)

theorem fcu (h : CameBack s t) (c : Nat) : t.fcu c = s.fcu c := by unfold State.fcu; rw [h.fcus]

theorem reg (h : CameBack s t) {r : RegId} (hr : r ∈ fcuSlotRegs) (c : Nat) {i : Nat} (hi : i < 4) : t.reg r c i = s.reg r c i := by
  unfold State.reg
  rw [h.work, h.regs _ _ (slotWord_fcuSlot hr c hi)]

theorem fld (h : CameBack s t) {f : Fld} (hf : f.reg ∈ fcuSlotRegs) (c : Nat) {i : Nat} (hi : i < 4) : t.fld f c i = s.fld f c i :=
  congrArg (fldOf f) (h.reg hf c hi)

theorem flag (h : CameBack s t) {f : Fld} (hf : f.reg ∈ fcuSlotRegs) (c : Nat) {i : Nat} (hi : i < 4) : t.flag f c i = s.flag f c i :=
  congrArg (· != 0) (h.fld hf c hi)

/-! ### What does so -/

theorem setFld {f : Fld} (hs : isShadowed f.reg = false) {i j : Nat} (h : ¬ slotWord (regAddr f.reg i j)) (s : State) (v : Nat) :
    CameBack s (s.setFld f v i j) := by
  rw [setFld_regs hs]
  refine ⟨rfl, rfl, rfl, rfl, fun a d ha => ?_⟩
  rw [State.setFld, setReg_regs hs]
  exact Tab.get_set_other _ (by rintro rfl; exact h ha) _ _ _

theorem modNi (s : State) (n : Nat) (f : Ni → Ni) : CameBack s (s.modNi n f) := ⟨rfl, rfl, rfl, rfl, fun _ _ _ => rfl⟩
theorem atTime (s : State) (m : Nat) : CameBack s (s.atTime m) := ⟨rfl, rfl, rfl, rfl, fun _ _ _ => rfl⟩
theorem pendIrq (s : State) (m : Nat) : CameBack s (s.pendIrq m) := ⟨rfl, rfl, rfl, rfl, fun _ _ _ => rfl⟩
theorem logErr (s : State) (r : ErrRec) : CameBack s (s.logErr r) := ⟨rfl, rfl, rfl, rfl, fun _ _ _ => rfl⟩

theorem endXact (h : CameBack s t) (n : Nat) : CameBack (s.endXact n) (t.endXact n) :=
  ⟨h.fcus, congrArg (fun x => x.set n none none) h.xacts, h.work, h.pending, h.regs⟩

theorem pmonEvent (s : State) (i evt port n : Nat) (p : Bool) : CameBack s (s.pmonEvent i evt port n p) := by
  have hcount (a : State) (v : Nat) {j : Nat} (hj : j < 8) : CameBack a (a.setFld F.PMON_CNT_COUNT v i j) :=
    setFld (f := F.PMON_CNT_COUNT) (by decide) (not_slotWord_pmon (r := .PMON_CNT) (.inr rfl) i hj) a v
  have hovf (a : State) (v : Nat) : CameBack a (a.setFld F.PMON_STATUS_OVF v i 0) :=
    setFld (f := F.PMON_STATUS_OVF) (by decide) (not_slotWord_pmon (r := .PMON_STATUS) (.inl rfl) i (by decide)) a v
  unfold State.pmonEvent State.forAll
  split
  · exact refl s
  · refine fold (fun a j hj => ?_) s
    have hj := List.mem_range.1 hj
    dsimp only
    split
    · split
      · exact hcount a _ hj
      · split
        · exact ((hcount a _ hj).trans (hovf _ _)).trans (pendIrq ..)
        · exact (hcount a _ hj).trans (hovf _ _)
    · exact refl a

theorem pmonPacket (s : State) (i port : Nat) (p : PktInfo) : CameBack s (s.pmonPacket i port p) := by
  unfold State.pmonPacket
  split
  · exact refl s
  · exact (pmonEvent ..).trans ((pmonEvent ..).trans (pmonEvent ..))

theorem passPort (s : State) (r m : Nat) (p : PktInfo) : CameBack s (s.passPort r m p) := by
  have hheld : CameBack s (s.passHold r p.rt) := atTime ..
  unfold State.passPort State.pmonHop
  dsimp only
  split
  · exact (hheld.trans (pmonPacket ..)).trans (pmonEvent ..)
  · exact hheld.trans (pmonPacket ..)

theorem walk (p : PktInfo) (ms : List Nat) : ∀ (r : Nat) (s : State), CameBack s (s.walk p r ms).2 := by
  induction ms with
  | nil => exact fun _ s => refl s
  | cons m ms ih =>
    intro r s
    rw [State.walk]
    split
    · split
      · exact (passPort s r m p).trans (ih ..)
      · exact refl s
    · exact refl s

theorem walkTo (s : State) (p : PktInfo) (r : Nat) (entry : Word) (e : Nat) : CameBack s (s.walkTo p r entry e).2 := by
  have hway := walk p (routeMoves entry) r s
  unfold State.walkTo
  split
  · rename_i hwalk
    rwa [hwalk] at hway
  · rename_i q u hwalk
    rw [hwalk] at hway
    split
    · exact hway
    · split
      · exact hway.trans (passPort u q e p)
      · exact hway

theorem backWalk (s : State) (x : Xact) (key : Nat) : CameBack s (s.backWalk x key).2 := by
  unfold State.backWalk
  dsimp only
  split
  all_goals
    rename_i hwalk
    exact (congrArg Prod.snd hwalk) ▸ walkTo ..

/-- A response that is dropped is counted at its router and logged. -/
theorem backAll (x : Xact) (hs : List Holder) (s : State) : CameBack s (s.backAll x hs).2 := by
  induction hs generalizing s with
  | nil => exact refl s
  | cons h hs ih =>
    rw [State.backAll]
    have hway := backWalk s x h.ni
    split
    · rename_i q t hwalk
      rw [hwalk] at hway
      have hcount : CameBack t (t.count F.NOC_CNT_RSPDROP q) :=
        setFld (f := F.NOC_CNT_RSPDROP) (by decide) (not_slotWord_nocCnt q) t _
      exact ((hway.trans hcount).trans (logErr ..)).trans (ih _)
    · rename_i t hwalk
      rw [hwalk] at hway
      exact hway.trans (ih t)

theorem unhold (s : State) (x : Xact) : CameBack s (s.unhold x) := by
  refine fold (fun a h _ => ?_) s
  split
  · exact modNi ..
  · exact refl a

end CameBack

/-- R262, R279: a request that returns whole is delivered to its master, and nothing is left of it. -/
theorem respond_of_returns {n : Nat} {x : Xact} (h : s.Returns n x) :
    ∃ u, CameBack (s.endXact n) u ∧ s.respond n = u.deliver n x x.status := by
  obtain ⟨hget, hanswered, hlost, -, hsent⟩ := h
  unfold State.respond
  rw [hget]
  dsimp only
  rw [if_neg (by simp [hanswered, hlost])]
  cases hx : x.sent with
  | false => exact ⟨s.endXact n, .refl _, rfl⟩
  | true =>
    obtain ⟨hdead, hwhole⟩ := hsent hx
    have hquiet : CameBack s (if x.rt ∧ s.inQuiet then s.atTime ((s.now / 4096 + 1) * 4096) else s) := by
      split
      · exact .atTime ..
      · exact .refl s
    generalize (if x.rt ∧ s.inQuiet then s.atTime ((s.now / 4096 + 1) * 4096) else s) = a at hquiet hwhole ⊢
    have hback := (hquiet.trans (.unhold a x)).trans (.backAll x x.holders _)
    rw [if_neg (by simp), if_neg (by simp [hdead]), if_neg (by simp [hwhole])]
    refine ⟨_, ?_, rfl⟩
    have hended := (hback.endXact n).trans (.modNi _ x.src (fun i => { i with outst := i.outst - 1 }))
    split
    · split
      · exact hended
      · exact hended.trans (.pmonEvent ..)
    · exact hended

/-! ### Delivery to a fail capture unit -/

section
variable {c n : Nat} {x : Xact} (hmid : x.mid = BitVec.ofNat 10 (4 * c)) (hc : c < 64)
include hmid hc

/-- R143, R151: the requests of unit c carry the master number of its cluster's first engine. -/
theorem master_of_fcu : x.mid.toNat = 4 * c ∧ isEngineMid (4 * c) = true ∧ 4 * c / 4 = c := by
  rw [hmid, BitVec.toNat_ofNat]
  exact ⟨by omega, decide_eq_true (by omega), by omega⟩

/-- R144: a response to a record write's number ends that write. -/
theorem deliver_record (hlate : x.late = false) {o : RecOut} (ho : (s.fcu c).outs.find? (fun q => q.xid == n) = some o) (st : Status) :
    ∃ u, CameBack s u ∧ s.deliver n x st = u.recordDone c o st := by
  obtain ⟨hm, hengine, hunit⟩ := master_of_fcu hmid hc
  refine ⟨{ s with rsps := s.rsps.set (4 * c) (some { tag := x.tag, status := st, words := x.reply }) none },
    ⟨rfl, rfl, rfl, rfl, fun _ _ _ => rfl⟩, ?_⟩
  unfold State.deliver
  dsimp only
  rw [if_neg (by simp [hlate]), hm, if_pos hengine, hunit]
  simp only [State.fcu] at ho ⊢
  rw [ho]

/-- R152: a response to an update's number, which no record write has, ends that update. -/
theorem deliver_update (hlate : x.late = false) {o : AccOut} (hnone : (s.fcu c).outs.find? (fun q => q.xid == n) = none)
    (ho : (s.fcu c).accOuts.find? (fun q => q.xid == n) = some o) (st : Status) :
    ∃ u, CameBack s u ∧ s.deliver n x st = u.accDone c o st (x.reply.getD 0 (0, false)).1 := by
  obtain ⟨hm, hengine, hunit⟩ := master_of_fcu hmid hc
  refine ⟨{ s with rsps := s.rsps.set (4 * c) (some { tag := x.tag, status := st, words := x.reply }) none },
    ⟨rfl, rfl, rfl, rfl, fun _ _ _ => rfl⟩, ?_⟩
  unfold State.deliver
  dsimp only
  rw [if_neg (by simp [hlate]), hm, if_pos hengine, hunit]
  simp only [State.fcu] at ho hnone ⊢
  rw [hnone, ho]

end

end Sys2Proof.Machine
end

section
/-!
PROOF. O31: record writes and accumulation updates of a fail capture unit, and their completions (R143, R144, R151, R152).
-/
namespace Sys2Proof.Machine

open Sys2Proof

variable {s : State} {c : Nat}

/-! ### A record write is issued (R143, R144) -/

/-- R278: an RT request of number n waits at its NI for a token, or the NI has refused it. -/
theorem passNi_rt {n : Nat} {x : Xact} (hx : s.xacts.get n none = some x) (hrt : x.rt = true) :
    NetChange s (s.passNi n x) ∧
      ∃ y, (s.passNi n x).xacts.get n none = some y ∧ y = { x with left := y.left, fails := y.fails } := by
  have hrefused (st : Status) : NetChange s (s.failWord n 0 st) ∧
      ∃ y, (s.failWord n 0 st).xacts.get n none = some y ∧ y = { x with left := y.left, fails := y.fails } :=
    ⟨.modXact .., _, xacts_modXact_same hx _, rfl⟩
  unfold State.passNi
  split
  · exact hrefused _
  · split
    · exact ⟨.refl s, x, hx, rfl⟩
    · split
      · exact hrefused _
      · dsimp only
        exact ⟨(NetChange.modXact ..).trans (.modNi ..), _, xacts_modXact_same hx _, rfl⟩

/-- An RT request that a master issues takes the next number and stands there as it was made. -/
theorem issue_rt {x : Xact} (hrt : x.rt = true) (s : State) :
    NetChange s.numbered (s.issue x) ∧ ∃ y, (s.issue x).xacts.get s.xnext none = some y ∧
      y = { x with src := y.src, inspect := y.inspect, left := y.left, fails := y.fails } := by
  have hnamed : NetChange s.numbered (s.atNi (x.atNi (s.carriesInspect x))) := ⟨rfl, fun _ _ _ => rfl⟩
  obtain ⟨hnet, y, hy, hsame⟩ := passNi_rt (s := s.atNi (x.atNi (s.carriesInspect x))) (x := x.atNi (s.carriesInspect x))
    (Tab.get_set_same ..) hrt
  rw [issue_eq_passNi]
  exact ⟨hnamed.trans hnet, y, hy, by rw [hsame]; rfl⟩

/-- R143: the ring entry behind the outstanding writes of slot i. -/
def State.ringEntry (s : State) (c i : Nat) : Nat :=
  if (s.fcu c).outs.any (fun o => o.slot == i && o.live && !o.after) then ((s.fcu c).slot i).issue else s.fld F.FCU_RWP_WP c i

/-- R143: the record cannot be written: its ring has no free entry, or four writes are outstanding. -/
def State.recordWaits (s : State) (c i : Nat) : Prop :=
  s.fld F.FCU_RSIZE_SIZE c i = 0 ∨ (s.ringEntry c i + 1) % s.fld F.FCU_RSIZE_SIZE c i = s.fld F.FCU_RRP_RP c i ∨
    4 ≤ (s.fcu c).outs.length

/-- The record leaves the FIFO, and its write is outstanding. -/
def State.recordTaken (s : State) (c : Nat) (r : FailRec) (rs : List FailRec) : State :=
  (s.modFcu c (fun f => { f with fifo := rs, outs := f.outs ++ [{ slot := r.slot, xid := s.xnext }] })).modSlot c r.slot
    (fun y => { y with issue := (s.ringEntry c r.slot + 1) % s.fld F.FCU_RSIZE_SIZE c r.slot })

/-- R140, R143: the request that writes a record to its ring entry. -/
def State.recordReq (s : State) (c : Nat) (r : FailRec) (same : Bool) : Xact :=
  { mid := BitVec.ofNat 10 (4 * c), rt := true, kind := .write,
    addr := s.fld F.FCU_RBASE_BASE c r.slot * 32 + 32 * s.ringEntry c r.slot, len := 4, same := same,
    wpar := [(r.w0, false), (r.w1, false), (r.w2, false), (r.w3, false)] }

theorem ringEntry_eq (s : State) (c i : Nat) :
    (if ((s.fcu c).outs.filter (fun o => o.slot == i && o.live && !o.after)).length = 0 then s.fld F.FCU_RWP_WP c i
      else ((s.fcu c).slot i).issue) = s.ringEntry c i := by
  unfold State.ringEntry
  cases hany : (s.fcu c).outs.any (fun o => o.slot == i && o.live && !o.after) with
  | false => rw [if_pos (List.length_eq_zero_iff.2 (List.filter_eq_nil_iff.2 (List.any_eq_false.1 hany)))]; rfl
  | true =>
    obtain ⟨o, ho, hpending⟩ := List.any_eq_true.1 hany
    rw [if_neg (fun h => List.filter_eq_nil_iff.1 (List.length_eq_zero_iff.1 h) o ho hpending)]
    rfl

section
variable {r : FailRec} {rs : List FailRec} (hfifo : (s.fcu c).fifo = r :: rs)
include hfifo

theorem recordWrite_of_waits (h : s.recordWaits c r.slot) (same : Bool) : s.recordWrite c same = s := by
  unfold State.recordWrite
  rw [hfifo]
  dsimp only
  rw [ringEntry_eq]
  exact if_pos h

theorem recordWrite_of_room (h : ¬ s.recordWaits c r.slot) (same : Bool) :
    s.recordWrite c same = (s.recordTaken c r rs).issue (s.recordReq c r same) := by
  unfold State.recordWrite
  rw [hfifo]
  dsimp only
  rw [ringEntry_eq]
  exact if_neg h

end

/-! ### A record write completes (R144) -/

/-- The write is outstanding no more. -/
def State.recordGone (s : State) (c : Nat) (o : RecOut) : State :=
  s.modFcu c (fun f => { f with outs := f.outs.filter (fun q => q.xid != o.xid) })

/-- R144: the record is dropped, and WERR is set. -/
def State.recordDropped (s : State) (c : Nat) (o : RecOut) : State :=
  ((s.recordGone c o).count F.FCU_DROP_DROPPED c o.slot).raise F.FCU_GSTAT_WERR c o.slot

/-- R144: the slot's writes behind the one that failed will be dropped, and its next record goes to the entry at WP. -/
def State.recordFailed (s : State) (c : Nat) (o : RecOut) : State :=
  ((s.recordDropped c o).modFcu c
    (fun f => { f with outs := f.outs.map (fun q => if q.slot = o.slot then { q with after := true } else q) })).modSlot c o.slot
      (fun x => { x with issue := (s.recordDropped c o).fld F.FCU_RWP_WP c o.slot })

theorem fld_recordFailed (o : RecOut) (f : Fld) (i j : Nat) : (s.recordFailed c o).fld f i j = (s.recordDropped c o).fld f i j := by
  rw [State.recordFailed, State.modSlot, modFcu_fld, modFcu_fld]

theorem flag_recordFailed (o : RecOut) (f : Fld) (i j : Nat) : (s.recordFailed c o).flag f i j = (s.recordDropped c o).flag f i j :=
  congrArg (· != 0) (fld_recordFailed o f i j)

theorem recordDone_of_after {o : RecOut} (h : o.after = true) (st : Status) :
    s.recordDone c o st = (s.recordGone c o).count F.FCU_DROP_DROPPED c o.slot := if_pos h

theorem recordDone_of_failed {o : RecOut} (h : o.after = false) {st : Status} (hst : st ≠ .ok) :
    s.recordDone c o st = (s.recordFailed c o).pmonEvent (332 + c) 0x46 0 1 := by
  unfold State.recordDone
  dsimp only
  rw [if_neg (by simp [h]), if_neg (by simp [hst]), if_neg hst]
  rfl

theorem recordDone_of_ok {o : RecOut} (h : o.after = false) : s.recordDone c o .ok =
    if o.live then ((s.recordGone c o).setFld F.FCU_RWP_WP ((s.fld F.FCU_RWP_WP c o.slot + 1) %
      max (s.fld F.FCU_RSIZE_SIZE c o.slot) 1) c o.slot).pmonEvent (332 + c) 0x45 0 1
    else s.recordGone c o := by
  unfold State.recordDone
  dsimp only
  rw [if_neg (by simp [h])]
  cases o.live <;> rfl

theorem recordDone_xacts_pending (o : RecOut) (st : Status) :
    (s.recordDone c o st).xacts = s.xacts ∧ (s.recordDone c o st).pending = s.pending := by
  cases hafter : o.after with
  | true => rw [recordDone_of_after hafter]; exact ⟨rfl, rfl⟩
  | false =>
    by_cases hst : st = .ok
    · rw [hst, recordDone_of_ok hafter]
      split
      · rw [(CameBack.pmonEvent ..).xacts, (CameBack.pmonEvent ..).pending]
        exact ⟨rfl, rfl⟩
      · exact ⟨rfl, rfl⟩
    · rw [recordDone_of_failed hafter hst, (CameBack.pmonEvent ..).xacts, (CameBack.pmonEvent ..).pending]
      exact ⟨rfl, rfl⟩

section
variable {o : RecOut} (hslot : o.slot < 4)
include hslot

/-- R144: OK advances WP, except on a ring that a commit has changed (R153). -/
theorem recordDone_ok (h : o.after = false) :
    ((s.recordDone c o .ok).fcu c).outs = (s.fcu c).outs.filter (fun q => q.xid != o.xid) ∧
    (s.recordDone c o .ok).fld F.FCU_RWP_WP c o.slot =
      if o.live then (s.fld F.FCU_RWP_WP c o.slot + 1) % (max (s.fld F.FCU_RSIZE_SIZE c o.slot) 1) else s.fld F.FCU_RWP_WP c o.slot := by
  have hgone : ((s.recordGone c o).fcu c).outs = (s.fcu c).outs.filter (fun q => q.xid != o.xid) := by
    rw [State.recordGone, fcu_modFcu_same]
  rw [recordDone_of_ok h]
  cases o.live with
  | false => exact ⟨hgone, rfl⟩
  | true =>
    have hfit : (s.fld F.FCU_RWP_WP c o.slot + 1) % max (s.fld F.FCU_RSIZE_SIZE c o.slot) 1 ≤ fldMax F.FCU_RWP_WP := by
      have hsize := fld_le_fldMax (s := s) F.FCU_RSIZE_SIZE c o.slot 0
      have hwidth : fldMax F.FCU_RSIZE_SIZE = fldMax F.FCU_RWP_WP := rfl
      have hlt := Nat.mod_lt (s.fld F.FCU_RWP_WP c o.slot + 1) (y := max (s.fld F.FCU_RSIZE_SIZE c o.slot) 1) (by omega)
      have hpos : 1 ≤ fldMax F.FCU_RWP_WP := by decide
      omega
    simp only [if_true]
    have hpmon := CameBack.pmonEvent ((s.recordGone c o).setFld F.FCU_RWP_WP ((s.fld F.FCU_RWP_WP c o.slot + 1) %
      max (s.fld F.FCU_RSIZE_SIZE c o.slot) 1) c o.slot) (332 + c) 0x45 0 1 true
    exact ⟨(congrArg Fcu.outs (hpmon.fcu c)).trans hgone,
      (hpmon.fld (by decide) c hslot).trans (fld_setFld_fits (by decide) hfit c o.slot 0)⟩

/-- R144: another status drops the record and marks the slot's later writes. -/
theorem recordDone_failed (h : o.after = false) {st : Status} (hst : st ≠ .ok) :
    (s.recordDone c o st).fld F.FCU_RWP_WP c o.slot = s.fld F.FCU_RWP_WP c o.slot ∧
    (s.recordDone c o st).flag F.FCU_GSTAT_WERR c o.slot = true ∧
    (((s.recordDone c o st).fcu c).slot o.slot).issue = s.fld F.FCU_RWP_WP c o.slot ∧
    (s.recordDone c o st).fld F.FCU_DROP_DROPPED c o.slot =
      satAdd (fldMax F.FCU_DROP_DROPPED) (s.fld F.FCU_DROP_DROPPED c o.slot) 1 ∧
    ∀ q ∈ ((s.recordDone c o st).fcu c).outs, q.xid ≠ o.xid ∧ (q.slot = o.slot → q.after = true) := by
  rw [recordDone_of_failed h hst]
  have hpmon := CameBack.pmonEvent (s.recordFailed c o) (332 + c) 0x46 0 1 true
  have hwp : (s.recordDropped c o).fld F.FCU_RWP_WP c o.slot = s.fld F.FCU_RWP_WP c o.slot :=
    (fld_setFld_fcuSlot (f := F.FCU_GSTAT_WERR) (by decide) (by decide) (.inl (by decide)) c 1).trans
      (fld_setFld_fcuSlot (f := F.FCU_DROP_DROPPED) (by decide) (by decide) (.inl (by decide)) c _)
  have hdrop : (s.recordDropped c o).fld F.FCU_DROP_DROPPED c o.slot =
      satAdd (fldMax F.FCU_DROP_DROPPED) (s.fld F.FCU_DROP_DROPPED c o.slot) 1 :=
    (fld_setFld_fcuSlot (f := F.FCU_GSTAT_WERR) (by decide) (by decide) (.inl (by decide)) c 1).trans
      (fld_count_fits (by decide) c o.slot 0 1)
  have hwerr : (s.recordDropped c o).flag F.FCU_GSTAT_WERR c o.slot = true := flag_setFld_one (by decide) c o.slot 0
  rw [hpmon.fld (by decide) c hslot, hpmon.flag (by decide) c hslot, hpmon.fld (by decide) c hslot, fld_recordFailed,
    flag_recordFailed, fld_recordFailed]
  refine ⟨hwp, hwerr, ?_, hdrop, ?_⟩
  · rw [hpmon.fcu, State.recordFailed, fcu_modSlot_same, Fcu.slot, Tab.get_set_same]
    exact hwp
  · rw [hpmon.fcu]
    intro q hq
    have hq : q ∈ ((s.fcu c).outs.filter (fun q => q.xid != o.xid)).map
        (fun q => if q.slot = o.slot then { q with after := true } else q) := by
      simpa [State.recordFailed, State.recordDropped, State.recordGone] using hq
    obtain ⟨p, hp, rfl⟩ := List.mem_map.1 hq
    have hxid : p.xid ≠ o.xid := by simpa using (List.mem_filter.1 hp).2
    split
    · exact ⟨hxid, fun _ => rfl⟩
    · rename_i hother
      exact ⟨hxid, fun hsame => absurd hsame hother⟩

end

/-- R144: a write behind one that failed is dropped and counted, whatever its status. -/
theorem recordDone_after {o : RecOut} (h : o.after = true) (st : Status) :
    (s.recordDone c o st).fld F.FCU_RWP_WP c o.slot = s.fld F.FCU_RWP_WP c o.slot ∧
    (s.recordDone c o st).fld F.FCU_DROP_DROPPED c o.slot =
      satAdd (fldMax F.FCU_DROP_DROPPED) (s.fld F.FCU_DROP_DROPPED c o.slot) 1 := by
  rw [recordDone_of_after h]
  exact ⟨fld_setFld_fcuSlot (f := F.FCU_DROP_DROPPED) (by decide) (by decide) (.inl (by decide)) c _,
    fld_count_fits (by decide) c o.slot 0 1⟩

theorem xacts_endXact_same (s : State) (n : Nat) : (s.endXact n).xacts.get n none = none := Tab.get_set_same ..

/-- R144: the response to the slot's oldest write reaches the unit. -/
theorem recordWriteDone_of_returns {i : Nat} {o : RecOut} {x : Xact} (hc : c < 64)
    (ho : (s.fcu c).outs.find? (fun q => q.slot == i) = some o) (hxid : (s.fcu c).outs.find? (fun q => q.xid == o.xid) = some o)
    (hback : s.Returns o.xid x) (hmid : x.mid = BitVec.ofNat 10 (4 * c)) :
    ∃ u, CameBack (s.endXact o.xid) u ∧ s.recordWriteDone c i = u.recordDone c o x.status := by
  have ⟨_, _, _, hlate, _⟩ := hback
  obtain ⟨u, hu, hrespond⟩ := respond_of_returns hback
  have hfind : (u.fcu c).outs.find? (fun q => q.xid == o.xid) = some o := by rw [hu.fcu]; exact hxid
  obtain ⟨v, hv, hdeliver⟩ := deliver_record hmid hc hlate hfind x.status
  refine ⟨v, hu.trans hv, ?_⟩
  unfold State.recordWriteDone
  rw [ho]
  exact hrespond.trans hdeliver

/-! ### An accumulation update is issued (R151) and completes (R152) -/

/-- The update leaves the queue's first entry, and is outstanding. -/
def State.updateTaken (s : State) (c : Nat) (q : AccEntry) (qs : List AccEntry) (u : AccUpd) (us : List AccUpd) : State :=
  s.modFcu c (fun f =>
    { f with accq := if us.isEmpty then qs else { q with upds := us } :: qs,
             accOuts := f.accOuts ++ [{ slot := q.slot, lead := q.lead, op := u.op, opnd := u.opnd, xid := s.xnext }] })

/-- R151: the request of an update. -/
def updateReq (c : Nat) (u : AccUpd) (same : Bool) : Xact :=
  { mid := BitVec.ofNat 10 (4 * c), kind := .atomic u.op, addr := u.addr, len := 1, same := same, wpar := [(u.opnd, false)] }

theorem accumulationUpdate_of_update {q : AccEntry} {qs : List AccEntry} {u : AccUpd} {us : List AccUpd}
    (hq : (s.fcu c).accq = q :: qs) (hu : q.upds = u :: us) (same : Bool) :
    s.accumulationUpdate c same = (s.updateTaken c q qs u us).issue (updateReq c u same) := by
  unfold State.accumulationUpdate
  rw [hq]
  dsimp only
  rw [hu]
  rfl

/-- R152: the response to the update reaches the unit. -/
theorem accumulationDone_of_returns {k : Nat} {o : AccOut} {x : Xact} (hc : c < 64) (ho : (s.fcu c).accOuts[k]? = some o)
    (hxid : (s.fcu c).accOuts.find? (fun q => q.xid == o.xid) = some o) (hnone : (s.fcu c).outs.find? (fun q => q.xid == o.xid) = none)
    (hback : s.Returns o.xid x) (hmid : x.mid = BitVec.ofNat 10 (4 * c)) :
    ∃ u, CameBack (s.endXact o.xid) u ∧ s.accumulationDone c k = u.accDone c o x.status (x.reply.getD 0 (0, false)).1 := by
  have ⟨_, _, _, hlate, _⟩ := hback
  obtain ⟨u, hu, hrespond⟩ := respond_of_returns hback
  have hfcu : u.fcu c = s.fcu c := hu.fcu c
  obtain ⟨v, hv, hdeliver⟩ := deliver_update hmid hc hlate (hfcu ▸ hnone) (hfcu ▸ hxid) x.status
  refine ⟨v, hu.trans hv, ?_⟩
  unfold State.accumulationDone
  rw [ho]
  exact hrespond.trans hdeliver

/-- The update is outstanding no more. -/
def State.updateGone (s : State) (c : Nat) (o : AccOut) : State :=
  s.modFcu c (fun f => { f with accOuts := f.accOuts.filter (fun q => q.xid != o.xid) })

theorem accDone_of_failed {o : AccOut} {st : Status} (h : st ≠ .ok) (old : Word) : s.accDone c o st old =
    ((s.updateGone c o).raise F.FCU_GSTAT_ACCERR (fcuOf o.lead).1 (fcuOf o.lead).2).count F.FCU_DROP_ACCLOST (fcuOf o.lead).1
      (fcuOf o.lead).2 := if_pos h

theorem accDone_of_ok (o : AccOut) (old : Word) : s.accDone c o .ok old =
    let t := (s.updateGone c o).pmonEvent (332 + c) 0x47 0 1
    if laneSaturated o.op old o.opnd then t.raise F.FCU_GSTAT_ACCSAT (fcuOf o.lead).1 (fcuOf o.lead).2 else t := rfl

/-- Whatever its status, an update that completes is outstanding no more, and nothing else of the units changes. -/
theorem accDone_frame (o : AccOut) (st : Status) (old : Word) :
    (s.accDone c o st old).fcus = (s.updateGone c o).fcus ∧ (s.accDone c o st old).xacts = s.xacts ∧
      (s.accDone c o st old).pending = s.pending := by
  by_cases hst : st = .ok
  · have hpmon := CameBack.pmonEvent (s.updateGone c o) (332 + c) 0x47 0 1 true
    rw [hst, accDone_of_ok]
    dsimp only
    split <;> exact ⟨hpmon.fcus, hpmon.xacts, hpmon.pending⟩
  · rw [accDone_of_failed hst]
    exact ⟨rfl, rfl, rfl⟩

theorem accDone_outs (o : AccOut) (st : Status) (old : Word) :
    ((s.accDone c o st old).fcu c).accOuts = (s.fcu c).accOuts.filter (fun q => q.xid != o.xid) := by
  have hfcu : (s.accDone c o st old).fcu c = (s.updateGone c o).fcu c := by
    rw [State.fcu, (accDone_frame o st old).1]
    rfl
  rw [hfcu, State.updateGone, fcu_modFcu_same]

/-- R152: a lost update is noted at its gang's slot in the leader's unit. -/
theorem accDone_failed {o : AccOut} {st : Status} (h : st ≠ .ok) (old : Word) :
    (s.accDone c o st old).flag F.FCU_GSTAT_ACCERR (fcuOf o.lead).1 (fcuOf o.lead).2 = true ∧
    (s.accDone c o st old).fld F.FCU_DROP_ACCLOST (fcuOf o.lead).1 (fcuOf o.lead).2 =
      satAdd (fldMax F.FCU_DROP_ACCLOST) (s.fld F.FCU_DROP_ACCLOST (fcuOf o.lead).1 (fcuOf o.lead).2) 1 := by
  rw [accDone_of_failed h]
  constructor
  · have herr := flag_setFld_one (s := s.updateGone c o) (f := F.FCU_GSTAT_ACCERR) (by decide) (fcuOf o.lead).1 (fcuOf o.lead).2 0
    refine Eq.trans (congrArg (· != 0) ?_) herr
    exact fld_setFld_fcuSlot (f := F.FCU_DROP_ACCLOST) (by decide) (by decide) (.inl (by decide)) (fcuOf o.lead).1 _
  · rw [fld_count_fits (by decide)]
    exact congrArg (satAdd (fldMax F.FCU_DROP_ACCLOST) · 1)
      (fld_setFld_fcuSlot (f := F.FCU_GSTAT_ACCERR) (by decide) (by decide) (.inl (by decide)) (fcuOf o.lead).1 1)

/-- R152: a lane that was at its maximum is noted there too. -/
theorem accDone_saturated {o : AccOut} {old : Word} (h : laneSaturated o.op old o.opnd = true) :
    (s.accDone c o .ok old).flag F.FCU_GSTAT_ACCSAT (fcuOf o.lead).1 (fcuOf o.lead).2 = true := by
  rw [accDone_of_ok, if_pos h]
  exact flag_setFld_one (by decide) _ _ 0

/-! ### The commands -/

theorem answers_recordWrite {c : Fin 64} (hlive : s.live (domCL c) = true) {r : FailRec} {rs : List FailRec}
    (hfifo : (s.fcu c).fifo = r :: rs) (hroom : ¬ s.recordWaits c r.slot) (same : Bool) :
    Answers (.recordWrite c same) s (fun t =>
      (t.fcu c).fifo = rs ∧ (t.fcu c).outs = (s.fcu c).outs ++ [{ slot := r.slot, xid := s.xnext }] ∧ t.xnext = s.xnext + 1 ∧
      (∃ x, t.xacts.get s.xnext none = some x ∧ x.mid = BitVec.ofNat 10 (4 * c.val) ∧ x.rt = true ∧ x.kind = .write ∧
        x.addr = s.fld F.FCU_RBASE_BASE c r.slot * 32 + 32 * s.ringEntry c r.slot ∧ x.len = 4 ∧
        x.wpar = [(r.w0, false), (r.w1, false), (r.w2, false), (r.w3, false)]) ∧
      t.engines = s.engines ∧ t.slices = s.slices) := by
  obtain ⟨hnet, y, hy, hsame⟩ := issue_rt (x := s.recordReq c r same) rfl (s.recordTaken c r rs)
  have hwrite := recordWrite_of_room hfifo hroom same
  have hfcus : ((s.recordTaken c r rs).issue (s.recordReq c r same)).fcu c = (s.recordTaken c r rs).fcu c :=
    (FcusKept.of_net hnet).fcu c
  refine answers_inDom rfl hlive (by rw [hwrite]; exact (FcusKept.of_net hnet).pending) ?_
  rw [hwrite, hfcus]
  refine ⟨?_, ?_, (FcusKept.of_net hnet).xnext, ⟨y, hy, ?_⟩, by rw [hnet.rest]; rfl, by rw [hnet.rest]; rfl⟩
  · rw [State.recordTaken, fcu_modSlot_same, fcu_modFcu_same]
  · rw [State.recordTaken, fcu_modSlot_same, fcu_modFcu_same]
  · rw [hsame]
    exact ⟨rfl, rfl, rfl, rfl, rfl, rfl⟩

theorem answers_recordWriteDone {c : Fin 64} (hlive : s.live (domCL c) = true) {i : Fin 4} {o : RecOut} {x : Xact}
    (ho : (s.fcu c).outs.find? (fun q => q.slot == i.val) = some o) (hxid : (s.fcu c).outs.find? (fun q => q.xid == o.xid) = some o)
    (hback : s.Returns o.xid x) (hmid : x.mid = BitVec.ofNat 10 (4 * c.val)) :
    let wp := s.fld F.FCU_RWP_WP c i
    let lost := satAdd (fldMax F.FCU_DROP_DROPPED) (s.fld F.FCU_DROP_DROPPED c i) 1
    Answers (.recordWriteDone c i) s (fun t =>
      t.xacts.get o.xid none = none ∧
      (x.status = .ok → o.after = false → (t.fcu c).outs = (s.fcu c).outs.filter (fun q => q.xid != o.xid) ∧
        t.fld F.FCU_RWP_WP c i = if o.live then (wp + 1) % (max (s.fld F.FCU_RSIZE_SIZE c i) 1) else wp) ∧
      (x.status ≠ .ok → o.after = false → t.fld F.FCU_RWP_WP c i = wp ∧ t.flag F.FCU_GSTAT_WERR c i = true ∧
        ((t.fcu c).slot i).issue = wp ∧ t.fld F.FCU_DROP_DROPPED c i = lost ∧
        (∀ q ∈ (t.fcu c).outs, q.xid ≠ o.xid ∧ (q.slot = i.val → q.after = true))) ∧
      (o.after = true → t.fld F.FCU_RWP_WP c i = wp ∧ t.fld F.FCU_DROP_DROPPED c i = lost)) := by
  intro wp lost
  obtain ⟨u, hu, hdone⟩ := recordWriteDone_of_returns c.isLt ho hxid hback hmid
  obtain ⟨hxacts, hpending⟩ := recordDone_xacts_pending (s := u) (c := c) o x.status
  have hslot : o.slot = i.val := by simpa using List.find?_some ho
  have hin : o.slot < 4 := by omega
  have hfld (f : Fld) (hf : f.reg ∈ fcuSlotRegs) : u.fld f c o.slot = s.fld f c i := by rw [hu.fld hf c hin, hslot]; rfl
  have houts : (u.fcu c).outs = (s.fcu c).outs := congrArg Fcu.outs (hu.fcu c)
  refine answers_inDom rfl hlive (by rw [hdone, hpending, hu.pending]; rfl) ?_
  rw [hdone]
  refine ⟨by rw [hxacts, hu.xacts]; exact xacts_endXact_same .., fun hok hafter => ?_, fun hfail hafter => ?_, fun hafter => ?_⟩
  · have hadvance := recordDone_ok (s := u) (c := c) hin hafter
    rw [houts, hfld F.FCU_RWP_WP (by decide), hfld F.FCU_RSIZE_SIZE (by decide), hslot] at hadvance
    rw [hok]
    exact hadvance
  · have hdropped := recordDone_failed (s := u) (c := c) hin hafter hfail
    rw [hfld F.FCU_RWP_WP (by decide), hfld F.FCU_DROP_DROPPED (by decide), hslot] at hdropped
    exact hdropped
  · have hdropped := recordDone_after (s := u) (c := c) hafter x.status
    rw [hfld F.FCU_RWP_WP (by decide), hfld F.FCU_DROP_DROPPED (by decide), hslot] at hdropped
    exact hdropped

theorem answers_accumulationUpdate {c : Fin 64} (hlive : s.live (domCL c) = true) {q : AccEntry} {qs : List AccEntry} {u : AccUpd}
    {us : List AccUpd} (hq : (s.fcu c).accq = q :: qs) (hu : q.upds = u :: us) (same : Bool) :
    Answers (.accumulationUpdate c same) s (fun t =>
      (t.fcu c).accq = (if us.isEmpty then qs else { q with upds := us } :: qs) ∧
      (t.fcu c).accOuts = (s.fcu c).accOuts ++ [{ slot := q.slot, lead := q.lead, op := u.op, opnd := u.opnd, xid := s.xnext }] ∧
      t.xnext = s.xnext + 1) := by
  have hupdate := accumulationUpdate_of_update hq hu same
  have hkept := FcusKept.issue (x := updateReq c u same) rfl (s.updateTaken c q qs u us)
  rw [← hupdate] at hkept
  have hfcu : (s.accumulationUpdate c same).fcu c = (s.updateTaken c q qs u us).fcu c :=
    hkept.fcu c
  refine answers_inDom rfl hlive hkept.pending ?_
  rw [hfcu, State.updateTaken, fcu_modFcu_same]
  exact ⟨rfl, rfl, hkept.xnext⟩

theorem answers_accumulationUpdateDone {c : Fin 64} (hlive : s.live (domCL c) = true) {k : Nat} {o : AccOut} {x : Xact}
    (ho : (s.fcu c).accOuts[k]? = some o) (hxid : (s.fcu c).accOuts.find? (fun q => q.xid == o.xid) = some o)
    (hnone : (s.fcu c).outs.find? (fun q => q.xid == o.xid) = none) (hback : s.Returns o.xid x)
    (hmid : x.mid = BitVec.ofNat 10 (4 * c.val)) :
    let p := fcuOf o.lead
    Answers (.accumulationUpdateDone c k) s (fun t =>
      t.xacts.get o.xid none = none ∧ (t.fcu c).accOuts = (s.fcu c).accOuts.filter (fun q => q.xid != o.xid) ∧
      (x.status ≠ .ok → t.flag F.FCU_GSTAT_ACCERR p.1 p.2 = true ∧
        t.fld F.FCU_DROP_ACCLOST p.1 p.2 = satAdd (fldMax F.FCU_DROP_ACCLOST) (s.fld F.FCU_DROP_ACCLOST p.1 p.2) 1) ∧
      (x.status = .ok → laneSaturated o.op ((x.reply.getD 0 (0, false)).1) o.opnd = true →
        t.flag F.FCU_GSTAT_ACCSAT p.1 p.2 = true)) := by
  intro p
  obtain ⟨u, hu, hdone⟩ := accumulationDone_of_returns c.isLt ho hxid hnone hback hmid
  obtain ⟨-, hxacts, hpending⟩ := accDone_frame (s := u) (c := c) o x.status (x.reply.getD 0 (0, false)).1
  have hlost : u.fld F.FCU_DROP_ACCLOST p.1 p.2 = s.fld F.FCU_DROP_ACCLOST p.1 p.2 :=
    hu.fld (by decide) p.1 (Nat.mod_lt _ (by decide))
  refine answers_inDom rfl hlive (by rw [hdone, hpending, hu.pending]; rfl) ?_
  rw [hdone]
  refine ⟨by rw [hxacts, hu.xacts]; exact xacts_endXact_same .., ?_, fun hfail => ?_, fun hok hsat => ?_⟩
  · rw [accDone_outs, hu.fcu]
    rfl
  · have hnoted := accDone_failed (s := u) (c := c) (o := o) hfail (x.reply.getD 0 (0, false)).1
    rw [hlost] at hnoted
    exact hnoted
  · rw [hok]
    exact accDone_saturated hsat

/-- Settles O31: a record or an update that leaves its queue is issued under the next number, and its response comes back to the
unit that issued it (respond_of_returns), where its status decides. -/
theorem recordsAndUpdatesLeaveTheFcuInOrder : Obligations.RecordsAndUpdatesLeaveTheFcuInOrder := by
  intro s c hlive f
  refine ⟨fun r rs same hfifo => ⟨fun hsize hfree houts => ?_, fun hwaits => ?_⟩, ?_, ?_, ?_⟩
  · refine answers_recordWrite hlive hfifo (fun hwaits => ?_) same
    rcases hwaits with hnone | hfull | hmany
    · exact hsize hnone
    · exact hfree hfull
    · exact absurd houts (Nat.not_lt.2 hmany)
  · exact answers_inDom rfl hlive (by rw [recordWrite_of_waits hfifo hwaits]) (recordWrite_of_waits hfifo hwaits same)
  · intro i o x ho hxid hback hmid
    exact answers_recordWriteDone hlive ho hxid hback hmid
  · intro q qs u us same hq hu
    exact answers_accumulationUpdate hlive hq hu same
  · intro k o x ho hxid hnone hback hmid
    exact answers_accumulationUpdateDone hlive ho hxid hnone hback hmid

end Sys2Proof.Machine
end

section
/-!
SUPPORT. What an operation leaves alone, by the addresses of control space; and a fold over units, each of whose steps works on a
part of its own: that unit's part is as its own step left it.
-/
namespace Sys2Proof.Machine

open Sys2Proof

variable {P Q : Nat → Prop} {s t : State}

/-- t has the register values of s at the addresses of P, and all shadows. -/
structure SameOn (P : Nat → Prop) (s t : State) : Prop where
  regs : ∀ a d, P a → t.regs.get a d = s.regs.get a d
  work : ∀ a d, P a → t.work.get a d = s.work.get a d
  shadow : t.shadow = s.shadow

namespace SameOn

theorem refl (s : State) : SameOn P s s := ⟨fun _ _ _ => rfl, fun _ _ _ => rfl, rfl⟩

theorem trans {a b c : State} (h : SameOn P a b) (g : SameOn P b c) : SameOn P a c :=
  ⟨fun k d hk => (g.regs k d hk).trans (h.regs k d hk), fun k d hk => (g.work k d hk).trans (h.work k d hk), g.shadow.trans h.shadow⟩

theorem of_eq (hr : t.regs = s.regs) (hw : t.work = s.work) (hs : t.shadow = s.shadow) : SameOn P s t :=
  ⟨fun _ _ _ => by rw [hr], fun _ _ _ => by rw [hw], hs⟩

theorem reg (h : SameOn P s t) {r : RegId} {i j k : Nat} (hp : P (regAddr r i j k)) : t.reg r i j k = s.reg r i j k := by
  unfold State.reg
  rw [h.regs _ _ hp, h.work _ _ hp]

theorem fld (h : SameOn P s t) {f : Fld} {i j k : Nat} (hp : P (regAddr f.reg i j k)) : t.fld f i j k = s.fld f i j k :=
  congrArg (fldOf f) (h.reg hp)

theorem flag (h : SameOn P s t) {f : Fld} {i j k : Nat} (hp : P (regAddr f.reg i j k)) : t.flag f i j k = s.flag f i j k :=
  congrArg (· != 0) (h.fld hp)

theorem shadowReg (h : SameOn P s t) (r : RegId) (i j k : Nat) : t.shadowReg r i j k = s.shadowReg r i j k := by
  unfold State.shadowReg; rw [h.shadow]

theorem setReg {r : RegId} {i j k : Nat} (h : ¬ P (regAddr r i j k)) (s : State) (v : Word) : SameOn P s (s.setReg r v i j k) := by
  have hne : ∀ a, P a → a ≠ regAddr r i j k := by rintro a ha rfl; exact h ha
  cases hs : isShadowed r
  · rw [setReg_regs hs]
    exact ⟨fun a _ ha => Tab.get_set_other _ (hne a ha) .., fun _ _ _ => rfl, rfl⟩
  · rw [setReg_work hs]
    exact ⟨fun _ _ _ => rfl, fun a _ ha => Tab.get_set_other _ (hne a ha) .., rfl⟩

theorem setFld {f : Fld} {i j k : Nat} (h : ¬ P (regAddr f.reg i j k)) (s : State) (v : Nat) : SameOn P s (s.setFld f v i j k) :=
  setReg h s _

/-- A commit of a block leaves the registers outside that block alone. -/
theorem commitBlock {b : Block} {i : Nat} (h : ∀ a, P a → ¬ b.Holds i a) (s : State) : SameOn P s (s.commitBlock b i) := by
  refine ⟨fun _ _ _ => rfl, fun a d ha => ?_, rfl⟩
  have hout := h a ha
  unfold Block.Holds at hout
  rw [Nat.succ_mul] at hout
  simp only [State.commitBlock, Tab.get_merge]
  exact if_neg (by omega)

/-- Counting an event leaves alone what lies below the monitors' registers. -/
theorem pmonEvent (h : ∀ a, P a → a < 0x00180e000000) (s : State) (i evt port n : Nat) (p : Bool) :
    SameOn P s (s.pmonEvent i evt port n p) := by
  have hset (f : Fld) (hf : f.reg.desc.blk = .PMON) (a : State) (v j : Nat) : SameOn P a (a.setFld f v i j) := by
    refine setFld (fun hp => ?_) a v
    have hlow := h _ hp
    simp only [regAddr, hf, Block.place] at hlow
    omega
  unfold State.pmonEvent State.forAll
  split
  · exact .refl s
  · refine foldl_ind (P := SameOn P s) (fun a j ha => ?_) _ s (.refl s)
    dsimp only
    have hcount (v : Nat) := ha.trans (hset F.PMON_CNT_COUNT rfl a v j)
    split
    · split
      · exact hcount _
      · have hovf (v w : Nat) := (hcount v).trans (hset F.PMON_STATUS_OVF rfl _ w 0)
        split
        · exact (hovf _ _).trans (of_eq rfl rfl rfl)
        · exact hovf _ _
    · exact ha

end SameOn

/-- What every step of a fold leaves of a part, the fold leaves of it. -/
theorem foldl_sameOn {α : Type} {f : State → α → State} {xs : List α} (h : ∀ a, ∀ x ∈ xs, SameOn P a (f a x)) (s : State) :
    SameOn P s (xs.foldl f s) := by
  induction xs generalizing s with
  | nil => exact .refl s
  | cons x xs ih => exact (h s x (by simp)).trans (ih (fun a y hy => h a y (by simp [hy])) (f s x))

/-- Where only the step of unit x works on a part, that part is as x's step left it, which found it as it was at the start. -/
theorem foldl_sameOn_own {α : Type} {f : State → α → State} {xs : List α} (hn : xs.Nodup) {x : α} (hx : x ∈ xs)
    (h : ∀ a, ∀ y ∈ xs, y ≠ x → SameOn P a (f a y)) (s : State) : ∃ a, SameOn P s a ∧ SameOn P (f a x) (xs.foldl f s) := by
  obtain ⟨before, behind, rfl⟩ := List.append_of_mem hx
  obtain ⟨hnot, -⟩ := List.nodup_cons.1 (List.nodup_middle.1 hn)
  rw [List.mem_append, not_or] at hnot
  refine ⟨before.foldl f s, foldl_sameOn (fun a y hy => h a y (by simp [hy]) ?_) s, ?_⟩
  · rintro rfl; exact hnot.1 hy
  · rw [List.foldl_append, List.foldl_cons]
    refine foldl_sameOn (fun a y hy => h a y (by simp [hy]) ?_) _
    rintro rfl; exact hnot.2 hy

end Sys2Proof.Machine
end


section
/-!
SUPPORT. Commits of arbiters and routers (R280, R281, R288, R289): what a commit that takes effect makes of its own block's registers,
and that the quiet slot's commits do not meet.
-/
namespace Sys2Proof.Machine

open Sys2Proof

variable {s t : State}

/-! ### The hold of a router (R280, R281) -/

@[simp] theorem ni_modNi_same (n : Nat) (f : Ni → Ni) : (s.modNi n f).ni n = f (s.ni n) := by
  simp [State.ni, State.modNi]

/-- A hold changes the router's interface and draws its length, no more. -/
theorem holdRouter_changes (r : Nat) (maint : Bool) :
    s.holdRouter r maint = { s with nis := (s.holdRouter r maint).nis, free := s.free + 1 } := rfl

theorem holdRouter_sameOn {P : Nat → Prop} (s : State) (r : Nat) (maint : Bool) : SameOn P s (s.holdRouter r maint) :=
  .of_eq rfl rfl rfl

/-- R280: a commit in maintenance holds both channels of its router for at most 64 network cycles. -/
theorem holdRouter_maint (s : State) (r : Nat) :
    s.now ≤ ((s.holdRouter r true).ni (8 * r)).holdTill ∧ ((s.holdRouter r true).ni (8 * r)).holdTill ≤ s.now + 256 := by
  unfold State.holdRouter
  simp only [ni_modNi_same, if_true]
  omega

/-! ### Where the registers stand -/

theorem nocCfg_holds (r : Nat) : Block.Holds .NOC r (regAddr .NOC_CFG r) := by
  simp only [Block.Holds, Block.place, regAddr, regInst, RegId.desc]; omega

theorem nocStatus_holds (r : Nat) : Block.Holds .NOC r (regAddr .NOC_STATUS r) := by
  simp only [Block.Holds, Block.place, regAddr, regInst, RegId.desc]; omega

theorem nocRoute_holds (r : Nat) {d : Nat} (hd : d < 512) : Block.Holds .NOC r (regAddr .NOC_ROUTE r 0 d) := by
  simp only [Block.Holds, Block.place, regAddr, regInst, RegId.desc]; omega

theorem arbCfg_holds (i : Nat) {k : Nat} (hk : k < 8) : Block.Holds .ARB i (regAddr .ARB_CFG i k) := by
  simp only [Block.Holds, Block.place, regAddr, regInst, RegId.desc]; omega

theorem arbStatus_holds (i : Nat) : Block.Holds .ARB i (regAddr .ARB_STATUS i) := by
  simp only [Block.Holds, Block.place, regAddr, regInst, RegId.desc]; omega

theorem arbCnt_holds (i : Nat) {k : Nat} (hk : k < 8) : Block.Holds .ARB i (regAddr .ARB_CNT i k) := by
  simp only [Block.Holds, Block.place, regAddr, regInst, RegId.desc]; omega

/-- No address lies in a router's block and in an arbiter's. -/
theorem not_arb_of_noc {r i a : Nat} (hr : r < 64) (h : Block.Holds .NOC r a) : ¬ Block.Holds .ARB i a := by
  simp only [Block.Holds, Block.place] at *; omega

theorem not_noc_of_noc {r q a : Nat} (hq : q ≠ r) (h : Block.Holds .NOC r a) : ¬ Block.Holds .NOC q a := by
  simp only [Block.Holds, Block.place] at *; omega

theorem not_arb_of_arb {i j a : Nat} (hj : j ≠ i) (h : Block.Holds .ARB i a) : ¬ Block.Holds .ARB j a := by
  simp only [Block.Holds, Block.place] at *; omega

/-! ### An arbiter's commit (R281, R288) -/

/-- ARB_COMMIT's working values after the commit of arbiter i. -/
theorem arbCfg_commit (i : Nat) {k : Nat} (hk : k < 8) : (s.commitBlock .ARB i).reg .ARB_CFG i k = s.shadowReg .ARB_CFG i k :=
  reg_commitBlock (by decide) (arbCfg_holds i hk)

/-- What the quiet slot does with arbiter i of router r. -/
def State.arbPending (s : State) (r i : Nat) : State :=
  if s.flag F.ARB_STATUS_PEND i then ((s.setFld F.ARB_STATUS_PEND 0 i).commitBlock .ARB i).holdRouter r false else s

/-- R281: arbiter i has no commit pending, and one that was pending is in force. -/
structure ArbCommitted (i : Nat) (s t : State) : Prop where
  pend : t.flag F.ARB_STATUS_PEND i = false
  cfg : s.flag F.ARB_STATUS_PEND i = true → ∀ k : Nat, k < 8 → t.reg .ARB_CFG i k = s.shadowReg .ARB_CFG i k

theorem ArbCommitted.before {i : Nat} {a : State} (h : SameOn (Block.Holds .ARB i) s a) (g : ArbCommitted i a t) : ArbCommitted i s t :=
  ⟨g.pend, fun hp k hk => (g.cfg ((h.flag (f := F.ARB_STATUS_PEND) (arbStatus_holds i)).trans hp) k hk).trans (h.shadowReg ..)⟩

theorem ArbCommitted.behind {i : Nat} {a : State} (g : ArbCommitted i s a) (h : SameOn (Block.Holds .ARB i) a t) : ArbCommitted i s t :=
  ⟨(h.flag (f := F.ARB_STATUS_PEND) (arbStatus_holds i)).trans g.pend, fun hp k hk => (h.reg (arbCfg_holds i hk)).trans (g.cfg hp k hk)⟩

theorem arbPending_committed (s : State) (r i : Nat) : ArbCommitted i s (s.arbPending r i) := by
  unfold State.arbPending
  cases hp : s.flag F.ARB_STATUS_PEND i with
  | false => exact ⟨hp, fun h => absurd (hp.symm.trans h) (by decide)⟩
  | true =>
    refine .behind ⟨?_, fun _ k hk => ?_⟩ (holdRouter_sameOn _ r false)
    · show (s.setFld F.ARB_STATUS_PEND 0 i).flag F.ARB_STATUS_PEND i = false
      exact flag_setFld_zero (by decide) i 0 0
    · exact arbCfg_commit i hk

/-- It works on that arbiter's block alone. -/
theorem arbPending_sameOn {P : Nat → Prop} {i : Nat} (h : ∀ a, P a → ¬ Block.Holds .ARB i a) (s : State) (r : Nat) :
    SameOn P s (s.arbPending r i) := by
  unfold State.arbPending
  split
  · exact ((SameOn.setFld (f := F.ARB_STATUS_PEND) (fun hp => h _ hp (arbStatus_holds i)) s 0).trans (.commitBlock h _)).trans (holdRouter_sameOn _ r false)
  · exact .refl s

/-! ### A router's commit (R271, R280, R289) -/

theorem badRoute_of_shadow (h : t.shadow = s.shadow) (r : Nat) : t.badRoute r = s.badRoute r := by
  unfold State.badRoute; rw [h]

/-- The commit is no more pending. -/
def State.unpended (s : State) (r : Nat) : State := s.setFld F.NOC_STATUS_CPEND 0 r

/-- R282: a commit that changes a table counts a generation. -/
def State.genCounted (s : State) (r : Nat) : State :=
  if s.routesChange r then s.setFld F.NOC_STATUS_GEN ((s.fld F.NOC_STATUS_GEN r + 1) % 65536) r else s

/-- R280, R281: the commit holds the router, where it is under MAINT or changes NOC_CFG. -/
def State.commitHeld (s : State) (r : Nat) (maint : Bool) : State :=
  if maint ∨ s.reg .NOC_CFG r ≠ s.shadowReg .NOC_CFG r then s.holdRouter r maint else s

theorem nocEffect_of_good {r : Nat} (h : s.badRoute r = none) (maint : Bool) :
    s.nocEffect r maint = (((s.unpended r).genCounted r).commitHeld r maint).commitBlock .NOC r := by
  have hbad : (s.unpended r).badRoute r = none := (badRoute_of_shadow rfl r).trans h
  unfold State.nocEffect
  dsimp only
  rw [← State.unpended, hbad]
  rfl

theorem nocEffect_of_bad {r : Nat} {bad : Nat × Nat} (h : s.badRoute r = some bad) (maint : Bool) : s.nocEffect r maint =
    ((s.unpended r).setFld F.NOC_STATUS_CFGERR 1 r).setFld F.NOC_STATUS_ERRENT (bad.1 * 1024 + bad.2) r := by
  have hbad : (s.unpended r).badRoute r = some bad := (badRoute_of_shadow rfl r).trans h
  unfold State.nocEffect
  dsimp only
  rw [← State.unpended, hbad]

theorem genCounted_sameOn {P : Nat → Prop} {r : Nat} (h : ∀ a, P a → ¬ Block.Holds .NOC r a) (s : State) : SameOn P s (s.genCounted r) := by
  unfold State.genCounted
  split
  · exact .setFld (f := F.NOC_STATUS_GEN) (fun hp => h _ hp (nocStatus_holds r)) s _
  · exact .refl s

theorem commitHeld_sameOn {P : Nat → Prop} (s : State) (r : Nat) (maint : Bool) : SameOn P s (s.commitHeld r maint) := by
  unfold State.commitHeld
  split
  · exact holdRouter_sameOn s r maint
  · exact .refl s

/-- A router's commit works on that router's block alone. -/
theorem nocEffect_sameOn {P : Nat → Prop} {r : Nat} (h : ∀ a, P a → ¬ Block.Holds .NOC r a) (s : State) (maint : Bool) :
    SameOn P s (s.nocEffect r maint) := by
  have hset (f : Fld) (hf : f.reg = .NOC_STATUS) (a : State) (v : Nat) : SameOn P a (a.setFld f v r) :=
    .setFld (fun hp => h _ hp (hf ▸ nocStatus_holds r)) a v
  have hpend : SameOn P s (s.unpended r) := hset F.NOC_STATUS_CPEND rfl s 0
  cases hb : s.badRoute r with
  | none =>
    rw [nocEffect_of_good hb]
    exact ((hpend.trans (genCounted_sameOn h _)).trans (commitHeld_sameOn _ r maint)).trans (.commitBlock h _)
  | some bad =>
    rw [nocEffect_of_bad hb]
    exact (hpend.trans (hset F.NOC_STATUS_CFGERR rfl _ 1)).trans (hset F.NOC_STATUS_ERRENT rfl _ _)

/-- The shadows that a commit leaves, and NOC_STATUS's flags that counting a generation leaves. -/
theorem genCounted_shadow (s : State) (r : Nat) : (s.genCounted r).shadow = s.shadow := by
  unfold State.genCounted; split <;> rfl

theorem genCounted_cpend (s : State) (r : Nat) : (s.genCounted r).flag F.NOC_STATUS_CPEND r = s.flag F.NOC_STATUS_CPEND r := by
  unfold State.genCounted
  split
  · exact flag_setFld_apart (by decide) _ r
  · rfl

theorem genCounted_now (s : State) (r : Nat) : (s.genCounted r).now = s.now := by
  unfold State.genCounted; split <;> rfl

/-- R289: a commit with good routes takes NOC_CFG and the route tables. -/
theorem nocEffect_takes {r : Nat} (h : s.badRoute r = none) (maint : Bool) :
    (s.nocEffect r maint).reg .NOC_CFG r = s.shadowReg .NOC_CFG r ∧
      ∀ d : Nat, d < 512 → (s.nocEffect r maint).reg .NOC_ROUTE r 0 d = s.shadowReg .NOC_ROUTE r 0 d := by
  have hshadow : (((s.unpended r).genCounted r).commitHeld r maint).shadow = s.shadow :=
    (commitHeld_sameOn (P := fun _ => False) _ r maint).shadow.trans (genCounted_shadow _ r)
  have hsame (q : RegId) (d : Nat) :
      (((s.unpended r).genCounted r).commitHeld r maint).shadowReg q r 0 d = s.shadowReg q r 0 d := by
    unfold State.shadowReg; rw [hshadow]
  rw [nocEffect_of_good h]
  exact ⟨(reg_commitBlock (by decide) (nocCfg_holds r)).trans (hsame ..),
    fun d hd => (reg_commitBlock (by decide) (nocRoute_holds r hd)).trans (hsame ..)⟩

/-- R271: a commit with a bad route is refused: CFGERR is set, and no working value changes. -/
theorem nocEffect_refused {r : Nat} (h : s.badRoute r ≠ none) (maint : Bool) :
    (s.nocEffect r maint).flag F.NOC_STATUS_CFGERR r = true ∧ (s.nocEffect r maint).work = s.work := by
  obtain ⟨bad, hbad⟩ := Option.ne_none_iff_exists'.1 h
  rw [nocEffect_of_bad hbad]
  refine ⟨?_, rfl⟩
  rw [flag_setFld_apart (by decide)]
  exact flag_setFld_one (by decide) r 0 0

theorem nocEffect_cpend (s : State) (r : Nat) (maint : Bool) : (s.nocEffect r maint).flag F.NOC_STATUS_CPEND r = false := by
  have hzero : (s.unpended r).flag F.NOC_STATUS_CPEND r = false := flag_setFld_zero (by decide) r 0 0
  cases hb : s.badRoute r with
  | none =>
    rw [nocEffect_of_good hb]
    have hheld := (commitHeld_sameOn (P := fun _ => True) ((s.unpended r).genCounted r) r maint).flag (f := F.NOC_STATUS_CPEND)
      (i := r) (j := 0) (k := 0) trivial
    exact hheld.trans ((genCounted_cpend _ r).trans hzero)
  | some bad =>
    rw [nocEffect_of_bad hb, flag_setFld_apart (by decide), flag_setFld_apart (by decide), hzero]

/-- R280: under MAINT the commit holds both channels. -/
theorem nocEffect_maint {r : Nat} (h : s.badRoute r = none) :
    s.now ≤ ((s.nocEffect r true).ni (8 * r)).holdTill ∧ ((s.nocEffect r true).ni (8 * r)).holdTill ≤ s.now + 256 := by
  have hnow : ((s.unpended r).genCounted r).now = s.now := genCounted_now _ r
  have hheld : ((s.unpended r).genCounted r).commitHeld r true = ((s.unpended r).genCounted r).holdRouter r true := if_pos (.inl rfl)
  have hhold := holdRouter_maint ((s.unpended r).genCounted r) r
  rw [nocEffect_of_good h, hheld]
  rw [hnow] at hhold
  exact hhold

/-! ### The pending commits of a router in the quiet slot (R276, R281, R289) -/

/-- The router's own pending commit. -/
def State.nocPending (s : State) (r : Nat) : State := if s.flag F.NOC_STATUS_CPEND r then s.nocEffect r false else s

theorem routerCommits_eq (s : State) (r : Nat) :
    s.routerCommits r = (List.range 8).foldl (fun a k => a.arbPending r (8 * r + k)) (s.nocPending r) := rfl

/-- R289: router r has no commit pending, and one that was pending is in force or refused. -/
structure NocCommitted (r : Nat) (s t : State) : Prop where
  pend : t.flag F.NOC_STATUS_CPEND r = false
  good : s.flag F.NOC_STATUS_CPEND r = true → s.badRoute r = none → t.reg .NOC_CFG r = s.shadowReg .NOC_CFG r ∧
    ∀ d : Nat, d < 512 → t.reg .NOC_ROUTE r 0 d = s.shadowReg .NOC_ROUTE r 0 d
  bad : s.flag F.NOC_STATUS_CPEND r = true → s.badRoute r ≠ none →
    t.flag F.NOC_STATUS_CFGERR r = true ∧ t.reg .NOC_CFG r = s.reg .NOC_CFG r

theorem NocCommitted.before {r : Nat} {a : State} (h : SameOn (Block.Holds .NOC r) s a) (g : NocCommitted r a t) : NocCommitted r s t := by
  have hpend := h.flag (f := F.NOC_STATUS_CPEND) (nocStatus_holds r)
  have hroute := badRoute_of_shadow h.shadow r
  refine ⟨g.pend, fun hp hb => ?_, fun hp hb => ?_⟩
  · obtain ⟨hcfg, hroutes⟩ := g.good (hpend.trans hp) (hroute.trans hb)
    exact ⟨hcfg.trans (h.shadowReg ..), fun d hd => (hroutes d hd).trans (h.shadowReg ..)⟩
  · obtain ⟨herr, hcfg⟩ := g.bad (hpend.trans hp) (fun h0 => hb (hroute.symm.trans h0))
    exact ⟨herr, hcfg.trans (h.reg (nocCfg_holds r))⟩

theorem NocCommitted.behind {r : Nat} {a : State} (g : NocCommitted r s a) (h : SameOn (Block.Holds .NOC r) a t) : NocCommitted r s t := by
  have hcfg := h.reg (nocCfg_holds r)
  refine ⟨(h.flag (f := F.NOC_STATUS_CPEND) (nocStatus_holds r)).trans g.pend, fun hp hb => ?_, fun hp hb => ?_⟩
  · obtain ⟨htaken, hroutes⟩ := g.good hp hb
    exact ⟨hcfg.trans htaken, fun d hd => (h.reg (nocRoute_holds r hd)).trans (hroutes d hd)⟩
  · obtain ⟨herr, hkept⟩ := g.bad hp hb
    exact ⟨(h.flag (f := F.NOC_STATUS_CFGERR) (nocStatus_holds r)).trans herr, hcfg.trans hkept⟩

theorem nocPending_committed (s : State) (r : Nat) : NocCommitted r s (s.nocPending r) := by
  unfold State.nocPending
  cases hp : s.flag F.NOC_STATUS_CPEND r with
  | false => exact ⟨hp, fun h => absurd (hp.symm.trans h) (by decide), fun h => absurd (hp.symm.trans h) (by decide)⟩
  | true =>
    refine ⟨nocEffect_cpend s r false, fun _ hb => nocEffect_takes hb false, fun _ hb => ?_⟩
    obtain ⟨herr, hwork⟩ := nocEffect_refused hb false
    exact ⟨herr, by simp only [State.reg, show isShadowed RegId.NOC_CFG = true from by decide, if_pos, hwork]⟩

theorem nocPending_sameOn {P : Nat → Prop} {r : Nat} (h : ∀ a, P a → ¬ Block.Holds .NOC r a) (s : State) : SameOn P s (s.nocPending r) := by
  unfold State.nocPending
  split
  · exact nocEffect_sameOn h s false
  · exact .refl s

/-- The commits of router r work on its block and those of its arbiters. -/
theorem routerCommits_sameOn {P : Nat → Prop} {r : Nat} (hnoc : ∀ a, P a → ¬ Block.Holds .NOC r a)
    (harb : ∀ a, P a → ∀ k : Nat, k < 8 → ¬ Block.Holds .ARB (8 * r + k) a) (s : State) : SameOn P s (s.routerCommits r) := by
  rw [routerCommits_eq]
  exact (nocPending_sameOn hnoc s).trans
    (foldl_sameOn (fun a k hk => arbPending_sameOn (fun x hx => harb x hx k (List.mem_range.1 hk)) a r) _)

theorem routerCommits_noc {r : Nat} (hr : r < 64) (s : State) : NocCommitted r s (s.routerCommits r) := by
  rw [routerCommits_eq]
  exact (nocPending_committed s r).behind (foldl_sameOn (fun a k _ => arbPending_sameOn (fun x hx => not_arb_of_noc hr hx) a r) _)

theorem routerCommits_arb {r k : Nat} (hr : r < 64) (hk : k < 8) (s : State) : ArbCommitted (8 * r + k) s (s.routerCommits r) := by
  rw [routerCommits_eq]
  have hnoc : SameOn (Block.Holds .ARB (8 * r + k)) s (s.nocPending r) :=
    nocPending_sameOn (fun a ha hn => not_arb_of_noc hr hn ha) s
  obtain ⟨a, hbefore, hbehind⟩ := foldl_sameOn_own (P := Block.Holds .ARB (8 * r + k)) (f := fun a k => State.arbPending a r (8 * r + k))
    List.nodup_range (List.mem_range.2 hk) (fun a j _ hj => arbPending_sameOn (fun x hx => not_arb_of_arb (by omega) hx) a r) (s.nocPending r)
  exact ((arbPending_committed a r (8 * r + k)).before (hnoc.trans hbefore)).behind hbehind

/-- The commits of the routers change nothing beside registers, interfaces and the counter of free values. -/
theorem routerCommits_rest (s : State) (r : Nat) :
    ((s.routerCommits r).time, (s.routerCommits r).engines, (s.routerCommits r).slices) = (s.time, s.engines, s.slices) := by
  have hnoc : ((s.nocPending r).time, (s.nocPending r).engines, (s.nocPending r).slices) = (s.time, s.engines, s.slices) := by
    unfold State.nocPending
    split
    · cases hb : s.badRoute r with
      | none =>
        rw [nocEffect_of_good hb]
        unfold State.commitHeld State.genCounted
        split <;> split <;> rfl
      | some bad => rw [nocEffect_of_bad hb]; rfl
    · rfl
  rw [routerCommits_eq]
  refine (foldl_keeps (fun a : State => (a.time, a.engines, a.slices)) (fun a k => ?_) _ _).trans hnoc
  unfold State.arbPending
  split <;> rfl

/-! ### The quiet slot -/

/-- R276: the quiet slot that comes next begins. -/
def State.inQuietSlot (s : State) : State :=
  s.atTime (4096 * (if s.inQuiet then s.now / 4096 + 1 else s.now / 4096) + 4064)

theorem quietSlot_eq (s : State) : s.quietSlot = (List.range 64).foldl State.routerCommits s.inQuietSlot := rfl

theorem quietSlot_noc {r : Nat} (hr : r < 64) (s : State) : NocCommitted r s s.quietSlot := by
  rw [quietSlot_eq]
  obtain ⟨a, hbefore, hbehind⟩ := foldl_sameOn_own (P := Block.Holds .NOC r) (f := State.routerCommits) List.nodup_range (List.mem_range.2 hr)
    (fun a q _ hq => routerCommits_sameOn (fun x hx => not_noc_of_noc hq hx) (fun x hx _ _ => not_arb_of_noc hr hx) a) s.inQuietSlot
  have hslot : SameOn (Block.Holds .NOC r) s s.inQuietSlot := .of_eq rfl rfl rfl
  exact ((routerCommits_noc hr a).before (hslot.trans hbefore)).behind hbehind

theorem quietSlot_arb {i : Nat} (hi : i < 512) (s : State) : ArbCommitted i s s.quietSlot := by
  have hr : i / 8 < 64 := by omega
  have heq : 8 * (i / 8) + i % 8 = i := by omega
  rw [quietSlot_eq]
  obtain ⟨a, hbefore, hbehind⟩ := foldl_sameOn_own (P := Block.Holds .ARB i) (f := State.routerCommits) List.nodup_range (List.mem_range.2 hr)
    (fun a q hq hne => routerCommits_sameOn (fun x hx hn => not_arb_of_noc (List.mem_range.1 hq) hn hx)
      (fun x hx k hk => not_arb_of_arb (by omega) hx) a) s.inQuietSlot
  have hslot : SameOn (Block.Holds .ARB i) s s.inQuietSlot := .of_eq rfl rfl rfl
  have hown := routerCommits_arb hr (Nat.mod_lt i (by decide)) a
  rw [heq] at hown
  exact (hown.before (hslot.trans hbefore)).behind hbehind

/-- The commits leave the time at the slot's beginning, and engines and slices alone. -/
theorem quietSlot_rest (s : State) :
    s.quietSlot.time = s.inQuietSlot.time ∧ s.quietSlot.engines = s.engines ∧ s.quietSlot.slices = s.slices := by
  have h := foldl_keeps (fun a : State => (a.time, a.engines, a.slices)) routerCommits_rest (List.range 64) s.inQuietSlot
  rw [← quietSlot_eq] at h
  simp only [Prod.mk.injEq] at h
  obtain ⟨htime, hengines, hslices⟩ := h
  exact ⟨htime, hengines, hslices⟩

/-- R276: where TIME has room for it, it lies in the quiet slot then. -/
theorem inQuietSlot_inQuiet (h : s.now < 2 ^ 63) : s.inQuietSlot.inQuiet = true := by
  have hreach (m : Nat) (hm : s.now < m) (hfit : m < 2 ^ 64) : (s.atTime m).now = m := by
    unfold State.now at *
    unfold State.atTime
    rw [if_pos hm, BitVec.toNat_ofNat, Nat.mod_eq_of_lt hfit]
  have hslot (f : Nat) (hm : s.now < 4096 * f + 4064) (hf : f ≤ s.now / 4096 + 1) : (s.atTime (4096 * f + 4064)).inQuiet = true := by
    unfold State.inQuiet
    rw [hreach _ hm (by omega), decide_eq_true_eq]
    omega
  unfold State.inQuietSlot
  cases hq : s.inQuiet with
  | true => exact hslot _ (by rw [if_pos rfl]; omega) (by rw [if_pos rfl])
  | false =>
    have hbefore : s.now % 4096 < 4064 := by simpa [State.inQuiet] using hq
    exact hslot _ (by simp only [Bool.false_eq_true, if_false]; omega) (by simp)

end Sys2Proof.Machine
end


section
/-!
SUPPORT. The common arbiter (R287, R288): what its cycles count, whom it chooses, and what a grant leaves in its state and counts.
-/
namespace Sys2Proof.Machine

open Sys2Proof

variable {s t : State} {i : Nat}

/-! ### Cycles -/

/-- R287: the waits after n cycles in which the requesters req other than the owner waited. -/
def Arb.waited (a : Arb) (req : List Nat) (n : Nat) : Tab Nat :=
  req.foldl (fun t r => if a.owner = some r then t else t.set r (t.get r 0 + n) 0) a.wait

theorem waited_get (a : Arb) {req : List Nat} (h : req.Nodup) (n r : Nat) :
    (a.waited req n).get r 0 = a.wait.get r 0 + if r ∈ req ∧ a.owner ≠ some r then n else 0 := by
  unfold Arb.waited
  generalize a.wait = w
  induction req generalizing w with
  | nil => simp
  | cons q req ih =>
    obtain ⟨hq, hn⟩ := List.nodup_cons.1 h
    rw [List.foldl_cons, ih hn]
    by_cases ho : a.owner = some q
    · rw [if_pos ho]
      by_cases hr : r = q
      · subst hr; simp [ho]
      · simp [hr]
    · rw [if_neg ho]
      by_cases hr : r = q
      · subst hr; simp [ho, hq]
      · simp [hr, Tab.get_set_other _ hr]

/-- R287: n cycles inside the owner's transfer count to the waits of the others and to its hold. -/
def State.inTransfer (s : State) (i : Nat) (req : List Nat) (n : Nat) : State :=
  (s.modArb i (fun x => { x with wait := (s.arb i).waited req n })).modArb i (fun x => { x with held := (s.arb i).held + n })

theorem arb_inTransfer (req : List Nat) (n : Nat) :
    (s.inTransfer i req n).arb i = { s.arb i with wait := (s.arb i).waited req n, held := (s.arb i).held + n } := by
  rw [State.inTransfer, arb_modArb_same, arb_modArb_same]

theorem arbCycles_of_free (h : (s.arb i).owner = none) (req : List Nat) (n : Nat) :
    s.arbCycles i req n = s.modArb i (fun x => { x with wait := (s.arb i).waited req n }) := by
  unfold State.arbCycles
  dsimp only
  rw [h]
  simp only [Arb.waited, h]

theorem arbCycles_of_owned {o : Nat} (h : (s.arb i).owner = some o) (req : List Nat) (n : Nat) : s.arbCycles i req n =
    if s.fld F.ARB_CFG_HOLD i o ≠ 0 ∧ s.fld F.ARB_CFG_HOLD i o < (s.arb i).held + n then
      (s.inTransfer i req n).setFld F.ARB_STATUS_CUT (s.fld F.ARB_STATUS_CUT i ||| 2 ^ o) i
    else s.inTransfer i req n := by
  unfold State.arbCycles
  dsimp only
  rw [h]
  simp only [State.inTransfer, Arb.waited, h]
  rfl

/-- R287: an owner within its hold limit keeps its place. -/
theorem arbCycles_within {o : Nat} (h : (s.arb i).owner = some o)
    (hlim : s.fld F.ARB_CFG_HOLD i o = 0 ∨ (s.arb i).held + n ≤ s.fld F.ARB_CFG_HOLD i o) (req : List Nat) :
    s.arbCycles i req n = s.inTransfer i req n := by
  rw [arbCycles_of_owned h, if_neg (by omega)]

/-- Cycles leave the owner and its arbiter's counts. -/
theorem arbCycles_owner (req : List Nat) (n : Nat) : ((s.arbCycles i req n).arb i).owner = (s.arb i).owner := by
  cases ho : (s.arb i).owner with
  | none => rw [arbCycles_of_free ho, arb_modArb_same, ho]
  | some o =>
    have hin : ((s.inTransfer i req n).arb i).owner = some o := by rw [arb_inTransfer]; exact ho
    rw [arbCycles_of_owned ho]
    split <;> exact hin

theorem cnt_setFld_status {f g : Fld} (hf : f.reg = .ARB_STATUS) (hg : g.reg = .ARB_CNT) (v w : Nat) :
    (s.setFld f v i).fld g i w = s.fld g i w := by
  refine fld_setFld_reg ?_ v
  simp only [hf, hg, regAddr, regInst, RegId.desc]
  omega

theorem arbCycles_cnt {g : Fld} (hg : g.reg = .ARB_CNT) (req : List Nat) (n w : Nat) : (s.arbCycles i req n).fld g i w = s.fld g i w := by
  cases ho : (s.arb i).owner with
  | none => rw [arbCycles_of_free ho]; rfl
  | some o =>
    rw [arbCycles_of_owned ho]
    split
    · exact cnt_setFld_status rfl hg _ w
    · rfl

theorem arbCycles_bulkHeld (req : List Nat) (n r : Nat) : (s.arbCycles i req n).bulkHeld r = s.bulkHeld r := by
  cases ho : (s.arb i).owner with
  | none => rw [arbCycles_of_free ho]; rfl
  | some o =>
    rw [arbCycles_of_owned ho]
    split <;> rfl

/-! ### The choice -/

/-- Of requesters in rising order the first with the longest wait. -/
theorem largestWait_of_longest {w : Tab Nat} {l : List Nat} {r : Nat} (hs : l.Pairwise (· < ·)) (hr : r ∈ l)
    (hmax : ∀ q ∈ l, w.get q 0 < w.get r 0 ∨ (w.get q 0 = w.get r 0 ∧ r ≤ q)) : largestWait w l = some r := by
  have hmem : ∀ (l : List Nat) (q : Nat), largestWait w l = some q → q ∈ l := by
    intro l
    induction l with
    | nil => simp [largestWait]
    | cons a l ih =>
      intro q hq
      simp only [largestWait] at hq
      split at hq
      · rename_i p hp
        split at hq
        · rw [← Option.some.inj hq]; exact List.mem_cons_of_mem _ (ih p hp)
        · rw [← Option.some.inj hq]; exact List.mem_cons_self ..
      · rw [← Option.some.inj hq]; exact List.mem_cons_self ..
  induction l with
  | nil => simp at hr
  | cons a l ih =>
    obtain ⟨ha, hs'⟩ := List.pairwise_cons.1 hs
    simp only [largestWait]
    rcases List.mem_cons.1 hr with rfl | hr'
    · split
      · rename_i q hq
        have := hmax q (List.mem_cons_of_mem _ (hmem l q hq))
        rw [if_neg (by omega)]
      · rfl
    · rw [ih hs' hr' (fun q hq => hmax q (List.mem_cons_of_mem _ hq))]
      have hlt := ha r hr'
      have := hmax a (List.mem_cons_self ..)
      dsimp only
      rw [if_pos (by omega)]

theorem le_foldl_max (f : Nat → Nat) (l : List Nat) (m : Nat) :
    m ≤ l.foldl (fun m r => max m (f r)) m ∧ ∀ r ∈ l, f r ≤ l.foldl (fun m r => max m (f r)) m := by
  induction l generalizing m with
  | nil => simp
  | cons a l ih =>
    obtain ⟨hm, hl⟩ := ih (max m (f a))
    rw [List.foldl_cons]
    refine ⟨by omega, fun r hr => ?_⟩
    rcases List.mem_cons.1 hr with rfl | hr
    · omega
    · exact hl r hr

/-- R287: the round-robin scan finds a requester of the highest priority. -/
theorem highestPrio_spec {last : Nat} {e : List Nat} (he : ∀ r ∈ e, r < 8) {w : Nat} (h : s.highestPrio i last e = some w) :
    w ∈ e ∧ ∀ r ∈ e, s.fld F.ARB_CFG_PRIO i r ≤ s.fld F.ARB_CFG_PRIO i w := by
  unfold State.highestPrio at h
  dsimp only at h
  generalize ho : ((List.range 8).map (fun k => (last + 1 + k) % 8)).filter (e.contains ·) = order at h
  have hw := List.mem_of_find?_eq_some h
  have htop := List.find?_some h
  simp only [beq_iff_eq] at htop
  refine ⟨?_, fun r hr => ?_⟩
  · rw [← ho] at hw
    simpa using (List.mem_filter.1 hw).2
  · have hr8 := he r hr
    have hin : r ∈ order := by
      rw [← ho, List.mem_filter, List.mem_map]
      refine ⟨⟨(r + 7 * (last + 1)) % 8, List.mem_range.2 (Nat.mod_lt _ (by decide)), by omega⟩, by simpa using hr⟩
    rw [htop]
    exact (le_foldl_max (fun r => s.fld F.ARB_CFG_PRIO i r) order 0).2 r hin

theorem highestPrio_nil (last : Nat) : s.highestPrio i last [] = none := by simp [State.highestPrio]

theorem highestPrio_single (s : State) (i last : Nat) {q : Nat} (hq : q < 8) : s.highestPrio i last [q] = some q := by
  have hscan : ∀ m < 8, ∀ q < 8, (((List.range 8).map (fun k => (m + 1 + k) % 8)).filter (([q] : List Nat).contains ·)) = [q] := by
    decide
  have horder : ((List.range 8).map (fun k => (last + 1 + k) % 8)).filter (([q] : List Nat).contains ·) = [q] := by
    have hmod (k : Nat) : (last + 1 + k) % 8 = (last % 8 + 1 + k) % 8 := by omega
    simp only [hmod]
    exact hscan _ (Nat.mod_lt _ (by decide)) q hq
  unfold State.highestPrio
  rw [horder]
  simp

/-- The scan looks at the working priorities alone. -/
theorem highestPrio_congr (h : t.work = s.work) (last : Nat) (e : List Nat) : t.highestPrio i last e = s.highestPrio i last e := by
  have hprio (r : Nat) : t.fld F.ARB_CFG_PRIO i r = s.fld F.ARB_CFG_PRIO i r := by
    simp only [State.fld, State.reg, show isShadowed F.ARB_CFG_PRIO.reg = true from by decide, if_true, h]
  unfold State.highestPrio
  simp only [hprio]

/-! ### The decision -/

/-- R287: the requesters that are not cut. -/
def State.arbEligible (s : State) (i : Nat) (req : List Nat) : List Nat :=
  req.filter (fun r => !(s.fld F.ARB_STATUS_CUT i).testBit r)

/-- R287: of those, the ones that have waited their limit. -/
def State.arbOverdue (s : State) (i : Nat) (req : List Nat) : List Nat :=
  (s.arbEligible i req).filter
    (fun r => s.fld F.ARB_CFG_WAIT i r != 0 && decide (s.fld F.ARB_CFG_WAIT i r ≤ (s.arb i).wait.get r 0))

theorem mem_arbOverdue {req : List Nat} {r : Nat} : r ∈ s.arbOverdue i req ↔
    r ∈ s.arbEligible i req ∧ s.fld F.ARB_CFG_WAIT i r ≠ 0 ∧ s.fld F.ARB_CFG_WAIT i r ≤ (s.arb i).wait.get r 0 := by
  simp [State.arbOverdue]

/-- R287: the owner goes at a boundary. -/
def State.ownerGoes (s : State) (i o : Nat) (req : List Nat) : Bool :=
  !req.contains o || (s.fld F.ARB_STATUS_CUT i).testBit o ||
    (s.fld F.ARB_CFG_BURST i o != 0 && decide (s.fld F.ARB_CFG_BURST i o ≤ (s.arb i).used)) || (s.arbOverdue i req).any (· != o)

/-- R287: an arbiter without an owner takes one of the requesters e, of which those of f have waited their limit. -/
def State.arbChoose (s : State) (i : Nat) (e f : List Nat) (pass : Nat → Bool) : State :=
  match largestWait (s.arb i).wait f with
  | some w => s.arbTake i w true pass
  | none => match s.highestPrio i (s.arb i).last e with
    | some w => s.arbTake i w false pass
    | none => s

theorem arbDecide_of_free (h : (s.arb i).owner = none) (req : List Nat) (pass : Nat → Bool) :
    s.arbDecide i req pass = s.arbChoose i (s.arbEligible i req) (s.arbOverdue i req) pass := by
  unfold State.arbDecide
  simp only [h, ne_eq, not_true_eq_false, if_false]
  rfl

theorem arbDecide_of_stays {o : Nat} (h : (s.arb i).owner = some o) {req : List Nat} (hgo : s.ownerGoes i o req = false)
    (pass : Nat → Bool) : s.arbDecide i req pass = s := by
  unfold State.ownerGoes State.arbOverdue State.arbEligible at hgo
  unfold State.arbDecide
  simp only [h, hgo]
  simp [h]

theorem arbDecide_of_goes (hi : i < 781) {o : Nat} (h : (s.arb i).owner = some o) {req : List Nat} (hgo : s.ownerGoes i o req = true)
    (pass : Nat → Bool) :
    s.arbDecide i req pass = (s.arbRelease i).arbChoose i (s.arbEligible i req) (s.arbOverdue i req) pass := by
  unfold State.ownerGoes State.arbOverdue State.arbEligible at hgo
  unfold State.arbDecide
  simp only [h, hgo, if_true, (arbRelease_step hi s).owner, ne_eq, not_true_eq_false, if_false]
  rfl

theorem arbChoose_overdue {e f : List Nat} {w : Nat} (h : largestWait (s.arb i).wait f = some w) (pass : Nat → Bool) :
    s.arbChoose i e f pass = s.arbTake i w true pass := by
  unfold State.arbChoose; rw [h]

theorem arbChoose_prio {e : List Nat} {w : Nat} (h : s.highestPrio i (s.arb i).last e = some w) (pass : Nat → Bool) :
    s.arbChoose i e [] pass = s.arbTake i w false pass := by
  unfold State.arbChoose
  simp only [largestWait, h]

theorem arbChoose_nil (pass : Nat → Bool) : s.arbChoose i [] [] pass = s := by
  unfold State.arbChoose
  simp only [largestWait, highestPrio_nil]

/-- R287: a requester that asks alone and is not cut is taken. -/
theorem arbDecide_single (hfree : (s.arb i).owner = none) {q : Nat} (hq : q < 8) (hcut : (s.fld F.ARB_STATUS_CUT i).testBit q = false)
    (pass : Nat → Bool) : ∃ forced, s.arbDecide i [q] pass = s.arbTake i q forced pass := by
  have he : s.arbEligible i [q] = [q] := by simp [State.arbEligible, hcut]
  have hf : s.arbOverdue i [q] = [q] ∨ s.arbOverdue i [q] = [] := by
    unfold State.arbOverdue
    rw [he, List.filter_cons]
    split
    · exact .inl rfl
    · exact .inr rfl
  rw [arbDecide_of_free hfree, he]
  rcases hf with hf | hf
  · exact ⟨true, by rw [hf]; exact arbChoose_overdue rfl pass⟩
  · exact ⟨false, by rw [hf]; exact arbChoose_prio (highestPrio_single s i _ hq) pass⟩

/-- R287: with no requester the owner goes, and nobody takes its place. -/
theorem arbDecide_of_no_request (hi : i < 781) {o : Nat} (h : (s.arb i).owner = some o) (pass : Nat → Bool) :
    s.arbDecide i [] pass = s.arbRelease i := by
  rw [arbDecide_of_goes hi h (by simp [State.ownerGoes])]
  exact arbChoose_nil pass

/-! ### A grant -/

/-- R287, R288: t is s after a grant of arbiter i to requester w. -/
structure Granted (i w : Nat) (forced : Bool) (s t : State) : Prop where
  arb : t.arb i = (s.arb i).grantedTo w
  owner : t.fld F.ARB_STATUS_OWNER i = w
  owned : t.fld F.ARB_STATUS_OWNED i = 1
  grants : t.fld F.ARB_CNT_GRANTS i w = satAdd (fldMax F.ARB_CNT_GRANTS) (s.fld F.ARB_CNT_GRANTS i w) 1
  forced : t.fld F.ARB_CNT_FORCED i w = satAdd (fldMax F.ARB_CNT_FORCED) (s.fld F.ARB_CNT_FORCED i w) (bit forced)

/-- R476: the monitors' counts leave the arbiter as it is. -/
theorem grantSeen_frame (hi : i < 781) (w : Nat) (pass : Nat → Bool) (s : State) :
    (s.grantSeen i w pass).arb i = s.arb i ∧ SameOn (Block.Holds .ARB i) s (s.grantSeen i w pass) := by
  have hlow : ∀ a, Block.Holds .ARB i a → a < 0x00180e000000 := by
    intro a ha
    simp only [Block.Holds, Block.place] at ha
    omega
  unfold State.grantSeen
  split
  · exact ⟨by rw [State.arb, (SameTraffic.pmonEvent ..).arbs]; rfl, .pmonEvent hlow ..⟩
  · exact ⟨rfl, .refl s⟩

theorem cnt_setFld_cnt {f g : Fld} (hf : f.reg = .ARB_CNT) (hg : g.reg = .ARB_CNT) (h : f.apart g = true) (v w : Nat) :
    (s.setFld f v i w).fld g i w = s.fld g i w := by
  simp only [Fld.apart, Fld.fits, RegId.apart, hf, hg, Bool.and_eq_true, Bool.or_eq_true, decide_eq_true_eq, ne_eq, not_true_eq_false,
    and_false, false_or, true_and] at h
  obtain ⟨⟨hf', hg'⟩, hd⟩ := h
  exact fld_setFld_other (hg.trans hf.symm) v i w 0 hg'.2 hd hf'.1 hg'.1

theorem status_setFld_cnt {f g : Fld} (hf : f.reg = .ARB_CNT) (hg : g.reg = .ARB_STATUS) (v w : Nat) :
    (s.setFld f v i w).fld g i = s.fld g i := by
  refine fld_setFld_reg ?_ v
  simp only [hf, hg, regAddr, regInst, RegId.desc]
  omega

theorem arbTake_granted (hi : i < 781) {w : Nat} (hw : w < 8) (forced : Bool) (pass : Nat → Bool) (s : State) :
    Granted i w forced s (s.arbTake i w forced pass) := by
  obtain ⟨harb, hsame⟩ := grantSeen_frame hi w pass s
  have hown : w ≤ fldMax F.ARB_STATUS_OWNER := Nat.le_of_lt_succ hw
  show Granted i w forced s ((((((((s.grantSeen i w pass).modArb i (·.grantedTo w)).setFld F.ARB_STATUS_OWNER w i).setFld
      F.ARB_STATUS_OWNED 1 i).count F.ARB_CNT_GRANTS i w)).count F.ARB_CNT_FORCED i w 0 (bit forced)).setFld F.ARB_CNT_MAXWAIT _ i w)
  generalize hu : (((s.grantSeen i w pass).modArb i (·.grantedTo w)).setFld F.ARB_STATUS_OWNER w i).setFld F.ARB_STATUS_OWNED 1 i = u
  have huarb : u.arb i = ((s.grantSeen i w pass).modArb i (·.grantedTo w)).arb i := by rw [← hu]; rfl
  have hucnt (g : Fld) (hg : g.reg = .ARB_CNT) : u.fld g i w = s.fld g i w := by
    rw [← hu, cnt_setFld_status rfl hg, cnt_setFld_status rfl hg]
    exact hsame.fld (hg ▸ arbCnt_holds i hw)
  have huown : u.fld F.ARB_STATUS_OWNER i = w ∧ u.fld F.ARB_STATUS_OWNED i = 1 := by
    rw [← hu]
    exact ⟨by rw [fld_setFld_apart (by decide), fld_setFld_fits (by decide) hown], fld_setFld_fits (by decide) (by decide) i 0 0⟩
  refine ⟨?_, ?_, ?_, ?_, ?_⟩
  · rw [← harb, ← arb_modArb_same i (·.grantedTo w), ← huarb]
    rfl
  · rw [status_setFld_cnt rfl rfl]
    exact ((status_setFld_cnt rfl rfl _ w).trans (status_setFld_cnt rfl rfl _ w)).trans huown.1
  · rw [status_setFld_cnt rfl rfl]
    exact ((status_setFld_cnt rfl rfl _ w).trans (status_setFld_cnt rfl rfl _ w)).trans huown.2
  · rw [cnt_setFld_cnt rfl rfl (by decide), State.count, cnt_setFld_cnt rfl rfl (by decide), fld_count_fits (by decide), hucnt _ rfl]
  · rw [cnt_setFld_cnt rfl rfl (by decide), fld_count_fits (by decide), State.count, cnt_setFld_cnt rfl rfl (by decide), hucnt _ rfl]

end Sys2Proof.Machine
end


section
/-!
SUPPORT. What the accesses of a slice's port B and of the secure bank leave alone: the arbiters with their registers (R159, R177).
-/
namespace Sys2Proof.Machine

open Sys2Proof

variable {s t : State}

/-- The addresses of the arbiters' registers (R28). -/
def arbAddr (a : Nat) : Prop := 0x001803000000 ≤ a ∧ a < 0x001804000000

/-- t has the arbiters of s and their registers. -/
structure ArbKept (s t : State) : Prop where
  on : SameOn arbAddr s t
  arbs : t.arbs = s.arbs

namespace ArbKept

theorem refl (s : State) : ArbKept s s := ⟨.refl s, rfl⟩

theorem trans {a b c : State} (h : ArbKept a b) (g : ArbKept b c) : ArbKept a c := ⟨h.on.trans g.on, g.arbs.trans h.arbs⟩

/-- Beside the registers and the arbiters anything may change. -/
theorem aside (hr : t.regs = s.regs) (hw : t.work = s.work) (hs : t.shadow = s.shadow) (ha : t.arbs = s.arbs) : ArbKept s t :=
  ⟨.of_eq hr hw hs, ha⟩

theorem setReg {r : RegId} {i j k : Nat} (h : ¬ arbAddr (regAddr r i j k)) (s : State) (v : Word) : ArbKept s (s.setReg r v i j k) :=
  ⟨.setReg h s v, rfl⟩

/-- The registers of the slices lie behind those of the arbiters. -/
theorem not_arbAddr_slc {r : RegId} (h : r.desc.blk = .SLC) (i j k : Nat) : ¬ arbAddr (regAddr r i j k) := by
  simp only [arbAddr, regAddr, h, Block.place]
  omega

theorem setSlc {f : Fld} (h : f.reg.desc.blk = .SLC) (s : State) (v n : Nat) : ArbKept s (s.setFld f v n) :=
  setReg (not_arbAddr_slc h n 0 0) s _

theorem countSlc {f : Fld} (h : f.reg.desc.blk = .SLC) (s : State) (n : Nat) : ArbKept s (s.count f n) := setSlc h s _ n

theorem logErr (s : State) (r : ErrRec) : ArbKept s (s.logErr r) := aside rfl rfl rfl rfl

theorem pmonEvent (s : State) (i evt port n : Nat) (p : Bool) : ArbKept s (s.pmonEvent i evt port n p) :=
  ⟨.pmonEvent (fun a ha => by unfold arbAddr at ha; omega) .., (SameTraffic.pmonEvent ..).arbs⟩

theorem fold {α : Type} {f : State → α → State} (h : ∀ a x, ArbKept a (f a x)) (xs : List α) (s : State) :
    ArbKept s (xs.foldl f s) := foldl_ind (P := ArbKept s) (fun a x ha => ha.trans (h a x)) xs s (.refl s)

/-! ### The background test (R168, R169) -/

theorem setRegion (s : State) (n w : Nat) (r : BitVec 320) : ArbKept s (s.setRegion n w r) := by
  obtain ⟨_, h⟩ := setRegion_changes (s := s) n w r
  rw [h]
  exact aside rfl rfl rfl rfl

theorem setBgtCode (s : State) (n c : Nat) : ArbKept s (s.setBgtCode n c) := setSlc rfl s c n

theorem bgtRestore (s : State) (n : Nat) : ArbKept s (s.bgtRestore n) := by
  unfold State.bgtRestore
  dsimp only
  split
  · exact setRegion ..
  · exact refl s

theorem bgtAdvance (s : State) (n : Nat) : ArbKept s (s.bgtAdvance n) := by
  have hcursor : ArbKept s (s.setFld F.SLC_BGT_CURSOR ((s.fld F.SLC_BGT_CURSOR n + 1) % 32768) n) := setSlc rfl s _ n
  unfold State.bgtAdvance
  dsimp only
  refine trans ?_ (setBgtCode _ n _)
  split
  · exact hcursor.trans (setSlc (f := F.SLC_BGT_PASSES) rfl _ _ n)
  · exact hcursor

theorem bgtCompare (s : State) (n w step : Nat) (x y : BitVec 320) : ArbKept s (s.bgtCompare n w step x y) := by
  unfold State.bgtCompare State.cellFault
  dsimp only
  split
  · exact refl s
  · have hcount : ArbKept s ((s.count F.SLC_CNT_CELL n).raise F.SLC_STATUS_CELL n) :=
      (countSlc (f := F.SLC_CNT_CELL) rfl s n).trans (setSlc (f := F.SLC_STATUS_CELL) rfl _ 1 n)
    exact (hcount.trans (setReg (not_arbAddr_slc (r := .SLC_CELL) rfl n 0 0) _ _)).trans (logErr ..)

theorem bgtFinish (s : State) (n : Nat) : ArbKept s (s.bgtFinish n) := by
  unfold State.bgtFinish
  dsimp only
  split
  case h_5 => exact refl s
  all_goals exact bgtCompare ..

theorem bgtYieldWords (s : State) (n first count : Nat) (a w : Bool) : ArbKept s (s.bgtYieldWords n first count a w) := by
  unfold State.bgtYieldWords State.bgtYield
  dsimp only
  split
  · split
    · exact trans (bgtFinish ..) (trans (setRegion ..) (trans (setBgtCode ..) (pmonEvent ..)))
    · exact refl s
  · split
    · split
      · refine trans (bgtRestore s n) ?_
        split
        · exact bgtAdvance ..
        · exact setBgtCode ..
      · exact refl s
    · split
      · rename_i h
        simp only [State.bgtStep, h.1]
        exact trans (bgtCompare ..) (bgtAdvance ..)
      · exact refl s

/-! ### Words of an access (R158 to R166, R176 to R178) -/

theorem setCell (s : State) (n j : Nat) (c : Code64) : ArbKept s (s.setCell n j c) := aside rfl rfl rfl rfl

theorem ckRead (s : State) (c : Code64) : ArbKept s (s.ckRead c).2 :=
  setReg (by unfold arbAddr; decide) s _

theorem noteSliceRead (s : State) (n j : Nat) (mid : MasterId) (d : Decoded64) : ArbKept s (s.noteSliceRead n j mid d) := by
  unfold State.noteSliceRead
  dsimp only
  split
  · exact (countSlc (f := F.SLC_CNT_CE) rfl s n).trans (logErr ..)
  · exact (countSlc (f := F.SLC_CNT_UE) rfl s n).trans (logErr ..)
  · exact refl s

theorem noteColl (s : State) (n : Nat) : ArbKept s (s.noteColl n) :=
  ((countSlc (f := F.SLC_CNT_COLL) rfl s n).trans (setSlc (f := F.SLC_STATUS_COLL) rfl _ 1 n)).trans (pmonEvent ..)

theorem sliceRead (s : State) (mid : MasterId) (n j : Nat) (same : Bool) : ArbKept s (s.sliceRead mid n j same).2 := by
  unfold State.sliceRead
  split
  · exact refl s
  · dsimp only
    refine trans (bgtYieldWords s n j 1 false false) ?_
    split
    · exact ckRead ..
    · exact noteSliceRead ..

theorem sliceWrite (s : State) (mid : MasterId) (n j : Nat) (v : Word) (p same : Bool) : ArbKept s (s.sliceWrite mid n j v p same).2 := by
  unfold State.sliceWrite
  split
  · exact refl s
  · dsimp only
    refine trans (bgtYieldWords s n j 1 false true) ?_
    split
    · exact refl _
    · exact aside rfl rfl rfl rfl
    · exact setCell ..

theorem sliceAtomic (s : State) (mid : MasterId) (n j : Nat) (op : AtomicOp) (v cmp : Word) (p same : Bool) :
    ArbKept s (s.sliceAtomic mid n j op v cmp p same).2 := by
  unfold State.sliceAtomic
  split
  · exact refl s
  · split
    · exact refl s
    · dsimp only
      refine trans (bgtYieldWords s n j 1 false true) ?_
      generalize decode64 _ = d
      refine trans (noteSliceRead _ n j mid d) ?_
      split
      · exact refl _
      · split
        · exact refl _
        · split
          · exact noteColl ..
          · exact aside rfl rfl rfl rfl
          · exact setCell ..

theorem countSbk {f : Fld} (hr : f.reg = .SBK_CNT) (s : State) : ArbKept s (s.count f) := by
  refine setReg ?_ s _
  rw [hr]
  unfold arbAddr
  decide

theorem noteBankRead (s : State) (j : Nat) (mid : MasterId) (d : Decoded64) : ArbKept s (s.noteBankRead j mid d) := by
  unfold State.noteBankRead
  dsimp only
  split
  · exact (countSbk (f := F.SBK_CNT_CE) rfl s).trans (logErr ..)
  · exact (countSbk (f := F.SBK_CNT_UE) rfl s).trans (logErr ..)
  · exact refl s

theorem bankRead (s : State) (mid : MasterId) (j : Nat) : ArbKept s (s.bankRead mid j).2 := by
  unfold State.bankRead
  split
  · exact refl s
  · split
    · exact ckRead ..
    · exact noteBankRead ..

theorem bankWrite (s : State) (mid : MasterId) (j : Nat) (v : Word) (p : Bool) : ArbKept s (s.bankWrite mid j v p).2 := by
  unfold State.bankWrite
  split
  · exact refl s
  · exact aside rfl rfl rfl rfl

theorem bankAtomic (s : State) (mid : MasterId) (j : Nat) (op : AtomicOp) (v cmp : Word) (p : Bool) :
    ArbKept s (s.bankAtomic mid j op v cmp p).2 := by
  unfold State.bankAtomic
  split
  · exact refl s
  · split
    · exact refl s
    · dsimp only
      refine trans (noteBankRead s j mid (decode64 (s.bankCell j))) ?_
      split
      · exact refl _
      · split
        · exact refl _
        · exact aside rfl rfl rfl rfl

/-! ### An access -/

theorem modXact (s : State) (n : Nat) (f : Xact → Xact) : ArbKept s (s.modXact n f) := by
  unfold State.modXact
  split
  · exact aside rfl rfl rfl rfl
  · exact refl s

theorem eachWord {f : State → Nat → WordReply × State} (h : ∀ a i, ArbKept a (f a i).2) (s : State) (n first count : Nat) :
    ArbKept s (s.eachWord n first count f) := fold (fun a i => (h a i).trans (modXact ..)) _ s

theorem atSlice (s : State) (n : Nat) (x : Xact) (k first count : Nat) : ArbKept s (s.atSlice n x k first count) := by
  have hseen : ArbKept s (if (s.sliceBlock k).isNone then s.pmonEvent (76 + k) 0x31 0 count else s) := by
    split
    · exact pmonEvent ..
    · exact refl s
  unfold State.atSlice
  dsimp only
  refine hseen.trans ?_
  generalize (if (s.sliceBlock k).isNone then s.pmonEvent (76 + k) 0x31 0 count else s) = b
  split
  · exact eachWord (fun a i => sliceRead ..) ..
  · have hwords := eachWord
      (fun a i => sliceWrite a x.mid k ((x.addr + 8 * i) % 0x100000 / 8) (x.par i).1 (x.par i).2 x.same) b n first count
    split
    · split
      · exact hwords.trans (noteColl ..)
      · exact hwords
    · exact hwords
  · exact eachWord (fun a i => sliceAtomic ..) ..
  · exact refl _

theorem atBank (s : State) (n : Nat) (x : Xact) (first count : Nat) : ArbKept s (s.atBank n x first count) := by
  unfold State.atBank
  dsimp only
  split
  · exact refl s
  · split
    · exact (countSbk (f := F.SBK_CNT_DENY) rfl s).trans (modXact ..)
    · split
      · exact eachWord (fun a i => bankRead ..) ..
      · exact eachWord (fun a i => bankWrite ..) ..
      · exact eachWord (fun a i => bankAtomic ..) ..
      · exact refl s

theorem serveAccess (s : State) (n : Nat) (x : Xact) (g : Region) (first count : Nat) : ArbKept s (s.serveAccess n x g first count) := by
  unfold State.serveAccess
  split
  · exact atSlice ..
  · exact atBank ..
  · exact refl s

end ArbKept

/-! ### An access that waits alone (R159, R177, R287) -/

section
variable {i : Nat} {w : ArbWait}

theorem portReq_of_single (h : (s.arb i).wq = [w]) (hw : w.req < 8) : s.portReq i = [w.req] := by
  have hone : ∀ q < 8, (List.range 8).filter (fun r => q == r) = [q] := by decide
  simp only [State.portReq, h, List.any_cons, List.any_nil, Bool.or_false]
  exact hone _ hw

theorem arbAddr_cnt (hi : i < 781) {k : Nat} (hk : k < 8) : arbAddr (regAddr .ARB_CNT i k) := by
  simp only [arbAddr, regAddr, regInst, RegId.desc, Block.place]
  omega

/-- R287: performing the owner's access empties the queue, and the owner has its place still; the counts of grants stay. -/
theorem arbServe_single (hi : i < 781) (hwq : (s.arb i).wq = [w]) {g : Fld} (hg : g.reg = .ARB_CNT) {k : Nat} (hk : k < 8) :
    ((s.arbServe i w.req).arb i).wq = [] ∧ ((s.arbServe i w.req).arb i).owner = (s.arb i).owner ∧
      (s.arbServe i w.req).fld g i k = s.fld g i k := by
  have hfind : (s.arb i).wq.find? (fun v => v.req == w.req) = some w := by simp [hwq]
  have htaken : ((s.granted i w).arb i).wq = [] ∧ ((s.granted i w).arb i).owner = (s.arb i).owner := by
    rw [State.granted, arb_modArb_same]
    exact ⟨by simp [hwq], rfl⟩
  have hcnt : (s.granted i w).fld g i k = s.fld g i k := rfl
  unfold State.arbServe
  rw [hfind]
  dsimp only
  rw [← State.granted]
  generalize s.granted i w = a at htaken hcnt
  split
  · exact ⟨htaken.1, htaken.2, hcnt⟩
  · rename_i x _
    split
    · exact ⟨htaken.1, htaken.2, hcnt⟩
    · rename_i q _
      have hserved := (ArbKept.serveAccess a w.xid x q w.first w.count).trans (.modXact _ w.xid (fun y => { y with left := y.left - 1 }))
      generalize (a.serveAccess w.xid x q w.first w.count).modXact w.xid (fun y => { y with left := y.left - 1 }) = b at hserved
      have harb : b.arb i = a.arb i := by rw [State.arb, hserved.arbs]; rfl
      have hbcnt : b.fld g i k = a.fld g i k := hserved.on.fld (hg ▸ arbAddr_cnt hi hk)
      rw [arb_modArb_same]
      refine ⟨?_, ?_, ?_⟩
      · exact (arbCycles_step hi _ _ b).2.2.trans (by rw [harb, htaken.1])
      · exact (arbCycles_owner _ _).trans (by rw [harb, htaken.2])
      · exact (arbCycles_cnt hg _ _ k).trans (hbcnt.trans hcnt)

/-- R159, R177, R287: the access is granted and performed, the grant is counted, and the arbiter is free behind it. -/
theorem arbDrain_single (hi : i < 781) (hwq : (s.arb i).wq = [w]) (hfree : (s.arb i).owner = none) (hw : w.req < 8)
    (hcut : (s.fld F.ARB_STATUS_CUT i).testBit w.req = false) (n : Nat) :
    ((s.arbDrain i (n + 2)).arb i).wq = [] ∧ ((s.arbDrain i (n + 2)).arb i).owner = none ∧
      (s.arbDrain i (n + 2)).fld F.ARB_CNT_GRANTS i w.req =
        satAdd (fldMax F.ARB_CNT_GRANTS) (s.fld F.ARB_CNT_GRANTS i w.req) 1 := by
  obtain ⟨forced, htake⟩ := arbDecide_single hfree hw hcut (s.arbPasses i)
  have hgrant := arbTake_granted hi hw forced (s.arbPasses i) s
  have hown : ((s.arbTake i w.req forced (s.arbPasses i)).arb i).owner = some w.req := by rw [hgrant.arb]; rfl
  have hq : ((s.arbTake i w.req forced (s.arbPasses i)).arb i).wq = [w] := by rw [hgrant.arb]; exact hwq
  obtain ⟨hempty, howner, hcnt⟩ := arbServe_single hi hq (g := F.ARB_CNT_GRANTS) rfl hw
  rw [hown] at howner
  have hrelease := arbRelease_step hi ((s.arbTake i w.req forced (s.arbPasses i)).arbServe i w.req)
  have hdrain : s.arbDrain i (n + 2) = ((s.arbTake i w.req forced (s.arbPasses i)).arbServe i w.req).arbRelease i := by
    simp only [State.arbDrain, portReq_of_single hwq hw, htake, hown, portReq_of_empty hempty,
      arbDecide_of_no_request hi howner, hrelease.owner]
  rw [hdrain]
  exact ⟨hrelease.wq.trans hempty, hrelease.owner, (cnt_setFld_status rfl rfl 0 _).trans (hcnt.trans hgrant.grants)⟩

end

end Sys2Proof.Machine
end


section
/-!
SUPPORT. ARB_GRANT and ARB_HOLD_CUT (R287, R300, R311) by the kind of arbiter: a router's, a DRAM channel's, and those of a slice and of
the secure bank.
-/
namespace Sys2Proof.Machine

open Sys2Proof

variable {s t : State} {i : Nat}

/-! ### An arbiter of a router -/

/-- The owner's transfer has moved some units. -/
def State.unitsUsed (s : State) (i u : Nat) : State :=
  s.modArb i (fun x => { x with used := x.used + (if x.owner = none then 0 else u) })

/-- A router's arbiter at a boundary: the owner's units and n cycles have been counted. -/
def State.atBoundary (s : State) (i : Nat) (rs : List Nat) (n units : Nat) : State := (s.unitsUsed i units).arbCycles i rs n

theorem arbRequests_router (h : i < 512) (req : Byte) : s.arbRequests i req = arbMask i req := if_pos h

theorem arbRequests_dram (h : 768 ≤ i ∧ i < 780) (req : Byte) : s.arbRequests i req = s.dramReq (i - 768) := by
  rw [State.arbRequests, if_neg (by omega), if_pos h]

theorem arbRequests_port (h : 512 ≤ i) (h' : i < 768 ∨ i = 780) (req : Byte) : s.arbRequests i req = s.portReq i := by
  rw [State.arbRequests, if_neg (by omega), if_neg (by omega)]

theorem arbGrant_router (hlt : i < 512) (hex : arbExists i = true) (hheld : s.bulkHeld (i / 8) = false) (req : Byte) (n units more : Nat)
    (pass : Bool) : s.arbGrant i req n units more pass =
      ((s.atBoundary i (arbMask i req) n units).arbDecide i (arbMask i req) (fun _ => pass)).unitsUsed i more := by
  have hcycles : (s.atBoundary i (arbMask i req) n units).bulkHeld (i / 8) = false := (arbCycles_bulkHeld ..).trans hheld
  unfold State.arbGrant
  rw [if_neg (by simp [hex]), arbRequests_router hlt]
  dsimp only
  rw [if_pos hlt]
  exact if_neg (by rw [← State.unitsUsed, ← State.atBoundary, hcycles]; decide)

theorem arbMask_sorted (i : Nat) (req : Byte) : (arbMask i req).Pairwise (· < ·) := List.pairwise_lt_range.filter _

theorem lt_of_mem_arbMask {req : Byte} {r : Nat} (h : r ∈ arbMask i req) : r < 8 := List.mem_range.1 (List.mem_filter.1 h).1

theorem mem_of_mem_arbEligible {rs : List Nat} {r : Nat} (h : r ∈ s.arbEligible i rs) : r ∈ rs := (List.mem_filter.1 h).1

/-- R287, R288: what a grant to requester w leaves of arbiter i: the owner, its fresh waits and hold, and the counts. -/
def State.GrantTo (s : State) (i w : Nat) (forced : Bool) (t : State) : Prop :=
  (t.arb i).owner = some w ∧ (t.arb i).last = w ∧ (t.arb i).held = 0 ∧ (t.arb i).wait.get w 0 = 0 ∧
  t.fld F.ARB_STATUS_OWNER i = w ∧ t.fld F.ARB_STATUS_OWNED i = 1 ∧
  t.fld F.ARB_CNT_GRANTS i w = satAdd (fldMax F.ARB_CNT_GRANTS) (s.fld F.ARB_CNT_GRANTS i w) 1 ∧
  t.fld F.ARB_CNT_FORCED i w = satAdd (fldMax F.ARB_CNT_FORCED) (s.fld F.ARB_CNT_FORCED i w) (bit forced)

/-- A grant from a state with the counts of s, behind which the new owner's units count. -/
theorem Granted.unitsUsed {a : State} {w : Nat} {forced : Bool} (h : Granted i w forced a t)
    (hcnt : ∀ g : Fld, g.reg = .ARB_CNT → a.fld g i w = s.fld g i w) (more : Nat) : s.GrantTo i w forced (t.unitsUsed i more) := by
  unfold State.GrantTo
  rw [State.unitsUsed, arb_modArb_same, h.arb]
  exact ⟨rfl, rfl, rfl, Tab.get_set_same .., h.owner, h.owned, h.grants.trans (by rw [hcnt _ rfl]), h.forced.trans (by rw [hcnt _ rfl])⟩

section
variable {req : Byte} {n units : Nat}

theorem arb_unitsUsed_free (h : (s.arb i).owner = none) : (s.unitsUsed i units).arb i = s.arb i := by
  rw [State.unitsUsed, arb_modArb_same, if_pos h]
  rfl

theorem arb_unitsUsed_owned {o : Nat} (h : (s.arb i).owner = some o) :
    (s.unitsUsed i units).arb i = { s.arb i with used := (s.arb i).used + units } := by
  rw [State.unitsUsed, arb_modArb_same, if_neg (by simp [h])]

/-- What stands at an arbiter without an owner behind n cycles. -/
theorem arb_atBoundary_free (h : (s.arb i).owner = none) (rs : List Nat) :
    (s.atBoundary i rs n units).arb i = { s.arb i with wait := (s.arb i).waited rs n } := by
  have harb := arb_unitsUsed_free h (units := units)
  rw [State.atBoundary, arbCycles_of_free (by rw [harb]; exact h), arb_modArb_same, harb]

/-- What stands there behind n cycles of an owner within its hold limit. -/
theorem arb_atBoundary_owned {o : Nat} (h : (s.arb i).owner = some o) (hhold : s.fld F.ARB_CFG_HOLD i o = 0) (rs : List Nat) :
    (s.atBoundary i rs n units).arb i =
      { s.arb i with used := (s.arb i).used + units, wait := (s.arb i).waited rs n, held := (s.arb i).held + n } := by
  have harb := arb_unitsUsed_owned h (units := units)
  have hcycles := arbCycles_within (s := s.unitsUsed i units) (n := n) (by rw [harb]; exact h) (.inl hhold) rs
  rw [State.atBoundary, hcycles, arb_inTransfer, harb]
  rfl

/-- Where no owner has a hold limit, the cycles change the arbiters alone. -/
theorem atBoundary_changes (h : ∀ o, (s.arb i).owner = some o → s.fld F.ARB_CFG_HOLD i o = 0) (rs : List Nat) :
    ∃ x, s.atBoundary i rs n units = { s with arbs := x } := by
  cases ho : (s.arb i).owner with
  | none => exact ⟨_, arbCycles_of_free (by rw [arb_unitsUsed_free ho]; exact ho) rs n⟩
  | some o => exact ⟨_, arbCycles_within (s := s.unitsUsed i units) (by rw [arb_unitsUsed_owned ho]; exact ho) (.inl (h o ho)) rs⟩

section
variable (h : ∀ o, (s.arb i).owner = some o → s.fld F.ARB_CFG_HOLD i o = 0)
include h

theorem atBoundary_fld (rs : List Nat) (f : Fld) (j k l : Nat) : (s.atBoundary i rs n units).fld f j k l = s.fld f j k l := by
  obtain ⟨x, hx⟩ := atBoundary_changes h rs
  rw [hx]
  rfl

theorem atBoundary_work (rs : List Nat) : (s.atBoundary i rs n units).work = s.work := by
  obtain ⟨x, hx⟩ := atBoundary_changes h rs
  rw [hx]

theorem arbEligible_atBoundary (rs : List Nat) : (s.atBoundary i rs n units).arbEligible i rs = s.arbEligible i rs := by
  unfold State.arbEligible
  rw [atBoundary_fld h]

end

/-- An arbiter without an owner has none with a hold limit. -/
theorem unlimited_of_free (h : (s.arb i).owner = none) (o : Nat) (ho : (s.arb i).owner = some o) : s.fld F.ARB_CFG_HOLD i o = 0 := by
  simp [h] at ho

theorem unlimited_of_owned {o : Nat} (h : (s.arb i).owner = some o) (hhold : s.fld F.ARB_CFG_HOLD i o = 0) (p : Nat)
    (hp : (s.arb i).owner = some p) : s.fld F.ARB_CFG_HOLD i p = 0 := by
  rw [← Option.some.inj (h.symm.trans hp)]
  exact hhold

/-- R287: a requester is overdue if its wait with the past n cycles has reached its limit. -/
theorem mem_overdue_free (h : (s.arb i).owner = none) {r : Nat} :
    r ∈ (s.atBoundary i (arbMask i req) n units).arbOverdue i (arbMask i req) ↔ r ∈ s.arbEligible i (arbMask i req) ∧
      s.fld F.ARB_CFG_WAIT i r ≠ 0 ∧ s.fld F.ARB_CFG_WAIT i r ≤ (s.arb i).wait.get r 0 + n := by
  have hnone := unlimited_of_free h
  rw [mem_arbOverdue, arbEligible_atBoundary hnone, atBoundary_fld hnone, arb_atBoundary_free h]
  refine and_congr_right (fun hr => ?_)
  have hwait := waited_get (s.arb i) (arbMask_sorted i req).nodup n r
  rw [if_pos ⟨mem_of_mem_arbEligible hr, by simp [h]⟩] at hwait
  rw [hwait]

/-- R287: behind n cycles an arbiter without an owner chooses among the requesters that are not cut. -/
theorem arbGrant_free (hlt : i < 512) (hex : arbExists i = true) (hheld : s.bulkHeld (i / 8) = false) (h : (s.arb i).owner = none)
    (more : Nat) (pass : Bool) : s.arbGrant i req n units more pass =
      ((s.atBoundary i (arbMask i req) n units).arbChoose i (s.arbEligible i (arbMask i req))
        ((s.atBoundary i (arbMask i req) n units).arbOverdue i (arbMask i req)) (fun _ => pass)).unitsUsed i more := by
  have hfree : ((s.atBoundary i (arbMask i req) n units).arb i).owner = none := by rw [arb_atBoundary_free h]; exact h
  rw [arbGrant_router hlt hex hheld, arbDecide_of_free hfree, arbEligible_atBoundary (unlimited_of_free h)]

/-- A grant at a router without an owner counts from the counts of s. -/
theorem grantTo_atBoundary_free (hi : i < 781) (h : (s.arb i).owner = none) {rs : List Nat} {w : Nat} (hw : w < 8) (forced : Bool)
    (pass : Nat → Bool) (more : Nat) : s.GrantTo i w forced (((s.atBoundary i rs n units).arbTake i w forced pass).unitsUsed i more) := by
  exact (arbTake_granted hi hw forced pass _).unitsUsed (fun g _ => atBoundary_fld (unlimited_of_free h) ..) more

variable {more : Nat} {pass : Bool} (hlt : i < 512) (hex : arbExists i = true) (hheld : s.bulkHeld (i / 8) = false)
include hlt hex hheld

/-- R287: of the requesters that have waited their limit the one with the longest wait is granted, the lowest on ties. -/
theorem arbGrant_overdue (h : (s.arb i).owner = none) {r : Nat} (hr : r ∈ s.arbEligible i (arbMask i req))
    (hdue : s.fld F.ARB_CFG_WAIT i r ≠ 0 ∧ s.fld F.ARB_CFG_WAIT i r ≤ (s.arb i).wait.get r 0 + n)
    (hmax : ∀ q ∈ s.arbEligible i (arbMask i req),
      s.fld F.ARB_CFG_WAIT i q ≠ 0 ∧ s.fld F.ARB_CFG_WAIT i q ≤ (s.arb i).wait.get q 0 + n →
      (s.arb i).wait.get q 0 < (s.arb i).wait.get r 0 ∨ ((s.arb i).wait.get q 0 = (s.arb i).wait.get r 0 ∧ r ≤ q)) :
    s.GrantTo i r true (s.arbGrant i req n units more pass) := by
  have hwait (q : Nat) (hq : q ∈ s.arbEligible i (arbMask i req)) :
      ((s.arb i).waited (arbMask i req) n).get q 0 = (s.arb i).wait.get q 0 + n := by
    rw [waited_get _ (arbMask_sorted i req).nodup, if_pos ⟨mem_of_mem_arbEligible hq, by simp [h]⟩]
  have hlongest : largestWait ((s.atBoundary i (arbMask i req) n units).arb i).wait
      ((s.atBoundary i (arbMask i req) n units).arbOverdue i (arbMask i req)) = some r := by
    refine largestWait_of_longest (((arbMask_sorted i req).filter _).filter _) ((mem_overdue_free h).2 ⟨hr, hdue⟩) (fun q hq => ?_)
    obtain ⟨hqe, hqdue⟩ := (mem_overdue_free h).1 hq
    rw [arb_atBoundary_free h, hwait q hqe, hwait r hr]
    have := hmax q hqe hqdue
    omega
  rw [arbGrant_free hlt hex hheld h, arbChoose_overdue hlongest]
  exact grantTo_atBoundary_free (by omega) h (lt_of_mem_arbMask (mem_of_mem_arbEligible hr)) true _ more

/-- R287: with nobody overdue the first requester of the highest priority is granted. -/
theorem arbGrant_prio (h : (s.arb i).owner = none) (hnone : ∀ r ∈ s.arbEligible i (arbMask i req),
      ¬ (s.fld F.ARB_CFG_WAIT i r ≠ 0 ∧ s.fld F.ARB_CFG_WAIT i r ≤ (s.arb i).wait.get r 0 + n)) {w : Nat}
    (hw : s.highestPrio i (s.arb i).last (s.arbEligible i (arbMask i req)) = some w) :
    s.GrantTo i w false (s.arbGrant i req n units more pass) := by
  have hf : (s.atBoundary i (arbMask i req) n units).arbOverdue i (arbMask i req) = [] := by
    refine List.eq_nil_iff_forall_not_mem.2 (fun r hr => ?_)
    obtain ⟨hre, hdue⟩ := (mem_overdue_free h).1 hr
    exact hnone r hre hdue
  have hprio : (s.atBoundary i (arbMask i req) n units).highestPrio i ((s.atBoundary i (arbMask i req) n units).arb i).last
      (s.arbEligible i (arbMask i req)) = some w := by
    rw [arb_atBoundary_free h, highestPrio_congr (atBoundary_work (unlimited_of_free h) _)]
    exact hw
  have hmem := (highestPrio_spec (fun r hr => lt_of_mem_arbMask (mem_of_mem_arbEligible hr)) hw).1
  rw [arbGrant_free hlt hex hheld h, hf, arbChoose_prio hprio]
  exact grantTo_atBoundary_free (by omega) h (lt_of_mem_arbMask (mem_of_mem_arbEligible hmem)) false _ more

theorem arbGrant_no_request (h : (s.arb i).owner = none) (he : s.arbEligible i (arbMask i req) = []) :
    ((s.arbGrant i req n units more pass).arb i).owner = none := by
  have hf : (s.atBoundary i (arbMask i req) n units).arbOverdue i (arbMask i req) = [] := by
    rw [State.arbOverdue, arbEligible_atBoundary (unlimited_of_free h), he, List.filter_nil]
  rw [arbGrant_free hlt hex hheld h, he, hf, arbChoose_nil, State.unitsUsed, arb_modArb_same, arb_atBoundary_free h]
  exact h

/-! An owner without a hold limit, beside which no requester has a wait limit. -/

omit hlt hex hheld

/-- Nobody but the owner can be overdue, and the owner only by a wait that it has had before. -/
theorem mem_overdue_owned {o : Nat} (h : (s.arb i).owner = some o) (hhold : s.fld F.ARB_CFG_HOLD i o = 0)
    (hothers : ∀ r ∈ s.arbEligible i (arbMask i req), r ≠ o → s.fld F.ARB_CFG_WAIT i r = 0) {r : Nat}
    (hr : r ∈ (s.atBoundary i (arbMask i req) n units).arbOverdue i (arbMask i req)) :
    r = o ∧ s.fld F.ARB_CFG_WAIT i o ≠ 0 ∧ s.fld F.ARB_CFG_WAIT i o ≤ (s.arb i).wait.get o 0 := by
  obtain ⟨hre, hlimit, hwait⟩ := mem_arbOverdue.1 hr
  have hnone := unlimited_of_owned h hhold
  rw [arbEligible_atBoundary hnone] at hre
  rw [atBoundary_fld hnone] at hlimit hwait
  rw [arb_atBoundary_owned h hhold] at hwait
  have hro : r = o := by
    by_contra hne
    exact hlimit (hothers r hre hne)
  subst hro
  rw [waited_get _ (arbMask_sorted i req).nodup, if_neg (by simp [h])] at hwait
  exact ⟨rfl, hlimit, hwait⟩

include hlt hex hheld

/-- R287: below its burst limit the owner keeps its place. -/
theorem arbGrant_keeps {o : Nat} (h : (s.arb i).owner = some o) (ho : o ∈ s.arbEligible i (arbMask i req))
    (hhold : s.fld F.ARB_CFG_HOLD i o = 0) (hothers : ∀ r ∈ s.arbEligible i (arbMask i req), r ≠ o → s.fld F.ARB_CFG_WAIT i r = 0)
    (hb : s.fld F.ARB_CFG_BURST i o = 0 ∨ (s.arb i).used + units < s.fld F.ARB_CFG_BURST i o) :
    (s.arbGrant i req n units more pass).arb i = { s.arb i with
      used := (s.arb i).used + units + more, wait := (s.arb i).waited (arbMask i req) n, held := (s.arb i).held + n } := by
  have harb := arb_atBoundary_owned h hhold (n := n) (units := units) (arbMask i req)
  have hnone := unlimited_of_owned h hhold
  have hstays : (s.atBoundary i (arbMask i req) n units).ownerGoes i o (arbMask i req) = false := by
    have hcut : (s.fld F.ARB_STATUS_CUT i).testBit o = false := by simpa using (List.mem_filter.1 ho).2
    have hany : ((s.atBoundary i (arbMask i req) n units).arbOverdue i (arbMask i req)).any (· != o) = false := by
      rw [List.any_eq_false]
      intro r hr
      simp [(mem_overdue_owned h hhold hothers hr).1]
    have hin : (arbMask i req).contains o = true := by simpa using mem_of_mem_arbEligible ho
    unfold State.ownerGoes
    rw [hany, harb, atBoundary_fld hnone, atBoundary_fld hnone, hin, hcut]
    simp only [Bool.not_true, Bool.false_or, Bool.or_false, Bool.and_eq_false_iff, bne_eq_false_iff_eq, decide_eq_false_iff_not]
    omega
  have hown : ((s.atBoundary i (arbMask i req) n units).arb i).owner = some o := by rw [harb]; exact h
  rw [arbGrant_router hlt hex hheld, arbDecide_of_stays hown hstays, arb_unitsUsed_owned hown, harb]

/-- R287: at its burst limit the owner goes, and the first requester of the highest priority is granted. -/
theorem arbGrant_burst {o : Nat} (h : (s.arb i).owner = some o)
    (hhold : s.fld F.ARB_CFG_HOLD i o = 0) (hothers : ∀ r ∈ s.arbEligible i (arbMask i req), r ≠ o → s.fld F.ARB_CFG_WAIT i r = 0)
    (hb : s.fld F.ARB_CFG_BURST i o ≠ 0) (hlimit : s.fld F.ARB_CFG_BURST i o ≤ (s.arb i).used + units)
    (hnot : ¬ (s.fld F.ARB_CFG_WAIT i o ≠ 0 ∧ s.fld F.ARB_CFG_WAIT i o ≤ (s.arb i).wait.get o 0 + n)) {w : Nat}
    (hw : s.highestPrio i (s.arb i).last (s.arbEligible i (arbMask i req)) = some w) :
    s.GrantTo i w false (s.arbGrant i req n units more pass) := by
  have hi : i < 781 := by omega
  have harb := arb_atBoundary_owned h hhold (n := n) (units := units) (arbMask i req)
  have hnone := unlimited_of_owned h hhold
  have hf : (s.atBoundary i (arbMask i req) n units).arbOverdue i (arbMask i req) = [] := by
    refine List.eq_nil_iff_forall_not_mem.2 (fun r hr => ?_)
    obtain ⟨-, hzero, hwait⟩ := mem_overdue_owned h hhold hothers hr
    exact hnot ⟨hzero, by omega⟩
  have hgo : (s.atBoundary i (arbMask i req) n units).ownerGoes i o (arbMask i req) = true := by
    unfold State.ownerGoes
    rw [atBoundary_fld hnone _ F.ARB_CFG_BURST, harb]
    simp [hb, hlimit]
  have hown : ((s.atBoundary i (arbMask i req) n units).arb i).owner = some o := by rw [harb]; exact h
  have hlast : (((s.atBoundary i (arbMask i req) n units).arbRelease i).arb i).last = (s.arb i).last := by
    show (((s.atBoundary i (arbMask i req) n units).modArb i (fun x => { x with owner := none })).arb i).last = _
    rw [arb_modArb_same, harb]
  have hwork : ((s.atBoundary i (arbMask i req) n units).arbRelease i).work = s.work := by
    rw [(arbRelease_step hi _).net.rest]
    exact atBoundary_work hnone _
  have hmem := (highestPrio_spec (fun r hr => lt_of_mem_arbMask (mem_of_mem_arbEligible hr)) hw).1
  have hprio : ((s.atBoundary i (arbMask i req) n units).arbRelease i).highestPrio i
      (((s.atBoundary i (arbMask i req) n units).arbRelease i).arb i).last (s.arbEligible i (arbMask i req)) = some w := by
    rw [hlast, highestPrio_congr hwork]
    exact hw
  rw [arbGrant_router hlt hex hheld, arbDecide_of_goes hi hown hgo, arbEligible_atBoundary hnone, hf, arbChoose_prio hprio]
  refine (arbTake_granted hi (lt_of_mem_arbMask (mem_of_mem_arbEligible hmem)) false _ _).unitsUsed (fun g hg => ?_) more
  exact (cnt_setFld_status (f := F.ARB_STATUS_OWNED) rfl hg 0 w).trans (atBoundary_fld hnone _ g i w 0)

end

/-! ### The arbiters of slices and of the secure bank -/

theorem arbGrant_port {w : ArbWait} (hslice : 512 ≤ i) (hport : i < 768 ∨ i = 780) (hwq : (s.arb i).wq = [w])
    (hfree : (s.arb i).owner = none) (hw : w.req < 8) (hcut : (s.fld F.ARB_STATUS_CUT i).testBit w.req = false) (req : Byte)
    (n units more : Nat) (pass : Bool) :
    ((s.arbGrant i req n units more pass).arb i).wq = [] ∧ ((s.arbGrant i req n units more pass).arb i).owner = none ∧
      (s.arbGrant i req n units more pass).fld F.ARB_CNT_GRANTS i w.req =
        satAdd (fldMax F.ARB_CNT_GRANTS) (s.fld F.ARB_CNT_GRANTS i w.req) 1 := by
  have hex : arbExists i = true := by simp only [arbExists, if_neg (Nat.not_lt.2 hslice), decide_eq_true_eq]; omega
  have hgrant : s.arbGrant i req n units more pass = (s.modArb i (fun x => { x with wait := (s.arb i).waited [w.req] n })).arbDrain i 3 := by
    unfold State.arbGrant
    rw [if_neg (by simp [hex]), arbRequests_port hslice hport, portReq_of_single hwq hw]
    dsimp only
    rw [if_neg (by omega), if_neg (by omega), arbCycles_of_free hfree, hwq]
    rfl
  rw [hgrant]
  exact arbDrain_single (s := s.modArb i (fun x => { x with wait := (s.arb i).waited [w.req] n })) (by omega)
    (by rw [arb_modArb_same]; exact hwq) (by rw [arb_modArb_same]; exact hfree) hw hcut 1

/-! ### The front end of a DRAM channel (R300, R311) -/

section
variable {k : Nat}

theorem foldl_sched {α : Type} {f : Dmc × α → LineReq → Dmc × α} (h : ∀ a q, (f a q).1.sched = a.1.sched) (qs : List LineReq)
    (a : Dmc × α) : (qs.foldl f a).1.sched = a.1.sched := by
  induction qs generalizing a with
  | nil => rfl
  | cons q qs ih => exact (ih (f a q)).trans (h a q)

theorem moveThrottled_sched (c : Dmc) : c.moveThrottled.sched = c.sched := by
  unfold Dmc.moveThrottled
  refine foldl_sched (fun a q => ?_) c.inq ({ c with inq := [] }, [])
  split
  · split <;> rfl
  · rfl

theorem fill_sched (c : Dmc) : c.fill.sched = c.sched := by
  unfold Dmc.fill
  refine foldl_sched (fun a q => ?_) c.wait ({ c with wait := [] }, [])
  split
  · rfl
  · split <;> rfl

/-- R300: the access that a requester offers enters the scheduler queue, where it has room. -/
theorem dramAdmit_of_ready {o : Nat} {q : LineReq} (hready : s.dmcState k = dmcReady) (hoffer : (s.dmc k).offer o = some q)
    (hroom : (s.dmc k).sched.length < 64) :
    ∃ t, s.dramAdmit k o = some t ∧ (t.dmc k).sched = (s.dmc k).sched ++ [q] ∧ t.arbs = s.arbs ∧ t.regs = s.regs := by
  unfold State.dramAdmit
  dsimp only
  rw [if_neg (by simp [hready]), hoffer]
  dsimp only
  rw [if_pos hroom]
  refine ⟨_, rfl, ?_, rfl, rfl⟩
  simp only [State.dramQueues, State.dmc, State.modDmc, Tab.get_set_same, moveThrottled_sched, fill_sched]

theorem arbGrant_dram {o : Nat} (hk : k < 12) (hi : i = 768 + k) (hfree : (s.arb i).owner = none) (hreq : s.dramReq k = [o]) (req : Byte)
    (n units more : Nat) (pass : Bool) :
    let a := s.modArb i (fun x => { x with wait := (s.arb i).waited [o] n })
    s.arbGrant i req n units more pass = if s.dmcState k = dmcTransition then a else
      let t := a.arbDecide i [o] (fun _ => pass)
      match (t.arb i).owner with
      | some r => match t.dramAdmit k r with
        | some u => u.modArb i (fun x => { x with used := x.used + 1 })
        | none => t
      | none => t := by
  intro a
  have hex : arbExists i = true := by simp only [arbExists, if_neg (show ¬ i < 512 by omega), decide_eq_true_eq]; omega
  have hsub : i - 768 = k := by omega
  unfold State.arbGrant
  rw [if_neg (by simp [hex]), arbRequests_dram (by omega), hsub, hreq]
  dsimp only
  rw [if_neg (by omega), if_pos (by omega), arbCycles_of_free hfree]
  rfl

variable {o : Nat} (hk : k < 12) (hi : i = 768 + k) (hfree : (s.arb i).owner = none) (hreq : s.dramReq k = [o])
include hk hi hfree hreq

theorem arbGrant_transition (h : s.dmcState k = dmcTransition) (req : Byte) (n units more : Nat) (pass : Bool) :
    ((s.arbGrant i req n units more pass).arb i).owner = none ∧ (s.arbGrant i req n units more pass).dmcs = s.dmcs ∧
      (s.arbGrant i req n units more pass).regs = s.regs := by
  rw [arbGrant_dram hk hi hfree hreq]
  dsimp only
  rw [if_pos h, arb_modArb_same]
  exact ⟨hfree, rfl, rfl⟩

theorem arbGrant_admits (hcut : (s.fld F.ARB_STATUS_CUT i).testBit o = false) {q : LineReq} (hoffer : (s.dmc k).offer o = some q)
    (hready : s.dmcState k = dmcReady) (hroom : (s.dmc k).sched.length < 64) (req : Byte) (n units more : Nat) (pass : Bool) :
    ((s.arbGrant i req n units more pass).arb i).owner = some o ∧ ((s.arbGrant i req n units more pass).arb i).used = 1 ∧
      ((s.arbGrant i req n units more pass).dmc k).sched = (s.dmc k).sched ++ [q] ∧
      (s.arbGrant i req n units more pass).fld F.ARB_CNT_GRANTS i o =
        satAdd (fldMax F.ARB_CNT_GRANTS) (s.fld F.ARB_CNT_GRANTS i o) 1 := by
  have hi781 : i < 781 := by omega
  have ho : o < 8 := by
    have hmem : o ∈ s.dramReq k := by rw [hreq]; exact List.mem_singleton_self o
    have := List.mem_range.1 (List.mem_filter.1 hmem).1
    omega
  have hnot : ¬ s.dmcState k = dmcTransition := by rw [hready]; decide
  rw [arbGrant_dram hk hi hfree hreq]
  dsimp only
  rw [if_neg hnot]
  have hfree' : ((s.modArb i (fun x => { x with wait := (s.arb i).waited [o] n })).arb i).owner = none := by rw [arb_modArb_same]; exact hfree
  obtain ⟨forced, htake⟩ := arbDecide_single hfree' ho hcut (fun _ => pass)
  have hgrant := arbTake_granted hi781 ho forced (fun _ => pass) (s.modArb i (fun x => { x with wait := (s.arb i).waited [o] n }))
  have hnet := (arbTake_step hi781 ho forced (fun _ => pass) (s.modArb i (fun x => { x with wait := (s.arb i).waited [o] n }))).net
  rw [htake]
  generalize (s.modArb i (fun x => { x with wait := (s.arb i).waited [o] n })).arbTake i o forced (fun _ => pass) = t at hgrant hnet
  have hown : (t.arb i).owner = some o := by rw [hgrant.arb]; rfl
  have hdmcs : t.dmc k = s.dmc k := by rw [State.dmc, hnet.rest]; rfl
  have hstate : t.dmcState k = dmcReady := by
    have haddr : ¬ netAddr (regAddr .DMC_STATUS k) := by
      simp only [netAddr, regAddr, regInst, RegId.desc, Block.place]
      omega
    exact (hnet.fld (f := F.DMC_STATUS_STATE) haddr).trans hready
  obtain ⟨u, hadmit, hsched, harbs, hregs⟩ := dramAdmit_of_ready hstate (hdmcs ▸ hoffer) (hdmcs ▸ hroom)
  have huarb : u.arb i = t.arb i := by rw [State.arb, harbs]; rfl
  rw [hown]
  dsimp only
  rw [hadmit]
  dsimp only
  rw [arb_modArb_same, huarb, hgrant.arb]
  refine ⟨rfl, rfl, hsched.trans (by rw [hdmcs]), ?_⟩
  refine Eq.trans ?_ hgrant.grants
  show u.fld F.ARB_CNT_GRANTS i o = t.fld F.ARB_CNT_GRANTS i o
  simp only [State.fld, State.reg, show isShadowed F.ARB_CNT_GRANTS.reg = false from by decide, Bool.false_eq_true, if_false, hregs]

end

/-! ### Cycles inside a transfer (R287) -/

theorem arbHoldCut_eq (hex : arbExists i = true) (req : Byte) (n : Nat) : s.arbHoldCut i req n = s.arbCycles i (s.arbRequests i req) n :=
  if_pos hex

theorem arbRequests_nodup (s : State) (i : Nat) (req : Byte) : (s.arbRequests i req).Nodup := by
  unfold State.arbRequests
  split
  · exact List.nodup_range.filter _
  · split <;> exact List.nodup_range.filter _

theorem arbCycles_cuts {o n : Nat} (h : (s.arb i).owner = some o) (ho : o < 8) (hlim : s.fld F.ARB_CFG_HOLD i o ≠ 0)
    (hlong : s.fld F.ARB_CFG_HOLD i o < (s.arb i).held + n) (rs : List Nat) :
    ((s.arbCycles i rs n).fld F.ARB_STATUS_CUT i).testBit o = true ∧ ((s.arbCycles i rs n).arb i).owner = some o ∧
      ((s.arbCycles i rs n).arb i).held = (s.arb i).held + n := by
  have hfit : s.fld F.ARB_STATUS_CUT i ||| 2 ^ o ≤ fldMax F.ARB_STATUS_CUT := by
    have hcut : s.fld F.ARB_STATUS_CUT i < 2 ^ 8 := lt_of_lt_of_eq (BitVec.isLt _) (by decide)
    have hbit : 2 ^ o < 2 ^ 8 := Nat.pow_lt_pow_right (by decide) ho
    exact Nat.le_of_lt_succ (Nat.or_lt_two_pow hcut hbit)
  have harb : ((s.inTransfer i rs n).setFld F.ARB_STATUS_CUT (s.fld F.ARB_STATUS_CUT i ||| 2 ^ o) i).arb i =
      { s.arb i with wait := (s.arb i).waited rs n, held := (s.arb i).held + n } := arb_inTransfer rs n
  rw [arbCycles_of_owned h, if_pos ⟨hlim, hlong⟩, fld_setFld_fits (by decide) hfit, harb]
  exact ⟨by simp [Nat.testBit_or, Nat.testBit_two_pow_self], h, rfl⟩

end Sys2Proof.Machine
end


section
/-!
PROOF. O37: grants and hold limits of the arbiters, commits of arbiters and routers, and the quiet slot.
-/
namespace Sys2Proof.Machine

open Sys2Proof

variable {s : State}

/-- A command of a unit in NET answers what its body makes of the state, apart from the queue. -/
theorem answers_inRun {c : Instr} {f : State → State} {P : State → Prop} (hc : exec c s = .next (s.keep (s.inRun f)))
    (hrun : s.cstate = ckRun) (h : P (s.keep (f s))) : Answers c s P := ⟨s.keep (f s), by rw [hc, inRun_of_run hrun], h⟩

/-! ### Commits -/

section
variable {mid : MasterId}

theorem exec_arbCommit {ix : Fin 781} (h : s.ReachesReg mid .ARB_COMMIT ix true) (hp : (s.arbCommit ix).pending = s.pending) :
    exec (.arbCommit mid ix) s = .next ((s.arbCommit ix).noteRsp mid .ok []) :=
  exec_of_regWrite (c := .arbCommit mid ix) (v := 1) rfl h rfl hp

theorem exec_nocCommit {r : Fin 64} (h : s.ReachesReg mid .NOC_COMMIT r true) (hp : (s.nocCommit r).pending = s.pending) :
    exec (.nocCommit mid r) s = .next ((s.nocCommit r).noteRsp mid .ok []) :=
  exec_of_regWrite (c := .nocCommit mid r) (v := 1) rfl h rfl hp

theorem arbCommit_waits {i : Nat} (h : i < 512 ∧ s.fld F.NOC_CFG_MAINT (i / 8) = 0) : s.arbCommit i = s.setFld F.ARB_STATUS_PEND 1 i := by
  have hflag : s.flag F.NOC_CFG_MAINT (i / 8) = false := by simp [State.flag, h.2]
  rw [State.arbCommit, if_pos h.1, hflag]
  rfl

/-- R280, R288: a commit that does not wait takes the arbiter's shadows; at a router it holds both channels. -/
theorem arbCommit_acts {i : Nat} (h : ¬ (i < 512 ∧ s.fld F.NOC_CFG_MAINT (i / 8) = 0)) :
    s.arbCommit i = if i < 512 then (s.commitBlock .ARB i).holdRouter (i / 8) true else s.commitBlock .ARB i := by
  unfold State.arbCommit
  split
  · rename_i hlt
    have hflag : s.flag F.NOC_CFG_MAINT (i / 8) = true := by
      simp only [State.flag, bne_iff_ne]
      exact fun h0 => h ⟨hlt, h0⟩
    rw [if_pos hflag]
  · rfl

theorem answers_arbCommit_acts {ix : Fin 781} (hreach : s.ReachesReg mid .ARB_COMMIT ix true)
    (h : ¬ (ix.val < 512 ∧ s.fld F.NOC_CFG_MAINT (ix.val / 8) = 0)) : Answers (.arbCommit mid ix) s (fun t =>
      (∀ r : Nat, r < 8 → t.reg .ARB_CFG ix r = s.shadowReg .ARB_CFG ix r) ∧
      (ix.val < 512 → s.now ≤ (t.ni (8 * (ix.val / 8))).holdTill ∧ (t.ni (8 * (ix.val / 8))).holdTill ≤ s.now + 256) ∧
      t = { s with work := t.work, rsps := t.rsps, nis := t.nis, free := t.free }) := by
  have hacts := arbCommit_acts h
  by_cases hlt : ix.val < 512
  · rw [if_pos hlt] at hacts
    refine ⟨_, exec_arbCommit hreach (by rw [hacts]; rfl), ?_⟩
    rw [hacts]
    exact ⟨fun r hr => arbCfg_commit ix hr, fun _ => holdRouter_maint (s.commitBlock .ARB ix) (ix.val / 8), rfl⟩
  · rw [if_neg hlt] at hacts
    refine ⟨_, exec_arbCommit hreach (by rw [hacts]; rfl), ?_⟩
    rw [hacts]
    exact ⟨fun r hr => arbCfg_commit ix hr, fun h' => absurd h' hlt, rfl⟩

theorem nocEffect_pending (s : State) (r : Nat) (maint : Bool) : (s.nocEffect r maint).pending = s.pending := by
  cases hb : s.badRoute r with
  | none =>
    rw [nocEffect_of_good hb]
    unfold State.commitHeld State.genCounted
    split <;> split <;> rfl
  | some bad => rw [nocEffect_of_bad hb]; rfl

theorem exec_nocCommit_maint {r : Fin 64} (h : s.ReachesReg mid .NOC_COMMIT r true) (hm : s.flag F.NOC_CFG_MAINT r = true) :
    exec (.nocCommit mid r) s = .next ((s.nocEffect r true).noteRsp mid .ok []) := by
  have hacts : s.nocCommit r = s.nocEffect r true := if_pos hm
  rw [exec_nocCommit h (by rw [hacts]; exact nocEffect_pending ..), hacts]

theorem exec_nocCommit_waits {r : Fin 64} (h : s.ReachesReg mid .NOC_COMMIT r true) (hm : s.flag F.NOC_CFG_MAINT r = false) :
    exec (.nocCommit mid r) s = .next ((s.setFld F.NOC_STATUS_CPEND 1 r).noteRsp mid .ok []) := by
  have hwaits : s.nocCommit r = s.setFld F.NOC_STATUS_CPEND 1 r := if_neg (by simp [hm])
  rw [exec_nocCommit h (by rw [hwaits]; rfl), hwaits]

end

/-! ### Cycles and hold limits -/

theorem answers_arbHoldCut {ix : Fin 781} {req : Byte} {n : Nat} {P : State → Prop} (hrun : s.cstate = ckRun) (hex : arbExists ix = true)
    (h : P (s.keep (s.arbCycles ix (s.arbRequests ix req) n))) : Answers (.arbHoldCut ix req n) s P :=
  answers_inRun (f := fun a => a.arbHoldCut ix req n) rfl hrun (by rw [arbHoldCut_eq hex]; exact h)

theorem answers_arbHoldCut_within {ix : Fin 781} {req : Byte} {n o : Nat} (hrun : s.cstate = ckRun) (hex : arbExists ix = true)
    (ho : (s.arb ix).owner = some o) (hlim : s.fld F.ARB_CFG_HOLD ix o = 0 ∨ (s.arb ix).held + n ≤ s.fld F.ARB_CFG_HOLD ix o) :
    Answers (.arbHoldCut ix req n) s (fun t =>
      t.regs = s.regs ∧ (t.arb ix).owner = some o ∧ (t.arb ix).held = (s.arb ix).held + n) := by
  refine answers_arbHoldCut hrun hex ?_
  rw [arbCycles_within ho hlim]
  have harb := arb_inTransfer (s := s) (i := ix) (s.arbRequests ix req) n
  refine ⟨rfl, ?_, ?_⟩
  · show ((s.inTransfer ix (s.arbRequests ix req) n).arb ix).owner = some o
    rw [harb]; exact ho
  · show ((s.inTransfer ix (s.arbRequests ix req) n).arb ix).held = _
    rw [harb]

theorem answers_arbHoldCut_free {ix : Fin 781} {req : Byte} {n : Nat} (hrun : s.cstate = ckRun) (hex : arbExists ix = true)
    (ho : (s.arb ix).owner = none) : Answers (.arbHoldCut ix req n) s (fun t => t.regs = s.regs ∧ (t.arb ix).owner = none ∧
      ∀ r ∈ s.arbRequests ix req, (t.arb ix).wait.get r 0 = (s.arb ix).wait.get r 0 + n) := by
  have harb : ((s.arbCycles ix (s.arbRequests ix req) n).arb ix) = { s.arb ix with wait := (s.arb ix).waited (s.arbRequests ix req) n } := by
    rw [arbCycles_of_free ho, arb_modArb_same]
  have hregs : (s.arbCycles ix (s.arbRequests ix req) n).regs = s.regs := by rw [arbCycles_of_free ho]; rfl
  refine answers_arbHoldCut hrun hex ⟨hregs, (arbCycles_owner _ n).trans ho, fun r hr => ?_⟩
  show ((s.arbCycles ix (s.arbRequests ix req) n).arb ix).wait.get r 0 = _
  rw [harb, waited_get _ (arbRequests_nodup s ix req), if_pos ⟨hr, by simp [ho]⟩]

/-! ### Grants -/

theorem answers_arbGrant {ix : Fin 781} {req : Byte} {n units more : Nat} {pass : Bool} {P : State → Prop} (hrun : s.cstate = ckRun)
    (h : P (s.keep (s.arbGrant ix req n units more pass))) : Answers (.arbGrant ix req n units more pass) s P :=
  answers_inRun (f := fun a => a.arbGrant ix req n units more pass) rfl hrun h

/-! ### The quiet slot -/

/-- What the quiet slot of state s leaves behind (R276, R281, R289). -/
def QuietSlotDone (s t : State) : Prop :=
  (∀ r : Nat, r < 64 → t.flag F.NOC_STATUS_CPEND r = false) ∧ (∀ i : Nat, i < 512 → t.flag F.ARB_STATUS_PEND i = false) ∧
  (∀ r : Nat, r < 64 → s.flag F.NOC_STATUS_CPEND r = true → s.badRoute r = none →
    t.reg .NOC_CFG r = s.shadowReg .NOC_CFG r ∧ ∀ d : Nat, d < 512 → t.reg .NOC_ROUTE r 0 d = s.shadowReg .NOC_ROUTE r 0 d) ∧
  (∀ r : Nat, r < 64 → s.flag F.NOC_STATUS_CPEND r = true → s.badRoute r ≠ none →
    t.flag F.NOC_STATUS_CFGERR r = true ∧ t.reg .NOC_CFG r = s.reg .NOC_CFG r) ∧
  (∀ i k : Nat, i < 512 → k < 8 → s.flag F.ARB_STATUS_PEND i = true → t.reg .ARB_CFG i k = s.shadowReg .ARB_CFG i k) ∧
  (s.now < 2 ^ 63 → t.inQuiet = true) ∧ t.engines = s.engines ∧ t.slices = s.slices

theorem inQuiet_of_time {a b : State} (h : a.time = b.time) : a.inQuiet = b.inQuiet := by
  unfold State.inQuiet State.now; rw [h]

/-- Its parts, read from any state q that the commits leave. (The kernel compares no part of the slot's own run, which is long.) -/
theorem quietSlotDone_keep {q : State} (htime : q.time = s.inQuietSlot.time) (hengines : q.engines = s.engines) (hslices : q.slices = s.slices)
    (hnoc : ∀ r : Nat, r < 64 → NocCommitted r s q) (harb : ∀ i : Nat, i < 512 → ArbCommitted i s q) : QuietSlotDone s (s.keep q) :=
  ⟨fun r hr => (hnoc r hr).pend, fun i hi => (harb i hi).pend, fun r hr => (hnoc r hr).good, fun r hr => (hnoc r hr).bad,
    fun i k hi hk hp => (harb i hi).cfg hp k hk, fun hnow => (inQuiet_of_time htime).trans (inQuietSlot_inQuiet hnow), hengines, hslices⟩

theorem answers_quietSlot (hrun : s.cstate = ckRun) : Answers .quietSlot s (QuietSlotDone s) := by
  obtain ⟨htime, hengines, hslices⟩ := quietSlot_rest s
  exact answers_inRun (f := State.quietSlot) rfl hrun
    (quietSlotDone_keep htime hengines hslices (fun r hr => quietSlot_noc hr s) (fun i hi => quietSlot_arb hi s))

/-- Settles O37: the arbiters' decisions by the kind of arbiter and by whether it has an owner (arbGrant_overdue to arbGrant_admits),
the cycles and their cut (arbCycles_of_owned), and the commits, each of which works on its own block (SameOn). -/
theorem arbitersAndRouterCommits : Obligations.ArbitersAndRouterCommits := by
  intro s
  refine ⟨?_, ?_, ?_, ?_, ?_, ?_, answers_quietSlot⟩
  · intro ix req n units more pass hrun hex hlt hheld a rs e granted due
    refine ⟨?_, ?_, ?_, ?_⟩
    · intro hfree r hr hdue hmax
      exact answers_arbGrant hrun (arbGrant_overdue hlt hex hheld hfree hr hdue hmax)
    · intro hfree hnone w hw
      obtain ⟨hmem, htop⟩ := highestPrio_spec (fun r hr => lt_of_mem_arbMask (mem_of_mem_arbEligible hr)) hw
      exact ⟨hmem, htop, answers_arbGrant hrun (arbGrant_prio hlt hex hheld hfree hnone hw)⟩
    · intro hfree he
      exact answers_arbGrant hrun (arbGrant_no_request hlt hex hheld hfree he)
    · intro o howner ho hhold hothers b
      refine ⟨fun hbelow => answers_arbGrant hrun ?_, fun hb hlimit hnot w hw => ?_⟩
      · have harb := arbGrant_keeps (n := n) (more := more) (pass := pass) hlt hex hheld howner ho hhold hothers hbelow
        show ((s.arbGrant ix req n units more pass).arb ix).owner = some o ∧ ((s.arbGrant ix req n units more pass).arb ix).used = _ ∧
          ((s.arbGrant ix req n units more pass).arb ix).held = _
        rw [harb]
        exact ⟨howner, rfl, rfl⟩
      · exact answers_arbGrant hrun (arbGrant_burst hlt hex hheld howner hhold hothers hb hlimit hnot hw)
  · intro ix req c units more pass w hrun hslice hport hwq hfree hw hcut
    exact answers_arbGrant hrun (arbGrant_port hslice hport hwq hfree hw hcut req c units more pass)
  · intro k ix req c units more pass o q hrun hix hfree hreq hoffer hcut
    exact ⟨fun hready hroom => answers_arbGrant hrun
        (arbGrant_admits k.isLt hix hfree hreq hcut hoffer hready hroom req c units more pass),
      fun htrans => answers_arbGrant hrun (arbGrant_transition k.isLt hix hfree hreq htrans req c units more pass)⟩
  · intro ix req n hrun hex a
    refine ⟨fun o howner ho hlim hlong => answers_arbHoldCut hrun hex (arbCycles_cuts howner ho hlim hlong _), ?_, ?_⟩
    · exact fun o howner hlim => answers_arbHoldCut_within hrun hex howner hlim
    · exact fun hfree => answers_arbHoldCut_free hrun hex hfree
  · intro mid ix hreach
    refine ⟨fun hwaits => ?_, answers_arbCommit_acts hreach⟩
    have heq := arbCommit_waits hwaits
    rw [exec_arbCommit hreach (by rw [heq]; rfl), heq]
  · intro mid r hreach
    refine ⟨exec_nocCommit_waits hreach, fun bad hm hbad => ?_, fun hm hgood => ?_⟩
    · exact ⟨_, exec_nocCommit_maint hreach hm, nocEffect_refused (by simp [hbad]) true⟩
    · obtain ⟨hcfg, hroutes⟩ := nocEffect_takes hgood true
      exact ⟨_, exec_nocCommit_maint hreach hm, hcfg, hroutes, nocEffect_maint hgood⟩

end Sys2Proof.Machine
end

section
/-!
SUPPORT. A slice's background test (R168, R171): what a region's write, a step and a cell fault leave in its code words and its registers.
-/
namespace Sys2Proof.Machine

open Sys2Proof

variable {s t : State} {n : Nat}

/-! ### A region's code words -/

/-- A region's write stores its four code words. -/
theorem cell_setRegion_same {w j : Nat} (hw : w < 32768) (hj : j < 4) (r : BitVec 320) : (s.setRegion n w r).cell n (4 * w + j) = regionWord r j := by
  have hwords (m : Nat) (hm : m ≤ 4) (hjm : j < m) :
      ((List.range m).foldl (fun a i => State.setCell a n (4 * w + i) (regionWord r i)) s).cell n (4 * w + j) = regionWord r j := by
    induction m with
    | zero => omega
    | succ m ih =>
      rw [List.range_succ, List.foldl_append, List.foldl_cons, List.foldl_nil]
      by_cases heq : j = m
      · rw [heq, cell_setCell_same]
      · rw [cell_setCell_other (by omega) (by omega) (by omega), ih (by omega) (by omega)]
  exact hwords 4 (by omega) hj

theorem regionWord_zero (j : Nat) : regionWord 0#320 j = 0 := by simp [regionWord]

/-! ### The registers of the background test -/

theorem bgtCode_setBgtCode {c : Nat} (hc : c ≤ 15) : (s.setBgtCode n c).bgtCode n = c :=
  fld_setFld_fits (f := F.SLC_STATUS_BGTSTEP) (by decide) hc n 0 0

theorem fld_setBgtCode {f : Fld} (h : F.SLC_STATUS_BGTSTEP.apart f = true) (c : Nat) : (s.setBgtCode n c).fld f n = s.fld f n :=
  fld_setFld_apart h c n

theorem flag_setBgtCode {f : Fld} (h : F.SLC_STATUS_BGTSTEP.apart f = true) (c : Nat) : (s.setBgtCode n c).flag f n = s.flag f n :=
  flag_setFld_apart h c n

theorem setRegion_fld (w : Nat) (r : BitVec 320) (f : Fld) (i : Nat) : (s.setRegion n w r).fld f i = s.fld f i := by
  obtain ⟨c, h⟩ := setRegion_changes (s := s) n w r
  rw [h]; rfl

/-- R169: giving the region back writes code words alone. -/
theorem bgtRestore_fld (f : Fld) (i : Nat) : (s.bgtRestore n).fld f i = s.fld f i := by
  unfold State.bgtRestore
  dsimp only
  split
  · exact setRegion_fld ..
  · rfl

/-- A slice's registers stand before the monitors'. -/
theorem slc_before_pmon (hn : n < 256) : ∀ a, Block.Holds .SLC n a → a < 0x00180e000000 := by
  intro a ha
  simp only [Block.Holds, Block.place] at ha
  omega

/-- The registers of a slice that the background test counts and reports in. -/
def inSlc (r : RegId) : Bool := r.own && decide (r.desc.blk = .SLC) && decide (r.desc.off < 4096)

theorem fld_pmonEvent_slc {f : Fld} (hf : inSlc f.reg = true) (hn : n < 256) (i evt port c : Nat) (p : Bool) :
    (s.pmonEvent i evt port c p).fld f n = s.fld f n := by
  simp only [inSlc, Bool.and_eq_true, decide_eq_true_eq] at hf
  obtain ⟨⟨hown, hblk⟩, hoff⟩ := hf
  refine (SameOn.pmonEvent (slc_before_pmon hn) s i evt port c p).fld ?_
  simp only [Block.Holds, Block.place, regAddr, regInst_of_own hown, hblk]
  omega

theorem flag_pmonEvent_slc {f : Fld} (hf : inSlc f.reg = true) (hn : n < 256) (i evt port c : Nat) (p : Bool) :
    (s.pmonEvent i evt port c p).flag f n = s.flag f n := congrArg (· != 0) (fld_pmonEvent_slc hf hn i evt port c p)

theorem pmonEvent_err_slices (i evt port c : Nat) (p : Bool) :
    (s.pmonEvent i evt port c p).err = s.err ∧ (s.pmonEvent i evt port c p).slices = s.slices := by
  obtain ⟨r, q, h⟩ := pmonEvent_changes (s := s) i evt port c p
  rw [h]; exact ⟨rfl, rfl⟩

/-! ### Cell faults (R170) -/

/-- A read step that finds cells that differ from what was written faults. -/
theorem bgtCompare_of_diff {w step : Nat} {expect flips : BitVec 320} (h : s.region n w ^^^ flips ^^^ expect ≠ 0) :
    s.bgtCompare n w step expect flips = s.cellFault n w step (s.region n w ^^^ flips ^^^ expect) := if_neg h

/-- R170: what a cell fault counts, raises and reports. -/
theorem cellFault_effect (n w step : Nat) (diff : BitVec 320) :
    (s.cellFault n w step diff).fld F.SLC_CNT_CELL n = satAdd (fldMax F.SLC_CNT_CELL) (s.fld F.SLC_CNT_CELL n) 1 ∧
    (s.cellFault n w step diff).flag F.SLC_STATUS_CELL n = true ∧
    (s.cellFault n w step diff).err.onWay.length = s.err.onWay.length + 1 ∧ (s.cellFault n w step diff).slices = s.slices := by
  unfold State.cellFault
  dsimp only
  generalize BitVec.ofNat 64 (2 ^ 63 + lowBit diff * 2 ^ 20 + step * 2 ^ 16 + w) = v
  have hfld (f : Fld) (r : ErrRec) (a : State) : (a.logErr r).fld f n = a.fld f n := rfl
  have hlog (r : ErrRec) (a : State) : (a.logErr r).err.onWay.length = a.err.onWay.length + 1 := List.length_append
  refine ⟨?_, ?_, ?_, ?_⟩
  · rw [hfld, fld_setReg_apart (by decide), State.raise, fld_setFld_apart (by decide), fld_count_fits (by decide)]
  · rw [State.flag, hfld, fld_setReg_apart (by decide)]
    exact flag_setFld_one (f := F.SLC_STATUS_CELL) (by decide) n 0 0
  · rw [hlog, setReg_err, raise_err, count_err]
  · rw [logErr_slices, setReg_slices, raise_slices, count_slices]

/-! ### The steps (R168) -/

theorem bgtStep_zeros (h : s.bgtCode n = 3) (flips : BitVec 320) :
    s.bgtStep n flips = (s.setRegion n (s.fld F.SLC_BGT_CURSOR n) 0#320).setBgtCode n 4 := by
  simp only [State.bgtStep, h]

theorem bgtStep_readZeros (h : s.bgtCode n = 4) (flips : BitVec 320) :
    s.bgtStep n flips = (s.bgtCompare n (s.fld F.SLC_BGT_CURSOR n) 4 0#320 flips).setBgtCode n 5 := by
  simp only [State.bgtStep, h]

theorem bgtStep_restore (h : s.bgtCode n = 11) (flips : BitVec 320) :
    s.bgtStep n flips = (s.setRegion n (s.fld F.SLC_BGT_CURSOR n) (s.slc n).hold).setBgtCode n 12 := by
  simp only [State.bgtStep, h]

end Sys2Proof.Machine
end

section
/-!
SUPPORT. A write of SLC_CTRL (R172 to R175), by the parts of the rule, and the bits of SLC_STATUS and SLC_CTRL that each part leaves.
-/
namespace Sys2Proof.Machine

open Sys2Proof

variable {s t : State} {n : Nat}

/-! ### Background test on and off -/

theorem bgtOff_fld {f : Fld} (h : F.SLC_STATUS_BGTSTEP.apart f = true) : (s.bgtOff n).fld f n = s.fld f n :=
  (fld_setBgtCode h 0).trans (bgtRestore_fld f n)

theorem bgtOn_fld {f : Fld} (h : F.SLC_STATUS_BGTSTEP.apart f = true) : (s.bgtOn n).fld f n = s.fld f n := by
  unfold State.bgtOn
  split
  · exact fld_setBgtCode h 2
  · rfl

theorem SliceChange.bgtOff (s : State) (n : Nat) : SliceChange s (s.bgtOff n) := (SliceChange.bgtRestore s n).trans (.setBgtCode _ n 0)

theorem SliceChange.bgtOn (s : State) (n : Nat) : SliceChange s (s.bgtOn n) := by
  unfold State.bgtOn
  split
  · exact .setBgtCode s n 2
  · exact .refl s

/-! ### The parts of the write -/

/-- GAP and BGTEN are written normally. -/
def State.slcPlain (s : State) (n : Nat) (v : Word) : State :=
  (s.setFld F.SLC_CTRL_GAP (fldOf F.SLC_CTRL_GAP v) n).setFld F.SLC_CTRL_BGTEN (fldOf F.SLC_CTRL_BGTEN v) n

/-- R175: a change of RETIRE stops the background test, or is refused. -/
def State.slcRetire (s : State) (n r : Nat) : State :=
  if r = s.fld F.SLC_CTRL_RETIRE n then s
  else if s.engineQuiet n then (s.bgtOff n).setFld F.SLC_CTRL_RETIRE r n
  else s.raise F.SLC_STATUS_CFGERR n

/-- R174: a fill starts, or is refused. -/
def State.slcFill (s : State) (n : Nat) : State :=
  if s.engineQuiet n ∧ !(s.flag F.SLC_STATUS_FILLING n) then s.startSliceFill n else s.raise F.SLC_STATUS_CFGERR n

/-- R171: the background test runs or stops as BGTEN says. -/
def State.slcTest (s : State) (n : Nat) : State := if s.flag F.SLC_CTRL_BGTEN n then s.bgtOn n else s.bgtOff n

theorem writeSlcCtrl_eq (s : State) (n : Nat) (v : Word) : s.writeSlcCtrl n v =
    (if fldOf F.SLC_CTRL_FILL v = 1 then ((s.slcPlain n v).slcRetire n (fldOf F.SLC_CTRL_RETIRE v)).slcFill n
      else (s.slcPlain n v).slcRetire n (fldOf F.SLC_CTRL_RETIRE v)).slcTest n := rfl

theorem slcPlain_fld {f : Fld} (hg : F.SLC_CTRL_GAP.apart f = true) (hb : F.SLC_CTRL_BGTEN.apart f = true) (v : Word) :
    (s.slcPlain n v).fld f n = s.fld f n := (fld_setFld_apart hb _ n).trans (fld_setFld_apart hg _ n)

theorem slcTest_fld {f : Fld} (h : F.SLC_STATUS_BGTSTEP.apart f = true) : (s.slcTest n).fld f n = s.fld f n := by
  unfold State.slcTest
  split
  · exact bgtOn_fld h
  · exact bgtOff_fld h

theorem slcTest_flag {f : Fld} (h : F.SLC_STATUS_BGTSTEP.apart f = true) : (s.slcTest n).flag f n = s.flag f n :=
  congrArg (· != 0) (slcTest_fld h)

theorem SliceChange.slcPlain (s : State) (n : Nat) (v : Word) : SliceChange s (s.slcPlain n v) :=
  (SliceChange.setFld (f := F.SLC_CTRL_GAP) (by decide) s _ n 0 0).trans (.setFld (f := F.SLC_CTRL_BGTEN) (by decide) _ _ n 0 0)

theorem SliceChange.slcRetire (s : State) (n r : Nat) : SliceChange s (s.slcRetire n r) := by
  unfold State.slcRetire
  split
  · exact .refl s
  · split
    · exact (SliceChange.bgtOff s n).trans (.setFld (f := F.SLC_CTRL_RETIRE) (by decide) _ r n 0 0)
    · exact .setFld (f := F.SLC_STATUS_CFGERR) (by decide) s 1 n 0 0

theorem SliceChange.startSliceFill (s : State) (n : Nat) : SliceChange s (s.startSliceFill n) := by
  have hfld {f : Fld} (h : isShadowed f.reg = false) (a : State) (v : Nat) : SliceChange a (a.setFld f v n) := .setFld h a v n 0 0
  have hclear : SliceChange s { s with slices := s.slices.clear (fun k => k / 131072 == n) } := ⟨_, _, _, _, _, rfl⟩
  have hslc (a : State) : SliceChange a ((a.modSlc n (fun _ => {})).setReg .SLC_BGT 0 n) := by
    rw [setReg_regs (r := .SLC_BGT) (by decide)]; exact ⟨_, _, _, _, _, rfl⟩
  exact (((hclear.trans (.setBgtCode _ n 0)).trans (hslc _)).trans (hfld (f := F.SLC_STATUS_FILLED) (by decide) _ 0)).trans
    (hfld (f := F.SLC_STATUS_FILLING) (by decide) _ 1)

theorem SliceChange.slcFill (s : State) (n : Nat) : SliceChange s (s.slcFill n) := by
  unfold State.slcFill
  split
  · exact .startSliceFill s n
  · exact .setFld (f := F.SLC_STATUS_CFGERR) (by decide) s 1 n 0 0

theorem SliceChange.slcTest (s : State) (n : Nat) : SliceChange s (s.slcTest n) := by
  unfold State.slcTest
  split
  · exact .bgtOn s n
  · exact .bgtOff s n

theorem SliceChange.writeSlcCtrl (s : State) (n : Nat) (v : Word) : SliceChange s (s.writeSlcCtrl n v) := by
  rw [writeSlcCtrl_eq]
  have hretire : SliceChange s ((s.slcPlain n v).slcRetire n (fldOf F.SLC_CTRL_RETIRE v)) := (SliceChange.slcPlain s n v).trans (.slcRetire _ n _)
  refine SliceChange.trans ?_ (.slcTest _ n)
  split
  · exact hretire.trans (.slcFill _ n)
  · exact hretire

theorem SliceChange.engineQuiet (h : SliceChange s t) (n : Nat) : t.engineQuiet n = s.engineQuiet n := by
  unfold State.engineQuiet; rw [h.eng]

/-! ### The start of a fill (R172, R173) -/

theorem startSliceFill_flags (s : State) (n : Nat) : (s.startSliceFill n).flag F.SLC_STATUS_FILLING n = true ∧
    (s.startSliceFill n).flag F.SLC_STATUS_FILLED n = false ∧ (s.startSliceFill n).bgtCode n = 0 := by
  unfold State.startSliceFill
  dsimp only
  refine ⟨flag_setFld_one (by decide) n 0 0, ?_, ?_⟩
  · rw [flag_setFld_apart (by decide), flag_setFld_zero (by decide)]
  · have hmod (a : State) : (a.modSlc n (fun _ => {})).fld F.SLC_STATUS_BGTSTEP n = a.bgtCode n := rfl
    rw [State.bgtCode, fld_setFld_apart (by decide), fld_setFld_apart (by decide), fld_setReg_apart (by decide), hmod, bgtCode_setBgtCode (by decide)]

theorem startSliceFill_ctrl {f : Fld} (hb : F.SLC_STATUS_BGTSTEP.apart f = true) (hr : RegId.SLC_BGT.apart f.reg = true)
    (hd : F.SLC_STATUS_FILLED.apart f = true) (hg : F.SLC_STATUS_FILLING.apart f = true) :
    (s.startSliceFill n).fld f n = s.fld f n := by
  have hmod (a : State) : (a.modSlc n (fun _ => {})).fld f n = a.fld f n := rfl
  unfold State.startSliceFill
  dsimp only
  rw [fld_setFld_apart hg, fld_setFld_apart hd, fld_setReg_apart hr, hmod, fld_setBgtCode hb]
  rfl

/-- Every code word of the slice is zero, and the other slices' stand. -/
theorem startSliceFill_cell (s : State) (n m j : Nat) (hj : j < 131072) :
    (s.startSliceFill n).cell m j = if m = n then 0 else s.cell m j := by
  show (s.slices.clear (fun k => k / 131072 == n)).get (sliceKey m j) 0 = _
  have hkey : sliceKey m j / 131072 = m := by unfold sliceKey; omega
  rw [Tab.get_clear]
  simp [hkey, State.cell]

/-- The test that follows finds a slice that is not filled, and leaves its code words and its step 0. -/
theorem slcTest_cell_of_filling (hfilled : s.flag F.SLC_STATUS_FILLED n = false) (hcode : s.bgtCode n = 0) (m j : Nat) :
    (s.slcTest n).cell m j = s.cell m j := by
  have hoff : s.bgtRestore n = s := if_neg (by omega)
  have hmay : s.bgtMayRun n = false := by simp [State.bgtMayRun, hfilled]
  unfold State.slcTest State.bgtOn State.bgtOff
  rw [if_neg (c := _ ∧ _) (by simp [hmay]), hoff]
  split <;> rfl

end Sys2Proof.Machine
end

section
/-!
SUPPORT. The secure bank's wipe and its completion (R178, R328, R409).
-/
namespace Sys2Proof.Machine

open Sys2Proof

variable {s t : State}

/-! ### The parts of a wipe -/

/-- The bank's cells are zero, and the cached records are lost. -/
def State.bankEmptied (s : State) : State := { s with sbk := {}, log := { s.log with pend := [], wr := 0 } }

/-- SBK_STATUS while the bank is wiped. -/
def State.wipeBegun (s : State) (cause : Nat) : State :=
  (((s.setFld F.SBK_STATUS_READY 0).setFld F.SBK_STATUS_CAUSE cause).setFld F.SBK_STATUS_WIPING 1).count F.SBK_STATUS_WIPECNT

/-- R328: the datapaths' keys and roots and the links' keys are cleared. -/
def State.iceCleared (s : State) : State := { s with ice := { s.ice with keys := {}, roots := {}, linkKeys := {} } }

/-- R328: channel k's counters for encryption are lost. -/
def State.ctrsCleared (s : State) (k : Nat) : State := { s with dmcs := s.dmcs.set k { s.dmcs.get k {} with ctrs := [] } {} }

/-- R328: region r waits for its key, where it is enabled. -/
def State.awaitKey (s : State) (r : Nat) : State := if s.flag F.ICE_RCFG_EN 0 r then s.setFld F.ICE_RSTAT_STATE 5 0 r else s

/-- R328: every key is cleared, and the enabled regions wait for theirs. -/
def State.keysCleared (s : State) : State := (s.iceCleared.forAll (List.range 12) State.ctrsCleared).forAll (List.range 16) State.awaitKey

/-- R194: the control service and the SMP note the wipe. -/
def State.wipeNoted (s : State) : State :=
  { s with mb := { s.mb with wipeSeen := true },
           smp := { s.smp with reload := s.smp.reload || s.fld F.SMP_STATUS_STATE == 2 || s.fld F.SMP_STATUS_STATE == 3 } }

theorem bankWipe_eq (h : s.flag F.SBK_STATUS_WIPING = false) (cause : Nat) :
    s.bankWipe cause = ((s.bankEmptied.wipeBegun cause).keysCleared).wipeNoted := if_neg (by simp [h])

theorem wipeBegun_status (s : State) {cause : Nat} (hc : cause ≤ fldMax F.SBK_STATUS_CAUSE) :
    (s.wipeBegun cause).flag F.SBK_STATUS_READY = false ∧ (s.wipeBegun cause).flag F.SBK_STATUS_WIPING = true ∧
    (s.wipeBegun cause).fld F.SBK_STATUS_CAUSE = cause := by
  unfold State.wipeBegun State.count
  refine ⟨?_, ?_, ?_⟩
  · rw [flag_setFld_apart (by decide), flag_setFld_apart (by decide), flag_setFld_apart (by decide), flag_setFld_zero (by decide)]
  · rw [flag_setFld_apart (by decide), flag_setFld_one (by decide)]
  · rw [fld_setFld_apart (by decide), fld_setFld_apart (by decide), fld_setFld_fits (by decide) hc]

theorem iceRstat_ne_sbkStatus (r : Nat) : regAddr .ICE_RSTAT 0 r ≠ regAddr .SBK_STATUS := by
  simp only [regAddr, regInst, RegId.desc, Block.place]
  omega

theorem awaitKey_sameOn (s : State) (r : Nat) : SameOn (· = regAddr .SBK_STATUS) s (s.awaitKey r) := by
  unfold State.awaitKey
  split
  · exact .setFld (f := F.ICE_RSTAT_STATE) (iceRstat_ne_sbkStatus r) s 5
  · exact .refl s

/-- Clearing the keys leaves SBK_STATUS alone, and the bank and the queue. -/
theorem keysCleared_sameOn (s : State) : SameOn (· = regAddr .SBK_STATUS) s s.keysCleared := by
  have hice : SameOn (· = regAddr .SBK_STATUS) s s.iceCleared := .of_eq rfl rfl rfl
  have hctrs (a : State) (k : Nat) : SameOn (· = regAddr .SBK_STATUS) a (a.ctrsCleared k) := .of_eq rfl rfl rfl
  exact (hice.trans (foldl_sameOn (fun a k _ => hctrs a k) _)).trans (foldl_sameOn (fun a r _ => awaitKey_sameOn a r) _)

theorem keysCleared_rest (s : State) : (s.keysCleared.sbk, s.keysCleared.ice, s.keysCleared.pending) =
    (s.sbk, { s.ice with keys := {}, roots := {}, linkKeys := {} }, s.pending) := by
  have hawait (a : State) (r : Nat) : ((a.awaitKey r).sbk, (a.awaitKey r).ice, (a.awaitKey r).pending) = (a.sbk, a.ice, a.pending) := by
    unfold State.awaitKey; split <;> rfl
  exact (foldl_keeps (fun a : State => (a.sbk, a.ice, a.pending)) hawait _ _).trans
    (foldl_keeps (fun a : State => (a.sbk, a.ice, a.pending)) (f := State.ctrsCleared) (fun _ _ => rfl) _ s.iceCleared)

/-- What a wipe with a cause leaves to be seen (R178). -/
def BankWiped (cause : Nat) (t : State) : Prop :=
  (∀ j : Nat, t.bankCell j = 0) ∧ t.bankReady = false ∧ t.flag F.SBK_STATUS_WIPING = true ∧
  t.fld F.SBK_STATUS_CAUSE = cause ∧ t.ice.keys = {} ∧ t.ice.linkKeys = {}

theorem BankWiped.of_parts {cause : Nat} {a : State} (hsbk : t.sbk = {}) (hice : t.ice = { a.ice with keys := {}, roots := {}, linkKeys := {} })
    (hsame : SameOn (· = regAddr .SBK_STATUS) a t) (hready : a.flag F.SBK_STATUS_READY = false) (hwiping : a.flag F.SBK_STATUS_WIPING = true)
    (hcause : a.fld F.SBK_STATUS_CAUSE = cause) : BankWiped cause t := by
  refine ⟨fun j => ?_, (hsame.flag (f := F.SBK_STATUS_READY) rfl).trans hready, (hsame.flag (f := F.SBK_STATUS_WIPING) rfl).trans hwiping,
    (hsame.fld (f := F.SBK_STATUS_CAUSE) rfl).trans hcause, by rw [hice], by rw [hice]⟩
  rw [State.bankCell, hsbk]
  rfl

theorem BankWiped.wipeNoted {cause : Nat} (h : BankWiped cause t) : BankWiped cause t.wipeNoted := h

theorem BankWiped.noteRsp {cause : Nat} (h : BankWiped cause t) (mid : MasterId) (st : Status) (ws : List (Word × Bool)) :
    BankWiped cause (t.noteRsp mid st ws) := h

theorem bankWipe_wiped {cause : Nat} (h : s.flag F.SBK_STATUS_WIPING = false) (hc : cause ≤ fldMax F.SBK_STATUS_CAUSE) :
    BankWiped cause (s.bankWipe cause) ∧ (s.bankWipe cause).pending = s.pending := by
  obtain ⟨hready, hwiping, hcause⟩ := wipeBegun_status s.bankEmptied hc
  have hrest := keysCleared_rest (s.bankEmptied.wipeBegun cause)
  simp only [Prod.mk.injEq] at hrest
  obtain ⟨hsbk, hice, hpending⟩ := hrest
  rw [bankWipe_eq h]
  exact ⟨(BankWiped.of_parts hsbk hice (keysCleared_sameOn _) hready hwiping hcause).wipeNoted, hpending⟩

/-! ### The event-log cache (R409) -/

/-- R409: copying the cache to flash leaves registers, queue, SMP and the records that wait. -/
theorem flushLog_kept (s : State) : (s.flushLog.regs, s.flushLog.work, s.flushLog.smp, s.flushLog.pending, s.flushLog.log.late) =
    (s.regs, s.work, s.smp, s.pending, s.log.late) := rfl

theorem cacheRecord_kept (s : State) (r : List Word) :
    ((s.cacheRecord r).regs, (s.cacheRecord r).work, (s.cacheRecord r).smp, (s.cacheRecord r).pending, (s.cacheRecord r).log.late) =
    (s.regs, s.work, s.smp, s.pending, s.log.late) := by
  have hstored := foldl_keeps (fun a : State => (a.regs, a.work, a.smp, a.pending, a.log.late))
    (f := fun a i => a.setBankCell (cacheWord (s.log.wr + i)) (encode64 (r.getD i 0))) (fun _ _ => rfl) (List.range r.length) s
  unfold State.cacheRecord
  dsimp only
  generalize (List.range r.length).foldl _ s = t at hstored ⊢
  split
  · exact (flushLog_kept _).trans hstored
  · exact hstored

/-- R409: the records that waited are written, and none waits. -/
theorem logLate_kept (s : State) : (s.logLate.regs, s.logLate.work, s.logLate.smp, s.logLate.pending, s.logLate.log.late) =
    (s.regs, s.work, s.smp, s.pending, []) :=
  foldl_keeps (fun a : State => (a.regs, a.work, a.smp, a.pending, a.log.late)) cacheRecord_kept s.log.late { s with log := { s.log with late := [] } }

theorem logLate_of_none (h : s.log.late = []) : s.logLate = s := by
  have hlog : ({ s.log with late := [] } : EvLog) = s.log := by rw [← h]
  unfold State.logLate
  rw [h, List.foldl_nil, hlog]

/-! ### The end of a wipe (R178) -/

/-- The bank is ready again. -/
def State.wipeEnded (s : State) : State := (s.setFld F.SBK_STATUS_WIPING 0).setFld F.SBK_STATUS_READY 1

theorem wipeEnded_status (s : State) : s.wipeEnded.flag F.SBK_STATUS_READY = true ∧ s.wipeEnded.flag F.SBK_STATUS_WIPING = false := by
  unfold State.wipeEnded
  refine ⟨flag_setFld_one (by decide) 0 0 0, ?_⟩
  rw [flag_setFld_apart (by decide), flag_setFld_zero (by decide)]

theorem flag_of_regs (hr : t.regs = s.regs) (hw : t.work = s.work) (f : Fld) (i : Nat) : t.flag f i = s.flag f i := by
  unfold State.flag State.fld State.reg; rw [hr, hw]

/-- Where the SMP has no calibration store to read again, the wipe's end is the bank's alone. -/
theorem bankWipeComplete_eq (h : s.flag F.SBK_STATUS_WIPING = true) (hr : s.wipeEnded.logLate.smp.reload = false) :
    s.bankWipeComplete = s.wipeEnded.logLate := by
  unfold State.bankWipeComplete
  rw [if_neg (by simp [h])]
  refine if_pos ?_
  show (!(s.wipeEnded.logLate.smp.reload && s.wipeEnded.logLate.smpOn)) = true
  rw [hr]
  rfl

end Sys2Proof.Machine
end

section
/-!
PROOF. O33: background test, fill, retirement and the secure bank's wipe.
-/
namespace Sys2Proof.Machine

open Sys2Proof

variable {s : State} {n : Fin 256} {mid : MasterId}

/-! ### The background test (R168, R171) -/

/-- R168, R169: a step that is taken changes what the test's own step changes, and is counted (R476). -/
theorem answers_bgtStep {flips : BitVec 320} {t : State} {P : State → Prop} (hlive : s.live (domSL (n.val / 4)) = true)
    (hmay : s.bgtMayRun n = true) (hwq : (s.arbs.get (512 + n.val) {}).wq = []) (hcode : 2 ≤ s.bgtCode n)
    (hstep : s.bgtStep n flips = t) (ht : SliceChange s t) (h : P (t.pmonEvent (76 + n) 0x33 0 1)) : Answers (.bgtStep n flips) s P := by
  have hrun : s.bgtRun n flips = t.pmonEvent (76 + n) 0x33 0 1 := by
    rw [← hstep]
    exact if_pos ⟨hmay, hcode, hwq⟩
  exact answers_inDom (f := fun a => a.bgtRun n flips) rfl hlive (by rw [hrun]; exact (ht.trans (.pmonEvent ..)).pending) (by rw [hrun]; exact h)

theorem answers_bgtStep_zeros {flips : BitVec 320} (hlive : s.live (domSL (n.val / 4)) = true) (hmay : s.bgtMayRun n = true)
    (hwq : (s.arbs.get (512 + n.val) {}).wq = []) (hcode : s.bgtCode n = 3) : Answers (.bgtStep n flips) s (fun t =>
      (∀ j : Nat, j < 4 → t.cell n (4 * s.fld F.SLC_BGT_CURSOR n + j) = 0) ∧ t.bgtCode n = 4 ∧
      (∀ m w : Nat, w < 131072 → ¬ (m = n.val ∧ w / 4 = s.fld F.SLC_BGT_CURSOR n) → t.cell m w = s.cell m w)) := by
  refine answers_bgtStep hlive hmay hwq (by omega) (bgtStep_zeros hcode flips) ((SliceChange.setRegion ..).trans (.setBgtCode ..))
    ⟨fun j hj => ?_, ?_, fun m w hw hne => ?_⟩
  · rw [cell_pmonEvent, cell_setBgtCode, cell_setRegion_same (cursor_lt n) hj, regionWord_zero]
  · exact (fld_pmonEvent_slc (f := F.SLC_STATUS_BGTSTEP) (by decide) n.isLt ..).trans (bgtCode_setBgtCode (by decide))
  · rw [cell_pmonEvent, cell_setBgtCode, cell_setRegion_other (cursor_lt n) hw hne]

theorem answers_bgtStep_fault {flips : BitVec 320} (hlive : s.live (domSL (n.val / 4)) = true) (hmay : s.bgtMayRun n = true)
    (hwq : (s.arbs.get (512 + n.val) {}).wq = []) (hcode : s.bgtCode n = 4) (hdiff : s.region n (s.fld F.SLC_BGT_CURSOR n) ^^^ flips ≠ 0) :
    Answers (.bgtStep n flips) s (fun t => t.flag F.SLC_STATUS_CELL n = true ∧ t.bgtCode n = 5 ∧
      t.fld F.SLC_CNT_CELL n = satAdd (fldMax F.SLC_CNT_CELL) (s.fld F.SLC_CNT_CELL n) 1 ∧
      t.err.onWay.length = s.err.onWay.length + 1 ∧ t.slices = s.slices) := by
  have hfault := bgtCompare_of_diff (s := s) (n := n) (w := s.fld F.SLC_BGT_CURSOR n) (step := 4) (expect := 0#320) (flips := flips)
    (by rwa [BitVec.xor_zero])
  obtain ⟨hcount, hflag, herr, hslices⟩ := cellFault_effect (s := s) n (s.fld F.SLC_BGT_CURSOR n) 4 (s.region n (s.fld F.SLC_BGT_CURSOR n) ^^^ flips ^^^ 0#320)
  rw [← hfault] at hcount hflag herr hslices
  obtain ⟨hperr, hpslices⟩ := pmonEvent_err_slices
    (s := (s.bgtCompare n (s.fld F.SLC_BGT_CURSOR n) 4 0#320 flips).setBgtCode n 5) (76 + n) 0x33 0 1 true
  refine answers_bgtStep hlive hmay hwq (by omega) (bgtStep_readZeros hcode flips) ((SliceChange.bgtCompare ..).trans (.setBgtCode ..))
    ⟨?_, ?_, ?_, ?_, ?_⟩
  · rw [flag_pmonEvent_slc (by decide) n.isLt, flag_setBgtCode (by decide), hflag]
  · exact (fld_pmonEvent_slc (f := F.SLC_STATUS_BGTSTEP) (by decide) n.isLt ..).trans (bgtCode_setBgtCode (by decide))
  · rw [fld_pmonEvent_slc (by decide) n.isLt, fld_setBgtCode (by decide), hcount]
  · rw [hperr, State.setBgtCode, setFld_err, herr]
  · rw [hpslices, State.setBgtCode, setFld_slices, hslices]

theorem answers_bgtStep_restore {flips : BitVec 320} (hlive : s.live (domSL (n.val / 4)) = true) (hmay : s.bgtMayRun n = true)
    (hwq : (s.arbs.get (512 + n.val) {}).wq = []) (hcode : s.bgtCode n = 11) : Answers (.bgtStep n flips) s (fun t =>
      (∀ j : Nat, j < 4 → t.cell n (4 * s.fld F.SLC_BGT_CURSOR n + j) = regionWord (s.slc n).hold j) ∧ t.bgtCode n = 12) := by
  refine answers_bgtStep hlive hmay hwq (by omega) (bgtStep_restore hcode flips) ((SliceChange.setRegion ..).trans (.setBgtCode ..))
    ⟨fun j hj => ?_, ?_⟩
  · rw [cell_pmonEvent, cell_setBgtCode, cell_setRegion_same (cursor_lt n) hj]
  · exact (fld_pmonEvent_slc (f := F.SLC_STATUS_BGTSTEP) (by decide) n.isLt ..).trans (bgtCode_setBgtCode (by decide))

/-- R169: no step is taken while an access waits. -/
theorem answers_bgtStep_waits {flips : BitVec 320} (hlive : s.live (domSL (n.val / 4)) = true) (hwq : (s.arbs.get (512 + n.val) {}).wq ≠ []) :
    Answers (.bgtStep n flips) s (fun t => t = s) := by
  have hrun : s.bgtRun n flips = s := if_neg (fun h => hwq h.2.2)
  exact answers_inDom (f := fun a => a.bgtRun n flips) rfl hlive (by rw [hrun]) hrun

theorem answers_bgtWaitEnd (hlive : s.live (domSL (n.val / 4)) = true) (hmay : s.bgtMayRun n = true) (hcode : s.bgtCode n = 1) :
    Answers (.bgtWaitEnd n) s (fun t => t = s.setBgtCode n 2) := by
  have hend : s.bgtWaitEnd n = s.setBgtCode n 2 := if_pos ⟨hmay, hcode⟩
  exact answers_inDom (f := fun a => a.bgtWaitEnd n) rfl hlive (by rw [hend]; exact (SliceChange.setBgtCode ..).pending) hend

/-! ### The end of a fill (R173) -/

/-- The slice is filled. -/
def State.sliceFilled (s : State) (n : Nat) : State := (s.setFld F.SLC_STATUS_FILLING 0 n).setFld F.SLC_STATUS_FILLED 1 n

theorem sliceFilled_flags (s : State) (n : Nat) :
    (s.sliceFilled n).flag F.SLC_STATUS_FILLED n = true ∧ (s.sliceFilled n).flag F.SLC_STATUS_FILLING n = false := by
  unfold State.sliceFilled
  refine ⟨flag_setFld_one (by decide) n 0 0, ?_⟩
  rw [flag_setFld_apart (by decide), flag_setFld_zero (by decide)]

theorem sliceFilled_fld {f : Fld} (hg : F.SLC_STATUS_FILLING.apart f = true) (hd : F.SLC_STATUS_FILLED.apart f = true) (n : Nat) :
    (s.sliceFilled n).fld f n = s.fld f n := (fld_setFld_apart hd 1 n).trans (fld_setFld_apart hg 0 n)

/-- A slice's status does not stand among the power registers. -/
theorem pwrOn_ne_slcStatus {m d : Nat} (hd : d < 0x800) : regAddr .PWR_ON 0 (d / 256) ≠ regAddr .SLC_STATUS m := by
  simp only [regAddr, regInst, RegId.desc, Block.place]
  omega

theorem sliceFilled_sliceOn (s : State) (n : Fin 256) : (s.sliceFilled n).sliceOn n = s.sliceOn n := by
  have hd : domSL (n.val / 4) < 0x800 := by unfold domSL; omega
  have hset (f : Fld) (hf : f.reg = .SLC_STATUS) (a : State) (v : Nat) : SameOn (· = regAddr .PWR_ON 0 (domSL (n.val / 4) / 256)) a (a.setFld f v n) :=
    .setFld (fun h => pwrOn_ne_slcStatus hd (hf ▸ h).symm) a v
  have hreg := ((hset F.SLC_STATUS_FILLING rfl s 0).trans (hset F.SLC_STATUS_FILLED rfl _ 1)).reg (r := .PWR_ON) rfl
  unfold State.sliceOn State.domOn
  rw [State.sliceFilled, hreg]

/-- R171: after a fill the test may run where the slice is on, BGTEN is set and it is not retired. -/
theorem sliceFilled_bgtMayRun (s : State) (n : Fin 256) :
    (s.sliceFilled n).bgtMayRun n = (s.sliceOn n && s.flag F.SLC_CTRL_BGTEN n && !(s.flag F.SLC_CTRL_RETIRE n)) := by
  obtain ⟨hfilled, hfilling⟩ := sliceFilled_flags s n
  have hctrl (f : Fld) (hg : F.SLC_STATUS_FILLING.apart f = true) (hd : F.SLC_STATUS_FILLED.apart f = true) : (s.sliceFilled n).flag f n = s.flag f n :=
    congrArg (· != 0) (sliceFilled_fld hg hd n)
  unfold State.bgtMayRun
  rw [hfilled, hfilling, sliceFilled_sliceOn, hctrl F.SLC_CTRL_BGTEN (by decide) (by decide), hctrl F.SLC_CTRL_RETIRE (by decide) (by decide)]
  simp

theorem endSliceFill_eq (h : s.flag F.SLC_STATUS_FILLING n = true) : s.endSliceFill n =
    if s.sliceOn n && s.flag F.SLC_CTRL_BGTEN n && !(s.flag F.SLC_CTRL_RETIRE n) && s.bgtCode n == 0 then (s.sliceFilled n).setBgtCode n 2
    else s.sliceFilled n := by
  have hcode : (s.sliceFilled n).bgtCode n = s.bgtCode n := sliceFilled_fld (f := F.SLC_STATUS_BGTSTEP) (by decide) (by decide) n
  have hon : s.endSliceFill n = (s.sliceFilled n).bgtOn n := if_pos h
  rw [hon, State.bgtOn, sliceFilled_bgtMayRun, hcode]
  simp only [Bool.and_eq_true, beq_iff_eq]

theorem endSliceFill_pending (s : State) (n : Fin 256) : (s.endSliceFill n).pending = s.pending := by
  unfold State.endSliceFill
  split
  · exact (SliceChange.bgtOn (s.sliceFilled n) n).pending
  · rfl

theorem answers_sliceFillComplete (hlive : s.live (domSL (n.val / 4)) = true) (hfilling : s.flag F.SLC_STATUS_FILLING n = true) :
    Answers (.sliceFillComplete n) s (fun t =>
      let u := (s.setFld F.SLC_STATUS_FILLING 0 n).setFld F.SLC_STATUS_FILLED 1 n
      let tests := s.sliceOn n && s.flag F.SLC_CTRL_BGTEN n && !(s.flag F.SLC_CTRL_RETIRE n) && s.bgtCode n == 0
      t = (if tests then u.setBgtCode n 2 else u) ∧ t.flag F.SLC_STATUS_FILLED n = true ∧ t.flag F.SLC_STATUS_FILLING n = false) := by
  have heq := endSliceFill_eq hfilling
  have hon : s.endSliceFill n = (s.sliceFilled n).bgtOn n := if_pos hfilling
  obtain ⟨hfilled, hended⟩ := sliceFilled_flags s n
  refine answers_inDom (f := fun a => a.endSliceFill n) rfl hlive (endSliceFill_pending s n) ⟨heq, ?_, ?_⟩
  · rw [hon, State.flag, bgtOn_fld (by decide)]; exact hfilled
  · rw [hon, State.flag, bgtOn_fld (by decide)]; exact hended

theorem answers_sliceFillComplete_none (hlive : s.live (domSL (n.val / 4)) = true) (hfilling : s.flag F.SLC_STATUS_FILLING n = false) :
    Answers (.sliceFillComplete n) s (fun t => t = s) := by
  have heq : s.endSliceFill n = s := if_neg (by simp [hfilling])
  exact answers_inDom (f := fun a => a.endSliceFill n) rfl hlive (endSliceFill_pending s n) heq

/-! ### Fill and retirement (R172 to R175) -/

theorem exec_sliceFill (h : s.ReachesReg mid .SLC_CTRL n true) :
    exec (.sliceFill mid n) s = .next ((s.writeSlcCtrl n (s.withFld F.SLC_CTRL_FILL 1 n)).noteRsp mid .ok []) :=
  exec_of_regWrite (c := .sliceFill mid n) rfl h rfl (SliceChange.writeSlcCtrl ..).pending

theorem exec_sliceRetire (h : s.ReachesReg mid .SLC_CTRL n true) (on : Bool) :
    exec (.sliceRetire mid n on) s = .next ((s.writeSlcCtrl n (s.withFld F.SLC_CTRL_RETIRE (bit on) n)).noteRsp mid .ok []) :=
  exec_of_regWrite (c := .sliceRetire mid n on) rfl h rfl (SliceChange.writeSlcCtrl ..).pending

section
variable {m : Nat} {v : Word}

theorem slcPlain_filling : (s.slcPlain m v).flag F.SLC_STATUS_FILLING m = s.flag F.SLC_STATUS_FILLING m :=
  congrArg (· != 0) (slcPlain_fld (by decide) (by decide) v)

theorem slcPlain_engineQuiet : (s.slcPlain m v).engineQuiet m = s.engineQuiet m := (SliceChange.slcPlain s m v).engineQuiet m

theorem slcPlain_retire : (s.slcPlain m v).fld F.SLC_CTRL_RETIRE m = s.fld F.SLC_CTRL_RETIRE m :=
  slcPlain_fld (by decide) (by decide) v

end

/-- A write of FILL alone retires nothing: it fills, or is refused. -/
theorem writeSlcCtrl_fill (s : State) (n : Nat) : s.writeSlcCtrl n (s.withFld F.SLC_CTRL_FILL 1 n) =
    ((s.slcPlain n (s.withFld F.SLC_CTRL_FILL 1 n)).slcFill n).slcTest n := by
  have hfill : fldOf F.SLC_CTRL_FILL (s.withFld F.SLC_CTRL_FILL 1 n) = 1 := fldOf_withFld (by decide) (by decide)
  have hretire : fldOf F.SLC_CTRL_RETIRE (s.withFld F.SLC_CTRL_FILL 1 n) = s.fld F.SLC_CTRL_RETIRE n :=
    fldOf_withFld_apart (f := F.SLC_CTRL_FILL) (g := F.SLC_CTRL_RETIRE) rfl (by decide) (by decide) 1
  have hkept (v : Word) : (s.slcPlain n v).slcRetire n (s.fld F.SLC_CTRL_RETIRE n) = s.slcPlain n v :=
    if_pos slcPlain_retire.symm
  rw [writeSlcCtrl_eq, hfill, hretire, hkept, if_pos rfl]

theorem slcFill_fills {m : Nat} (hq : s.engineQuiet m = true) (hf : s.flag F.SLC_STATUS_FILLING m = false) : s.slcFill m = s.startSliceFill m :=
  if_pos (by simp [hq, hf])

theorem slcFill_refused {m : Nat} (h : s.engineQuiet m = false ∨ s.flag F.SLC_STATUS_FILLING m = true) : s.slcFill m = s.raise F.SLC_STATUS_CFGERR m :=
  if_neg (by rcases h with h | h <;> simp [h])

/-- R173: port B answers no access of a slice that is filled. -/
theorem sliceBlock_of_filling {m : Nat} (h : s.flag F.SLC_STATUS_FILLING m = true) : s.sliceBlock m ≠ none := by
  unfold State.sliceBlock
  rw [if_pos h]
  split <;> exact Option.some_ne_none _

/-- What a slice in its fill shows (R172, R173), where state s was before. -/
def SliceFilling (n : Nat) (s t : State) : Prop :=
  (∀ j : Nat, j < 131072 → t.cell n j = 0) ∧ (∀ m j : Nat, m ≠ n → j < 131072 → t.cell m j = s.cell m j) ∧
  t.flag F.SLC_STATUS_FILLING n = true ∧ t.flag F.SLC_STATUS_FILLED n = false ∧ t.sliceBlock n ≠ none

theorem SliceFilling.noteRsp {m : Nat} {t : State} (h : SliceFilling m s t) (st : Status) (ws : List (Word × Bool)) :
    SliceFilling m s (t.noteRsp mid st ws) := h

/-- A fill that starts, and the test's stop behind it. -/
theorem sliceFilling_of_start (s : State) (m : Nat) : SliceFilling m s ((s.startSliceFill m).slcTest m) := by
  obtain ⟨hfilling, hfilled, hcode⟩ := startSliceFill_flags s m
  have hcell := slcTest_cell_of_filling hfilled hcode
  have hflag : ((s.startSliceFill m).slcTest m).flag F.SLC_STATUS_FILLING m = true := (slcTest_flag (by decide)).trans hfilling
  refine ⟨fun j hj => ?_, fun k j hk hj => ?_, hflag, (slcTest_flag (by decide)).trans hfilled, sliceBlock_of_filling hflag⟩
  · rw [hcell, startSliceFill_cell _ _ _ _ hj, if_pos rfl]
  · rw [hcell, startSliceFill_cell _ _ _ _ hj, if_neg hk]

theorem answers_sliceFill (hreach : s.ReachesReg mid .SLC_CTRL n true) (hq : s.engineQuiet n = true)
    (hf : s.flag F.SLC_STATUS_FILLING n = false) : Answers (.sliceFill mid n) s (SliceFilling n s) := by
  refine ⟨_, exec_sliceFill hreach, ?_⟩
  rw [writeSlcCtrl_fill, slcFill_fills (slcPlain_engineQuiet.trans hq) (slcPlain_filling.trans hf)]
  exact (sliceFilling_of_start (s.slcPlain n _) n).noteRsp .ok []

theorem answers_sliceFill_refused (hreach : s.ReachesReg mid .SLC_CTRL n true)
    (h : s.engineQuiet n = false ∨ s.flag F.SLC_STATUS_FILLING n = true) :
    Answers (.sliceFill mid n) s (fun t => t.flag F.SLC_STATUS_CFGERR n = true) := by
  refine ⟨_, exec_sliceFill hreach, (noteRsp_flag ..).trans ?_⟩
  rw [writeSlcCtrl_fill, slcFill_refused (by rwa [slcPlain_engineQuiet, slcPlain_filling]), slcTest_flag (by decide)]
  exact flag_setFld_one (by decide) n 0 0

/-- Neither a fill nor its refusal writes RETIRE. -/
theorem slcFill_retire (s : State) (m : Nat) : (s.slcFill m).fld F.SLC_CTRL_RETIRE m = s.fld F.SLC_CTRL_RETIRE m := by
  unfold State.slcFill
  split
  · exact startSliceFill_ctrl (by decide) (by decide) (by decide) (by decide)
  · exact fld_setFld_apart (by decide) 1 m

/-- R175: after the write RETIRE reads as the retirement's part leaves it. -/
theorem writeSlcCtrl_retire (s : State) (m : Nat) (v : Word) : (s.writeSlcCtrl m v).fld F.SLC_CTRL_RETIRE m =
    ((s.slcPlain m v).slcRetire m (fldOf F.SLC_CTRL_RETIRE v)).fld F.SLC_CTRL_RETIRE m := by
  rw [writeSlcCtrl_eq, slcTest_fld (by decide)]
  split
  · exact slcFill_retire ..
  · rfl

/-- With the engine quiet RETIRE takes the value written. -/
theorem slcRetire_quiet {m r : Nat} (hq : s.engineQuiet m = true) (hr : r ≤ fldMax F.SLC_CTRL_RETIRE) :
    (s.slcRetire m r).fld F.SLC_CTRL_RETIRE m = r := by
  unfold State.slcRetire
  by_cases h : r = s.fld F.SLC_CTRL_RETIRE m
  · rw [if_pos h]; exact h.symm
  · rw [if_neg h, if_pos hq, fld_setFld_fits (by decide) hr]

/-- R175: with the engine running a change of RETIRE is refused. -/
theorem slcRetire_refused {m r : Nat} (hq : s.engineQuiet m = false) (hr : r ≠ s.fld F.SLC_CTRL_RETIRE m) :
    s.slcRetire m r = s.raise F.SLC_STATUS_CFGERR m := by
  unfold State.slcRetire
  rw [if_neg hr, if_neg (by simp [hq])]

/-- A fill beside it is refused too: CFGERR stands. -/
theorem slcFill_cfgerr {m : Nat} (hq : s.engineQuiet m = false) : (s.slcFill m).flag F.SLC_STATUS_CFGERR m = true := by
  rw [slcFill_refused (.inl hq)]
  exact flag_setFld_one (by decide) m 0 0

theorem bit_le (on : Bool) : bit on ≤ fldMax F.SLC_CTRL_RETIRE := by cases on <;> decide

theorem retireOf_withFld (on : Bool) : fldOf F.SLC_CTRL_RETIRE (s.withFld F.SLC_CTRL_RETIRE (bit on) n) = bit on :=
  fldOf_withFld (by decide) (bit_le on)

theorem flag_of_fld_bit {f : Fld} {m : Nat} {on : Bool} (h : s.fld f m = bit on) : s.flag f m = on := by
  rw [State.flag, h]
  cases on <;> rfl

theorem answers_sliceRetire (hreach : s.ReachesReg mid .SLC_CTRL n true) (on : Bool) (hq : s.engineQuiet n = true) :
    Answers (.sliceRetire mid n on) s (fun t => t.flag F.SLC_CTRL_RETIRE n = on) := by
  refine ⟨_, exec_sliceRetire hreach on, (noteRsp_flag ..).trans (flag_of_fld_bit ?_)⟩
  rw [writeSlcCtrl_retire, retireOf_withFld, slcRetire_quiet (slcPlain_engineQuiet.trans hq) (bit_le on)]

/-- R175: the whole write with a change of RETIRE that is refused. -/
theorem writeSlcCtrl_retire_refused {m : Nat} {v : Word} (hq : s.engineQuiet m = false) (hne : fldOf F.SLC_CTRL_RETIRE v ≠ s.fld F.SLC_CTRL_RETIRE m) :
    (s.writeSlcCtrl m v).flag F.SLC_STATUS_CFGERR m = true ∧ (s.writeSlcCtrl m v).fld F.SLC_CTRL_RETIRE m = s.fld F.SLC_CTRL_RETIRE m := by
  have hquiet : (s.slcPlain m v).engineQuiet m = false := slcPlain_engineQuiet.trans hq
  have hchange : fldOf F.SLC_CTRL_RETIRE v ≠ (s.slcPlain m v).fld F.SLC_CTRL_RETIRE m := by rwa [slcPlain_retire]
  have hrefused := slcRetire_refused hquiet hchange
  have hraised : ((s.slcPlain m v).raise F.SLC_STATUS_CFGERR m).flag F.SLC_STATUS_CFGERR m = true := flag_setFld_one (by decide) m 0 0
  refine ⟨?_, ?_⟩
  · rw [writeSlcCtrl_eq, slcTest_flag (by decide), hrefused]
    split
    · exact slcFill_cfgerr hquiet
    · exact hraised
  · rw [writeSlcCtrl_retire, hrefused, State.raise, fld_setFld_apart (by decide), slcPlain_retire]

theorem answers_sliceRetire_refused (hreach : s.ReachesReg mid .SLC_CTRL n true) (on : Bool) (hq : s.engineQuiet n = false)
    (hon : s.flag F.SLC_CTRL_RETIRE n ≠ on) : Answers (.sliceRetire mid n on) s (fun t =>
      t.flag F.SLC_STATUS_CFGERR n = true ∧ t.flag F.SLC_CTRL_RETIRE n = s.flag F.SLC_CTRL_RETIRE n) := by
  have hne : fldOf F.SLC_CTRL_RETIRE (s.withFld F.SLC_CTRL_RETIRE (bit on) n) ≠ s.fld F.SLC_CTRL_RETIRE n := by
    rw [retireOf_withFld]
    exact fun h => hon (flag_of_fld_bit h.symm)
  obtain ⟨herr, hretire⟩ := writeSlcCtrl_retire_refused hq hne
  exact ⟨_, exec_sliceRetire hreach on, (noteRsp_flag ..).trans herr, (noteRsp_flag ..).trans (congrArg (· != 0) hretire)⟩

/-! ### The secure bank's wipe (R178) -/

theorem answers_sbkWipe (hreach : s.ReachesReg mid .SBK_CTRL 0 true) (hw : s.flag F.SBK_STATUS_WIPING = false) :
    Answers (.sbkWipe mid) s (BankWiped 4) := by
  obtain ⟨hwiped, hpending⟩ := bankWipe_wiped (s := s.flushLog) (cause := 4) hw (by decide)
  exact ⟨_, exec_of_regWrite (c := .sbkWipe mid) (v := 1) rfl hreach rfl hpending, hwiped.noteRsp mid .ok []⟩

theorem answers_sbkWipeComplete (hw : s.flag F.SBK_STATUS_WIPING = true) (hr : s.smp.reload = false) : Answers .sbkWipeComplete s (fun t =>
    t.bankReady = true ∧ t.flag F.SBK_STATUS_WIPING = false ∧ t.log.late = [] ∧
    (s.log.late = [] → t = (s.setFld F.SBK_STATUS_WIPING 0).setFld F.SBK_STATUS_READY 1)) := by
  have hkept := logLate_kept s.wipeEnded
  simp only [Prod.mk.injEq] at hkept
  obtain ⟨hregs, hwork, hsmp, hpending, hlate⟩ := hkept
  obtain ⟨hready, hwiping⟩ := wipeEnded_status s
  have hflag := flag_of_regs hregs hwork
  refine answers_keep (t := s.wipeEnded.logLate) ?_ hpending
    ⟨(hflag F.SBK_STATUS_READY 0).trans hready, ?_, hlate, fun hnone => logLate_of_none hnone⟩
  · rw [← bankWipeComplete_eq hw ((congrArg Smp.reload hsmp).trans hr)]
    rfl
  · exact (hflag F.SBK_STATUS_WIPING 0).trans hwiping

/-- Settles O33: the test's steps by the step code (bgtStep_zeros, bgtStep_readZeros, bgtStep_restore), a write of SLC_CTRL by its parts
(writeSlcCtrl_eq), and the bank's wipe by its own (bankWipe_eq). -/
theorem slicesAreTestedFilledAndRetired : Obligations.SlicesAreTestedFilledAndRetired := by
  intro s
  refine ⟨fun n hlive => ⟨?_, ?_, ?_, ?_, ?_, ?_, ?_⟩, fun mid n hreach => ⟨?_, ?_, ?_, ?_⟩, fun mid => answers_sbkWipe, answers_sbkWipeComplete⟩
  · exact answers_bgtWaitEnd hlive
  · exact fun flips => answers_bgtStep_zeros hlive
  · exact fun flips => answers_bgtStep_fault hlive
  · exact fun flips => answers_bgtStep_restore hlive
  · exact fun flips => answers_bgtStep_waits hlive
  · exact answers_sliceFillComplete hlive
  · exact answers_sliceFillComplete_none hlive
  · exact answers_sliceFill hreach
  · exact answers_sliceFill_refused hreach
  · exact answers_sliceRetire hreach
  · exact answers_sliceRetire_refused hreach

end Sys2Proof.Machine
end
